-- ==== Sys2Proof/Word.lean ====
section
/-!
DEFINITION. The word types of the T840: the 32-bit word of a loop engine, of a register and of a table entry; the byte.
-/
namespace Sys2Proof

/-- A 32-bit word: a loop-engine register, an instruction word, a shared-memory word (R130). -/
abbrev Word := BitVec 32

/-- A byte. -/
abbrev Byte := BitVec 8

end Sys2Proof
end

