-- ==== Sys2Proof/Machine/Regs.lean ====
section
/-!
DEFINITION. The registers of the T840 by name, their fields' shape and their numbers of instances, as the register tables of
the spec give them (every table headed by a register of chapters 03 to 21, and the registers a chapter gives in prose).
The offset of a register plays no part: a command names the register (log entry 3).
-/
namespace Sys2Proof.Machine

/-- The T840's registers, by the spec's names (a register the spec numbers, such as `SETT_BINDk`, is one name here). -/
inductive Reg where
  | RST_CAUSE | SNS_DIETEMP | SNS_CHCFG | SNS_CHSTAT | SNS_CHSCALE | SNS_CHSAMP
  | SNS_WCTL | SNS_WTHHI | SNS_WTHLO | SNS_WSTAT | SNS_CALCTL | SNS_CALSTAT
  | SNS_MTR_CFG | SNS_MTR_STAT | SNS_MTR_P | SNS_MTR_PAVG | SNS_MTR_EF | SNS_MTR_ER
  | SETT_CTL | SETT_STAT | SETT_ENG_CTL | SETT_ENG_STAT | SETT_ENG_CYC | SETT_ENG_OVR
  | SETT_BIND | SETT_MIGCMD | RFX_TERM01 | RFX_ACT | RFX_ENMASK | RFX_STAT
  | SETT_MIGSTAT | RFX_TERM23 | RFX_SUM | SETT_MBXHEAD | SETT_MBXVAL | SETT_MBXCTL
  | ZIT_EW0 | ZIT_EW1 | ZIT_EW2 | ZIT_EW3 | ZIT_ESTAT | ZIT_GCTL
  | ZIT_GCMD | ZIT_GSTAT | ZIT_STAT | ZIT_CTL | ZIT_GTICK | FEED_CTL
  | FEED_INRUSH | FEED_TIMING | FEED_REMOVE | FEED_CMD | FEED_STAT | FEED_EFET
  | FEED_WTHHI | FEED_WTHLO | FEED_WCTL | HARP_WCTL | HARP_WSTAT | HARP_WUPS
  | HARP_AVSCFG | HARP_AVSSTAT | HARP_WRES | HARP_GCTL | HARP_GSTAT | MRT_TCTL
  | MRT_TSTAT | MRT_TCLS | MRT_TMISS | MRT_TECC | MRT_TERRA | MRT_GSTAT
  | MRT_TUTIL | MRT_CHK | MRT_OFFER | MRT_ISTAT | MRT_IDROP | MRT_JSTAT
  | FAN_OCFG | FAN_OLIM | FAN_OSTAT | FAN_ZCTL | FAN_ZSTAT | FAN_ZPT
  | FAN_DUTY | FAN_ZIN | FAN_FCFG | FAN_FSTAT | FAN_VLV | FAN_CMD
  | FAN_GCTL | FAN_CRIT | LEAK_RSTAT | WPORT_CTL | WPORT_STAT | WPORT_TMO
  | WPORT_ERR | WPORT_LSCFG | WPORT_LSSTAT | WPORT_FECCOR | WPORT_FECUNC | WPORT_TLAT
  | WPORT_LSCMD | DEV_ID | STEP_ID | CAP0 | CAP1 | DEV_STAT
  | INT_CAUSE | RING_CTL | RING_STAT | IF_VER | FW_BUILD | HDM_WCTL
  | HDM_ERR | INT_MASK | INT_VEC | RING_COAL | SQ_BASE | CQ_BASE
  | SQ_HEAD | CQ_TAIL | RING_ERR | DB_SQ | DB_CQ | REC_CTL
  | REC_STAT | MEM_SCRUB | MEM_ECC | REC_TTICK | REC_MISSED | MEM_UNCA
  | SEC_BOOT | SEC_SLOTA | SEC_FUSE | SEC_LOCK | SEC_SLOTB | SEC_CHAL
  | SEC_DIEID | SEC_UPD | SEC_ACTTICK | SEC_SETSEQ | BRW_STAT | BRW_LOST
  | BRW_FSEQ | BRW_MSEQ | BRW_COALF | BRW_COALM | TWIN_CTL | TWIN_STAT
  | TWIN_OFFSET | TWIN_SKEW
deriving DecidableEq, Repr

/-- The access codes of the Conventions in 00. -/
inductive Acc where
  | ro | rw | rwl | w1c | w1s | wo
deriving DecidableEq, Repr

/-- One field of a register: its register, a number of its own, its bits, access, reset value, stated range (R9), and
the instances whose reset value differs. -/
structure Fld where
  reg : Reg
  code : Nat
  hi : Nat
  lo : Nat
  acc : Acc
  dflt : Nat
  min : Nat := 0
  max : Nat := 18446744073709551615
  alt : List (Nat × Nat) := []
deriving DecidableEq, Repr

/-- The width of a field in bits. -/
def Fld.width (f : Fld) : Nat := f.hi - f.lo + 1

/-- The reset value of a field in instance `i` of its register. -/
def Fld.dfltAt (f : Fld) (i : Nat) : Nat :=
  match f.alt.find? (fun e => e.1 == i) with
  | some e => e.2
  | none => f.dflt

/-- The number under which the register bank holds instance `i` of a field. -/
def Fld.key (f : Fld) (i : Nat) : Nat := i * 16384 + f.code

/-- How many instances of a register the T840 has. -/
def Reg.count : Reg → Nat
  | .SNS_DIETEMP => 8
  | .SNS_CHCFG => 304
  | .SNS_CHSTAT => 304
  | .SNS_CHSCALE => 304
  | .SNS_CHSAMP => 304
  | .SNS_WCTL => 608
  | .SNS_WTHHI => 608
  | .SNS_WTHLO => 608
  | .SNS_WSTAT => 608
  | .SNS_MTR_CFG => 64
  | .SNS_MTR_STAT => 64
  | .SNS_MTR_P => 64
  | .SNS_MTR_PAVG => 64
  | .SNS_MTR_EF => 64
  | .SNS_MTR_ER => 64
  | .SETT_CTL => 40
  | .SETT_STAT => 40
  | .SETT_ENG_CTL => 1280
  | .SETT_ENG_STAT => 1280
  | .SETT_ENG_CYC => 1280
  | .SETT_ENG_OVR => 1280
  | .SETT_BIND => 20480
  | .RFX_TERM01 => 512
  | .RFX_ACT => 512
  | .RFX_ENMASK => 512
  | .RFX_STAT => 512
  | .RFX_TERM23 => 512
  | .ZIT_EW0 => 256
  | .ZIT_EW1 => 256
  | .ZIT_EW2 => 256
  | .ZIT_EW3 => 256
  | .ZIT_ESTAT => 256
  | .ZIT_GCTL => 16
  | .ZIT_GCMD => 16
  | .ZIT_GSTAT => 16
  | .ZIT_GTICK => 16
  | .FEED_WTHHI => 10
  | .FEED_WTHLO => 10
  | .FEED_WCTL => 10
  | .HARP_WCTL => 8
  | .HARP_WSTAT => 8
  | .HARP_WUPS => 8
  | .HARP_AVSCFG => 8
  | .HARP_AVSSTAT => 8
  | .HARP_WRES => 24
  | .MRT_TCTL => 4
  | .MRT_TSTAT => 4
  | .MRT_TCLS => 12
  | .MRT_TMISS => 12
  | .MRT_TECC => 4
  | .MRT_TERRA => 4
  | .MRT_TUTIL => 4
  | .MRT_CHK => 4
  | .MRT_OFFER => 8
  | .MRT_IDROP => 304
  | .MRT_JSTAT => 256
  | .FAN_OCFG => 20
  | .FAN_OLIM => 20
  | .FAN_OSTAT => 20
  | .FAN_ZCTL => 4
  | .FAN_ZSTAT => 4
  | .FAN_ZPT => 32
  | .FAN_DUTY => 20
  | .FAN_ZIN => 4
  | .FAN_FCFG => 8
  | .FAN_FSTAT => 8
  | .LEAK_RSTAT => 16
  | .WPORT_CTL => 8
  | .WPORT_STAT => 8
  | .WPORT_TMO => 8
  | .WPORT_ERR => 8
  | .WPORT_LSCFG => 18
  | .WPORT_LSSTAT => 18
  | .WPORT_FECCOR => 8
  | .WPORT_FECUNC => 8
  | .WPORT_TLAT => 8
  | .RING_CTL => 32
  | .RING_STAT => 32
  | .RING_COAL => 32
  | .SQ_BASE => 32
  | .CQ_BASE => 32
  | .SQ_HEAD => 32
  | .CQ_TAIL => 32
  | .RING_ERR => 32
  | .DB_SQ => 32
  | .DB_CQ => 32
  | .MEM_ECC => 8
  | .SEC_CHAL => 4
  | .SEC_DIEID => 4
  | _ => 1

end Sys2Proof.Machine
end

