-- ==== Sys2Proof/Syntax.lean ====
section
/-!
DEFINITION. The commands of the T840: one constructor per row of the opcode table, with the row's operands, and the operand types
that are more than an index, a flag or a bit vector.
-/
namespace Sys2Proof

/-- An operand of a tick boundary: a bit upset that shows itself as a parity or word-code error (R111, R148). -/
inductive Upset where
  /-- a word of an engine's instruction memory -/
  | imem (engine : Fin 1280) (word : BitVec 10)
  /-- a parity unit of an engine: registers 1 to 15, flags 16, timers 17 to 20, output queue 21 -/
  | unit (engine : Fin 1280) (k : Fin 22)
  /-- bad bits of a word of the word code in sett shared memory, by sett and number (R421) -/
  | shared (sett : Fin 40) (word : BitVec 12) (bad : BitVec 280)
  /-- a word read in the CXL ring buffers, which belongs to the descriptor fetched from a slot of a pair -/
  | ringBuffer (pair : Fin 32) (slot : BitVec 12) (bad : BitVec 280)
  /-- a word read in the mailbox, which belongs to an entry, 0 the oldest -/
  | mailbox (entry : Fin 256) (bad : BitVec 280)
deriving DecidableEq, Repr

/-- A bit upset in a Marten tile: bad bits of a word of the word code, 256 data bits below 24 check bits (R226; SRAM words from
0, the operand
buffer from 262,144, job and stream tables from 270,336), or a parity error of a row of weight registers or of an accumulator (R227). -/
inductive TileUpset where
  | word (w : BitVec 19) (bad : BitVec 280)
  | weights (bank : Bool) (row : Fin 32)
  | accumulator (k : Fin 1024)
deriving DecidableEq, Repr

/-- What a front-end delivers at an aperture (Table 4-2): a word in its range, an input above or below its range, or, of a
remote diode, both
pins at AGND (R48). -/
inductive SampleRead where
  | code (w : BitVec 16)
  | above
  | below
  | absent
deriving DecidableEq, Repr

/-- What tray firmware has done since the last tray-tick boundary that has no command of its own: a refresh of the watchdog with
the period in
µs that stands from it (R59), the application cores parked, bit i for core i, the PMBus (bits 0 and 1) and board I3C masters (bits 2 to 5)
enabled (Table 3-8), and the queued edges it has taken (R91). -/
structure FirmwareActs where
  watchdog : Option (BitVec 24)
  parked : Option (BitVec 4)
  masters : Option (BitVec 6)
  edges : BitVec 16
deriving DecidableEq, Repr

/-- What a sensor of the critical pair reads (R298, R299): a temperature in 1/128 °C, open, short, or both pins at AGND. -/
inductive CritRead where
  | temp (t : BitVec 16)
  | opened
  | shorted
  | grounded
deriving DecidableEq, Repr

/-- A descriptor as fetched (Table 16-11); `params` are bytes 0x2C to 0x3F, the byte at 0x2C in the low bits. -/
structure Desc where
  opcode : BitVec 16
  flags : BitVec 8
  ringTag : BitVec 8
  cookie : BitVec 32
  addr0 : BitVec 64
  addr1 : BitVec 64
  addr2 : BitVec 64
  len0 : BitVec 32
  len1 : BitVec 32
  len2 : BitVec 32
  params : BitVec 160
deriving DecidableEq, Repr

/-- Who gives a command that a descriptor may carry: tray firmware, or the descriptor fetched from a slot of a pair's submission
ring. -/
inductive Via where
  | firmware
  | ring (pair : Fin 32) (slot : BitVec 12)
deriving DecidableEq, Repr

/-- The envelope of a frame as received (R317): `good` is the outcome of the checks its other fields do not show (CRC, type,
reserved bits),
`length` bits 15 to 0 of word 0, `isSealed` bit 27. -/
structure FrameHead where
  good : Bool
  length : BitVec 16
  isSealed : Bool
deriving DecidableEq, Repr

/-- A RSP frame (R319); `sealOk` tells whether the tag of a sealed frame passes. -/
structure RspFrame where
  tag : BitVec 8
  status : BitVec 8
  count : BitVec 8
  addr : BitVec 48
  data : List (BitVec 32)
  head : FrameHead
  sealOk : Bool
deriving DecidableEq, Repr

/-- The ways a lane fails (R307). -/
inductive LaneCause where
  | noLight | lockLost | uncorrectable
deriving DecidableEq, Repr

/-- A SEC frame of the ward (R329): its envelope; message number, fragment index, last; and, once the message is whole, the outcome
of verifying the certificate and the ward's signatures, and the die_id of the certificate. -/
structure SecFrame where
  head : FrameHead
  message : BitVec 8
  fragment : BitVec 8
  last : Bool
  certOk : Bool
  sigOk : Bool
  die : BitVec 128
deriving DecidableEq, Repr

/-- What the poll of a laser source reads (R312): LS_PMEAS, LS_STAT and LS_TEMP. -/
structure LaserRead where
  pmeas : BitVec 16
  stat : BitVec 4
  temp : BitVec 16
deriving DecidableEq, Repr

/-- What the checks of an image in flash find besides its header (R432): its bytes read, the signatures verify, the body hashes
to its digest. -/
structure ImageCheck where
  readable : Bool
  sigOk : Bool
  bodyOk : Bool
deriving DecidableEq, Repr

/-- Signed bytes as little-endian words, and whether both signatures over them verify against the key slot that they name. -/
structure Signed where
  words : List (BitVec 32)
  sigOk : Bool
deriving DecidableEq, Repr

/-- The fields of an image header that parses (Table 18-2), and the SHA-384 of its first 256 bytes. -/
structure Header where
  keySlot : Fin 4
  svn : BitVec 8
  build : BitVec 32
  commitSeq : BitVec 32
  bodyLen : BitVec 32
  entry : BitVec 32
  steppings : List (BitVec 32)
  manifest : BitVec 384
  digest : BitVec 384
deriving DecidableEq, Repr

/-- A set-manifest entry (Table 19-2). -/
structure Entry where
  type : BitVec 8
  carried : Bool
  wardType : BitVec 32
  version : BitVec 32
  length : BitVec 32
  digest : BitVec 384
  steppings : List (BitVec 32)
  ranges : List (BitVec 32 × BitVec 32)
deriving DecidableEq, Repr

/-- A signed set manifest (Table 19-1) with its hash; `sigOk` is whether both signatures verify. -/
structure Manifest where
  keySlot : Fin 4
  setSeq : BitVec 32
  entries : List Entry
  hash : BitVec 384
  sigOk : Bool
deriving DecidableEq, Repr

/-- What a tray descriptor declares of a ward (Table 14-2, Table 1-4). `topology` is bytes 0 to 23 of Table 14-8, byte 0 in the
low bits. -/
structure TrayWard where
  ward : Fin 8
  wardType : BitVec 32
  autoUp : Bool
  retries : BitVec 8
  linkMs : BitVec 16
  idMs : BitVec 16
  testMs : BitVec 16
  mapMs : BitVec 16
  trainMs : BitVec 16
  discMs : BitVec 16
  licMs : BitVec 16
  bootMs : BitVec 16
  readyMs : BitVec 16
  topology : BitVec 192
  cores : BitVec 16
  partitions : BitVec 16
  partCores : BitVec 8
  uncore : BitVec 8
  memStacks : BitVec 8
  peak : BitVec 16
  power : BitVec 16
  /-- the governor's powers in W and its nominal core voltage in V, Q16.16 (Table 9-6) -/
  pTrim : BitVec 32 := 0
  pDeep : BitVec 32 := 0
  pRel : BitVec 32 := 0
  vNom : BitVec 32 := 0
deriving DecidableEq, Repr

/-- What a program of a sett program pack does where the spec says it: the ward and the tray governor (R210, R213) and the
branch object (R293).
-/
inductive ProgRole where
  | other | wardGovernor | trayGovernor | branch
deriving DecidableEq, Repr

/-- A program of a sett program pack: its prog_id and prog_ver (Table 6-12) and what it does. -/
structure PackProgram where
  id : BitVec 16
  ver : BitVec 16
  role : ProgRole := .other
deriving DecidableEq, Repr

/-- What a tray descriptor declares of a branch with a leak object (Table 12-4): the roles of its ten rope slots, two bits each,
and the wards of slots
1 to 4, four bits each, 0xF for none. -/
structure TrayBranch where
  branch : Fin 16
  roles : BitVec 20
  wards : BitVec 16
deriving DecidableEq, Repr

/-- The contents of a component as far as the T840 acts on them (Table 19-3), with little-endian words: of an image its header,
of a model pack all of
it and whether its SHA-384 is that of its header, of a pattern set its first 64 bytes. -/
inductive Content where
  | image (header : List (BitVec 32)) (c : ImageCheck)
  | programs (pack : BitVec 16) (list : List PackProgram)
  | models (words : List (BitVec 32)) (digestOk : Bool)
  | zither
  | tray (wards : List TrayWard) (staggerMs : BitVec 16) (testTray : Bool) (branches : List TrayBranch)
  | ward (wardType : BitVec 32) (steppings : List (BitVec 32)) (baseMin : BitVec 16)
  | patterns (head : List (BitVec 32))
deriving DecidableEq, Repr

/-- A staged component: its bytes' number and SHA-384 as programmed, and its contents. -/
structure Component where
  length : BitVec 32
  digest : BitVec 384
  content : Content
deriving DecidableEq, Repr

/-- A licence (Table 15-4) as 876 words (its 3,501 bytes and three zero bytes), and whether both signatures verify against its
key slot. -/
structure Licence where
  words : List (BitVec 32)
  sigOk : Bool
deriving DecidableEq, Repr

/-- The last fields of a twin HELLO (Table 21-2) and of this T840's own record that arbitration compares. -/
structure TwinPeer where
  strapLead : Bool
  actsLead : Bool
  die : BitVec 128
  setSeq : BitVec 32
  driven : Bool
  down : Bool
deriving DecidableEq, Repr

/-- A state change that one T840 sends the other (R492). -/
inductive TwinCmd where
  | group (g : Fin 16) (up : Bool) (start : BitVec 64)
  | abort (g : Fin 16) (cause : BitVec 4) (entry : BitVec 8)
  | trip (cause : BitVec 4) (retry : BitVec 8)
  | insertion (state : BitVec 3)
  | ward (w : Fin 8) (state : BitVec 4) (attempts : BitVec 8)
  | floor (w : Fin 8) (code : BitVec 2)
  | arm (active setSeq : BitVec 32) (tick : BitVec 64) (full : Bool)
  | cancel
  | handover
deriving DecidableEq, Repr

/-- A group's run as a lead shows it at a join (R485): its state, common start, all-good tick, dwell end and abort cause. -/
structure TwinGroup where
  state : BitVec 3
  start : BitVec 64
  done : Option (BitVec 64)
  dwellEnd : BitVec 64
  cause : BitVec 4
deriving DecidableEq, Repr

/-- An entry of a run as a lead shows it at a join: its phase, whether the sequencer drives the EN on, whether it is good, and
the ticks
of its EN and of its first good. -/
structure TwinEntry where
  phase : Fin 5
  on : Bool
  good : Bool
  onAt : BitVec 64
  goodAt : BitVec 64
deriving DecidableEq, Repr

/-- What a joining shadow adopts (R485): groups and entries by number, insertion state and retry count. -/
structure TwinAdopt where
  groups : List (Fin 16 × TwinGroup)
  entries : List (Fin 256 × TwinEntry)
  ins : BitVec 3
  retry : BitVec 8
deriving DecidableEq, Repr

/-- An object's checkpoint (R491): object, tick of the yield, g1 to g15, flags Z N Q QS, timers, consec, and the 512 words of
its private
area. -/
structure Checkpoint where
  obj : BitVec 11
  tick : BitVec 64
  regs : List (BitVec 32)
  flags : BitVec 4
  timers : List (BitVec 32)
  consec : Fin 4
  priv : List (BitVec 32)
deriving DecidableEq, Repr

/-- FEC codewords of a ward port since the last tray-tick boundary (R332): corrected, uncorrectable. -/
structure FecCount where
  port : Fin 8
  lane : Fin 2
  corrected : BitVec 16
  uncorrectable : BitVec 16
deriving DecidableEq, Repr

/-- What the boot sequencer finds of the Cub (R429). -/
inductive CubCheck where
  | matched | digest | unreadable
deriving DecidableEq, Repr

/-- The access to host memory that fails (R401): a descriptor's fetch, or a read or write of the buffer of the descriptor
fetched from a slot. -/
inductive DmaAccess where
  | fetch
  | read (slot : BitVec 12)
  | write (slot : BitVec 12)
deriving DecidableEq, Repr

/-- What the scrub of a flash sector finds (R423, R425): the corrected bits, or a sector that does not read. -/
inductive FlashRead where
  | corrected (bits : BitVec 8)
  | uncorrectable
deriving DecidableEq, Repr

/-- A command: a write or read of a register, a bus or link frame, a pin event, an instant that falls due, an instruction of a loop
engine. -/
inductive Instr where
  /-- PORST_ASSERT (R55): PORST# held low for at least 2 µs starts a power-on reset that clears every domain, lock and the tray
  tick. -/
  | porstAssert (short : Bool)
  /-- PORST_RELEASE (R68): release of PORST# samples the straps, sets outputs to their after-release states and starts the own
  power-up stages. -/
  | porstRelease (tcrit : BitVec 3) (tchan twinRole : BitVec 2) (bootHold : Bool) (fandef : BitVec 2) (xspiMode testen : Bool)
  /-- STAGE_2_START (R429): after stage 1 completes, the island powers the flash and security domains, checks the Cub digest and
  starts the Cub; meters, op_seconds and the burrow scan are restored. -/
  | stage2Start (cub : CubCheck)
  /-- BURROW_REPLAY (R194): completion of the post-reset burrow read sets the insertion state, retry count and damaged feed
  gates from the latest feed records. -/
  | burrowReplay
  /-- IMAGE_SELECTION (R434): the Cub judges both slots, retires exhausted trials, selects a slot or none, writes the
  boot-counter record and hands over or not. -/
  | imageSelection (mismatch : BitVec 8) (badA badB : Bool)
  /-- CORE_0_RELEASE (R439): with locks set and stage 3 domains and PLLs up, application core 0 is released at the image entry
  and tray firmware starts. -/
  | core0Release
  /-- FIRMWARE_READY (R394): tray firmware declares the ring service ready; DEV_STAT.mode becomes READY and INT_CAUSE.ready sets. -/
  | firmwareReady
  /-- HBM_TRAINING_END (R410): training of every present stack ends; Memory_Active sets and the recorder starts writing, or
  memory stays inactive on failure. -/
  | hbmTrainingEnd (failed : BitVec 4)
  /-- XTAL_LOSS (R52): XTAL stopped for 2 µs: the sett PLL switches to the internal oscillator and every powered ward group
  powers down with cause 7. -/
  | xtalLoss
  /-- XTAL32K_LOSS (R53): XTAL32K silent for 125 µs: operating seconds are counted from XTAL. -/
  | xtal32kLoss
  /-- WATCHDOG_LAPSE (R59): the firmware watchdog period expires: every zone enters FALLBACK and an application reset with cause
  0x05 follows. -/
  | watchdogLapse
  /-- APPLICATION_RESET (R58): on tray firmware request, the application complex restarts, rings are disabled and the Cub
  re-runs selection while supervision runs on. -/
  | applicationReset
  /-- PENDING_POWER_ON_RESET (R58): once every zither group is OFF or DWELL after a slot change or no selectable slot, the T840
  performs the pending power-on reset. -/
  | pendingPowerOnReset
  /-- VCORE_LOSS (R61): VCORE out of range for 2 µs: recorder, Marten and host interface stop while supervision continues. -/
  | vcoreLoss
  /-- VCORE_RETURN (R61): VCORE back in range for 10 ms: application reset with cause 0x07 and VCORE domains repowered. -/
  | vcoreReturn
  /-- VSETT_LOSS (R62): VSETT below threshold for 2 µs: all EN pads released and harp drivers turned off. -/
  | vsettLoss
  /-- VSETT_RETURN (R62): VSETT returned for 100 µs: the T840 performs a power-on reset. -/
  | vsettReturn
  /-- VAO_BROWNOUT (R63): VAO below 0.72 V for 1 µs is a power-on reset held until VAO returns. -/
  | vaoBrownout
  /-- VAO_RETURN (R63): VAO at or above 0.74 V for 100 µs ends the brownout reset and starts from stage 0. -/
  | vaoReturn
  /-- CXL_PERST_ASSERT (R60): CXL_PERST# low discards outstanding descriptors without completions and disables every ring pair. -/
  | cxlPerstAssert
  /-- CXL_LINK_DOWN (R388): the link leaves L0 other than by CXL_PERST#, which is a CXL reset. -/
  | cxlLinkDown (cause : BitVec 8)
  /-- LINK_L0 (R388): the CXL link reaches L0 after training. -/
  | linkL0 (rate width : BitVec 8)
  /-- SAMPLE_WORD (R84): A sample word reaches the windows, which update levels and edges, and fans out to meters, ingest,
  recorder and hardware fuses. -/
  | sampleWord (sub : Fin 20) (words : List (Fin 304 × SampleRead))
  /-- INPUT_COLLAPSE (R177): both feed voltages at or below the FL threshold: EN pads released, runs cancelled, GHS low and
  collapse records committed by hold-up. -/
  | inputCollapse
  /-- PG_CHANGE (R160): A synchronised PG input changes, starting or ending a good or false-good interval of its entry. -/
  | pgChange (pin : Fin 128) (high : Bool)
  /-- COMMIT (R87): write of SNS_WCTL.commit places the window settings in the shadow to take effect at the next aperture. -/
  | commit (c : Fin 304) (b : Bool) (v : BitVec 32)
  /-- WINDOW_COMMIT_APPLY (R87): at the next aperture the shadow takes effect as one unit, or is refused for threshold order. -/
  | windowCommitApply (c : Fin 304) (b : Bool)
  /-- FEED_WINDOW_COMMIT (R175): A commit through the FEED_ window registers of a fixed channel, refused with cfg_err on bad
  order. -/
  | feedWindowCommit (n : Fin 10) (v : BitVec 32)
  /-- CHANNEL_CONFIG_WRITE (R91): A write to SNS_CHCFG, ignored when it changes range of an armed window or disables a bound
  channel. -/
  | channelConfigWrite (c : Fin 304) (v : BitVec 32)
  /-- CHANNEL_LOCK (R90): writing SNS_CHCFG.lock makes the channel block read-only until power-on reset. -/
  | channelLock (c : Fin 304)
  /-- METER_CLEAR (R93): SNS_MTR_STAT.clear zeroes both accumulators and saturation bits unless locked. -/
  | meterClear (m : Fin 64)
  /-- METER_PAVG_UPDATE (R92): every 2^avg_k µs the meter's average power is updated. -/
  | meterPavgUpdate (m : Fin 64)
  /-- ACCUMULATOR_LOW_READ (R96): reading the lower half of a 64-bit accumulator latches the upper half. -/
  | accumulatorLowRead (m : Fin 64) (reverse : Bool)
  /-- PERSIST_WRITE (R94): every 60 s persisting meters, operating seconds and the latest feed records are written to flash. -/
  | persistWrite
  /-- CALIBRATION_REQUEST (R77): SNS_CALCTL.request starts a recalibration pass over all quick and general channels. -/
  | calibrationRequest
  /-- CAL_PERIOD_EXPIRY (R77): the calibration period expires and a recalibration pass starts. -/
  | calPeriodExpiry
  /-- CAL_TEMP_DELTA (R77): A channel's serving die temperature has moved by temp_delta and its recalibration starts. -/
  | calTempDelta (c : Fin 256)
  /-- CAL_SPARE_TAKEOVER (R78): after 64 paired apertures the spare's offset is set and it supplies the samples. -/
  | calSpareTakeover (c : Fin 256) (sub : Fin 20)
  /-- CAL_OWN_CONVERTER_DONE (R78): the channel's own converter finishes calibration against internal references. -/
  | calOwnConverterDone (c : Fin 256) (sub : Fin 20)
  /-- CAL_RETURN (R78): after 64 more apertures samples return to the own converter, or the mismatch rule applies. -/
  | calReturn (c : Fin 256) (sub : Fin 20) (within : Bool)
  /-- DIE_TEMPERATURE_READ (R82): every 1 ms the always-on area reads the eight die temperature sensors. -/
  | dieTemperatureRead (temps : List (Option (BitVec 16)))
  /-- CHANNEL_FAULT (R83): A channel fault is detected; the fault sample word and window treatment start. -/
  | channelFault (c : Fin 304) (short : Bool) (bad : Fin 3)
  /-- CHANNEL_FAULT_CLEAR (R83): the cause absent for 1,000 result periods clears the fault. -/
  | channelFaultClear (c : Fin 304)
  /-- SETT_TICK_BOUNDARY (R135): at a sett tick boundary timers decrement, firmware values apply, the snapshot latches and each
  running engine starts its tick. -/
  | settTickBoundary (k : Fin 40) (half : Bool) (upsets : List Upset)
  /-- TICK_OVERRUN (R109): an engine not yielded by the end of its budget is stopped, its tick undone and the overrun counted. -/
  | tickOverrun (n : Fin 1280) (half : Bool)
  /-- BIND (R112): engine command BIND binds object obj to an IDLE engine at the next boundary. -/
  | bind (n : Fin 1280) (obj : BitVec 11)
  /-- START (R112): engine command START makes a STOPPED or FAULTED engine RUNNING at the next boundary. -/
  | start (n : Fin 1280) (obj : BitVec 11)
  /-- STOP (R113): engine command STOP stops a RUNNING or FAULTED engine unless its object owns a rail that is ON. -/
  | stop (n : Fin 1280) (obj : BitVec 11)
  /-- UNBIND (R113): engine command UNBIND returns a STOPPED engine to IDLE unless its object owns a rail that is ON. -/
  | unbind (n : Fin 1280) (obj : BitVec 11)
  /-- INSTRUCTION_MEMORY_WRITE (R114): A write to an engine's instruction memory, accepted only while the engine is IDLE. -/
  | instructionMemoryWrite (n : Fin 1280) (a : BitVec 10) (v : BitVec 32)
  /-- BINDING_WRITE (R106): A write to a binding slot, ignored unless IDLE or when it names a reserved kind or bad index. -/
  | bindingWrite (n : Fin 1280) (slot : Fin 16) (v : BitVec 32)
  /-- FIRMWARE_VALUE_WRITE (R100): A firmware write to an enabled sett's shared memory, collected for the next boundary or
  ignored outside the firmware-value area. -/
  | firmwareValueWrite (k : Fin 40) (off : BitVec 15) (v : BitVec 32)
  /-- MIGRATION_GO (R115): SETT_MIGCMD.go starts a migration or refuses it. -/
  | migrationGo (src dst : BitVec 11)
  /-- MIGRATION_COPY (R116): at the next boundary both engines enter MIGRATING and the source state is copied to the destination. -/
  | migrationCopy (half : Bool)
  /-- MIGRATION_HANDOVER (R116): one tick later binding ownership passes to the destination and the source becomes IDLE. -/
  | migrationHandover (half : Bool)
  /-- SETT_ENABLE (R120): writing SETT_CTL.enable = 1 re-enables a sett with its engines STOPPED. -/
  | settEnable (k : Fin 40)
  /-- SETT_DISABLE (R120): writing SETT_CTL.enable = 0 stops a sett's engines, refused while an object owns an ON rail or a
  migration involves it. -/
  | settDisable (k : Fin 40)
  /-- PERIOD_WRITE (R102): A write to SETT_CTL.period, ignored while any engine is RUNNING, FAULTED or MIGRATING. -/
  | periodWrite (k : Fin 40) (v : BitVec 8)
  /-- TERM_WRITE (R121): A write to RFX_TERM01 or RFX_TERM23 applied term by term, skipping terms naming reserved sources. -/
  | termWrite (r : Fin 512) (hi : Bool) (v : BitVec 32)
  /-- RULE_DISABLE (R123): writing RFX_ACT.enable = 0 on an unlocked rule releases its actions and clears latched. -/
  | ruleDisable (r : Fin 512)
  /-- RULE_LOCK (R124): writing RFX_ACT.lock makes the rule read-only until power-on reset. -/
  | ruleLock (r : Fin 512)
  /-- LATCH_CLEAR (R123): clearing RFX_STAT.latched releases a latched rule's actions, or latches again if still true. -/
  | latchClear (r : Fin 512)
  /-- RFX_RULE_TRUE (R122): A reflex rule becomes true and its actions take effect 15 ns after the deciding source change. -/
  | rfxRuleTrue (r : Fin 512)
  /-- RFX_RULE_FALSE (R123): A non-latched rule stops being true and its actions are released. -/
  | rfxRuleFalse (r : Fin 512)
  /-- POP (R145): SETT_MBXCTL.pop removes the mailbox head entry. -/
  | pop
  /-- NOP (R139): engine instruction doing nothing for one cycle. -/
  | engNop (n : Fin 1280)
  /-- ADD (R133): saturating Q16.16 addition. -/
  | engAdd (n : Fin 1280) (rd ra rb : BitVec 4)
  /-- SUB (R133): saturating subtraction. -/
  | engSub (n : Fin 1280) (rd ra rb : BitVec 4)
  /-- ADDW (R139): wrapping addition. -/
  | engAddw (n : Fin 1280) (rd ra rb : BitVec 4)
  /-- SUBW (R139): wrapping subtraction. -/
  | engSubw (n : Fin 1280) (rd ra rb : BitVec 4)
  /-- MUL (R134): rounded, saturating Q16.16 product. -/
  | engMul (n : Fin 1280) (rd ra rb : BitVec 4)
  /-- IMUL (R134): saturating integer product. -/
  | engImul (n : Fin 1280) (rd ra rb : BitVec 4)
  /-- DIV (R134): truncated, saturating Q16.16 quotient with defined division by zero. -/
  | engDiv (n : Fin 1280) (rd ra rb : BitVec 4)
  /-- MIN (R139): signed minimum. -/
  | engMin (n : Fin 1280) (rd ra rb : BitVec 4)
  /-- MAX (R139): signed maximum. -/
  | engMax (n : Fin 1280) (rd ra rb : BitVec 4)
  /-- ABS (R139): saturating absolute value. -/
  | engAbs (n : Fin 1280) (rd ra : BitVec 4)
  /-- NEG (R139): saturating negation. -/
  | engNeg (n : Fin 1280) (rd ra : BitVec 4)
  /-- LIM (R139): clamp rd between ra and rb, setting Q when changed. -/
  | engLim (n : Fin 1280) (rd ra rb : BitVec 4)
  /-- FLT (R134): first-order filter step rd + (ra − rd) × rb, saturated once. -/
  | engFlt (n : Fin 1280) (rd ra rb : BitVec 4)
  /-- MAC (R134): multiply-accumulate, saturated once. -/
  | engMac (n : Fin 1280) (rd ra rb : BitVec 4)
  /-- AND (R139): bitwise AND. -/
  | engAnd (n : Fin 1280) (rd ra rb : BitVec 4)
  /-- OR (R139): bitwise OR. -/
  | engOr (n : Fin 1280) (rd ra rb : BitVec 4)
  /-- XOR (R139): bitwise exclusive OR. -/
  | engXor (n : Fin 1280) (rd ra rb : BitVec 4)
  /-- SHL (R139): shift left by register. -/
  | engShl (n : Fin 1280) (rd ra rb : BitVec 4)
  /-- SHR (R139): logical shift right by register. -/
  | engShr (n : Fin 1280) (rd ra rb : BitVec 4)
  /-- SAR (R139): arithmetic shift right by register. -/
  | engSar (n : Fin 1280) (rd ra rb : BitVec 4)
  /-- ADDI (R139): saturating addition of a signed immediate. -/
  | engAddi (n : Fin 1280) (rd ra : BitVec 4) (imm : BitVec 18)
  /-- ANDI (R139): AND with an immediate. -/
  | engAndi (n : Fin 1280) (rd ra : BitVec 4) (imm : BitVec 18)
  /-- ORI (R139): OR with an immediate. -/
  | engOri (n : Fin 1280) (rd ra : BitVec 4) (imm : BitVec 18)
  /-- XORI (R139): exclusive OR with an immediate. -/
  | engXori (n : Fin 1280) (rd ra : BitVec 4) (imm : BitVec 18)
  /-- SHLI (R139): shift left by an immediate. -/
  | engShli (n : Fin 1280) (rd ra : BitVec 4) (sh : BitVec 5)
  /-- SHRI (R139): logical shift right by an immediate. -/
  | engShri (n : Fin 1280) (rd ra : BitVec 4) (sh : BitVec 5)
  /-- SARI (R139): arithmetic shift right by an immediate. -/
  | engSari (n : Fin 1280) (rd ra : BitVec 4) (sh : BitVec 5)
  /-- LDH (R139): load a 16-bit immediate into the upper half. -/
  | engLdh (n : Fin 1280) (rd : BitVec 4) (imm : BitVec 16)
  /-- LDP (R139): load a private-area word. -/
  | engLdp (n : Fin 1280) (rd ra : BitVec 4) (off : BitVec 18)
  /-- STP (R139): store a private-area word at once. -/
  | engStp (n : Fin 1280) (rd ra : BitVec 4) (off : BitVec 18)
  /-- LDC (R137): load a common-area word as committed before the issue cycle. -/
  | engLdc (n : Fin 1280) (rd ra : BitVec 4) (off : BitVec 18)
  /-- STC (R137): buffer a common-area store for commit at YLD. -/
  | engStc (n : Fin 1280) (rd ra : BitVec 4) (off : BitVec 18)
  /-- LDK (R139): load a constant word from the constant region. -/
  | engLdk (n : Fin 1280) (rd : BitVec 4) (addr : BitVec 10)
  /-- RD (R140): read a bound input from the snapshot. -/
  | engRd (n : Fin 1280) (rd slot sel : BitVec 4)
  /-- WR (R142): queue a write to a bound output. -/
  | engWr (n : Fin 1280) (slot ra : BitVec 4)
  /-- WPR (R143): queue a ward-port request block for sending at commit. -/
  | engWpr (n : Fin 1280) (slot ra : BitVec 4)
  /-- EVT (R144): queue an event record. -/
  | engEvt (n : Fin 1280) (code : BitVec 16) (ra rb : BitVec 4)
  /-- MBX (R145): queue a mailbox entry for tray firmware. -/
  | engMbx (n : Fin 1280) (tag : BitVec 8) (ra : BitVec 4)
  /-- RDST (R140): read an item of the engine's own status. -/
  | engRdst (n : Fin 1280) (rd sel : BitVec 4)
  /-- TSET (R139): set a timer from a register. -/
  | engTset (n : Fin 1280) (tm : BitVec 2) (ra : BitVec 4)
  /-- TSETI (R139): set a timer from an immediate. -/
  | engTseti (n : Fin 1280) (tm : BitVec 2) (imm : BitVec 18)
  /-- TRD (R139): read a timer. -/
  | engTrd (n : Fin 1280) (rd : BitVec 4) (tm : BitVec 2)
  /-- JAL (R139): jump and link into g15. -/
  | engJal (n : Fin 1280) (target : BitVec 10)
  /-- JR (R139): jump to a register address. -/
  | engJr (n : Fin 1280) (ra : BitVec 4)
  /-- BEQ (R139): branch if equal. -/
  | engBeq (n : Fin 1280) (ra rb : BitVec 4) (target : BitVec 10)
  /-- BNE (R139): branch if not equal. -/
  | engBne (n : Fin 1280) (ra rb : BitVec 4) (target : BitVec 10)
  /-- BLT (R139): branch if less, signed. -/
  | engBlt (n : Fin 1280) (ra rb : BitVec 4) (target : BitVec 10)
  /-- BGE (R139): branch if at least, signed. -/
  | engBge (n : Fin 1280) (ra rb : BitVec 4) (target : BitVec 10)
  /-- JMP (R139): unconditional jump. -/
  | engJmp (n : Fin 1280) (target : BitVec 10)
  /-- BTX (R132): branch if a timer reads zero. -/
  | engBtx (n : Fin 1280) (tm : BitVec 2) (target : BitVec 10)
  /-- BST (R131): branch if a flag or status bit is set. -/
  | engBst (n : Fin 1280) (bit : BitVec 4) (target : BitVec 10)
  /-- YLD (R135): end the tick and commit the output queue and store buffer. -/
  | engYld (n : Fin 1280)
  /-- TRAY_TICK_BOUNDARY (R322): at each tray-tick boundary SYNC frames are queued, EN drops are judged, due zither instants
  fall and ALV toggles. -/
  | trayTickBoundary (alvEdge : Bool) (fec : List FecCount) (acts : FirmwareActs)
  /-- ENTRY_WRITE (R153): A write to a zither entry word, ignored when locked or its groups are running. -/
  | entryWrite (k : Fin 256) (w : Fin 4) (v : BitVec 32)
  /-- ZITHER_LOCK (R153): writing ZIT_CTL.lock makes every entry read-only until power-on reset. -/
  | zitherLock
  /-- POWER_UP (R156): group power-up command: checks and start of a power-up, or pending. -/
  | powerUp (g : Fin 16) (via : Via)
  /-- POWER_DOWN (R156): group power-down command, starting or converting a run or clearing a pending power-up. -/
  | powerDown (g : Fin 16) (via : Via)
  /-- PENDING_POWER_UP_START (R158): A pending power-up starts once the group is OFF, its dwell has ended and the input is
  admitted. -/
  | pendingPowerUpStart (g : Fin 16)
  /-- ENTRY_DUE (R159): an entry's EN falls due in a power-up run and is driven high. -/
  | entryDue (k : Fin 256)
  /-- ENTRY_GOOD (R160): an entry becomes good; when all are good the group enters ON. -/
  | entryGood (k : Fin 256)
  /-- GOOD_DEADLINE_EXPIRY (R161): an entry not good by its deadline aborts the group with cause 1. -/
  | goodDeadlineExpiry (k : Fin 256)
  /-- FALSE_GOOD_INTERVAL (R163): A false-good interval exceeds pg_filter and counts as a chatter or loss of good. -/
  | falseGoodInterval (k : Fin 256)
  /-- PG_LOST_DEADLINE (R163): A false-good interval within the watch lasts longer than the deadline: cause 3. -/
  | pgLostDeadline (k : Fin 256)
  /-- POWER_DOWN_ENTRY_DUE (R166): an entry's EN falls due for drop in a power-down run. -/
  | powerDownEntryDue (k : Fin 256)
  /-- OFF_CONFIRMED (R166): an entry is confirmed off; when all are off the group reaches all-OFF and enters DWELL. -/
  | offConfirmed (k : Fin 256)
  /-- OFF_DEADLINE_EXPIRY (R166): an entry not confirmed off by its deadline is counted off and off_stuck sets. -/
  | offDeadlineExpiry (k : Fin 256)
  /-- DWELL_END (R170): the off dwell ends; the group enters OFF and may start a fresh power-up. -/
  | dwellEnd (g : Fin 16)
  /-- EN_REDRIVE (R169): 1 ms after collapse clears, or after a trip, every EN pad is driven low again. -/
  | enRedrive
  /-- FEED_GATE_ON (R179): A feed gate's on conditions held for 100 µs turn it ON. -/
  | feedGateOn (b : Bool)
  /-- GATE_CHECK_EXPIRY (R186): A gate not confirmed within 5 ms, or losing confirmation, is judged damaged. -/
  | gateCheckExpiry (g : Fin 3)
  /-- FEED_REVERSE_DUE (R180): A reverse-current record is made for the episodes closed since the last record. -/
  | feedReverseDue (b : Bool)
  /-- SETTLE_EXPIRY (R182): the admission conditions held for t_settle move the insertion path from WAIT to RAMP. -/
  | settleExpiry
  /-- RAMP_END (R183): the output held near V_in for 1 ms drives GHS high and starts the gate check. -/
  | rampEnd
  /-- RAMP_SHORTFALL_EXPIRY (R187): the output 10 V below the profile for 200 µs trips with cause 3. -/
  | rampShortfallExpiry
  /-- RAMP_DEADLINE_EXPIRY (R187): A ramp not ended by ramp_to trips with cause 5. -/
  | rampDeadlineExpiry
  /-- TIMED_FUSE_EXPIRY (R188): the WH level held for t_oc trips the timed fuse with cause 2. -/
  | timedFuseExpiry
  /-- RETRY_TIMER_EXPIRY (R190): the retry timer of TRIPPED expires and the state becomes WAIT. -/
  | retryTimerExpiry
  /-- TRIP_CLEAR_TIMER (R191): ON for 60 s sets retry_count to 0. -/
  | tripClearTimer
  /-- FEED_CLEAR (R193): feed command clear returns LATCHED or DAMAGED states to WAIT and OFF. -/
  | feedClear (via : Via)
  /-- FORCE_OFF (R193): feed command force off enters FORCED_OFF with GHS low when every group is down. -/
  | forceOff (via : Via)
  /-- FEED_RELEASE (R193): feed command release returns FORCED_OFF to WAIT. -/
  | feedRelease (via : Via)
  /-- FEED_LOCK (R198): writing FEED_CTL.lock makes the FEED_ configuration read-only. -/
  | feedLock
  /-- LEVER_OPEN (R195): LEVER# high for 1 ms starts removal when lever_act is set. -/
  | leverOpen
  /-- LEVER_CLOSED (R195): LEVER# low for 1 ms is recorded. -/
  | leverClosed
  /-- REMOVAL_END (R195): when every group is down or t_lever elapses, GHS goes low and the state becomes WAIT. -/
  | removalEnd
  /-- DISCH_TIMEOUT (R196): DISCH held for t_disch_max is released. -/
  | dischTimeout
  /-- HOLD_EXPIRY (R204): A code that has stood for hold lets a weaker request take effect. -/
  | holdExpiry (w : Fin 8)
  /-- WALRT_QUALIFIED (R206): WALRT# qualifies low or high after its filter. -/
  | walrtQualified (w : Fin 8) (low : Bool)
  /-- FLOOR_WRITE (R205): A write of HARP_WCTL.floor changes the firmware floor. -/
  | floorWrite (w : Fin 8) (code : BitVec 2)
  /-- AVS_FRAME_DONE (R219): an AVSBus frame ends and its response is checked; the latest value is sent next. -/
  | avsFrameDone (w : Fin 8) (resp : Option (BitVec 12))
  /-- AVS_RESEND (R220): every 100 µs under fault the latest setpoint is resent. -/
  | avsResend (w : Fin 8)
  /-- AVS_POLL (R219): A voltage read runs at the poll period. -/
  | avsPoll (w : Fin 8) (status : Bool)
  /-- TILE_ENABLE (R250): writing MRT_TCTL.enable = 1 powers a tile into STANDBY. -/
  | tileEnable (t : Fin 4)
  /-- TILE_DISABLE (R250): writing enable = 0 turns a tile OFF or drains it. -/
  | tileDisable (t : Fin 4)
  /-- TILE_RUN (R261): writing run = 1 checks the tables and enters RUN, possibly in shadow, at the next frame. -/
  | tileRun (t : Fin 4) (upsets : List TileUpset)
  /-- TILE_RUN_CLEAR (R251): writing run = 0 drains a running tile towards STANDBY. -/
  | tileRunClear (t : Fin 4)
  /-- TILE_SRAM_WRITE (R253): A write to tile SRAM or tables, accepted only in STANDBY. -/
  | tileSramWrite (t : Fin 4) (kind : Fin 3) (a : BitVec 21) (v : BitVec 32)
  /-- FRAME_START (R246): A 2 µs frame starts: 2 µs-class jobs are released and slower jobs park. -/
  | frameStart (t : Fin 4)
  /-- FAST_WINDOW_END (R246): at fast_cycles unfinished 2 µs-class jobs end with TIMEOUT and slower jobs run. -/
  | fastWindowEnd (t : Fin 4) (cycles : BitVec 11) (done : BitVec 16)
  /-- FRAME_END (R246): at cycle 2,000 the running slower job is suspended. -/
  | frameEnd (t : Fin 4) (done : BitVec 16)
  /-- JOB_RELEASE (R245): A 100 µs or 10 ms class job is released at its phase; an unfinished previous instance ends TIMEOUT. -/
  | jobRelease (t : Fin 4) (j : Fin 64) (done : BitVec 16)
  /-- JOB_END (R248): A job ends; an OK job commits its slots and warm, fail and drain states update. -/
  | jobEnd (t : Fin 4) (j : Fin 64) (half : Bool) (upsets : List TileUpset)
  /-- JOB_BOUND_REACHED (R247): A job reaching its compiled cycle bound is stopped with TIMEOUT. -/
  | jobBoundReached (t : Fin 4) (j : Fin 64) (done : BitVec 16)
  /-- SRAM_SCRUB (R227): every 256 cycles one tile SRAM word is scrubbed. -/
  | sramScrub (t : Fin 4) (upsets : List TileUpset)
  /-- INGEST_BLOCK_WRITE (R263): A completed DF8 block or telemetry record is written into every ring that names its source. -/
  | ingestBlockWrite (telem : Bool) (source : Fin 512)
  /-- STREAM_GAP (R265): missing data for longer than 3 µs sets a stream's history to 0 and makes its jobs cold. -/
  | streamGap (t : Fin 4) (ix : Fin 64)
  /-- OFFER_WINDOW_END (R270): at each 1,000-tick window end min_mv takes the window's largest offer. -/
  | offerWindowEnd
  /-- OFFER_READ (R270): A read of MRT_OFFERw returns its values and resets min_mv to 4,095. -/
  | offerRead (w : Fin 8)
  /-- DRIVE_UPDATE (R280): every 1 ms each zoned output's drive is recomputed from mode, state and table. -/
  | driveUpdate
  /-- DUTY_WRITE (R278): A write of FAN_DUTYo refreshes an unowned zoned output. -/
  | dutyWrite (o : Fin 20) (v : BitVec 10)
  /-- ZONE_TAKE (R279): zone command take moves a zone to REGISTER if its members are refreshed. -/
  | zoneTake (z : Fin 4)
  /-- ZONE_RELEASE (R279): zone command release moves a zone to FALLBACK. -/
  | zoneRelease (z : Fin 4)
  /-- ZONE_REFRESH_TIMEOUT (R279): A member not refreshed for 2 s sends the zone to FALLBACK. -/
  | zoneRefreshTimeout (z : Fin 4)
  /-- CHECK_JUDGEMENT (R285): 3 s after a start check, the output is judged RUN, BLOCKED, ABSENT or TACH_LOST. -/
  | checkJudgement (o : Fin 20)
  /-- RETRY_CHECK_START (R286): 10 s after a BLOCKED judgement a retry check starts. -/
  | retryCheckStart (o : Fin 20)
  /-- TACH_PULSE (R284): A tach falling edge updates speed and may recover a lost output. -/
  | tachPulse (ix : Fin 28)
  /-- TACH_STOPPED (R287): no tach edge for 500 ms judges a running output by its current. -/
  | tachStopped (o : Fin 20)
  /-- FAN_CLEAR (R289): FAN_CMD clear starts a new check on a latched, lost or absent output. -/
  | fanClear (o : BitVec 5)
  /-- FLOW_UPDATE (R290): every 100 ms a flow meter's flow is updated. -/
  | flowUpdate (f : Fin 8)
  /-- LOW_FLOW_EXPIRY (R290): flow below f_low for 2 s raises a low flow and runs pumps at full. -/
  | lowFlowExpiry (f : Fin 8)
  /-- FLOW_OK_EXPIRY (R290): flow at or above f_low for 10 s ends the low flow. -/
  | flowOkExpiry (f : Fin 8)
  /-- VALVE_CLOSE_WRITE (R291): A write of FAN_VLV.close drives unowned valves. -/
  | valveCloseWrite (v : BitVec 4)
  /-- CRIT_RESULT (R298): each 1 ms critical-pair result may assert or release SYS_SHUTDN# and judges sensor failure. -/
  | critResult (a b : CritRead)
  /-- CRIT_GRACE_END (R299): the 10 s grace ends and SYS_SHUTDN# asserts. -/
  | critGraceEnd
  /-- LEAK_RSTAT_CLEAR (R301): LEAK_RSTATr.clear resets worst and lowest. -/
  | leakRstatClear (r : Fin 16)
  /-- PORT_ENABLE (R306): writing WPORT_CTL.enable = 1 powers a port to DARK or restarts it from FAULT. -/
  | portEnable (p : Fin 8)
  /-- PORT_DISABLE (R309): writing enable = 0 disables a port unless its ward is powered. -/
  | portDisable (p : Fin 8)
  /-- LIGHT_QUALIFIED (R306): light held for 100 µs moves a DARK port to TRAINING. -/
  | lightQualified (p : Fin 8) (l0 l1 : Bool)
  /-- HELLO (R306): A HELLO received in TRAINING links the port or faults it on a version mismatch. -/
  | hello (p : Fin 8) (h : FrameHead) (major minor : BitVec 8)
  /-- TRAINING_TIMEOUT (R306): no HELLO within 50 ms faults the port. -/
  | trainingTimeout (p : Fin 8)
  /-- LANE_FAIL (R307): A lane fails; the port runs on one lane or enters FAULT. -/
  | laneFail (p : Fin 8) (lane : Fin 2) (cause : LaneCause)
  /-- LANE_REJOIN (R307): A failed lane retrains and rejoins. -/
  | laneRejoin (p : Fin 8) (lane : Fin 2) (us : BitVec 16)
  /-- FAULT_RETRAIN_EXPIRY (R308): 10 ms after FAULT the port returns to DARK unless the retrain limit is reached. -/
  | faultRetrainExpiry (p : Fin 8)
  /-- RSP (R319): A response frame ends an outstanding register request. -/
  | rsp (p : Fin 8) (f : RspFrame) (flashFails : Bool)
  /-- REQ_RESEND (R319): no response within req_us resends the request, ending it TIMEOUT after three sends. -/
  | reqResend (p : Fin 8) (tag : BitVec 8)
  /-- TELEM (R323): A telemetry frame is checked and becomes the ward's kind-4 words. -/
  | telem (p : Fin 8) (words : List (BitVec 32)) (ns : BitVec 16)
  /-- EVT_FRAME (R324): A ward event frame is acknowledged and recorded once per tag. -/
  | evtFrame (p : Fin 8) (h : FrameHead) (sealOk : Bool) (tag : BitVec 8) (code : BitVec 16) (data : BitVec 64)
  /-- DRAINED (R326): DRAINED from the ward ends a quiesce request OK. -/
  | drained (p : Fin 8) (h : FrameHead) (part : BitVec 8)
  /-- RELEASED (R326): RELEASED from the ward ends a release request OK. -/
  | released (p : Fin 8) (h : FrameHead) (part : BitVec 8)
  /-- FENCE_DONE (R327): FENCE_DONE from the ward ends a fence request OK. -/
  | fenceDone (p : Fin 8) (h : FrameHead) (arg : BitVec 4)
  /-- CTRL_RESEND (R325): A CTRL without answer is resent every req_us. -/
  | ctrlResend (p : Fin 8) (code arg : BitVec 8)
  /-- DRAIN_DEADLINE (R326): no DRAINED within drain_us ends a quiesce TIMEOUT; a reset sequence escalates. -/
  | drainDeadline (p : Fin 8) (part : BitVec 8)
  /-- FENCE_DEADLINE (R327): no FENCE_DONE in time ends the fence TIMEOUT. -/
  | fenceDeadline (p : Fin 8) (arg : BitVec 4)
  /-- BULK (R321): A bulk frame in order is accepted and answered with BACK; structural-test responses are compared. -/
  | bulk (p stream : Fin 8) (h : FrameHead) (sealOk : Bool) (off : BitVec 64) (len : BitVec 13) (diffs : List (BitVec 11)) (uncorr : Bool)
  /-- BACK (R321): A BACK frame advances the acknowledged offset and credit of a stream. -/
  | back (p stream : Fin 8) (h : FrameHead) (sealOk : Bool) (off : BitVec 64) (credit : BitVec 32)
  /-- BULK_TIMEOUT (R321): 20 µs without progress resends from the acknowledged offset, ending TIMEOUT after three. -/
  | bulkTimeout (p stream : Fin 8)
  /-- SEC (R329): A SEC message fragment advances the secure channel setup or fails it. -/
  | sec (p : Fin 8) (f : SecFrame)
  /-- REKEY_DUE (R330): A frame counter near 2^40 or 24 h of use sets up a new channel. -/
  | rekeyDue (p : Fin 8)
  /-- SOURCE_ENABLE_WRITE (R316): A write of WPORT_LSCFGk.enable, refused at 0 while its port is LINKED. -/
  | sourceEnableWrite (k : Fin 18) (on : Bool)
  /-- LASER_POLL (R312): every 1 ms each laser source is polled and a fault or silence reduces it. -/
  | laserPoll (k : Fin 18) (r : Option LaserRead)
  /-- IN_BAND_INTERRUPT (R311): A laser source interrupt on a fault or overtemp change. -/
  | inBandInterrupt (k : Fin 18) (stat : BitVec 4)
  /-- ALS_DECISION (R313): A dark lane or low monitor for 10 µs reduces a source to probe power. -/
  | alsDecision (k : Fin 18) (which : Fin 4)
  /-- FULL_POWER_ALLOWED (R312): light for 100 µs lets a source return to its committed power. -/
  | fullPowerAllowed (k : Fin 18)
  /-- LASER_SETTLE_CHECK (R313): 1 ms after a reduction an unsettled source asserts LSOFFn#. -/
  | laserSettleCheck (k : Fin 18) (r : Option LaserRead)
  /-- RELEASE_BUS (R314): WPORT_LSCMD release bus lifts a shut-off when no cause holds. -/
  | releaseBus (b : BitVec 3)
  /-- UP (R340): ward command UP checks and powers a ward, or resumes a held ward. -/
  | up (w : Fin 8) (via : Via)
  /-- HOLD (R339): ward command HOLD holds a stepping ward at the end of its step. -/
  | hold (w : Fin 8) (via : Via)
  /-- DOWN (R339): ward command DOWN abandons the step or fences the ward and powers it down. -/
  | down (w : Fin 8) (via : Via)
  /-- CLEAR (R339): ward command CLEAR moves a FAILED ward to OFF. -/
  | clear (w : Fin 8) (via : Via)
  /-- AUTO_UP (R341): tray firmware issues UP by itself for an auto_up ward that is OFF on an admitted tray. -/
  | autoUp (w : Fin 8)
  /-- STAGGERED_POWER_UP (R342): A POWERING ward's group power-up is written once the stagger has passed. -/
  | staggeredPowerUp (w : Fin 8)
  /-- STORE_COPY_DONE (R348): A pattern set or image copy into the store finishes and is checked. -/
  | storeCopyDone (pattern : Bool) (wardType : BitVec 32) (ok : Bool)
  /-- BU_POLL (R346): every 1 ms bu_stat and bu_seq are read and a ward step that has ended moves to its next state. -/
  | buPoll (w : Fin 8) (stat seq : BitVec 32) (mem : BitVec 16) (ring : BitVec 32)
  /-- BU_DEADLINE (R354): A bring-up step not exited by its deadline fails the ward with retry or FAILED. -/
  | buDeadline (w : Fin 8)
  /-- CORE_RESET (R378): ward reset op core reset writes ABSORB, CORE_RESET and UNABSORB in turn. -/
  | coreReset (w : Fin 8) (core : BitVec 16) (via : Via)
  /-- PARTITION_RESET (R379): ward reset op partition reset quiesces, resets and releases a partition. -/
  | partitionReset (w : Fin 8) (part : BitVec 16) (via : Via)
  /-- PARTITION_OFF (R381): ward reset op partition off quiesces and powers a partition off. -/
  | partitionOff (w : Fin 8) (part : BitVec 16) (via : Via)
  /-- PARTITION_ON (R381): ward reset op partition on powers a partition on and releases it. -/
  | partitionOn (w : Fin 8) (part : BitVec 16) (via : Via)
  /-- RST_POLL (R376): every 10 µs the reset block is read and a reset operation's end advances the sequence or ends it TIMEOUT
  after 10 ms. -/
  | rstPoll (w : Fin 8) (stat seq : BitVec 32)
  /-- NOP_DESCRIPTOR (R406): descriptor NOP completes with the tray tick. -/
  | nopDescriptor (via : Via)
  /-- HOST_RESET (R406): descriptor HOST_RESET completes OK and causes an application reset with cause 0x08. -/
  | hostReset (via : Via)
  /-- TIME_ANCHOR (R475): descriptor TIME_ANCHOR writes a time anchor record. -/
  | timeAnchor (via : Via)
  /-- TELEM_SUBSCRIBE (R407): descriptor TELEM_SUBSCRIBE starts a telemetry subscription. -/
  | telemSubscribe (via : Via)
  /-- TELEM_CANCEL (R406): descriptor TELEM_CANCEL ends a subscription. -/
  | telemCancel (via : Via)
  /-- SUBSCRIPTION_ENTRY (R408): every 2^k source values yield an entry written or held for a free completion slot. -/
  | subscriptionEntry (sub : BitVec 16)
  /-- EVENT_READ (R481): descriptor EVENT_READ returns records of one burrow area in seq order. -/
  | eventRead (via : Via)
  /-- RECORDER_FREEZE (R419): descriptor RECORDER_FREEZE triggers the recorder and completes when it is frozen. -/
  | recorderFreeze (via : Via)
  /-- RECORDER_RELEASE (R420): descriptor RECORDER_RELEASE returns a frozen recorder to RECORDING. -/
  | recorderRelease (via : Via)
  /-- WARD_STATUS (R359): descriptor WARD_STATUS returns eight ward status records. -/
  | wardStatus (via : Via)
  /-- WARD_REG (R320): descriptor WARD_REG reads or writes ward registers. -/
  | wardReg (w : Fin 8) (via : Via) (data : List (BitVec 32))
  /-- DEFECT_MAP_READ (R363): descriptor DEFECT_MAP_READ returns the fuse, soft and effective maps. -/
  | defectMapRead (w : Fin 8) (via : Via)
  /-- LICENCE_INSTALL (R372): descriptor LICENCE_INSTALL checks and stores a licence. -/
  | licenceInstall (via : Via) (lic : Licence)
  /-- LEAK_CLEAR (R296): descriptor LEAK_CLEAR asks a branch object to clear its latches. -/
  | leakClear (branch : Fin 16) (via : Via)
  /-- STAGE_COMPONENT (R451): descriptor STAGE_COMPONENT starts writing a component into a slot or the store flash. -/
  | stageComponent (via : Via) (part : Component) (room : Bool) (evict : List (BitVec 384))
  /-- STAGE_DONE (R452): programming of a staged component ends, the slot is judged and set PENDING. -/
  | stageDone (readOk : Bool)
  /-- ACTIVATE_SET (R457): descriptor ACTIVATE_SET cross-checks and arms a set, or cancels an armed one. -/
  | activateSet (via : Via) (m : Signed) (models shadowOk : Bool)
  /-- ACTIVATION_TICK (R458): at the activation tick the armed set is activated or cancelled. -/
  | activationTick
  /-- COMMIT_CONFIRM (R459): descriptor COMMIT_CONFIRM commits a trial slot or a live set. -/
  | commitConfirm (via : Via)
  /-- TRIAL_EXPIRY (R436): 120 s of a trial without confirmation marks it expired and runs selection. -/
  | trialExpiry
  /-- REVOKE_KEY (R466): descriptor REVOKE_KEY blows an image or licence key pair's revocation fuse. -/
  | revokeKey (via : Via) (rv : Signed)
  /-- TOKEN_SUBMIT (R444): descriptor TOKEN_SUBMIT verifies a maintenance token and applies its rights. -/
  | tokenSubmit (via : Via) (t : Signed)
  /-- TAP_TOKEN (R444): A token written to the TAP's token register is checked for the debug-unlock right. -/
  | tapToken (t : Signed)
  /-- EVIDENCE_REPORT (R442): descriptor EVIDENCE_REPORT writes a signed evidence report or the device certificate. -/
  | evidenceReport (via : Via) (signed : List (BitVec 8))
  /-- OWNER_LOCK_SET (R469): descriptor OWNER_LOCK with 1 sets the owner lock. -/
  | ownerLockSet (via : Via)
  /-- OWNER_LOCK_CLEAR (R469): descriptor OWNER_LOCK with 0 clears the owner lock under a token. -/
  | ownerLockClear (via : Via) (t : Signed)
  /-- RING_ENABLE (R396): writing RING_CTL.enable = 1 enables a ring pair when mode is READY and the set-up is valid. -/
  | ringEnable (r : Fin 32) (v : BitVec 32)
  /-- RING_DISABLE (R400): writing enable = 0 aborts outstanding descriptors and disables the pair. -/
  | ringDisable (r : Fin 32) (v : BitVec 32)
  /-- SQ_DOORBELL (R397): A write of DB_SQ makes new descriptors available for fetch. -/
  | sqDoorbell (r : Fin 32) (v : BitVec 32)
  /-- CQ_DOORBELL (R397): A write of DB_CQ frees completion slots. -/
  | cqDoorbell (r : Fin 32) (v : BitVec 32)
  /-- DESCRIPTOR_FETCH (R404): A descriptor is fetched once room allows, reserves a slot and is checked. -/
  | descriptorFetch (r : Fin 32) (d : Desc)
  /-- COALESCE_TIMEOUT (R398): coal_us after the first unsignalled completion the vector's message is sent. -/
  | coalesceTimeout (r : Fin 32)
  /-- INT_CAUSE_CLEAR (R395): clearing an INT_CAUSE bit re-arms its interrupt. -/
  | intCauseClear (v : BitVec 32)
  /-- DMA_FAILURE (R401): A host-memory access fails, ending its descriptor or disabling its pair. -/
  | dmaFailure (r : Fin 32) (acc : DmaAccess)
  /-- HDM_ACCESS (R392): A CXL.mem read or write is answered by its region's rule. -/
  | hdmAccess (write : Bool) (line : BitVec 30) (data : BitVec 512) (bad0 bad1 : BitVec 280)
  /-- HDM_DECODER_COMMIT (R390): the host commits the HDM decoder, which fails on a wrong size or interleave. -/
  | hdmDecoderCommit (gib : BitVec 16) (ways : BitVec 8)
  /-- SEGMENT_COMPLETE (R415): every 64 ticks a recorder segment's header is written and the next begun. -/
  | segmentComplete
  /-- REC_TRIGGER (R418): writing REC_CTL.trigger triggers the recorder into POST. -/
  | recTrigger
  /-- POST_SPAN_END (R419): the segment holding the post-trigger span completes and the recorder freezes. -/
  | postSpanEnd
  /-- HBM_SCRUB (R425): HBM words are scrubbed over period_h hours. -/
  | hbmScrub (offset : BitVec 36) (bad : BitVec 280)
  /-- SHARED_MEMORY_SCRUB (R425): one sett shared-memory word is scrubbed every 256 cycles. -/
  | sharedMemoryScrub (sett : Fin 40) (word : BitVec 12) (bad : BitVec 280)
  /-- L2_SCRUB (R425): one L2 word is scrubbed every 1,024 cycles. -/
  | l2Scrub (addr : BitVec 32) (bad : BitVec 280)
  /-- FLASH_SCRUB (R425): each on-chip flash sector is scrubbed daily and refreshed when worn. -/
  | flashScrub (region sector : BitVec 16) (found : FlashRead)
  /-- CORR_RATE_HOUR (R426): each hour corrected words per stack above corr_th are recorded. -/
  | corrRateHour
  /-- FLASH_COMMIT_DONE (R477): A burrow record's two program operations end and the next queued record is served. -/
  | flashCommitDone
  /-- TOKEN_REFILL (R478): A commit token is added to the flash or mirror bucket. -/
  | tokenRefill (mirror : Bool)
  /-- COUNT_RECORD_DUE (R478): 100 ms after opening or its last count record, an entry commits a count record. -/
  | countRecordDue (mirror : Bool) (code source : BitVec 16)
  /-- ENTRY_CLOSE (R478): A coalescing entry with no event for 1 s closes. -/
  | entryClose (mirror : Bool) (code source : BitVec 16)
  /-- OPERATING_SECOND (R473): the operating-seconds counter advances by one. -/
  | operatingSecond
  /-- TWIN_HELLO (R485): HELLO frames on the twin link settle the roles. -/
  | twinHello (peer : TwinPeer) (adopt : TwinAdopt) (lanes : Fin 4)
  /-- JOIN_TIMEOUT (R485): no peer within the join wait makes a shadow take over as lead. -/
  | joinTimeout
  /-- TICK_FRAME (R487): A TICK frame from the lead arrives at the shadow. -/
  | tickFrame (tick : BitVec 64)
  /-- ECHO_EXCHANGE (R489): every 64 µs ECHO frames measure and correct the shadow's tick offset. -/
  | echoExchange (t1 t2 t3 t4 : BitVec 64)
  /-- ECHO_TIMEOUT (R490): 500 µs without a measurement clears aligned. -/
  | echoTimeout
  /-- MIRROR (R491): A MIRROR checkpoint is applied to the shadow's object at its next boundary. -/
  | mirror (c : Checkpoint)
  /-- CMD (R492): A twin CMD is applied in sequence order and acknowledged. -/
  | twinCommand (seq : BitVec 16) (c : TwinCmd) (held : Option Signed)
  /-- CACK (R492): A CACK ends the resending of a CMD. -/
  | twinCack (seq : BitVec 16)
  /-- CMD_RESEND (R492): an unacknowledged CMD is resent every 2 µs. -/
  | cmdResend (seq : BitVec 16)
  /-- HANDOVER (R497): A HANDOVER CMD makes the shadow take over at once. -/
  | handover (seq : BitVec 16)
  /-- TWIN_SILENCE (R494): silence on the ALV line and twin link for silence µs makes the shadow take over. -/
  | twinSilence
  /-- LEAD_ACTIVATION (R501): the lead activates a full set once the shadow has rejoined with it. -/
  | leadActivation
  /-- TWIN_ACTIVATION_TIMEOUT (R501): no shadow rejoin within 300 s cancels the lead's activation. -/
  | twinActivationTimeout
  /-- REGISTER_LOCK (R300): writing a lock bit without a row of its own makes that register's RWL fields read-only until
  power-on reset. -/
  | registerLock (reg : Machine.Reg) (ix : BitVec 15) (v : BitVec 64)
  /-- REGISTER_WRITE (R9): A write to a register with no row of its own, ignored per field when out of range, reserved or absent. -/
  | registerWrite (reg : Machine.Reg) (ix : BitVec 15) (v : BitVec 64)
  /-- CXL_PERST_RELEASE (R68): release of CXL_PERST# lets the CXL link train, with the CXL domains on and the decoder and
  configuration space out of reset. -/
  | cxlPerstRelease
  /-- PMBUS_ALERT (R516): assertion of PMBn_ALERT# makes the PMBus master answer the alert through the alert response address. -/
  | pmbusAlert (bus : Fin 2)
deriving DecidableEq, Repr

end Sys2Proof
end

