-- ==== Sys2Proof/Decode.lean ====
section
/-!
DEFINITION. Commands spelled by words. The T840's commands arrive as register accesses, descriptors, frames, pin events and the passage
of time; the table of its commands gives none of them bits, so no word spells a command.
-/
namespace Sys2Proof

/-- The command that a word of `nbits` bits spells: none, since no row of the table gives bits. -/
def decodeTableWord (_nbits _w : Nat) : Option Instr := none

end Sys2Proof
end

