-- ==== Sys2Proof/Config.lean ====
section
/-!
DEFINITION. What the spec leaves open: constants with no body, so that nothing proved of the model rests on a value chosen
for them. Each is a log entry.
-/
namespace Sys2Proof.Config

/-- Whether a quotient that the spec rounds to the nearest, and that lies exactly between two values, is rounded up (log entry 10). -/
opaque tieUp : Int → Nat → Bool

/-- Whether a quotient whose rounding the spec does not state is rounded up (log entry 11). -/
opaque roundUp : Int → Nat → Bool

/-- What a register shows of a number outside its format, where the spec states none (log entry 12). -/
opaque outOfRange : Int → Nat

/-- Whether the flash operation under way at an input collapse with holdup_ok = 0 is completed (R480, log entry 13), by the
sequence number of the record. -/
opaque commitSurvives : Nat → Bool

/-- Whether a PORST# low pulse of 0.5 µs to 2 µs resets the T840 (R513, log entry 14), by the tray tick. -/
opaque shortPulseResets : Nat → Bool

/-- How far, in ‰, the loop of R183 moves the duty of GHS at a quick aperture (log entry 81). -/
opaque dutyStep : Nat → Nat

/-- Whether two causes decided in one tray tick, not both at its boundary, fall into one sett-clock cycle (R165, R418, log entry 80), by tick and
group; number 16 is for triggers of the recorder. -/
opaque sameCycle : Nat → Nat → Bool

/-- The words of the token challenge that the TRNG draws (R444, log entry 15), by the number of draws so far and the word. -/
opaque challenge : Nat → Nat → BitVec 32

/-- The bytes that a stage has programmed after a time in µs (R452, log entry 16): the spec bounds the rate only. -/
opaque stageProgress : Nat → Nat

/-- Which free subscription number a new subscription takes (R407, log entry 17), by the number of fetches so far. -/
opaque subPick : Nat → Nat

/-- The position field of a subscription's first completion (R407, log entry 18), by its sub_id. -/
opaque firstPosition : Nat → Nat

/-- The HBM stack, before reduction to the stacks present, that holds a 256-byte block (R410, log entry 20). -/
opaque stackOf : Nat → Nat

/-- What an input reads that Table 6-5 gives no value for (log entry 21): 0 the age of a telemetry word that never came, by its number;
1 and 2 the interval between, and the age of, pulses that never came, by input. -/
opaque unstatedInput : Nat → Nat → BitVec 32

/-- The dynamic address that the T840 gives a laser source with SETDASA (R310, log entry 91), by source. -/
opaque laserAddress : Nat → BitVec 7

/-- The credit in bytes of a BACK that the T840 sends, before its bound of 1 MiB (R321, log entry 90), by port and stream. -/
opaque bulkCredit : Nat → Nat → Nat

/-- The credit in bytes with which an outbound stream starts, before its bound of 1 MiB (R321, log entry 90), by port and stream. -/
opaque firstCredit : Nat → Nat → Nat

end Sys2Proof.Config
end

