-- ==== Sys2Proof/Machine/Events.lean ====
section
/-!
DEFINITION. The event codes of Table 20-6 (R483): class times 0x100 plus n, n from 1 in the table's order; class 0xA goes on
with the event table of chapter 21. The source numbers of Table 20-2 and the status codes of Table 0-2 (R523).
-/
namespace Sys2Proof.Machine

def Ev.ENG_OVERRUN : Nat := 0x0101
def Ev.ENG_FAULT : Nat := 0x0102
def Ev.ENG_MIGRATED : Nat := 0x0103
def Ev.ENG_MIG_REFUSED : Nat := 0x0104
def Ev.ENG_RFX_FIRE : Nat := 0x0105

def Ev.FEED_RAMP_DONE : Nat := 0x0201
def Ev.FEED_OC_FAST : Nat := 0x0202
def Ev.FEED_OC_TIMED : Nat := 0x0203
def Ev.FEED_OUT_LOST : Nat := 0x0204
def Ev.FEED_SHORT_RAMP : Nat := 0x0205
def Ev.FEED_RAMP_TO : Nat := 0x0206
def Ev.FEED_PULLDOWN : Nat := 0x0207
def Ev.FEED_LATCHED : Nat := 0x0208
def Ev.FEED_TRIP_CLEAR : Nat := 0x0209
def Ev.FEED_CLEARED : Nat := 0x020A
def Ev.FEED_FET_DAMAGED : Nat := 0x020B
def Ev.FEED_RETRY_RESUMED : Nat := 0x020C
def Ev.FEED_COLLAPSE : Nat := 0x020D
def Ev.FEED_LEVER_OPEN : Nat := 0x020E
def Ev.FEED_LEVER_CLOSED : Nat := 0x020F
def Ev.FEED_DISCH_SLOW : Nat := 0x0210
def Ev.FEED_REVERSE : Nat := 0x0211

def Ev.SEQ_UP_DONE : Nat := 0x0301
def Ev.SEQ_DOWN_DONE : Nat := 0x0302
def Ev.SEQ_PG_TIMEOUT : Nat := 0x0303
def Ev.SEQ_CHATTER : Nat := 0x0304
def Ev.SEQ_PG_LOST : Nat := 0x0305
def Ev.SEQ_EN_DROPPED : Nat := 0x0306
def Ev.SEQ_OFF_STUCK : Nat := 0x0307
def Ev.SEQ_COLLAPSE : Nat := 0x0308
def Ev.SEQ_CHECK_FAIL : Nat := 0x0309

def Ev.FAN_BLOCKED : Nat := 0x0401
def Ev.FAN_TACH_LOST : Nat := 0x0402
def Ev.FAN_ABSENT : Nat := 0x0403
def Ev.FAN_RECOVERED : Nat := 0x0404
def Ev.FAN_FALLBACK : Nat := 0x0405
def Ev.FAN_REGISTER : Nat := 0x0406
def Ev.FAN_ZONE_FULL : Nat := 0x0407
def Ev.FAN_FLOW_LOW : Nat := 0x0408
def Ev.FAN_FLOW_OK : Nat := 0x0409
def Ev.FAN_CRIT_TRIP : Nat := 0x040A
def Ev.FAN_CRIT_CLEAR : Nat := 0x040B
def Ev.FAN_CRIT_SENSOR : Nat := 0x040C
def Ev.FAN_CRIT_BLIND : Nat := 0x040D

def Ev.LEAK_MOISTURE : Nat := 0x0501
def Ev.LEAK_WET : Nat := 0x0502
def Ev.LEAK_FLOODED : Nat := 0x0503
def Ev.LEAK_CLEARED : Nat := 0x0504
def Ev.LEAK_CLEAR_REFUSED : Nat := 0x0505

def Ev.WARD_CLASS_EXCEEDED : Nat := 0x0601
def Ev.WARD_HARP_DEEP : Nat := 0x0602
def Ev.WARD_ALERT : Nat := 0x0603
def Ev.WARD_GUARD_ON : Nat := 0x0604
def Ev.WARD_GUARD_OFF : Nat := 0x0605
def Ev.WARD_PREARM_BUDGET : Nat := 0x0606
def Ev.WARD_MARGIN_WITHDRAWN : Nat := 0x0607
def Ev.WARD_TRAY_SHED : Nat := 0x0608
def Ev.WARD_TRAY_RELEASE : Nat := 0x0609
def Ev.WARD_AVS_FAULT : Nat := 0x060A
def Ev.WARD_LINK_UP : Nat := 0x060B
def Ev.WARD_LINK_DEGRADED : Nat := 0x060C
def Ev.WARD_LINK_DOWN : Nat := 0x060D
def Ev.WARD_LINK_FAIL : Nat := 0x060E
def Ev.WARD_EVENT : Nat := 0x060F
def Ev.WARD_SEC_FAIL : Nat := 0x0610
def Ev.WARD_LASER_ALS : Nat := 0x0611
def Ev.WARD_LASER_FAULT : Nat := 0x0612
def Ev.WARD_LASER_SHUT : Nat := 0x0613
def Ev.WARD_BU_STATE : Nat := 0x0614
def Ev.WARD_BU_FAIL : Nat := 0x0615
def Ev.WARD_TEST_DONE : Nat := 0x0616
def Ev.WARD_ID_MISMATCH : Nat := 0x0617
def Ev.WARD_TOPOLOGY_MISMATCH : Nat := 0x0618
def Ev.WARD_READY : Nat := 0x0619
def Ev.WARD_DEGRADED : Nat := 0x061A
def Ev.WARD_HELD : Nat := 0x061B
def Ev.WARD_FAILED : Nat := 0x061C
def Ev.DEF_FUSE_PASS : Nat := 0x061D
def Ev.DEF_SOFT_PASS : Nat := 0x061E
def Ev.DEF_NEW : Nat := 0x061F
def Ev.DEF_MAP_MISMATCH : Nat := 0x0620
def Ev.DEF_SOFT_COMMIT_FAIL : Nat := 0x0621
def Ev.DEF_SOFT_SHRINK : Nat := 0x0622
def Ev.WARD_LIC_INSTALLED : Nat := 0x0623
def Ev.WARD_LIC_REJECTED : Nat := 0x0624
def Ev.WARD_UNLICENSED : Nat := 0x0625
def Ev.PART_RESET_DONE : Nat := 0x0626
def Ev.PART_DRAIN_TO : Nat := 0x0627
def Ev.PART_RESET_RECOVERED : Nat := 0x0628

def Ev.IMG_BOOT : Nat := 0x0701
def Ev.IMG_TIE : Nat := 0x0702
def Ev.IMG_SLOT_INVALID : Nat := 0x0703
def Ev.IMG_TRIAL_SKIPPED : Nat := 0x0704
def Ev.IMG_TRIAL_EXPIRED : Nat := 0x0705
def Ev.IMG_INERT : Nat := 0x0706
def Ev.IMG_CUB_BAD : Nat := 0x0707
def Ev.IMG_KEY_MISMATCH : Nat := 0x0708
def Ev.IMG_TOKEN : Nat := 0x0709
def Ev.IMG_DEBUG_UNLOCK : Nat := 0x070A
def Ev.IMG_RESET : Nat := 0x070B
def Ev.IMG_XTAL_LOST : Nat := 0x070C
def Ev.IMG_XTAL32K_LOST : Nat := 0x070D

def Ev.UPD_STAGED : Nat := 0x0801
def Ev.UPD_ARMED : Nat := 0x0802
def Ev.UPD_ACTIVATED : Nat := 0x0803
def Ev.UPD_ACT_CANCELLED : Nat := 0x0804
def Ev.UPD_COMMITTED : Nat := 0x0805
def Ev.UPD_SVN_ADVANCED : Nat := 0x0806
def Ev.UPD_KEY_REVOKED : Nat := 0x0807
def Ev.UPD_OWNER_LOCK : Nat := 0x0808
def Ev.SET_FALLBACK : Nat := 0x0809
def Ev.SET_NONE : Nat := 0x080A

def Ev.INT_CAL_MISMATCH : Nat := 0x0901
def Ev.INT_ADC_SPARED : Nat := 0x0902
def Ev.INT_SPARE_EXHAUSTED : Nat := 0x0903
def Ev.INT_CHAN_FAULT : Nat := 0x0904
def Ev.INT_SETT_UNCORR : Nat := 0x0905
def Ev.INT_MRT_UNCORR : Nat := 0x0906
def Ev.INT_HBM_TRAIN_FAIL : Nat := 0x0907
def Ev.INT_HBM_UNCORR : Nat := 0x0908
def Ev.INT_HBM_CORR_RATE : Nat := 0x0909
def Ev.INT_APP_UNCORR : Nat := 0x090A
def Ev.INT_FLASH_UNCORR : Nat := 0x090B
def Ev.INT_FLASH_REFRESH : Nat := 0x090C
def Ev.INT_REC_TRIGGER : Nat := 0x090D
def Ev.INT_REC_FROZEN : Nat := 0x090E
def Ev.INT_REC_RELEASED : Nat := 0x090F
def Ev.INT_BRW_TORN : Nat := 0x0910
def Ev.INT_BRW_OVERFLOW : Nat := 0x0911

def Ev.TWIN_ROLE_IGNORED : Nat := 0x0A01
def Ev.TWIN_JOINED : Nat := 0x0A02
def Ev.TWIN_ROLE_CONFLICT : Nat := 0x0A03
def Ev.TWIN_ALIGNED : Nat := 0x0A04
def Ev.TWIN_TICK_LOST : Nat := 0x0A05
def Ev.TWIN_LINK_DOWN : Nat := 0x0A06
def Ev.TWIN_ALV_LOST : Nat := 0x0A07
def Ev.TWIN_TAKEOVER : Nat := 0x0A08
def Ev.TWIN_PEER_LOST : Nat := 0x0A09
def Ev.TWIN_SET_MISMATCH : Nat := 0x0A0A

def Ev.HOST_LINK_UP : Nat := 0x0B01
def Ev.HOST_LINK_DOWN : Nat := 0x0B02
def Ev.HOST_RING_ON : Nat := 0x0B03
def Ev.HOST_RING_OFF : Nat := 0x0B04
def Ev.HOST_HDM_DENIED : Nat := 0x0B05
def Ev.HOST_DMA_ERR : Nat := 0x0B06
def Ev.HOST_SUB_DROP : Nat := 0x0B07
def Ev.HOST_TIME_ANCHOR : Nat := 0x0B08

def Ev.MRT_TILE_DRAINED : Nat := 0x0C01
def Ev.MRT_CHECK_FAIL : Nat := 0x0C02
def Ev.MRT_SHADOW : Nat := 0x0C03
def Ev.MRT_JOB_WARM : Nat := 0x0C04
def Ev.MRT_JOB_COLD : Nat := 0x0C05
def Ev.MRT_JOB_MISS : Nat := 0x0C06
def Ev.MRT_JOB_FAILED : Nat := 0x0C07
def Ev.MRT_INGEST_DROP : Nat := 0x0C08

/-! Sources of Table 20-2. -/
def Src.rule (r : Nat) : Nat := 0x0800 + r
def Src.ward (w : Nat) : Nat := 0x0C00 + w
def Src.feed : Nat := 0x1000
def Src.zither : Nat := 0x1001
def Src.cooling : Nat := 0x1002
def Src.security : Nat := 0x1003
def Src.memory : Nat := 0x1004
def Src.marten : Nat := 0x1005
def Src.hostIf : Nat := 0x1006
def Src.twin : Nat := 0x1007
def Src.sense : Nat := 0x1008
def Src.setts : Nat := 0x1009
def Src.ports : Nat := 0x100A
def Src.harp : Nat := 0x100B
def Src.firmware : Nat := 0x2000
def Src.many : Nat := 0xFFFF

/-! Statuses of Table 0-2. -/
def St.ok : Nat := 0
def St.abortedDisable : Nat := 1
def St.unsupported : Nat := 2
def St.refusedState : Nat := 3
def St.refusedGuard : Nat := 4
def St.noResource : Nat := 5
def St.incompatible : Nat := 6
def St.timeout : Nat := 7
def St.busy : Nat := 8
def St.integrity : Nat := 9
def St.badDescriptor : Nat := 10
def St.badSignature : Nat := 11

end Sys2Proof.Machine
end

