-- ==== Sys2Proof/Machine/MartenCode.lean ====
section
/-!
DEFINITION. What a compiled job consists of: the formats and operations of chapter 10, and the program that the compiler's code at an SRAM
word stands for, which the spec does not encode (log entry 85).
-/
namespace Sys2Proof.Machine

/-- The element types of MX blocks (Table 10-3); `other` is any that the T840 does not support. -/
inductive MxElem where
  | e4m3 | e5m2 | e3m2 | e2m3 | e2m1 | int8 | other
deriving DecidableEq, Repr

/-- The floating-point formats of the vector unit (Table 10-7). -/
inductive FloatFmt where
  | fp32 | bf16 | fp16
deriving DecidableEq, Repr

/-- The formats that a matrix operation names: of MX the element type, the block size and whether the scale is E8M0. -/
inductive MartenFmt where
  | int8 | int4 | df8
  | mx (e : MxElem) (block : Nat) (e8m0 : Bool)
  | float (f : FloatFmt)
deriving DecidableEq, Repr

/-- The vector operations of one operand, which compute or move a value (Table 10-6). -/
inductive VecFn1 where
  | move | abs | recip | rsqrt | exp2 | log2 | tanh | sigmoid
deriving DecidableEq, Repr

/-- The vector operations of two operands; `eq`, `lt` and `le` are the comparisons. -/
inductive VecFn2 where
  | add | sub | mul | min | max | eq | lt | le
deriving DecidableEq, Repr

/-- A step of a matrix operation. Weights stand in a register bank or, in stream mode, in SRAM; addresses are bytes of SRAM or of the operand
buffer. -/
inductive MatStep where
  | bank (b : Bool) (sram : Nat)
  | clear (row : Fin 32)
  | stationary (b : Bool) (row : Fin 32) (buffer : Nat)
  | stream (sram : Nat) (row : Fin 32) (buffer : Nat)
  | drain (row : Fin 32) (buffer : Nat)
deriving DecidableEq, Repr

/-- An operation of a job. -/
inductive MartenOp where
  /-- a word of the program is read -/
  | fetch (word : Nat)
  /-- bytes from SRAM to the operand buffer, and back -/
  | load (sram buffer len : Nat)
  | store (buffer sram len : Nat)
  /-- the entry of a stream `back` entries before the newest below the latched index, to the buffer (R266) -/
  | entry (stream : Fin 64) (back buffer : Nat)
  | matrix (weights acts : MartenFmt) (steps : List MatStep)
  /-- vector operations: source and destination formats, operands and destination in the buffer -/
  | vec1 (f : VecFn1) (src dst : FloatFmt) (a to_ : Nat)
  | vec2 (f : VecFn2) (src dst : FloatFmt) (a b to_ : Nat)
  | fma (src dst : FloatFmt) (a b c to_ : Nat)
  | select (src dst : FloatFmt) (c a b to_ : Nat)
  /-- the sum, or the maximum, across the lanes -/
  | reduce (sum : Bool) (src dst : FloatFmt) (a to_ : Nat)
  /-- 32-bit or 48-bit integers to FP32 -/
  | fromInt (wide : Bool) (a to_ : Nat)
  | toInt (four : Bool) (src : FloatFmt) (a to_ : Nat)
  | toMx (e : MxElem) (src : FloatFmt) (a to_ : Nat)
  /-- the FP32 value at a buffer address for the job's slot number `k` -/
  | output (k : Nat) (a : Nat)
deriving DecidableEq, Repr

end Sys2Proof.Machine

namespace Sys2Proof.Config
open Sys2Proof.Machine

/-- The operations that the program at an SRAM word of an SRAM, by its 32-bit words, stands for (log entry 85). -/
opaque compiled : List (Nat × BitVec 32) → Nat → List MartenOp

/-- The order in which the lanes of a vector enter the tree of a reduction (R241, log entry 86), by the number of lanes and the place. -/
opaque treeLane : Nat → Nat → Nat

/-- A 2-ulp function's result, before its limits (R241, log entry 86), by function and FP32 operand. -/
opaque approx : VecFn1 → BitVec 32 → BitVec 32

/-- How a comparison writes its answer in a lane (R241, log entry 86). -/
opaque truth : FloatFmt → Bool → BitVec 32

/-- Whether the first of two zeros of opposite signs is the smaller or greater (log entry 86). -/
opaque zeroFirst : Bool

/-- An accumulator after a pairing that Table 10-5 does not allow (log entry 86), by its number. -/
opaque oddPairing : Nat → BitVec 48

/-- The word address reported for a parity error of the array (R226, log entry 86), by weight row or accumulator. -/
opaque parityWord : Nat → BitVec 18

end Sys2Proof.Config
end

