-- ==== Sys2Proof/Machine/Tab.lean ====
section
/-!
DEFINITION. Sparse tables: every numbered thing the spec gives the T840 (a channel's register, an engine, a word of
memory) is held as a list of (number, value) pairs in ONE canonical form: numbers strictly rising, no value equal to
what an unlisted number reads as. Equal tables are then equal data, and the table after reset is empty.
-/
namespace Sys2Proof.Machine

/-- A sparse table; an unlisted number reads as the default of the operation that reads it. -/
abbrev Tab (α : Type) := List (Nat × α)

/-- The value at number `k`, `d` where the table lists none. -/
def Tab.get (d : α) : Tab α → Nat → α
  | [], _ => d
  | (j, v) :: t, k => if j = k then v else Tab.get d t k

/-- The table without number `k`. -/
def Tab.del : Tab α → Nat → Tab α
  | [], _ => []
  | (j, v) :: t, k => if j = k then Tab.del t k else (j, v) :: Tab.del t k

/-- The table with `(k, v)` put in before the first greater number. -/
def Tab.ins : Tab α → Nat → α → Tab α
  | [], k, v => [(k, v)]
  | (j, u) :: t, k, v => if k < j then (k, v) :: (j, u) :: t else (j, u) :: Tab.ins t k v

/-- The table with `v` at number `k`; writing the default removes the entry. -/
def Tab.set [DecidableEq α] (d : α) (t : Tab α) (k : Nat) (v : α) : Tab α :=
  if v = d then Tab.del t k else Tab.ins (Tab.del t k) k v

/-- The table with `f` applied at number `k`. -/
def Tab.upd [DecidableEq α] (d : α) (t : Tab α) (k : Nat) (f : α → α) : Tab α :=
  Tab.set d t k (f (Tab.get d t k))

/-- Numbers strictly rising, all at least `lo`. -/
def Tab.sortedFrom : Tab α → Nat → Bool
  | [], _ => true
  | (j, _) :: t, lo => decide (lo ≤ j) && Tab.sortedFrom t (j + 1)

/-- The canonical form: numbers strictly rising and no entry equal to the default. -/
def Tab.wf [DecidableEq α] (d : α) (t : Tab α) : Bool :=
  Tab.sortedFrom t 0 && t.all (fun e => decide (e.2 ≠ d))

/-- `f` applied to every number below `n` in turn. -/
def upTo : Nat → (Nat → σ → σ) → σ → σ
  | 0, _, s => s
  | n + 1, f, s => f n (upTo n f s)

/-- `f` applied in turn to the members of a list. -/
def each : List ι → (ι → σ → σ) → σ → σ
  | [], _, s => s
  | i :: l, f, s => each l f (f i s)

end Sys2Proof.Machine
end

