-- ==== Sys2Proof/Machine/WordCode.lean ====
section
/-!
DEFINITION. The word code (R421): a Reed–Solomon codeword of 35 symbols over GF(2^8) for each 256-bit word of memory, its encoder, and
what a read of a word with bad bits answers.
-/
namespace Sys2Proof.Machine

/-- Twice an element of GF(2^8) with the polynomial x^8 + x^4 + x^3 + x^2 + 1. -/
def gfDouble (a : Nat) : Nat := if 256 ≤ 2 * a then Nat.xor (2 * a) 0x11D else 2 * a

/-- The product of two elements. -/
def gfMul (a b : Nat) : Nat :=
  ((List.range 8).foldl (fun (p : Nat × Nat) i => (if b.testBit i then Nat.xor p.1 p.2 else p.1, gfDouble p.2)) (0, a)).1

/-- α to the power `n`. -/
def gfPow : Nat → Nat
  | 0 => 1
  | n + 1 => gfDouble (gfPow n)

/-- A codeword, or the bad bits of one: the 256 data bits below, the 24 check bits above. -/
abbrev CodeWord := BitVec 280

/-- The place of the coefficient of x^`d` in a codeword: data byte 34 − d, or check bits [8d + 7 : 8d]. -/
def symbolAt (d : Nat) : Nat := if d < 3 then 256 + 8 * d else 8 * (34 - d)

/-- The coefficient of x^`d`. -/
def symbol (c : CodeWord) (d : Nat) : Nat := (c.extractLsb' (symbolAt d) 8).toNat

/-- The coefficients from that of x^34 down. -/
def symbols (c : CodeWord) : List Nat := (List.range 35).map fun i => symbol c (34 - i)

/-- The check bits of 256 data bits: the remainder of the data polynomial times x^3 by (x + 1)(x + α)(x + α²), which is
x³ + 7x² + 14x + 8. -/
def checkBits (d : BitVec 256) : BitVec 24 :=
  let r := (List.range 32).foldl (fun (r : Nat × Nat × Nat) i =>
    let f := Nat.xor (d.extractLsb' (8 * i) 8).toNat r.1
    (Nat.xor r.2.1 (gfMul f 7), Nat.xor r.2.2 (gfMul f 14), gfMul f 8)) (0, 0, 0)
  BitVec.ofNat 24 (r.1 * 65536 + r.2.1 * 256 + r.2.2)

/-- A word as written. -/
def encodeWord (d : BitVec 256) : CodeWord := checkBits d ++ d

/-- The value at x = `r`. -/
def syndrome (c : CodeWord) (r : Nat) : Nat := (symbols c).foldl (fun a x => Nat.xor (gfMul a r) x) 0

/-- What a read finds of a word. -/
inductive WordRead where
  | good | corrected | uncorrectable
deriving DecidableEq, Repr

/-- The decoder: the codeword it takes the bits for, and what it found. One bad symbol is corrected, two are detected. -/
def decodeWord (c : CodeWord) : WordRead × CodeWord :=
  let a := syndrome c 1
  let b := syndrome c 2
  let d := syndrome c 4
  if a = 0 ∧ b = 0 ∧ d = 0 then (.good, c)
  else
    match (List.range 35).find? fun p => a != 0 && gfMul a (gfPow p) == b && gfMul b (gfPow p) == d with
    | some p => (.corrected, c ^^^ (BitVec.ofNat 280 a <<< symbolAt p))
    | none => (.uncorrectable, c)

/-- A read of a word whose bits `bad` are wrong: the code is linear, so what the decoder finds and the bits that stay wrong depend on
`bad` alone. -/
def readBad (bad : CodeWord) : WordRead × CodeWord := if bad = 0 then (.good, 0) else decodeWord bad

/-- The bits that a write of the data bits `[lo + n : lo]` leaves wrong: one bad symbol is corrected first; the word is good once no data bit is
wrong. -/
def writeBad (bad : CodeWord) (lo n : Nat) : CodeWord :=
  if bad = 0 then 0 else
    let c := (readBad bad).2
    let mask : CodeWord := (BitVec.ofNat 280 (2 ^ n - 1)) <<< lo
    let rest := c &&& ~~~mask
    if rest.extractLsb' 0 256 = 0 then 0 else rest

end Sys2Proof.Machine
end

