-- ==== Sys2Proof/Machine/Parts.lean ====
section
/-!
DEFINITION. The state of the T840's blocks that is not a register: one structure per block, plain data. What a register shows
is held in the register bank (Machine/State.lean), so that every quantity has one home.
-/
namespace Sys2Proof.Machine

/-! ## Chapters 00 to 03: the part, its straps, supplies and resets -/

/-- The three variants (R1). -/
inductive Variant where
  | qa | qb | qc
deriving DecidableEq, Repr

/-- The straps as sampled at PORST# release (R35). -/
structure Straps where
  tcrit : Nat := 0
  tchan : Nat := 0
  twinRole : Nat := 0
  bootHold : Bool := false
  fandef : Nat := 0
  xspiMode : Bool := false
deriving DecidableEq, Repr

/-- Reset, supplies and clocks. -/
structure Part where
  variant : Variant := .qa
  straps : Straps := {}
  /-- PORST# is low; VAO is below its threshold; VSETT, VCORE is lost -/
  held : Bool := true
  vaoLow : Bool := false
  vsettLost : Bool := false
  vcoreLost : Bool := false
  /-- the power-up stage of Table 3-9 that has been started -/
  stage : Nat := 0
  /-- cause of the pending power-on reset of R58 -/
  pendingPor : Option Nat := none
  /-- tray firmware is halted: no core runs it -/
  halted : Bool := true
  xtal32kLost : Bool := false
  /-- the firmware watchdog period in µs, and the µs since PORST# release of its last refresh (R59) -/
  watchdogUs : Nat := 2000000
  refreshAt : Nat := 0
  /-- the application cores that tray firmware has parked, bit i for core i; the PMBus (bits 0 and 1) and board I3C masters (bits 2 to 5) that
  it has enabled (Table 3-8) -/
  parked : Nat := 0
  masters : Nat := 0
  /-- PMBus alerts answered, by bus -/
  alerts : Tab Nat := []
  /-- CXL_PERST# is low -/
  perstLow : Bool := true
deriving DecidableEq, Repr

/-! ## Chapter 04: sense channels, windows, meters -/

/-- The settings of a window that take effect as one unit (R87). -/
structure WinSet where
  hyst : Nat
  filter : Nat
  fhEn : Bool
  whEn : Bool
  wlEn : Bool
  flEn : Bool
  edgeEn : Bool
  arm : Bool
  fh : Int
  wh : Int
  wl : Int
  fl : Int
deriving DecidableEq, Repr

/-- The two counts of a threshold's glitch filter (R85). -/
structure Filt where
  sets : Nat := 0
  clears : Nat := 0
deriving DecidableEq, Repr

/-- A window's hidden state: active settings (none: those of reset), filter counts by threshold (0 FH, 1 WH, 2 WL, 3 FL), and the
edges its latest sample fired (bit j is the edge of signal value k = 4 + j, R89). Its levels are `SNS_WSTAT`. -/
structure Window where
  act : Option WinSet := none
  filt : Tab Filt := []
  edges : Nat := 0
  /-- a commit waits for the next aperture (R87) -/
  commitDue : Bool := false
deriving DecidableEq, Repr

/-- Where a channel's live recalibration stands (Table 4-5). -/
inductive CalPhase where
  /-- not under recalibration -/
  | idle
  /-- t0 to t1: both convert, the own converter supplies -/
  | paired
  /-- t1 to t2: the spare supplies, the own converter calibrates -/
  | standIn
  /-- t2 to t3: both convert again -/
  | returning
deriving DecidableEq, Repr

/-- A sense channel's hidden state: its latest aperture, its last three words, newest first, and its last good word (R83), its recalibration
with the aperture of t0 or t2 (R78, R79), the calibration that its own converter's coefficients come from, by tick (none: the fused ones), and
the one before, and the tick and the serving die temperature of its last calibration (R82). -/
structure Channel where
  ap : Nat := 0
  recent : List Nat := []
  lastGood : Nat := 0
  phase : CalPhase := .idle
  attempt : Nat := 0
  calAp : Nat := 0
  coef : Option Nat := none
  coefWas : Option Nat := none
  calTick : Nat := 0
  calTemp : Option Int := none
deriving DecidableEq, Repr

/-- A meter's hidden state (R92, R93): the word each channel gave at its latest common aperture, the exact products of the averaging
span (in units of 2^-62 W) and their number, the fractions carried below 1 µJ (in units of 2^-62/20 µJ), and the latched upper
halves (R96). -/
structure Meter where
  v : Option (Nat × Int) := none
  i : Option (Nat × Int) := none
  sum : Int := 0
  count : Nat := 0
  fracF : Nat := 0
  fracR : Nat := 0
  upperF : Nat := 0
  upperR : Nat := 0
deriving DecidableEq, Repr

/-- Hidden state of the sense fabric. -/
structure Sense where
  windows : Tab Window := []
  channels : Tab Channel := []
  meters : Tab Meter := []
  /-- channels waiting for a recalibration (R77) -/
  waiting : List Nat := []
  /-- a pass over all channels runs (`SNS_CALSTAT.pass_busy`) and started at this tick -/
  calStart : Nat := 0
  quickOut : Bool := false
  generalOut : Bool := false
  /-- window signals whose edges are queued to tray firmware (R91), oldest first -/
  edgeQueue : List Nat := []
  /-- the sense domains that are off: 40 to 46 and 48 to 52 (R91) -/
  off : List Nat := []
deriving DecidableEq, Repr

/-! ## Chapters 05 and 06: setts, loop engines, reflex matrix, mailbox -/

/-- The engine states of Table 5-3. -/
inductive EngState where
  | idle | stopped | running | faulted | migrating
deriving DecidableEq, Repr

/-- An entry of an engine's output queue (R104, R137). -/
inductive OutEntry where
  /-- WR: binding kind, index and value -/
  | write (kind index : Nat) (value : Word)
  /-- WPR: slot, ward and the four words of the request block (R143) -/
  | port (slot ward : Nat) (w0 w1 w2 w3 : Word)
  /-- EVT: code and the two data words -/
  | event (code : Nat) (hi lo : Word)
  /-- MBX: tag and value -/
  | mail (tag : Nat) (value : Word)
deriving DecidableEq, Repr

/-- Registers, flags and timers of an engine (Table 6-1, Table 6-2). -/
structure EngRegs where
  g : Tab Word := []
  z : Bool := false
  n : Bool := false
  q : Bool := false
  qs : Bool := false
  tm : Tab Word := []
deriving DecidableEq, Repr

/-- A loop engine (R99, R130). `start` holds its registers at the start of the tick, `undo` the private words the tick has
overwritten with their old values, newest first (R109). -/
structure Engine where
  state : EngState := .idle
  obj : Nat := 0
  cause : Nat := 0
  consec : Nat := 0
  handover : Bool := false
  cmd : Nat := 0
  cmdStatus : Nat := 0
  lastUsed : Nat := 0
  maxUsed : Nat := 0
  overruns : Nat := 0
  binds : Tab (Nat × Nat) := []
  regs : EngRegs := {}
  first : Bool := false
  mig : Bool := false
  ovr : Bool := false
  /-- the next tick is the first after a START, after a migration -/
  startDue : Bool := false
  migDue : Bool := false
  srcLayout : Nat := 0
  pc : Nat := 0
  /-- a tick runs; its cycles used; the half-microsecond of its boundary -/
  inTick : Bool := false
  used : Nat := 0
  tickAt : Nat := 0
  imem : Tab Word := []
  /-- instruction-memory words, registers (1 to 15), the flags (16), timers (17 to 20) and queue (21) whose parity is wrong -/
  badWords : List Nat := []
  badRegs : List Nat := []
  scan : Nat := 0
  queue : List OutEntry := []
  stores : List (Nat × Word) := []
  start : EngRegs := {}
  undo : List (Nat × Word) := []
  /-- the input snapshot by slot times 16 plus sel (R103) -/
  snap : Tab Word := []
  /-- edges since the previous snapshot, by channel (R141) -/
  edges : Tab Nat := []
  /-- busy, status and read data of the latest ward-port request of a slot (R143) -/
  reqBusy : List Nat := []
  reqStatus : Tab Nat := []
  reqData : Tab Word := []
deriving DecidableEq, Repr

/-- The one migration (R115 to R118). -/
structure Migration where
  src : Nat := 0
  dst : Nat := 0
  /-- the copy of R116 has been made -/
  copied : Bool := false
  /-- the state src had when the copy was made -/
  srcStopped : Bool := false
  /-- the half-microsecond of the copy -/
  half : Nat := 0
deriving DecidableEq, Repr

/-- An entry of the mailbox of tray firmware (R145). -/
structure Mail where
  obj : Nat
  engine : Nat
  tag : Nat
  value : Word
  /-- the sett-clock cycle of its commit -/
  cycle : Nat := 0
deriving DecidableEq, Repr

/-- A common-area store that a yield has committed (R137): its sett-clock cycle, its engine, the word by its key in shared memory. -/
structure Commit where
  cycle : Nat
  engine : Nat
  key : Nat
  value : Word
deriving DecidableEq, Repr

/-- Hidden state of setts and reflex matrix. -/
structure Setts where
  engines : Tab Engine := []
  /-- sett shared memory by sett times 32,768 plus word offset (R99) -/
  shmem : Tab Word := []
  /-- bad bits of shared memory by word of the word code: eight words of the memory (R421) -/
  sharedBad : Tab CodeWord := []
  /-- common-area stores committed since their sett's latest boundary, in the order of the yields, and the words that they overwrote -/
  commits : List Commit := []
  before : List (Nat × Word) := []
  /-- firmware values collected for the next boundary: key as in shmem, value (R100), oldest first -/
  fwWrites : List (Nat × Word) := []
  /-- the half-microsecond of each sett's latest boundary, plus 1 -/
  lastHalf : Tab Nat := []
  mig : Migration := {}
  /-- disabled setts whose engines stop at the next boundary (R120) -/
  stopDue : List Nat := []
  /-- engines of ward governors that tray firmware has bound and has yet to start (R337) -/
  startDue : List Nat := []
  /-- the value an object last committed to an output, by (object times 16 plus kind) times 512 plus index (R142) -/
  outs : Tab Word := []
  mailbox : List Mail := []
  /-- reflex rules that are true at present (R121), and rules whose actions are in force (`RFX_STAT.active`), ascending -/
  trueRules : List Nat := []
  activeRules : List Nat := []
deriving DecidableEq, Repr

/-! ## Chapter 07: the zither sequencer -/

/-- A zither entry in its group's run (R159 to R167). -/
structure ZEntry where
  /-- the fields of `ZIT_ESTAT`: phase 0 OFF, 1 WAIT, 2 RAMP, 3 GOOD, 4 OFF_WAIT; chatters (counted without bound); fault; good_us -/
  phase : Nat := 0
  chatters : Nat := 0
  fault : Nat := 0
  goodUs : Nat := 0
  /-- the sequencer drives the EN on -/
  on : Bool := false
  /-- the tick at which the EN fell due, and was dropped -/
  onAt : Nat := 0
  offAt : Nat := 0
  /-- the good condition as last judged, and the tick from which it has held -/
  cond : Bool := false
  condAt : Nat := 0
  good : Bool := false
  goodAt : Nat := 0
  /-- the present false-good interval began within the watch; it has been counted; its loss has been judged (R163) -/
  inWatch : Bool := false
  counted : Bool := false
  lost : Bool := false
  /-- the present drop of the EN has been judged (R164) -/
  dropSeen : Bool := false
deriving DecidableEq, Repr

/-- Hidden state of a zither group. State, status and causes are `ZIT_GSTAT`. -/
structure ZGroup where
  start : Nat := 0
  /-- the tick at which its power-up completed -/
  doneAt : Option Nat := none
  dwellEnd : Nat := 0
  /-- the common start of its last power-up (R342) -/
  upStart : Option Nat := none
  /-- the tick in which its last abort was decided (R165) -/
  decided : Option Nat := none
deriving DecidableEq, Repr

/-- Hidden state of the zither sequencer. -/
structure Zither where
  entries : Tab ZEntry := []
  groups : Tab ZGroup := []
  /-- every EN pad is released to high impedance (R34) -/
  released : Bool := true
  /-- the tick from which the 1 ms of R169 counts -/
  redriveFrom : Option Nat := none
  /-- levels of PG0 to PG127: the inputs that are high -/
  pgHigh : List Nat := []
deriving DecidableEq, Repr

/-! ## Chapter 08: feeds and insertion -/

/-- Hidden state of one feed (R179, R180). Its gate state is `FEED_STAT.gda` or `gdb`. -/
structure FeedSide where
  onAt : Nat := 0
  confirmed : Bool := false
  /-- consecutive apertures with the feed voltage more than 1.0 V below the tray input -/
  sag : Nat := 0
  /-- a reverse episode is open, and the most negative current in it; the number of closed episodes not yet recorded, and theirs -/
  episode : Bool := false
  worst : Int := 0
  held : Nat := 0
  heldWorst : Int := 0
  lastRec : Option Nat := none
  /-- the µs from which the conditions to turn the gate on have held -/
  okFrom : Option Nat := none
deriving DecidableEq, Repr

/-- Hidden state of feed and insertion control. -/
structure Feed where
  a : FeedSide := {}
  b : FeedSide := {}
  /-- the aperture of the last sag judgement, plus 1 -/
  sagAp : Nat := 0
  /-- the µs at which the admission conditions will have held for t_settle as it was at their start (R182, R198) -/
  settleDue : Option Nat := none
  /-- the µs from which the output has been near V_in, and more than 10 V below the profile, in RAMP (R183, R187) -/
  nearFrom : Option Nat := none
  lowFrom : Option Nat := none
  /-- the duty of the pulse train on GHS in RAMP, ‰ (R183) -/
  duty : Nat := 0
  /-- the µs of ramp start, output voltage word at ramp start, and the settings taken at ramp start (R183, R198) -/
  rampAt : Nat := 0
  vStart : Int := 0
  dvdt : Nat := 0
  iMax : Nat := 0
  eMax : Nat := 0
  rampTo : Nat := 0
  /-- E_fet in units of 1/(4000 · 2^18) mJ, and the aperture it was last added at, plus 1 (R184) -/
  energy : Int := 0
  energyAp : Nat := 0
  /-- the ramp has ended and GHS is high under the gate check; the GHS gate has been confirmed (R186) -/
  ghsHigh : Bool := false
  ghsAt : Nat := 0
  ghsConfirmed : Bool := false
  peak : Int := 0
  /-- the tick from which the WH level of window 0 has stood, and t_oc as the timer took it (R188) -/
  ocFrom : Nat := 0
  tOc : Nat := 0
  retryEnd : Nat := 0
  onAt : Nat := 0
  removeEnd : Nat := 0
  /-- a discharge waits for the gate or runs, and since when (R196) -/
  dischWant : Bool := false
  disch : Bool := false
  dischAt : Nat := 0
  /-- the burrow replay of R194 has been made -/
  replayed : Bool := false
deriving DecidableEq, Repr

/-! ## Chapter 09: harp arbiter and AVSBus -/

/-- What the T840 drives at the GHS ball: low, the 1 MHz pulse train of R183 at a duty in ‰, or high. -/
inductive GhsLevel where
  | low
  | train (duty : Nat)
  | high
deriving DecidableEq, Repr

/-- What an AVSBus frame in flight does (R219). -/
inductive AvsFrame where
  /-- a write with commit: the setpoint, and its attempt 0 to 2, or 3 for a resend under fault (R220) -/
  | write (mv attempt : Nat)
  | read
  | status
deriving DecidableEq, Repr

/-- Hidden state of a ward's harp arbiter and AVSBus master. Codes and counts are `HARP_WSTAT`, `HARP_WUPS`, `HARP_WRES`. -/
structure Harp where
  /-- the tick of the code's last change, and of its last change to a stronger code -/
  changeAt : Nat := 0
  upAt : Option Nat := none
  /-- the latest committed setpoint, a newer one that waits, the frame in flight -/
  latest : Option Nat := none
  next : Option Nat := none
  frame : Option AvsFrame := none
  /-- the µs of the last write tried, and of the last voltage read -/
  lastTry : Nat := 0
  lastPoll : Nat := 0
deriving DecidableEq, Repr

/-! ## Chapters 10 and 11: Marten -/

/-- Where a job's instance stands (R245, R246). -/
inductive JobPhase where
  | absent | released | running | suspended
deriving DecidableEq, Repr

/-- A job's instance: its phase, the tick of its release plus 1, and the wr_index of each stream latched at its start (R266); the operations of
its program and how many have run; its outputs so far by slot number, none for a NaN (R243); of a suspended job, the weight registers and
accumulators it parked (R246). -/
structure MJob where
  phase : JobPhase := .absent
  since : Nat := 0
  latched : Tab Nat := []
  prog : List MartenOp := []
  ran : Nat := 0
  outs : List (Nat × Option Word) := []
  parked : Option (Tab Byte × Tab (BitVec 48)) := none
deriving DecidableEq, Repr

/-- What the T840 maintains of a stream entry (Table 11-4): entries written, missing spans, and the tick from which the history is
unbroken; the position after the last sample (of telemetry, the tick after the last frame) that came, and the tick that ended a missing span of
more than 3 µs (R265). -/
structure MStream where
  wr : Nat := 0
  gaps : Nat := 0
  from_ : Nat := 0
  expect : Nat := 0
  gapAt : Option Nat := none
deriving DecidableEq, Repr

/-- A tile. State, status and counts are its `MRT_` registers. -/
structure Tile where
  /-- the tile enters RUN at the next frame start (R250) -/
  runDue : Bool := false
  /-- a drain ends in OFF -/
  toOff : Bool := false
  /-- the tick of the present frame plus 1; the fast window runs -/
  frame : Nat := 0
  fast : Bool := false
  jobs : Tab MJob := []
  streams : Tab MStream := []
  /-- SRAM by 32-bit word; job table and stream table by entry times 8 plus word -/
  sram : Tab Word := []
  jobTable : Tab Word := []
  streamTable : Tab Word := []
  /-- the operand buffer by 32-bit word -/
  buffer : Tab Word := []
  /-- the two banks of weight registers by byte, 2,048 to a bank: 1,024 elements and the scales of their blocks; the accumulators by row times 32
  plus column, FP32 in their low bits -/
  banks : Tab Byte := []
  acc : Tab (BitVec 48) := []
  /-- bad bits by word of the word code: SRAM from 0, the operand buffer from 262,144, job and stream tables from 270,336 -/
  bad : Tab CodeWord := []
  /-- parity errors: weight rows (bank times 32 plus row), accumulators -/
  badRows : List Nat := []
  badAcc : List Nat := []
  /-- the word that the scrubber reads next -/
  scrub : Nat := 0
  aborted : Nat := 0
  completed : Nat := 0
deriving DecidableEq, Repr

/-- An output slot: its value and the half-microsecond of its last write, none if never written (R269). -/
structure MSlot where
  value : Word := 0
  half : Option Nat := none
deriving DecidableEq, Repr

/-- The DF8 blocks a channel collects (R263): the number of the block to be written next, and the words present by position. -/
structure Collect where
  next : Nat := 0
  words : List (Nat × Nat) := []
deriving DecidableEq, Repr

/-- Hidden state of Marten. -/
structure Marten where
  tiles : Tab Tile := []
  slots : Tab MSlot := []
  collect : Tab Collect := []
  /-- words in the ingest queue, and the aperture up to which it has been emptied (R264) -/
  queue : Nat := 0
  queueAp : Nat := 0
  /-- the tick of the last MRT_INGEST_DROP of a channel, plus 1 -/
  dropAt : Tab Nat := []
  /-- telemetry records that wait to be written into rings: source, word, and the tick of the frame's arrival -/
  telem : List (Nat × Word × Nat) := []
  /-- the largest offer of the present window by ward, and the tick of the last window end (R270) -/
  offerMax : Tab Nat := []
  offerAt : Nat := 0
deriving DecidableEq, Repr

/-! ## Chapter 12: cooling -/

/-- A cooling output. State, retries and drive are `FAN_OSTAT`. -/
structure FanOut where
  /-- the start of the running check, the last judgement, and whether the check is a retry -/
  checkAt : Nat := 0
  judgedAt : Nat := 0
  retry : Bool := false
  /-- the duty frozen at loss, ‰ -/
  frozen : Nat := 0
  /-- the tick of the last refresh of the register path (R278) -/
  refreshed : Option Nat := none
  /-- edges of a recovery under way, oldest first (R287) -/
  good : List Nat := []
  /-- the drive that row 5 of Table 12-2 gave last -/
  row5 : Nat := 0
deriving DecidableEq, Repr

/-- A pulse input: pulses since power-on reset, and the ticks of the last two. -/
structure Pulse where
  count : Nat := 0
  last : Option Nat := none
  prev : Option Nat := none
deriving DecidableEq, Repr

/-- A flow meter: the pulse counts at its last ten updates, newest first, and the ticks from which the flow has been low, good. -/
structure Flow where
  counts : List Nat := []
  lowFrom : Option Nat := none
  okFrom : Option Nat := none
deriving DecidableEq, Repr

/-- The critical comparator (R298, R299): consecutive results at or above the threshold by sensor, consecutive results that meet the
release, the latest readings (none: failed), and the tick at which the grace started. -/
structure Crit where
  hotA : Nat := 0
  hotB : Nat := 0
  cool : Nat := 0
  a : Option Int := none
  b : Option Int := none
  graceAt : Nat := 0
deriving DecidableEq, Repr

/-- Hidden state of cooling. -/
structure Cooling where
  outs : Tab FanOut := []
  /-- FTACH0 to 15, PTACH0 to 3 (16 to 19), FLOW0 to 7 (20 to 27) -/
  pulses : Tab Pulse := []
  flows : Tab Flow := []
  crit : Crit := {}
  /-- the levels of each zone that are set (bit i), and the zones that are full -/
  levels : Tab Nat := []
  full : List Nat := []
  /-- the last 1,000 samples of the general channels that sense an output's current, newest first -/
  currents : Tab (List Nat) := []
deriving DecidableEq, Repr

/-! ## Chapter 20: the burrow -/

/-- A burrow or mirror record (R472). Its data are the fields its table names, in order, as numbers. -/
structure Rec where
  kind : Nat := 1
  prog : Bool := false
  code : Nat
  source : Nat
  packId : Nat := 0
  seq : Nat := 0
  opSeconds : Nat := 0
  powerCycles : Nat := 0
  bootUs : Nat := 0
  data : List Nat := []
deriving DecidableEq, Repr

/-- A coalescing entry (R478): the events not yet covered by a count record, the first and last of them, and the µs at which it opened
or committed its last count record. -/
structure Coal where
  code : Nat
  source : Nat
  /-- the program-defined mark and the pack of the record that opened it -/
  prog : Bool := false
  packId : Nat := 0
  count : Nat := 0
  firstUs : Nat := 0
  lastUs : Nat := 0
  since : Nat := 0
  /-- the tick of its latest event -/
  lastAt : Nat := 0
deriving DecidableEq, Repr

/-- One path into the burrow's flash or its mirror (R478, R479). -/
structure CoalPath where
  tokens : Nat
  entries : List Coal := []
  many : List Coal := []
  overflow : Option Coal := none
  /-- the tick of the latest refill of the bucket -/
  refillAt : Nat := 0
deriving DecidableEq, Repr

/-- The open entries of a path. -/
def CoalPath.open_ (p : CoalPath) : List Coal := p.entries ++ p.many ++ p.overflow.toList

/-- The count record of an entry (Table 20-3), on a record that gives code, source and times. -/
def Coal.counts (e : Coal) (r : Rec) : Rec :=
  { r with kind := 2, prog := e.prog, packId := e.packId, data := [e.count, e.firstUs, e.lastUs] }

/-- The burrow. -/
structure Burrow where
  /-- records committed to flash, oldest first (R476); a false mark is a torn record -/
  flash : List Rec := []
  nextSeq : Nat := 0
  torn : Nat := 0
  /-- records with a token, waiting for or in their two program operations, oldest first -/
  flight : List Rec := []
  prio : List Rec := []
  /-- the records raised so far in the cycle that a command decides, while it decides it (R525); none between commands -/
  batch : Option (List Rec) := none
  /-- the flash path, the mirror path and the records of the mirror ring (R474, R478, R479) -/
  flashPath : CoalPath := { tokens := 64 }
  mirrorPath : CoalPath := { tokens := 256 }
  mirror : List Rec := []
  /-- no program operation starts: an input collapse found the hold-up store low (R480) -/
  halt : Bool := false
  /-- records torn since the last scan (R477), and the feed records of the last persistence write (R194) -/
  tornNew : Nat := 0
  feedRecs : List Rec := []
  /-- the boot µs of the last persistence write, its operating seconds and its accumulators (meter, forward, reverse) (R94) -/
  persistAt : Nat := 0
  persistOp : Nat := 0
  persistMeters : List (Nat × Nat × Nat) := []
  opSeconds : Nat := 0
  powerCycles : Nat := 0
  lastAnchor : Option Nat := none
  /-- the tick of the latest setting of INT_CAUSE.event -/
  lastEventInt : Option Nat := none
  /-- a record came within 10 ms of that setting -/
  eventDue : Bool := false
deriving DecidableEq, Repr

/-! ## Chapter 16: the host interface -/

/-- A completion as written (Table 16-12); `result` holds the 16 bytes at 0x10, the first in the low bits. -/
structure Completion where
  cookie : BitVec 32
  status : Nat
  phase : Bool
  valid : Bool
  more : Bool
  detail : Nat
  sqHead : Nat
  ringTag : Nat
  result : Nat
deriving DecidableEq, Repr

/-- An outstanding descriptor: the slot it was fetched from, its place in the order of all fetches, whether its work has begun. -/
structure Fetched where
  slot : Nat
  desc : Desc
  order : Nat
  begun : Bool := false
deriving DecidableEq, Repr

/-- A ring pair's hidden state: its phase, its outstanding descriptors in fetch order, and the signalling completions since the last
message, with the tick of the first. -/
structure Pair where
  phase : Bool := true
  out : List Fetched := []
  unsent : Nat := 0
  firstAt : Option Nat := none
deriving DecidableEq, Repr

/-- A subscription (R407, R408): its descriptor, the values of the entry being gathered, and the entries held for a free slot (position,
statistic), oldest first. -/
structure Sub where
  pair : Nat
  slot : Nat
  cookie : BitVec 32
  quiet : Bool
  kind : Nat
  stat : Nat
  index : Nat
  k : Nat
  count : Nat := 0
  acc : Int := 0
  /-- entries whose values are complete and that wait to be written or held -/
  due : List (Nat × Nat) := []
  held : List (Nat × Nat) := []
  /-- entries dropped since the last entry written; in the present second; the tick of the last HOST_SUB_DROP -/
  dropped : Nat := 0
  inSecond : Nat := 0
  recordAt : Option Nat := none
  /-- the first completion, with the sub_id, waits for a free slot -/
  greet : Bool := false
deriving DecidableEq, Repr

/-- Hidden state of the host interface. -/
structure HostIf where
  pairs : Tab Pair := []
  /-- the completion last written to a slot, by pair times 4,096 plus slot -/
  cq : Tab (Option Completion) := []
  /-- MSI-X messages sent, by vector -/
  msix : Tab Nat := []
  order : Nat := 0
  /-- the last write to a buffer in host memory: address and bytes -/
  written : Nat × List Byte := (0, [])
  subs : Tab Sub := []
  linkUp : Bool := false
  rate : Nat := 0
  width : Nat := 0
  /-- the HDM decoder is committed; its last commit failed -/
  decoder : Bool := false
  decoderErr : Bool := false
  /-- the data of the last CXL.mem read -/
  answer : List Byte := []
  /-- the first access denied in the present second (its offset, whether a write), the denials in it, and its tick (R392) -/
  denied : Nat × Bool × Nat := (0, false, 0)
  deniedAt : Option Nat := none
deriving DecidableEq, Repr

/-! ## Chapter 13: ward ports and laser sources -/

/-- For whom a request runs: an object's slot, tray firmware (which puts the data it reads at word `dest` of the ward's buffer), or a
descriptor. -/
inductive Owner where
  | engine (obj slot : Nat)
  | firmware (dest : Nat)
  | host (pair slot : Nat)
deriving DecidableEq, Repr

/-- A frame that a port transmits (R317, Table 13-6): its type, tag and words from word 1 up to the CRC, before any sealing, and the bytes of
payload that follow them in a BULK or SEC frame. -/
structure TxFrame where
  type : Nat
  tag : Nat := 0
  words : List Word
  payload : Nat := 0
  isSealed : Bool := false
deriving DecidableEq, Repr

/-- A register request (R319): outstanding since its first send, last sent at tick `sentAt`. -/
structure Req where
  tag : Nat := 0
  owner : Owner
  read : Bool
  addr : Nat
  count : Nat
  data : List Word := []
  sends : Nat := 1
  sentAt : Nat := 0
  /-- sealed answers whose tag failed (Table 13-7) -/
  tagFails : Nat := 0
deriving DecidableEq, Repr

/-- A CTRL without its answer (R325): code 1 QUIESCE, 3 RELEASE, 5 FENCE, its argument, and the ticks of its first and last send. -/
structure Ctrl where
  code : Nat
  arg : Nat
  owner : Owner
  since : Nat
  sentAt : Nat
deriving DecidableEq, Repr

/-- A bulk stream (R321): its length, the bytes acknowledged or received in order, the bytes sent, the credit, the consecutive timeouts and the
tick of the last progress. -/
structure Bulk where
  len : Nat
  done : Nat := 0
  sent : Nat := 0
  credit : Nat := 0
  timeouts : Nat := 0
  progressAt : Nat := 0
deriving DecidableEq, Repr

/-- Hidden state of a ward port; its state and counts are `WPORT_STAT` and `WPORT_ERR`. -/
structure Port where
  /-- the tick of entry into the present state; the lanes that run; WARD_LINK_FAIL recorded -/
  entered : Nat := 0
  lanes : List Nat := []
  failRecorded : Bool := false
  reqs : List Req := []
  /-- requests beyond the 64 outstanding, oldest first -/
  waiting : List Req := []
  nextTag : Nat := 0
  ctrls : List Ctrl := []
  outs : Tab (Option Bulk) := []
  ins : Tab (Option Bulk) := []
  /-- the last good telemetry frame by word and the tick of its arrival; the tick of the SYNC that awaits its answer, plus 1 -/
  telem : Tab Word := []
  telemAt : Nat := 0
  sync : Nat := 0
  /-- frames that wait for transmission, in their order (R318); those that left within the last µs -/
  txq : List TxFrame := []
  wire : List TxFrame := []
  /-- uncorrectable codewords of the last ms: tick, lane, number (R307) -/
  uncorr : List (Nat × Nat × Nat) := []
  /-- tags of the last 256 event frames acknowledged, newest first -/
  acked : List Nat := []
  /-- the secure channel is up (R329, R330); its set-up: 0 none, 1 waiting for the island, which serves one at a time, 2 OFFER sent; the
  fragments of the ward's message received -/
  up : Bool := false
  setup : Nat := 0
  fragments : Nat := 0
  secAt : Nat := 0
  sealedOut : Nat := 0
  sealedIn : Nat := 0
  /-- ticks of sealed frames whose tag failed within the last second -/
  tagFails : List Nat := []
deriving DecidableEq, Repr

/-- A laser source: the kind-15 value last applied (Q16.16 mW), consecutive polls without an answer, whether the full-power condition of
Table 13-5 holds, the tick of its last poll, and a reduction that awaits its settling: its tick, and whether it is a FAULT. -/
structure Laser where
  commit : Nat := 0
  misses : Nat := 0
  lit : Bool := false
  polledAt : Nat := 0
  reduced : Option (Nat × Bool) := none
  /-- LS_STAT as last read -/
  stat : Nat := 0
  /-- the dynamic address assigned with SETDASA (R310) -/
  address : Option (BitVec 7) := none
deriving DecidableEq, Repr

/-- Hidden state of the laser buses: sources, and the buses on which a shut-off stands. -/
structure Lasers where
  sources : Tab Laser := []
  shut : List Nat := []
deriving DecidableEq, Repr

/-! ## Chapters 14 and 15: wards, soft lists, licences -/

/-- A reset sequence (R377 to R385): op 1 core reset, 2 partition reset, 3 partition off, 4 partition on; its step: 1 QUIESCE sent,
2 fences of the escalation awaited, 3 a reset operation written, 4 RELEASE sent; the reset operation running; the peers fenced. -/
structure ResetSeq where
  op : Nat
  target : Nat
  via : Via
  startAt : Nat
  step : Nat
  stepAt : Nat
  running : Nat := 0
  fenced : List Nat := []
  awaiting : List Nat := []
  /-- the step from which tray firmware took it up again after an application reset (R385) -/
  recovered : Option Nat := none
deriving DecidableEq, Repr

/-- A ward (Table 14-1 and what its steps keep). -/
structure Ward where
  state : Nat := 0
  attempts : Nat := 0
  hold : Bool := false
  /-- the state in which it was held -/
  held : Nat := 0
  failState : Nat := 255
  failCause : Nat := 0
  /-- a DOWN has cleared auto_up (R341) -/
  autoOff : Bool := false
  /-- tray ticks of entry into the state and of the last accepted UP (Table 14-10); the µs of that UP -/
  entered : Nat := 0
  upTick : Nat := 0
  upUs : Nat := 0
  /-- the µs from which the step's deadline runs; none while the step waits for a store copy -/
  deadFrom : Option Nat := some 0
  /-- progress within the step -/
  sub : Nat := 0
  /-- a power-up of the group is still to be written (R342); it is a retry -/
  upDue : Bool := false
  retry : Bool := false
  /-- the group has been seen in UP or ON in this attempt -/
  powered : Bool := false
  /-- a DOWN or a counted failure whose power-down has to reach all-OFF before the ward is OFF -/
  leaving : Bool := false
  /-- the bring-up or reset operation running, and bu_seq, rst_seq as last read -/
  op : Nat := 0
  opSeq : Nat := 0
  rstSeq : Nat := 0
  /-- words of the capability, bring-up and reset blocks as read, by word; and of the buffer being read -/
  block : Tab Word := []
  buf : Tab Word := []
  die : Nat := 0
  /-- resuming from HELD; the port has left LINKED since -/
  resume : Bool := false
  leftLink : Bool := false
  /-- core maps, bit i for core i: blocks that differed in this test, cores judged failed, the three maps of the last MAP -/
  differs : Nat := 0
  bad : Nat := 0
  fuse : Nat := 0
  soft : Nat := 0
  effective : Nat := 0
  mapped : Bool := false
  failed : Nat := 0
  incon : Nat := 0
  good : Nat := 0
  /-- 0 none, 1 ready, 2 degraded -/
  verdict : Nat := 0
  licence : Option Nat := none
  /-- the digest of the firmware image it was given in this bring-up -/
  fw : Option (BitVec 384) := none
  seq : Option ResetSeq := none
  /-- partitions that are off, bit p -/
  partsOff : Nat := 0
  /-- wards whose fence stands at this ward -/
  fences : List Nat := []
deriving DecidableEq, Repr

/-- A soft-list record of the journal (Table 15-2). -/
structure SoftRec where
  die : Nat
  generation : Nat
  wardType : Nat
  cause : Nat
  cores : Nat
deriving DecidableEq, Repr

/-- Hidden state of wards, soft lists, licences and store copies. -/
structure Wards where
  list : Tab Ward := []
  /-- the active half of the soft-list journal, oldest first, and which half it is -/
  soft : List SoftRec := []
  softHalf : Bool := false
  licences : Tab (Option Licence) := []
  /-- copies in the pattern and image store: pattern sets (true) and images (false) by ward type; types whose copy failed -/
  copies : List (Bool × Nat) := []
  badTypes : List Nat := []
  /-- the port whose secure channel the island is setting up -/
  island : Option Nat := none
deriving DecidableEq, Repr

/-! ## Chapters 17 to 19: recorder, memory, secure start, updates -/

/-- Flight recorder, in-package memory and memory checks. -/
structure Recorder where
  /-- in-package memory by byte at its HDM offset -/
  hbm : Tab Byte := []
  /-- bad bits by word of the word code: the offset divided by 32, and of an event-ring record 2^40, twice its mirror seq and its half -/
  hbmBad : Tab CodeWord := []
  /-- the segment being written: its first tick, its number since the ring was cleared, its absent mask, the tick index of its 1 ms result and of
  its trigger -/
  segTick : Nat := 0
  seq : Nat := 0
  absent : Nat := 0
  resultAt : Option Nat := none
  trigAt : Option Nat := none
  /-- a release waits for the segment boundary; the post-trigger span in ms; the descriptor that freezes, by pair and slot -/
  releaseDue : Bool := false
  post : Nat := 0
  freezer : Option (Nat × Nat) := none
  /-- corrected words per stack in the present hour; the tick of its start; training has failed for good -/
  corrHour : Tab Nat := []
  hourAt : Nat := 0
  trainFailed : Bool := false
  /-- every present stack has been trained since the power-on reset -/
  trained : Bool := false
deriving DecidableEq, Repr

/-- An image slot as flash and the boot-counter area keep it (R433): its state (0 EMPTY, 1 PENDING, 2 TRIAL, 3 COMMITTED, 4 RETIRED), the
image, and the slot record's sets (R462). -/
structure Slot where
  state : Nat := 0
  trials : Nat := 0
  expired : Bool := false
  image : Option (Component × Header × ImageCheck) := none
  active : Option Manifest := none
  good : Option Manifest := none
deriving DecidableEq, Repr

/-- An armed set (R457). -/
structure Armed where
  set : Manifest
  at_ : Nat
  full : Bool
  slot : Nat
  /-- in a twin tray: the shadow has been told to activate, at this tick (R501) -/
  shadowAt : Option Nat := none
deriving DecidableEq, Repr

/-- A stage under way (R451, R452): its descriptor, the component, its target and the tick it began. -/
structure Staging where
  via : Via
  part : Component
  type : Nat
  target : Nat
  since : Nat
deriving DecidableEq, Repr

/-- Hidden state of secure start and updates. -/
structure Secure where
  slotA : Slot := {}
  slotB : Slot := {}
  /-- components of the store flash directory; no store flash is fitted -/
  store : List Component := []
  noStore : Bool := false
  /-- fused: die_id, STEP_ID, svn floor, revoked and empty key pairs -/
  die : BitVec 128 := 0
  stepId : BitVec 32 := 0x01000000
  svnFloor : Nat := 0
  revoked : Nat := 0
  empty : Nat := 0
  /-- key-table entries that do not match their digest: treated as empty (R430) -/
  mismatch : Nat := 0
  ownerLock : Bool := false
  /-- the set that runs, the last-known-good beside a live set not yet confirmed -/
  set : Option Manifest := none
  armed : Option Armed := none
  /-- a live set's store copies have to end before it is armed: its descriptor, the set, the tick; and the copies
  still due, pattern sets (true) and images by ward type -/
  copying : Option (Via × Manifest × Nat) := none
  copyDue : List (Bool × Nat) := []
  staging : Option Staging := none
  /-- challenges drawn so far -/
  draws : Nat := 0
  /-- a selection of the Cub is due: 0 at a power-on reset, 1 at an application reset, 2 at trial expiry; it has handed over and core 0 is
  to be released -/
  selecting : Option Nat := none
  handing : Bool := false
  /-- the µs since PORST# release of stage 2 and of the last hand-over -/
  stage2At : Nat := 0
  handedAt : Option Nat := none
  /-- the address in on-chip flash at which core 0 was last released (R439) -/
  entryAt : Nat := 0
  /-- the µs of the last use of the signature, hash and cipher engines (D102) and of the TRNG (D103) -/
  cryptoAt : Nat := 0
  trngAt : Nat := 0
deriving DecidableEq, Repr

/-! ## Chapter 21: twin operation -/

/-- Hidden state of twin operation. -/
structure Twin where
  /-- the peer's last HELLO -/
  peer : Option TwinPeer := none
  /-- TWIN_ALV_OUT's level; the ticks of the last edge of TWIN_ALV_IN and of the last twin frame -/
  alvOut : Bool := false
  edgeAt : Nat := 0
  frameAt : Nat := 0
  /-- an EN has been driven high since PORST# release -/
  driven : Bool := false
  /-- the µs at which tray firmware started -/
  fwAt : Option Nat := none
  nextSeq : Nat := 0
  /-- the sequence of the last CMD applied, plus 1 -/
  lastSeq : Nat := 0
  /-- CMDs without their CACK: sequence, CMD, tick of the last send -/
  unacked : List (Nat × TwinCmd × Nat) := []
  /-- checkpoints that wait for their object's next boundary -/
  mirrors : List Checkpoint := []
  /-- the tick of the last ECHO measurement; the tick has been stepped since the join; the last measurement and the largest, in units of 1.25 ns -/
  echoAt : Option Nat := none
  stepped : Bool := false
  skew : Int := 0
  largest : Int := 0
  /-- the loss of the peer's edges has been recorded; the tray tick of the lead's last TICK frame -/
  alvLost : Bool := false
  leadTick : Nat := 0
  /-- neither joins (row 4 of Table 21-1) -/
  alone : Bool := false
  /-- the HELLO that this T840 has sent when the link came up (R485), the tray tick of its last TICK frame and the MIRROR frames it sent with it
  (R487, R491), the sequence of the last CMD that it acknowledged (R492) -/
  hello : Option TwinPeer := none
  tickOut : Option Nat := none
  mirrorOut : List Checkpoint := []
  ackOut : Option Nat := none
  /-- a HANDOVER has been sent before the pending power-on reset (R497) -/
  handover : Bool := false
  /-- sett-clock cycles by which the tray tick has still to be set on (negative: back), and the tick of the last that was (R489) -/
  slew : Int := 0
  slewAt : Nat := 0
deriving DecidableEq, Repr

end Sys2Proof.Machine
end

