-- ==== Sys2Proof/Machine/RegsA.lean ====
section
/-!
DEFINITION. The fields of the registers of chapters 03 to 11, with the bits, access, reset value and range of the spec's tables.
-/
namespace Sys2Proof.Machine

/-! `RST_CAUSE` (03, Table 3-6, R64) -/
def RST_CAUSE.last_cause : Fld := { reg := .RST_CAUSE, code := 0, hi := 7, lo := 0, acc := .ro, dflt := 1 }
def RST_CAUSE.xtal_fallback : Fld := { reg := .RST_CAUSE, code := 8, hi := 8, lo := 8, acc := .ro, dflt := 0 }
def RST_CAUSE.app_resets : Fld := { reg := .RST_CAUSE, code := 16, hi := 23, lo := 16, acc := .ro, dflt := 0 }
/-! `SNS_DIETEMP` (04, Table 4-20, R82) -/
def SNS_DIETEMP.temp : Fld := { reg := .SNS_DIETEMP, code := 64, hi := 15, lo := 0, acc := .ro, dflt := 0 }
def SNS_DIETEMP.valid : Fld := { reg := .SNS_DIETEMP, code := 80, hi := 16, lo := 16, acc := .ro, dflt := 0 }
/-! `SNS_CHCFG` (04, Table 4-8, R98) -/
def SNS_CHCFG.enable : Fld := { reg := .SNS_CHCFG, code := 128, hi := 0, lo := 0, acc := .rwl, dflt := 0, alt := [(58, 1), (59, 1), (60, 1), (61, 1),
    (62, 1), (63, 1), (252, 1), (253, 1), (254, 1), (255, 1)] }
def SNS_CHCFG.range : Fld := { reg := .SNS_CHCFG, code := 132, hi := 5, lo := 4, acc := .rwl, dflt := 0, min := 0, max := 2, alt := [(58, 2), (59,
    2), (60, 2), (61, 2), (62, 2), (63, 2)] }
def SNS_CHCFG.marten_sub : Fld := { reg := .SNS_CHCFG, code := 137, hi := 9, lo := 9, acc := .rwl, dflt := 0 }
def SNS_CHCFG.lock : Fld := { reg := .SNS_CHCFG, code := 159, hi := 31, lo := 31, acc := .w1s, dflt := 0 }
/-! `SNS_CHSTAT` (04, Table 4-9, R98) -/
def SNS_CHSTAT.absent : Fld := { reg := .SNS_CHSTAT, code := 199, hi := 7, lo := 7, acc := .ro, dflt := 0 }
def SNS_CHSTAT.bound : Fld := { reg := .SNS_CHSTAT, code := 200, hi := 8, lo := 8, acc := .ro, dflt := 0 }
def SNS_CHSTAT.overrange : Fld := { reg := .SNS_CHSTAT, code := 201, hi := 9, lo := 9, acc := .w1c, dflt := 0 }
def SNS_CHSTAT.fault_kind : Fld := { reg := .SNS_CHSTAT, code := 202, hi := 11, lo := 10, acc := .ro, dflt := 0 }
def SNS_CHSTAT.fault : Fld := { reg := .SNS_CHSTAT, code := 204, hi := 12, lo := 12, acc := .ro, dflt := 0 }
def SNS_CHSTAT.cal_busy : Fld := { reg := .SNS_CHSTAT, code := 205, hi := 13, lo := 13, acc := .ro, dflt := 0 }
def SNS_CHSTAT.spared : Fld := { reg := .SNS_CHSTAT, code := 206, hi := 14, lo := 14, acc := .ro, dflt := 0 }
def SNS_CHSTAT.stand_in : Fld := { reg := .SNS_CHSTAT, code := 207, hi := 15, lo := 15, acc := .ro, dflt := 0 }
def SNS_CHSTAT.cal_age : Fld := { reg := .SNS_CHSTAT, code := 208, hi := 23, lo := 16, acc := .ro, dflt := 0 }
/-! `SNS_CHSCALE` (04, Table 4-10, R98) -/
def SNS_CHSCALE.scale : Fld := { reg := .SNS_CHSCALE, code := 256, hi := 31, lo := 0, acc := .rwl, dflt := 65536, alt := [(58, 20971520), (59,
    4194304), (60, 4194304), (61, 20971520), (62, 4194304), (63, 20971520), (252, 1048576), (253, 1048576), (254, 1048576), (255, 4194304), (256,
    66060), (257, 66060), (258, 66060), (259, 66060), (260, 66060), (261, 66060), (262, 66060), (263, 66060), (264, 66060), (265, 66060), (266,
    66060), (267, 66060), (268, 66060), (269, 66060), (270, 66060), (271, 66060), (272, 66060), (273, 66060), (274, 66060), (275, 66060), (276,
    66060), (277, 66060), (278, 66060), (279, 66060), (280, 66060), (281, 66060), (282, 66060), (283, 66060), (284, 66060), (285, 66060), (286,
    66060), (287, 66060)] }
/-! `SNS_CHSAMP` (04, Table 4-11, R98) -/
def SNS_CHSAMP.sample : Fld := { reg := .SNS_CHSAMP, code := 320, hi := 15, lo := 0, acc := .ro, dflt := 0 }
def SNS_CHSAMP.aperture : Fld := { reg := .SNS_CHSAMP, code := 336, hi := 31, lo := 16, acc := .ro, dflt := 0 }
/-! `SNS_WCTL` (04, Table 4-12, R98) -/
def SNS_WCTL.arm : Fld := { reg := .SNS_WCTL, code := 384, hi := 0, lo := 0, acc := .rwl, dflt := 0 }
def SNS_WCTL.edge_en : Fld := { reg := .SNS_WCTL, code := 385, hi := 1, lo := 1, acc := .rwl, dflt := 0 }
def SNS_WCTL.commit : Fld := { reg := .SNS_WCTL, code := 387, hi := 3, lo := 3, acc := .wo, dflt := 0 }
def SNS_WCTL.fl_en : Fld := { reg := .SNS_WCTL, code := 388, hi := 4, lo := 4, acc := .rwl, dflt := 0 }
def SNS_WCTL.wl_en : Fld := { reg := .SNS_WCTL, code := 389, hi := 5, lo := 5, acc := .rwl, dflt := 0 }
def SNS_WCTL.wh_en : Fld := { reg := .SNS_WCTL, code := 390, hi := 6, lo := 6, acc := .rwl, dflt := 0 }
def SNS_WCTL.fh_en : Fld := { reg := .SNS_WCTL, code := 391, hi := 7, lo := 7, acc := .rwl, dflt := 0 }
def SNS_WCTL.filter : Fld := { reg := .SNS_WCTL, code := 392, hi := 15, lo := 8, acc := .rwl, dflt := 1, min := 1, max := 255 }
def SNS_WCTL.hyst : Fld := { reg := .SNS_WCTL, code := 400, hi := 31, lo := 16, acc := .rwl, dflt := 0 }
/-! `SNS_WTHHI` (04, Table 4-13, R98) -/
def SNS_WTHHI.wh : Fld := { reg := .SNS_WTHHI, code := 448, hi := 15, lo := 0, acc := .rwl, dflt := 32767 }
def SNS_WTHHI.fh : Fld := { reg := .SNS_WTHHI, code := 464, hi := 31, lo := 16, acc := .rwl, dflt := 32767 }
/-! `SNS_WTHLO` (04, Table 4-14, R98) -/
def SNS_WTHLO.fl : Fld := { reg := .SNS_WTHLO, code := 512, hi := 15, lo := 0, acc := .rwl, dflt := 32768 }
def SNS_WTHLO.wl : Fld := { reg := .SNS_WTHLO, code := 528, hi := 31, lo := 16, acc := .rwl, dflt := 32768 }
/-! `SNS_WSTAT` (04, Table 4-15, R98) -/
def SNS_WSTAT.fl : Fld := { reg := .SNS_WSTAT, code := 576, hi := 0, lo := 0, acc := .ro, dflt := 0 }
def SNS_WSTAT.wl : Fld := { reg := .SNS_WSTAT, code := 577, hi := 1, lo := 1, acc := .ro, dflt := 0 }
def SNS_WSTAT.wh : Fld := { reg := .SNS_WSTAT, code := 578, hi := 2, lo := 2, acc := .ro, dflt := 0 }
def SNS_WSTAT.fh : Fld := { reg := .SNS_WSTAT, code := 579, hi := 3, lo := 3, acc := .ro, dflt := 0 }
def SNS_WSTAT.pending : Fld := { reg := .SNS_WSTAT, code := 580, hi := 4, lo := 4, acc := .ro, dflt := 0 }
def SNS_WSTAT.order_err : Fld := { reg := .SNS_WSTAT, code := 581, hi := 5, lo := 5, acc := .ro, dflt := 0 }
/-! `SNS_CALCTL` (04, Table 4-16, R98) -/
def SNS_CALCTL.period_s : Fld := { reg := .SNS_CALCTL, code := 640, hi := 11, lo := 0, acc := .rw, dflt := 60, min := 1, max := 3600 }
def SNS_CALCTL.request : Fld := { reg := .SNS_CALCTL, code := 656, hi := 16, lo := 16, acc := .wo, dflt := 0 }
def SNS_CALCTL.temp_delta : Fld := { reg := .SNS_CALCTL, code := 664, hi := 31, lo := 24, acc := .rw, dflt := 10, min := 2, max := 50 }
/-! `SNS_CALSTAT` (04, Table 4-17, R98) -/
def SNS_CALSTAT.quick_spares : Fld := { reg := .SNS_CALSTAT, code := 704, hi := 2, lo := 0, acc := .ro, dflt := 4 }
def SNS_CALSTAT.general_spares : Fld := { reg := .SNS_CALSTAT, code := 712, hi := 10, lo := 8, acc := .ro, dflt := 4 }
def SNS_CALSTAT.pass_busy : Fld := { reg := .SNS_CALSTAT, code := 720, hi := 16, lo := 16, acc := .ro, dflt := 0 }
/-! `SNS_MTR_CFG` (04, Table 4-18, R98) -/
def SNS_MTR_CFG.v_chan : Fld := { reg := .SNS_MTR_CFG, code := 768, hi := 7, lo := 0, acc := .rwl, dflt := 0, alt := [(0, 60), (1, 62), (2, 59)] }
def SNS_MTR_CFG.i_chan : Fld := { reg := .SNS_MTR_CFG, code := 776, hi := 15, lo := 8, acc := .rwl, dflt := 0, alt := [(0, 61), (1, 63), (2, 58)] }
def SNS_MTR_CFG.enable : Fld := { reg := .SNS_MTR_CFG, code := 784, hi := 16, lo := 16, acc := .rwl, dflt := 0, alt := [(0, 1), (1, 1), (2, 1)] }
def SNS_MTR_CFG.persist : Fld := { reg := .SNS_MTR_CFG, code := 791, hi := 23, lo := 23, acc := .rwl, dflt := 0, alt := [(0, 1), (1, 1), (2, 1)] }
def SNS_MTR_CFG.avg_k : Fld := { reg := .SNS_MTR_CFG, code := 792, hi := 28, lo := 24, acc := .rwl, dflt := 0, min := 0, max := 20 }
def SNS_MTR_CFG.lock : Fld := { reg := .SNS_MTR_CFG, code := 799, hi := 31, lo := 31, acc := .w1s, dflt := 0, alt := [(0, 1), (1, 1), (2, 1)] }
/-! `SNS_MTR_STAT` (04, Table 4-19, R98) -/
def SNS_MTR_STAT.ef_sat : Fld := { reg := .SNS_MTR_STAT, code := 832, hi := 0, lo := 0, acc := .ro, dflt := 0 }
def SNS_MTR_STAT.er_sat : Fld := { reg := .SNS_MTR_STAT, code := 833, hi := 1, lo := 1, acc := .ro, dflt := 0 }
def SNS_MTR_STAT.clear : Fld := { reg := .SNS_MTR_STAT, code := 835, hi := 3, lo := 3, acc := .wo, dflt := 0 }
/-! `SNS_MTR_P` (04, Table 4-18 note, R98) -/
def SNS_MTR_P.p : Fld := { reg := .SNS_MTR_P, code := 896, hi := 31, lo := 0, acc := .ro, dflt := 0 }
/-! `SNS_MTR_PAVG` (04, Table 4-18 note, R98) -/
def SNS_MTR_PAVG.pavg : Fld := { reg := .SNS_MTR_PAVG, code := 960, hi := 31, lo := 0, acc := .ro, dflt := 0 }
/-! `SNS_MTR_EF` (04, Table 4-18 note, R93) -/
def SNS_MTR_EF.ef : Fld := { reg := .SNS_MTR_EF, code := 1024, hi := 63, lo := 0, acc := .ro, dflt := 0 }
/-! `SNS_MTR_ER` (04, Table 4-18 note, R93) -/
def SNS_MTR_ER.er : Fld := { reg := .SNS_MTR_ER, code := 1088, hi := 63, lo := 0, acc := .ro, dflt := 0 }
/-! `SETT_CTL` (05, Table 5-8, R128) -/
def SETT_CTL.period : Fld := { reg := .SETT_CTL, code := 1152, hi := 7, lo := 0, acc := .rw, dflt := 2, min := 1, max := 200 }
def SETT_CTL.enable : Fld := { reg := .SETT_CTL, code := 1160, hi := 8, lo := 8, acc := .rw, dflt := 1 }
/-! `SETT_STAT` (05, Table 5-9, R128) -/
def SETT_STAT.fault : Fld := { reg := .SETT_STAT, code := 1216, hi := 0, lo := 0, acc := .ro, dflt := 0 }
def SETT_STAT.handover_req : Fld := { reg := .SETT_STAT, code := 1217, hi := 1, lo := 1, acc := .ro, dflt := 0 }
def SETT_STAT.fw_wr_ignored : Fld := { reg := .SETT_STAT, code := 1218, hi := 2, lo := 2, acc := .w1c, dflt := 0 }
def SETT_STAT.bound : Fld := { reg := .SETT_STAT, code := 1224, hi := 13, lo := 8, acc := .ro, dflt := 0 }
def SETT_STAT.running : Fld := { reg := .SETT_STAT, code := 1232, hi := 21, lo := 16, acc := .ro, dflt := 0 }
def SETT_STAT.ctl_status : Fld := { reg := .SETT_STAT, code := 1240, hi := 31, lo := 24, acc := .ro, dflt := 0 }
/-! `SETT_ENG_CTL` (05, Table 5-10, R128) -/
def SETT_ENG_CTL.obj : Fld := { reg := .SETT_ENG_CTL, code := 1280, hi := 10, lo := 0, acc := .rw, dflt := 0, min := 0, max := 1279 }
def SETT_ENG_CTL.cmd : Fld := { reg := .SETT_ENG_CTL, code := 1309, hi := 31, lo := 29, acc := .wo, dflt := 0, min := 0, max := 4 }
/-! `SETT_ENG_STAT` (05, Table 5-11, R128) -/
def SETT_ENG_STAT.bound_obj : Fld := { reg := .SETT_ENG_STAT, code := 1344, hi := 10, lo := 0, acc := .ro, dflt := 0 }
def SETT_ENG_STAT.consec : Fld := { reg := .SETT_ENG_STAT, code := 1359, hi := 16, lo := 15, acc := .ro, dflt := 0 }
def SETT_ENG_STAT.handover_req : Fld := { reg := .SETT_ENG_STAT, code := 1361, hi := 17, lo := 17, acc := .w1c, dflt := 0 }
def SETT_ENG_STAT.fault_cause : Fld := { reg := .SETT_ENG_STAT, code := 1362, hi := 20, lo := 18, acc := .ro, dflt := 0 }
def SETT_ENG_STAT.state : Fld := { reg := .SETT_ENG_STAT, code := 1365, hi := 23, lo := 21, acc := .ro, dflt := 0 }
def SETT_ENG_STAT.cmd_status : Fld := { reg := .SETT_ENG_STAT, code := 1368, hi := 31, lo := 24, acc := .ro, dflt := 0 }
/-! `SETT_ENG_CYC` (05, Table 5-12, R128) -/
def SETT_ENG_CYC.last_used : Fld := { reg := .SETT_ENG_CYC, code := 1408, hi := 15, lo := 0, acc := .ro, dflt := 0 }
def SETT_ENG_CYC.max_used : Fld := { reg := .SETT_ENG_CYC, code := 1424, hi := 31, lo := 16, acc := .ro, dflt := 0 }
/-! `SETT_ENG_OVR` (05, Table 5-13, R128) -/
def SETT_ENG_OVR.overruns : Fld := { reg := .SETT_ENG_OVR, code := 1472, hi := 31, lo := 0, acc := .ro, dflt := 0 }
/-! `SETT_BIND` (05, Table 5-14, R128) -/
def SETT_BIND.index : Fld := { reg := .SETT_BIND, code := 1536, hi := 11, lo := 0, acc := .rw, dflt := 0 }
def SETT_BIND.kind : Fld := { reg := .SETT_BIND, code := 1564, hi := 31, lo := 28, acc := .rw, dflt := 0 }
/-! `SETT_MIGCMD` (05, Table 5-15, R128) -/
def SETT_MIGCMD.src : Fld := { reg := .SETT_MIGCMD, code := 1600, hi := 10, lo := 0, acc := .rw, dflt := 0, min := 0, max := 1279 }
def SETT_MIGCMD.dst : Fld := { reg := .SETT_MIGCMD, code := 1616, hi := 26, lo := 16, acc := .rw, dflt := 0, min := 0, max := 1279 }
def SETT_MIGCMD.go : Fld := { reg := .SETT_MIGCMD, code := 1631, hi := 31, lo := 31, acc := .wo, dflt := 0 }
/-! `RFX_TERM01` (05, Table 5-16, R129) -/
def RFX_TERM01.t0_src : Fld := { reg := .RFX_TERM01, code := 1664, hi := 13, lo := 0, acc := .rwl, dflt := 0 }
def RFX_TERM01.t0_inv : Fld := { reg := .RFX_TERM01, code := 1678, hi := 14, lo := 14, acc := .rwl, dflt := 0 }
def RFX_TERM01.t0_en : Fld := { reg := .RFX_TERM01, code := 1679, hi := 15, lo := 15, acc := .rwl, dflt := 0 }
def RFX_TERM01.t1_src : Fld := { reg := .RFX_TERM01, code := 1680, hi := 29, lo := 16, acc := .rwl, dflt := 0 }
def RFX_TERM01.t1_inv : Fld := { reg := .RFX_TERM01, code := 1694, hi := 30, lo := 30, acc := .rwl, dflt := 0 }
def RFX_TERM01.t1_en : Fld := { reg := .RFX_TERM01, code := 1695, hi := 31, lo := 31, acc := .rwl, dflt := 0 }
/-! `RFX_ACT` (05, Table 5-17, R129) -/
def RFX_ACT.wards : Fld := { reg := .RFX_ACT, code := 1728, hi := 7, lo := 0, acc := .rwl, dflt := 0 }
def RFX_ACT.harp : Fld := { reg := .RFX_ACT, code := 1744, hi := 17, lo := 16, acc := .rwl, dflt := 0 }
def RFX_ACT.en_group : Fld := { reg := .RFX_ACT, code := 1748, hi := 21, lo := 20, acc := .rwl, dflt := 0 }
def RFX_ACT.gda : Fld := { reg := .RFX_ACT, code := 1750, hi := 22, lo := 22, acc := .rwl, dflt := 0 }
def RFX_ACT.gdb : Fld := { reg := .RFX_ACT, code := 1751, hi := 23, lo := 23, acc := .rwl, dflt := 0 }
def RFX_ACT.ghs : Fld := { reg := .RFX_ACT, code := 1752, hi := 24, lo := 24, acc := .rwl, dflt := 0 }
def RFX_ACT.shutdn : Fld := { reg := .RFX_ACT, code := 1753, hi := 25, lo := 25, acc := .rwl, dflt := 0 }
def RFX_ACT.freeze : Fld := { reg := .RFX_ACT, code := 1754, hi := 26, lo := 26, acc := .rwl, dflt := 0 }
def RFX_ACT.kmin : Fld := { reg := .RFX_ACT, code := 1755, hi := 28, lo := 27, acc := .rwl, dflt := 0 }
def RFX_ACT.latch : Fld := { reg := .RFX_ACT, code := 1757, hi := 29, lo := 29, acc := .rwl, dflt := 0 }
def RFX_ACT.enable : Fld := { reg := .RFX_ACT, code := 1758, hi := 30, lo := 30, acc := .rwl, dflt := 0 }
def RFX_ACT.lock : Fld := { reg := .RFX_ACT, code := 1759, hi := 31, lo := 31, acc := .w1s, dflt := 0 }
/-! `RFX_ENMASK` (05, Table 5-18, R129) -/
def RFX_ENMASK.en_mask : Fld := { reg := .RFX_ENMASK, code := 1792, hi := 31, lo := 0, acc := .rwl, dflt := 0 }
/-! `RFX_STAT` (05, Table 5-19, R129) -/
def RFX_STAT.latched : Fld := { reg := .RFX_STAT, code := 1856, hi := 0, lo := 0, acc := .w1c, dflt := 0 }
def RFX_STAT.active : Fld := { reg := .RFX_STAT, code := 1857, hi := 1, lo := 1, acc := .ro, dflt := 0 }
def RFX_STAT.fires : Fld := { reg := .RFX_STAT, code := 1872, hi := 31, lo := 16, acc := .ro, dflt := 0 }
/-! `SETT_MIGSTAT` (05, Table 5-15 note, R128) -/
def SETT_MIGSTAT.done : Fld := { reg := .SETT_MIGSTAT, code := 1920, hi := 15, lo := 0, acc := .ro, dflt := 0 }
def SETT_MIGSTAT.status : Fld := { reg := .SETT_MIGSTAT, code := 1936, hi := 23, lo := 16, acc := .ro, dflt := 0 }
def SETT_MIGSTAT.lost : Fld := { reg := .SETT_MIGSTAT, code := 1950, hi := 30, lo := 30, acc := .w1c, dflt := 0 }
def SETT_MIGSTAT.busy : Fld := { reg := .SETT_MIGSTAT, code := 1951, hi := 31, lo := 31, acc := .ro, dflt := 0 }
/-! `RFX_TERM23` (05, Table 5-16, R129) -/
def RFX_TERM23.t2_src : Fld := { reg := .RFX_TERM23, code := 1984, hi := 13, lo := 0, acc := .rwl, dflt := 0 }
def RFX_TERM23.t2_inv : Fld := { reg := .RFX_TERM23, code := 1998, hi := 14, lo := 14, acc := .rwl, dflt := 0 }
def RFX_TERM23.t2_en : Fld := { reg := .RFX_TERM23, code := 1999, hi := 15, lo := 15, acc := .rwl, dflt := 0 }
def RFX_TERM23.t3_src : Fld := { reg := .RFX_TERM23, code := 2000, hi := 29, lo := 16, acc := .rwl, dflt := 0 }
def RFX_TERM23.t3_inv : Fld := { reg := .RFX_TERM23, code := 2014, hi := 30, lo := 30, acc := .rwl, dflt := 0 }
def RFX_TERM23.t3_en : Fld := { reg := .RFX_TERM23, code := 2015, hi := 31, lo := 31, acc := .rwl, dflt := 0 }
/-! `RFX_SUM` (05, Table 5-19 note, R129) -/
def RFX_SUM.active : Fld := { reg := .RFX_SUM, code := 2048, hi := 9, lo := 0, acc := .ro, dflt := 0 }
def RFX_SUM.locked : Fld := { reg := .RFX_SUM, code := 2064, hi := 25, lo := 16, acc := .ro, dflt := 0 }
/-! `SETT_MBXHEAD` (06, Table 6-8, R146) -/
def SETT_MBXHEAD.tag : Fld := { reg := .SETT_MBXHEAD, code := 2112, hi := 7, lo := 0, acc := .ro, dflt := 0 }
def SETT_MBXHEAD.engine : Fld := { reg := .SETT_MBXHEAD, code := 2121, hi := 19, lo := 9, acc := .ro, dflt := 0 }
def SETT_MBXHEAD.object : Fld := { reg := .SETT_MBXHEAD, code := 2132, hi := 30, lo := 20, acc := .ro, dflt := 0 }
def SETT_MBXHEAD.valid : Fld := { reg := .SETT_MBXHEAD, code := 2143, hi := 31, lo := 31, acc := .ro, dflt := 0 }
/-! `SETT_MBXVAL` (06, Table 6-9, R146) -/
def SETT_MBXVAL.value : Fld := { reg := .SETT_MBXVAL, code := 2176, hi := 31, lo := 0, acc := .ro, dflt := 0 }
/-! `SETT_MBXCTL` (06, Table 6-10, R146) -/
def SETT_MBXCTL.count : Fld := { reg := .SETT_MBXCTL, code := 2240, hi := 8, lo := 0, acc := .ro, dflt := 0 }
def SETT_MBXCTL.dropped : Fld := { reg := .SETT_MBXCTL, code := 2257, hi := 30, lo := 17, acc := .ro, dflt := 0 }
def SETT_MBXCTL.pop : Fld := { reg := .SETT_MBXCTL, code := 2271, hi := 31, lo := 31, acc := .wo, dflt := 0 }
/-! `ZIT_EW0` (07, Table 7-1, R153) -/
def ZIT_EW0.en : Fld := { reg := .ZIT_EW0, code := 2304, hi := 6, lo := 0, acc := .rwl, dflt := 0 }
def ZIT_EW0.pg_pin : Fld := { reg := .ZIT_EW0, code := 2311, hi := 13, lo := 7, acc := .rwl, dflt := 0 }
def ZIT_EW0.win_chan : Fld := { reg := .ZIT_EW0, code := 2318, hi := 21, lo := 14, acc := .rwl, dflt := 0 }
def ZIT_EW0.pg_src : Fld := { reg := .ZIT_EW0, code := 2326, hi := 23, lo := 22, acc := .rwl, dflt := 0 }
def ZIT_EW0.group : Fld := { reg := .ZIT_EW0, code := 2328, hi := 27, lo := 24, acc := .rwl, dflt := 0 }
def ZIT_EW0.win_w : Fld := { reg := .ZIT_EW0, code := 2334, hi := 30, lo := 30, acc := .rwl, dflt := 0 }
def ZIT_EW0.valid : Fld := { reg := .ZIT_EW0, code := 2335, hi := 31, lo := 31, acc := .rwl, dflt := 0 }
/-! `ZIT_EW1` (07, Table 7-2, R153) -/
def ZIT_EW1.off_delay : Fld := { reg := .ZIT_EW1, code := 2368, hi := 15, lo := 0, acc := .rwl, dflt := 0 }
def ZIT_EW1.on_delay : Fld := { reg := .ZIT_EW1, code := 2384, hi := 31, lo := 16, acc := .rwl, dflt := 0 }
/-! `ZIT_EW2` (07, Table 7-3, R153) -/
def ZIT_EW2.chatter_max : Fld := { reg := .ZIT_EW2, code := 2440, hi := 11, lo := 8, acc := .rwl, dflt := 3 }
def ZIT_EW2.pg_filter : Fld := { reg := .ZIT_EW2, code := 2444, hi := 19, lo := 12, acc := .rwl, dflt := 0 }
def ZIT_EW2.deadline : Fld := { reg := .ZIT_EW2, code := 2452, hi := 31, lo := 20, acc := .rwl, dflt := 10, min := 1, max := 4095 }
/-! `ZIT_EW3` (07, Table 7-4, R153) -/
def ZIT_EW3.dep0 : Fld := { reg := .ZIT_EW3, code := 2496, hi := 7, lo := 0, acc := .rwl, dflt := 0 }
def ZIT_EW3.dep0_en : Fld := { reg := .ZIT_EW3, code := 2511, hi := 15, lo := 15, acc := .rwl, dflt := 0 }
def ZIT_EW3.dep1 : Fld := { reg := .ZIT_EW3, code := 2512, hi := 23, lo := 16, acc := .rwl, dflt := 0 }
def ZIT_EW3.dep1_en : Fld := { reg := .ZIT_EW3, code := 2527, hi := 31, lo := 31, acc := .rwl, dflt := 0 }
/-! `ZIT_ESTAT` (07, Table 7-8, R171) -/
def ZIT_ESTAT.good_us : Fld := { reg := .ZIT_ESTAT, code := 2560, hi := 15, lo := 0, acc := .ro, dflt := 0 }
def ZIT_ESTAT.fault : Fld := { reg := .ZIT_ESTAT, code := 2576, hi := 19, lo := 16, acc := .ro, dflt := 0 }
def ZIT_ESTAT.chatters : Fld := { reg := .ZIT_ESTAT, code := 2580, hi := 23, lo := 20, acc := .ro, dflt := 0 }
def ZIT_ESTAT.phase : Fld := { reg := .ZIT_ESTAT, code := 2589, hi := 31, lo := 29, acc := .ro, dflt := 0 }
/-! `ZIT_GCTL` (07, Table 7-9, R172) -/
def ZIT_GCTL.t_off_min : Fld := { reg := .ZIT_GCTL, code := 2624, hi := 13, lo := 0, acc := .rw, dflt := 500, min := 100, max := 10000 }
def ZIT_GCTL.auto_restart : Fld := { reg := .ZIT_GCTL, code := 2640, hi := 16, lo := 16, acc := .rw, dflt := 0 }
/-! `ZIT_GCMD` (07, Table 7-10, R172) -/
def ZIT_GCMD.cmd : Fld := { reg := .ZIT_GCMD, code := 2718, hi := 31, lo := 30, acc := .wo, dflt := 0 }
/-! `ZIT_GSTAT` (07, Table 7-11, R172) -/
def ZIT_GSTAT.off_stuck : Fld := { reg := .ZIT_GSTAT, code := 2754, hi := 2, lo := 2, acc := .w1c, dflt := 0 }
def ZIT_GSTAT.up_pending : Fld := { reg := .ZIT_GSTAT, code := 2755, hi := 3, lo := 3, acc := .ro, dflt := 0 }
def ZIT_GSTAT.abort_entry : Fld := { reg := .ZIT_GSTAT, code := 2756, hi := 11, lo := 4, acc := .ro, dflt := 0 }
def ZIT_GSTAT.abort_cause : Fld := { reg := .ZIT_GSTAT, code := 2764, hi := 15, lo := 12, acc := .ro, dflt := 0 }
def ZIT_GSTAT.cmd_status : Fld := { reg := .ZIT_GSTAT, code := 2768, hi := 23, lo := 16, acc := .ro, dflt := 0 }
def ZIT_GSTAT.state : Fld := { reg := .ZIT_GSTAT, code := 2781, hi := 31, lo := 29, acc := .ro, dflt := 4 }
/-! `ZIT_STAT` (07, Table 7-12, R172) -/
def ZIT_STAT.check_code : Fld := { reg := .ZIT_STAT, code := 2828, hi := 15, lo := 12, acc := .ro, dflt := 0 }
def ZIT_STAT.check_entry : Fld := { reg := .ZIT_STAT, code := 2832, hi := 23, lo := 16, acc := .ro, dflt := 0 }
def ZIT_STAT.wr_ignored : Fld := { reg := .ZIT_STAT, code := 2847, hi := 31, lo := 31, acc := .w1c, dflt := 0 }
/-! `ZIT_CTL` (07, Table 7-4 note, R153) -/
def ZIT_CTL.lock : Fld := { reg := .ZIT_CTL, code := 2911, hi := 31, lo := 31, acc := .w1s, dflt := 0 }
/-! `ZIT_GTICK` (07, Table 7-9 note, R172) -/
def ZIT_GTICK.tick : Fld := { reg := .ZIT_GTICK, code := 2944, hi := 31, lo := 0, acc := .ro, dflt := 0 }
/-! `FEED_CTL` (08, Table 8-6, R198) -/
def FEED_CTL.retry_s : Fld := { reg := .FEED_CTL, code := 3008, hi := 7, lo := 0, acc := .rwl, dflt := 10, min := 1, max := 255 }
def FEED_CTL.retry_max : Fld := { reg := .FEED_CTL, code := 3016, hi := 11, lo := 8, acc := .rwl, dflt := 5 }
def FEED_CTL.lever_act : Fld := { reg := .FEED_CTL, code := 3024, hi := 16, lo := 16, acc := .rwl, dflt := 1 }
def FEED_CTL.lock : Fld := { reg := .FEED_CTL, code := 3039, hi := 31, lo := 31, acc := .w1s, dflt := 0 }
/-! `FEED_INRUSH` (08, Table 8-7, R198) -/
def FEED_INRUSH.dvdt : Fld := { reg := .FEED_INRUSH, code := 3072, hi := 15, lo := 0, acc := .rwl, dflt := 1000, min := 100, max := 10000 }
def FEED_INRUSH.i_max : Fld := { reg := .FEED_INRUSH, code := 3088, hi := 23, lo := 16, acc := .rwl, dflt := 40, min := 1, max := 255 }
def FEED_INRUSH.e_fet_max : Fld := { reg := .FEED_INRUSH, code := 3096, hi := 31, lo := 24, acc := .rwl, dflt := 40, min := 1, max := 255 }
/-! `FEED_TIMING` (08, Table 8-8, R198) -/
def FEED_TIMING.t_settle : Fld := { reg := .FEED_TIMING, code := 3136, hi := 11, lo := 0, acc := .rwl, dflt := 100, min := 10, max := 4095 }
def FEED_TIMING.t_oc : Fld := { reg := .FEED_TIMING, code := 3148, hi := 23, lo := 12, acc := .rwl, dflt := 500, min := 1, max := 4095 }
def FEED_TIMING.ramp_to : Fld := { reg := .FEED_TIMING, code := 3160, hi := 31, lo := 24, acc := .rwl, dflt := 50, min := 1, max := 255 }
/-! `FEED_REMOVE` (08, Table 8-9, R198) -/
def FEED_REMOVE.t_disch_max : Fld := { reg := .FEED_REMOVE, code := 3200, hi := 15, lo := 0, acc := .rwl, dflt := 1000, min := 100, max := 10000 }
def FEED_REMOVE.t_lever : Fld := { reg := .FEED_REMOVE, code := 3216, hi := 31, lo := 16, acc := .rwl, dflt := 50, min := 10, max := 10000 }
/-! `FEED_CMD` (08, Table 8-10, R198) -/
def FEED_CMD.cmd : Fld := { reg := .FEED_CMD, code := 3294, hi := 31, lo := 30, acc := .wo, dflt := 0 }
/-! `FEED_STAT` (08, Table 8-11, R198) -/
def FEED_STAT.collapse : Fld := { reg := .FEED_STAT, code := 3329, hi := 1, lo := 1, acc := .ro, dflt := 0 }
def FEED_STAT.disch : Fld := { reg := .FEED_STAT, code := 3330, hi := 2, lo := 2, acc := .ro, dflt := 0 }
def FEED_STAT.lever_latched : Fld := { reg := .FEED_STAT, code := 3331, hi := 3, lo := 3, acc := .ro, dflt := 0 }
def FEED_STAT.holdup_ok : Fld := { reg := .FEED_STAT, code := 3332, hi := 4, lo := 4, acc := .ro, dflt := 0 }
def FEED_STAT.b_present : Fld := { reg := .FEED_STAT, code := 3333, hi := 5, lo := 5, acc := .ro, dflt := 0 }
def FEED_STAT.a_present : Fld := { reg := .FEED_STAT, code := 3334, hi := 6, lo := 6, acc := .ro, dflt := 0 }
def FEED_STAT.gdb : Fld := { reg := .FEED_STAT, code := 3335, hi := 8, lo := 7, acc := .ro, dflt := 0 }
def FEED_STAT.gda : Fld := { reg := .FEED_STAT, code := 3337, hi := 10, lo := 9, acc := .ro, dflt := 0 }
def FEED_STAT.retry_count : Fld := { reg := .FEED_STAT, code := 3339, hi := 15, lo := 11, acc := .ro, dflt := 0 }
def FEED_STAT.cmd_status : Fld := { reg := .FEED_STAT, code := 3344, hi := 23, lo := 16, acc := .ro, dflt := 0 }
def FEED_STAT.trip_cause : Fld := { reg := .FEED_STAT, code := 3352, hi := 27, lo := 24, acc := .ro, dflt := 0 }
def FEED_STAT.cfg_err : Fld := { reg := .FEED_STAT, code := 3356, hi := 28, lo := 28, acc := .w1c, dflt := 0 }
def FEED_STAT.ins_state : Fld := { reg := .FEED_STAT, code := 3357, hi := 31, lo := 29, acc := .ro, dflt := 0 }
/-! `FEED_EFET` (08, Table 8-12, R198) -/
def FEED_EFET.e_fet : Fld := { reg := .FEED_EFET, code := 3392, hi := 31, lo := 0, acc := .ro, dflt := 0 }
/-! `FEED_WTHHI` (08, Table 8-5 note, R198) -/
def FEED_WTHHI.wh : Fld := { reg := .FEED_WTHHI, code := 3456, hi := 15, lo := 0, acc := .rwl, dflt := 32767, alt := [(0, 28672)] }
def FEED_WTHHI.fh : Fld := { reg := .FEED_WTHHI, code := 3472, hi := 31, lo := 16, acc := .rwl, dflt := 32767, alt := [(0, 30720), (2, 31744), (4,
    31744)] }
/-! `FEED_WTHLO` (08, Table 8-5 note, R198) -/
def FEED_WTHLO.fl : Fld := { reg := .FEED_WTHLO, code := 3520, hi := 15, lo := 0, acc := .rwl, dflt := 32768, alt := [(2, 19456), (3, 65024), (4,
    19456), (5, 65024), (6, 4096), (7, 4096), (8, 4096)] }
def FEED_WTHLO.wl : Fld := { reg := .FEED_WTHLO, code := 3536, hi := 31, lo := 16, acc := .rwl, dflt := 32768, alt := [(1, 18944), (2, 20480), (4,
    20480), (6, 16384), (7, 16384), (8, 16384), (9, 23040)] }
/-! `FEED_WCTL` (08, Table 8-5 note, R198) -/
def FEED_WCTL.arm : Fld := { reg := .FEED_WCTL, code := 3584, hi := 0, lo := 0, acc := .ro, dflt := 1 }
def FEED_WCTL.edge_en : Fld := { reg := .FEED_WCTL, code := 3585, hi := 1, lo := 1, acc := .rwl, dflt := 0 }
def FEED_WCTL.commit : Fld := { reg := .FEED_WCTL, code := 3587, hi := 3, lo := 3, acc := .wo, dflt := 0 }
def FEED_WCTL.fl_en : Fld := { reg := .FEED_WCTL, code := 3588, hi := 4, lo := 4, acc := .rwl, dflt := 0, alt := [(2, 1), (3, 1), (4, 1), (5, 1), (6,
    1), (7, 1), (8, 1)] }
def FEED_WCTL.wl_en : Fld := { reg := .FEED_WCTL, code := 3589, hi := 5, lo := 5, acc := .rwl, dflt := 0, alt := [(1, 1), (2, 1), (4, 1), (6, 1), (7,
    1), (8, 1), (9, 1)] }
def FEED_WCTL.wh_en : Fld := { reg := .FEED_WCTL, code := 3590, hi := 6, lo := 6, acc := .rwl, dflt := 0, alt := [(0, 1)] }
def FEED_WCTL.fh_en : Fld := { reg := .FEED_WCTL, code := 3591, hi := 7, lo := 7, acc := .rwl, dflt := 0, alt := [(0, 1), (2, 1), (4, 1)] }
def FEED_WCTL.filter : Fld := { reg := .FEED_WCTL, code := 3592, hi := 15, lo := 8, acc := .rwl, dflt := 1, min := 1, max := 255, alt := [(0, 2), (1,
    20), (2, 40), (4, 40), (6, 10), (7, 10), (8, 10), (9, 10)] }
def FEED_WCTL.hyst : Fld := { reg := .FEED_WCTL, code := 3600, hi := 31, lo := 16, acc := .rwl, dflt := 0, alt := [(0, 512), (1, 512), (2, 512), (3,
    256), (4, 512), (5, 256), (6, 1024), (7, 1024), (8, 1024), (9, 512)] }
/-! `HARP_WCTL` (09, Table 9-9, R223) -/
def HARP_WCTL.walrt_filter : Fld := { reg := .HARP_WCTL, code := 3648, hi := 7, lo := 0, acc := .rwl, dflt := 4 }
def HARP_WCTL.floor : Fld := { reg := .HARP_WCTL, code := 3656, hi := 9, lo := 8, acc := .rw, dflt := 0 }
def HARP_WCTL.walrt_code : Fld := { reg := .HARP_WCTL, code := 3658, hi := 11, lo := 10, acc := .rwl, dflt := 1 }
def HARP_WCTL.step_down : Fld := { reg := .HARP_WCTL, code := 3663, hi := 15, lo := 15, acc := .rwl, dflt := 1 }
def HARP_WCTL.hold : Fld := { reg := .HARP_WCTL, code := 3664, hi := 23, lo := 16, acc := .rwl, dflt := 1, min := 1, max := 255 }
def HARP_WCTL.lock : Fld := { reg := .HARP_WCTL, code := 3679, hi := 31, lo := 31, acc := .w1s, dflt := 0 }
/-! `HARP_WSTAT` (09, Table 9-10, R223) -/
def HARP_WSTAT.last_up_us : Fld := { reg := .HARP_WSTAT, code := 3712, hi := 15, lo := 0, acc := .ro, dflt := 0 }
def HARP_WSTAT.hold : Fld := { reg := .HARP_WSTAT, code := 3734, hi := 22, lo := 22, acc := .ro, dflt := 0 }
def HARP_WSTAT.walrt : Fld := { reg := .HARP_WSTAT, code := 3735, hi := 23, lo := 23, acc := .ro, dflt := 0 }
def HARP_WSTAT.walrt_req : Fld := { reg := .HARP_WSTAT, code := 3736, hi := 25, lo := 24, acc := .ro, dflt := 0 }
def HARP_WSTAT.obj : Fld := { reg := .HARP_WSTAT, code := 3738, hi := 27, lo := 26, acc := .ro, dflt := 0 }
def HARP_WSTAT.rfx : Fld := { reg := .HARP_WSTAT, code := 3740, hi := 29, lo := 28, acc := .ro, dflt := 0 }
def HARP_WSTAT.code : Fld := { reg := .HARP_WSTAT, code := 3742, hi := 31, lo := 30, acc := .ro, dflt := 0 }
/-! `HARP_WUPS` (09, Table 9-11, R223) -/
def HARP_WUPS.ups : Fld := { reg := .HARP_WUPS, code := 3776, hi := 31, lo := 0, acc := .ro, dflt := 0 }
/-! `HARP_AVSCFG` (09, Table 9-12, R223) -/
def HARP_AVSCFG.v_min : Fld := { reg := .HARP_AVSCFG, code := 3840, hi := 11, lo := 0, acc := .rwl, dflt := 0, min := 0, max := 2000 }
def HARP_AVSCFG.v_max : Fld := { reg := .HARP_AVSCFG, code := 3856, hi := 27, lo := 16, acc := .rwl, dflt := 0, min := 0, max := 2000 }
def HARP_AVSCFG.enable : Fld := { reg := .HARP_AVSCFG, code := 3870, hi := 30, lo := 30, acc := .rwl, dflt := 0 }
def HARP_AVSCFG.lock : Fld := { reg := .HARP_AVSCFG, code := 3871, hi := 31, lo := 31, acc := .w1s, dflt := 0 }
/-! `HARP_AVSSTAT` (09, Table 9-13, R223) -/
def HARP_AVSSTAT.clamped : Fld := { reg := .HARP_AVSSTAT, code := 3909, hi := 5, lo := 5, acc := .w1c, dflt := 0 }
def HARP_AVSSTAT.fault : Fld := { reg := .HARP_AVSSTAT, code := 3910, hi := 6, lo := 6, acc := .ro, dflt := 0 }
def HARP_AVSSTAT.busy : Fld := { reg := .HARP_AVSSTAT, code := 3911, hi := 7, lo := 7, acc := .ro, dflt := 0 }
def HARP_AVSSTAT.v_read : Fld := { reg := .HARP_AVSSTAT, code := 3912, hi := 19, lo := 8, acc := .ro, dflt := 0 }
def HARP_AVSSTAT.v_sent : Fld := { reg := .HARP_AVSSTAT, code := 3924, hi := 31, lo := 20, acc := .ro, dflt := 0 }
/-! `HARP_WRES` (09, Table 9-11 note, R223) -/
def HARP_WRES.us : Fld := { reg := .HARP_WRES, code := 3968, hi := 31, lo := 0, acc := .ro, dflt := 0 }
/-! `HARP_GCTL` (09, Table 9-13 note, R223) -/
def HARP_GCTL.poll : Fld := { reg := .HARP_GCTL, code := 4032, hi := 1, lo := 0, acc := .rwl, dflt := 2 }
def HARP_GCTL.avs_mhz : Fld := { reg := .HARP_GCTL, code := 4040, hi := 15, lo := 8, acc := .rwl, dflt := 25, min := 5, max := 50 }
def HARP_GCTL.lock : Fld := { reg := .HARP_GCTL, code := 4063, hi := 31, lo := 31, acc := .w1s, dflt := 0 }
/-! `HARP_GSTAT` (09, Table 9-13 note, R223) -/
def HARP_GSTAT.obj_excl : Fld := { reg := .HARP_GSTAT, code := 4096, hi := 0, lo := 0, acc := .ro, dflt := 0 }
/-! `MRT_TCTL` (10, Table 10-10, R254) -/
def MRT_TCTL.fast_cycles : Fld := { reg := .MRT_TCTL, code := 4160, hi := 10, lo := 0, acc := .rwl, dflt := 1000 }
def MRT_TCTL.enable : Fld := { reg := .MRT_TCTL, code := 4176, hi := 16, lo := 16, acc := .rw, dflt := 0 }
def MRT_TCTL.run : Fld := { reg := .MRT_TCTL, code := 4177, hi := 17, lo := 17, acc := .rw, dflt := 0 }
def MRT_TCTL.lock : Fld := { reg := .MRT_TCTL, code := 4191, hi := 31, lo := 31, acc := .w1s, dflt := 0 }
/-! `MRT_TSTAT` (10, Table 10-11, R254) -/
def MRT_TSTAT.invalidated : Fld := { reg := .MRT_TSTAT, code := 4224, hi := 0, lo := 0, acc := .ro, dflt := 0 }
def MRT_TSTAT.uncorr : Fld := { reg := .MRT_TSTAT, code := 4225, hi := 1, lo := 1, acc := .w1c, dflt := 0 }
def MRT_TSTAT.sat : Fld := { reg := .MRT_TSTAT, code := 4226, hi := 2, lo := 2, acc := .w1c, dflt := 0 }
def MRT_TSTAT.nan : Fld := { reg := .MRT_TSTAT, code := 4227, hi := 3, lo := 3, acc := .w1c, dflt := 0 }
def MRT_TSTAT.wr_ignored : Fld := { reg := .MRT_TSTAT, code := 4228, hi := 4, lo := 4, acc := .w1c, dflt := 0 }
def MRT_TSTAT.queued : Fld := { reg := .MRT_TSTAT, code := 4232, hi := 15, lo := 8, acc := .ro, dflt := 0 }
def MRT_TSTAT.cmd_status : Fld := { reg := .MRT_TSTAT, code := 4240, hi := 23, lo := 16, acc := .ro, dflt := 0 }
def MRT_TSTAT.state : Fld := { reg := .MRT_TSTAT, code := 4253, hi := 31, lo := 29, acc := .ro, dflt := 0 }
/-! `MRT_TCLS` (10, Table 10-12, R254) -/
def MRT_TCLS.done : Fld := { reg := .MRT_TCLS, code := 4288, hi := 23, lo := 0, acc := .ro, dflt := 0 }
def MRT_TCLS.last_status : Fld := { reg := .MRT_TCLS, code := 4312, hi := 31, lo := 24, acc := .ro, dflt := 0 }
/-! `MRT_TMISS` (10, Table 10-13, R254) -/
def MRT_TMISS.missed : Fld := { reg := .MRT_TMISS, code := 4352, hi := 31, lo := 0, acc := .ro, dflt := 0 }
/-! `MRT_TECC` (10, Table 10-14, R254) -/
def MRT_TECC.corr : Fld := { reg := .MRT_TECC, code := 4416, hi := 15, lo := 0, acc := .ro, dflt := 0 }
def MRT_TECC.uncorr : Fld := { reg := .MRT_TECC, code := 4432, hi := 31, lo := 16, acc := .ro, dflt := 0 }
/-! `MRT_TERRA` (10, Table 10-15, R254) -/
def MRT_TERRA.word : Fld := { reg := .MRT_TERRA, code := 4480, hi := 17, lo := 0, acc := .ro, dflt := 0 }
def MRT_TERRA.scrub : Fld := { reg := .MRT_TERRA, code := 4510, hi := 30, lo := 30, acc := .ro, dflt := 0 }
def MRT_TERRA.valid : Fld := { reg := .MRT_TERRA, code := 4511, hi := 31, lo := 31, acc := .w1c, dflt := 0 }
/-! `MRT_GSTAT` (10, Table 10-16, R254) -/
def MRT_GSTAT.on_mask : Fld := { reg := .MRT_GSTAT, code := 4544, hi := 3, lo := 0, acc := .ro, dflt := 0 }
def MRT_GSTAT.run_mask : Fld := { reg := .MRT_GSTAT, code := 4548, hi := 7, lo := 4, acc := .ro, dflt := 0 }
/-! `MRT_TUTIL` (10, Table 10-15 note, R254) -/
def MRT_TUTIL.last_fast : Fld := { reg := .MRT_TUTIL, code := 4608, hi := 15, lo := 0, acc := .ro, dflt := 0 }
def MRT_TUTIL.max_fast : Fld := { reg := .MRT_TUTIL, code := 4624, hi := 31, lo := 16, acc := .ro, dflt := 0 }
/-! `MRT_CHK` (11, Table 11-8, R274) -/
def MRT_CHK.shadow : Fld := { reg := .MRT_CHK, code := 4672, hi := 0, lo := 0, acc := .ro, dflt := 0 }
def MRT_CHK.entry : Fld := { reg := .MRT_CHK, code := 4688, hi := 23, lo := 16, acc := .ro, dflt := 0 }
def MRT_CHK.code : Fld := { reg := .MRT_CHK, code := 4696, hi := 31, lo := 24, acc := .ro, dflt := 0 }
/-! `MRT_OFFER` (11, Table 11-9, R274) -/
def MRT_OFFER.min_mv : Fld := { reg := .MRT_OFFER, code := 4736, hi := 11, lo := 0, acc := .ro, dflt := 0 }
def MRT_OFFER.offer_mv : Fld := { reg := .MRT_OFFER, code := 4748, hi := 23, lo := 12, acc := .ro, dflt := 0 }
def MRT_OFFER.valid : Fld := { reg := .MRT_OFFER, code := 4767, hi := 31, lo := 31, acc := .ro, dflt := 0 }
/-! `MRT_ISTAT` (11, Table 11-10, R274) -/
def MRT_ISTAT.sub_msps : Fld := { reg := .MRT_ISTAT, code := 4800, hi := 15, lo := 0, acc := .ro, dflt := 0 }
def MRT_ISTAT.telem_words : Fld := { reg := .MRT_ISTAT, code := 4816, hi := 23, lo := 16, acc := .ro, dflt := 0 }
def MRT_ISTAT.over : Fld := { reg := .MRT_ISTAT, code := 4831, hi := 31, lo := 31, acc := .w1c, dflt := 0 }
/-! `MRT_IDROP` (11, Table 11-11, R274) -/
def MRT_IDROP.dropped : Fld := { reg := .MRT_IDROP, code := 4864, hi := 31, lo := 0, acc := .ro, dflt := 0 }
/-! `MRT_JSTAT` (11, Table 11-12, R274) -/
def MRT_JSTAT.ok_runs : Fld := { reg := .MRT_JSTAT, code := 4928, hi := 11, lo := 0, acc := .ro, dflt := 0 }
def MRT_JSTAT.state : Fld := { reg := .MRT_JSTAT, code := 4942, hi := 15, lo := 14, acc := .ro, dflt := 0 }
def MRT_JSTAT.consec_fail : Fld := { reg := .MRT_JSTAT, code := 4944, hi := 23, lo := 16, acc := .ro, dflt := 0 }
def MRT_JSTAT.last_status : Fld := { reg := .MRT_JSTAT, code := 4952, hi := 31, lo := 24, acc := .ro, dflt := 0 }

end Sys2Proof.Machine
end

