-- ==== Sys2Proof/Machine/RegsB.lean ====
section
/-!
DEFINITION. The fields of the registers of chapters 12 to 21, with the bits, access, reset value and range of the spec's tables.
-/
namespace Sys2Proof.Machine

/-! `FAN_OCFG` (12, Table 12-5, R300) -/
def FAN_OCFG.rpm_full : Fld := { reg := .FAN_OCFG, code := 4992, hi := 11, lo := 0, acc := .rwl, dflt := 0 }
def FAN_OCFG.ppr : Fld := { reg := .FAN_OCFG, code := 5004, hi := 15, lo := 12, acc := .rwl, dflt := 2, min := 1, max := 15 }
def FAN_OCFG.i_gs : Fld := { reg := .FAN_OCFG, code := 5008, hi := 23, lo := 16, acc := .rwl, dflt := 0, min := 0, max := 191 }
def FAN_OCFG.i_en : Fld := { reg := .FAN_OCFG, code := 5018, hi := 26, lo := 26, acc := .rwl, dflt := 0 }
def FAN_OCFG.zone : Fld := { reg := .FAN_OCFG, code := 5019, hi := 28, lo := 27, acc := .rwl, dflt := 0 }
def FAN_OCFG.zoned : Fld := { reg := .FAN_OCFG, code := 5021, hi := 29, lo := 29, acc := .rwl, dflt := 0 }
def FAN_OCFG.sup : Fld := { reg := .FAN_OCFG, code := 5022, hi := 30, lo := 30, acc := .rwl, dflt := 0 }
def FAN_OCFG.lock : Fld := { reg := .FAN_OCFG, code := 5023, hi := 31, lo := 31, acc := .w1s, dflt := 0 }
/-! `FAN_OLIM` (12, Table 12-6, R300) -/
def FAN_OLIM.i_min : Fld := { reg := .FAN_OLIM, code := 5056, hi := 15, lo := 0, acc := .rwl, dflt := 0 }
def FAN_OLIM.i_stall : Fld := { reg := .FAN_OLIM, code := 5072, hi := 31, lo := 16, acc := .rwl, dflt := 0 }
/-! `FAN_OSTAT` (12, Table 12-7, R300) -/
def FAN_OSTAT.speed : Fld := { reg := .FAN_OSTAT, code := 5120, hi := 15, lo := 0, acc := .ro, dflt := 0 }
def FAN_OSTAT.drive : Fld := { reg := .FAN_OSTAT, code := 5136, hi := 25, lo := 16, acc := .ro, dflt := 0 }
def FAN_OSTAT.owned : Fld := { reg := .FAN_OSTAT, code := 5146, hi := 26, lo := 26, acc := .ro, dflt := 0 }
def FAN_OSTAT.retries : Fld := { reg := .FAN_OSTAT, code := 5147, hi := 28, lo := 27, acc := .ro, dflt := 0 }
def FAN_OSTAT.state : Fld := { reg := .FAN_OSTAT, code := 5149, hi := 31, lo := 29, acc := .ro, dflt := 0 }
/-! `FAN_ZCTL` (12, Table 12-8, R300) -/
def FAN_ZCTL.comp : Fld := { reg := .FAN_ZCTL, code := 5190, hi := 12, lo := 6, acc := .rwl, dflt := 20, min := 0, max := 100 }
def FAN_ZCTL.pump_floor : Fld := { reg := .FAN_ZCTL, code := 5197, hi := 19, lo := 13, acc := .rwl, dflt := 0, min := 0, max := 100 }
def FAN_ZCTL.lost_max : Fld := { reg := .FAN_ZCTL, code := 5204, hi := 22, lo := 20, acc := .rwl, dflt := 2 }
def FAN_ZCTL.ab_act : Fld := { reg := .FAN_ZCTL, code := 5207, hi := 24, lo := 23, acc := .rwl, dflt := 1, min := 0, max := 2 }
def FAN_ZCTL.tl_act : Fld := { reg := .FAN_ZCTL, code := 5209, hi := 26, lo := 25, acc := .rwl, dflt := 1, min := 0, max := 2 }
def FAN_ZCTL.cmd : Fld := { reg := .FAN_ZCTL, code := 5213, hi := 30, lo := 29, acc := .wo, dflt := 0 }
def FAN_ZCTL.lock : Fld := { reg := .FAN_ZCTL, code := 5215, hi := 31, lo := 31, acc := .w1s, dflt := 0 }
/-! `FAN_ZSTAT` (12, Table 12-9, R300) -/
def FAN_ZSTAT.level : Fld := { reg := .FAN_ZSTAT, code := 5253, hi := 7, lo := 5, acc := .ro, dflt := 0 }
def FAN_ZSTAT.cmd_status : Fld := { reg := .FAN_ZSTAT, code := 5256, hi := 15, lo := 8, acc := .ro, dflt := 0 }
def FAN_ZSTAT.t_duty : Fld := { reg := .FAN_ZSTAT, code := 5264, hi := 22, lo := 16, acc := .ro, dflt := 0 }
def FAN_ZSTAT.lost : Fld := { reg := .FAN_ZSTAT, code := 5271, hi := 25, lo := 23, acc := .ro, dflt := 0 }
def FAN_ZSTAT.sensor_fail : Fld := { reg := .FAN_ZSTAT, code := 5274, hi := 26, lo := 26, acc := .ro, dflt := 0 }
def FAN_ZSTAT.tbl_err : Fld := { reg := .FAN_ZSTAT, code := 5275, hi := 27, lo := 27, acc := .ro, dflt := 0 }
def FAN_ZSTAT.fb_cause : Fld := { reg := .FAN_ZSTAT, code := 5276, hi := 30, lo := 28, acc := .ro, dflt := 0 }
def FAN_ZSTAT.fallback : Fld := { reg := .FAN_ZSTAT, code := 5279, hi := 31, lo := 31, acc := .ro, dflt := 1 }
/-! `FAN_ZPT` (12, Table 12-10, R300) -/
def FAN_ZPT.duty : Fld := { reg := .FAN_ZPT, code := 5312, hi := 6, lo := 0, acc := .rwl, dflt := 100, min := 0, max := 100 }
def FAN_ZPT.hyst : Fld := { reg := .FAN_ZPT, code := 5324, hi := 15, lo := 12, acc := .rwl, dflt := 2 }
def FAN_ZPT.temp : Fld := { reg := .FAN_ZPT, code := 5328, hi := 23, lo := 16, acc := .rwl, dflt := 0 }
/-! `FAN_DUTY` (12, Table 12-6 note, R300) -/
def FAN_DUTY.duty : Fld := { reg := .FAN_DUTY, code := 5376, hi := 9, lo := 0, acc := .rw, dflt := 0, min := 0, max := 1000 }
/-! `FAN_ZIN` (12, Table 12-8 note, R300) -/
def FAN_ZIN.sel : Fld := { reg := .FAN_ZIN, code := 5440, hi := 31, lo := 0, acc := .rwl, dflt := 3 }
/-! `FAN_FCFG` (12, Table 12-11 note, R300) -/
def FAN_FCFG.f_low : Fld := { reg := .FAN_FCFG, code := 5504, hi := 11, lo := 0, acc := .rwl, dflt := 0 }
def FAN_FCFG.k : Fld := { reg := .FAN_FCFG, code := 5516, hi := 23, lo := 12, acc := .rwl, dflt := 0, min := 1, max := 4095 }
def FAN_FCFG.branch : Fld := { reg := .FAN_FCFG, code := 5528, hi := 25, lo := 24, acc := .rwl, dflt := 0 }
def FAN_FCFG.br_en : Fld := { reg := .FAN_FCFG, code := 5530, hi := 26, lo := 26, acc := .rwl, dflt := 0 }
def FAN_FCFG.zone : Fld := { reg := .FAN_FCFG, code := 5531, hi := 28, lo := 27, acc := .rwl, dflt := 0 }
def FAN_FCFG.zoned : Fld := { reg := .FAN_FCFG, code := 5533, hi := 29, lo := 29, acc := .rwl, dflt := 0 }
def FAN_FCFG.en : Fld := { reg := .FAN_FCFG, code := 5534, hi := 30, lo := 30, acc := .rwl, dflt := 0 }
def FAN_FCFG.lock : Fld := { reg := .FAN_FCFG, code := 5535, hi := 31, lo := 31, acc := .w1s, dflt := 0 }
/-! `FAN_FSTAT` (12, Table 12-11 note, R300) -/
def FAN_FSTAT.flow : Fld := { reg := .FAN_FSTAT, code := 5568, hi := 15, lo := 0, acc := .ro, dflt := 0 }
def FAN_FSTAT.low : Fld := { reg := .FAN_FSTAT, code := 5599, hi := 31, lo := 31, acc := .ro, dflt := 0 }
/-! `FAN_VLV` (12, Table 12-11 note, R300) -/
def FAN_VLV.close : Fld := { reg := .FAN_VLV, code := 5632, hi := 3, lo := 0, acc := .rw, dflt := 0 }
def FAN_VLV.owned : Fld := { reg := .FAN_VLV, code := 5636, hi := 7, lo := 4, acc := .ro, dflt := 0 }
def FAN_VLV.drive : Fld := { reg := .FAN_VLV, code := 5640, hi := 11, lo := 8, acc := .ro, dflt := 0 }
/-! `FAN_CMD` (12, Table 12-11 note, R300) -/
def FAN_CMD.o : Fld := { reg := .FAN_CMD, code := 5696, hi := 4, lo := 0, acc := .rw, dflt := 0 }
def FAN_CMD.cmd : Fld := { reg := .FAN_CMD, code := 5726, hi := 31, lo := 30, acc := .wo, dflt := 0 }
/-! `FAN_GCTL` (12, Table 12-11 note, R300) -/
def FAN_GCTL.pump_1khz : Fld := { reg := .FAN_GCTL, code := 5760, hi := 0, lo := 0, acc := .rwl, dflt := 0 }
def FAN_GCTL.lock : Fld := { reg := .FAN_GCTL, code := 5791, hi := 31, lo := 31, acc := .w1s, dflt := 0 }
/-! `FAN_CRIT` (12, Table 12-11 note, R300) -/
def FAN_CRIT.hotter : Fld := { reg := .FAN_CRIT, code := 5824, hi := 7, lo := 0, acc := .ro, dflt := 0 }
def FAN_CRIT.threshold : Fld := { reg := .FAN_CRIT, code := 5832, hi := 15, lo := 8, acc := .ro, dflt := 95 }
def FAN_CRIT.failed : Fld := { reg := .FAN_CRIT, code := 5852, hi := 29, lo := 28, acc := .ro, dflt := 0 }
def FAN_CRIT.grace : Fld := { reg := .FAN_CRIT, code := 5854, hi := 30, lo := 30, acc := .ro, dflt := 0 }
def FAN_CRIT.asserting : Fld := { reg := .FAN_CRIT, code := 5855, hi := 31, lo := 31, acc := .ro, dflt := 0 }
/-! `LEAK_RSTAT` (12, Table 12-11 note, R301) -/
def LEAK_RSTAT.lowest : Fld := { reg := .LEAK_RSTAT, code := 5888, hi := 15, lo := 0, acc := .ro, dflt := 32767 }
def LEAK_RSTAT.clear : Fld := { reg := .LEAK_RSTAT, code := 5915, hi := 27, lo := 27, acc := .wo, dflt := 0 }
def LEAK_RSTAT.worst : Fld := { reg := .LEAK_RSTAT, code := 5916, hi := 29, lo := 28, acc := .ro, dflt := 0 }
def LEAK_RSTAT.cls : Fld := { reg := .LEAK_RSTAT, code := 5918, hi := 31, lo := 30, acc := .ro, dflt := 0 }
/-! `WPORT_CTL` (13, Table 13-11, R332) -/
def WPORT_CTL.enable : Fld := { reg := .WPORT_CTL, code := 5952, hi := 0, lo := 0, acc := .rw, dflt := 0 }
def WPORT_CTL.one_lane_ok : Fld := { reg := .WPORT_CTL, code := 5953, hi := 1, lo := 1, acc := .rw, dflt := 1 }
def WPORT_CTL.retrain_max : Fld := { reg := .WPORT_CTL, code := 5964, hi := 15, lo := 12, acc := .rw, dflt := 3 }
def WPORT_CTL.uncorr_max : Fld := { reg := .WPORT_CTL, code := 5968, hi := 23, lo := 16, acc := .rw, dflt := 8, min := 1, max := 255 }
/-! `WPORT_STAT` (13, Table 13-12, R332) -/
def WPORT_STAT.outstanding : Fld := { reg := .WPORT_STAT, code := 6016, hi := 7, lo := 0, acc := .ro, dflt := 0 }
def WPORT_STAT.retrains : Fld := { reg := .WPORT_STAT, code := 6024, hi := 15, lo := 8, acc := .ro, dflt := 0 }
def WPORT_STAT.cmd_status : Fld := { reg := .WPORT_STAT, code := 6032, hi := 23, lo := 16, acc := .ro, dflt := 0 }
def WPORT_STAT.light0 : Fld := { reg := .WPORT_STAT, code := 6040, hi := 24, lo := 24, acc := .ro, dflt := 0 }
def WPORT_STAT.light1 : Fld := { reg := .WPORT_STAT, code := 6041, hi := 25, lo := 25, acc := .ro, dflt := 0 }
def WPORT_STAT.sec : Fld := { reg := .WPORT_STAT, code := 6042, hi := 26, lo := 26, acc := .ro, dflt := 0 }
def WPORT_STAT.lanes : Fld := { reg := .WPORT_STAT, code := 6043, hi := 28, lo := 27, acc := .ro, dflt := 0 }
def WPORT_STAT.state : Fld := { reg := .WPORT_STAT, code := 6045, hi := 31, lo := 29, acc := .ro, dflt := 0 }
/-! `WPORT_TMO` (13, Table 13-13, R332) -/
def WPORT_TMO.drain_us : Fld := { reg := .WPORT_TMO, code := 6080, hi := 15, lo := 0, acc := .rw, dflt := 200, min := 1, max := 65535 }
def WPORT_TMO.fence : Fld := { reg := .WPORT_TMO, code := 6096, hi := 23, lo := 16, acc := .rw, dflt := 10, min := 1, max := 255 }
def WPORT_TMO.req_us : Fld := { reg := .WPORT_TMO, code := 6104, hi := 31, lo := 24, acc := .rw, dflt := 20, min := 1, max := 255 }
/-! `WPORT_ERR` (13, Table 13-14, R332) -/
def WPORT_ERR.req_to : Fld := { reg := .WPORT_ERR, code := 6144, hi := 7, lo := 0, acc := .ro, dflt := 0 }
def WPORT_ERR.telem_lost : Fld := { reg := .WPORT_ERR, code := 6152, hi := 15, lo := 8, acc := .ro, dflt := 0 }
def WPORT_ERR.tag : Fld := { reg := .WPORT_ERR, code := 6160, hi := 23, lo := 16, acc := .ro, dflt := 0 }
def WPORT_ERR.crc : Fld := { reg := .WPORT_ERR, code := 6168, hi := 31, lo := 24, acc := .ro, dflt := 0 }
/-! `WPORT_LSCFG` (13, Table 13-15, R332) -/
def WPORT_LSCFG.p_probe : Fld := { reg := .WPORT_LSCFG, code := 6212, hi := 11, lo := 4, acc := .rwl, dflt := 5, min := 1, max := 50 }
def WPORT_LSCFG.p_max : Fld := { reg := .WPORT_LSCFG, code := 6228, hi := 29, lo := 20, acc := .rwl, dflt := 300, min := 0, max := 500 }
def WPORT_LSCFG.enable : Fld := { reg := .WPORT_LSCFG, code := 6238, hi := 30, lo := 30, acc := .rwl, dflt := 0 }
def WPORT_LSCFG.lock : Fld := { reg := .WPORT_LSCFG, code := 6239, hi := 31, lo := 31, acc := .w1s, dflt := 0 }
/-! `WPORT_LSSTAT` (13, Table 13-16, R332) -/
def WPORT_LSSTAT.temp : Fld := { reg := .WPORT_LSSTAT, code := 6272, hi := 7, lo := 0, acc := .ro, dflt := 0 }
def WPORT_LSSTAT.cmd_status : Fld := { reg := .WPORT_LSSTAT, code := 6280, hi := 15, lo := 8, acc := .ro, dflt := 0 }
def WPORT_LSSTAT.p_meas : Fld := { reg := .WPORT_LSSTAT, code := 6288, hi := 25, lo := 16, acc := .ro, dflt := 0 }
def WPORT_LSSTAT.present : Fld := { reg := .WPORT_LSSTAT, code := 6298, hi := 26, lo := 26, acc := .ro, dflt := 0 }
def WPORT_LSSTAT.refused : Fld := { reg := .WPORT_LSSTAT, code := 6299, hi := 27, lo := 27, acc := .w1c, dflt := 0 }
def WPORT_LSSTAT.limited : Fld := { reg := .WPORT_LSSTAT, code := 6300, hi := 28, lo := 28, acc := .w1c, dflt := 0 }
def WPORT_LSSTAT.state : Fld := { reg := .WPORT_LSSTAT, code := 6301, hi := 31, lo := 29, acc := .ro, dflt := 0 }
/-! `WPORT_FECCOR` (13, Table 13-13 note, R332) -/
def WPORT_FECCOR.count : Fld := { reg := .WPORT_FECCOR, code := 6336, hi := 31, lo := 0, acc := .ro, dflt := 0 }
/-! `WPORT_FECUNC` (13, Table 13-13 note, R332) -/
def WPORT_FECUNC.count : Fld := { reg := .WPORT_FECUNC, code := 6400, hi := 31, lo := 0, acc := .ro, dflt := 0 }
/-! `WPORT_TLAT` (13, Table 13-14 note, R332) -/
def WPORT_TLAT.last : Fld := { reg := .WPORT_TLAT, code := 6464, hi := 15, lo := 0, acc := .ro, dflt := 0 }
def WPORT_TLAT.largest : Fld := { reg := .WPORT_TLAT, code := 6480, hi := 31, lo := 16, acc := .ro, dflt := 0 }
/-! `WPORT_LSCMD` (13, Table 13-16 note, R332) -/
def WPORT_LSCMD.bus : Fld := { reg := .WPORT_LSCMD, code := 6528, hi := 2, lo := 0, acc := .rw, dflt := 0 }
def WPORT_LSCMD.cmd : Fld := { reg := .WPORT_LSCMD, code := 6558, hi := 31, lo := 30, acc := .wo, dflt := 0 }
/-! `DEV_ID` (16, Table 16-3, R393) -/
def DEV_ID.part : Fld := { reg := .DEV_ID, code := 6592, hi := 15, lo := 0, acc := .ro, dflt := 2112 }
def DEV_ID.family : Fld := { reg := .DEV_ID, code := 6608, hi := 31, lo := 16, acc := .ro, dflt := 21332 }
/-! `STEP_ID` (16, Table 16-4, R393) -/
def STEP_ID.minor : Fld := { reg := .STEP_ID, code := 6672, hi := 23, lo := 16, acc := .ro, dflt := 0 }
def STEP_ID.major : Fld := { reg := .STEP_ID, code := 6680, hi := 31, lo := 24, acc := .ro, dflt := 1 }
/-! `CAP0` (16, Table 16-5, R393) -/
def CAP0.marten_tiles : Fld := { reg := .CAP0, code := 6720, hi := 3, lo := 0, acc := .ro, dflt := 4 }
def CAP0.hbm_stacks : Fld := { reg := .CAP0, code := 6724, hi := 7, lo := 4, acc := .ro, dflt := 4 }
def CAP0.twin_port : Fld := { reg := .CAP0, code := 6728, hi := 8, lo := 8, acc := .ro, dflt := 1 }
/-! `CAP1` (16, Table 16-6, R393) -/
def CAP1.recorder_gib : Fld := { reg := .CAP1, code := 6784, hi := 7, lo := 0, acc := .ro, dflt := 48 }
def CAP1.power_max_w : Fld := { reg := .CAP1, code := 6792, hi := 15, lo := 8, acc := .ro, dflt := 125 }
/-! `DEV_STAT` (16, Table 16-7, R393) -/
def DEV_STAT.rings_on : Fld := { reg := .DEV_STAT, code := 6856, hi := 15, lo := 8, acc := .ro, dflt := 0 }
def DEV_STAT.role : Fld := { reg := .DEV_STAT, code := 6874, hi := 27, lo := 26, acc := .ro, dflt := 0 }
def DEV_STAT.mem_active : Fld := { reg := .DEV_STAT, code := 6876, hi := 28, lo := 28, acc := .ro, dflt := 0 }
def DEV_STAT.mode : Fld := { reg := .DEV_STAT, code := 6877, hi := 31, lo := 29, acc := .ro, dflt := 0 }
/-! `INT_CAUSE` (16, Table 16-8, R394) -/
def INT_CAUSE.ready : Fld := { reg := .INT_CAUSE, code := 6912, hi := 0, lo := 0, acc := .w1c, dflt := 0 }
def INT_CAUSE.restarting : Fld := { reg := .INT_CAUSE, code := 6913, hi := 1, lo := 1, acc := .w1c, dflt := 0 }
def INT_CAUSE.event : Fld := { reg := .INT_CAUSE, code := 6914, hi := 2, lo := 2, acc := .w1c, dflt := 0 }
def INT_CAUSE.link_narrow : Fld := { reg := .INT_CAUSE, code := 6915, hi := 3, lo := 3, acc := .w1c, dflt := 0 }
def INT_CAUSE.hdm_denied : Fld := { reg := .INT_CAUSE, code := 6916, hi := 4, lo := 4, acc := .w1c, dflt := 0 }
def INT_CAUSE.dma_err : Fld := { reg := .INT_CAUSE, code := 6917, hi := 5, lo := 5, acc := .w1c, dflt := 0 }
/-! `RING_CTL` (16, Table 16-9, R395) -/
def RING_CTL.vector : Fld := { reg := .RING_CTL, code := 6984, hi := 13, lo := 8, acc := .rw, dflt := 0 }
def RING_CTL.int_en : Fld := { reg := .RING_CTL, code := 6991, hi := 15, lo := 15, acc := .rw, dflt := 0 }
def RING_CTL.cq_log2 : Fld := { reg := .RING_CTL, code := 6996, hi := 23, lo := 20, acc := .rw, dflt := 0, min := 4, max := 12 }
def RING_CTL.sq_log2 : Fld := { reg := .RING_CTL, code := 7000, hi := 27, lo := 24, acc := .rw, dflt := 0, min := 4, max := 12 }
def RING_CTL.enable : Fld := { reg := .RING_CTL, code := 7007, hi := 31, lo := 31, acc := .rw, dflt := 0 }
/-! `RING_STAT` (16, Table 16-10, R395) -/
def RING_STAT.subs : Fld := { reg := .RING_STAT, code := 7040, hi := 7, lo := 0, acc := .ro, dflt := 0 }
def RING_STAT.outstanding : Fld := { reg := .RING_STAT, code := 7048, hi := 11, lo := 8, acc := .ro, dflt := 0 }
def RING_STAT.ctl_status : Fld := { reg := .RING_STAT, code := 7056, hi := 23, lo := 16, acc := .ro, dflt := 0 }
def RING_STAT.state : Fld := { reg := .RING_STAT, code := 7070, hi := 31, lo := 30, acc := .ro, dflt := 0 }
/-! `IF_VER` (16, Table 16-6 note, R393) -/
def IF_VER.minor : Fld := { reg := .IF_VER, code := 7104, hi := 7, lo := 0, acc := .ro, dflt := 0 }
def IF_VER.major : Fld := { reg := .IF_VER, code := 7112, hi := 15, lo := 8, acc := .ro, dflt := 1 }
/-! `FW_BUILD` (16, Table 16-6 note, R393) -/
def FW_BUILD.patch : Fld := { reg := .FW_BUILD, code := 7168, hi := 15, lo := 0, acc := .ro, dflt := 0 }
def FW_BUILD.minor : Fld := { reg := .FW_BUILD, code := 7184, hi := 23, lo := 16, acc := .ro, dflt := 0 }
def FW_BUILD.major : Fld := { reg := .FW_BUILD, code := 7192, hi := 31, lo := 24, acc := .ro, dflt := 0 }
/-! `HDM_WCTL` (16, Table 16-7 note, R393) -/
def HDM_WCTL.stage_open : Fld := { reg := .HDM_WCTL, code := 7232, hi := 0, lo := 0, acc := .rw, dflt := 0 }
/-! `HDM_ERR` (16, Table 16-7 note, R393) -/
def HDM_ERR.reads : Fld := { reg := .HDM_ERR, code := 7296, hi := 15, lo := 0, acc := .ro, dflt := 0 }
def HDM_ERR.writes : Fld := { reg := .HDM_ERR, code := 7312, hi := 31, lo := 16, acc := .ro, dflt := 0 }
/-! `INT_MASK` (16, Table 16-8 note, R393) -/
def INT_MASK.ready : Fld := { reg := .INT_MASK, code := 7360, hi := 0, lo := 0, acc := .rw, dflt := 0 }
def INT_MASK.restarting : Fld := { reg := .INT_MASK, code := 7361, hi := 1, lo := 1, acc := .rw, dflt := 0 }
def INT_MASK.event : Fld := { reg := .INT_MASK, code := 7362, hi := 2, lo := 2, acc := .rw, dflt := 0 }
def INT_MASK.link_narrow : Fld := { reg := .INT_MASK, code := 7363, hi := 3, lo := 3, acc := .rw, dflt := 0 }
def INT_MASK.hdm_denied : Fld := { reg := .INT_MASK, code := 7364, hi := 4, lo := 4, acc := .rw, dflt := 0 }
def INT_MASK.dma_err : Fld := { reg := .INT_MASK, code := 7365, hi := 5, lo := 5, acc := .rw, dflt := 0 }
/-! `INT_VEC` (16, Table 16-8 note, R393) -/
def INT_VEC.vec : Fld := { reg := .INT_VEC, code := 7424, hi := 5, lo := 0, acc := .rw, dflt := 0 }
/-! `RING_COAL` (16, Table 16-9 note, R393) -/
def RING_COAL.coal_count : Fld := { reg := .RING_COAL, code := 7488, hi := 15, lo := 0, acc := .rw, dflt := 1, min := 1, max := 4096 }
def RING_COAL.coal_us : Fld := { reg := .RING_COAL, code := 7504, hi := 31, lo := 16, acc := .rw, dflt := 0 }
/-! `SQ_BASE` (16, Table 16-10 note, R393) -/
def SQ_BASE.base : Fld := { reg := .SQ_BASE, code := 7564, hi := 63, lo := 12, acc := .rw, dflt := 0 }
/-! `CQ_BASE` (16, Table 16-10 note, R393) -/
def CQ_BASE.base : Fld := { reg := .CQ_BASE, code := 7628, hi := 63, lo := 12, acc := .rw, dflt := 0 }
/-! `SQ_HEAD` (16, Table 16-10 note, R393) -/
def SQ_HEAD.index : Fld := { reg := .SQ_HEAD, code := 7680, hi := 11, lo := 0, acc := .ro, dflt := 0 }
/-! `CQ_TAIL` (16, Table 16-10 note, R393) -/
def CQ_TAIL.index : Fld := { reg := .CQ_TAIL, code := 7744, hi := 11, lo := 0, acc := .ro, dflt := 0 }
/-! `RING_ERR` (16, Table 16-10 note, R393) -/
def RING_ERR.bad_desc : Fld := { reg := .RING_ERR, code := 7808, hi := 7, lo := 0, acc := .ro, dflt := 0 }
def RING_ERR.dma_err : Fld := { reg := .RING_ERR, code := 7816, hi := 15, lo := 8, acc := .ro, dflt := 0 }
def RING_ERR.sub_drops : Fld := { reg := .RING_ERR, code := 7824, hi := 31, lo := 16, acc := .ro, dflt := 0 }
/-! `DB_SQ` (16, Table 16-10 note, R393) -/
def DB_SQ.index : Fld := { reg := .DB_SQ, code := 7872, hi := 11, lo := 0, acc := .rw, dflt := 0 }
/-! `DB_CQ` (16, Table 16-10 note, R393) -/
def DB_CQ.index : Fld := { reg := .DB_CQ, code := 7936, hi := 11, lo := 0, acc := .rw, dflt := 0 }
/-! `REC_CTL` (17, Table 17-5, R426) -/
def REC_CTL.post_ms : Fld := { reg := .REC_CTL, code := 8000, hi := 15, lo := 0, acc := .rwl, dflt := 2000, min := 0, max := 5000 }
def REC_CTL.trigger : Fld := { reg := .REC_CTL, code := 8030, hi := 30, lo := 30, acc := .wo, dflt := 0 }
def REC_CTL.lock : Fld := { reg := .REC_CTL, code := 8031, hi := 31, lo := 31, acc := .w1s, dflt := 0 }
/-! `REC_STAT` (17, Table 17-6, R426) -/
def REC_STAT.rule : Fld := { reg := .REC_STAT, code := 8064, hi := 8, lo := 0, acc := .ro, dflt := 0 }
def REC_STAT.more : Fld := { reg := .REC_STAT, code := 8084, hi := 27, lo := 20, acc := .ro, dflt := 0 }
def REC_STAT.src : Fld := { reg := .REC_STAT, code := 8092, hi := 29, lo := 28, acc := .ro, dflt := 0 }
def REC_STAT.state : Fld := { reg := .REC_STAT, code := 8094, hi := 31, lo := 30, acc := .ro, dflt := 3 }
/-! `MEM_SCRUB` (17, Table 17-7, R426) -/
def MEM_SCRUB.period_h : Fld := { reg := .MEM_SCRUB, code := 8128, hi := 7, lo := 0, acc := .rwl, dflt := 24, min := 1, max := 168 }
def MEM_SCRUB.corr_th : Fld := { reg := .MEM_SCRUB, code := 8144, hi := 30, lo := 16, acc := .rwl, dflt := 1000 }
def MEM_SCRUB.lock : Fld := { reg := .MEM_SCRUB, code := 8159, hi := 31, lo := 31, acc := .w1s, dflt := 0 }
/-! `MEM_ECC` (17, Table 17-8, R426) -/
def MEM_ECC.corr : Fld := { reg := .MEM_ECC, code := 8192, hi := 15, lo := 0, acc := .ro, dflt := 0 }
def MEM_ECC.uncorr : Fld := { reg := .MEM_ECC, code := 8208, hi := 31, lo := 16, acc := .ro, dflt := 0 }
/-! `REC_TTICK` (17, Table 17-6 note, R426) -/
def REC_TTICK.tick : Fld := { reg := .REC_TTICK, code := 8256, hi := 63, lo := 0, acc := .ro, dflt := 0 }
/-! `REC_MISSED` (17, Table 17-6 note, R426) -/
def REC_MISSED.missed : Fld := { reg := .REC_MISSED, code := 8320, hi := 31, lo := 0, acc := .ro, dflt := 0 }
/-! `MEM_UNCA` (17, Table 17-8 note, R426) -/
def MEM_UNCA.address : Fld := { reg := .MEM_UNCA, code := 8384, hi := 39, lo := 0, acc := .ro, dflt := 0 }
def MEM_UNCA.scrub : Fld := { reg := .MEM_UNCA, code := 8443, hi := 59, lo := 59, acc := .ro, dflt := 0 }
def MEM_UNCA.src : Fld := { reg := .MEM_UNCA, code := 8444, hi := 62, lo := 60, acc := .ro, dflt := 0 }
def MEM_UNCA.valid : Fld := { reg := .MEM_UNCA, code := 8447, hi := 63, lo := 63, acc := .w1c, dflt := 0 }
/-! `SEC_BOOT` (18, Table 18-9, R447) -/
def SEC_BOOT.cub_ms : Fld := { reg := .SEC_BOOT, code := 8448, hi := 15, lo := 0, acc := .ro, dflt := 0 }
def SEC_BOOT.inert : Fld := { reg := .SEC_BOOT, code := 8475, hi := 27, lo := 27, acc := .ro, dflt := 0 }
def SEC_BOOT.hold : Fld := { reg := .SEC_BOOT, code := 8476, hi := 28, lo := 28, acc := .ro, dflt := 0 }
def SEC_BOOT.tie : Fld := { reg := .SEC_BOOT, code := 8477, hi := 29, lo := 29, acc := .ro, dflt := 0 }
def SEC_BOOT.slot : Fld := { reg := .SEC_BOOT, code := 8478, hi := 31, lo := 30, acc := .ro, dflt := 0 }
/-! `SEC_SLOTA` (18, Table 18-10, R447) -/
def SEC_SLOTA.key_slot : Fld := { reg := .SEC_SLOTA, code := 8512, hi := 7, lo := 0, acc := .ro, dflt := 0 }
def SEC_SLOTA.svn : Fld := { reg := .SEC_SLOTA, code := 8520, hi := 15, lo := 8, acc := .ro, dflt := 0 }
def SEC_SLOTA.verdict : Fld := { reg := .SEC_SLOTA, code := 8528, hi := 23, lo := 16, acc := .ro, dflt := 0 }
def SEC_SLOTA.expired : Fld := { reg := .SEC_SLOTA, code := 8538, hi := 26, lo := 26, acc := .ro, dflt := 0 }
def SEC_SLOTA.trials : Fld := { reg := .SEC_SLOTA, code := 8539, hi := 28, lo := 27, acc := .ro, dflt := 0 }
def SEC_SLOTA.state : Fld := { reg := .SEC_SLOTA, code := 8541, hi := 31, lo := 29, acc := .ro, dflt := 0 }
/-! `SEC_FUSE` (18, Table 18-11, R447) -/
def SEC_FUSE.empty : Fld := { reg := .SEC_FUSE, code := 8576, hi := 7, lo := 0, acc := .ro, dflt := 0 }
def SEC_FUSE.revoked : Fld := { reg := .SEC_FUSE, code := 8584, hi := 15, lo := 8, acc := .ro, dflt := 0 }
def SEC_FUSE.svn_floor : Fld := { reg := .SEC_FUSE, code := 8592, hi := 23, lo := 16, acc := .ro, dflt := 0 }
/-! `SEC_LOCK` (18, Table 18-12, R447) -/
def SEC_LOCK.cub_region : Fld := { reg := .SEC_LOCK, code := 8640, hi := 0, lo := 0, acc := .ro, dflt := 0 }
def SEC_LOCK.fuse_raw : Fld := { reg := .SEC_LOCK, code := 8641, hi := 1, lo := 1, acc := .ro, dflt := 0 }
def SEC_LOCK.seed : Fld := { reg := .SEC_LOCK, code := 8642, hi := 2, lo := 2, acc := .ro, dflt := 0 }
def SEC_LOCK.key_table : Fld := { reg := .SEC_LOCK, code := 8643, hi := 3, lo := 3, acc := .ro, dflt := 0 }
def SEC_LOCK.running_slot_wp : Fld := { reg := .SEC_LOCK, code := 8644, hi := 4, lo := 4, acc := .ro, dflt := 0 }
def SEC_LOCK.island_regions : Fld := { reg := .SEC_LOCK, code := 8645, hi := 5, lo := 5, acc := .ro, dflt := 0 }
def SEC_LOCK.debug_open : Fld := { reg := .SEC_LOCK, code := 8646, hi := 6, lo := 6, acc := .ro, dflt := 0 }
/-! `SEC_SLOTB` (18, Table 18-10, R447) -/
def SEC_SLOTB.key_slot : Fld := { reg := .SEC_SLOTB, code := 8704, hi := 7, lo := 0, acc := .ro, dflt := 0 }
def SEC_SLOTB.svn : Fld := { reg := .SEC_SLOTB, code := 8712, hi := 15, lo := 8, acc := .ro, dflt := 0 }
def SEC_SLOTB.verdict : Fld := { reg := .SEC_SLOTB, code := 8720, hi := 23, lo := 16, acc := .ro, dflt := 0 }
def SEC_SLOTB.expired : Fld := { reg := .SEC_SLOTB, code := 8730, hi := 26, lo := 26, acc := .ro, dflt := 0 }
def SEC_SLOTB.trials : Fld := { reg := .SEC_SLOTB, code := 8731, hi := 28, lo := 27, acc := .ro, dflt := 0 }
def SEC_SLOTB.state : Fld := { reg := .SEC_SLOTB, code := 8733, hi := 31, lo := 29, acc := .ro, dflt := 0 }
/-! `SEC_CHAL` (18, Table 18-8 note, R447) -/
def SEC_CHAL.word : Fld := { reg := .SEC_CHAL, code := 8768, hi := 31, lo := 0, acc := .ro, dflt := 0 }
/-! `SEC_DIEID` (18, Table 18-8 note, R447) -/
def SEC_DIEID.word : Fld := { reg := .SEC_DIEID, code := 8832, hi := 31, lo := 0, acc := .ro, dflt := 0 }
/-! `SEC_UPD` (19, Table 19-7, R470) -/
def SEC_UPD.last_check : Fld := { reg := .SEC_UPD, code := 8912, hi := 23, lo := 16, acc := .ro, dflt := 0 }
def SEC_UPD.no_set : Fld := { reg := .SEC_UPD, code := 8920, hi := 24, lo := 24, acc := .ro, dflt := 0 }
def SEC_UPD.fallback : Fld := { reg := .SEC_UPD, code := 8921, hi := 25, lo := 25, acc := .ro, dflt := 0 }
def SEC_UPD.live_pending : Fld := { reg := .SEC_UPD, code := 8922, hi := 26, lo := 26, acc := .ro, dflt := 0 }
def SEC_UPD.full : Fld := { reg := .SEC_UPD, code := 8923, hi := 27, lo := 27, acc := .ro, dflt := 0 }
def SEC_UPD.armed : Fld := { reg := .SEC_UPD, code := 8924, hi := 28, lo := 28, acc := .ro, dflt := 0 }
def SEC_UPD.owner_lock : Fld := { reg := .SEC_UPD, code := 8925, hi := 29, lo := 29, acc := .ro, dflt := 0 }
def SEC_UPD.phase : Fld := { reg := .SEC_UPD, code := 8926, hi := 31, lo := 30, acc := .ro, dflt := 0 }
/-! `SEC_ACTTICK` (19, Table 19-7 note, R470) -/
def SEC_ACTTICK.tick : Fld := { reg := .SEC_ACTTICK, code := 8960, hi := 63, lo := 0, acc := .ro, dflt := 0 }
/-! `SEC_SETSEQ` (19, Table 19-7 note, R470) -/
def SEC_SETSEQ.seq : Fld := { reg := .SEC_SETSEQ, code := 9024, hi := 31, lo := 0, acc := .ro, dflt := 0 }
/-! `BRW_STAT` (20, Table 20-4, R482) -/
def BRW_STAT.torn : Fld := { reg := .BRW_STAT, code := 9088, hi := 15, lo := 0, acc := .ro, dflt := 0 }
def BRW_STAT.prio_queued : Fld := { reg := .BRW_STAT, code := 9104, hi := 27, lo := 16, acc := .ro, dflt := 0 }
def BRW_STAT.mirror_off : Fld := { reg := .BRW_STAT, code := 9116, hi := 28, lo := 28, acc := .ro, dflt := 0 }
def BRW_STAT.mirror_coal : Fld := { reg := .BRW_STAT, code := 9117, hi := 29, lo := 29, acc := .ro, dflt := 0 }
def BRW_STAT.flash_coal : Fld := { reg := .BRW_STAT, code := 9118, hi := 30, lo := 30, acc := .ro, dflt := 0 }
def BRW_STAT.perm_full : Fld := { reg := .BRW_STAT, code := 9119, hi := 31, lo := 31, acc := .ro, dflt := 0 }
/-! `BRW_LOST` (20, Table 20-5, R482) -/
def BRW_LOST.mirror_lost : Fld := { reg := .BRW_LOST, code := 9152, hi := 31, lo := 0, acc := .ro, dflt := 0 }
/-! `BRW_FSEQ` (20, Table 20-5 note, R482) -/
def BRW_FSEQ.seq : Fld := { reg := .BRW_FSEQ, code := 9216, hi := 63, lo := 0, acc := .ro, dflt := 0 }
/-! `BRW_MSEQ` (20, Table 20-5 note, R482) -/
def BRW_MSEQ.seq : Fld := { reg := .BRW_MSEQ, code := 9280, hi := 63, lo := 0, acc := .ro, dflt := 0 }
/-! `BRW_COALF` (20, Table 20-5 note, R482) -/
def BRW_COALF.count : Fld := { reg := .BRW_COALF, code := 9344, hi := 31, lo := 0, acc := .ro, dflt := 0 }
/-! `BRW_COALM` (20, Table 20-5 note, R482) -/
def BRW_COALM.count : Fld := { reg := .BRW_COALM, code := 9408, hi := 31, lo := 0, acc := .ro, dflt := 0 }
/-! `TWIN_CTL` (21, Table 21-5, R502) -/
def TWIN_CTL.join : Fld := { reg := .TWIN_CTL, code := 9472, hi := 7, lo := 0, acc := .rwl, dflt := 20, min := 1, max := 255 }
def TWIN_CTL.silence : Fld := { reg := .TWIN_CTL, code := 9480, hi := 15, lo := 8, acc := .rwl, dflt := 4, min := 2, max := 16 }
def TWIN_CTL.lock : Fld := { reg := .TWIN_CTL, code := 9503, hi := 31, lo := 31, acc := .w1s, dflt := 0 }
/-! `TWIN_STAT` (21, Table 21-6, R502) -/
def TWIN_STAT.takeovers : Fld := { reg := .TWIN_STAT, code := 9536, hi := 7, lo := 0, acc := .ro, dflt := 0 }
def TWIN_STAT.mirror_age : Fld := { reg := .TWIN_STAT, code := 9544, hi := 15, lo := 8, acc := .ro, dflt := 0 }
def TWIN_STAT.lanes : Fld := { reg := .TWIN_STAT, code := 9552, hi := 18, lo := 16, acc := .ro, dflt := 0 }
def TWIN_STAT.joined : Fld := { reg := .TWIN_STAT, code := 9561, hi := 25, lo := 25, acc := .ro, dflt := 0 }
def TWIN_STAT.set_match : Fld := { reg := .TWIN_STAT, code := 9562, hi := 26, lo := 26, acc := .ro, dflt := 0 }
def TWIN_STAT.aligned : Fld := { reg := .TWIN_STAT, code := 9563, hi := 27, lo := 27, acc := .ro, dflt := 0 }
def TWIN_STAT.alv : Fld := { reg := .TWIN_STAT, code := 9564, hi := 28, lo := 28, acc := .ro, dflt := 0 }
def TWIN_STAT.link : Fld := { reg := .TWIN_STAT, code := 9565, hi := 29, lo := 29, acc := .ro, dflt := 0 }
def TWIN_STAT.role : Fld := { reg := .TWIN_STAT, code := 9566, hi := 31, lo := 30, acc := .ro, dflt := 0 }
/-! `TWIN_OFFSET` (21, Table 21-6 note, R502) -/
def TWIN_OFFSET.offset : Fld := { reg := .TWIN_OFFSET, code := 9600, hi := 63, lo := 0, acc := .ro, dflt := 0 }
/-! `TWIN_SKEW` (21, Table 21-6 note, R502) -/
def TWIN_SKEW.last : Fld := { reg := .TWIN_SKEW, code := 9664, hi := 15, lo := 0, acc := .ro, dflt := 0 }
def TWIN_SKEW.largest : Fld := { reg := .TWIN_SKEW, code := 9680, hi := 31, lo := 16, acc := .ro, dflt := 0 }

end Sys2Proof.Machine
end

