-- ==== Sys2Proof/Machine/RegFields.lean ====
section
/-!
DEFINITION. Which fields each register has, from the least significant up.
-/
namespace Sys2Proof.Machine

/-- The fields of a register. -/
def Reg.fields : Reg → List Fld
  | .RST_CAUSE => [RST_CAUSE.last_cause, RST_CAUSE.xtal_fallback, RST_CAUSE.app_resets]
  | .SNS_DIETEMP => [SNS_DIETEMP.temp, SNS_DIETEMP.valid]
  | .SNS_CHCFG => [SNS_CHCFG.enable, SNS_CHCFG.range, SNS_CHCFG.marten_sub, SNS_CHCFG.lock]
  | .SNS_CHSTAT => [SNS_CHSTAT.absent, SNS_CHSTAT.bound, SNS_CHSTAT.overrange, SNS_CHSTAT.fault_kind, SNS_CHSTAT.fault, SNS_CHSTAT.cal_busy,
    SNS_CHSTAT.spared, SNS_CHSTAT.stand_in, SNS_CHSTAT.cal_age]
  | .SNS_CHSCALE => [SNS_CHSCALE.scale]
  | .SNS_CHSAMP => [SNS_CHSAMP.sample, SNS_CHSAMP.aperture]
  | .SNS_WCTL => [SNS_WCTL.arm, SNS_WCTL.edge_en, SNS_WCTL.commit, SNS_WCTL.fl_en, SNS_WCTL.wl_en, SNS_WCTL.wh_en, SNS_WCTL.fh_en, SNS_WCTL.filter,
    SNS_WCTL.hyst]
  | .SNS_WTHHI => [SNS_WTHHI.wh, SNS_WTHHI.fh]
  | .SNS_WTHLO => [SNS_WTHLO.fl, SNS_WTHLO.wl]
  | .SNS_WSTAT => [SNS_WSTAT.fl, SNS_WSTAT.wl, SNS_WSTAT.wh, SNS_WSTAT.fh, SNS_WSTAT.pending, SNS_WSTAT.order_err]
  | .SNS_CALCTL => [SNS_CALCTL.period_s, SNS_CALCTL.request, SNS_CALCTL.temp_delta]
  | .SNS_CALSTAT => [SNS_CALSTAT.quick_spares, SNS_CALSTAT.general_spares, SNS_CALSTAT.pass_busy]
  | .SNS_MTR_CFG => [SNS_MTR_CFG.v_chan, SNS_MTR_CFG.i_chan, SNS_MTR_CFG.enable, SNS_MTR_CFG.persist, SNS_MTR_CFG.avg_k, SNS_MTR_CFG.lock]
  | .SNS_MTR_STAT => [SNS_MTR_STAT.ef_sat, SNS_MTR_STAT.er_sat, SNS_MTR_STAT.clear]
  | .SNS_MTR_P => [SNS_MTR_P.p]
  | .SNS_MTR_PAVG => [SNS_MTR_PAVG.pavg]
  | .SNS_MTR_EF => [SNS_MTR_EF.ef]
  | .SNS_MTR_ER => [SNS_MTR_ER.er]
  | .SETT_CTL => [SETT_CTL.period, SETT_CTL.enable]
  | .SETT_STAT => [SETT_STAT.fault, SETT_STAT.handover_req, SETT_STAT.fw_wr_ignored, SETT_STAT.bound, SETT_STAT.running, SETT_STAT.ctl_status]
  | .SETT_ENG_CTL => [SETT_ENG_CTL.obj, SETT_ENG_CTL.cmd]
  | .SETT_ENG_STAT => [SETT_ENG_STAT.bound_obj, SETT_ENG_STAT.consec, SETT_ENG_STAT.handover_req, SETT_ENG_STAT.fault_cause, SETT_ENG_STAT.state,
    SETT_ENG_STAT.cmd_status]
  | .SETT_ENG_CYC => [SETT_ENG_CYC.last_used, SETT_ENG_CYC.max_used]
  | .SETT_ENG_OVR => [SETT_ENG_OVR.overruns]
  | .SETT_BIND => [SETT_BIND.index, SETT_BIND.kind]
  | .SETT_MIGCMD => [SETT_MIGCMD.src, SETT_MIGCMD.dst, SETT_MIGCMD.go]
  | .RFX_TERM01 => [RFX_TERM01.t0_src, RFX_TERM01.t0_inv, RFX_TERM01.t0_en, RFX_TERM01.t1_src, RFX_TERM01.t1_inv, RFX_TERM01.t1_en]
  | .RFX_ACT => [RFX_ACT.wards, RFX_ACT.harp, RFX_ACT.en_group, RFX_ACT.gda, RFX_ACT.gdb, RFX_ACT.ghs, RFX_ACT.shutdn, RFX_ACT.freeze, RFX_ACT.kmin,
    RFX_ACT.latch, RFX_ACT.enable, RFX_ACT.lock]
  | .RFX_ENMASK => [RFX_ENMASK.en_mask]
  | .RFX_STAT => [RFX_STAT.latched, RFX_STAT.active, RFX_STAT.fires]
  | .SETT_MIGSTAT => [SETT_MIGSTAT.done, SETT_MIGSTAT.status, SETT_MIGSTAT.lost, SETT_MIGSTAT.busy]
  | .RFX_TERM23 => [RFX_TERM23.t2_src, RFX_TERM23.t2_inv, RFX_TERM23.t2_en, RFX_TERM23.t3_src, RFX_TERM23.t3_inv, RFX_TERM23.t3_en]
  | .RFX_SUM => [RFX_SUM.active, RFX_SUM.locked]
  | .SETT_MBXHEAD => [SETT_MBXHEAD.tag, SETT_MBXHEAD.engine, SETT_MBXHEAD.object, SETT_MBXHEAD.valid]
  | .SETT_MBXVAL => [SETT_MBXVAL.value]
  | .SETT_MBXCTL => [SETT_MBXCTL.count, SETT_MBXCTL.dropped, SETT_MBXCTL.pop]
  | .ZIT_EW0 => [ZIT_EW0.en, ZIT_EW0.pg_pin, ZIT_EW0.win_chan, ZIT_EW0.pg_src, ZIT_EW0.group, ZIT_EW0.win_w, ZIT_EW0.valid]
  | .ZIT_EW1 => [ZIT_EW1.off_delay, ZIT_EW1.on_delay]
  | .ZIT_EW2 => [ZIT_EW2.chatter_max, ZIT_EW2.pg_filter, ZIT_EW2.deadline]
  | .ZIT_EW3 => [ZIT_EW3.dep0, ZIT_EW3.dep0_en, ZIT_EW3.dep1, ZIT_EW3.dep1_en]
  | .ZIT_ESTAT => [ZIT_ESTAT.good_us, ZIT_ESTAT.fault, ZIT_ESTAT.chatters, ZIT_ESTAT.phase]
  | .ZIT_GCTL => [ZIT_GCTL.t_off_min, ZIT_GCTL.auto_restart]
  | .ZIT_GCMD => [ZIT_GCMD.cmd]
  | .ZIT_GSTAT => [ZIT_GSTAT.off_stuck, ZIT_GSTAT.up_pending, ZIT_GSTAT.abort_entry, ZIT_GSTAT.abort_cause, ZIT_GSTAT.cmd_status, ZIT_GSTAT.state]
  | .ZIT_STAT => [ZIT_STAT.check_code, ZIT_STAT.check_entry, ZIT_STAT.wr_ignored]
  | .ZIT_CTL => [ZIT_CTL.lock]
  | .ZIT_GTICK => [ZIT_GTICK.tick]
  | .FEED_CTL => [FEED_CTL.retry_s, FEED_CTL.retry_max, FEED_CTL.lever_act, FEED_CTL.lock]
  | .FEED_INRUSH => [FEED_INRUSH.dvdt, FEED_INRUSH.i_max, FEED_INRUSH.e_fet_max]
  | .FEED_TIMING => [FEED_TIMING.t_settle, FEED_TIMING.t_oc, FEED_TIMING.ramp_to]
  | .FEED_REMOVE => [FEED_REMOVE.t_disch_max, FEED_REMOVE.t_lever]
  | .FEED_CMD => [FEED_CMD.cmd]
  | .FEED_STAT => [FEED_STAT.collapse, FEED_STAT.disch, FEED_STAT.lever_latched, FEED_STAT.holdup_ok, FEED_STAT.b_present, FEED_STAT.a_present,
    FEED_STAT.gdb, FEED_STAT.gda, FEED_STAT.retry_count, FEED_STAT.cmd_status, FEED_STAT.trip_cause, FEED_STAT.cfg_err, FEED_STAT.ins_state]
  | .FEED_EFET => [FEED_EFET.e_fet]
  | .FEED_WTHHI => [FEED_WTHHI.wh, FEED_WTHHI.fh]
  | .FEED_WTHLO => [FEED_WTHLO.fl, FEED_WTHLO.wl]
  | .FEED_WCTL => [FEED_WCTL.arm, FEED_WCTL.edge_en, FEED_WCTL.commit, FEED_WCTL.fl_en, FEED_WCTL.wl_en, FEED_WCTL.wh_en, FEED_WCTL.fh_en,
    FEED_WCTL.filter, FEED_WCTL.hyst]
  | .HARP_WCTL => [HARP_WCTL.walrt_filter, HARP_WCTL.floor, HARP_WCTL.walrt_code, HARP_WCTL.step_down, HARP_WCTL.hold, HARP_WCTL.lock]
  | .HARP_WSTAT => [HARP_WSTAT.last_up_us, HARP_WSTAT.hold, HARP_WSTAT.walrt, HARP_WSTAT.walrt_req, HARP_WSTAT.obj, HARP_WSTAT.rfx, HARP_WSTAT.code]
  | .HARP_WUPS => [HARP_WUPS.ups]
  | .HARP_AVSCFG => [HARP_AVSCFG.v_min, HARP_AVSCFG.v_max, HARP_AVSCFG.enable, HARP_AVSCFG.lock]
  | .HARP_AVSSTAT => [HARP_AVSSTAT.clamped, HARP_AVSSTAT.fault, HARP_AVSSTAT.busy, HARP_AVSSTAT.v_read, HARP_AVSSTAT.v_sent]
  | .HARP_WRES => [HARP_WRES.us]
  | .HARP_GCTL => [HARP_GCTL.poll, HARP_GCTL.avs_mhz, HARP_GCTL.lock]
  | .HARP_GSTAT => [HARP_GSTAT.obj_excl]
  | .MRT_TCTL => [MRT_TCTL.fast_cycles, MRT_TCTL.enable, MRT_TCTL.run, MRT_TCTL.lock]
  | .MRT_TSTAT => [MRT_TSTAT.invalidated, MRT_TSTAT.uncorr, MRT_TSTAT.sat, MRT_TSTAT.nan, MRT_TSTAT.wr_ignored, MRT_TSTAT.queued,
    MRT_TSTAT.cmd_status, MRT_TSTAT.state]
  | .MRT_TCLS => [MRT_TCLS.done, MRT_TCLS.last_status]
  | .MRT_TMISS => [MRT_TMISS.missed]
  | .MRT_TECC => [MRT_TECC.corr, MRT_TECC.uncorr]
  | .MRT_TERRA => [MRT_TERRA.word, MRT_TERRA.scrub, MRT_TERRA.valid]
  | .MRT_GSTAT => [MRT_GSTAT.on_mask, MRT_GSTAT.run_mask]
  | .MRT_TUTIL => [MRT_TUTIL.last_fast, MRT_TUTIL.max_fast]
  | .MRT_CHK => [MRT_CHK.shadow, MRT_CHK.entry, MRT_CHK.code]
  | .MRT_OFFER => [MRT_OFFER.min_mv, MRT_OFFER.offer_mv, MRT_OFFER.valid]
  | .MRT_ISTAT => [MRT_ISTAT.sub_msps, MRT_ISTAT.telem_words, MRT_ISTAT.over]
  | .MRT_IDROP => [MRT_IDROP.dropped]
  | .MRT_JSTAT => [MRT_JSTAT.ok_runs, MRT_JSTAT.state, MRT_JSTAT.consec_fail, MRT_JSTAT.last_status]
  | .FAN_OCFG => [FAN_OCFG.rpm_full, FAN_OCFG.ppr, FAN_OCFG.i_gs, FAN_OCFG.i_en, FAN_OCFG.zone, FAN_OCFG.zoned, FAN_OCFG.sup, FAN_OCFG.lock]
  | .FAN_OLIM => [FAN_OLIM.i_min, FAN_OLIM.i_stall]
  | .FAN_OSTAT => [FAN_OSTAT.speed, FAN_OSTAT.drive, FAN_OSTAT.owned, FAN_OSTAT.retries, FAN_OSTAT.state]
  | .FAN_ZCTL => [FAN_ZCTL.comp, FAN_ZCTL.pump_floor, FAN_ZCTL.lost_max, FAN_ZCTL.ab_act, FAN_ZCTL.tl_act, FAN_ZCTL.cmd, FAN_ZCTL.lock]
  | .FAN_ZSTAT => [FAN_ZSTAT.level, FAN_ZSTAT.cmd_status, FAN_ZSTAT.t_duty, FAN_ZSTAT.lost, FAN_ZSTAT.sensor_fail, FAN_ZSTAT.tbl_err,
    FAN_ZSTAT.fb_cause, FAN_ZSTAT.fallback]
  | .FAN_ZPT => [FAN_ZPT.duty, FAN_ZPT.hyst, FAN_ZPT.temp]
  | .FAN_DUTY => [FAN_DUTY.duty]
  | .FAN_ZIN => [FAN_ZIN.sel]
  | .FAN_FCFG => [FAN_FCFG.f_low, FAN_FCFG.k, FAN_FCFG.branch, FAN_FCFG.br_en, FAN_FCFG.zone, FAN_FCFG.zoned, FAN_FCFG.en, FAN_FCFG.lock]
  | .FAN_FSTAT => [FAN_FSTAT.flow, FAN_FSTAT.low]
  | .FAN_VLV => [FAN_VLV.close, FAN_VLV.owned, FAN_VLV.drive]
  | .FAN_CMD => [FAN_CMD.o, FAN_CMD.cmd]
  | .FAN_GCTL => [FAN_GCTL.pump_1khz, FAN_GCTL.lock]
  | .FAN_CRIT => [FAN_CRIT.hotter, FAN_CRIT.threshold, FAN_CRIT.failed, FAN_CRIT.grace, FAN_CRIT.asserting]
  | .LEAK_RSTAT => [LEAK_RSTAT.lowest, LEAK_RSTAT.clear, LEAK_RSTAT.worst, LEAK_RSTAT.cls]
  | .WPORT_CTL => [WPORT_CTL.enable, WPORT_CTL.one_lane_ok, WPORT_CTL.retrain_max, WPORT_CTL.uncorr_max]
  | .WPORT_STAT => [WPORT_STAT.outstanding, WPORT_STAT.retrains, WPORT_STAT.cmd_status, WPORT_STAT.light0, WPORT_STAT.light1, WPORT_STAT.sec,
    WPORT_STAT.lanes, WPORT_STAT.state]
  | .WPORT_TMO => [WPORT_TMO.drain_us, WPORT_TMO.fence, WPORT_TMO.req_us]
  | .WPORT_ERR => [WPORT_ERR.req_to, WPORT_ERR.telem_lost, WPORT_ERR.tag, WPORT_ERR.crc]
  | .WPORT_LSCFG => [WPORT_LSCFG.p_probe, WPORT_LSCFG.p_max, WPORT_LSCFG.enable, WPORT_LSCFG.lock]
  | .WPORT_LSSTAT => [WPORT_LSSTAT.temp, WPORT_LSSTAT.cmd_status, WPORT_LSSTAT.p_meas, WPORT_LSSTAT.present, WPORT_LSSTAT.refused,
    WPORT_LSSTAT.limited, WPORT_LSSTAT.state]
  | .WPORT_FECCOR => [WPORT_FECCOR.count]
  | .WPORT_FECUNC => [WPORT_FECUNC.count]
  | .WPORT_TLAT => [WPORT_TLAT.last, WPORT_TLAT.largest]
  | .WPORT_LSCMD => [WPORT_LSCMD.bus, WPORT_LSCMD.cmd]
  | .DEV_ID => [DEV_ID.part, DEV_ID.family]
  | .STEP_ID => [STEP_ID.minor, STEP_ID.major]
  | .CAP0 => [CAP0.marten_tiles, CAP0.hbm_stacks, CAP0.twin_port]
  | .CAP1 => [CAP1.recorder_gib, CAP1.power_max_w]
  | .DEV_STAT => [DEV_STAT.rings_on, DEV_STAT.role, DEV_STAT.mem_active, DEV_STAT.mode]
  | .INT_CAUSE => [INT_CAUSE.ready, INT_CAUSE.restarting, INT_CAUSE.event, INT_CAUSE.link_narrow, INT_CAUSE.hdm_denied, INT_CAUSE.dma_err]
  | .RING_CTL => [RING_CTL.vector, RING_CTL.int_en, RING_CTL.cq_log2, RING_CTL.sq_log2, RING_CTL.enable]
  | .RING_STAT => [RING_STAT.subs, RING_STAT.outstanding, RING_STAT.ctl_status, RING_STAT.state]
  | .IF_VER => [IF_VER.minor, IF_VER.major]
  | .FW_BUILD => [FW_BUILD.patch, FW_BUILD.minor, FW_BUILD.major]
  | .HDM_WCTL => [HDM_WCTL.stage_open]
  | .HDM_ERR => [HDM_ERR.reads, HDM_ERR.writes]
  | .INT_MASK => [INT_MASK.ready, INT_MASK.restarting, INT_MASK.event, INT_MASK.link_narrow, INT_MASK.hdm_denied, INT_MASK.dma_err]
  | .INT_VEC => [INT_VEC.vec]
  | .RING_COAL => [RING_COAL.coal_count, RING_COAL.coal_us]
  | .SQ_BASE => [SQ_BASE.base]
  | .CQ_BASE => [CQ_BASE.base]
  | .SQ_HEAD => [SQ_HEAD.index]
  | .CQ_TAIL => [CQ_TAIL.index]
  | .RING_ERR => [RING_ERR.bad_desc, RING_ERR.dma_err, RING_ERR.sub_drops]
  | .DB_SQ => [DB_SQ.index]
  | .DB_CQ => [DB_CQ.index]
  | .REC_CTL => [REC_CTL.post_ms, REC_CTL.trigger, REC_CTL.lock]
  | .REC_STAT => [REC_STAT.rule, REC_STAT.more, REC_STAT.src, REC_STAT.state]
  | .MEM_SCRUB => [MEM_SCRUB.period_h, MEM_SCRUB.corr_th, MEM_SCRUB.lock]
  | .MEM_ECC => [MEM_ECC.corr, MEM_ECC.uncorr]
  | .REC_TTICK => [REC_TTICK.tick]
  | .REC_MISSED => [REC_MISSED.missed]
  | .MEM_UNCA => [MEM_UNCA.address, MEM_UNCA.scrub, MEM_UNCA.src, MEM_UNCA.valid]
  | .SEC_BOOT => [SEC_BOOT.cub_ms, SEC_BOOT.inert, SEC_BOOT.hold, SEC_BOOT.tie, SEC_BOOT.slot]
  | .SEC_SLOTA => [SEC_SLOTA.key_slot, SEC_SLOTA.svn, SEC_SLOTA.verdict, SEC_SLOTA.expired, SEC_SLOTA.trials, SEC_SLOTA.state]
  | .SEC_FUSE => [SEC_FUSE.empty, SEC_FUSE.revoked, SEC_FUSE.svn_floor]
  | .SEC_LOCK => [SEC_LOCK.cub_region, SEC_LOCK.fuse_raw, SEC_LOCK.seed, SEC_LOCK.key_table, SEC_LOCK.running_slot_wp, SEC_LOCK.island_regions,
    SEC_LOCK.debug_open]
  | .SEC_SLOTB => [SEC_SLOTB.key_slot, SEC_SLOTB.svn, SEC_SLOTB.verdict, SEC_SLOTB.expired, SEC_SLOTB.trials, SEC_SLOTB.state]
  | .SEC_CHAL => [SEC_CHAL.word]
  | .SEC_DIEID => [SEC_DIEID.word]
  | .SEC_UPD => [SEC_UPD.last_check, SEC_UPD.no_set, SEC_UPD.fallback, SEC_UPD.live_pending, SEC_UPD.full, SEC_UPD.armed, SEC_UPD.owner_lock,
    SEC_UPD.phase]
  | .SEC_ACTTICK => [SEC_ACTTICK.tick]
  | .SEC_SETSEQ => [SEC_SETSEQ.seq]
  | .BRW_STAT => [BRW_STAT.torn, BRW_STAT.prio_queued, BRW_STAT.mirror_off, BRW_STAT.mirror_coal, BRW_STAT.flash_coal, BRW_STAT.perm_full]
  | .BRW_LOST => [BRW_LOST.mirror_lost]
  | .BRW_FSEQ => [BRW_FSEQ.seq]
  | .BRW_MSEQ => [BRW_MSEQ.seq]
  | .BRW_COALF => [BRW_COALF.count]
  | .BRW_COALM => [BRW_COALM.count]
  | .TWIN_CTL => [TWIN_CTL.join, TWIN_CTL.silence, TWIN_CTL.lock]
  | .TWIN_STAT => [TWIN_STAT.takeovers, TWIN_STAT.mirror_age, TWIN_STAT.lanes, TWIN_STAT.joined, TWIN_STAT.set_match, TWIN_STAT.aligned,
    TWIN_STAT.alv, TWIN_STAT.link, TWIN_STAT.role]
  | .TWIN_OFFSET => [TWIN_OFFSET.offset]
  | .TWIN_SKEW => [TWIN_SKEW.last, TWIN_SKEW.largest]

end Sys2Proof.Machine
end

