-- ==== Sys2Proof/Machine/State.lean ====
section
/-!
DEFINITION. The state of the T840, its reset value, and the two ways a step can stop.
-/
namespace Sys2Proof.Machine

/-- Why the machine stops. -/
inductive Fault where
  /-- PORST# is released with TESTEN high: production test, in which no statement of the spec holds (R29). Raised by
  PORST_RELEASE alone; safe. -/
  | productionTest
deriving DecidableEq, Repr

/-- Why a command has no meaning here. -/
inductive Refusal where
  /-- The command has no meaning yet; safe. -/
  | notModelled (mnemonic : String)
deriving DecidableEq, Repr

/-- The state of the T840: the commands that wait, the register bank by field and instance, the time, and each block's hidden
state. -/
structure State where
  /-- commands that wait, first in first out -/
  pending : List Instr := []
  /-- the register bank by `Fld.key` -/
  regs : Tab Nat := []
  /-- the tray tick, and the µs since PORST# release (R473) -/
  tick : Nat := 0
  bootUs : Nat := 0
  part : Part := {}
  sense : Sense := {}
  setts : Setts := {}
  zither : Zither := {}
  feed : Feed := {}
  harps : Tab Harp := []
  marten : Marten := {}
  cooling : Cooling := {}
  host : HostIf := {}
  ports : Tab Port := []
  lasers : Lasers := {}
  wards : Wards := {}
  recorder : Recorder := {}
  secure : Secure := {}
  burrow : Burrow := {}
  twin : Twin := {}
deriving DecidableEq, Repr

/-- The machine before PORST# is first released: PORST# asserted, every register at the reset value of its table, nothing in
any queue, memory or log. -/
def State.reset : State := {}

end Sys2Proof.Machine
end

