-- ==== Sys2Proof/Machine/Ops.lean ====
section
/-!
DEFINITION. The named operations that meanings are built from: reading and writing a register field, raising a record,
rounding, and which tiers of the part are up.
-/
namespace Sys2Proof.Machine

/-- What a command answers. -/
abbrev Out := Host.Outcome State Fault Refusal

/-! ## The register bank -/

/-- Field `f` of instance `i` of its register. -/
def State.rd (s : State) (f : Fld) (i : Nat) : Nat := Tab.get (f.dfltAt i) s.regs (f.key i)

/-- Field `f` of instance `i` set to `v`, cut to the field's width. -/
def State.wr (s : State) (f : Fld) (i : Nat) (v : Nat) : State :=
  { s with regs := Tab.set (f.dfltAt i) s.regs (f.key i) (v % 2 ^ f.width) }

/-- A field as a flag. -/
def State.bit (s : State) (f : Fld) (i : Nat) : Bool := s.rd f i != 0

/-- A flag written. -/
def State.wrBit (s : State) (f : Fld) (i : Nat) (b : Bool) : State := s.wr f i b.toNat

/-- A saturating count increased by `n`. -/
def State.addSat (s : State) (f : Fld) (i : Nat) (n : Nat) : State := s.wr f i (min (2 ^ f.width - 1) (s.rd f i + n))

/-- A wrapping count increased by `n`. -/
def State.addWrap (s : State) (f : Fld) (i : Nat) (n : Nat) : State := s.wr f i (s.rd f i + n)

/-- The access rule of one field applied to a value written to it (Conventions of 00, R9): a value outside the field's stated range
is ignored; a command field does nothing here, its row has its effect. -/
def State.writeFld (s : State) (f : Fld) (i : Nat) (v : Nat) : State :=
  match f.acc with
  | .rw => if f.min ≤ v ∧ v ≤ f.max then s.wr f i v else s
  | .rwl => if f.min ≤ v ∧ v ≤ f.max then s.wr f i v else s
  | .w1c => if v = 1 then s.wr f i 0 else s
  | .w1s => if v = 1 then s.wr f i 1 else s
  | .ro => s
  | .wo => s

/-- Field `f` cut out of the value written to its register. -/
def Fld.of (f : Fld) (v : Nat) : Nat := v / 2 ^ f.lo % 2 ^ f.width

/-- A value written to the listed fields of a register. -/
def State.writeFlds (s : State) (fs : List Fld) (i : Nat) (v : Nat) : State :=
  each fs (fun f s => s.writeFld f i (f.of v)) s

/-! ## Numbers -/

/-- A sample word as a signed number (Table 4-2). -/
def signed16 (n : Nat) : Int := if n < 32768 then n else (n : Int) - 65536

/-- A 32-bit word as a signed number. -/
def signed32 (n : Nat) : Int := if n < 2147483648 then n else (n : Int) - 4294967296

/-- A `w`-bit field as a signed number. -/
def signedOf (w n : Nat) : Int := if n < 2 ^ (w - 1) then n else (n : Int) - 2 ^ w

/-- The low `w` bits of a number as a field. -/
def low (w : Nat) (i : Int) : Nat := (i % 2 ^ w).toNat

/-- A quotient rounded to the nearest; the spec gives no rule for a tie. -/
def nearest (n : Int) (d : Nat) : Int :=
  let q := n / d
  let r := n % d
  if 2 * r < d then q else if 2 * r > d then q + 1 else if Config.tieUp n d then q + 1 else q

/-- A quotient whose rounding the spec does not state. -/
def openQuot (n : Int) (d : Nat) : Int :=
  if n % d = 0 then n / d else if Config.roundUp n d then n / d + 1 else n / d

/-- A signed number clamped to 32 bits. -/
def sat32 (i : Int) : Int := max (-2147483648) (min 2147483647 i)

/-- A signed number put into a 32-bit register that the spec does not say how to fill when it does not fit. -/
def fit32 (i : Int) : Nat :=
  if -2147483648 ≤ i ∧ i ≤ 2147483647 then low 32 i else Config.outOfRange i % 4294967296

/-! ## Errors of memories (Table 17-8) -/

/-- A corrected read of memory `m`. -/
def State.memCorr (s : State) (m : Nat) : State := s.addSat MEM_ECC.corr m 1

/-- An uncorrectable read of memory `m` at an address: counted, and held in MEM_UNCA until its valid bit is cleared. -/
def State.memUncorr (s : State) (m : Nat) (scrub : Bool) (a : Nat) : State :=
  let s := s.addSat MEM_ECC.uncorr m 1
  if s.bit MEM_UNCA.valid 0 then s
  else (((s.wr MEM_UNCA.valid 0 1).wr MEM_UNCA.src 0 m).wrBit MEM_UNCA.scrub 0 scrub).wr MEM_UNCA.address 0 a

/-! ## Which tiers are up -/

/-- The part is out of power-on reset. -/
def State.alive (s : State) : Bool := !s.part.held && !s.part.vaoLow

/-- Sense fabric, setts, reflex matrix and arbiter run (VSETT, R62). -/
def State.settUp (s : State) : Bool := s.alive && !s.part.vsettLost

/-- The domains on VCORE run (R61). -/
def State.coreUp (s : State) : Bool := s.alive && !s.part.vcoreLost

/-- Tray firmware runs (stage 3 of Table 3-9). -/
def State.fwUp (s : State) : Bool := s.coreUp && !s.part.halted

/-- The effect `t` where the command fits the state, no effect where it does not. -/
def doIf (g : Bool) (s t : State) : Out := .next (if g then t else s)

/-- The effect `f` where `g` holds. -/
def State.when (g : Bool) (s : State) (f : State → State) : State := if g then f s else s

/-! ## Records (R472 to R479) -/

/-- A record of an event raised now. -/
def State.mkRec (s : State) (code source : Nat) (data : List Nat) : Rec :=
  { code, source, data, opSeconds := s.burrow.opSeconds, powerCycles := s.burrow.powerCycles, bootUs := s.bootUs % 2 ^ 40 }

/-- One more event counted by a coalescing entry. -/
def Coal.join (e : Coal) (us now : Nat) : Coal :=
  { e with count := e.count + 1, firstUs := if e.count = 0 then us else e.firstUs, lastUs := us, lastAt := now }

/-- A coalescing entry opened by an event. -/
def Coal.opened (code source us now : Nat) : Coal :=
  { code, source, count := 1, firstUs := us, lastUs := us, since := now, lastAt := now }

/-- An entry opened by a record, with the pack that declares its code. -/
def Rec.opens (r : Rec) (source now : Nat) : Coal := { Coal.opened r.code source r.bootUs now with prog := r.prog, packId := r.packId }

/-- The record coalesced into an entry (R478): its own if it is open or there is room for it, else the many-source entry of its
code, else the overflow entry. -/
def CoalPath.coalesce (p : CoalPath) (r : Rec) (now : Nat) : CoalPath :=
  if p.entries.any (fun e => e.code == r.code && e.source == r.source) then
    { p with entries := p.entries.map (fun e => if e.code == r.code && e.source == r.source then e.join r.bootUs now else e) }
  else if p.entries.length < 128 then
    { p with entries := p.entries ++ [r.opens r.source now] }
  else if p.many.any (fun e => e.code == r.code) then
    { p with many := p.many.map (fun e => if e.code == r.code then e.join r.bootUs now else e) }
  else if p.many.length < 32 then
    { p with many := p.many ++ [r.opens Src.many now] }
  else match p.overflow with
    | some e => { p with overflow := some (e.join r.bootUs now) }
    | none => { p with overflow := some (Coal.opened Ev.INT_BRW_OVERFLOW Src.many r.bootUs now) }

/-- The record is one that has an open entry of its own. -/
def CoalPath.hasEntry (p : CoalPath) (r : Rec) : Bool :=
  p.entries.any (fun e => e.code == r.code && e.source == r.source)

/-- Records of classes 0x2, 0x7 and 0x8 and time anchors (R478). -/
def Rec.priority (r : Rec) : Bool :=
  r.kind == 3 || r.code / 256 == 2 || r.code / 256 == 7 || r.code / 256 == 8

/-- A record offered to the flash path (R478). -/
def State.offerFlash (s : State) (r : Rec) : State :=
  let b := s.burrow
  let take : State := { s with burrow := { b with flight := b.flight ++ [r], flashPath := { b.flashPath with tokens := b.flashPath.tokens - 1 } } }
  let coal : State :=
    { s with burrow := { b with flashPath := b.flashPath.coalesce r s.bootUs } }.addSat BRW_COALF.count 0 1
  if r.priority then
    if b.flashPath.tokens > 0 then take
    else if b.prio.length < 256 then { s with burrow := { b with prio := b.prio ++ [r] } }
    else coal
  else if b.flashPath.hasEntry r then coal
  else if b.flashPath.tokens > 0 then take
  else coal

/-- The mirror accepts records (R479): VCORE in range, memory active, the recorder not FROZEN. -/
def State.mirrorOn (s : State) : Bool :=
  !s.part.vcoreLost && s.bit DEV_STAT.mem_active 0 && s.rd REC_STAT.state 0 != 2

/-- Records the mirror ring holds (R417). -/
def mirrorRing : Nat := 262144

/-- A record accepted by the mirror with the next mirror seq (R474). -/
def Burrow.mirrorPut (b : Burrow) (seq : Nat) (r : Rec) : Burrow :=
  let l := b.mirror ++ [{ r with seq := seq }]
  { b with mirror := if l.length > mirrorRing then l.drop 1 else l }

/-- A record offered to the mirror (R479). -/
def State.offerMirror (s : State) (r : Rec) : State :=
  let b := s.burrow
  if !s.mirrorOn then s.addSat BRW_LOST.mirror_lost 0 1
  else if b.mirrorPath.hasEntry r || b.mirrorPath.tokens == 0 then
    { s with burrow := { b with mirrorPath := b.mirrorPath.coalesce r s.bootUs } }.addSat BRW_COALM.count 0 1
  else
    { s with burrow := { b with mirrorPath := { b.mirrorPath with tokens := b.mirrorPath.tokens - 1 } }.mirrorPut (s.rd BRW_MSEQ.seq 0) r }.addWrap
      BRW_MSEQ.seq 0 1

/-- One more MSI-X message of a vector. -/
def State.sendMsi (s : State) (v : Nat) : State := { s with host := { s.host with msix := Tab.upd 0 s.host.msix v (· + 1) } }

/-- A cause of INT_CAUSE sets; a change from 0 to 1 of a cause that is not masked sends the INT_VEC message (R395). -/
def State.raiseInt (s : State) (cause mask : Fld) : State :=
  if s.bit cause 0 then s
  else
    let s := s.wr cause 0 1
    if s.bit mask 0 then s else s.sendMsi (s.rd INT_VEC.vec 0)

/-- INT_CAUSE.event sets for new records, at most once per 10 ms (R395); within the 10 ms it waits for their end. -/
def State.eventInt (s : State) : State :=
  let soon := match s.burrow.lastEventInt with
    | some t => decide (s.bootUs < t + 10000)
    | none => false
  if s.bit INT_CAUSE.event 0 then s
  else if soon then { s with burrow := { s.burrow with eventDue := true } }
  else { s with burrow := { s.burrow with lastEventInt := some s.bootUs, eventDue := false } }.raiseInt INT_CAUSE.event INT_MASK.event

/-- A record offered to both paths (R472, R479). -/
def State.offer (s : State) (r : Rec) : State := ((s.offerFlash r).offerMirror r).eventInt

/-- An event recorded: code, source and data; while a cycle is decided it waits for the cycle's others (R525, log entry 93). -/
def State.record (s : State) (code source : Nat) (data : List Nat) : State :=
  match s.burrow.batch with
  | some l => { s with burrow := { s.burrow with batch := some (l ++ [s.mkRec code source data]) } }
  | none => s.offer (s.mkRec code source data)

/-- `r` enters the paths before `q` where both are raised in one cycle: by ascending source, then by ascending code (R525). -/
def Rec.before (r q : Rec) : Bool := decide (r.source < q.source ∨ (r.source = q.source ∧ r.code < q.code))

/-- A record put in its place among those of its cycle, after the equal ones. -/
def insertRec (r : Rec) : List Rec → List Rec
  | [] => [r]
  | q :: l => if r.before q then r :: q :: l else q :: insertRec r l

/-- What one sett-clock cycle decides: the records that `f` raises enter the paths in the order of R525. -/
def State.inOneCycle (s : State) (f : State → State) : State :=
  if s.burrow.batch.isSome then f s
  else
    let t := f { s with burrow := { s.burrow with batch := some [] } }
    ((t.burrow.batch.getD []).foldl (fun l r => insertRec r l) []).foldl State.offer { t with burrow := { t.burrow with batch := none } }

end Sys2Proof.Machine
end

