-- ==== Sys2Proof/Machine/Signals.lean ====
section
/-!
DEFINITION. What the blocks see of each other: window signals (R89), reflex sources and rules (R121), the values objects have
committed (R107), and the levels of the EN and gate outputs (R108).
-/
namespace Sys2Proof.Machine

/-! ## Twin operation (R491, R492) -/

/-- The T840 acts as shadow (Table 21-6). -/
def State.shadow_ (s : State) : Bool := s.rd TWIN_STAT.role 0 == 2

/-- The T840 acts as lead beside a shadow that has joined. -/
def State.leads (s : State) : Bool := s.rd TWIN_STAT.role 0 == 1 && s.bit TWIN_STAT.joined 0

/-- Tray firmware binds objects: on a shadow that has joined not before its tray tick is aligned (R490). -/
def State.mayBind (s : State) : Bool := !(s.shadow_ && s.bit TWIN_STAT.joined 0) || s.bit TWIN_STAT.aligned 0

/-- A state change told to the other T840 by a CMD, which is resent until its CACK (R492). -/
def State.tellTwin (s : State) (c : TwinCmd) : State :=
  if s.bit TWIN_STAT.joined 0 then
    { s with twin := { s.twin with unacked := s.twin.unacked ++ [(s.twin.nextSeq, c, s.bootUs)], nextSeq := (s.twin.nextSeq + 1) % 65536 } }
  else s

/-- The set_seq of the active set, 0 with none. -/
def State.activeSeq (s : State) : BitVec 32 := (s.secure.set.map (·.setSeq)).getD 0

/-- TWIN_STAT.set_match judged (R486): a mismatch is recorded at a join and at each change from 1 to 0. -/
def State.judgeMatch (s : State) (join : Bool) : State :=
  match s.twin.peer with
  | none => s
  | some p =>
    let m := p.setSeq == s.activeSeq
    let t := s.wrBit TWIN_STAT.set_match 0 m
    if !m && (join || s.bit TWIN_STAT.set_match 0) then t.record Ev.TWIN_SET_MISMATCH Src.twin [s.activeSeq.toNat, p.setSeq.toNat] else t

/-- The insertion state set; a lead tells the shadow. -/
def State.setIns (s : State) (v : Nat) : State :=
  let t := s.wr FEED_STAT.ins_state 0 v
  if t.leads then t.tellTwin (.insertion (BitVec.ofNat 3 v)) else t

/-! ## Channels and windows -/

def State.chan (s : State) (c : Nat) : Channel := Tab.get {} s.sense.channels c
def State.setChan (s : State) (c : Nat) (v : Channel) : State :=
  { s with sense := { s.sense with channels := Tab.set {} s.sense.channels c v } }
def State.win (s : State) (x : Nat) : Window := Tab.get {} s.sense.windows x
def State.setWin (s : State) (x : Nat) (v : Window) : State :=
  { s with sense := { s.sense with windows := Tab.set {} s.sense.windows x v } }
def State.meter (s : State) (m : Nat) : Meter := Tab.get {} s.sense.meters m
def State.setMeter (s : State) (m : Nat) (v : Meter) : State :=
  { s with sense := { s.sense with meters := Tab.set {} s.sense.meters m v } }

/-- The fixed channels of Table 2-6 in the order of the FEED_ windows (Table 8-1). -/
def fixedChannels : List Nat := [58, 59, 60, 61, 62, 63, 252, 253, 254, 255]

/-- The two channels of the critical pair (Table 2-9), to which absence does not apply (R48, R299). -/
def State.criticalChan (s : State) (c : Nat) : Bool := c == 256 + 8 * s.part.straps.tchan || c == 257 + 8 * s.part.straps.tchan

/-- A fixed channel (Table 2-6): its range and enable are read-only (R76). -/
def State.fixedChan (s : State) (c : Nat) : Bool := fixedChannels.contains c || s.criticalChan c

/-- The channel of FEED_ window `n`. -/
def fixedChannel (n : Nat) : Nat := fixedChannels.getD n 0

/-- The FEED_ window through which window `x` (twice the channel plus 0 for A, 1 for B) is reached: only window A of a fixed
channel has one (R175). -/
def feedIndex (x : Nat) : Option Nat := if x % 2 = 0 then fixedChannels.idxOf? (x / 2) else none

/-- A window's settings read from the SNS_ registers. -/
def WinSet.ofSns (rd : Fld → Nat) : WinSet where
  hyst := rd SNS_WCTL.hyst
  filter := rd SNS_WCTL.filter
  fhEn := rd SNS_WCTL.fh_en != 0
  whEn := rd SNS_WCTL.wh_en != 0
  wlEn := rd SNS_WCTL.wl_en != 0
  flEn := rd SNS_WCTL.fl_en != 0
  edgeEn := rd SNS_WCTL.edge_en != 0
  arm := rd SNS_WCTL.arm != 0
  fh := signed16 (rd SNS_WTHHI.fh)
  wh := signed16 (rd SNS_WTHHI.wh)
  wl := signed16 (rd SNS_WTHLO.wl)
  fl := signed16 (rd SNS_WTHLO.fl)

/-- A window's settings read from the FEED_ registers (R175). -/
def WinSet.ofFeed (rd : Fld → Nat) : WinSet where
  hyst := rd FEED_WCTL.hyst
  filter := rd FEED_WCTL.filter
  fhEn := rd FEED_WCTL.fh_en != 0
  whEn := rd FEED_WCTL.wh_en != 0
  wlEn := rd FEED_WCTL.wl_en != 0
  flEn := rd FEED_WCTL.fl_en != 0
  edgeEn := rd FEED_WCTL.edge_en != 0
  arm := rd FEED_WCTL.arm != 0
  fh := signed16 (rd FEED_WTHHI.fh)
  wh := signed16 (rd FEED_WTHHI.wh)
  wl := signed16 (rd FEED_WTHLO.wl)
  fl := signed16 (rd FEED_WTHLO.fl)

/-- The shadow of a window's settings: what its registers read (R87). -/
def State.shadow (s : State) (x : Nat) : WinSet :=
  match feedIndex x with
  | some n => WinSet.ofFeed (fun f => s.rd f n)
  | none => WinSet.ofSns (fun f => s.rd f x)

/-- The settings a window has at reset. -/
def resetSettings (x : Nat) : WinSet :=
  match feedIndex x with
  | some n => WinSet.ofFeed (fun f => f.dfltAt n)
  | none => WinSet.ofSns (fun f => f.dfltAt x)

/-- The active settings of a window. -/
def State.active (s : State) (x : Nat) : WinSet := (s.win x).act.getD (resetSettings x)

/-- The level fields of a window in the order of R89: FH, WH, WL, FL. -/
def levelFld : Nat → Fld
  | 0 => SNS_WSTAT.fh
  | 1 => SNS_WSTAT.wh
  | 2 => SNS_WSTAT.wl
  | _ => SNS_WSTAT.fl

/-- Level `k` (0 FH, 1 WH, 2 WL, 3 FL) of window `x`. -/
def State.level (s : State) (x k : Nat) : Bool := s.bit (levelFld k) x

/-- Window signal `g` (R89): levels, the edges of the channel's latest sample, the channel fault signal. -/
def State.signal (s : State) (g : Nat) : Bool :=
  let c := g / 32
  let x := 2 * c + g % 32 / 16
  let k := g % 16
  if k ≤ 3 then s.level x k
  else if k ≤ 11 then (s.win x).edges.testBit (k - 4)
  else if k = 12 ∧ g % 32 = 12 then s.bit SNS_CHSTAT.fault c
  else false

/-! ## Wards' ports -/

def State.port (s : State) (p : Nat) : Port := Tab.get {} s.ports p
def State.setPort (s : State) (p : Nat) (v : Port) : State := { s with ports := Tab.set {} s.ports p v }

/-! ## What objects have committed -/

def State.engine (s : State) (n : Nat) : Engine := Tab.get {} s.setts.engines n
def State.setEngine (s : State) (n : Nat) (e : Engine) : State :=
  { s with setts := { s.setts with engines := Tab.set {} s.setts.engines n e } }

/-- Where an object's value for an output is held. -/
def outKey (obj kind index : Nat) : Nat := (obj * 16 + kind) * 512 + index

/-- The value an object last committed to an output (R142). A read of a shared output is the reading object's own value (DESIGN CHOICE, log
entry 79). -/
def State.outVal (s : State) (obj kind index : Nat) : Word := Tab.get 0 s.setts.outs (outKey obj kind index)

/-- The objects that hold a non-zero value on an output, with the value, in ascending object number. -/
def State.requests (s : State) (kind index : Nat) : List (Nat × Nat) :=
  s.setts.outs.filterMap fun e =>
    if e.1 % 512 = index ∧ e.1 / 512 % 16 = kind then some (e.1 / 8192, e.2.toNat) else none

/-- Some object requests the output. -/
def State.requested (s : State) (kind index : Nat) : Bool := !(s.requests kind index).isEmpty

/-- The engine that holds object `obj`, with its number: the first that is not IDLE, other than a migration's destination. -/
def State.engineOf (s : State) (obj : Nat) : Option (Nat × Engine) :=
  s.setts.engines.find? fun e => e.2.state != .idle && e.2.obj == obj &&
    !(s.bit SETT_MIGSTAT.busy 0 && s.setts.mig.copied && s.setts.mig.dst == e.1)

/-- The object that owns an exclusive resource (R107). -/
def State.ownerOf (s : State) (kind index : Nat) : Option Nat :=
  (s.setts.engines.find? fun e => e.2.state != .idle && e.2.binds.any (fun b => b.2 == (kind, index))).map (·.2.obj)

/-- The resource is one whose binding is exclusive (Table 5-2). -/
def exclusiveKind (kind : Nat) : Bool := (7 ≤ kind && kind ≤ 12) || kind == 15

/-! ## Reflex rules (R121 to R123) -/

/-- Source `n` of Table 5-6; the synchronised level of WALRT# and LEVER# is the one the T840 holds. -/
def State.source (s : State) (n : Nat) : Bool :=
  if n ≤ 9727 then s.signal n
  else if n ≤ 9735 then s.bit HARP_WSTAT.walrt (n - 9728)
  else if n ≤ 9863 then !s.zither.pgHigh.contains (n - 9736)
  else if n = 9864 then !s.bit FEED_STAT.lever_latched 0
  else if 10240 ≤ n ∧ n ≤ 11519 then (s.engine (n - 10240)).state == .faulted
  else false

/-- A source number that Table 5-6 reserves. -/
def reservedSource (n : Nat) : Bool := (9865 ≤ n && n ≤ 10239) || 11520 ≤ n

/-- The enabled terms of a rule that are true. -/
def State.trueTerms (s : State) (r : Nat) : Nat :=
  let t (en inv src : Fld) : Nat := (s.bit en r && (s.source (s.rd src r) != s.bit inv r)).toNat
  t RFX_TERM01.t0_en RFX_TERM01.t0_inv RFX_TERM01.t0_src + t RFX_TERM01.t1_en RFX_TERM01.t1_inv RFX_TERM01.t1_src +
  t RFX_TERM23.t2_en RFX_TERM23.t2_inv RFX_TERM23.t2_src + t RFX_TERM23.t3_en RFX_TERM23.t3_inv RFX_TERM23.t3_src

/-- A rule's condition (R121). -/
def State.ruleHolds (s : State) (r : Nat) : Bool :=
  s.bit RFX_ACT.enable r && decide (s.rd RFX_ACT.kmin r + 1 ≤ s.trueTerms r)

/-- Source `n` may stand at `v` at some instant until the next command: as the state holds it; either way where no command tells each
change of its level, WALRT# before its filter and LEVER# before its latch; and an edge is over in the next cycle (R89). -/
def State.mayRead (s : State) (n : Nat) (v : Bool) : Bool :=
  v == s.source n || (9728 ≤ n && n ≤ 9735) || n == 9864 || (n ≤ 9727 && 4 ≤ n % 16 && n % 16 ≤ 11 && !v)

/-- The enabled terms of a rule that may be true at some instant (`up`), or that are true at every one. -/
def State.termsWithin (s : State) (r : Nat) (up : Bool) : Nat :=
  let t (en inv src : Fld) : Nat :=
    (s.bit en r && (if up then s.mayRead (s.rd src r) (!s.bit inv r) else !s.mayRead (s.rd src r) (s.bit inv r))).toNat
  t RFX_TERM01.t0_en RFX_TERM01.t0_inv RFX_TERM01.t0_src + t RFX_TERM01.t1_en RFX_TERM01.t1_inv RFX_TERM01.t1_src +
  t RFX_TERM23.t2_en RFX_TERM23.t2_inv RFX_TERM23.t2_src + t RFX_TERM23.t3_en RFX_TERM23.t3_inv RFX_TERM23.t3_src

/-- The rule may be true at some instant until the next command. -/
def State.ruleMayHold (s : State) (r : Nat) : Bool :=
  s.ruleHolds r || (s.bit RFX_ACT.enable r && decide (s.rd RFX_ACT.kmin r + 1 ≤ s.termsWithin r true))

/-- The rule may be not true at some instant until the next command. -/
def State.ruleMayFail (s : State) (r : Nat) : Bool :=
  !s.ruleHolds r || decide (s.termsWithin r false < s.rd RFX_ACT.kmin r + 1)

/-- The rule is still true, as far as its sources and the commands so far tell. -/
def State.stillTrue (s : State) (r : Nat) : Bool := s.ruleHolds r || (s.setts.trueRules.contains r && s.ruleMayHold r)

/-- An active rule whose action field is set. -/
def State.ruleActs (s : State) (f : Fld) : Bool := s.setts.activeRules.any fun r => s.bit f r

/-- The active rule that drops EN `n`, the lowest first. -/
def State.ruleDropping (s : State) (n : Nat) : Option Nat :=
  s.setts.activeRules.find? fun r => s.rd RFX_ACT.en_group r == n / 32 && (s.rd RFX_ENMASK.en_mask r).testBit (n % 32)

/-! ## Outputs -/

/-- The zither sequencer drives EN `n` on. -/
def State.seqOn (s : State) (n : Nat) : Bool :=
  s.zither.entries.any fun e => e.2.on && s.rd ZIT_EW0.en e.1 == n

/-- EN `n` is dropped by an active rule or held off by the object that owns it. -/
def State.enDropped (s : State) (n : Nat) : Bool := (s.ruleDropping n).isSome || s.requested 8 n

/-- EN output `n` is high (R108); with the pads released, or VSETT lost (R62), none is. -/
def State.enHigh (s : State) (n : Nat) : Bool :=
  s.alive && !s.zither.released && !s.part.vsettLost && s.seqOn n && !s.enDropped n

/-- An engine's object owns a rail that is ON (R108). -/
def State.ownsOnRail (s : State) (e : Engine) : Bool :=
  e.binds.any fun b => b.2.1 == 8 && s.enHigh b.2.2

/-- A pull-down of gate `g` acts: 0 GDA, 1 GDB, 2 GHS (R107). -/
def State.pulled (s : State) (g : Nat) : Bool :=
  s.requested 14 g || s.ruleActs (if g = 0 then RFX_ACT.gda else if g = 1 then RFX_ACT.gdb else RFX_ACT.ghs)

/-- SYS_SHUTDN# is asserted: by the critical comparator, an object or an active rule, for as long as one of them has cause (R46, R107). -/
def State.shutdown (s : State) : Bool := s.bit FAN_CRIT.asserting 0 || s.requested 14 4 || s.ruleActs RFX_ACT.shutdn

/-- The rule or object that pulls gate `g`, as the number of Table 20-2. -/
def State.pullSource (s : State) (g : Nat) : Nat :=
  let f := if g = 0 then RFX_ACT.gda else if g = 1 then RFX_ACT.gdb else RFX_ACT.ghs
  match s.setts.activeRules.find? (fun r => s.bit f r) with
  | some r => Src.rule r
  | none => match s.requests 14 g with
    | e :: _ => e.1
    | [] => 0

/-- The tray input is admitted (R182). -/
def State.admitted (s : State) : Bool := s.rd FEED_STAT.ins_state 0 == 2

/-- Every zither group is OFF or DWELL. -/
def State.allGroupsDown (s : State) : Bool :=
  (List.range 16).all fun g => s.rd ZIT_GSTAT.state g == 0 || s.rd ZIT_GSTAT.state g == 4

end Sys2Proof.Machine
end

