-- ==== Sys2Proof/Machine/HostOps.lean ====
section
/-!
DEFINITION. Completions, ring pairs and the descriptors that are outstanding (16).
-/
namespace Sys2Proof.Machine

/-- The `n` little-endian bytes of a number. -/
def leBytes (n v : Nat) : List Byte := (List.range n).map fun i => BitVec.ofNat 8 (v / 256 ^ i)

def State.pair (s : State) (r : Nat) : Pair := Tab.get {} s.host.pairs r
def State.setPair (s : State) (r : Nat) (p : Pair) : State := { s with host := { s.host with pairs := Tab.set {} s.host.pairs r p } }

/-- The host interface runs: D95 is on from stage 2 and CXL_PERST# release (Table 3-8, R68). -/
def State.hostUp (s : State) : Bool := s.coreUp && decide (2 ≤ s.part.stage) && !s.part.perstLow

/-- DEV_STAT.mode is READY (R394). -/
def State.ready (s : State) : Bool := s.rd DEV_STAT.mode 0 == 1

/-- The entries of pair `r`'s completion ring. -/
def State.cqSize (s : State) (r : Nat) : Nat := 2 ^ s.rd RING_CTL.cq_log2 r
def State.sqSize (s : State) (r : Nat) : Nat := 2 ^ s.rd RING_CTL.sq_log2 r

/-- The entries written and not yet released by the host (R397). -/
def State.cqUsed (s : State) (r : Nat) : Nat :=
  (s.rd CQ_TAIL.index r + s.cqSize r - s.rd DB_CQ.index r) % s.cqSize r

/-- The slots neither occupied nor reserved (R397): a ring of 2^n entries holds 2^n − 1. -/
def State.cqFree (s : State) (r : Nat) : Nat := s.cqSize r - 1 - s.cqUsed r - (s.pair r).out.length

/-- The vector's message of pair `r` (R398). -/
def State.signal_ (s : State) (r : Nat) : State :=
  (s.setPair r { s.pair r with unsent := 0, firstAt := none }).sendMsi (s.rd RING_CTL.vector r)

/-- A signalling completion counted towards coalescing (R398). -/
def State.coalesce (s : State) (r : Nat) : State :=
  let p := s.pair r
  let s := s.setPair r { p with unsent := p.unsent + 1, firstAt := some (p.firstAt.getD s.bootUs) }
  if s.bit RING_CTL.int_en r && decide (s.rd RING_COAL.coal_count r ≤ p.unsent + 1) then s.signal_ r else s

/-- A completion written in the next slot of pair `r` with the ring's phase (R398). -/
def State.putCompletion (s : State) (r : Nat) (quiet : Bool) (c : Completion) : State :=
  let t := s.rd CQ_TAIL.index r
  let p := s.pair r
  let next := (t + 1) % s.cqSize r
  let c := { c with phase := p.phase, sqHead := s.rd SQ_HEAD.index r, ringTag := r }
  let s := { s with host := { s.host with cq := Tab.set none s.host.cq (r * 4096 + t) (some c) } }
  let s := (s.setPair r { p with phase := if next = 0 then !p.phase else p.phase }).wr CQ_TAIL.index r next
  if quiet then s else s.coalesce r

/-- The outstanding descriptor fetched from slot `slot` of pair `r`. -/
def State.fetched (s : State) (r slot : Nat) : Option Fetched := (s.pair r).out.find? (·.slot == slot)

def descQuiet (d : Desc) : Bool := d.flags.getLsbD 0
def descFence (d : Desc) : Bool := d.flags.getLsbD 1
def descHdm (d : Desc) : Bool := d.flags.getLsbD 2
/-- Inline parameter of `size` bytes at descriptor offset `off`. -/
def descParam (d : Desc) (off size : Nat) : Nat := d.params.toNat / 2 ^ (8 * (off - 0x2C)) % 2 ^ (8 * size)

/-- The final completion of the descriptor fetched from slot `slot` (R398); its reserved slot is used. -/
def State.complete (s : State) (r slot status detail result : Nat) (valid : Bool) : State :=
  match s.fetched r slot with
  | none => s
  | some f =>
    let p := s.pair r
    let s := (s.setPair r { p with out := p.out.filter (·.slot != slot) }).wr RING_STAT.outstanding r (p.out.length - 1)
    let s := if status = St.badDescriptor then s.addSat RING_ERR.bad_desc r 1 else s
    s.putCompletion r (descQuiet f.desc)
      { cookie := f.desc.cookie, status, phase := false, valid, more := false, detail, sqHead := 0, ringTag := r, result }

/-- The end of a command: a descriptor's completes, tray firmware's own needs none. -/
def State.finish (s : State) (v : Via) (status : Nat) (detail : Nat := 0) (result : Nat := 0) (valid : Bool := false) : State :=
  match v with
  | .firmware => s
  | .ring r slot => s.complete r.toNat slot.toNat status detail result valid

/-- The command's work has begun and goes on. -/
def State.begin_ (s : State) (v : Via) : State :=
  match v with
  | .firmware => s
  | .ring r slot =>
    let p := s.pair r.toNat
    s.setPair r.toNat { p with out := p.out.map fun f => if f.slot == slot.toNat then { f with begun := true } else f }

/-- A descriptor of the update group (R399). -/
def descUpdate (d : Desc) : Bool := d.opcode.toNat / 256 == 5

/-- An outstanding update descriptor of any pair that was fetched before `n`. -/
def State.earlierUpdate (s : State) (n : Nat) : Bool :=
  s.host.pairs.any fun p => p.2.out.any fun f => descUpdate f.desc && decide (f.order < n)

/-- The outstanding descriptor may start (R399): it has not, every earlier one of its pair has, its fence finds no earlier one of its pair, and no
earlier update runs. -/
def State.startable (s : State) (r : Nat) (f : Fetched) : Bool :=
  !f.begun && (s.pair r).out.all (fun g => decide (f.order ≤ g.order) || (g.begun && !descFence f.desc)) &&
  !(descUpdate f.desc && s.earlierUpdate f.order)

/-- The command fits: tray firmware runs and gives it, or the named descriptor is outstanding, may start, has the opcode and the
parameters. -/
def State.given (s : State) (v : Via) (opcode : Nat) (p : Desc → Bool) : Bool :=
  match v with
  | .firmware => s.fwUp
  | .ring r slot => s.hostUp && match s.fetched r.toNat slot.toNat with
    | some f => f.desc.opcode.toNat == opcode && p f.desc && s.startable r.toNat f
    | none => false

/-- A command that only a descriptor gives. -/
def viaRing : Via → Bool
  | .firmware => false
  | .ring _ _ => true

/-- The descriptor of a command that one gives. -/
def State.descOf (s : State) (v : Via) : Option Desc :=
  match v with
  | .firmware => none
  | .ring r slot => (s.fetched r.toNat slot.toNat).map (·.desc)

/-- The detail of ABORTED_DISABLE (Table 16-12): 0 not begun, 2 a transfer or subscription stopped part-way, 1 an effect that runs on. -/
def Fetched.abortDetail (f : Fetched) : Nat :=
  if !f.begun then 0
  else if f.desc.opcode = 0x0100 ∨ f.desc.opcode = 0x0200 ∨ f.desc.opcode = 0x0500 ∨ f.desc.opcode = 0x0302 then 2 else 1

/-- The drops of a subscription in the present second recorded (R408). -/
def State.subRecord (s : State) (k : Nat) (x : Sub) : State :=
  if x.inSecond = 0 then s else s.record Ev.HOST_SUB_DROP Src.hostIf [x.pair, k, x.inSecond]

/-- The subscriptions of a pair counted in RING_STAT. -/
def State.countSubs (s : State) (r : Nat) : State := s.wr RING_STAT.subs r (min 255 (s.host.subs.filter (·.2.pair == r)).length)

/-- The subscriptions `p` end, with the entries they hold (R408). -/
def State.endSubs (s : State) (p : Nat × Sub → Bool) : State :=
  let s := each (s.host.subs.filter p) (fun e s => s.subRecord e.1 e.2) s
  { s with host := { s.host with subs := s.host.subs.filter fun e => !p e } }

/-- A command given by a descriptor of pair `r` that goes on without it. -/
def Via.leave (r : Nat) : Via → Via
  | .firmware => .firmware
  | .ring q slot => if q.val = r then .firmware else .ring q slot

/-- A request of a descriptor of pair `r` that goes on without it: 32 is no pair. -/
def Owner.leave (r : Nat) : Owner → Owner
  | .host p slot => .host (if p = r then 32 else p) slot
  | o => o

/-- What descriptors of pair `r` have begun goes on without them; a stage ends and leaves its target EMPTY (Table 16-12). -/
def State.forgetPair (s : State) (r : Nat) : State :=
  let port (x : Port) : Port := { x with
    reqs := x.reqs.map fun q => { q with owner := q.owner.leave r }, waiting := x.waiting.map fun q => { q with owner := q.owner.leave r } }
  let ward (x : Ward) : Ward := { x with seq := x.seq.map fun q => { q with via := Via.leave r q.via } }
  { s with
    ports := s.ports.map fun e => (e.1, port e.2)
    wards := { s.wards with list := s.wards.list.map fun e => (e.1, ward e.2) }
    recorder := { s.recorder with freezer := s.recorder.freezer.filter (·.1 != r) }
    secure := { s.secure with
      staging := s.secure.staging.filter fun g => Via.leave r g.via == g.via
      copying := s.secure.copying.map fun g => (Via.leave r g.1, g.2) } }

/-- Pair `r` disabled (R400): every outstanding descriptor completes with ABORTED_DISABLE, its subscriptions end, and HOST_RING_OFF. The
set-up registers keep their values. -/
def State.disablePair (s : State) (r : Nat) : State :=
  if s.rd RING_STAT.state r ≠ 1 then s else
    let out := (s.pair r).out
    let staged := match s.secure.staging with
      | some g => min g.part.length.toNat (Config.stageProgress (s.bootUs - g.since))
      | none => 0
    let s := each out (fun f s => s.complete r f.slot St.abortedDisable f.abortDetail (if f.desc.opcode = 0x0500 ∧ f.begun then staged else 0)
      (f.begun && f.desc.opcode == 0x0500)) s
    let s := (s.forgetPair r).endSubs (·.2.pair == r)
    let s := ((s.wr RING_STAT.state r 0).wr RING_STAT.subs r 0).wr RING_CTL.enable r 0
    s.record Ev.HOST_RING_OFF Src.hostIf [r, out.length, s.rd SQ_HEAD.index r]

/-- The number of pairs that are enabled (`DEV_STAT.rings_on`). -/
def State.ringsOn (s : State) : Nat := ((List.range 32).filter fun r => s.rd RING_STAT.state r == 1).length

/-- The ring state of a pair cleared, without completions (R60, Table 3-4); its set-up registers keep their values. -/
def State.clearPair (s : State) (r : Nat) : State :=
  let s := (s.setPair r {}).forgetPair r
  let s := s.endSubs (·.2.pair == r)
  each (RING_CTL.enable :: Reg.fields .RING_STAT ++ Reg.fields .SQ_HEAD ++ Reg.fields .CQ_TAIL ++ Reg.fields .RING_ERR ++ Reg.fields .DB_SQ ++
    Reg.fields .DB_CQ) (fun f s => s.wr f r (f.dfltAt r)) s

end Sys2Proof.Machine
end

