-- ==== Sys2Proof/Machine/Sha.lean ====
section
/-!
DEFINITION. SHA-384, the digest that the spec names for images, manifests, components and die_ids (R386, R431, R449).
-/
namespace Sys2Proof.Machine

/-- The eight working words of SHA-384. -/
structure Sha where
  a : BitVec 64
  b : BitVec 64
  c : BitVec 64
  d : BitVec 64
  e : BitVec 64
  f : BitVec 64
  g : BitVec 64
  h : BitVec 64
deriving DecidableEq, Repr

/-- The constants of the 80 rounds. -/
def shaRounds : List (BitVec 64) :=
  [0x428a2f98d728ae22, 0x7137449123ef65cd, 0xb5c0fbcfec4d3b2f, 0xe9b5dba58189dbbc, 0x3956c25bf348b538,
   0x59f111f1b605d019, 0x923f82a4af194f9b, 0xab1c5ed5da6d8118, 0xd807aa98a3030242, 0x12835b0145706fbe,
   0x243185be4ee4b28c, 0x550c7dc3d5ffb4e2, 0x72be5d74f27b896f, 0x80deb1fe3b1696b1, 0x9bdc06a725c71235,
   0xc19bf174cf692694, 0xe49b69c19ef14ad2, 0xefbe4786384f25e3, 0x0fc19dc68b8cd5b5, 0x240ca1cc77ac9c65] ++
  [0x2de92c6f592b0275, 0x4a7484aa6ea6e483, 0x5cb0a9dcbd41fbd4, 0x76f988da831153b5, 0x983e5152ee66dfab,
   0xa831c66d2db43210, 0xb00327c898fb213f, 0xbf597fc7beef0ee4, 0xc6e00bf33da88fc2, 0xd5a79147930aa725,
   0x06ca6351e003826f, 0x142929670a0e6e70, 0x27b70a8546d22ffc, 0x2e1b21385c26c926, 0x4d2c6dfc5ac42aed,
   0x53380d139d95b3df, 0x650a73548baf63de, 0x766a0abb3c77b2a8, 0x81c2c92e47edaee6, 0x92722c851482353b] ++
  [0xa2bfe8a14cf10364, 0xa81a664bbc423001, 0xc24b8b70d0f89791, 0xc76c51a30654be30, 0xd192e819d6ef5218,
   0xd69906245565a910, 0xf40e35855771202a, 0x106aa07032bbd1b8, 0x19a4c116b8d2d0c8, 0x1e376c085141ab53,
   0x2748774cdf8eeb99, 0x34b0bcb5e19b48a8, 0x391c0cb3c5c95a63, 0x4ed8aa4ae3418acb, 0x5b9cca4f7763e373,
   0x682e6ff3d6b2b8a3, 0x748f82ee5defb2fc, 0x78a5636f43172f60, 0x84c87814a1f0ab72, 0x8cc702081a6439ec] ++
  [0x90befffa23631e28, 0xa4506cebde82bde9, 0xbef9a3f7b2c67915, 0xc67178f2e372532b, 0xca273eceea26619c,
   0xd186b8c721c0c207, 0xeada7dd6cde0eb1e, 0xf57d4f7fee6ed178, 0x06f067aa72176fba, 0x0a637dc5a2c898a6,
   0x113f9804bef90dae, 0x1b710b35131c471b, 0x28db77f523047d84, 0x32caab7b40c72493, 0x3c9ebe0a15c9bebc,
   0x431d67c49c100d4c, 0x4cc5d4becb3e42b6, 0x597f299cfc657e2a, 0x5fcb6fab3ad6faec, 0x6c44198c4a475817]

/-- The initial hash value of SHA-384. -/
def shaStart : Sha :=
  { a := 0xcbbb9d5dc1059ed8
    b := 0x629a292a367cd507
    c := 0x9159015a3070dd17
    d := 0x152fecd8f70e5939
    e := 0x67332667ffc00b31
    f := 0x8eb44a8768581511
    g := 0xdb0c2e0d64f98fa7
    h := 0x47b5481dbefa4fa4 }

/-- One round with its constant and the window of 16 schedule words, the present one first. -/
def shaRound (x : Sha × List (BitVec 64)) (k : BitVec 64) : Sha × List (BitVec 64) :=
  let s := x.1
  let w (i : Nat) : BitVec 64 := x.2.getD i 0
  let t1 := s.h + (s.e.rotateRight 14 ^^^ s.e.rotateRight 18 ^^^ s.e.rotateRight 41) + ((s.e &&& s.f) ^^^ (~~~s.e &&& s.g)) + k + w 0
  let t2 := (s.a.rotateRight 28 ^^^ s.a.rotateRight 34 ^^^ s.a.rotateRight 39) + ((s.a &&& s.b) ^^^ (s.a &&& s.c) ^^^ (s.b &&& s.c))
  let next := ((w 14).rotateRight 19 ^^^ (w 14).rotateRight 61 ^^^ (w 14) >>> 6) + w 9 +
    ((w 1).rotateRight 1 ^^^ (w 1).rotateRight 8 ^^^ (w 1) >>> 7) + w 0
  ({ a := t1 + t2, b := s.a, c := s.b, d := s.c, e := s.d + t1, f := s.e, g := s.f, h := s.g }, x.2.drop 1 ++ [next])

/-- One block of 16 words. -/
def shaBlock (s : Sha) (block : List (BitVec 64)) : Sha :=
  let r := (shaRounds.foldl shaRound (s, block)).1
  { a := s.a + r.a, b := s.b + r.b, c := s.c + r.c, d := s.d + r.d, e := s.e + r.e, f := s.f + r.f, g := s.g + r.g, h := s.h + r.h }

/-- The number that bytes make, the first highest. -/
def bigNat (l : List Byte) : Nat := l.foldl (fun n b => n * 256 + b.toNat) 0

/-- A message filled up to whole blocks of 128 bytes: a 1 bit, zeros, and its length in bits as 16 bytes. -/
def shaPad (l : List Byte) : List Byte :=
  let bits := 8 * l.length
  l ++ 0x80 :: List.replicate ((239 - l.length % 128) % 128) 0 ++ (List.range 16).map fun i => BitVec.ofNat 8 (bits / 256 ^ (15 - i))

/-- The blocks of a filled message. -/
def shaBlocks : Nat → List Byte → Sha → Sha
  | 0, _, s => s
  | n + 1, l, s => shaBlocks n (l.drop 128) (shaBlock s ((List.range 16).map fun i => BitVec.ofNat 64 (bigNat ((l.drop (8 * i)).take 8))))

/-- The SHA-384 of bytes, its first byte highest. -/
def sha384 (l : List Byte) : BitVec 384 :=
  let p := shaPad l
  let s := shaBlocks (p.length / 128) p shaStart
  s.a ++ s.b ++ s.c ++ s.d ++ s.e ++ s.f

end Sys2Proof.Machine
end

