-- ==== Sys2Proof/Machine/Layouts.lean ====
section
/-!
DEFINITION. The signed containers of the spec read from their words: image headers, set manifests, maintenance tokens, key revocations (18, 19).
-/
namespace Sys2Proof.Machine

/-- Byte `a` of a container given as little-endian words. -/
def recByte (l : List Word) (a : Nat) : Nat := (l.getD (a / 4) 0).toNat / 256 ^ (a % 4) % 256

/-- The little-endian number of `n` bytes at `a`. -/
def recNum (l : List Word) (a n : Nat) : Nat := ((List.range n).map fun i => 256 ^ i * recByte l (a + i)).sum

/-- `n` bytes from `a` on, and whether all of them are zero. -/
def recBytes (l : List Word) (a n : Nat) : List Byte := (List.range n).map fun i => BitVec.ofNat 8 (recByte l (a + i))
def recZero (l : List Word) (a n : Nat) : Bool := (List.range n).all fun i => recByte l (a + i) == 0

/-- The SHA-384 that stands at `a`, its first byte highest, and its 48 bytes. -/
def recDigest (l : List Word) (a : Nat) : BitVec 384 := BitVec.ofNat 384 (bigNat (recBytes l a 48))
def digestBytes (d : BitVec 384) : List Byte := (leBytes 48 d.toNat).reverse

/-- `n` words at byte `a`. -/
def recWords (l : List Word) (a n : Nat) : List Word := (List.range n).map fun i => BitVec.ofNat 32 (recNum l (a + 4 * i) 4)

/-- An image header (Table 18-2); none where it does not parse (verdict 3 of Table 18-3). -/
def parseHeader (l : List Word) : Option Header :=
  let len := recNum l 0x10 4
  let entry := recNum l 0x14 4
  if recNum l 0 4 = 0x4D495654 ∧ recNum l 4 2 = 1 ∧ recByte l 6 ≤ 3 ∧ recByte l 7 ≤ 128 ∧ 1 ≤ len ∧ len ≤ 16773120 ∧ entry % 4 = 0 ∧ entry < len ∧
      recZero l 0x98 104 ∧ recZero l 0xE2D 467 then
    some { keySlot := Fin.ofNat 4 (recByte l 6), svn := BitVec.ofNat 8 (recByte l 7), build := BitVec.ofNat 32 (recNum l 8 4)
           commitSeq := BitVec.ofNat 32 (recNum l 0xC 4), bodyLen := BitVec.ofNat 32 len, entry := BitVec.ofNat 32 entry
           steppings := recWords l 0x18 8, manifest := recDigest l 0x68, digest := sha384 (recBytes l 0 256) }
  else none

/-- A manifest entry at byte `a` (Table 19-2), and whether its flags and reserved bytes hold. -/
def parseEntry (l : List Word) (a : Nat) : Entry :=
  { type := BitVec.ofNat 8 (recByte l a), carried := (recByte l (a + 1)).testBit 0, wardType := BitVec.ofNat 32 (recNum l (a + 4) 4)
    version := BitVec.ofNat 32 (recNum l (a + 8) 4), length := BitVec.ofNat 32 (recNum l (a + 12) 4), digest := recDigest l (a + 16)
    steppings := recWords l (a + 0x40) 8
    ranges := (List.range 5).map fun i => (BitVec.ofNat 32 (recNum l (a + 0x60 + 8 * i) 4), BitVec.ofNat 32 (recNum l (a + 0x64 + 8 * i) 4)) }

def entryOk (l : List Word) (a : Nat) : Bool :=
  decide (recByte l (a + 1) ≤ 1) && recZero l (a + 2) 2 && recZero l (a + 0x88) 8 &&
  (recByte l a == 6 || recByte l a == 7 || recNum l (a + 4) 4 == 0)

/-- A signed set manifest (Table 19-1) with its hash; none where its bytes have not the layout. -/
def parseManifest (m : Signed) : Option Manifest :=
  let l := m.words
  let n := recByte l 7
  let total := 3437 + 144 * n
  if recNum l 0 4 = 0x5445534D ∧ recNum l 4 2 = 1 ∧ recByte l 6 ≤ 3 ∧ 1 ≤ n ∧ n ≤ 64 ∧ recZero l 0xC 52 ∧
      ((List.range n).all fun i => entryOk l (0x40 + 144 * i)) ∧ total ≤ 4 * l.length then
    some { keySlot := Fin.ofNat 4 (recByte l 6), setSeq := BitVec.ofNat 32 (recNum l 8 4)
           entries := (List.range n).map fun i => parseEntry l (0x40 + 144 * i), hash := sha384 (recBytes l 0 total), sigOk := m.sigOk }
  else none

/-- A maintenance token (Table 18-8). -/
structure Token where
  keySlot : Nat
  rights : Nat
  device : Nat
  challenge : Nat
  ward : Nat
  removal : Nat
  sigOk : Bool
deriving DecidableEq, Repr

/-- A token read from its signed bytes; none where magic, format, key_slot or a reserved byte is wrong. -/
def parseToken (t : Signed) : Option Token :=
  let l := t.words
  if recNum l 0 4 = 0x4E4B5454 ∧ recNum l 4 2 = 1 ∧ recByte l 6 ≤ 3 ∧ recByte l 7 = 0 ∧ recNum l 8 4 < 16 ∧ recZero l 0xC 4 then
    some { keySlot := recByte l 6, rights := recNum l 8 4, device := recNum l 0x10 16, challenge := recNum l 0x20 16, ward := recNum l 0x30 16
           removal := recNum l 0x40 192, sigOk := t.sigOk }
  else none

/-- A key revocation (R467). -/
structure Revocation where
  keySlot : Nat
  kind : Nat
  pair : Nat
  sigOk : Bool
deriving DecidableEq, Repr

/-- A revocation read from its signed bytes; none where magic, format, key_slot or a byte that must be zero is wrong. -/
def parseRevocation (t : Signed) : Option Revocation :=
  let l := t.words
  if recNum l 0 4 = 0x4B565452 ∧ recNum l 4 2 = 1 ∧ recByte l 6 ≤ 3 ∧ recZero l 9 247 then
    some { keySlot := recByte l 6, kind := recByte l 7, pair := recByte l 8, sigOk := t.sigOk }
  else none

end Sys2Proof.Machine
end

