-- ==== Sys2Proof/Machine/PortOps.lean ====
section
/-!
DEFINITION. Ward ports: requests, exchanges, streams, the secure channel and the link's states; laser sources (13).
-/
namespace Sys2Proof.Machine

/-- The state of port `p` (Table 13-2): 0 DISABLED, 1 DARK, 2 TRAINING, 3 LINKED, 4 FAULT. -/
def State.pstate (s : State) (p : Nat) : Nat := s.rd WPORT_STAT.state p

def State.linked (s : State) (p : Nat) : Bool := s.pstate p == 3

/-- A port put into a state, entered now. -/
def State.setPstate (s : State) (p v : Nat) : State := (s.setPort p { s.port p with entered := s.bootUs }).wr WPORT_STAT.state p v

/-- The lanes that run, with `WPORT_STAT.lanes`. -/
def State.setLanes (s : State) (p : Nat) (l : List Nat) : State :=
  (s.setPort p { s.port p with lanes := l }).wr WPORT_STAT.lanes p l.length

def lightFld (lane : Nat) : Fld := if lane = 0 then WPORT_STAT.light0 else WPORT_STAT.light1

/-- Ports and laser masters run: tray firmware's domains and VSETT's are up. -/
def State.portUp (s : State) : Bool := s.coreUp && s.settUp

/-! ## Ward address space -/

def State.ward (s : State) (w : Nat) : Ward := Tab.get {} s.wards.list w
def State.setWard (s : State) (w : Nat) (x : Ward) : State := { s with wards := { s.wards with list := Tab.set {} s.wards.list w x } }

/-- The word of the ward's capability, bring-up and reset blocks at byte address `a`, as the T840 read it. -/
def Ward.at_ (x : Ward) (a : Nat) : Nat := (Tab.get 0 x.block (a / 4)).toNat
/-- A 16-bit field of those blocks. -/
def Ward.half (x : Ward) (a : Nat) : Nat := x.at_ a / 2 ^ (8 * (a % 4)) % 65536
/-- A byte of those blocks. -/
def Ward.byte (x : Ward) (a : Nat) : Nat := x.at_ a / 2 ^ (8 * (a % 4)) % 256
/-- A 64-bit field of those blocks. -/
def Ward.long (x : Ward) (a : Nat) : Nat := x.at_ a + x.at_ (a + 4) * 4294967296

/-- The ward's secure range is closed to a request at `addr` (R330): sealing is required and no channel is up. -/
def State.secureShut (s : State) (p addr : Nat) : Bool :=
  let x := s.ward p
  let base := x.long 0x38 % 281474976710656
  (x.at_ 0x28).testBit 1 && !(s.port p).up && decide (base ≤ addr ∧ addr < base + x.long 0x40)

/-! ## The end of a request -/

/-- A kind-7 request of an object's slot ends (R143): busy clears, status and data stand; the first word of an answer whose status is not OK is taken,
too (DESIGN CHOICE, log entry 79). -/
def State.endEngine (s : State) (obj slot status : Nat) (data : List Word) : State :=
  match s.engineOf obj with
  | none => s
  | some (n, e) => s.setEngine n
    { e with reqBusy := e.reqBusy.filter (· != slot), reqStatus := Tab.set 0 e.reqStatus slot status,
             reqData := match data with
               | v :: _ => Tab.set 0 e.reqData slot v
               | [] => e.reqData }

/-- Words put into the ward's read buffer from word `dest`. -/
def putWords : Tab Word → Nat → List Word → Tab Word
  | t, _, [] => t
  | t, k, v :: l => putWords (Tab.set 0 t k v) (k + 1) l

/-- A request ends with a status of Table 13-7; tray firmware's data go to the ward's buffer. A request of tray firmware that fails leaves its
step to end at its deadline. -/
def State.endReq (s : State) (p : Nat) (o : Owner) (status : Nat) (data : List Word) : State :=
  match o with
  | .engine obj slot => s.endEngine obj slot status data
  | .firmware dest =>
    let x := s.ward p
    if status = St.ok then s.setWard p { x with buf := putWords x.buf dest data } else s.setWard p { x with sub := 99 }
  | .host pair slot =>
    let s := match s.fetched pair slot with
      | some f => if data.isEmpty then s else
          { s with host := { s.host with written := (f.desc.addr0.toNat, data.flatMap fun (v : Word) => leBytes 4 v.toNat) } }
      | none => s
    s.complete pair slot status 0 0 false

/-- The outstanding count of a port. -/
def State.countReqs (s : State) (p : Nat) : State := s.wr WPORT_STAT.outstanding p (s.port p).reqs.length

/-- The next tag that no outstanding request has. -/
def Port.freeTag (x : Port) : Nat :=
  ((List.range 256).map fun k => (x.nextTag + k) % 256).find? (fun t => !x.reqs.any (·.tag == t)) |>.getD 0

/-! ### Frames sent -/

/-- The priority of a frame type (Table 13-6). -/
def txRank (type : Nat) : Nat :=
  match type with
  | 1 | 2 => 1
  | 5 | 6 | 7 => 2
  | 3 | 4 | 10 => 3
  | _ => 4

/-- A frame queued behind every frame of its own or a higher priority (R318). -/
def enqueueTx (f : TxFrame) : List TxFrame → List TxFrame
  | [] => [f]
  | g :: l => if txRank f.type < txRank g.type then f :: g :: l else g :: enqueueTx f l

/-- The bytes of a frame: header, words, payload and CRC, and 16 more where it is sealed (R317, R334). -/
def TxFrame.bytes (f : TxFrame) : Nat := 4 * (f.words.length + 2) + f.payload + (if f.isSealed then 16 else 0)

/-- Frame types that are sealed once the channel is up (R330): REQ, RSP, EVT, ACK, BULK, BACK. -/
def sealable (type : Nat) : Bool := type == 3 || type == 4 || type == 5 || type == 6 || type == 8 || type == 9

/-- A frame queued for transmission, sealed and counted while the channel is up (R318, R330). -/
def Port.send (x : Port) (type tag : Nat) (words : List Word) (payload : Nat := 0) : Port :=
  let sealing := x.up && sealable type
  { x with
    txq := enqueueTx { type, tag, words, payload, isSealed := sealing } x.txq
    sealedOut := if sealing then x.sealedOut + 1 else x.sealedOut }

/-- Words 1 on of a REQ (R319). -/
def Req.words (r : Req) : List Word :=
  BitVec.ofNat 32 ((if r.read then 1 else 2) * 16777216 + r.count * 65536 + r.addr / 4294967296 % 65536) :: BitVec.ofNat 32 r.addr :: r.data

/-- Words 1 and 2 of a CTRL (R325). -/
def ctrlWords (code arg param : Nat) : List Word := [BitVec.ofNat 32 (code * 16777216 + arg % 256 * 65536), BitVec.ofNat 32 param]

/-- Words 1 to 4 of a BACK that the T840 sends (R321): the stream, the offset received in order, the credit. -/
def backWords (p stream off : Nat) : List Word :=
  [BitVec.ofNat 32 (stream * 536870912), BitVec.ofNat 32 off, BitVec.ofNat 32 (off / 4294967296),
   BitVec.ofNat 32 (min (Config.bulkCredit p stream) 1048576)]

/-- Word 1 of a SEC frame that carries a message whole (R329). -/
def secWord (message : Nat) : Word := BitVec.ofNat 32 (message * 16777216 + 1)

/-- The bytes of OFFER: nonce, X25519 key, ML-KEM-768 key; and of FINISH: Ed25519 and ML-DSA-65 signatures, filled up to a whole word (R329). -/
def offerBytes : Nat := 32 + 32 + 1184
def finishBytes : Nat := (64 + 3309 + 3) / 4 * 4

/-- The frames at the front of a queue that fit into `n` bytes, and the rest. -/
def takeBytes : Nat → List TxFrame → List TxFrame × List TxFrame
  | _, [] => ([], [])
  | n, f :: l =>
    if f.bytes ≤ n then ((f :: (takeBytes (n - f.bytes) l).1), (takeBytes (n - f.bytes) l).2) else ([], f :: l)

/-- What a port transmits in 1 µs leaves, from the front of its queue: 25,000 bytes on each running lane (R303, R307, R318). -/
def Port.transmit (x : Port) : Port :=
  let t := takeBytes (25000 * x.lanes.length) x.txq
  { x with wire := t.1, txq := t.2 }

/-- Every port transmits for 1 µs. -/
def State.drainTx (s : State) : State := each (List.range 8) (fun p s => s.setPort p (s.port p).transmit) s

/-! ### Bulk streams (R321) -/

/-- The frames that carry the bytes from offset `at_` up to `hi`: at most 4,096 bytes each, in multiples of 32. -/
def bulkPieces : Nat → Nat → Nat → List (Nat × Nat)
  | 0, _, _ => []
  | fuel + 1, at_, hi => if hi ≤ at_ then [] else (at_, (min 4096 (hi - at_) + 31) / 32 * 32) :: bulkPieces fuel (at_ + 4096) hi

/-- The offset up to which a sender may send: the credit beyond the acknowledged offset, in whole multiples of 32 short of the end. -/
def Bulk.limit (b : Bulk) : Nat :=
  if b.len ≤ b.done + b.credit then b.len else b.sent + (b.done + b.credit - b.sent) / 32 * 32

/-- An outbound stream sends what its credit allows. -/
def Port.pump (x : Port) (stream : Nat) (b : Bulk) : Port :=
  let x := each (bulkPieces 257 b.sent b.limit) (fun f (x : Port) =>
    x.send 8 0 [BitVec.ofNat 32 (stream * 536870912), BitVec.ofNat 32 f.1, BitVec.ofNat 32 (f.1 / 4294967296)] f.2) x
  { x with outs := Tab.set none x.outs stream (some { b with sent := max b.sent b.limit }) }

/-- An outbound stream opened. -/
def State.openOut (s : State) (p stream len : Nat) : State :=
  s.setPort p ((s.port p).pump stream { len, credit := min (Config.firstCredit p stream) 1048576, progressAt := s.bootUs })

/-- A stream's frames taken out of the queue, for the resend from the acknowledged offset. -/
def Port.dropBulk (x : Port) (stream : Nat) : Port :=
  { x with txq := x.txq.filter fun f => f.type != 8 || f.words.head? != some (BitVec.ofNat 32 (stream * 536870912)) }

/-- A request sent, or kept waiting while 64 are outstanding (R319). -/
def State.sendReq (s : State) (p : Nat) (r : Req) : State :=
  let x := s.port p
  if x.reqs.length < 64 then
    let t := x.freeTag
    (s.setPort p { x.send 3 t r.words with
      reqs := x.reqs ++ [{ r with tag := t, sends := 1, sentAt := s.bootUs }], nextTag := (t + 1) % 256 }).countReqs p
  else s.setPort p { x with waiting := x.waiting ++ [r] }

/-- A request that waits is sent once there is room. -/
def State.sendWaiting (s : State) (p : Nat) : State :=
  let x := s.port p
  match x.waiting with
  | r :: l => if x.reqs.length < 64 then (s.setPort p { x with waiting := l }).sendReq p r else s
  | [] => s

/-- The outstanding request `tag` ends. -/
def State.finishReq (s : State) (p : Nat) (r : Req) (status : Nat) (data : List Word) : State :=
  let x := s.port p
  let s := ((s.setPort p { x with reqs := x.reqs.filter (·.tag != r.tag) }).countReqs p).sendWaiting p
  let s := if status = St.timeout then s.addSat WPORT_ERR.req_to p 1 else s
  s.endReq p r.owner status data

/-- A request asked for on port `p` (R319, R320): refused at once where the port is not LINKED or sealing is required. -/
def State.request (s : State) (p : Nat) (r : Req) : State :=
  if !s.linked p || s.shadow_ then s.endReq p r.owner St.refusedState []
  else if s.secureShut p r.addr then s.endReq p r.owner St.integrity []
  else s.sendReq p r

/-- Tray firmware reads `n` words from ward address `a` into the buffer at word `dest`, in requests of at most 16 words. -/
def State.fwRead (s : State) (p : Nat) : Nat → Nat → Nat → Nat → State
  | 0, _, _, _ => s
  | fuel + 1, a, n, dest =>
    if n = 0 then s else
      (s.request p { owner := .firmware dest, read := true, addr := a, count := min 16 n }).fwRead p fuel (a + 64) (n - 16) (dest + 16)

/-- Tray firmware writes words from ward address `a`, in requests of at most 16 words. -/
def State.fwWrite (s : State) (p : Nat) : Nat → Nat → List Word → State
  | 0, _, _ => s
  | fuel + 1, a, l =>
    if l.isEmpty then s else
      (s.request p { owner := .firmware 0, read := false, addr := a, count := min 16 l.length, data := l.take 16 }).fwWrite p fuel (a + 64) (l.drop 16)

/-- A request of tray firmware is outstanding or waits. -/
def Port.fwBusy (x : Port) : Bool :=
  (x.reqs ++ x.waiting).any fun r => match r.owner with
    | .firmware _ => true
    | _ => false

/-! ## Drain and fence -/

/-- A CTRL sent (R325). -/
def State.sendCtrl (s : State) (p code arg : Nat) (o : Owner) : State :=
  let x := s.port p
  s.setPort p { x.send 7 0 (ctrlWords code arg 0) with ctrls := x.ctrls ++ [{ code, arg, owner := o, since := s.bootUs, sentAt := s.bootUs }] }

/-- An exchange ends: an object's request gets its status. -/
def State.endCtrl (s : State) (p : Nat) (c : Ctrl) (status : Nat) : State :=
  let x := s.port p
  let s := s.setPort p { x with ctrls := x.ctrls.filter (· != c) }
  let s := if status = St.timeout then s.addSat WPORT_ERR.req_to p 1 else s
  match c.owner with
  | .engine obj slot => s.endEngine obj slot status []
  | _ => s

/-- The exchange that an answer of Table 13-8 ends. -/
def State.findCtrl (s : State) (p code arg : Nat) : Option Ctrl := (s.port p).ctrls.find? fun c => c.code == code && c.arg == arg

/-- The deadline of an exchange in µs: QUIESCE, RELEASE, FENCE (R326, R327). -/
def State.ctrlDeadline (s : State) (p : Nat) (c : Ctrl) : Nat :=
  if c.code = 1 then s.rd WPORT_TMO.drain_us p
  else if c.code = 3 then 3 * s.rd WPORT_TMO.req_us p
  else 10 * s.rd WPORT_TMO.fence p

/-- A kind-7 request committed by object `obj` for slot `slot` on port `p` (R143, Table 6-7). -/
def State.portRequest (s : State) (obj slot p : Nat) (w0 w1 w2 w3 : Word) : State :=
  match s.engineOf obj with
  | none => s
  | some (n, e) =>
    if e.reqBusy.contains slot then s.setEngine n { e with reqStatus := Tab.set 0 e.reqStatus slot St.busy }
    else
      let s := s.setEngine n { e with reqBusy := slot :: e.reqBusy }
      let o := Owner.engine obj slot
      let addr := (w2.extractLsb' 0 16).toNat * 4294967296 + w1.toNat
      let ctrl (code arg : Nat) : State :=
        if !s.linked p || s.shadow_ then s.endEngine obj slot St.refusedState [] else s.sendCtrl p code arg o
      match (w0.extractLsb' 24 8).toNat with
      | 1 => s.request p { owner := o, read := true, addr, count := 1 }
      | 2 => s.request p { owner := o, read := false, addr, count := 1, data := [w3] }
      | 3 => ctrl 1 (w0.extractLsb' 0 8).toNat
      | 4 => ctrl 3 (w0.extractLsb' 0 8).toNat
      | _ => ctrl 5 (w1.extractLsb' 0 4).toNat

/-! ## Secure channel -/

/-- The channel of a port goes down. -/
def State.secDown (s : State) (p : Nat) : State :=
  let s := { s with wards := { s.wards with island := if s.wards.island = some p then none else s.wards.island } }
  (s.setPort p { s.port p with up := false, setup := 0, fragments := 0, sealedOut := 0, sealedIn := 0, tagFails := [] }).wr WPORT_STAT.sec p 0

/-- OFFER is sent for the lowest port that waits, when the island is free; the island serves one set-up at a time. -/
def State.islandNext (s : State) : State :=
  match s.wards.island with
  | some _ => s
  | none => match (List.range 8).find? fun p => (s.port p).setup == 1 with
    | none => s
    | some p => { s with wards := { s.wards with island := some p } }.setPort p { (s.port p).send 10 0 [secWord 1] offerBytes with setup := 2, fragments := 0 }

/-- A channel set-up is asked for (R329); a channel that is up stays so until the new one replaces it. -/
def State.secStart (s : State) (p : Nat) : State := (s.setPort p { s.port p with setup := 1 }).islandNext

/-! ## The link -/

/-- Every request and exchange of a port ends with a status, and every stream ends (R308, R309, R354). -/
def State.endAll (s : State) (p status : Nat) : State :=
  let x := s.port p
  let s := s.setPort p { x with reqs := [], waiting := [], ctrls := [], outs := [], ins := [] }
  let s := s.countReqs p
  let s := if status = St.timeout then s.addSat WPORT_ERR.req_to p (x.reqs.length + x.waiting.length + x.ctrls.length) else s
  let s := each (x.reqs ++ x.waiting) (fun r s => s.endReq p r.owner status []) s
  each x.ctrls (fun c s => match c.owner with
    | .engine obj slot => s.endEngine obj slot status []
    | _ => s) s

/-- A held ward notes that its port has left LINKED (R357). -/
def State.noteUnlinked (s : State) (p : Nat) : State :=
  if (s.ward p).state = 12 then s.setWard p { s.ward p with leftLink := true } else s

/-- A port enters FAULT (R308): requests and streams end with TIMEOUT, telemetry stops, the channel is down. -/
def State.portFault (s : State) (p : Nat) : State :=
  let s := (((s.endAll p St.timeout).secDown p).noteUnlinked p).setLanes p []
  let s := s.setPort p { s.port p with sync := 0, txq := [], uncorr := [] }
  s.setPstate p 4

/-- A port is off (R308): requests, streams and the channel end, and its state is DISABLED. -/
def State.portOff (s : State) (p : Nat) : State :=
  let t := (((s.endAll p St.abortedDisable).secDown p).noteUnlinked p).setLanes p []
  let t := ((t.setPort p { t.port p with sync := 0, failRecorded := false, txq := [], wire := [], uncorr := [] }).wr WPORT_STAT.light0 p 0).wr WPORT_STAT.light1 p 0
  (t.wr WPORT_CTL.enable p 0).setPstate p 0

/-! ## Laser sources (R310 to R316) -/

def State.laser (s : State) (k : Nat) : Laser := Tab.get {} s.lasers.sources k
def State.setLaser (s : State) (k : Nat) (v : Laser) : State := { s with lasers := { s.lasers with sources := Tab.set {} s.lasers.sources k v } }

/-- The static address of a source (Table 13-3). -/
def laserStatic (k : Nat) : BitVec 7 := BitVec.ofNat 7 (0x30 + (if k < 2 then k else (k - 2) % 4))

/-- The bus of a source (Table 13-3). -/
def laserBus (k : Nat) : Nat := if k < 2 then 0 else (k - 2) / 4 + 1

def busSources (b : Nat) : List Nat := if b = 0 then [0, 1] else (List.range 4).map fun i => 4 * b - 2 + i

/-- The power setting of source `k` in 0.01 mW (R312): the committed value, limited by p_max, by p_probe until the full-power condition
holds, and to zero while the source is disabled or has no owner. -/
def State.laserPower (s : State) (k : Nat) : Nat :=
  let x := s.laser k
  if !s.bit WPORT_LSCFG.enable k || (s.ownerOf 15 k).isNone || s.lasers.shut.contains (laserBus k) || s.rd WPORT_LSSTAT.state k == 5 then 0
  else
    let want := (openQuot ((x.commit : Int) * 100) 65536).toNat
    let cap := min want (s.rd WPORT_LSCFG.p_max k * 100)
    if x.lit then cap else min cap (s.rd WPORT_LSCFG.p_probe k * 100)

/-- LS_PSET of source `k` as the T840 sets it (R312, R313): p_probe in an ALS reduction. -/
def State.lsPset (s : State) (k : Nat) : Nat := s.laserPower k

/-- LS_CTRL.emit of source `k` as the T840 sets it (R312, R313): 0 in a FAULT reduction, in SHUT, and at zero power. -/
def State.lsEmit (s : State) (k : Nat) : Bool := s.laserPower k != 0

/-- A value limited or reduced sets `limited` (R312). -/
def State.laserLimit (s : State) (k : Nat) : State :=
  if s.laserPower k < ((openQuot (((s.laser k).commit : Int) * 100) 65536).toNat) then s.wr WPORT_LSSTAT.limited k 1 else s

/-- The state that `WPORT_LSSTAT.state` shows outside a reduction: 0 OFF, 1 PROBE, 2 FULL. -/
def State.laserShow (s : State) (k : Nat) : State :=
  let st := s.rd WPORT_LSSTAT.state k
  let s := s.laserLimit k
  if st = 3 ∨ st = 4 ∨ st = 5 then s
  else if s.laserPower k = 0 then s.wr WPORT_LSSTAT.state k 0
  else if (s.laser k).lit then s.wr WPORT_LSSTAT.state k 2 else s.wr WPORT_LSSTAT.state k 1

/-- The state that `WPORT_LSSTAT.state` shows: a source whose power is zero for want of an owner reads OFF at once. -/
def State.laserState (s : State) (k : Nat) : Nat :=
  let st := s.rd WPORT_LSSTAT.state k
  if st = 3 ∨ st = 4 ∨ st = 5 then st
  else if s.laserPower k = 0 then 0
  else if (s.laser k).lit then 2 else 1

/-- A port fed by source `k` is LINKED (R316). -/
def State.feedsLinked (s : State) (k : Nat) : Bool :=
  if k < 2 then (List.range 4).any (fun i => s.linked (4 * k + i)) || s.bit TWIN_STAT.link 0
  else s.linked ((k - 2) / 2)

/-- A kind-15 commit (R312, R316): 0 is not applied while the fed port is LINKED. -/
def State.laserCommit (s : State) (k v : Nat) : State :=
  if v = 0 ∧ s.feedsLinked k = true then s.wr WPORT_LSSTAT.refused k 1
  else (s.setLaser k { s.laser k with commit := v }).laserShow k

/-- The source number of Table 20-2 for an event about a laser source. -/
def laserSrc (k : Nat) : Nat := if k < 2 then Src.ports else Src.ward ((k - 2) / 2)

/-- A FAULT reduction (Table 13-5, R313): LS_CTRL.emit written 0. -/
def State.laserFault (s : State) (k stat : Nat) : State :=
  if s.rd WPORT_LSSTAT.state k = 5 ∨ s.rd WPORT_LSSTAT.state k = 4 then s
  else ((s.setLaser k { s.laser k with reduced := some (s.bootUs, true) }).wr WPORT_LSSTAT.state k 5).record Ev.WARD_LASER_FAULT (laserSrc k) [k, stat]

/-- The LSOFFn# of a bus is asserted and every source on it is SHUT (R313). -/
def State.busShut (s : State) (k : Nat) : State :=
  let b := laserBus k
  let s := each (busSources b) (fun j s => (s.setLaser j { s.laser j with reduced := none }).wr WPORT_LSSTAT.state j 4) s
  { s with lasers := { s.lasers with shut := b :: s.lasers.shut.filter (· != b) } }.record Ev.WARD_LASER_SHUT Src.ports [b, k]

/-- LSOFFn# of a bus is asserted (R314); it is released while PORST# is asserted (Table 2-7). -/
def State.lsOff (s : State) (b : Nat) : Bool :=
  s.alive && (s.lasers.shut.contains b || s.secure.handedAt.isNone || !(busSources b).any fun k => s.bit WPORT_LSCFG.enable k)

end Sys2Proof.Machine
end

