-- ==== Sys2Proof/Machine/ZitherOps.lean ====
section
/-!
DEFINITION. The zither sequencer's operations: checks, start of a run, abort, all-OFF, release of the pads (07).
-/
namespace Sys2Proof.Machine

def State.zent (s : State) (k : Nat) : ZEntry := Tab.get {} s.zither.entries k
def State.setZent (s : State) (k : Nat) (e : ZEntry) : State :=
  { s with zither := { s.zither with entries := Tab.set {} s.zither.entries k e } }
def State.zgrp (s : State) (g : Nat) : ZGroup := Tab.get {} s.zither.groups g
def State.setZgrp (s : State) (g : Nat) (v : ZGroup) : State :=
  { s with zither := { s.zither with groups := Tab.set {} s.zither.groups g v } }

/-- The state of group `g`: 0 OFF, 1 UP, 2 ON, 3 DOWN, 4 DWELL (Table 7-11). -/
def State.gstate (s : State) (g : Nat) : Nat := s.rd ZIT_GSTAT.state g

/-- Entry `k` is valid and belongs to group `g` (R152). -/
def State.inGroup (s : State) (g k : Nat) : Bool := s.bit ZIT_EW0.valid k && s.rd ZIT_EW0.group k == g

/-- The valid entries of a group in ascending order. -/
def State.groupEntries (s : State) (g : Nat) : List Nat := (List.range 256).filter (s.inGroup g)

/-- The entry has a good source. -/
def State.hasSource (s : State) (k : Nat) : Bool := s.rd ZIT_EW0.pg_src k != 0

/-- The window that judges entry `k`. -/
def State.entryWindow (s : State) (k : Nat) : Nat := 2 * s.rd ZIT_EW0.win_chan k + s.rd ZIT_EW0.win_w k

/-- The good condition of entry `k` by its pg_src (R160). -/
def State.goodCond (s : State) (k : Nat) : Bool :=
  let pin := s.zither.pgHigh.contains (s.rd ZIT_EW0.pg_pin k)
  let x := s.entryWindow k
  let win := (s.active x).arm && !s.level x 2 && !s.level x 0 && !s.bit SNS_CHSTAT.fault (s.rd ZIT_EW0.win_chan k)
  match s.rd ZIT_EW0.pg_src k with
  | 1 => pin
  | 2 => win
  | 3 => pin && win
  | _ => false

/-- The chatter watch of entry `e` of group `g` runs (R163): until 10 ms after its first good and 10 ms after the power-up
completes, the later; a power-up that has not completed leaves it running. -/
def State.watching (s : State) (g : Nat) (e : ZEntry) : Bool :=
  e.good && (decide (s.tick < e.goodAt + 10000) ||
    match (s.zgrp g).doneAt with
    | some t => decide (s.tick < t + 10000)
    | none => true)

/-- The good condition of one entry judged again: a change starts a new interval, judged by the rules in force at its start. -/
def State.judgeEntry (s : State) (k : Nat) : State :=
  let e := s.zent k
  let c := s.goodCond k
  if e.phase = 0 ∨ e.cond = c then s
  else s.setZent k
    { e with cond := c, condAt := s.tick, inWatch := s.watching (s.rd ZIT_EW0.group k) e, counted := false, lost := false }

/-- Every entry of a run judged again, after something its condition reads has changed. -/
def State.judgeEntries (s : State) : State := each (s.zither.entries.map (·.1)) (fun k s => s.judgeEntry k) s

/-- An entry's enabled dependencies. -/
def State.deps (s : State) (k : Nat) : List Nat :=
  (if s.bit ZIT_EW3.dep0_en k then [s.rd ZIT_EW3.dep0 k] else []) ++
  (if s.bit ZIT_EW3.dep1_en k then [s.rd ZIT_EW3.dep1 k] else [])

/-- Entries left when those whose dependencies are all outside the list are taken away `n` times over. -/
def State.stuckDeps (s : State) : Nat → List Nat → List Nat
  | 0, l => l
  | n + 1, l => s.stuckDeps n (l.filter fun k => (s.deps k).any l.contains)

/-- The first failure of Table 7-5 for group `g`, with its entry (0 where the failure names none); of a cycle, the first entry that depends on it
or lies in it (DESIGN CHOICE, log entry 80). -/
def State.groupCheck (s : State) (g : Nat) : Option (Nat × Nat) :=
  let es := s.groupEntries g
  let first (code : Nat) (p : Nat → Bool) : Option (Nat × Nat) := (es.find? p).map fun k => (code, k)
  let shared (k : Nat) : Bool := (List.range 256).any fun j =>
    j != k && s.bit ZIT_EW0.valid j && s.rd ZIT_EW0.en j == s.rd ZIT_EW0.en k
  let unjudged (k : Nat) : Bool := 2 ≤ s.rd ZIT_EW0.pg_src k &&
    (!s.bit SNS_CHCFG.enable (s.rd ZIT_EW0.win_chan k) || !(s.active (s.entryWindow k)).arm)
  first 1 shared
  <|> first 2 (fun k => (s.deps k).any fun d => !s.inGroup g d)
  <|> ((s.stuckDeps es.length es).head?.map fun k => (3, k))
  <|> first 4 unjudged
  <|> (if es.isEmpty then some (5, 0) else none)
  <|> (if s.bit ZIT_GSTAT.off_stuck g then some (6, 0) else none)

/-- The common start of a run at a tray-tick boundary. -/
def State.startAt (s : State) (g t : Nat) : State := (s.setZgrp g { s.zgrp g with start := t }).wr ZIT_GTICK.tick g t

/-- The common start of a run: the next tray-tick boundary (R157). -/
def State.setStart (s : State) (g : Nat) : State := s.startAt g (s.tick + 1)

/-- The common start of a run that is commanded: a lead takes the first boundary at least 2 µs ahead and tells the shadow (R492). -/
def State.setStartCmd (s : State) (g : Nat) (up : Bool) : State :=
  if s.leads then (s.startAt g (s.tick + 3)).tellTwin (.group (Fin.ofNat 16 g) up (BitVec.ofNat 64 (s.tick + 3))) else s.setStart g

/-- A power-up of group `g` about to start: checks, then the run or the refusal of R155. -/
def State.startUp (s : State) (g : Nat) : State :=
  let s := s.wr ZIT_GSTAT.up_pending g 0
  match s.groupCheck g with
  | some (code, k) =>
    (((s.wr ZIT_STAT.check_entry 0 k).wr ZIT_STAT.check_code 0 code).wr ZIT_GSTAT.cmd_status g St.refusedState).record
      Ev.SEQ_CHECK_FAIL Src.zither [g, k, code]
  | none =>
    let s := (s.wr ZIT_GSTAT.state g 1).setStartCmd g true
    let s := s.setZgrp g { s.zgrp g with doneAt := none, upStart := some (s.zgrp g).start }
    each (s.groupEntries g) (fun k s => s.setZent k { phase := 1, goodUs := (s.zent k).goodUs, cond := s.goodCond k, condAt := s.tick }) s

/-- No sequence may start (R58, R154): a power-on reset is pending, the T840 is inert or held for board test,
or acts as shadow (Table 21-3). -/
def State.noStart (s : State) : Bool := s.part.pendingPor.isSome || s.bit SEC_BOOT.inert 0 || s.part.straps.bootHold || s.shadow_

/-- A power-up that waits for admission, or starts now (R158). -/
def State.upOrPend (s : State) (g : Nat) : State :=
  if s.admitted then s.startUp g else s.wr ZIT_GSTAT.up_pending g 1

/-- All-OFF of a group in DOWN (R166): the record and the off dwell, once every entry is off. -/
def State.checkOff (s : State) (g : Nat) : State :=
  if s.gstate g = 3 ∧ (s.groupEntries g).all (fun k => (s.zent k).phase == 0) then
    ((s.setZgrp g { s.zgrp g with dwellEnd := s.tick + s.rd ZIT_GCTL.t_off_min g * 1000 }).wr ZIT_GSTAT.state g 4).record
      Ev.SEQ_DOWN_DONE Src.zither [g, s.rd ZIT_GSTAT.abort_cause g, s.tick - (s.zgrp g).start]
  else s

/-- The power-down of a group in UP or ON with a cause of Table 7-7: entries not yet due are cancelled (R165). With no entry that decided it,
abort_entry stays (DESIGN CHOICE, log entry 80). -/
def State.goDown (s : State) (g cause : Nat) : State :=
  if s.gstate g = 1 ∨ s.gstate g = 2 then
    let s := (s.wr ZIT_GSTAT.state g 3).wr ZIT_GSTAT.abort_cause g cause
    let s := if cause = 0 ∨ cause = 8 ∨ cause = 9 then s.setStartCmd g false else s.setStart g
    let s := each (s.groupEntries g) (fun k s => if (s.zent k).phase = 1 then s.setZent k { s.zent k with phase := 0 } else s) s
    s.checkOff g
  else s

/-- An abort cause that is decided at a tray-tick boundary (R161, R164). -/
def boundaryCause (c : Nat) : Bool := c == 1 || c == 4 || c == 5

/-- The abort cause of an entry is decided in the cycle that decided the group's abort (R165): both at one boundary, or as the free value says
of a tick. -/
def State.oneCycle (s : State) (g cause : Nat) : Bool :=
  let c := s.rd ZIT_GSTAT.abort_cause g
  (s.zgrp g).decided == some s.tick && 1 ≤ c && c ≤ 5 && ((boundaryCause c && boundaryCause cause) || Config.sameCycle s.tick g)

/-- The cause and the entry that an abort names. -/
def State.nameAbort (s : State) (g cause k : Nat) : State :=
  ((s.setZent k { s.zent k with fault := cause }).wr ZIT_GSTAT.abort_entry g k).setZgrp g { s.zgrp g with decided := some s.tick }

/-- The abort of a group by entry `k`; of causes decided in one cycle the lowest is kept (R165); a group in DOWN keeps its schedule (R167). -/
def State.abort (s : State) (g cause k : Nat) : State :=
  if s.gstate g = 1 ∨ s.gstate g = 2 then
    ((s.nameAbort g cause k).goDown g cause).tellTwin (.abort (Fin.ofNat 16 g) (BitVec.ofNat 4 cause) (BitVec.ofNat 8 k))
  else if s.gstate g = 3 ∧ s.oneCycle g cause = true ∧ cause < s.rd ZIT_GSTAT.abort_cause g then
    let old := s.rd ZIT_GSTAT.abort_entry g
    ((s.setZent old { s.zent old with fault := 0 }).nameAbort g cause k).wr ZIT_GSTAT.abort_cause g cause
  else s

/-- The effect of a power-up command on a group (Table 7-6): of a group in OFF the checks come first, whether or not the input is
admitted. -/
def State.powerUp (s : State) (g : Nat) : State :=
  let t := s.wr ZIT_GSTAT.cmd_status g St.ok
  if s.noStart then s.wr ZIT_GSTAT.cmd_status g St.refusedState
  else match s.gstate g with
    | 0 => if t.admitted ∨ (t.groupCheck g).isSome then t.startUp g else t.wr ZIT_GSTAT.up_pending g 1
    | 3 => t.wr ZIT_GSTAT.up_pending g 1
    | 4 => t.wr ZIT_GSTAT.up_pending g 1
    | _ => t

/-- The effect of a power-down command on a group (Table 7-6). -/
def State.powerDown (s : State) (g : Nat) : State :=
  let t := s.wr ZIT_GSTAT.cmd_status g St.ok
  match s.gstate g with
  | 1 => t.goDown g 9
  | 2 => t.goDown g 0
  | 4 => t.wr ZIT_GSTAT.up_pending g 0
  | _ => t

/-- The groups that a release of the pads takes down, as a mask (R168). -/
def State.runMask (s : State) : Nat :=
  ((List.range 16).map fun g => if 1 ≤ s.gstate g ∧ s.gstate g ≤ 3 then 2 ^ g else 0).sum

/-- Every EN pad released, every run cancelled, every dwell restarted (R168 steps 1 to 4). -/
def State.releasePads (s : State) : State :=
  let s := { s with zither := { s.zither with released := true, redriveFrom := none } }
  let s := each (s.zither.entries.map (·.1)) (fun k s => s.setZent k { s.zent k with phase := 0, on := false }) s
  each (List.range 16) (fun g s =>
    if s.gstate g = 0 then s else
      let s := if s.gstate g = 4 then s else s.wr ZIT_GSTAT.abort_cause g 6
      (s.setZgrp g { s.zgrp g with dwellEnd := s.tick + s.rd ZIT_GCTL.t_off_min g * 1000 }).wr ZIT_GSTAT.state g 4) s

/-- The entries that are on, fell due before this boundary, are low now and have not been judged so: entry, cause, rule or object, one for each
of the two causes that holds. -/
def State.newDrops (s : State) : List (Nat × Nat × Nat) :=
  s.zither.entries.flatMap fun (k, e) =>
    let n := s.rd ZIT_EW0.en k
    if e.on && s.enDropped n && !e.dropSeen && decide (e.onAt < s.tick) then
      ((s.ruleDropping n).map fun r => (k, 4, Src.rule r)).toList ++ ((s.requests 8 n).head?.map fun q => (k, 5, q.1)).toList
    else []

/-- The EN drops judged at a tray-tick boundary (R164): each is recorded once, and a group in UP or ON is aborted with the lowest
cause found (R165). -/
def State.judgeDrops (s : State) : State :=
  let drops := s.newDrops
  let s := each (s.zither.entries.map (·.1)) (fun k s =>
    s.setZent k { s.zent k with dropSeen := (s.zent k).on && s.enDropped (s.rd ZIT_EW0.en k) }) s
  let s := each drops (fun d s => s.record Ev.SEQ_EN_DROPPED Src.zither [s.rd ZIT_EW0.group d.1, d.1, d.2.2]) s
  let s := each (drops.filter (·.2.1 == 4)) (fun d s => s.abort (s.rd ZIT_EW0.group d.1) 4 d.1) s
  each (drops.filter (·.2.1 == 5)) (fun d s => s.abort (s.rd ZIT_EW0.group d.1) 5 d.1) s

/-- The entry status word of Table 7-8. -/
def State.estat (s : State) (k : Nat) : Nat :=
  let e := s.zent k
  2 ^ 29 * e.phase + 2 ^ 20 * min 15 e.chatters + 2 ^ 16 * e.fault + e.goodUs

end Sys2Proof.Machine
end

