-- ==== Sys2Proof/Machine/SetOps.lean ====
section
/-!
DEFINITION. The compatible set that runs: its manifest's entries, its components in the store flash, its tray descriptor (19).
-/
namespace Sys2Proof.Machine

/-- The digest by which an event names a die: the first 4 bytes of the SHA-384 of its die_id, as a little-endian number (R386). -/
def dieDigest (die : Nat) : Nat := ((List.range 4).map fun i => (sha384 (leBytes 16 die)).toNat / 256 ^ (47 - i) % 256 * 256 ^ i).sum

/-- A component of the store flash directory by digest. -/
def State.stored (s : State) (d : BitVec 384) : Option Component := s.secure.store.find? (·.digest == d)

/-- The entries of a manifest by type. -/
def entriesOf (m : Manifest) (t : Nat) : List Entry := m.entries.filter fun e => e.type.toNat == t

/-- The current entry of a type and ward type. -/
def entryOf (m : Manifest) (t : Nat) (wt : BitVec 32) : Option Entry :=
  m.entries.find? fun e => e.type.toNat == t && !e.carried && e.wardType == wt

/-- The wards a tray descriptor declares. -/
def trayWards : Content → List TrayWard
  | .tray l _ _ _ => l
  | _ => []

/-- The branches that it declares. -/
def trayBranches : Content → List TrayBranch
  | .tray _ _ _ l => l
  | _ => []

def trayStagger : Content → Nat
  | .tray _ n _ _ => n.toNat
  | _ => 10

def trayTest : Content → Bool
  | .tray _ _ b _ => b
  | _ => false

/-- The tray descriptor of a manifest. -/
def State.trayOf (s : State) (m : Manifest) : Option Content :=
  ((entryOf m 5 0).bind fun e => s.stored e.digest).map (·.content)

/-- The tray descriptor of the active set (R338). -/
def State.tray (s : State) : Option Content := s.secure.set.bind s.trayOf

/-- What the active tray descriptor declares of ward `w`. -/
def State.trayWard (s : State) (w : Nat) : Option TrayWard := (s.tray.map trayWards).bind fun l => l.find? (·.ward.val == w)

/-- The component of ward type `wt` in the active set: type 6 image, type 7 pattern set. -/
def State.wardPart (s : State) (t : Nat) (wt : BitVec 32) : Option Component :=
  s.secure.set.bind fun m => (entryOf m t wt).bind fun e => s.stored e.digest

/-- The steppings a ward firmware component declares, and its base_min (R369). -/
def wardSteppings : Content → List (BitVec 32)
  | .ward _ l _ => l
  | _ => []
def wardBase : Content → Nat
  | .ward _ _ n => n.toNat
  | _ => 0

/-- The set_id, resp_len and stim_len of a pattern set (Table 14-7). -/
def patternIds : Content → Nat × Nat × Nat
  | .patterns l => (recNum l 0x08 2, recNum l 0x0C 4, recNum l 0x10 8)
  | _ => (0, 0, 0)

/-- A leak latch stands for ward `w` (R293, R294): its branch object holds off the first-off EN of its group. -/
def State.leakStands (s : State) (w : Nat) : Bool :=
  match (s.groupEntries w).foldl (fun best k =>
      match best with
      | none => some k
      | some b => if s.rd ZIT_EW1.off_delay k < s.rd ZIT_EW1.off_delay b then some k else best) none with
  | some k => s.requested 8 (s.rd ZIT_EW0.en k)
  | none => false

end Sys2Proof.Machine
end

