-- ==== Sys2Proof/Machine/EngineCode.lean ====
section
/-!
DEFINITION. The loop engine's instruction words: the formats of Table 6-3, the opcodes, operand fields and cycle counts of
Table 6-4, the decoder (a non-zero reserved field and a reserved opcode decode to none, R138, R139) and the encoder.
-/
namespace Sys2Proof.Machine

/-- A loop-engine instruction (Table 6-4). -/
inductive EngOp where
  | nop
  | add (rd ra rb : BitVec 4)
  | sub (rd ra rb : BitVec 4)
  | addw (rd ra rb : BitVec 4)
  | subw (rd ra rb : BitVec 4)
  | mul (rd ra rb : BitVec 4)
  | imul (rd ra rb : BitVec 4)
  | div (rd ra rb : BitVec 4)
  | min (rd ra rb : BitVec 4)
  | max (rd ra rb : BitVec 4)
  | lim (rd ra rb : BitVec 4)
  | flt (rd ra rb : BitVec 4)
  | mac (rd ra rb : BitVec 4)
  | and (rd ra rb : BitVec 4)
  | or (rd ra rb : BitVec 4)
  | xor (rd ra rb : BitVec 4)
  | shl (rd ra rb : BitVec 4)
  | shr (rd ra rb : BitVec 4)
  | sar (rd ra rb : BitVec 4)
  | abs (rd ra : BitVec 4)
  | neg (rd ra : BitVec 4)
  | addi (rd ra : BitVec 4) (imm : BitVec 18)
  | andi (rd ra : BitVec 4) (imm : BitVec 18)
  | ori (rd ra : BitVec 4) (imm : BitVec 18)
  | xori (rd ra : BitVec 4) (imm : BitVec 18)
  | shli (rd ra : BitVec 4) (n : BitVec 5)
  | shri (rd ra : BitVec 4) (n : BitVec 5)
  | sari (rd ra : BitVec 4) (n : BitVec 5)
  | ldh (rd : BitVec 4) (imm : BitVec 16)
  | ldp (rd ra : BitVec 4) (off : BitVec 18)
  | stp (rd ra : BitVec 4) (off : BitVec 18)
  | ldc (rd ra : BitVec 4) (off : BitVec 18)
  | stc (rd ra : BitVec 4) (off : BitVec 18)
  | ldk (rd : BitVec 4) (addr : BitVec 10)
  | rd (rd slot sel : BitVec 4)
  | wr (slot ra : BitVec 4)
  | wpr (slot ra : BitVec 4)
  | evt (code : BitVec 16) (ra rb : BitVec 4)
  | mbx (tag : BitVec 8) (ra : BitVec 4)
  | rdst (rd sel : BitVec 4)
  | tset (tm : BitVec 2) (ra : BitVec 4)
  | tseti (tm : BitVec 2) (imm : BitVec 18)
  | trd (rd : BitVec 4) (tm : BitVec 2)
  | jal (target : BitVec 10)
  | jr (ra : BitVec 4)
  | beq (ra rb : BitVec 4) (target : BitVec 10)
  | bne (ra rb : BitVec 4) (target : BitVec 10)
  | blt (ra rb : BitVec 4) (target : BitVec 10)
  | bge (ra rb : BitVec 4) (target : BitVec 10)
  | jmp (target : BitVec 10)
  | btx (tm : BitVec 2) (target : BitVec 10)
  | bst (bit : BitVec 4) (target : BitVec 10)
  | yld
deriving DecidableEq, Repr

/-- The instruction of a word; only a field that Table 6-3 or Table 6-4 calls reserved, or says to be 0, must be zero (R138). -/
def decodeOp (w : Word) : Option EngOp :=
  let a := w.extractLsb' 22 4
  let b := w.extractLsb' 18 4
  let c := w.extractLsb' 14 4
  let op (g : Bool) (i : EngOp) : Option EngOp := if g then some i else none
  match (w.extractLsb' 26 6).toNat with
  | 0x00 => op (w.extractLsb' 0 26 == 0) (.nop)
  | 0x01 => op (w.extractLsb' 0 14 == 0) (.add a b c)
  | 0x02 => op (w.extractLsb' 0 14 == 0) (.sub a b c)
  | 0x03 => op (w.extractLsb' 0 14 == 0) (.addw a b c)
  | 0x04 => op (w.extractLsb' 0 14 == 0) (.subw a b c)
  | 0x05 => op (w.extractLsb' 0 14 == 0) (.mul a b c)
  | 0x06 => op (w.extractLsb' 0 14 == 0) (.imul a b c)
  | 0x07 => op (w.extractLsb' 0 14 == 0) (.div a b c)
  | 0x08 => op (w.extractLsb' 0 14 == 0) (.min a b c)
  | 0x09 => op (w.extractLsb' 0 14 == 0) (.max a b c)
  | 0x0C => op (w.extractLsb' 0 14 == 0) (.lim a b c)
  | 0x0D => op (w.extractLsb' 0 14 == 0) (.flt a b c)
  | 0x0E => op (w.extractLsb' 0 14 == 0) (.mac a b c)
  | 0x0F => op (w.extractLsb' 0 14 == 0) (.and a b c)
  | 0x10 => op (w.extractLsb' 0 14 == 0) (.or a b c)
  | 0x11 => op (w.extractLsb' 0 14 == 0) (.xor a b c)
  | 0x12 => op (w.extractLsb' 0 14 == 0) (.shl a b c)
  | 0x13 => op (w.extractLsb' 0 14 == 0) (.shr a b c)
  | 0x14 => op (w.extractLsb' 0 14 == 0) (.sar a b c)
  | 0x0A => op (w.extractLsb' 0 18 == 0) (.abs a b)
  | 0x0B => op (w.extractLsb' 0 18 == 0) (.neg a b)
  | 0x18 => op (true) (.addi a b (w.extractLsb' 0 18))
  | 0x19 => op (true) (.andi a b (w.extractLsb' 0 18))
  | 0x1A => op (true) (.ori a b (w.extractLsb' 0 18))
  | 0x1B => op (true) (.xori a b (w.extractLsb' 0 18))
  | 0x1C => op (w.extractLsb' 5 13 == 0) (.shli a b (w.extractLsb' 0 5))
  | 0x1D => op (w.extractLsb' 5 13 == 0) (.shri a b (w.extractLsb' 0 5))
  | 0x1E => op (w.extractLsb' 5 13 == 0) (.sari a b (w.extractLsb' 0 5))
  | 0x1F => op (b == 0 && w.extractLsb' 16 2 == 0) (.ldh a (w.extractLsb' 0 16))
  | 0x20 => op (true) (.ldp a b (w.extractLsb' 0 18))
  | 0x21 => op (true) (.stp a b (w.extractLsb' 0 18))
  | 0x22 => op (true) (.ldc a b (w.extractLsb' 0 18))
  | 0x23 => op (true) (.stc a b (w.extractLsb' 0 18))
  | 0x24 => op (b == 0 && w.extractLsb' 10 8 == 0) (.ldk a (w.extractLsb' 0 10))
  | 0x28 => op (b == 0 && w.extractLsb' 0 10 == 0) (.rd a c (w.extractLsb' 10 4))
  | 0x29 => op (a == 0 && w.extractLsb' 0 14 == 0) (.wr c b)
  | 0x2A => op (w.extractLsb' 0 10 == 0) (.wpr c b)
  | 0x2B => op (w.extractLsb' 16 2 == 0) (.evt (w.extractLsb' 0 16) a b)
  | 0x2C => op (b == 0 && w.extractLsb' 8 10 == 0) (.mbx (w.extractLsb' 0 8) a)
  | 0x2D => op (b == 0 && c == 0 && w.extractLsb' 0 10 == 0) (.rdst a (w.extractLsb' 10 4))
  | 0x30 => op (w.extractLsb' 24 2 == 0 && w.extractLsb' 0 18 == 0) (.tset (w.extractLsb' 22 2) b)
  | 0x31 => op (w.extractLsb' 24 2 == 0 && b == 0) (.tseti (w.extractLsb' 22 2) (w.extractLsb' 0 18))
  | 0x32 => op (w.extractLsb' 20 2 == 0 && w.extractLsb' 0 18 == 0) (.trd a (w.extractLsb' 18 2))
  | 0x34 => op (w.extractLsb' 10 8 == 0) (.jal (w.extractLsb' 0 10))
  | 0x35 => op (w.extractLsb' 0 18 == 0) (.jr a)
  | 0x38 => op (w.extractLsb' 10 8 == 0) (.beq a b (w.extractLsb' 0 10))
  | 0x39 => op (w.extractLsb' 10 8 == 0) (.bne a b (w.extractLsb' 0 10))
  | 0x3A => op (w.extractLsb' 10 8 == 0) (.blt a b (w.extractLsb' 0 10))
  | 0x3B => op (w.extractLsb' 10 8 == 0) (.bge a b (w.extractLsb' 0 10))
  | 0x3C => op (w.extractLsb' 10 8 == 0) (.jmp (w.extractLsb' 0 10))
  | 0x3D => op (w.extractLsb' 24 2 == 0 && w.extractLsb' 10 8 == 0) (.btx (w.extractLsb' 22 2) (w.extractLsb' 0 10))
  | 0x3E => op (w.extractLsb' 10 8 == 0) (.bst a (w.extractLsb' 0 10))
  | 0x3F => op (w.extractLsb' 0 26 == 0) (.yld)
  | _ => none

/-- The word of an instruction, a field without use zero. -/
def encodeOp : EngOp → Word
  | .nop => 0x00#6 ++ (0#26)
  | .add rd ra rb => 0x01#6 ++ (rd ++ ra ++ rb ++ 0#14)
  | .sub rd ra rb => 0x02#6 ++ (rd ++ ra ++ rb ++ 0#14)
  | .addw rd ra rb => 0x03#6 ++ (rd ++ ra ++ rb ++ 0#14)
  | .subw rd ra rb => 0x04#6 ++ (rd ++ ra ++ rb ++ 0#14)
  | .mul rd ra rb => 0x05#6 ++ (rd ++ ra ++ rb ++ 0#14)
  | .imul rd ra rb => 0x06#6 ++ (rd ++ ra ++ rb ++ 0#14)
  | .div rd ra rb => 0x07#6 ++ (rd ++ ra ++ rb ++ 0#14)
  | .min rd ra rb => 0x08#6 ++ (rd ++ ra ++ rb ++ 0#14)
  | .max rd ra rb => 0x09#6 ++ (rd ++ ra ++ rb ++ 0#14)
  | .lim rd ra rb => 0x0C#6 ++ (rd ++ ra ++ rb ++ 0#14)
  | .flt rd ra rb => 0x0D#6 ++ (rd ++ ra ++ rb ++ 0#14)
  | .mac rd ra rb => 0x0E#6 ++ (rd ++ ra ++ rb ++ 0#14)
  | .and rd ra rb => 0x0F#6 ++ (rd ++ ra ++ rb ++ 0#14)
  | .or rd ra rb => 0x10#6 ++ (rd ++ ra ++ rb ++ 0#14)
  | .xor rd ra rb => 0x11#6 ++ (rd ++ ra ++ rb ++ 0#14)
  | .shl rd ra rb => 0x12#6 ++ (rd ++ ra ++ rb ++ 0#14)
  | .shr rd ra rb => 0x13#6 ++ (rd ++ ra ++ rb ++ 0#14)
  | .sar rd ra rb => 0x14#6 ++ (rd ++ ra ++ rb ++ 0#14)
  | .abs rd ra => 0x0A#6 ++ (rd ++ ra ++ 0#18)
  | .neg rd ra => 0x0B#6 ++ (rd ++ ra ++ 0#18)
  | .addi rd ra imm => 0x18#6 ++ (rd ++ ra ++ imm)
  | .andi rd ra imm => 0x19#6 ++ (rd ++ ra ++ imm)
  | .ori rd ra imm => 0x1A#6 ++ (rd ++ ra ++ imm)
  | .xori rd ra imm => 0x1B#6 ++ (rd ++ ra ++ imm)
  | .shli rd ra n => 0x1C#6 ++ (rd ++ ra ++ 0#13 ++ n)
  | .shri rd ra n => 0x1D#6 ++ (rd ++ ra ++ 0#13 ++ n)
  | .sari rd ra n => 0x1E#6 ++ (rd ++ ra ++ 0#13 ++ n)
  | .ldh rd imm => 0x1F#6 ++ (rd ++ 0#4 ++ 0#2 ++ imm)
  | .ldp rd ra off => 0x20#6 ++ (rd ++ ra ++ off)
  | .stp rd ra off => 0x21#6 ++ (rd ++ ra ++ off)
  | .ldc rd ra off => 0x22#6 ++ (rd ++ ra ++ off)
  | .stc rd ra off => 0x23#6 ++ (rd ++ ra ++ off)
  | .ldk rd addr => 0x24#6 ++ (rd ++ 0#4 ++ 0#8 ++ addr)
  | .rd rd slot sel => 0x28#6 ++ (rd ++ 0#4 ++ slot ++ sel ++ 0#10)
  | .wr slot ra => 0x29#6 ++ (0#4 ++ ra ++ slot ++ 0#14)
  | .wpr slot ra => 0x2A#6 ++ (0#4 ++ ra ++ slot ++ 0#14)
  | .evt code ra rb => 0x2B#6 ++ (ra ++ rb ++ 0#2 ++ code)
  | .mbx tag ra => 0x2C#6 ++ (ra ++ 0#4 ++ 0#10 ++ tag)
  | .rdst rd sel => 0x2D#6 ++ (rd ++ 0#4 ++ 0#4 ++ sel ++ 0#10)
  | .tset tm ra => 0x30#6 ++ (0#2 ++ tm ++ ra ++ 0#18)
  | .tseti tm imm => 0x31#6 ++ (0#2 ++ tm ++ 0#4 ++ imm)
  | .trd rd tm => 0x32#6 ++ (rd ++ 0#2 ++ tm ++ 0#18)
  | .jal target => 0x34#6 ++ (0#16 ++ target)
  | .jr ra => 0x35#6 ++ (ra ++ 0#22)
  | .beq ra rb target => 0x38#6 ++ (ra ++ rb ++ 0#8 ++ target)
  | .bne ra rb target => 0x39#6 ++ (ra ++ rb ++ 0#8 ++ target)
  | .blt ra rb target => 0x3A#6 ++ (ra ++ rb ++ 0#8 ++ target)
  | .bge ra rb target => 0x3B#6 ++ (ra ++ rb ++ 0#8 ++ target)
  | .jmp target => 0x3C#6 ++ (0#16 ++ target)
  | .btx tm target => 0x3D#6 ++ (0#2 ++ tm ++ 0#12 ++ target)
  | .bst bit target => 0x3E#6 ++ (bit ++ 0#12 ++ target)
  | .yld => 0x3F#6 ++ (0#26)

/-- The bits of a word that tell its instruction. The tables leave fields of six instructions without use and without calling them
reserved; DEDUCED: such a field may hold anything (log entry 5). -/
def EngOp.used : EngOp → Word
  | .wpr _ _ => 0xFC3FC3FF
  | .jal _ => 0xFC03FFFF
  | .jmp _ => 0xFC03FFFF
  | .jr _ => 0xFFC3FFFF
  | .btx _ _ => 0xFFC3FFFF
  | .bst _ _ => 0xFFC3FFFF
  | _ => 0xFFFFFFFF

/-- The cycles of an instruction; a branch costs one more when taken (Table 6-4). -/
def EngOp.cycles : EngOp → Nat
  | .mul _ _ _ => 2
  | .imul _ _ _ => 2
  | .div _ _ _ => 12
  | .flt _ _ _ => 3
  | .mac _ _ _ => 2
  | .ldp _ _ _ => 2
  | .ldc _ _ _ => 4
  | .ldk _ _ => 2
  | .jal _ => 2
  | .jr _ => 2
  | .jmp _ => 2
  | _ => 1

/-- The engine registers an instruction reads, of which every read is checked for parity (R148): 1 to 15 the general registers, 16 the
flags, 17 to 20 the timers. -/
def EngOp.reads : EngOp → List Nat
  | .add _ ra rb => [ra.toNat, rb.toNat]
  | .sub _ ra rb => [ra.toNat, rb.toNat]
  | .addw _ ra rb => [ra.toNat, rb.toNat]
  | .subw _ ra rb => [ra.toNat, rb.toNat]
  | .mul _ ra rb => [ra.toNat, rb.toNat]
  | .imul _ ra rb => [ra.toNat, rb.toNat]
  | .div _ ra rb => [ra.toNat, rb.toNat]
  | .min _ ra rb => [ra.toNat, rb.toNat]
  | .max _ ra rb => [ra.toNat, rb.toNat]
  | .lim d ra rb => [d.toNat, ra.toNat, rb.toNat]
  | .flt d ra rb => [d.toNat, ra.toNat, rb.toNat]
  | .mac d ra rb => [d.toNat, ra.toNat, rb.toNat]
  | .and _ ra rb => [ra.toNat, rb.toNat]
  | .or _ ra rb => [ra.toNat, rb.toNat]
  | .xor _ ra rb => [ra.toNat, rb.toNat]
  | .shl _ ra rb => [ra.toNat, rb.toNat]
  | .shr _ ra rb => [ra.toNat, rb.toNat]
  | .sar _ ra rb => [ra.toNat, rb.toNat]
  | .abs _ ra => [ra.toNat]
  | .neg _ ra => [ra.toNat]
  | .addi _ ra _ => [ra.toNat]
  | .andi _ ra _ => [ra.toNat]
  | .ori _ ra _ => [ra.toNat]
  | .xori _ ra _ => [ra.toNat]
  | .shli _ ra _ => [ra.toNat]
  | .shri _ ra _ => [ra.toNat]
  | .sari _ ra _ => [ra.toNat]
  | .ldp _ ra _ => [ra.toNat]
  | .stp d ra _ => [d.toNat, ra.toNat]
  | .ldc _ ra _ => [ra.toNat]
  | .stc d ra _ => [d.toNat, ra.toNat]
  | .wr _ ra => [ra.toNat]
  | .wpr _ ra => [ra.toNat]
  | .evt _ ra rb => [ra.toNat, rb.toNat]
  | .mbx _ ra => [ra.toNat]
  | .tset _ ra => [ra.toNat]
  | .trd _ tm => [17 + tm.toNat]
  | .jr ra => [ra.toNat]
  | .beq ra rb _ => [ra.toNat, rb.toNat]
  | .bne ra rb _ => [ra.toNat, rb.toNat]
  | .blt ra rb _ => [ra.toNat, rb.toNat]
  | .bge ra rb _ => [ra.toNat, rb.toNat]
  | .btx tm _ => [17 + tm.toNat]
  | .bst _ _ => [16]
  | _ => []

end Sys2Proof.Machine
end

