-- ==== Sys2Proof/Machine/Alu.lean ====
section
/-!
DEFINITION. The arithmetic of a loop engine (R133, R134, R139): each operation gives the result word and whether it was clamped.
-/
namespace Sys2Proof.Machine

/-- A result and its Q flag. -/
abbrev Res := Word × Bool

/-- An exact result clamped to the range of a 32-bit signed word (R133). -/
def Res.sat (i : Int) : Res :=
  if i < -2147483648 then (0x80000000#32, true)
  else if 2147483647 < i then (0x7FFFFFFF#32, true)
  else (BitVec.ofInt 32 i, false)

/-- A result that never saturates (R134). -/
def Res.plain (w : Word) : Res := (w, false)

/-- The Q16.16 product rounded to nearest, ties toward positive infinity (MUL of R134). -/
def mulRound (a b : Int) : Int := (a * b + 32768) / 65536

/-- DIV of R134: truncated toward zero, with its results for a zero divisor. -/
def aluDiv (a b : Int) : Res :=
  if b = 0 then
    if 0 < a then (0x7FFFFFFF#32, true) else if a < 0 then (0x80000000#32, true) else (0#32, true)
  else Res.sat (Int.tdiv (a * 65536) b)

/-- LIM of Table 6-4: min(max(d, a), b), signed; Q when d changed. -/
def aluLim (d a b : Word) : Res :=
  let m := if d.slt a then a else d
  let r := if b.slt m then b else m
  (r, r != d)

/-- The result of an instruction of the arithmetic, logic and shift families, from the values of its rd, ra and rb registers. -/
def EngOp.alu : EngOp → Word → Word → Word → Option Res
  | .add _ _ _, _, a, b => some (Res.sat (a.toInt + b.toInt))
  | .sub _ _ _, _, a, b => some (Res.sat (a.toInt - b.toInt))
  | .addw _ _ _, _, a, b => some (Res.plain (a + b))
  | .subw _ _ _, _, a, b => some (Res.plain (a - b))
  | .mul _ _ _, _, a, b => some (Res.sat (mulRound a.toInt b.toInt))
  | .imul _ _ _, _, a, b => some (Res.sat (a.toInt * b.toInt))
  | .div _ _ _, _, a, b => some (aluDiv a.toInt b.toInt)
  | .min _ _ _, _, a, b => some (Res.plain (if b.slt a then b else a))
  | .max _ _ _, _, a, b => some (Res.plain (if a.slt b then b else a))
  | .abs _ _, _, a, _ => some (Res.sat a.toInt.natAbs)
  | .neg _ _, _, a, _ => some (Res.sat (-a.toInt))
  | .lim _ _ _, d, a, b => some (aluLim d a b)
  | .flt _ _ _, d, a, b => some (Res.sat (d.toInt + mulRound (a.toInt - d.toInt) b.toInt))
  | .mac _ _ _, d, a, b => some (Res.sat (d.toInt + mulRound a.toInt b.toInt))
  | .and _ _ _, _, a, b => some (Res.plain (a &&& b))
  | .or _ _ _, _, a, b => some (Res.plain (a ||| b))
  | .xor _ _ _, _, a, b => some (Res.plain (a ^^^ b))
  | .shl _ _ _, _, a, b => some (Res.plain (a <<< (b.toNat % 32)))
  | .shr _ _ _, _, a, b => some (Res.plain (a >>> (b.toNat % 32)))
  | .sar _ _ _, _, a, b => some (Res.plain (a.sshiftRight (b.toNat % 32)))
  | .addi _ _ i, _, a, _ => some (Res.sat (a.toInt + i.toInt))
  | .andi _ _ i, _, a, _ => some (Res.plain (a &&& i.setWidth 32))
  | .ori _ _ i, _, a, _ => some (Res.plain (a ||| i.setWidth 32))
  | .xori _ _ i, _, a, _ => some (Res.plain (a ^^^ i.setWidth 32))
  | .shli _ _ n, _, a, _ => some (Res.plain (a <<< n.toNat))
  | .shri _ _ n, _, a, _ => some (Res.plain (a >>> n.toNat))
  | .sari _ _ n, _, a, _ => some (Res.plain (a.sshiftRight n.toNat))
  | .ldh _ i, _, _, _ => some (Res.plain (i ++ 0#16))
  | _, _, _, _ => none

end Sys2Proof.Machine
end

