-- ==== Sys2Proof/Machine/EngineOps.lean ====
section
/-!
DEFINITION. The loop engine as a machine: its memory, its program header, issuing an instruction, and what a fault or an
overrun undoes (05, 06).
-/
namespace Sys2Proof.Machine

/-! ## Shared memory (Table 5-1) -/

/-- The word of engine `n`'s private area at byte offset `off`, as a key of shared memory. -/
def privKey (n off : Nat) : Nat := n / 32 * 32768 + n % 32 * 512 + off / 4

/-- The word of the common area of engine `n`'s sett at byte offset `off`. -/
def commonKey (n off : Nat) : Nat := n / 32 * 32768 + 16384 + off / 4

def State.shWord (s : State) (k : Nat) : Word := Tab.get 0 s.setts.shmem k

/-- A shared-memory word written; its word of the word code is encoded again. -/
def State.setSh (s : State) (k : Nat) (v : Word) : State :=
  { s with setts := { s.setts with
      shmem := Tab.set 0 s.setts.shmem k v, sharedBad := Tab.upd 0 s.setts.sharedBad (k / 8) fun c => writeBad c (32 * (k % 8)) 32 } }

/-- What a read of shared-memory word `k` finds (R421). -/
def State.shFound (s : State) (k : Nat) : WordRead := (readBad (Tab.get 0 s.setts.sharedBad (k / 8))).1

/-- Shared-memory word `k` lies in an uncorrectable word. -/
def State.shBad (s : State) (k : Nat) : Bool := s.shFound k == .uncorrectable

/-- The bits of shared-memory word `k` that a read leaves wrong. -/
def State.shWrong (s : State) (k : Nat) : Word := (readBad (Tab.get 0 s.setts.sharedBad (k / 8))).2.extractLsb' (32 * (k % 8)) 32

/-- Shared-memory word `k` as a read gives it. -/
def State.shRead (s : State) (k : Nat) : Word := s.shWord k ^^^ s.shWrong k

/-- Corrected reads of shared memory are counted (Table 17-8). -/
def State.noteRead (s : State) (k : Nat) : State := if s.shFound k = .corrected then s.memCorr 5 else s

/-- Commit `a` stands against commit `b`: a later cycle, or the same cycle and the higher index, or the later store of one yield (R137). -/
def Commit.stands (a b : Commit) : Bool := b.cycle < a.cycle || (a.cycle == b.cycle && b.engine ≤ a.engine)

/-- The commit of a list that stands. -/
def standing (l : List Commit) : Option Commit :=
  l.foldl (fun m x => match m with
    | some y => if x.stands y then some x else m
    | none => some x) none

/-- The common-area word `k` as it stands in cycle `c`: with every store committed in an earlier cycle, and none of that cycle or a later one
(R137). -/
def State.commonAt (s : State) (k c : Nat) : Word :=
  match standing (s.setts.commits.filter fun x => x.key == k && decide (x.cycle < c)) with
  | some x => x.value
  | none => ((s.setts.before.find? fun b => b.1 == k).map (·.2)).getD (s.shWord k)

/-- A common-area store committed by a yield (R137): the word takes the value of the store that stands. -/
def State.commitStore (s : State) (x : Commit) : State :=
  let l := s.setts.commits ++ [x]
  let old := if s.setts.before.any (fun b => b.1 == x.key) then s.setts.before else (x.key, s.shWord x.key) :: s.setts.before
  let v := ((standing (l.filter fun y => y.key == x.key)).map (·.value)).getD x.value
  { s with setts := { s.setts with commits := l, before := old } }.setSh x.key v

/-- Every word of engine `n`'s private area at zero. -/
def State.clearPriv (s : State) (n : Nat) : State := upTo 512 (fun j s => s.setSh (privKey n 0 + j) 0) s

/-! ## The program image (R149, R150) -/

def Engine.word (e : Engine) (a : Nat) : Word := Tab.get 0 e.imem a
def Engine.field (e : Engine) (a lo w : Nat) : Nat := ((e.word a).extractLsb' lo w).toNat
def Engine.length (e : Engine) : Nat := e.field 1 16 11
def Engine.codeEnd (e : Engine) : Nat := e.field 1 0 11
def Engine.entry (e : Engine) : Nat := e.field 2 16 10
def Engine.nonmig (e : Engine) : Bool := e.field 2 31 1 == 1
def Engine.common (e : Engine) : Bool := e.field 2 30 1 == 1
def Engine.layout (e : Engine) : Nat := e.field 3 16 16
def Engine.accepts (e : Engine) : Nat := e.field 3 0 16
def Engine.progId (e : Engine) : Nat := e.field 6 16 16
def Engine.progVer (e : Engine) : Nat := e.field 6 0 16

/-- One bit of a CRC-32 with the IEEE 802.3 polynomial, least significant bit first. -/
def crcBit (c : Word) : Word := if c.getLsbD 0 then (c >>> 1) ^^^ 0xEDB88320#32 else c >>> 1

/-- The CRC register after the four bytes of a word in little-endian order. -/
def crcWord (c w : Word) : Word :=
  let byte (c : Word) (k : Nat) : Word := upTo 8 (fun _ c => crcBit c) (c ^^^ (w.extractLsb' (8 * k) 8).setWidth 32)
  byte (byte (byte (byte c 0) 1) 2) 3

/-- The CRC-32 of a list of words. -/
def crcWords (l : List Word) : Word := ~~~(l.foldl crcWord 0xFFFFFFFF#32)

/-- The instruction memory holds a valid program image (R150). -/
def Engine.valid (e : Engine) : Bool :=
  e.field 0 16 16 == 0x4C45 && e.field 0 8 8 == 1 && e.field 0 0 8 == 0 &&
  decide (9 ≤ e.length ∧ e.length ≤ 1024 ∧ 9 ≤ e.codeEnd ∧ e.codeEnd ≤ e.length) &&
  e.field 1 27 5 == 0 && e.field 1 11 5 == 0 &&
  (!e.common || e.nonmig) && e.field 2 26 4 == 0 &&
  decide (8 ≤ e.entry ∧ e.entry < e.codeEnd) &&
  (e.word 7 == crcWords (((List.range e.length).filter (· != 7)).map e.word))

/-! ## Registers, flags, timers (Table 6-1, Table 6-2) -/

/-- A general register; g0 reads zero (Table 6-1). -/
def Engine.reg (e : Engine) (r : BitVec 4) : Word := if r = 0 then 0 else Tab.get 0 e.regs.g r.toNat
def Engine.timer (e : Engine) (t : BitVec 2) : Word := Tab.get 0 e.regs.tm t.toNat

/-- A parity unit (`badRegs`) written with good parity. -/
def Engine.mend (e : Engine) (k : Nat) : Engine := { e with badRegs := e.badRegs.filter (· != k) }

/-- A register written; g0 discards the write (Table 6-1). -/
def Engine.setReg (e : Engine) (r : BitVec 4) (v : Word) : Engine :=
  if r = 0 then e else { e with regs := { e.regs with g := Tab.set 0 e.regs.g r.toNat v } }.mend r.toNat

/-- A timer written. -/
def Engine.setTimer (e : Engine) (t : BitVec 2) (v : Word) : Engine :=
  { e with regs := { e.regs with tm := Tab.set 0 e.regs.tm t.toNat v } }.mend (17 + t.toNat)

/-- The flags set from a result, also when its register is g0 (R139); QS becomes QS OR Q. -/
def Engine.setFlags (e : Engine) (r : Res) : Engine :=
  { e with regs := { e.regs with z := r.1 == 0, n := r.1.msb, q := r.2, qs := e.regs.qs || r.2 } }.mend 16

/-- A register-writing instruction's result: register, Z, N, Q and QS. -/
def Engine.result (e : Engine) (rd : BitVec 4) (r : Res) : Engine := (e.setReg rd r.1).setFlags r

/-- Status bit `i` of Table 6-2. -/
def Engine.status (e : Engine) (i : Nat) : Bool :=
  match i with
  | 0 => e.regs.z
  | 1 => e.regs.n
  | 2 => e.regs.q
  | 3 => e.regs.qs
  | 4 => e.first
  | 5 => e.mig
  | 6 => e.ovr
  | _ => false

/-! ## The end of a tick that has no effect -/

/-- The tick of engine `n` undone (R109, R147): registers, flags and timers as at its start, private words restored, output queue
and store buffer discarded. -/
def State.undoTick (s : State) (n : Nat) : State :=
  let e := s.engine n
  let s := each e.undo (fun u s => s.setSh u.1 u.2) s
  s.setEngine n { e with regs := e.start, undo := [], queue := [], stores := [], inTick := false, badRegs := e.badRegs.filter (· != 21) }

/-- Engine `n` enters FAULTED with a cause of Table 5-11 and ENG_FAULT (R111, R147). -/
def State.engFault (s : State) (n cause : Nat) : State :=
  let s := s.undoTick n
  let e := s.engine n
  (s.setEngine n { e with state := .faulted, cause := cause }).record Ev.ENG_FAULT e.obj [n, e.obj, cause]

/-- An uncorrectable word of shared memory read by engine `n` (R111): cause 4, and INT_SETT_UNCORR with the byte offset. -/
def State.engUncorr (s : State) (n k : Nat) : State :=
  ((s.engFault n 4).memUncorr 5 false (k * 4)).record Ev.INT_SETT_UNCORR (s.engine n).obj [n / 32, k % 32768 * 4]

/-- The cycles a tick of sett `k` has (R101). -/
def State.budget (s : State) (k : Nat) : Nat := s.rd SETT_CTL.period k * 200

/-- The half-microseconds since tray tick zero at which a tick boundary of sett `k` falls (R101). -/
def State.boundaryAt (s : State) (k h : Nat) : Bool := h % s.rd SETT_CTL.period k == 0

/-- Engine `n` has not yielded by the end of its budget (R109, R110). -/
def State.overrun (s : State) (n : Nat) : State :=
  let s := s.undoTick n
  let e := s.engine n
  let e := { e with overruns := min (2 ^ 32 - 1) (e.overruns + 1), consec := min 3 (e.consec + 1) }
  if e.consec = 3 then
    (s.setEngine n { e with state := .faulted, cause := 1, handover := true }).record Ev.ENG_OVERRUN e.obj [n, e.obj, s.budget (n / 32)]
  else s.setEngine n e

/-! ## Issuing an instruction -/

/-- What an instruction does: an effect, a fault with a cause, or a read of an uncorrectable shared-memory word. -/
inductive Eff where
  | done (s : State)
  | fault (cause : Nat)
  | uncorr (key : Nat)
deriving DecidableEq, Repr

/-- Engine `n` runs a tick and may issue an instruction. -/
def State.ticking (s : State) (n : Nat) : Bool := s.settUp && (s.engine n).state == .running && (s.engine n).inTick

/-- The instruction that engine `n` issues next: none where the fetch faults by running past the code, by parity or by its word
(R138, R139, R147, R148), with the cause. -/
def Engine.fetch (e : Engine) : Option EngOp × Nat :=
  if e.codeEnd ≤ e.pc then (none, 3)
  else if e.badWords.contains e.pc then (none, 2)
  else (decodeOp (e.word e.pc), 3)

/-- The sett-clock cycle, since tray tick zero, in which the engine issues its next instruction. -/
def Engine.cycle (e : Engine) : Nat := e.tickAt * 200 + e.used

/-- Some other engine of the sett, in its tick, has yet to issue an instruction in an earlier cycle than engine `n`'s next. -/
def State.awaits (s : State) (n : Nat) : Bool :=
  (List.range 32).any fun i =>
    let m := n / 32 * 32 + i
    m != n && s.ticking m && decide ((s.engine m).cycle < (s.engine n).cycle)

/-- The engine after issue: pc on the next word, the cycles counted (R136). -/
def Engine.advance (e : Engine) (op : EngOp) : Engine := { e with pc := e.pc + 1, used := e.used + op.cycles }

/-- Engine `n` issues `op`, whose effect on the engine that has advanced and the state is `f`. A command that names another
instruction than the program's next, or that does not fit the budget, has no effect. -/
def State.issue (s : State) (n : Nat) (op : EngOp) (f : Engine → State → Eff) : Out :=
  let e := s.engine n
  doIf (s.ticking n && decide (e.used < s.budget (n / 32))) s <|
    match e.fetch with
    | (none, cause) => s.engFault n cause
    | (some i, _) =>
      if i ≠ op ∨ s.budget (n / 32) < e.used + op.cycles then s
      else if op.reads.any e.badRegs.contains then s.engFault n 2
      else
        match f (e.advance op) (s.setEngine n (e.advance op)) with
        | .done t => t
        | .fault cause => s.engFault n cause
        | .uncorr k => s.engUncorr n k

/-- An instruction that only changes its engine. -/
def State.issueEngine (s : State) (n : Nat) (op : EngOp) (f : Engine → Option Engine) : Out :=
  s.issue n op fun e s => match f e with
    | some e => .done (s.setEngine n e)
    | none => .fault 3

/-- An instruction of the arithmetic families. -/
def State.issueAlu (s : State) (n : Nat) (op : EngOp) (rd ra rb : BitVec 4) : Out :=
  s.issueEngine n op fun e => (op.alu (e.reg rd) (e.reg ra) (e.reg rb)).map (e.result rd)

/-- A jump to word `t`, an instruction fault outside the code region. -/
def Engine.jump (e : Engine) (t : Nat) : Option Engine :=
  if 8 ≤ t ∧ t < e.codeEnd then some { e with pc := t } else none

/-- A conditional branch: 1 cycle more, and its target checked, only when taken (R139). -/
def Engine.branch (e : Engine) (taken : Bool) (t : Nat) : Option Engine :=
  if taken then { e with used := e.used + 1 }.jump t else some e

/-- An entry put into the output queue; the 33rd of a tick is an instruction fault (R104). -/
def Engine.enqueue (e : Engine) (q : OutEntry) : Option Engine :=
  if e.queue.length < 32 then some { e with queue := e.queue ++ [q] } else none

/-- The byte address `ra + off` of an access, off signed, where it is word-aligned and below `size`; the sum is formed in 32 bits (DESIGN
CHOICE, log entry 79). -/
def accessAddr (ra : Word) (off : BitVec 18) (size : Nat) : Option Nat :=
  let a := (ra + off.signExtend 32).toNat
  if a % 4 = 0 ∧ a < size then some a else none

/-- The binding of a slot: kind and index. -/
def Engine.bind (e : Engine) (slot : Nat) : Nat × Nat := Tab.get (0, 0) e.binds slot

/-- The selectors of Table 6-5 that a binding kind allows. -/
def selCount : Nat → Nat
  | 0 => 0
  | 1 => 3
  | 2 => 1
  | 3 => 6
  | 4 => 2
  | 5 => 3
  | 6 => 2
  | 7 => 2
  | _ => 1

/-- A value written to an output of a kind: the value committed and whether it was clamped; none for an integer out of range or a kind
that is no output (Table 6-6). -/
def outputValue (kind : Nat) (v : Word) : Option Res :=
  let upTo (n : Nat) : Option Res := if v.toNat ≤ n then some (v, false) else none
  let clamp (n : Int) : Option Res :=
    if v.toInt < 0 then some (0#32, true) else if n < v.toInt then some (BitVec.ofInt 32 n, true) else some (v, false)
  match kind with
  | 8 => upTo 1
  | 9 => clamp 65536
  | 10 => clamp 65536
  | 11 => upTo 1
  | 12 => clamp 131072
  | 13 => upTo 3
  | 14 => upTo 1
  | 15 => clamp 32768000
  | _ => none

end Sys2Proof.Machine
end

