-- ==== Sys2Proof/Machine/SettOps.lean ====
section
/-!
DEFINITION. Setts: engine commands (Table 5-3), disabling, and the two instants of a migration (05).
-/
namespace Sys2Proof.Machine

/-- The engines of sett `k`. -/
def settEngines (k : Nat) : List Nat := (List.range 32).map (k * 32 + ·)

/-- Some engine of sett `k` is in one of the listed states. -/
def State.someEngine (s : State) (k : Nat) (p : EngState → Bool) : Bool := (settEngines k).any fun n => p (s.engine n).state

/-- The domain of sett `k` is on: enabled, or holding an object (Table 3-8). -/
def State.settOn (s : State) (k : Nat) : Bool := s.bit SETT_CTL.enable k || s.someEngine k (· != .idle)

/-- The common-area stores of the sett's ticks before a boundary are settled after it. -/
def State.settle (s : State) (k : Nat) : State :=
  { s with setts := { s.setts with
      commits := s.setts.commits.filter (fun x => x.key / 32768 != k), before := s.setts.before.filter fun b => b.1 / 32768 != k } }

/-- A sett whose domain switches off loses its logic and memories (R55, R67, R120): programs, bindings, engine state and shared memory read as
after reset. SETT_ENG_OVR counts since the power-on reset (Table 5-13) and stays. -/
def State.settOff (s : State) (k : Nat) : State :=
  if s.settOn k then s else
    let s := each (settEngines k) (fun n s => (s.setEngine n { overruns := (s.engine n).overruns }).wr SETT_ENG_CTL.obj n 0) s
    { s with setts := { s.setts with
        shmem := s.setts.shmem.filter (fun e => e.1 / 32768 != k), sharedBad := s.setts.sharedBad.filter (fun e => e.1 / 4096 != k)
        fwWrites := s.setts.fwWrites.filter (fun (w : Nat × Word) => w.1 / 32768 != k), startDue := s.setts.startDue.filter fun n => n / 32 != k } }.settle k

/-- A migration involves sett `k`. -/
def State.migrates (s : State) (k : Nat) : Bool :=
  s.bit SETT_MIGSTAT.busy 0 && (s.setts.mig.src / 32 == k || s.setts.mig.dst / 32 == k)

/-- Object `o` is bound to some engine. -/
def State.objBound (s : State) (o : Nat) : Bool := s.setts.engines.any fun e => e.2.state != .idle && e.2.obj == o

/-- BIND of engine `n` (Table 5-3, R130). -/
def State.bind (s : State) (n : Nat) (e : Engine) : State × Nat :=
  let o := s.rd SETT_ENG_CTL.obj n
  let owned := e.binds.any fun b => exclusiveKind b.2.1 && (s.ownerOf b.2.1 b.2.2).isSome
  if e.state ≠ .idle ∨ e.valid = false ∨ s.objBound o ∨ owned ∨ !s.bit SETT_CTL.enable (n / 32) then (s, St.refusedState)
  else
    (s.setEngine n { e with
      state := .stopped, obj := o, cause := 0, consec := 0, maxUsed := 0, regs := {}, first := false, mig := false, ovr := false,
      startDue := false, migDue := false, pc := 0, badRegs := [], snap := [], edges := [], reqBusy := [], reqStatus := [], reqData := [] }, St.ok)

/-- START of engine `n`. -/
def State.start (s : State) (n : Nat) (e : Engine) : State × Nat :=
  if !s.bit SETT_CTL.enable (n / 32) then (s, St.refusedState) else
  match e.state with
  | .idle => (s, St.refusedState)
  | .stopped => (s.setEngine n { e with state := .running, startDue := true }, St.ok)
  | .running => (s, St.ok)
  | .faulted => (s.setEngine n { e with state := .running, startDue := true, cause := 0, consec := 0 }, St.ok)
  | .migrating => (s, St.busy)

/-- STOP of engine `n` (R113). -/
def State.stop (s : State) (n : Nat) (e : Engine) : State × Nat :=
  if e.state = .idle ∨ s.ownsOnRail e then (s, St.refusedState) else (s.setEngine n { e with state := .stopped }, St.ok)

/-- UNBIND of engine `n` (R113): bindings, private area and the object's committed outputs go. -/
def State.unbind (s : State) (n : Nat) (e : Engine) : State × Nat :=
  match e.state with
  | .idle => (s, St.ok)
  | .stopped =>
    if s.ownsOnRail e then (s, St.refusedState) else
    let s := { s with setts := { s.setts with outs := s.setts.outs.filter fun v => v.1 / 8192 != e.obj } }
    ((s.setEngine n { e with state := .idle, binds := [], reqBusy := [], reqStatus := [], reqData := [] }).clearPriv n, St.ok)
  | _ => (s, St.refusedState)

/-- The pending command of engine `n` takes effect at its sett's boundary (R112). -/
def State.engCommand (s : State) (n : Nat) : State :=
  let e := s.engine n
  if e.cmd = 0 then s else
    let r : State × Nat :=
      if e.state = .migrating then (s, St.busy)
      else if e.cmd = 1 then s.bind n e
      else if e.cmd = 2 then s.start n e
      else if e.cmd = 3 then s.stop n e
      else s.unbind n e
    r.1.setEngine n { r.1.engine n with cmd := 0, cmdStatus := r.2 }

/-- A write of `SETT_ENG_CTL`: its obj, and the one pending command, which replaces the one before (R112). -/
def State.engCtl (s : State) (n cmd obj : Nat) : State :=
  let s := s.writeFld SETT_ENG_CTL.obj n obj
  if 1 ≤ cmd ∧ cmd ≤ 4 then s.setEngine n { s.engine n with cmd := cmd } else s

/-- The size of a binding kind's index range (Table 5-2). -/
def kindSize : Nat → Nat
  | 0 => 4096
  | 1 => 304
  | 2 => 304
  | 3 => 64
  | 4 => 512
  | 5 => 28
  | 6 => 256
  | 7 => 8
  | 8 => 128
  | 9 => 16
  | 10 => 4
  | 11 => 4
  | 12 => 8
  | 13 => 8
  | 14 => 5
  | 15 => 18
  | _ => 0

/-- The refusal of a migration (Table 5-4), in the table's order. -/
def State.migRefusal (s : State) (a b : Nat) : Option Nat :=
  let e := s.engine a
  let d := s.engine b
  if e.state = .idle ∨ e.state = .migrating ∨ d.state ≠ .idle then some St.refusedState
  else if d.valid = false then some St.refusedState
  else if e.nonmig then some St.refusedState
  else if !s.bit SETT_CTL.enable (b / 32) then some St.refusedState
  else if s.rd SETT_CTL.period (a / 32) ≠ s.rd SETT_CTL.period (b / 32) then some St.incompatible
  else if d.layout = e.layout ∨ (d.accepts ≠ 0 ∧ d.accepts = e.layout) then none
  else some St.incompatible

/-- Neither sett of the migration has had its boundary at half-microsecond `h`. -/
def State.migBoundary (s : State) (h : Nat) : Bool :=
  let fresh (n : Nat) : Bool := Tab.get 0 s.setts.lastHalf (n / 32) != h + 1
  s.boundaryAt (s.setts.mig.src / 32) h && fresh s.setts.mig.src && fresh s.setts.mig.dst

/-- t1 of Table 5-5: both engines enter MIGRATING and the source's state is copied; a tick that has not yielded overruns first. -/
def State.migCopy (s : State) (h : Nat) : State :=
  let m := s.setts.mig
  let s := if (s.engine m.src).inTick then s.overrun m.src else s
  let e := s.engine m.src
  let d := s.engine m.dst
  let s := s.setEngine m.src { e with state := .migrating }
  let s := s.setEngine m.dst { d with
    state := .migrating, obj := e.obj, regs := e.regs, binds := e.binds, startDue := e.startDue, srcLayout := e.layout, badRegs := [], snap := [],
    edges := [] }
  let s := upTo 512 (fun j s => s.setSh (privKey m.dst 0 + j) (s.shWord (privKey m.src 0 + j))) s
  { s with setts := { s.setts with mig := { m with copied := true, srcStopped := e.state == .stopped, half := h } } }

/-- t2 of Table 5-5: the bindings pass to the destination and the source is IDLE. -/
def State.migHandover (s : State) : State :=
  let m := s.setts.mig
  let e := s.engine m.src
  let d := s.engine m.dst
  let s := s.setEngine m.dst { d with
    state := if m.srcStopped then .stopped else .running, migDue := true, cause := 0, consec := 0, maxUsed := 0,
    reqBusy := e.reqBusy, reqStatus := e.reqStatus, reqData := e.reqData }
  let s := (s.setEngine m.src { e with state := .idle, binds := [], reqBusy := [], reqStatus := [], reqData := [] }).clearPriv m.src
  let s := { s with setts := { s.setts with mig := {} } }
  (((s.wr SETT_MIGSTAT.busy 0 0).wr SETT_MIGSTAT.status 0 St.ok).addSat SETT_MIGSTAT.done 0 1).record
    Ev.ENG_MIGRATED e.obj [m.src, m.dst, e.obj]

/-- A term of a rule written (R121): a reserved source leaves the term as it is. -/
def State.writeTerm (s : State) (r : Nat) (src inv en : Fld) (v : Nat) : State :=
  if reservedSource (src.of v) then s
  else ((s.wr src r (src.of v)).wr inv r (inv.of v)).wr en r (en.of v)

/-- Rule `r`'s actions released (R123). -/
def State.releaseRule (s : State) (r : Nat) : State :=
  { s with setts := { s.setts with activeRules := s.setts.activeRules.filter (· != r) } }

/-- The mailbox with an entry (R145): in commit order, entries of one cycle in ascending engine number; the last of more than 256 is dropped. -/
def State.post (s : State) (m : Mail) : State :=
  let first (x : Mail) : Bool := x.cycle < m.cycle || (x.cycle == m.cycle && x.engine ≤ m.engine)
  let l := s.setts.mailbox.filter first ++ m :: s.setts.mailbox.filter fun x => !first x
  let s := { s with setts := { s.setts with mailbox := l.take 256 } }
  if l.length ≤ 256 then s else s.addSat SETT_MBXCTL.dropped 0 1

end Sys2Proof.Machine
end

