-- ==== Sys2Proof/Machine/Objects.lean ====
section
/-!
DEFINITION. Objects whose program the spec describes: which engine holds one, and the firmware values that tray firmware writes for it.
-/
namespace Sys2Proof.Machine

/-- The programs of a pack. -/
def packPrograms : Content → List PackProgram
  | .programs _ l => l
  | _ => []

/-- The programs of a set's current sett program packs. -/
def State.setPrograms (s : State) (m : Manifest) : List PackProgram :=
  (entriesOf m 2).flatMap fun e => ((s.stored e.digest).map (fun c => packPrograms c.content)).getD []

/-- The worst-case cycles in the header of a program that the spec describes (R210, R293). -/
def roleWcet : ProgRole → Option Nat
  | .wardGovernor => some 118
  | .trayGovernor => some 96
  | .branch => some 92
  | _ => none

/-- The wcet of a program image (Table 6-12). -/
def Engine.wcet (e : Engine) : Nat := e.field 2 0 16

/-- What the program of engine `n` does: its identifier and version looked up in the pack of the active set, with the header's wcet that R210
states. -/
def State.progRole (s : State) (n : Nat) : ProgRole :=
  let e := s.engine n
  match ((s.secure.set.map s.setPrograms).getD []).find? fun p => p.id.toNat == e.progId && p.ver.toNat == e.progVer with
  | some p => if ((roleWcet p.role).getD e.wcet) = e.wcet then p.role else .other
  | none => .other

/-- A word of engine `n`'s private area at byte offset `off`. -/
def State.priv (s : State) (n off : Nat) : Word := s.shRead (privKey n off)

/-- Words written to engine `n`'s private area from byte offset `off` on. -/
def State.putPriv (s : State) (n : Nat) : Nat → List Word → State
  | _, [] => s
  | off, v :: l => (s.setSh (privKey n off) v).putPriv n (off + 4) l

/-- A private word that such a program reads is uncorrectable. -/
def State.badPriv (s : State) (n : Nat) (offs : List Nat) : Option Nat := (offs.map (privKey n)).find? s.shBad

/-- An input of the engine's snapshot (R103). -/
def Engine.seen (e : Engine) (slot sel : Nat) : Word := Tab.get 0 e.snap (slot * 16 + sel)

/-- The ward whose resources a ward governor's bindings name as Table 9-5 states. -/
def Engine.govWard (e : Engine) : Option Nat :=
  let w := (e.bind 7).2
  if [(e.bind 0).1, (e.bind 1).1, (e.bind 2).1, (e.bind 9).1] = [3, 2, 4, 1] ∧ e.bind 7 = (13, w) ∧ e.bind 8 = (12, w) ∧
      (List.range 4).all (fun i => e.bind (3 + i) == (6, 4 * w + i)) then some w
  else none

/-- A tray governor's bindings are those of R213; harp requests of wards that are not there are not bound. -/
def Engine.govTray (e : Engine) : Bool :=
  e.bind 0 == (3, 2) && e.bind 1 == (1, 60) && e.bind 2 == (1, 62) && e.bind 3 == (6, 32) &&
  (List.range 8).all fun w => e.bind (4 + w) == (13, w) || (e.bind (4 + w)).1 == 0

/-- The firmware values of a ward governor by private offset, as tray firmware writes them at its binding (Table 9-6): the defaults, and the tray
descriptor's figures of its ward. -/
def wardGovDefaults (t : TrayWard) : List (Nat × Word) :=
  [(0x780, t.pTrim), (0x784, t.pDeep), (0x788, t.pRel), (0x78C, 20#32), (0x790, 58982#32), (0x794, 1000#32), (0x798, 1#32), (0x79C, 20#32),
   (0x7A0, 200#32), (0x7A4, 58982#32), (0x7A8, 4#32), (0x7AC, t.vNom), (0x7B0, 0#32), (0x7B4, 0#32), (0x7B8, 32768#32)]

/-- The firmware values of the tray governor (Table 9-7). -/
def trayGovDefaults : List (Nat × Word) :=
  [(0x780, 63570#32), (0x784, 17039360#32), (0x788, 917504000#32), (0x78C, 1966#32), (0x790, 50#32), (0x794, 58982#32), (0x798, 1000#32),
   (0x79C, 0x76543210#32), (0x7A0, 8#32)]

/-- The firmware values of a branch object (Table 12-4): the tray descriptor's roles and wards of the branch, clear_seq 0 and t_ghs. -/
def branchDefaults (b : TrayBranch) : List (Nat × Word) :=
  [(0x780, BitVec.setWidth 32 b.roles), (0x784, BitVec.setWidth 32 b.wards), (0x788, 0#32), (0x78C, 5000#32)]

/-- What the active tray descriptor declares of the branch that engine `n`'s slot 0 names. -/
def State.trayBranch (s : State) (n : Nat) : Option TrayBranch :=
  ((s.tray.map trayBranches).getD []).find? fun b => b.branch.val == ((s.engine n).bind 0).2

/-- The firmware values that go with the binding of engine `n` (R210, R293); none for a program that the spec does not describe. -/
def State.objectDefaults (s : State) (n : Nat) : List (Nat × Word) :=
  match s.progRole n with
  | .wardGovernor => ((((s.engine n).govWard.bind s.trayWard).map wardGovDefaults).getD [])
  | .trayGovernor => trayGovDefaults
  | .branch => ((s.trayBranch n).map branchDefaults).getD []
  | _ => []

/-- Tray firmware writes the firmware values of the object that has just been bound to engine `n` (R210). -/
def State.objectBound (s : State) (n : Nat) : State :=
  { s with setts := { s.setts with fwWrites := s.setts.fwWrites ++ (s.objectDefaults n).map fun v => (privKey n v.1, v.2) } }

/-- The engine that holds the object of branch `b`. -/
def State.branchEngine (s : State) (b : Nat) : Option Nat :=
  (s.setts.engines.find? fun e => e.2.state != .idle && s.progRole e.1 == .branch && (e.2.bind 0).2 == b).map (·.1)

/-- Tray firmware increments clear_seq of branch `b`'s object (R296). -/
def State.clearBranch (s : State) (b : Nat) : State :=
  match s.branchEngine b with
  | some n => { s with setts := { s.setts with fwWrites := s.setts.fwWrites ++ [(privKey n 0x788, s.priv n 0x788 + 1)] } }
  | none => s

/-- The engine that holds the ward governor of ward `w`. -/
def State.governorOf (s : State) (w : Nat) : Option Nat :=
  (s.setts.engines.find? fun e => s.progRole e.1 == .wardGovernor && e.2.govWard == some w).map (·.1)

/-- Tray firmware binds and starts the ward governor of ward `w` (R337): BIND at the next boundary, START at the one after. -/
def State.governorUp (s : State) (w : Nat) : State :=
  match s.governorOf w with
  | none => s
  | some n =>
    let s := { s with setts := { s.setts with startDue := n :: s.setts.startDue.filter (· != n) } }
    if (s.engine n).state = .idle then s.engCtl n 1 (s.rd SETT_ENG_CTL.obj n) else s

/-- The engines of sett `k` that tray firmware starts once they are STOPPED. -/
def State.startBound (s : State) (k : Nat) : State :=
  each (s.setts.startDue.filter fun n => n / 32 == k && (s.engine n).state != .idle) (fun n s =>
    let s := { s with setts := { s.setts with startDue := s.setts.startDue.filter (· != n) } }
    if (s.engine n).state = .stopped then s.engCtl n 2 (s.engine n).obj else s) s

end Sys2Proof.Machine
end

