-- ==== Sys2Proof/Machine/CoolOps.lean ====
section
/-!
DEFINITION. Cooling: zones, the fallback table, drives, supervision, flow and the critical comparator (12).
-/
namespace Sys2Proof.Machine

def State.fan (s : State) (o : Nat) : FanOut := Tab.get {} s.cooling.outs o
def State.setFan (s : State) (o : Nat) (v : FanOut) : State :=
  { s with cooling := { s.cooling with outs := Tab.set {} s.cooling.outs o v } }
def State.pulse (s : State) (i : Nat) : Pulse := Tab.get {} s.cooling.pulses i
def State.flowOf (s : State) (f : Nat) : Flow := Tab.get {} s.cooling.flows f
def State.setFlow (s : State) (f : Nat) (v : Flow) : State :=
  { s with cooling := { s.cooling with flows := Tab.set {} s.cooling.flows f v } }

/-- The state of output `o`: 0 IDLE, 1 CHECK, 2 RUN, 3 BLOCKED, 4 BLOCKED_LATCHED, 5 TACH_LOST, 6 ABSENT. -/
def State.ostate (s : State) (o : Nat) : Nat := s.rd FAN_OSTAT.state o

/-- The outputs of a zone (R277). -/
def State.members (s : State) (z : Nat) : List Nat :=
  (List.range 20).filter fun o => s.bit FAN_OCFG.zoned o && s.rd FAN_OCFG.zone o == z

/-- Output `o` is supervised (R285). -/
def State.supervised (s : State) (o : Nat) : Bool := s.bit FAN_OCFG.sup o && s.bit FAN_OCFG.zoned o && !s.shadow_

/-- The object that owns output `o` through kind 9 or 10. -/
def State.fanOwner (s : State) (o : Nat) : Option Nat := if o < 16 then s.ownerOf 9 o else s.ownerOf 10 (o - 16)

/-- The register-path duty of output `o` in ‰ (R276, R278). -/
def State.pathDuty (s : State) (o : Nat) : Nat :=
  match s.fanOwner o with
  | some b => (nearest ((s.outVal b (if o < 16 then 9 else 10) (o % 16)).toNat * 1000) 65536).toNat
  | none => s.rd FAN_DUTY.duty o

/-- Output `o` refreshed now. -/
def State.refresh (s : State) (o : Nat) : State := s.setFan o { s.fan o with refreshed := some s.bootUs }

/-- Output `o` has been refreshed within the last 2 s (R279). -/
def State.fresh (s : State) (o : Nat) : Bool :=
  match (s.fan o).refreshed with
  | some t => decide (s.bootUs < t + 2000000)
  | none => false

/-! ## The fallback table (R281, R282) -/

/-- The point reset values of Table 12-11. -/
def fandefTemp (d i : Nat) : Int :=
  match d with
  | 1 => [30, 34, 39, 43, 47, 51, 56, 60].getD i 0
  | 2 => [35, 40, 45, 50, 55, 60, 65, 70].getD i 0
  | 3 => [25, 29, 32, 36, 39, 43, 46, 50].getD i 0
  | _ => 0
def fandefDuty (d i : Nat) : Nat :=
  match d with
  | 1 => [30, 40, 50, 60, 70, 80, 90, 100].getD i 0
  | 2 => [20, 31, 43, 54, 66, 77, 89, 100].getD i 0
  | 3 => [50, 57, 64, 71, 79, 86, 93, 100].getD i 0
  | _ => 100

/-- Point `i` of zone `z`: temperature, hysteresis, duty. -/
def State.point (s : State) (z i : Nat) : Int × Nat × Nat :=
  let t := s.rd FAN_ZPT.temp (z * 8 + i)
  (if t < 128 then t else (t : Int) - 256, s.rd FAN_ZPT.hyst (z * 8 + i), s.rd FAN_ZPT.duty (z * 8 + i))

/-- The table of zone `z` breaks its order (R281). -/
def State.tableBad (s : State) (z : Nat) : Bool :=
  (List.range 7).any fun i => decide ((s.point z (i + 1)).1 < (s.point z i).1 ∨ (s.point z (i + 1)).2.2 < (s.point z i).2.2)

/-- The point in force: the zone's own, or FANDEF's while the order is broken. -/
def State.pointIn (s : State) (z i : Nat) : Int × Nat × Nat :=
  if s.tableBad z then (fandefTemp s.part.straps.fandef i, 2, fandefDuty s.part.straps.fandef i) else s.point z i

/-- The TD channels set in a zone's input. -/
def State.zoneInputs (s : State) (z : Nat) : List Nat :=
  ((List.range 32).filter (s.rd FAN_ZIN.sel z).testBit).map (256 + ·)

/-- A channel of the critical pair whose sensor the comparator holds failed (R299). -/
def State.critFailed (s : State) (c : Nat) : Bool := s.criticalChan c && (s.rd FAN_CRIT.failed 0).testBit (c % 2)

/-- Some sensor of the zone's input is failed (R282, R283); a failed sensor of the critical pair is one (R299). -/
def State.sensorFailed (s : State) (z : Nat) : Bool :=
  if s.part.vsettLost then s.cooling.crit.a.isNone || s.cooling.crit.b.isNone
  else (s.zoneInputs z).any fun c =>
    (!s.bit SNS_CHSTAT.absent c && (!s.bit SNS_CHCFG.enable c || s.bit SNS_CHSTAT.fault c)) || s.critFailed c

/-- The zone input in 1/128 °C, none where every set channel is left out (R282); with VSETT lost, the hotter of the pair (R283). -/
def State.zoneInput (s : State) (z : Nat) : Option Int :=
  if s.part.vsettLost then (s.cooling.crit.a.toList ++ s.cooling.crit.b.toList).max?
  else (((s.zoneInputs z).filter fun c => !s.bit SNS_CHSTAT.absent c).map fun c => signed16 (s.rd SNS_CHSAMP.sample c)).max?

/-- The level mask of zone `z` with its input at `t` (R281). -/
def State.zoneLevels (s : State) (z : Nat) (t : Int) : Nat :=
  let was := Tab.get 1 s.cooling.levels z
  ((List.range 8).map fun i =>
    let (p, h, _) := s.pointIn z i
    if i = 0 then 1
    else if p * 128 ≤ t then 2 ^ i
    else if t < (p - h) * 128 then 0
    else was / 2 ^ i % 2 * 2 ^ i).sum

/-- The highest level set in a mask. -/
def topLevel (m : Nat) : Nat := (((List.range 8).filter m.testBit).max?).getD 0

/-- The table duty of zone `z`, in % (R281, R282), judged again. -/
def State.judgeZone (s : State) (z : Nat) : State :=
  let s := s.wrBit FAN_ZSTAT.tbl_err z (s.tableBad z)
  let failed := s.sensorFailed z
  let s := s.wrBit FAN_ZSTAT.sensor_fail z failed
  match s.zoneInput z with
  | none => s.wr FAN_ZSTAT.t_duty z 100
  | some t =>
    let m := s.zoneLevels z t
    let s := { s with cooling := { s.cooling with levels := Tab.set 1 s.cooling.levels z m } }
    (s.wr FAN_ZSTAT.level z (topLevel m)).wr FAN_ZSTAT.t_duty z (if failed then 100 else (s.pointIn z (topLevel m)).2.2)

/-! ## Drives (R280, Table 12-2) -/

/-- Output `o` is lost (R288). -/
def State.lost (s : State) (o : Nat) : Bool :=
  let st := s.ostate o
  (3 ≤ st && st ≤ 6) || (st == 1 && (s.fan o).retry)

/-- The action of a lost output: 0 none, 1 compensate, 2 full (R288). -/
def State.lostAction (s : State) (z o : Nat) : Nat :=
  if s.ostate o = 5 then s.rd FAN_ZCTL.tl_act z else if s.ostate o = 6 then s.rd FAN_ZCTL.ab_act z else 1

/-- Zone `z` is full under row 4 by its lost outputs. -/
def State.zoneFull (s : State) (z : Nat) : Bool :=
  let l := (s.members z).filter s.lost
  l.any (fun o => s.lostAction z o == 2) || (s.rd FAN_ZCTL.lost_max z != 0 && decide (s.rd FAN_ZCTL.lost_max z ≤ l.length))

/-- A low flow holds in zone `z` (R290). -/
def State.zoneLowFlow (s : State) (z : Nat) : Bool :=
  (List.range 8).any fun f => s.bit FAN_FSTAT.low f && s.bit FAN_FCFG.zoned f && s.rd FAN_FCFG.zone f == z

/-- Row 5 of Table 12-2. -/
def State.rowFive (s : State) (z o : Nat) : Nat :=
  let base := if s.bit FAN_ZSTAT.fallback z then s.rd FAN_ZSTAT.t_duty z * 10 else s.pathDuty o
  let base := if 16 ≤ o then max base (s.rd FAN_ZCTL.pump_floor z * 10) else base
  let comp := (s.members z).any fun p => p != o && decide (p < 16 ↔ o < 16) && s.lost p && s.lostAction z p == 1
  min 1000 (if comp then base + s.rd FAN_ZCTL.comp z * 10 else base)

/-- The critical comparator asserts, or VSETT is lost (row 3). -/
def State.rowThree (s : State) : Bool := s.bit FAN_CRIT.asserting 0 || s.part.vsettLost

/-- The drive of output `o` in ‰ (Table 12-2, R277); a shadow releases the pads (Table 21-3). -/
def State.driveOf (s : State) (o : Nat) : Nat :=
  if s.shadow_ then 1000
  else if !s.bit FAN_OCFG.zoned o then
    if s.rowThree then 1000 else (((List.range 4).map fun z => s.rd FAN_ZSTAT.t_duty z * 10).max?).getD 0
  else
    let z := s.rd FAN_OCFG.zone o
    let f := s.fan o
    let d :=
      if s.ostate o = 1 ∧ s.bootUs < f.checkAt + 2000000 then 1000
      else if s.ostate o = 3 ∨ s.ostate o = 4 then 0
      else if s.rowThree then 1000
      else if s.zoneFull z || (decide (16 ≤ o) && s.zoneLowFlow z) then 1000
      else s.rowFive z o
    if s.ostate o = 5 then max d f.frozen else d

/-- A check of output `o` starts (R285): `retry` is the retry's number, 0 for a fresh check. -/
def State.startCheck (s : State) (o retry : Nat) : State :=
  ((s.setFan o { s.fan o with checkAt := s.bootUs, retry := retry != 0, good := [] }).wr FAN_OSTAT.state o 1).wr FAN_OSTAT.retries o retry

/-- The zones that have become full are recorded (R288). -/
def State.judgeFull (s : State) : State :=
  each (List.range 4) (fun z s =>
    let n := ((s.members z).filter s.lost).length
    let was := s.cooling.full.contains z
    let now := s.zoneFull z
    let s := s.wr FAN_ZSTAT.lost z (min 7 n)
    let s := { s with cooling := { s.cooling with full := if now then (if was then s.cooling.full else z :: s.cooling.full) else s.cooling.full.filter (· != z) } }
    if now && !was then s.record Ev.FAN_ZONE_FULL Src.cooling [z, n] else s) s

/-- Valve `b` is driven high, closed (R291). -/
def State.valveClosed (s : State) (b : Nat) : Bool :=
  match s.ownerOf 11 b with
  | some o => s.outVal o 11 b != 0
  | none => (s.rd FAN_VLV.close 0).testBit b

/-- Meter `f` may raise a low flow (R290): zoned, a pump of its zone driven, its branch valve open. -/
def State.flowArmed (s : State) (f : Nat) : Bool :=
  s.bit FAN_FCFG.en f && s.bit FAN_FCFG.zoned f &&
  (s.members (s.rd FAN_FCFG.zone f)).any (fun o => decide (16 ≤ o) && s.rd FAN_OSTAT.drive o != 0) &&
  !(s.bit FAN_FCFG.br_en f && s.valveClosed (s.rd FAN_FCFG.branch f))

/-- A meter that may not raise a low flow now starts its 2 s afresh (R290). -/
def State.judgeFlows (s : State) : State :=
  each (List.range 8) (fun f s =>
    if (s.flowOf f).lowFrom.isSome && !s.flowArmed f then s.setFlow f { s.flowOf f with lowFrom := none } else s) s

/-- Every drive computed again (R280); an output in RUN whose row 5 rises from 0 starts a check (R285). -/
def State.driveAll (s : State) : State :=
  let s := s.judgeFull
  let s := each (List.range 20) (fun o s =>
    if s.bit FAN_OCFG.zoned o then
      let d := s.rowFive (s.rd FAN_OCFG.zone o) o
      let was := (s.fan o).row5
      let s := s.setFan o { s.fan o with row5 := d }
      if s.supervised o && s.ostate o == 2 && was == 0 && decide (0 < d) && !s.part.vsettLost then s.startCheck o 0 else s
    else s) s
  (each (List.range 20) (fun o s => s.wr FAN_OSTAT.drive o (s.driveOf o)) s).judgeFlows

/-- A meter's set-up written: one that is not enabled reports no flow and no low flow (R290). -/
def State.flowSet (s : State) (f : Nat) : State :=
  if s.bit FAN_FCFG.en f then s.judgeFlows
  else ((s.setFlow f { s.flowOf f with lowFrom := none, okFrom := none }).wr FAN_FSTAT.low f 0).driveAll

/-- Zone `z` put in FALLBACK with a cause and recorded (R279). -/
def State.putFallback (s : State) (z cause : Nat) : State :=
  if s.bit FAN_ZSTAT.fallback z then s
  else ((s.wr FAN_ZSTAT.fallback z 1).wr FAN_ZSTAT.fb_cause z cause).record Ev.FAN_FALLBACK Src.cooling [z, cause]

/-- Zone `z` enters FALLBACK with a cause (R279). -/
def State.zoneFallback (s : State) (z cause : Nat) : State :=
  if s.bit FAN_ZSTAT.fallback z then s else (s.putFallback z cause).driveAll

/-- Every zone enters FALLBACK together (R279): the records of one code go before those of the next (R525). -/
def State.zonesFallback (s : State) (cause : Nat) : State := (each (List.range 4) (fun z s => s.putFallback z cause) s).driveAll

/-! ## Supervision (R284 to R288) -/

/-- The interval between the last two edges of a pulse input in µs. -/
def Pulse.interval (p : Pulse) : Option Nat :=
  match p.last, p.prev with
  | some a, some b => some (a - b)
  | _, _ => none

/-- No edge has arrived for 500 ms. -/
def State.tachStopped (s : State) (i : Nat) : Bool :=
  match (s.pulse i).last with
  | some t => decide (t + 500000 ≤ s.bootUs)
  | none => true

/-- The speed of output `o` in rpm (R284): 0 with a stopped tach or before two edges. -/
def State.speed (s : State) (o : Nat) : Nat :=
  match (s.pulse o).interval with
  | some t =>
    if s.tachStopped o then 0
    else if t = 0 then 65535 else min 65535 (openQuot 60000000 (t * s.rd FAN_OCFG.ppr o)).toNat
  | none => 0

/-- The speed is at least 10 % of the expected rate rpm_full × d, exactly (R285). -/
def State.fastEnough (s : State) (o d : Nat) : Bool :=
  match (s.pulse o).interval with
  | some t => !s.tachStopped o && decide (s.rd FAN_OCFG.rpm_full o * d * (t * s.rd FAN_OCFG.ppr o) ≤ 60000000000)
  | none => false

/-- The sensed current of output `o`: 0 zero, 1 running, 2 stall or unknown (R284). -/
def State.currentOf (s : State) (o : Nat) : Nat :=
  let l := Tab.get [] s.cooling.currents (64 + s.rd FAN_OCFG.i_gs o)
  if !s.bit FAN_OCFG.i_en o || l.isEmpty then 2
  else if l.sum < s.rd FAN_OLIM.i_min o * l.length then 0
  else if l.sum < s.rd FAN_OLIM.i_stall o * l.length then 1
  else 2

/-- A sample of a general channel kept among its last 1,000, on which an output may sense its current (R284). -/
def State.noteCurrent (s : State) (c word : Nat) : State :=
  { s with cooling := { s.cooling with currents := Tab.set [] s.cooling.currents c ((word :: Tab.get [] s.cooling.currents c).take 1000) } }

/-- Output `o` judged without speed: by its current (Table of R285, R287); `found` tells a tach that stopped in RUN, which records the
losses. -/
def State.judgeLost (s : State) (o : Nat) (found : Bool) : State :=
  let f := s.fan o
  let n := if f.retry then s.rd FAN_OSTAT.retries o else 0
  let d := s.rd FAN_OSTAT.drive o
  let s := s.setFan o { f with judgedAt := s.bootUs, retry := false, good := [], frozen := d }
  match s.currentOf o with
  | 0 =>
    let s := s.wr FAN_OSTAT.state o 6
    if found then s.record Ev.FAN_ABSENT Src.cooling [o] else s
  | 1 =>
    let s := s.wr FAN_OSTAT.state o 5
    if found then s.record Ev.FAN_TACH_LOST Src.cooling [o, d] else s
  | _ =>
    let latched := decide (3 ≤ n)
    ((s.wr FAN_OSTAT.retries o n).wr FAN_OSTAT.state o (if latched then 4 else 3)).record Ev.FAN_BLOCKED Src.cooling [o, n, latched.toNat]

/-- The interval of an edge lies within 10 % of the expected rate of output `o` (R287): 0.9 R ≤ 60,000,000 / (t · ppr) ≤ 1.1 R with
R = rpm_full × d. -/
def State.edgeGood (s : State) (o t : Nat) : Bool :=
  let x := s.rd FAN_OCFG.rpm_full o * s.rd FAN_OSTAT.drive o * (t * s.rd FAN_OCFG.ppr o)
  decide (9 * x ≤ 60000000000 ∧ 60000000000 ≤ 11 * x)

/-- An edge at output `o`'s tach in TACH_LOST or ABSENT: four within 1 s at the expected rate recover it (R287). -/
def State.judgeEdge (s : State) (o : Nat) : State :=
  let st := s.ostate o
  if s.supervised o && (st == 5 || st == 6) && !s.part.vsettLost then
    let f := s.fan o
    let ok := match (s.pulse o).interval with
      | some t => s.edgeGood o t
      | none => false
    let run := if ok then (f.good ++ [s.bootUs]).filter (fun t => decide (s.bootUs ≤ t + 1000000)) else [s.bootUs]
    if 4 ≤ run.length then
      (((s.setFan o { f with good := [], frozen := 0 }).wr FAN_OSTAT.state o 2).record Ev.FAN_RECOVERED Src.cooling [o, st]).driveAll
    else s.setFan o { f with good := run }
  else s

/-- The flow of meter `f` is below f_low. -/
def State.flowBelow (s : State) (f : Nat) : Bool := decide (s.rd FAN_FSTAT.flow f < s.rd FAN_FCFG.f_low f * 10)

/-! ## The critical comparator (R298, R299) -/

/-- The threshold in °C by TCRIT (Table 2-8). -/
def State.critThreshold (s : State) : Int := 95 + 5 * s.part.straps.tcrit

/-- The comparator asserts or releases: record and drives. -/
def State.setCrit (s : State) (on : Bool) : State :=
  let r (o : Option Int) : Nat := low 16 (o.getD 32767)
  (s.wrBit FAN_CRIT.asserting 0 on).driveAll.record (if on then Ev.FAN_CRIT_TRIP else Ev.FAN_CRIT_CLEAR) Src.cooling
    [r s.cooling.crit.a, r s.cooling.crit.b, low 8 s.critThreshold]

/-! ## Leak statistics (R301) -/

/-- The class of rope `r`: 0 dry, 1 moisture, 2 wet, 3 flooded (Table 12-3). -/
def State.ropeClass (s : State) (r : Nat) : Nat :=
  let x := 2 * (288 + r)
  if s.level (x + 1) 3 then 3 else if s.level x 3 then 2 else if s.level x 2 then 1 else 0

/-- The statistics of rope `r` after a sample. -/
def State.noteLeak (s : State) (r word : Nat) : State :=
  let c := s.ropeClass r
  let lowest := if signed16 word < signed16 (s.rd LEAK_RSTAT.lowest r) then word else s.rd LEAK_RSTAT.lowest r
  ((s.wr LEAK_RSTAT.cls r c).wr LEAK_RSTAT.worst r (max c (s.rd LEAK_RSTAT.worst r))).wr LEAK_RSTAT.lowest r lowest

end Sys2Proof.Machine
end

