-- ==== Sys2Proof/Machine/FeedOps.lean ====
section
/-!
DEFINITION. Feed gates, insertion path, trips and discharge (08).
-/
namespace Sys2Proof.Machine

/-- The latest sample word of a quick channel, signed. -/
def State.sample (s : State) (c : Nat) : Int := signed16 (s.rd SNS_CHSAMP.sample c)

/-- Level `k` of FEED_ window `n`. -/
def State.flev (s : State) (n k : Nat) : Bool := s.level (2 * fixedChannel n) k

def State.side (s : State) (b : Bool) : FeedSide := if b then s.feed.b else s.feed.a
def State.setSide (s : State) (b : Bool) (v : FeedSide) : State :=
  { s with feed := if b then { s.feed with b := v } else { s.feed with a := v } }

/-- The gate state field of a feed: 0 OFF, 1 ON, 2 BLOCKED, 3 DAMAGED. -/
def gateFld (b : Bool) : Fld := if b then FEED_STAT.gdb else FEED_STAT.gda

/-- FEED_ windows of a feed: voltage, current, gate monitor. -/
def voltWin (b : Bool) : Nat := if b then 4 else 2
def currWin (b : Bool) : Nat := if b then 5 else 3
def gateWin (b : Bool) : Nat := if b then 7 else 6

/-- The tray input as a sample word: the larger feed voltage (R176). -/
def State.vIn (s : State) : Int := max (s.sample 60) (s.sample 62)

/-- Volts of a quick channel as Q16.16 at the board scaling of Table 4-4. -/
def voltsOf (w : Int) : Nat := low 32 (w * 128)
/-- Amps of a quick channel as Q16.16 at the board scaling of Table 4-4. -/
def ampsOf (w : Int) : Nat := low 32 (w * 640)

/-- E_fet in mJ (R184), from the integral in units of 1/(4000 · 2^18) mJ. -/
def State.eFet (s : State) : Nat := (openQuot s.feed.energy 1048576000).toNat

/-- The insertion state (Table 8-3). -/
def State.ins (s : State) : Nat := s.rd FEED_STAT.ins_state 0

/-- GHS is driven: RAMP, ON or REMOVING. -/
def State.ghsDriven (s : State) : Bool := (s.ins == 1 && !s.shadow_) || s.ins == 2 || s.ins == 6

/-- The insertion state is RAMP, ON or REMOVING. -/
def State.insActive (s : State) : Bool := s.ins == 1 || s.ins == 2 || s.ins == 6

/-- A discharge that waits or runs, judged (R196). -/
def State.judgeDisch (s : State) : State :=
  let low := decide (s.sample 59 < 10240)
  if s.feed.disch && low then { s with feed := { s.feed with disch := false, dischWant := false } }
  else if s.feed.dischWant && !s.feed.disch && s.flev 8 3 then
    if low then { s with feed := { s.feed with dischWant := false } }
    else { s with feed := { s.feed with disch := true, dischAt := s.bootUs } }
  else s

/-- GHS driven low; the discharge of R196 follows once the gate is off. -/
def State.ghsLow (s : State) : State :=
  if s.ghsDriven then
    ({ s with feed := { s.feed with ghsHigh := false, ghsConfirmed := false, dischWant := true } }).judgeDisch
  else s

/-- DISCH at the ball: a discharge or an object's request, never with the GHS gate above 2.0 V (R196). -/
def State.dischOut (s : State) : Bool := (s.feed.disch || s.requested 14 3) && s.flev 8 3

/-- A trip (R189) in RAMP, ON or REMOVING: `why` lists the causes decided together, lowest first, each with its event and the data
before retry_count. -/
def State.trip (s : State) (why : List (Nat × Nat × List Nat)) : State :=
  match why with
  | [] => s
  | (cause, _, _) :: _ =>
    if s.insActive then
      let s := s.ghsLow
      let retry := s.rd FEED_STAT.retry_count 0 + 1
      let latched := decide (s.rd FEED_CTL.retry_max 0 < retry)
      let mask := s.runMask
      let s := s.releasePads
      let s := { s with zither := { s.zither with redriveFrom := some s.bootUs },
                        feed := { s.feed with retryEnd := s.bootUs + s.rd FEED_CTL.retry_s 0 * 1000000 } }
      let s := ((s.wr FEED_STAT.trip_cause 0 cause).wr FEED_STAT.retry_count 0 retry).setIns (if latched then 4 else 3)
      let s := s.inOneCycle fun s =>
        let s := each why (fun w s => s.record w.2.1 Src.feed (w.2.2 ++ [retry])) s
        let s := if latched then s.record Ev.FEED_LATCHED Src.feed [retry] else s
        s.record Ev.SEQ_COLLAPSE Src.zither [mask, cause]
      s.tellTwin (.trip (BitVec.ofNat 4 cause) (BitVec.ofNat 8 retry))
    else s

/-- A trip that the other T840 has decided (R492): the same cause, its retry_count adopted and not counted again;
the steps of R189 follow. -/
def State.tripTold (s : State) (cause retry : Nat) : State :=
  if s.insActive then
    let s := s.ghsLow
    let mask := s.runMask
    let s := s.releasePads
    let s := { s with zither := { s.zither with redriveFrom := some s.bootUs },
                      feed := { s.feed with retryEnd := s.bootUs + s.rd FEED_CTL.retry_s 0 * 1000000 } }
    let s := ((s.wr FEED_STAT.trip_cause 0 cause).wr FEED_STAT.retry_count 0 retry).wr FEED_STAT.ins_state 0
      (if s.rd FEED_CTL.retry_max 0 < retry then 4 else 3)
    let s := if s.rd FEED_CTL.retry_max 0 < retry then s.record Ev.FEED_LATCHED Src.feed [retry] else s
    s.record Ev.SEQ_COLLAPSE Src.zither [mask, cause]
  else s.wr FEED_STAT.retry_count 0 retry

/-- The causes of one cycle that a feed gate, GHS or damage gives, each with its event and the data before retry_count: `pull` is the rule or
object of causes 6 and 7; cause 8 where no feed gate is ON any more after `lost` has taken one off (Table 8-4). -/
def State.pullCauses (s : State) (pull : Option (Nat × Nat)) (lost : Option Nat) : List (Nat × Nat × List Nat) :=
  (pull.map fun p => (p.1, Ev.FEED_PULLDOWN, [p.1, p.2])).toList ++
  match lost with
  | some who => if s.rd FEED_STAT.gda 0 = 1 ∨ s.rd FEED_STAT.gdb 0 = 1 then [] else [(8, Ev.FEED_PULLDOWN, [8, who])]
  | none => []

/-- A FEED_REVERSE record of the held episodes of a feed (R180). -/
def State.reverseRecord (s : State) (b : Bool) : State :=
  let f := s.side b
  (s.record Ev.FEED_REVERSE Src.feed [b.toNat, ampsOf f.heldWorst, f.held]).setSide b
    { f with heldWorst := 0, held := 0, lastRec := some s.bootUs }

/-- A feed gate leaves BLOCKED: an open reverse episode closes and is recorded or held (R180). -/
def State.closeEpisode (s : State) (b : Bool) : State :=
  let f := s.side b
  if f.episode then
    let t := s.setSide b { f with episode := false, worst := 0, held := f.held + 1, heldWorst := min f.heldWorst f.worst }
    match f.lastRec with
    | some r => if r + 1000000 ≤ s.bootUs then t.reverseRecord b else t
    | none => t.reverseRecord b
  else s

/-- A feed gate put into another state. -/
def State.setGate (s : State) (b : Bool) (v : Nat) : State :=
  (if s.rd (gateFld b) 0 = 2 ∧ v ≠ 2 then s.closeEpisode b else s).wr (gateFld b) 0 v

/-- Table 8-2 for a feed gate that is ON or BLOCKED: off on over- or undervoltage or a pull-down, blocked on reverse current or a sag of
1 µs (20 apertures). -/
def State.judgeGate (s : State) (b : Bool) : State :=
  let g := s.rd (gateFld b) 0
  if (g = 1 ∨ g = 2) ∧ (s.flev (voltWin b) 0 || s.flev (voltWin b) 3 || s.pulled b.toNat) then s.setGate b 0
  else if g = 1 ∧ s.flev (currWin b) 3 then
    (s.setGate b 2).setSide b { s.side b with episode := true, worst := s.sample (fixedChannel (currWin b)) }
  else if g = 1 ∧ 20 ≤ (s.side b).sag then s.setGate b 2
  else s

/-- The rule or object whose pull-down takes an ON feed gate off now; the one of gate A first. -/
def State.gateTaken (s : State) : Option Nat :=
  if s.rd FEED_STAT.gda 0 = 1 ∧ s.pulled 0 = true then some (s.pullSource 0)
  else if s.rd FEED_STAT.gdb 0 = 1 ∧ s.pulled 1 = true then some (s.pullSource 1)
  else none

/-! ## Conditions that have to hold for a span -/

/-- The start of a span: kept while its condition holds, now where it begins to hold. -/
def State.span (s : State) (holds : Bool) (from_ : Option Nat) : Option Nat := if holds then some (from_.getD s.bootUs) else none

/-- The collapse condition (R177): the FL levels of both feed-voltage windows. -/
def State.collapsed (s : State) : Bool := s.flev 2 3 && s.flev 4 3

/-- The conditions of Table 8-2 to turn feed gate `b` on. -/
def State.gateOk (s : State) (b : Bool) : Bool :=
  let g := s.rd (gateFld b) 0
  let v := if b then s.sample 62 else s.sample 60
  (g == 0 || g == 2) && !s.flev (voltWin b) 0 && !s.flev (voltWin b) 3 && decide (s.vIn - 256 ≤ v) && !s.flev (currWin b) 3 && !s.pulled b.toNat

/-- The conditions of R182 that have to hold for t_settle. -/
def State.admissible (s : State) : Bool :=
  let present (b : Bool) : Bool := !s.flev (voltWin b) 2 && !s.flev (voltWin b) 0
  (present false || present true) && s.bit FEED_STAT.lever_latched 0 && !s.pulled 2 && !s.collapsed && !s.bit FEED_STAT.collapse 0

/-- The profile V_p at ramp time `t` µs as a sample word: V_start + dvdt × t, capped at V_in (R183). -/
def State.vProfile (s : State) (t : Nat) : Int := min s.vIn (openQuot (s.feed.vStart * 1000000 + s.feed.dvdt * t * 512) 1000000)

/-- QS59 lies more than 10 V (5,120 codes) below the profile in RAMP (R187). -/
def State.rampLow (s : State) : Bool :=
  s.ins == 1 && !s.feed.ghsHigh && decide (s.vIn > s.sample 59 + 5120) &&
    decide (s.feed.vStart * 1000000 + s.feed.dvdt * (s.bootUs - s.feed.rampAt : Nat) * 512 > (s.sample 59 + 5120) * 1000000)

/-- QS59 is at V_in − 1.0 V or above, with the WL level of window 1 at 0, in RAMP (R183). -/
def State.rampNear (s : State) : Bool :=
  s.ins == 1 && !s.feed.ghsHigh && decide (s.vIn - 512 ≤ s.sample 59) && !s.flev 1 2

/-- Every span of feed and insertion control, judged again after something that a condition reads has changed. -/
def State.judgeSpans (s : State) : State :=
  { s with feed := { s.feed with
      a := { s.feed.a with okFrom := s.span (s.gateOk false) s.feed.a.okFrom }
      b := { s.feed.b with okFrom := s.span (s.gateOk true) s.feed.b.okFrom }
      settleDue := if s.admissible then some (s.feed.settleDue.getD (s.bootUs + s.rd FEED_TIMING.t_settle 0 * 1000)) else none
      nearFrom := s.span s.rampNear s.feed.nearFrom
      lowFrom := s.span s.rampLow s.feed.lowFrom } }

/-- Both feed gates judged after the pull-downs have changed, with a pull-down of GHS (cause 6 or 7 and who) if one has been decided in the same
cycle: the causes of Table 8-4 that follow trip together (R188). -/
def State.judgePulls (s : State) (pull : Option (Nat × Nat)) : State :=
  let taken := s.gateTaken
  let s := (s.judgeGate false).judgeGate true
  (s.trip (s.pullCauses pull taken)).judgeSpans

/-! ## Gate confirmation -/

/-- A gate judged damaged (R186): 0 GDA, 1 GDB, 2 GHS. -/
def State.damage (s : State) (g : Nat) : State :=
  let volts := low 32 (s.sample (252 + g) * 32)
  let rec_ (s : State) : State := s.record Ev.FEED_FET_DAMAGED Src.feed [g, volts]
  if g = 2 then rec_ (s.ghsLow.setIns 5)
  else
    let s := rec_ (s.setGate (g == 1) 3)
    s.trip (s.pullCauses none (some 0))

/-- The GHS gate is confirmed while the T840 drives GHS high; at the end of the ramp the state becomes ON (R183, R186). -/
def State.confirmGhs (s : State) : State :=
  if s.feed.ghsHigh = true ∧ s.flev 8 2 = false then
    let s := { s with feed := { s.feed with ghsConfirmed := true } }
    if s.ins = 1 ∧ s.shadow_ = false then
      ({ s with feed := { s.feed with onAt := s.bootUs } }.setIns 2).record Ev.FEED_RAMP_DONE Src.feed [s.bootUs - s.feed.rampAt, s.eFet]
    else s
  else s

/-- The gate monitors judged at a sample of theirs: confirmation, or its loss while the output stays high. -/
def State.judgeMonitor (s : State) (g : Nat) : State :=
  let bad := s.flev (6 + g) 2
  if g = 2 then
    if s.feed.ghsConfirmed && s.feed.ghsHigh && bad then s.damage 2 else s.confirmGhs
  else
    let b := g == 1
    let f := s.side b
    if s.rd (gateFld b) 0 = 1 then
      if f.confirmed && bad then s.damage g
      else if !bad then s.setSide b { f with confirmed := true } else s
    else s

/-- The instant from which the collapse condition is absent (R169). -/
def State.judgeCollapse (s : State) : State :=
  if s.bit FEED_STAT.collapse 0 && !s.collapsed && s.zither.redriveFrom.isNone then
    { s with zither := { s.zither with redriveFrom := some s.bootUs } }
  else s

/-! ## The ramp -/

/-- A ramp starts with the settings then in force (R183, R184, R198). A discharge under way goes on (R196). -/
def State.rampStart (s : State) : State :=
  { s with feed := { s.feed with
      rampAt := s.bootUs, vStart := s.sample 59, dvdt := s.rd FEED_INRUSH.dvdt 0, iMax := s.rd FEED_INRUSH.i_max 0,
      eMax := s.rd FEED_INRUSH.e_fet_max 0, rampTo := s.rd FEED_TIMING.ramp_to 0, energy := 0, energyAp := 0, peak := 0, duty := 0,
      nearFrom := none, lowFrom := none, ghsHigh := false, ghsConfirmed := false } }.wr FEED_EFET.e_fet 0 0

/-- The closed loop of R183 at a quick aperture of RAMP: the hot-swap current above i_max lowers the duty, before all; else it rises while QS59 is
below the profile. By how much is a free value (log entry 81). -/
def State.rampLoop (s : State) (ap : Nat) : State :=
  if s.ins = 1 ∧ s.feed.ghsHigh = false then
    let step := Config.dutyStep ap
    let high := decide ((s.feed.iMax : Int) * 65536 < s.sample 58 * 640)
    let under := decide (s.sample 59 < s.vProfile (s.bootUs - s.feed.rampAt))
    { s with feed := { s.feed with duty := if !high && under then min 1000 (s.feed.duty + step) else s.feed.duty - step } }
  else s

/-- The GHS ball (Table 8-3): low, the pulse train of RAMP, or high; a pull-down, and a shadow in RAMP, holds it low (R107, R189, Table 21-3). -/
def State.ghsBall (s : State) : GhsLevel :=
  if !s.ghsDriven || s.pulled 2 then .low
  else if s.feed.ghsHigh then .high
  else .train s.feed.duty

/-- The channels whose latest samples share aperture `ap`. -/
def State.sameAp (s : State) (cs : List Nat) (ap : Nat) : Bool := cs.all fun c => (s.chan c).ap == ap

/-- The sag counts of both feeds at a quick aperture (Table 8-2): more than 1.0 V (512 codes) below the tray input. -/
def State.judgeSag (s : State) (ap : Nat) : State :=
  let step (s : State) (b : Bool) (c : Nat) : State :=
    s.setSide b { s.side b with sag := if s.sample c < s.vIn - 512 then min 20 ((s.side b).sag + 1) else 0 }
  if s.feed.sagAp = ap + 1 ∨ s.sameAp [60, 62] ap = false then s
  else step (step { s with feed := { s.feed with sagAp := ap + 1 } } false 60) true 62

/-- A quick aperture of RAMP: E_fet (R184), (V_in − V_QS59) × I_QS58 × 50 ns at the board scaling, and the loop of R183. -/
def State.addEnergy (s : State) (ap : Nat) : State :=
  if s.ins = 1 ∧ s.feed.energyAp ≠ ap + 1 ∧ s.sameAp [58, 59, 60, 62] ap then
    let e := s.feed.energy + (s.vIn - s.sample 59) * s.sample 58
    let s := { s with feed := { s.feed with energy := e, energyAp := ap + 1 } }
    (s.wr FEED_EFET.e_fet 0 s.eFet).rampLoop ap
  else s

/-- The data of FEED_SHORT_RAMP before retry_count (Table 8-13). -/
def State.shortData (s : State) (cause : Nat) : List Nat :=
  [cause, s.eFet, voltsOf (s.vProfile (s.bootUs - s.feed.rampAt)), voltsOf (s.sample 59)]

/-- The trip causes that a sample of a fixed channel decides, lowest first (R187, R188): 1 instant fuse, 4 energy, 8 a pull-down that takes the
last feed gate off, 9 output lost; then the gates of Table 8-2 move, and the timed fuse starts where WH sets. -/
def State.judgeFuses (s : State) (oc wh lost : Bool) : State :=
  let data (c : Nat) : List Nat := [c, ampsOf s.feed.peak]
  let c1 := if oc then [(1, Ev.FEED_OC_FAST, data 1)] else []
  let high := decide (s.ins = 1 ∧ s.feed.energy > (s.feed.eMax : Int) * 1000 * 1048576000)
  let c4 := if high then [(4, Ev.FEED_SHORT_RAMP, s.shortData 4)] else []
  let c9 := if lost && s.ins == 2 && !s.bit FEED_STAT.collapse 0 then [(9, Ev.FEED_OUT_LOST, data 9)] else []
  let taken := s.gateTaken
  let s := if wh then { s with feed := { s.feed with ocFrom := s.bootUs, tOc := s.rd FEED_TIMING.t_oc 0 } } else s
  let s := (s.judgeGate false).judgeGate true
  s.trip (c1 ++ c4 ++ s.pullCauses none taken ++ c9)

/-- What a sample of channel `c` at aperture `ap` does in feed and insertion control, after the windows: `was` are the levels FH and
WH of window 0 and WL of window 1 before the sample. -/
def State.feedSample (s : State) (c ap : Nat) (was : Bool × Bool × Bool) : State :=
  let s := if c = 58 ∧ s.insActive then { s with feed := { s.feed with peak := max s.feed.peak (s.sample 58) } } else s
  let worst (s : State) (b : Bool) : State :=
    if (s.side b).episode then s.setSide b { s.side b with worst := min (s.side b).worst (s.sample c) } else s
  let s := if c = 61 then worst s false else if c = 63 then worst s true else s
  let s := (s.judgeSag ap).addEnergy ap
  let s := s.judgeFuses (!was.1 && s.flev 0 0) (!was.2.1 && s.flev 0 1) (!was.2.2 && s.flev 1 2)
  let s := if 252 ≤ c ∧ c ≤ 254 then s.judgeMonitor (c - 252) else s
  s.judgeCollapse.judgeDisch.judgeSpans

/-- Command clear (Table 8-5), by command (0) or token (1): none where nothing is latched or damaged. -/
def State.feedClear (s : State) (by_ : Nat) : Option State :=
  let ins := s.ins == 4 || s.ins == 5
  let a := s.rd FEED_STAT.gda 0 == 3
  let b := s.rd FEED_STAT.gdb 0 == 3
  if ins || a || b then
    let t := if ins then s.setIns 0 else s
    let t := if a then t.wr FEED_STAT.gda 0 0 else t
    let t := if b then t.wr FEED_STAT.gdb 0 0 else t
    some ((t.wr FEED_STAT.retry_count 0 0).record Ev.FEED_CLEARED Src.feed [ins.toNat + 2 * a.toNat + 4 * b.toNat, by_])
  else none

end Sys2Proof.Machine
end

