-- ==== Sys2Proof/Machine/HarpOps.lean ====
section
/-!
DEFINITION. The harp arbiter (R203, R204) and the AVSBus masters (R219, R220).
-/
namespace Sys2Proof.Machine

def State.harp (s : State) (w : Nat) : Harp := Tab.get {} s.harps w
def State.setHarp (s : State) (w : Nat) (h : Harp) : State := { s with harps := Tab.set {} s.harps w h }

/-- The active rules that request a code of ward `w` (R107). -/
def State.harpRules (s : State) (w : Nat) : List Nat :=
  s.setts.activeRules.filter fun r => (s.rd RFX_ACT.wards r).testBit w

/-- The strongest code of the active rules (`HARP_WSTAT.rfx`). -/
def State.rfxCode (s : State) (w : Nat) : Nat := ((s.harpRules w).map (s.rd RFX_ACT.harp)).foldl max 0

/-- The strongest committed object code, 0 while objects are excluded (`HARP_WSTAT.obj`, R221). -/
def State.objCode (s : State) (w : Nat) : Nat :=
  if s.bit HARP_GSTAT.obj_excl 0 then 0 else ((s.requests 13 w).map (·.2)).foldl max 0

/-- walrt_code while WALRT# is qualified low (`HARP_WSTAT.walrt_req`). -/
def State.walrtCode (s : State) (w : Nat) : Nat :=
  if s.bit HARP_WSTAT.walrt w then s.rd HARP_WCTL.walrt_code w else 0

/-- The strongest request for ward `w` (R203). -/
def State.harpRequest (s : State) (w : Nat) : Nat :=
  max (max (s.rfxCode w) (s.objCode w)) (max (s.walrtCode w) (s.rd HARP_WCTL.floor w))

/-- The deciding source of a code, in the order of R224: rule (0, number), object (1, number), WALRT# (2), floor (3). -/
def State.harpSource (s : State) (w code : Nat) : List Nat :=
  match (s.harpRules w).find? (fun r => s.rd RFX_ACT.harp r == code) with
  | some r => [0, r]
  | none => match (if s.bit HARP_GSTAT.obj_excl 0 then none else (s.requests 13 w).find? (fun e => e.2 == code)) with
    | some e => [1, e.1]
    | none => if s.walrtCode w = code then [2, 0] else [3, 0]

/-- A stronger request takes effect at once (R204, R224). -/
def State.harpRaise (s : State) (w : Nat) : State :=
  let r := s.harpRequest w
  if s.rd HARP_WSTAT.code w < r then
    let s := ((s.setHarp w { s.harp w with changeAt := s.bootUs, upAt := some s.bootUs }).wr HARP_WSTAT.code w r).addSat HARP_WUPS.ups w 1
    if 2 ≤ r then s.record Ev.WARD_HARP_DEEP (Src.ward w) ([w, r] ++ s.harpSource w r) else s
  else s

/-- Every ward's request judged after something that requests has changed. -/
def State.harpJudge (s : State) : State :=
  s.when (s.settUp) fun s => each (List.range 8) (fun w s => s.harpRaise w) s

/-- The setpoint of a committed kind-12 value in mV, within v_min and v_max (R219). -/
def State.avsClamp (s : State) (w : Nat) (mv : Nat) : Nat :=
  max (s.rd HARP_AVSCFG.v_min w) (min (s.rd HARP_AVSCFG.v_max w) mv)

/-- The T840 drives the AVSBus pins: not in the shadow role (R222). -/
def State.avsDrives (s : State) (w : Nat) : Bool :=
  s.bit HARP_AVSCFG.enable w && s.rd TWIN_STAT.role 0 != 2

/-- The frame writes a setpoint. -/
def AvsFrame.writes : AvsFrame → Bool
  | .write _ _ => true
  | _ => false

/-- A frame started on ward `w`'s master, which drives the pins; else the master is idle and nothing is sent (R219, R222). -/
def State.avsStart (s : State) (w : Nat) (f : AvsFrame) : State :=
  if s.avsDrives w then
    (s.setHarp w { s.harp w with frame := some f, lastTry := if f.writes then s.bootUs else (s.harp w).lastTry }).wr HARP_AVSSTAT.busy w 1
  else (s.setHarp w { s.harp w with frame := none }).wr HARP_AVSSTAT.busy w 0

/-- A setpoint committed to ward `w`: sent at once with the master idle, else as the latest when it is next idle (R219). -/
def State.avsCommit (s : State) (w : Nat) (mv : Nat) : State :=
  let v := s.avsClamp w mv
  let s := if v = mv then s else s.wr HARP_AVSSTAT.clamped w 1
  let h := s.harp w
  let s := s.setHarp w { h with latest := some v, next := if h.frame.isSome then some v else none }
  if h.frame.isNone then s.avsStart w (.write v 0) else s

/-- The next frame of a master whose frame has ended: the waiting setpoint, if any. -/
def State.avsNext (s : State) (w : Nat) : State :=
  let h := s.harp w
  match h.next with
  | some v => (s.setHarp w { h with next := none }).avsStart w (.write v 0)
  | none => (s.setHarp w { h with frame := none }).wr HARP_AVSSTAT.busy w 0

end Sys2Proof.Machine
end

