-- ==== Sys2Proof/Machine/Yield.lean ====
section
/-!
DEFINITION. YLD: an engine's outputs take effect (R104, R135, R142 to R145).
-/
namespace Sys2Proof.Machine

/-- The effect of a committed value on the output's block (Table 6-6); pull-downs (kind 14) act together at the end of the yield. -/
def State.outEffect (s : State) (kind index : Nat) (v : Word) : State :=
  match kind with
  | 9 => s.refresh index
  | 10 => s.refresh (16 + index)
  | 11 => s.judgeFlows
  | 12 => s.avsCommit index (nearest (v.toInt * 1000) 65536).toNat
  | 13 => s.harpJudge
  | 15 => s.laserCommit index v.toNat
  | _ => s

/-- The identifier of the sett program pack of the active set, which declares program-defined codes (R144). -/
def State.packId (s : State) : Nat :=
  match (s.secure.set.bind fun m => entryOf m 2 0).bind fun e => s.stored e.digest with
  | some c => match c.content with
    | .programs p _ => p.toNat
    | _ => 0
  | none => 0

/-- The outstanding LEAK_CLEAR descriptors of a branch completed by the branch object's event (Table 16-14). -/
def State.leakAnswer (s : State) (branch status : Nat) : State :=
  each (List.range 32) (fun r s =>
    match (s.pair r).out.find? fun f => f.begun && f.desc.opcode.toNat == 0x0402 && descParam f.desc 0x2C 1 == branch with
    | some f => s.complete r f.slot status 0 0 false
    | none => s) s

/-- An event of an object recorded (R144): the high word first. -/
def State.objEvent (s : State) (obj code : Nat) (hi lo : Word) : State :=
  let prog := decide (0xF0 ≤ code % 256)
  let s := s.offer { s.mkRec code obj [hi.toNat, lo.toNat] with prog, packId := if prog then s.packId else 0 }
  if code = Ev.LEAK_CLEARED then s.leakAnswer hi.toNat St.ok
  else if code = Ev.LEAK_CLEAR_REFUSED then s.leakAnswer hi.toNat St.refusedState
  else s

/-- One entry of the output queue committed in cycle `c` by object `obj` on engine `n`. -/
def State.commitEntry (s : State) (n obj c : Nat) (q : OutEntry) : State :=
  match q with
  | .write kind index v =>
    { s with setts := { s.setts with outs := Tab.set 0 s.setts.outs (outKey obj kind index) v } }.outEffect kind index v
  | .port slot ward w0 w1 w2 w3 => s.portRequest obj slot ward w0 w1 w2 w3
  | .event code hi lo => s.objEvent obj code hi lo
  | .mail tag value => s.post { obj, engine := n, tag, value, cycle := c }

/-- An output entry for a pull-down, and one that requests that of GHS. -/
def OutEntry.pulls (q : OutEntry) : Bool := match q with
  | .write 14 _ _ => true
  | _ => false
def OutEntry.pullsGhs (q : OutEntry) : Bool := match q with
  | .write 14 2 v => v == 1
  | _ => false

/-- The output queue of object `obj` committed in cycle `c` of engine `n`: entry by entry, then the pull-downs of all of them (R104, R188). -/
def State.commitQueue (s : State) (n obj c : Nat) (l : List OutEntry) : State :=
  (each l (fun q s => s.commitEntry n obj c q) s).when (l.any OutEntry.pulls) fun s =>
    s.judgePulls (if l.any OutEntry.pullsGhs then some (7, obj) else none)

/-- The engine after its yield: the cycles used, and no overrun pending. -/
def Engine.yielded (e : Engine) : Engine :=
  { e with inTick := false, consec := 0, lastUsed := min 65535 e.used, maxUsed := max e.maxUsed (min 65535 e.used),
           queue := [], stores := [], undo := [] }

/-- YLD (R135): the output queue is committed in order, then the store buffer; bad parity in the queue faults the engine (R148). -/
def execEngYld (n : Nat) (s : State) : Out :=
  s.issue n .yld fun e s =>
    if e.badRegs.contains 21 && !e.queue.isEmpty then .fault 2
    else
      let c := e.cycle - 1
      let s := s.setEngine n e.yielded
      let s := s.inOneCycle fun s => s.commitQueue n e.obj c e.queue
      .done (each e.stores (fun w s => s.commitStore { cycle := c, engine := n, key := w.1, value := w.2 }) s)

end Sys2Proof.Machine
end

