-- ==== Sys2Proof/Machine/Governors.lean ====
section
/-!
DEFINITION. The governor objects (R210 to R218): what the ward governor and the tray governor do in a tick. Their programs are the sett program
pack's; the model runs such a tick whole, at its boundary (DESIGN CHOICE, log entry 82).
-/
namespace Sys2Proof.Machine

/-- The product of MUL (R134): rounded, saturated. -/
def mulQ (a b : Int) : Int := sat32 (mulRound a b)

/-- A number held within two bounds; the upper one stands where they cross. -/
def within (lo hi x : Int) : Int := min hi (max lo x)

/-! ## The ward governor -/

/-- What the ward governor reads of its inputs in a tick: powers and the core voltage in Q16.16, the ages of the telemetry (µs) and of slot 4w
(ticks), the WH level of the core current, and the four Marten slots. -/
structure GovIn where
  pavg : Int
  telem : Int
  telemAge : Nat
  wh : Bool
  age : Nat
  code : Int
  span : Int
  scale : Int
  offer : Int
  core : Int
deriving DecidableEq, Repr

/-- The firmware values of Table 9-6. -/
structure GovSet where
  pTrim : Int
  pDeep : Int
  pRel : Int
  tRel : Nat
  guard : Int
  gAge : Nat
  codeMax : Nat
  spanMax : Nat
  budget : Nat
  sMin : Int
  paAge : Nat
  vNom : Int
  mAcc : Int
  mMax : Int
  vDown : Int
deriving DecidableEq, Repr

/-- What the ward governor keeps: the counts of R212, its code, the ticks below T_rel, the pre-arm floor with the ticks left of its episode (0: none
runs), the window of R216 (ticks, ticks used, recorded), the setpoint and the margin in force in mV (Q16.16), the raise watch, and whether the
history is warm. -/
structure Gov where
  codeClamps : Nat := 0
  spanClamps : Nat := 0
  refused : Nat := 0
  scaleClamps : Nat := 0
  offerClamps : Nat := 0
  guards : Nat := 0
  code : Nat := 0
  below : Nat := 0
  floor : Nat := 0
  left : Nat := 0
  windowTick : Nat := 0
  used : Nat := 0
  told : Bool := false
  setpoint : Int := 0
  margin : Int := 0
  watch : Bool := false
  warm : Bool := false
deriving DecidableEq, Repr

/-- The history is warm (R211, R218). -/
def GovIn.warm (i : GovIn) (f : GovSet) : Bool := decide (i.age ≤ f.gAge)

/-- Pre-arm, scale and margin are taken: slot 4w is fresh, and the history warm (R211, R218). -/
def GovIn.fresh (i : GovIn) (f : GovSet) : Bool := decide (i.age ≤ f.paAge) && i.warm f

/-- The power that the ward governor judges (R211). -/
def GovIn.power (i : GovIn) : Int := if i.telemAge ≤ 3 then max i.pavg i.telem else i.pavg

/-- The threshold scale (Table 9-8). -/
def GovIn.scaled (i : GovIn) (f : GovSet) : Int := if i.fresh f then within f.sMin 65536 i.scale else 65536

/-- A threshold: × s × g (R211). -/
def GovIn.threshold (i : GovIn) (f : GovSet) (p : Int) : Int := mulQ (mulQ p (i.scaled f)) (if i.warm f then 65536 else f.guard)

/-- The pre-arm code that slot 4w asks, an integer, and the code within the object's bound (Table 9-8: HALT never). -/
def GovIn.asked (i : GovIn) (f : GovSet) : Int := if i.fresh f then Int.tdiv i.code 65536 else 0
def GovIn.bounded (i : GovIn) (f : GovSet) : Nat := (within 0 (min 2 f.codeMax) (i.asked f)).toNat

/-- The span of a new episode (Table 9-8). -/
def GovIn.spanned (i : GovIn) (f : GovSet) : Nat := (max 1 (min (f.spanMax : Int) (Int.tdiv i.span 65536))).toNat

/-- The margin taken (R217), in mV. -/
def GovIn.margin (i : GovIn) (f : GovSet) : Int := if i.fresh f then max 0 (min (min f.mAcc f.mMax) i.offer) else 0

/-- A new window of 1,000 ticks begins (R216). -/
def Gov.window (g : Gov) : Gov := if 1000 ≤ g.windowTick then { g with windowTick := 0, used := 0, told := false } else g

/-- The pre-arm episode of a tick (R215, R216). -/
def Gov.prearm (g : Gov) (f : GovSet) (i : GovIn) : Gov :=
  let spent := decide (f.budget ≤ g.used)
  let none_ : Gov := { g with floor := 0, left := 0 }
  let no : Gov := { none_ with refused := g.refused + 1 }
  let g := if g.left ≠ 0 then
      if g.left = 1 ∨ i.fresh f = false then none_
      else if spent then no
      else { g with floor := max g.floor (i.bounded f), left := g.left - 1 }
    else if 1 ≤ i.asked f then
      if spent then no
      else { g with floor := i.bounded f, left := i.spanned f, spanClamps := g.spanClamps + (decide (Int.tdiv i.span 65536 ≠ i.spanned f)).toNat }
    else none_
  { g with windowTick := g.windowTick + 1, used := g.used + (decide (0 < g.floor)).toNat }

/-- The setpoint of a tick (R217). -/
def Gov.setVolts (g : Gov) (f : GovSet) (i : GovIn) : Gov :=
  let target := f.vNom * 1000 - i.margin f
  let g := if g.setpoint < target then { g with setpoint := target, watch := true }
    else { g with setpoint := max target (g.setpoint - f.vDown) }
  { g with watch := g.watch && !decide ((i.core * 1000 - g.setpoint).natAbs ≤ 655360), margin := i.margin f }

/-- The least code a tick asks for (R211). -/
def Gov.want (g : Gov) (f : GovSet) (i : GovIn) : Nat :=
  let p := i.power
  let t := if i.threshold f f.pDeep ≤ p then 2 else if i.threshold f f.pTrim ≤ p then 1 else 0
  let sag := g.watch && decide (i.core * 1000 < g.setpoint - 655360)
  max (max t (i.wh || sag).toNat) g.floor

/-- The code of a tick (R211). -/
def Gov.choose (g : Gov) (f : GovSet) (i : GovIn) : Gov :=
  let want := g.want f i
  if g.code ≤ want then { g with code := want, below := 0 }
  else if i.power < i.threshold f f.pRel then
    if f.tRel ≤ g.below + 1 then { g with code := g.code - 1, below := 0 } else { g with below := g.below + 1 }
  else { g with below := 0 }

/-- The counts of values clamped in a tick, and of entries into the guard (R212, R214). -/
def Gov.counted (g : Gov) (f : GovSet) (i : GovIn) : Gov :=
  { g with
    codeClamps := g.codeClamps + (decide (i.asked f ≠ i.bounded f)).toNat
    scaleClamps := g.scaleClamps + (i.fresh f && decide (i.scale ≠ i.scaled f)).toNat
    offerClamps := g.offerClamps + (i.fresh f && decide (i.offer ≠ i.margin f)).toNat
    guards := g.guards + (g.warm && !i.warm f).toNat
    warm := i.warm f }

/-- One tick of the ward governor. -/
def Gov.tick (g : Gov) (f : GovSet) (i : GovIn) : Gov :=
  let g := (((g.window.prearm f i).setVolts f i).choose f i).counted f i
  if f.budget ≤ g.used then { g with told := true } else g

/-- A signed number as a data word of an event. -/
def dataWord (i : Int) : Word := BitVec.ofInt 32 i

/-- The events of a tick of ward `w`'s governor (R212, R216, R217): `g` before it, `t` after it. -/
def Gov.events (g t : Gov) (f : GovSet) (i : GovIn) (w : Nat) : List OutEntry :=
  let ward := BitVec.ofNat 32 w
  (if g.warm && !t.warm then [.event Ev.WARD_GUARD_ON ward 0] else []) ++
  (if !g.warm && t.warm then [.event Ev.WARD_GUARD_OFF ward 0] else []) ++
  (if t.told && !g.window.told then [.event Ev.WARD_PREARM_BUDGET ward (BitVec.ofNat 32 t.used)] else []) ++
  (if decide (0 < g.margin ∧ t.margin = 0) && !i.fresh f then [.event Ev.WARD_MARGIN_WITHDRAWN ward (dataWord g.margin)] else [])

/-- The words of the private area in which the ward governor keeps its state: the counts where R212 puts them, the rest after them (DESIGN CHOICE,
log entry 82). -/
def Gov.words (g : Gov) : List Word :=
  [g.codeClamps, g.spanClamps, g.refused, g.scaleClamps, g.offerClamps, g.guards, g.code, g.below, g.floor, g.left, g.windowTick, g.used,
   g.told.toNat + 2 * g.watch.toNat + 4 * g.warm.toNat].map (BitVec.ofNat 32) ++ [dataWord g.setpoint, dataWord g.margin]

/-- The state kept in the private area. -/
def State.gov (s : State) (n : Nat) : Gov :=
  let x (k : Nat) : Nat := (s.priv n (4 * k)).toNat
  { codeClamps := x 0, spanClamps := x 1, refused := x 2, scaleClamps := x 3, offerClamps := x 4, guards := x 5, code := x 6, below := x 7,
    floor := x 8, left := x 9, windowTick := x 10, used := x 11, told := (x 12).testBit 0, watch := (x 12).testBit 1, warm := (x 12).testBit 2,
    setpoint := (s.priv n 0x34).toInt, margin := (s.priv n 0x38).toInt }

/-- The firmware values of engine `n`'s ward governor. -/
def State.govSet (s : State) (n : Nat) : GovSet :=
  let i (off : Nat) : Int := (s.priv n off).toInt
  let u (off : Nat) : Nat := (s.priv n off).toNat
  { pTrim := i 0x780, pDeep := i 0x784, pRel := i 0x788, tRel := u 0x78C, guard := i 0x790, gAge := u 0x794, codeMax := u 0x798, spanMax := u 0x79C,
    budget := u 0x7A0, sMin := i 0x7A4, paAge := u 0x7A8, vNom := i 0x7AC, mAcc := i 0x7B0, mMax := i 0x7B4, vDown := i 0x7B8 }

/-- The inputs of a ward governor in the snapshot (Table 9-5). -/
def Engine.govIn (e : Engine) : GovIn :=
  { pavg := (e.seen 0 1).toInt, telem := (e.seen 2 0).toInt, telemAge := (e.seen 2 1).toNat, wh := (e.seen 1 0).getLsbD 1,
    age := (e.seen 3 1).toNat, code := (e.seen 3 0).toInt, span := (e.seen 4 0).toInt, scale := (e.seen 5 0).toInt, offer := (e.seen 6 0).toInt,
    core := (e.seen 9 1).toInt }

/-- A setpoint in mV (Q16.16) as the kind-12 value in V; its rounding is not stated. -/
def setpointVolts (mv : Int) : Word := dataWord (openQuot mv 1000)

/-! ## The tray governor -/

/-- What the tray governor reads: meter 2's PAVG, V_in, the forecast of slot 32 and its age. -/
structure TrayIn where
  pavg : Int
  vin : Int
  forecast : Int
  age : Nat
deriving DecidableEq, Repr

/-- The firmware values of Table 9-7. -/
structure TraySet where
  frac : Int
  rating : Int
  pMax : Int
  rel : Int
  tRel : Nat
  guard : Int
  gAge : Nat
  order : Nat
  fcMax : Nat
deriving DecidableEq, Repr

/-- What the tray governor keeps: the shed level, the ticks below release, whether the history is warm. -/
structure TrayGov where
  level : Nat := 0
  below : Nat := 0
  warm : Bool := false
deriving DecidableEq, Repr

def TrayIn.warm (i : TrayIn) (f : TraySet) : Bool := decide (i.age ≤ f.gAge)

/-- Slot 32 is fresh. Table 9-7 has no pa_age; the model takes the default of Table 9-6, and no forecast under the guard (DESIGN CHOICE, log entry
82). -/
def TrayIn.fresh (i : TrayIn) (f : TraySet) : Bool := decide (i.age ≤ 4) && i.warm f

/-- The cap (R213 step 1). -/
def TrayIn.cap (i : TrayIn) (f : TraySet) : Int :=
  mulQ (min f.pMax (mulQ (mulQ f.frac f.rating) i.vin)) (if i.warm f then 65536 else f.guard)

/-- P_eff (R213 step 2). -/
def TrayIn.power (i : TrayIn) (f : TraySet) : Int := if i.fresh f then max i.pavg i.forecast else i.pavg

/-- One tick of the tray governor (R213 steps 3 and 4). -/
def TrayGov.tick (g : TrayGov) (f : TraySet) (i : TrayIn) : TrayGov :=
  let cap := i.cap f
  let g := { g with warm := i.warm f }
  if cap ≤ i.power f then
    let top := if cap ≤ i.pavg then 16 else min 16 f.fcMax
    { g with level := if g.level < top then g.level + 1 else g.level, below := 0 }
  else if i.power f < mulQ cap (65536 - f.rel) then
    if f.tRel ≤ g.below + 1 then { g with level := g.level - 1, below := 0 } else { g with below := g.below + 1 }
  else { g with below := 0 }

/-- The code that shed level `l` asks of the ward at position `j` of shed_order (R213 step 5). -/
def shedCode (l j : Nat) : Nat := if j + 8 < l then 2 else if j < l then 1 else 0

/-- The requests of a tick: each ward that shed_order names, by its position. -/
def TrayGov.requests (g : TrayGov) (f : TraySet) (e : Engine) : List OutEntry :=
  (List.range 8).filterMap fun j =>
    let w := f.order / 16 ^ j % 16
    if e.bind (4 + w) = (13, w) then some (.write 13 w (BitVec.ofNat 32 (shedCode g.level j))) else none

/-- The events of a tick of the tray governor (R212, R213): 0xFF stands for it. -/
def TrayGov.events (g t : TrayGov) (f : TraySet) (i : TrayIn) : List OutEntry :=
  (if g.warm && !t.warm then [.event Ev.WARD_GUARD_ON 0xFF 0] else []) ++
  (if !g.warm && t.warm then [.event Ev.WARD_GUARD_OFF 0xFF 0] else []) ++
  (if g.level = 0 ∧ t.level ≠ 0 then [.event Ev.WARD_TRAY_SHED (dataWord (i.power f)) (dataWord (i.cap f))] else []) ++
  (if g.level ≠ 0 ∧ t.level = 0 then [.event Ev.WARD_TRAY_RELEASE (dataWord (i.power f)) (dataWord (i.cap f))] else [])

/-- The words of the private area in which the tray governor keeps its state (DESIGN CHOICE, log entry 82). -/
def TrayGov.words (g : TrayGov) : List Word := [g.level, g.below, g.warm.toNat].map (BitVec.ofNat 32)

def State.trayGov (s : State) (n : Nat) : TrayGov :=
  { level := (s.priv n 0).toNat, below := (s.priv n 4).toNat, warm := (s.priv n 8).toNat.testBit 0 }

def State.traySet (s : State) (n : Nat) : TraySet :=
  let i (off : Nat) : Int := (s.priv n off).toInt
  let u (off : Nat) : Nat := (s.priv n off).toNat
  { frac := i 0x780, rating := i 0x784, pMax := i 0x788, rel := i 0x78C, tRel := u 0x790, guard := i 0x794, gAge := u 0x798, order := u 0x79C,
    fcMax := u 0x7A0 }

def Engine.trayIn (e : Engine) : TrayIn :=
  { pavg := (e.seen 0 1).toInt, vin := max (e.seen 1 1).toInt (e.seen 2 1).toInt, forecast := (e.seen 3 0).toInt, age := (e.seen 3 1).toNat }

/-! ## A tick on an engine -/

/-- The tick of such an object ends: its state kept in the private area, its entries committed. -/
def State.objectTick (s : State) (n cycles : Nat) (keep : List Word) (out : List OutEntry) : State :=
  let e := s.engine n
  let s := s.putPriv n 0 keep
  (s.setEngine n { e with used := cycles }.yielded).commitQueue n e.obj (e.cycle - 1) out

/-- A tick that reads an uncorrectable private word, or whose bindings are not those of its program, faults (R111, R142); corrected words
of what it reads are counted (Table 17-8). -/
def State.objectReads (s : State) (n : Nat) (offs : List Nat) (ok : Bool) (t : State) : State :=
  match s.badPriv n offs with
  | some k => s.engUncorr n k
  | none =>
    if ok then each (((offs.map fun a => privKey n a / 8).eraseDups).filter fun c => s.shFound (8 * c) == .corrected) (fun _ t => t.memCorr 5) t
    else s.engFault n 3

/-- A tick of the ward governor on engine `n` (R211). -/
def State.wardGovTick (s : State) (n : Nat) : State :=
  let e := s.engine n
  let f := s.govSet n
  let i := e.govIn
  let g := s.gov n
  let t := g.tick f i
  let w := e.govWard.getD 0
  s.objectReads n ((List.range 15).map (4 * ·) ++ (List.range 15).map (0x780 + 4 * ·)) e.govWard.isSome
    (s.objectTick n 118 t.words
      (g.events t f i w ++ [.write 13 w (BitVec.ofNat 32 t.code), .write 12 w ((outputValue 12 (setpointVolts t.setpoint)).getD (0, false)).1]))

/-- A tick of the tray governor on engine `n` (R213). -/
def State.trayGovTick (s : State) (n : Nat) : State :=
  let e := s.engine n
  let f := s.traySet n
  let i := e.trayIn
  let g := s.trayGov n
  let t := g.tick f i
  s.objectReads n ([0, 4, 8] ++ (List.range 9).map (0x780 + 4 * ·)) e.govTray (s.objectTick n 96 t.words (g.events t f i ++ t.requests f e))

end Sys2Proof.Machine
end

