-- ==== Sys2Proof/Machine/Branches.lean ====
section
/-!
DEFINITION. The branch leak object: what it latches, holds off and records at a tick of its engine (R293, R294, R296).
-/
namespace Sys2Proof.Machine

/-- What a branch object keeps: its latches, the half-microsecond of the tray latch, the clear_seq it has answered, and the highest class recorded of each
rope slot's onset, two bits a slot. -/
structure Branch where
  branch : Bool := false
  tray : Bool := false
  trayAt : Nat := 0
  seq : Word := 0
  worst : Nat := 0
deriving DecidableEq, Repr

/-- What it reads of a rope slot: the slot's role and the word of window levels of its channel. -/
structure Rope where
  slot : Nat
  channel : Nat
  role : Nat
  levels : Word
deriving DecidableEq, Repr

/-- The highest class that the levels show: 0 dry, 1 moisture (A WL), 2 wet (A FL), 3 flooded (B FL) (Table 12-3). -/
def Rope.cls (r : Rope) : Nat := if r.levels.getLsbD 19 then 3 else if r.levels.getLsbD 3 then 2 else if r.levels.getLsbD 2 then 1 else 0

/-- The rope number, 0 to 15. -/
def Rope.number (r : Rope) : Nat := r.channel - 288

/-- The rope slots with a role. -/
def Engine.ropes (e : Engine) (roles : Word) : List Rope :=
  (List.range 10).filterMap fun k =>
    let role := (roles.extractLsb' (2 * k) 2).toNat
    if role ≠ 0 ∧ (e.bind (6 + k)).1 = 2 then some { slot := k, channel := (e.bind (6 + k)).2, role, levels := e.seen (6 + k) 0 } else none

/-- The highest class recorded of slot `k`'s onset. -/
def Branch.worstOf (b : Branch) (k : Nat) : Nat := b.worst / 4 ^ k % 4

def Branch.setWorst (b : Branch) (k c : Nat) : Branch := { b with worst := b.worst - b.worstOf k * 4 ^ k + c * 4 ^ k }

/-- A rope judged: its latches, and the class of its onset, which ends when the rope is dry (R294). -/
def Branch.judge (b : Branch) (r : Rope) (now : Nat) : Branch :=
  let c := r.cls
  let b := b.setWorst r.slot (if c = 0 then 0 else max c (b.worstOf r.slot))
  let b := if 2 ≤ c ∧ (r.role = 1 ∨ r.role = 3) then { b with branch := true } else b
  if c = 3 ∧ (r.role = 2 ∨ r.role = 3) ∧ b.tray = false then { b with tray := true, trayAt := now } else b

/-- What the object does now, as a mask: bit 0 the valve closed, bit 1 the hold-offs, bit 2 the pull-down of GHS (R294). -/
def Branch.actions (b : Branch) (now ghsMs : Nat) : Nat :=
  b.branch.toNat + 2 * (b.branch || b.tray).toNat + 4 * (b.tray && decide (b.trayAt + 2000 * ghsMs ≤ now)).toNat

/-- The words of the private area in which the object keeps its state (DESIGN CHOICE, log entry 88). -/
def Branch.words (b : Branch) : List Word :=
  [BitVec.ofNat 32 (b.branch.toNat + 2 * b.tray.toNat), BitVec.ofNat 32 b.trayAt, BitVec.ofNat 32 (b.trayAt / 2 ^ 32), b.seq, BitVec.ofNat 32 b.worst]

def State.branchOf (s : State) (n : Nat) : Branch :=
  { branch := (s.priv n 0).getLsbD 0, tray := (s.priv n 0).getLsbD 1, trayAt := (s.priv n 4).toNat + 2 ^ 32 * (s.priv n 8).toNat, seq := s.priv n 12,
    worst := (s.priv n 16).toNat }

/-- The outputs that the actions ask of the object's bindings; `all` also those that it releases (R294, R296). -/
def Engine.branchWrites (e : Engine) (actions : Nat) (all : Bool) : List OutEntry :=
  let ask (bit kind slot : Nat) : List OutEntry :=
    let b := e.bind slot
    if b.1 = kind ∧ (all || actions.testBit bit) = true then [.write kind b.2 (BitVec.ofNat 32 (actions.testBit bit).toNat)] else []
  ask 0 11 0 ++ [1, 2, 3, 4].flatMap (ask 1 8) ++ ask 2 14 5

/-- The event of a rope whose class is above the highest recorded of its onset, with its sample word, the branch and the actions; its places in the
two data words are the model's (DESIGN CHOICE, log entry 88). -/
def Rope.event (r : Rope) (sample branch actions : Nat) : OutEntry :=
  let code := if r.cls = 3 then Ev.LEAK_FLOODED else if r.cls = 2 then Ev.LEAK_WET else Ev.LEAK_MOISTURE
  .event code (BitVec.ofNat 32 (r.number * 65536 + sample)) (BitVec.ofNat 32 (branch * 65536 + actions))

/-- The bindings of Table 12-4. -/
def Engine.branchBound (e : Engine) : Bool :=
  ((e.bind 0).1 == 11 || (e.bind 0).1 == 0) && [1, 2, 3, 4].all (fun k => (e.bind k).1 == 8 || (e.bind k).1 == 0) && e.bind 5 == (14, 2) &&
  (List.range 10).all fun k => (e.bind (6 + k)).1 == 2 || (e.bind (6 + k)).1 == 0

/-- A tick of the branch leak object on engine `n` (R294, R296). -/
def State.branchTick (s : State) (n : Nat) : State :=
  let e := s.engine n
  let ropes := e.ropes (s.priv n 0x780)
  let ghs := (s.priv n 0x78C).toNat
  let seq := s.priv n 0x788
  let b := s.branchOf n
  let wet := ropes.filter fun r => r.levels.getLsbD 2
  let t := ropes.foldl (fun t r => t.judge r e.tickAt) b
  let asks := b.seq != seq
  let clears := asks && wet.isEmpty
  let t := if clears then { t with branch := false, tray := false, seq } else { t with seq }
  let act := t.actions e.tickAt ghs
  let branch := (e.bind 0).2
  let told := (ropes.filter fun r => decide (b.worstOf r.slot < r.cls)).map fun r => r.event (s.rd SNS_CHSAMP.sample r.channel) branch act
  let answer := if asks then [OutEntry.event (if clears then Ev.LEAK_CLEARED else Ev.LEAK_CLEAR_REFUSED) (BitVec.ofNat 32 branch)
    (BitVec.ofNat 32 (wet.map fun r => 2 ^ r.number).sum)] else []
  s.objectReads n ((List.range 5).map (4 * ·) ++ [0x780, 0x788, 0x78C]) e.branchBound
    (s.objectTick n 92 t.words (told ++ e.branchWrites act clears ++ answer))

end Sys2Proof.Machine
end

