-- ==== Sys2Proof/Machine/SenseOps.lean ====
section
/-!
DEFINITION. Windows, meters, calibration (04).
-/
namespace Sys2Proof.Machine

/-! ## Windows (R84 to R88) -/

/-- A threshold moved by the hysteresis, at the limits of the 16-bit range (R84). -/
def clamp16 (i : Int) : Int := max (-32768) (min 32767 i)

/-- The enable, threshold and side (high) of threshold `k` of a window: 0 FH, 1 WH, 2 WL, 3 FL. -/
def WinSet.threshold (w : WinSet) : Nat → Bool × Int × Bool
  | 0 => (w.fhEn, w.fh, true)
  | 1 => (w.whEn, w.wh, true)
  | 2 => (w.wlEn, w.wl, false)
  | _ => (w.flEn, w.fl, false)

/-- A sample meets the set condition, the clear condition of a threshold (R84). -/
def setsLevel (high : Bool) (t v : Int) : Bool := if high then decide (t ≤ v) else decide (v ≤ t)
def clearsLevel (high : Bool) (t hyst v : Int) : Bool :=
  if high then decide (v < clamp16 (t - hyst)) else decide (clamp16 (t + hyst) < v)

/-- The filter counts after a sample (R85): a sample that satisfies neither condition restarts both. -/
def Filt.step (f : Filt) (sets clears : Bool) : Filt where
  sets := if sets then min 255 (f.sets + 1) else 0
  clears := if clears then min 255 (f.clears + 1) else 0

/-- The level after a sample: set or cleared by `n` consecutive samples. -/
def Filt.level (f : Filt) (n : Nat) (was : Bool) : Bool :=
  if n ≤ f.sets then true else if n ≤ f.clears then false else was

/-- Threshold `k` of window `x` on sample `v`: its filter, its level, and the edge it fires (bit 2k set, 2k + 1 clear). -/
def State.judgeThreshold (s : State) (x : Nat) (v : Int) (k : Nat) : State :=
  let w := s.active x
  let (en, t, high) := w.threshold k
  if en then
    let st := s.win x
    let f := (Tab.get {} st.filt k).step (setsLevel high t v) (clearsLevel high t w.hyst v)
    let was := s.level x k
    let now := f.level w.filter was
    let edge := if now && !was then 2 ^ (2 * k) else if was && !now then 2 ^ (2 * k + 1) else 0
    (s.setWin x { st with filt := Tab.set {} st.filt k f, edges := st.edges + edge }).wrBit (levelFld k) x now
  else s

/-- The signals of the edges in a mask of window `x` (R89). -/
def edgeSignals (x mask : Nat) : List Nat :=
  ((List.range 8).filter mask.testBit).map fun j => x / 2 * 32 + x % 2 * 16 + 4 + j

/-- Window `x` on sample `v`: an armed window judges every enabled threshold; one that is not yields nothing (R84, R91). -/
def State.judgeWindow (s : State) (x : Nat) (v : Int) : State :=
  let s := s.setWin x { s.win x with edges := 0 }
  if (s.active x).arm then
    let s := each [0, 1, 2, 3] (fun k s => s.judgeThreshold x v k) s
    if (s.active x).edgeEn then
      { s with sense := { s.sense with edgeQueue := s.sense.edgeQueue ++ edgeSignals x (s.win x).edges } }
    else s
  else s

/-- The edges of window `x` gone, its levels kept: a frozen window (Table 4-6). -/
def State.freezeWindow (s : State) (x : Nat) : State := s.setWin x { s.win x with edges := 0 }

/-- Every level of window `x` at 0, no edge fired (R87, R524). -/
def State.clearLevels (s : State) (x : Nat) : State :=
  let s := s.setWin x { s.win x with edges := 0, filt := [] }
  each [0, 1, 2, 3] (fun k s => s.wr (levelFld k) x 0) s

/-- The shadow becomes the active settings (R87): counts restart, levels stay, a disabled threshold or a window that is not armed has
its levels at 0. -/
def State.applyWindow (s : State) (x : Nat) : State :=
  let w := s.shadow x
  let was := (s.active x).arm
  let s := (s.setWin x { act := if w = resetSettings x then none else some w }).wr SNS_WSTAT.order_err x 0
  if w.arm && was then each [0, 1, 2, 3] (fun k s => if (w.threshold k).1 then s else s.wr (levelFld k) x 0) s
  else s.clearLevels x

/-- An engine notes the edges of a channel that it binds through kind 2. -/
def Engine.noteEdges (e : Engine) (c m : Nat) : Engine :=
  if e.binds.any (fun b => b.2 == (2, c)) then { e with edges := Tab.set 0 e.edges c (Tab.get 0 e.edges c ||| m) } else e

/-- The edges of the latest sample, collected for the engines that bind the channel's window signals (R141). -/
def State.collectEdges (s : State) (c : Nat) : State :=
  let m := (s.win (2 * c)).edges * 16 + (s.win (2 * c + 1)).edges * 1048576
  if m = 0 then s else
    { s with setts := { s.setts with engines := s.setts.engines.map fun p => (p.1, p.2.noteEdges c m) } }

/-! ## Meters (R92, R93) -/

/-- A sample word as the number its type encodes (Table 4-2). -/
def wordVal (c w : Nat) : Int := if 64 ≤ c ∧ c ≤ 255 then w else signed16 w

/-- The denominators of meter arithmetic: exact power in units of 2^-62 W; energy in units of 2^-62/20 µJ. -/
def powerUnit : Nat := 2 ^ 62
def energyUnit : Nat := 20 * 2 ^ 62

/-- Energy added to one accumulator: the count in µJ and the fraction carried (R93). -/
def addEnergyUnits (acc frac add : Nat) : Nat × Nat × Bool :=
  let t := frac + add
  let n := acc + t / energyUnit
  if 2 ^ 64 - 1 ≤ n then (2 ^ 64 - 1, t % energyUnit, true) else (n, t % energyUnit, false)

/-- Meter `m` at a common aperture: `p` is the exact product, `dt` its span in units of 50 ns (R92, R93). -/
def State.meterStep (s : State) (m : Nat) (p : Int) (dt : Nat) : State :=
  let t := s.meter m
  let s := s.wr SNS_MTR_P.p m (fit32 (nearest (p * 1000) powerUnit))
  let t := { t with sum := t.sum + p, count := t.count + 1 }
  if 0 ≤ p then
    let (n, f, sat) := addEnergyUnits (s.rd SNS_MTR_EF.ef m) t.fracF (p.toNat * dt)
    let s := (s.setMeter m { t with fracF := f }).wr SNS_MTR_EF.ef m n
    if sat then s.wr SNS_MTR_STAT.ef_sat m 1 else s
  else
    let (n, f, sat) := addEnergyUnits (s.rd SNS_MTR_ER.er m) t.fracR ((-p).toNat * dt)
    let s := (s.setMeter m { t with fracR := f }).wr SNS_MTR_ER.er m n
    if sat then s.wr SNS_MTR_STAT.er_sat m 1 else s

/-- Meter `m` on a sample of channel `c` at aperture `ap`: the product is formed when both channels have given the aperture, which is
every quick aperture for two quick channels and every 20th otherwise (R92). -/
def State.meterSample (s : State) (c ap word : Nat) (m : Nat) : State :=
  let vc := s.rd SNS_MTR_CFG.v_chan m
  let ic := s.rd SNS_MTR_CFG.i_chan m
  let quick := decide (vc < 64 ∧ ic < 64)
  if s.bit SNS_MTR_CFG.enable m && (vc == c || ic == c) && (quick || ap % 20 == 0) then
    let val := wordVal c word * signed32 (s.rd SNS_CHSCALE.scale c)
    let t := s.meter m
    let t := if vc = c then { t with v := some (ap, val) } else t
    let t := if ic = c then { t with i := some (ap, val) } else t
    let s := s.setMeter m t
    match t.v, t.i with
    | some (a, v), some (b, i) => if a = ap ∧ b = ap then s.meterStep m (v * i) (if quick then 1 else 20) else s
    | _, _ => s
  else s

/-! ## Calibration (R77 to R82) -/

/-- The latest serving die temperature of a channel (R82): the hotter valid sensor of its pair, in 1/128 °C. -/
def State.dieTemp (s : State) (c : Nat) : Option Int :=
  let p := if 64 ≤ c ∧ c ≤ 255 then 2 else 0
  let t (k : Nat) : Option Int := if s.bit SNS_DIETEMP.valid k then some (signed16 (s.rd SNS_DIETEMP.temp k)) else none
  match t p, t (p + 1) with
  | some a, some b => some (max a b)
  | some a, none => some a
  | none, r => r

/-- The spares of a channel's kind left in the pool. -/
def spareFld (c : Nat) : Fld := if c < 64 then SNS_CALSTAT.quick_spares else SNS_CALSTAT.general_spares

/-- Channels of the kind of `c` (quick or general) under recalibration. -/
def State.inCal (s : State) (c : Nat) : Nat :=
  (s.sense.channels.filter fun e => e.2.phase != .idle && decide (e.1 < 64 ↔ c < 64)).length

/-- Recalibration of channel `c` starts at aperture `ap`: a spare connects (Table 4-5, t0). -/
def State.calStart (s : State) (ap c : Nat) : State :=
  ({ s with sense := { s.sense with waiting := s.sense.waiting.filter (· != c) } }.setChan c
    { s.chan c with phase := .paired, attempt := 1, calAp := ap }).wr SNS_CHSTAT.cal_busy c 1

/-- 64 apertures of channel `c` in quick apertures (Table 4-5). -/
def calSpan (c : Nat) : Nat := if c < 64 then 64 else 1280

/-- The lowest waiting channel of a kind. -/
def State.nextCal (s : State) (quick : Bool) : Option Nat :=
  (s.sense.waiting.filter fun c => decide (c < 64) == quick && (s.chan c).phase == .idle).min?

/-- A waiting channel of the kind starts where a spare is free (R77, R78). -/
def State.calNext (s : State) (ap : Nat) (quick : Bool) : State :=
  match s.nextCal quick with
  | some c => if s.inCal c < s.rd (spareFld c) 0 then s.calStart ap c else s
  | none => s

/-- With no spare of a kind left, its channels stop waiting and the event is recorded once (R80). Its datum is the kind: 1 quick, 0 general
(DESIGN CHOICE, log entry 78). -/
def State.calExhausted (s : State) (quick : Bool) : State :=
  let c := if quick then 0 else 64
  if s.rd (spareFld c) 0 = 0 ∧ s.sense.waiting.any (fun d => decide (d < 64) == quick) then
    let done := if quick then s.sense.quickOut else s.sense.generalOut
    let s := { s with sense := { s.sense with waiting := s.sense.waiting.filter fun d => decide (d < 64) != quick } }
    if done then s else
      { s with sense := if quick then { s.sense with quickOut := true } else { s.sense with generalOut := true } }.record
        Ev.INT_SPARE_EXHAUSTED Src.sense [quick.toNat]
  else s

/-- The pass over all channels has ended when none waits and none is under recalibration. -/
def State.calIdle (s : State) : State :=
  if s.sense.waiting.isEmpty && s.sense.channels.all (fun e => e.2.phase == .idle) then s.wr SNS_CALSTAT.pass_busy 0 0 else s

/-- Waiting channels started, four of each kind at most, in ascending order (R77). -/
def State.calRun (s : State) (ap : Nat) : State :=
  let s := (s.calExhausted true).calExhausted false
  (upTo 4 (fun _ s => (s.calNext ap true).calNext ap false) s).calIdle

/-- The switched domain of channel `c` (Table 3-8). -/
def chanDomain (c : Nat) : Nat := if c < 64 then 40 + c / 8 else if c < 256 then 48 + (c - 64) / 32 else 54

/-- The channels of sense domain `d`. -/
def domainChannels (d : Nat) : List Nat := (List.range 256).filter fun c => chanDomain c == d

/-- A pass over every quick and general channel whose domain is on (R77). -/
def State.calPass (s : State) : State :=
  ({ s with sense := { s.sense with
      waiting := (List.range 256).filter (fun c => !s.sense.off.contains (chanDomain c)), calStart := s.bootUs } }.wr
    SNS_CALSTAT.pass_busy 0 1).calRun (20 * s.bootUs)

/-- A channel calibrated now: its age and serving temperature (R80, R82). -/
def State.calDone (s : State) (c : Nat) : State :=
  (s.setChan c { s.chan c with phase := .idle, attempt := 0, calTick := s.bootUs, calTemp := s.dieTemp c }).wr SNS_CHSTAT.cal_busy c 0

/-- A recalibration that has failed ends with the spare in place for good (R79): the channel has not been calibrated, so its age and its kept
temperature stay (DESIGN CHOICE, log entry 78). -/
def State.calSpared (s : State) (c : Nat) : State :=
  let s := (s.setChan c { s.chan c with phase := .idle, attempt := 0 }).wr SNS_CHSTAT.cal_busy c 0
  (((s.wr SNS_CHSTAT.spared c 1).wr SNS_CHSTAT.stand_in c 1).wr (spareFld c) 0 (s.rd (spareFld c) 0 - 1)).record
    Ev.INT_ADC_SPARED Src.sense [c]

/-- The tick and the serving die temperature of a channel's last calibration (R82): a remote-diode or leak front-end calibrates between its
1 ms conversions (R81). -/
def State.lastCal (s : State) (c : Nat) : Nat × Option Int :=
  if c < 256 then ((s.chan c).calTick, (s.chan c).calTemp) else (s.bootUs, s.dieTemp c)

/-- A sense domain switched off loses what its front-ends hold, and its outputs read as after reset (R67, R91); a converter's permanent
substitution stands (R79). -/
def State.domainOff (s : State) (d : Nat) : State :=
  let s := { s with sense := { s.sense with
    off := d :: s.sense.off.filter (· != d), waiting := s.sense.waiting.filter fun c => chanDomain c != d } }
  each (domainChannels d) (fun c s =>
    let s := (s.setChan c {}).wr SNS_CHSTAT.stand_in c (s.rd SNS_CHSTAT.spared c)
    each [SNS_CHSAMP.sample, SNS_CHSAMP.aperture, SNS_CHSTAT.cal_busy, SNS_CHSTAT.fault, SNS_CHSTAT.fault_kind, SNS_CHSTAT.overrange]
      (fun f s => s.wr f c 0) s) s

/-- The sense domain of channel `c` follows its channels (R66, R91): off with the last of them disabled, unless Table 3-8 has it never off. -/
def State.domainFollow (s : State) (c : Nat) : State :=
  let d := chanDomain c
  if s.bit SNS_CHCFG.enable c then { s with sense := { s.sense with off := s.sense.off.filter (· != d) } }
  else if d = 47 ∨ 53 ≤ d ∨ (domainChannels d).any (s.bit SNS_CHCFG.enable) ∨ s.sense.off.contains d then s
  else s.domainOff d

end Sys2Proof.Machine
end

