-- ==== Sys2Proof/Machine/Inputs.lean ====
section
/-!
DEFINITION. What an engine's bound inputs read at a tick boundary (Table 6-5).
-/
namespace Sys2Proof.Machine

/-- The largest number below `2^n` whose `p` holds for it and for every smaller one. -/
def greatest (p : Nat → Bool) : Nat → Nat → Nat
  | 0, a => a
  | n + 1, a => greatest p n (if p (a + 2 ^ n) then a + 2 ^ n else a)

/-- 10^(w/m) Ω is at least, or exactly, `n` / 65,536 kΩ. -/
def ohmsReach (m w n : Nat) : Bool := decide ((n * 1000) ^ m ≤ 65536 ^ m * 10 ^ w)
def ohmsExact (m w n : Nat) : Bool := decide ((n * 1000) ^ m = 65536 ^ m * 10 ^ w)

/-- The resistance that a leak word encodes (Table 4-2), 10^(w/4096) Ω, as Q16.16 kΩ, saturating; its rounding is not stated. -/
def kiloOhms (w : Nat) : Nat :=
  let n := greatest (ohmsReach 4096 w) 31 0
  if n = 0x7FFFFFFF ∨ ohmsExact 4096 w n = true then n
  else if Config.roundUp w 4096 then n + 1 else n

/-- The scaled value of a sample word (Table 6-5, kind 1 sel 1). -/
def State.scaled (s : State) (c w : Nat) : Int :=
  if c < 256 then sat32 (nearest (wordVal c w * signed32 (s.rd SNS_CHSCALE.scale c)) 32768)
  else if c < 288 then signed16 w * 512
  else kiloOhms w

/-- A power in mW as Q16.16 W, rounded and saturated (Table 6-5). -/
def wattsOf (p : Nat) : Int := sat32 (nearest (signed32 p * 65536) 1000)

/-- Time since an instant, saturating at 0x7FFFFFFF. -/
def ageWord (now t : Nat) : Word := BitVec.ofNat 32 (min 0x7FFFFFFF (now - t))

/-- The pulse count, interval and age of pulse input `i` (kind 5); an interval beyond 32 bits is a free value (DESIGN CHOICE, log entry 12). -/
def State.pulseInput (s : State) (i sel : Nat) : Word :=
  let p := s.pulse i
  match sel with
  | 0 => BitVec.ofNat 32 p.count
  | 1 => match p.interval with
    | some d => if d < 2 ^ 32 then BitVec.ofNat 32 d else BitVec.ofNat 32 (Config.outOfRange d)
    | none => Config.unstatedInput 1 i
  | _ => match p.last with
    | some t => ageWord s.bootUs t
    | none => Config.unstatedInput 2 i

/-- The levels and edges of a channel's windows as engine `e` reads them (R141), with the channel fault signal. -/
def State.windowInput (s : State) (e : Engine) (c : Nat) : Word :=
  let lev (x : Nat) : Nat := ((List.range 4).map fun k => if s.level x k then 2 ^ k else 0).sum
  BitVec.ofNat 32 (lev (2 * c) + lev (2 * c + 1) * 65536 + (if s.bit SNS_CHSTAT.fault c then 4096 else 0) + Tab.get 0 e.edges c)

/-- What slot `slot` of engine `e`, bound to (kind, index), reads through `sel` at half-microsecond `h` with tick period `per` (Table 6-5). -/
def State.input (s : State) (e : Engine) (slot kind index sel h per : Nat) : Word :=
  match kind with
  | 1 =>
    if sel = 0 then BitVec.ofInt 32 (wordVal index (s.rd SNS_CHSAMP.sample index))
    else if sel = 1 then BitVec.ofInt 32 (s.scaled index (s.rd SNS_CHSAMP.sample index))
    else BitVec.ofNat 32 (s.chan index).ap
  | 2 => s.windowInput e index
  | 3 =>
    if sel = 0 then BitVec.ofInt 32 (wattsOf (s.rd SNS_MTR_P.p index))
    else if sel = 1 then BitVec.ofInt 32 (wattsOf (s.rd SNS_MTR_PAVG.pavg index))
    else
      let a := if sel ≤ 3 then s.rd SNS_MTR_EF.ef index else s.rd SNS_MTR_ER.er index
      BitVec.ofNat 32 (if sel % 2 = 0 then a else a / 2 ^ 32)
  | 4 =>
    let p := s.port (index / 64)
    if sel = 0 then Tab.get 0 p.telem (index % 64)
    else if p.telem.isEmpty && p.telemAt == 0 then Config.unstatedInput 0 index
    else ageWord s.bootUs p.telemAt
  | 5 => s.pulseInput index sel
  | 6 =>
    let x := Tab.get {} s.marten.slots index
    if sel = 0 then x.value
    else match x.half with
      | some w => if s.part.variant = .qa then BitVec.ofNat 32 (min 0x7FFFFFFF (h / per - w / per - 1)) else 0x7FFFFFFF#32
      | none => 0x7FFFFFFF#32
  | 7 =>
    if sel = 0 then BitVec.ofNat 32 ((if e.reqBusy.contains slot then 2 ^ 31 else 0) + Tab.get 0 e.reqStatus slot)
    else Tab.get 0 e.reqData slot
  | _ => s.outVal e.obj kind index

/-- The snapshot of R103: every selector of every bound slot. -/
def State.snapshot (s : State) (e : Engine) (h per : Nat) : Tab Word :=
  each e.binds (fun b t => each (List.range (selCount b.2.1)) (fun sel t =>
    Tab.set 0 t (b.1 * 16 + sel) (s.input e b.1 b.2.1 b.2.2 sel h per)) t) []

end Sys2Proof.Machine
end

