-- ==== Sys2Proof/Machine/Boundary.lean ====
section
/-!
DEFINITION. The tick boundary of a sett, and the overrun of an engine (R101 to R103, R109, R112, R120, R135, R148, R171).
-/
namespace Sys2Proof.Machine

/-- A word of the CXL ring buffers or the mailbox read with bad bits (Table 17-3): a corrected one is counted, and where one is uncorrectable
`lost` follows. -/
def State.bufferRead (s : State) (a : Nat) (bad : CodeWord) (lost : State → State) : State :=
  match (readBad bad).1 with
  | .good => s
  | .corrected => s.memCorr 6
  | .uncorrectable => lost (s.memUncorr 6 false a)

/-- A bit upset takes place. -/
def State.upset (s : State) (u : Upset) : State :=
  match u with
  | .imem n w =>
    let e := s.engine n
    s.setEngine n { e with badWords := if e.badWords.contains w.toNat then e.badWords else w.toNat :: e.badWords }
  | .unit n k =>
    let e := s.engine n
    if k.val = 0 then s else s.setEngine n { e with badRegs := if e.badRegs.contains k.val then e.badRegs else k.val :: e.badRegs }
  | .shared k w bad =>
    { s with setts := { s.setts with sharedBad := Tab.upd 0 s.setts.sharedBad (k.val * 4096 + w.toNat) (· ^^^ bad) } }
  | .ringBuffer r slot bad =>
    if s.hostUp && (s.fetched r slot.toNat).isSome then s.bufferRead (32 * slot.toNat) bad fun s => s.complete r slot.toNat St.integrity 0 0 false
    else s
  | .mailbox k bad =>
    if k.val < s.setts.mailbox.length then
      s.bufferRead (32 * k.val) bad fun s =>
        { s with setts := { s.setts with mailbox := s.setts.mailbox.eraseIdx k.val } }.addSat SETT_MBXCTL.dropped 0 1
    else s

/-- A disabled sett's engines stop (R120). -/
def State.stopSett (s : State) (k : Nat) : State :=
  if s.setts.stopDue.contains k then
    let s := each (settEngines k) (fun n s =>
      let e := s.engine n
      if e.state = .running ∨ e.state = .faulted then s.setEngine n { e with state := .stopped } else s) s
    { s with setts := { s.setts with stopDue := s.setts.stopDue.filter (· != k) } }
  else s

/-- The firmware values collected for sett `k` applied in the order of their writes (R100). -/
def State.applyFirmware (s : State) (k : Nat) : State :=
  let mine := s.setts.fwWrites.filter fun (w : Nat × Word) => w.1 / 32768 == k
  let s := { s with setts := { s.setts with fwWrites := s.setts.fwWrites.filter fun (w : Nat × Word) => w.1 / 32768 != k } }
  each mine (fun w s => s.setSh w.1 w.2) s

/-- A checkpoint of the lead applied to engine `n` (R491): everything but the word at 0x77C. -/
def State.applyCheckpoint (s : State) (n : Nat) (c : Checkpoint) : State :=
  let e := s.engine n
  let g := each (List.range 15) (fun i (t : Tab Word) => Tab.set 0 t (i + 1) (c.regs.getD i 0)) []
  let tm := each (List.range 4) (fun i (t : Tab Word) => Tab.set 0 t i (c.timers.getD i 0)) []
  let regs : EngRegs := { g, z := c.flags.getLsbD 0, n := c.flags.getLsbD 1, q := c.flags.getLsbD 2, qs := c.flags.getLsbD 3, tm }
  let s := s.setEngine n { e with regs, consec := c.consec, badRegs := e.badRegs.filter (· == 21) }
  let s := each ((List.range 512).filter (· != 479)) (fun j s => s.setSh (privKey n 0 + j) (c.priv.getD j 0)) s
  s.wr TWIN_STAT.mirror_age 0 (max (s.rd TWIN_STAT.mirror_age 0) (min 255 (s.tick - c.tick.toNat)))

/-- The checkpoints that wait for objects of sett `k`; a shadow applies them while the sets match (R486, R491). -/
def State.applyMirrors (s : State) (k : Nat) : State :=
  let here (s : State) (c : Checkpoint) : Option Nat := match s.engineOf c.obj.toNat with
    | some (n, _) => if n / 32 = k then some n else none
    | none => none
  let mine := s.twin.mirrors.filter fun c => (here s c).isSome
  let s := { s with twin := { s.twin with mirrors := s.twin.mirrors.filter fun c => (here s c).isNone } }
  if s.shadow_ && s.bit TWIN_STAT.set_match 0 then
    each mine (fun c s => match here s c with
      | some n => s.applyCheckpoint n c
      | none => s) s
  else s

/-- The entry status word written for the lowest valid entry whose EN one of a RUNNING engine's kind-8 bindings names (R171). -/
def State.reportEntry (s : State) (n : Nat) : State :=
  match (List.range 256).find? fun k => s.bit ZIT_EW0.valid k && (s.engine n).binds.any fun b => b.2 == (8, s.rd ZIT_EW0.en k) with
  | some k => s.setSh (privKey n 0x77C) (BitVec.ofNat 32 (s.estat k))
  | none => s

/-- Every timer that is not zero decremented (R132), and QS cleared. -/
def EngRegs.atBoundary (r : EngRegs) : EngRegs :=
  { r with tm := each (List.range 4) (fun i t => Tab.upd 0 t i (fun v => if v = 0 then 0 else v - 1)) r.tm, qs := false }

/-- The tick of an object whose program the spec describes (R211, R213, R294); another engine issues its instructions. -/
def State.runObject (s : State) (n : Nat) : State :=
  match s.progRole n with
  | .wardGovernor => s.wardGovTick n
  | .trayGovernor => s.trayGovTick n
  | .branch => s.branchTick n
  | .other => s

/-- A RUNNING engine starts its tick at half-microsecond `h` (R135); one word of its instruction memory is checked (R148). -/
def State.startTick (s : State) (h n : Nat) : State :=
  let e := s.engine n
  if e.state = .running then
    let s := s.reportEntry n
    let regs := e.regs.atBoundary
    let s := s.setEngine n { e with
      regs, start := regs, snap := s.snapshot e h (s.rd SETT_CTL.period (n / 32)), first := e.startDue, mig := e.migDue, ovr := e.consec != 0,
      startDue := false, migDue := false, pc := e.entry, used := 2, tickAt := h, inTick := true, queue := [], stores := [], undo := [], scan := (e.scan + 1) % 1024 }
    if e.badWords.contains e.scan then s.engFault n 2 else s.runObject n
  else s

/-- Engines of sett `k` that have not yielded overrun (R109). -/
def State.overrunAll (s : State) (k : Nat) : State :=
  each (settEngines k) (fun n s => if (s.engine n).inTick && (s.engine n).state == .running then s.overrun n else s) s

/-- The edges that were collected before a boundary are gone after it (R141). -/
def State.clearEdges (s : State) (k : Nat) : State :=
  each (settEngines k) (fun n s => if (s.engine n).edges.isEmpty then s else s.setEngine n { s.engine n with edges := [] }) s

/-- The pending command of engine `n` takes effect; with a BIND go the object's firmware values. -/
def State.engineCommand (s : State) (n : Nat) : State :=
  let t := s.engCommand n
  if (s.engine n).state = .idle ∧ (t.engine n).state = .stopped then t.objectBound n else t

/-- A boundary of sett `k` at half-microsecond `h`. -/
def State.settBoundary (s : State) (k h : Nat) : State :=
  let s := ((s.overrunAll k).settle k).stopSett k
  let s := (each (settEngines k) (fun n s => s.engineCommand n) s).startBound k
  let s := ((s.settOff k).applyFirmware k).applyMirrors k
  let s := (each (settEngines k) (fun n s => s.startTick h n) s).clearEdges k
  { s with setts := { s.setts with lastHalf := Tab.set 0 s.setts.lastHalf k (h + 1) } }

/-- SETT_TICK_BOUNDARY: sett `k` at this tray tick, or half a microsecond after it; `upsets` are bit upsets that have come since. -/
def execSettTickBoundary (k : Nat) (half : Bool) (upsets : List Upset) (s : State) : Out :=
  let h := 2 * s.tick + half.toNat
  doIf (s.settUp && s.boundaryAt k h && Tab.get 0 s.setts.lastHalf k != h + 1) s
    (s.inOneCycle fun s => (each upsets (fun u s => s.upset u) s).settBoundary k h)

/-- TICK_OVERRUN (R109, R110): the engine has not yielded by the end of its budget. -/
def execTickOverrun (n : Nat) (half : Bool) (s : State) : Out :=
  let e := s.engine n
  doIf (s.settUp && e.state == .running && e.inTick && decide (e.tickAt + s.rd SETT_CTL.period (n / 32) ≤ 2 * s.tick + half.toNat)) s (s.overrun n)

end Sys2Proof.Machine
end

