-- ==== Sys2Proof/Machine/Burrows.lean ====
section
/-!
DEFINITION. The meanings of the commands of the burrow (20).
-/
namespace Sys2Proof.Machine

/-- The flash controller takes records (Table 3-9, R477, R480). -/
def State.flashUp (s : State) : Bool := s.alive && decide (2 ≤ s.part.stage) && !s.burrow.halt

/-- The oldest outstanding TIME_ANCHOR descriptor whose work has begun (R475). -/
def State.anchorWaits (s : State) : Option (Nat × Nat) :=
  s.host.pairs.findSome? fun p => (p.2.out.find? fun f => f.begun && f.desc.opcode == 0x0003).map fun f => (p.1, f.slot)

/-- The block of 1,024 records of the circulating area that holds a flash seq, counted on without wrapping (R476). -/
def brwBlock (seq : Nat) : Nat := (seq - 4096) / 1024

/-- The records that flash keeps: the permanent area, and the circulating ones in the 124 blocks up to the one that the next is written to, which is
erased before (R476). -/
def keepRecs (next : Nat) (l : List Rec) : List Rec := l.filter fun r => decide (r.seq ≤ 4095 ∨ brwBlock next < brwBlock r.seq + 124)

/-- FLASH_COMMIT_DONE (R474, R477): the record's two program operations have ended. -/
def execFlashCommitDone (s : State) : Out :=
  doIf s.flashUp s <|
    match s.burrow.flight with
    | [] => s
    | r :: l =>
      let b := s.burrow
      let t := { s with burrow := { b with flash := keepRecs (b.nextSeq + 1) (b.flash ++ [{ r with seq := b.nextSeq }]),
                                           nextSeq := b.nextSeq + 1, flight := l } }
      match if r.code = Ev.HOST_TIME_ANCHOR then t.anchorWaits else none with
      | some (p, slot) => t.complete p slot St.ok 0 0 false
      | none => t

/-- A path of the burrow: the mirror's (true) or flash's. -/
def State.path (s : State) (m : Bool) : CoalPath := if m then s.burrow.mirrorPath else s.burrow.flashPath
def State.setPath (s : State) (m : Bool) (p : CoalPath) : State :=
  { s with burrow := if m then { s.burrow with mirrorPath := p } else { s.burrow with flashPath := p } }

/-- The open entry of a code and source. -/
def CoalPath.entry (p : CoalPath) (code source : Nat) : Option Coal :=
  p.open_.find? fun e => e.code == code && e.source == source

/-- Every open entry of a code and source changed by `f`, dropped where it answers none. -/
def CoalPath.change (p : CoalPath) (code source : Nat) (f : Coal → Option Coal) : CoalPath :=
  let g (e : Coal) : Option Coal := if e.code = code ∧ e.source = source then f e else some e
  { p with entries := p.entries.filterMap g, many := p.many.filterMap g, overflow := p.overflow.bind g }

/-- A count record of the entry is due: 100 ms after it opened or counted last, with an event since (R478). -/
def State.countDue (s : State) (e : Coal) : Bool := decide (e.since + 100000 ≤ s.bootUs ∧ 0 < e.count)

/-- The count record of an entry committed, or accepted by the mirror (R474, R478). -/
def State.commitCount (s : State) (mirror : Bool) (e : Coal) : State :=
  let t := s.setPath mirror ((s.path mirror).change e.code e.source fun e => some { e with count := 0, since := s.bootUs })
  let r := e.counts (s.mkRec e.code e.source [])
  if mirror then { t with burrow := t.burrow.mirrorPut (t.rd BRW_MSEQ.seq 0) r }.addWrap BRW_MSEQ.seq 0 1
  else { t with burrow := { t.burrow with flight := t.burrow.flight ++ [r] } }

/-- TOKEN_REFILL (R478, R479): one token each 500 µs for flash, up to 64; each 50 µs for the mirror, up to 256. The oldest priority record takes it
first, then a count record that is due. -/
def execTokenRefill (mirror : Bool) (s : State) : Out :=
  let p := s.path mirror
  let t := s.setPath mirror { p with refillAt := s.bootUs }
  let count : State := match if mirror && !s.mirrorOn then none else p.open_.find? s.countDue with
    | some e => t.commitCount mirror e
    | none => t.setPath mirror { t.path mirror with tokens := min (if mirror then 256 else 64) (p.tokens + 1) }
  doIf (s.alive && decide (p.refillAt + (if mirror then 50 else 500) ≤ s.bootUs)) s <|
    match if mirror then [] else s.burrow.prio with
    | r :: l => { t with burrow := { t.burrow with prio := l, flight := s.burrow.flight ++ [r] } }
    | [] => count

/-- COUNT_RECORD_DUE (R478, R479): a count record of an entry 100 ms after it opened or counted last; it takes a token, and waits for one
(TOKEN_REFILL). -/
def execCountRecordDue (mirror : Bool) (code source : BitVec 16) (s : State) : Out :=
  let p := s.path mirror
  doIf (s.alive && decide (0 < p.tokens) && (!mirror || s.mirrorOn)) s <|
    match p.entry code.toNat source.toNat with
    | none => s
    | some e => if s.countDue e then (s.setPath mirror { p with tokens := p.tokens - 1 }).commitCount mirror e else s

/-- ENTRY_CLOSE (R478): after 1 s without an event, with nothing uncounted. -/
def execEntryClose (mirror : Bool) (code source : BitVec 16) (s : State) : Out :=
  let p := s.path mirror
  doIf s.alive s <|
    match p.entry code.toNat source.toNat with
    | none => s
    | some e =>
      if e.lastAt + 1000000 ≤ s.bootUs ∧ e.count = 0 then s.setPath mirror (p.change e.code e.source fun _ => none) else s

/-- OPERATING_SECOND (R473). -/
def execOperatingSecond (s : State) : Out :=
  doIf (!s.part.vaoLow) s { s with burrow := { s.burrow with opSeconds := (s.burrow.opSeconds + 1) % 2 ^ 40 } }

end Sys2Proof.Machine
end

