-- ==== Sys2Proof/Machine/Cools.lean ====
section
/-!
DEFINITION. The meanings of cooling's commands (12).
-/
namespace Sys2Proof.Machine

/-- Supervision runs: not while VSETT is lost (R283). -/
def State.supervises (s : State) : Bool := s.alive && !s.part.vsettLost

/-- DRIVE_UPDATE (R280): at every 1 ms boundary of the tray tick the tables and the drives are judged. -/
def execDriveUpdate (s : State) : Out :=
  doIf (s.alive && s.tick % 1000 == 0) s ((each (List.range 4) (fun z s => s.judgeZone z) s).driveAll)

/-- DUTY_WRITE (R278): ignored for an owned or unzoned output. -/
def execDutyWrite (o : Nat) (v : BitVec 10) (s : State) : Out :=
  doIf (s.alive && s.bit FAN_OCFG.zoned o && (s.fanOwner o).isNone && decide (v.toNat ≤ 1000)) s
    ((s.wr FAN_DUTY.duty o v.toNat).refresh o)

/-- ZONE_TAKE (Table 12-1). -/
def execZoneTake (z : Nat) (s : State) : Out :=
  let ok := !(s.members z).isEmpty && (s.members z).all s.fresh && !s.tableBad z && !s.part.vsettLost && !s.shadow_ &&
    !s.bit SEC_BOOT.inert 0 && !s.part.straps.bootHold
  doIf s.alive s
    (if !s.bit FAN_ZSTAT.fallback z then s.wr FAN_ZSTAT.cmd_status z St.ok
     else if ok then
      (((s.wr FAN_ZSTAT.cmd_status z St.ok).wr FAN_ZSTAT.fallback z 0).record Ev.FAN_REGISTER Src.cooling [z, s.rd FAN_ZSTAT.fb_cause z]).driveAll
     else s.wr FAN_ZSTAT.cmd_status z St.refusedState)

/-- ZONE_RELEASE (Table 12-1). -/
def execZoneRelease (z : Nat) (s : State) : Out :=
  doIf s.alive s ((s.wr FAN_ZSTAT.cmd_status z St.ok).zoneFallback z 3)

/-- ZONE_REFRESH_TIMEOUT (Table 12-1): a member not refreshed for 2 s. -/
def execZoneRefreshTimeout (z : Nat) (s : State) : Out :=
  doIf (s.alive && !s.bit FAN_ZSTAT.fallback z && (s.members z).any (fun o => !s.fresh o)) s (s.zoneFallback z 1)

/-- CHECK_JUDGEMENT (R285, R286): 3 s after the start of a check. -/
def execCheckJudgement (o : Nat) (s : State) : Out :=
  let f := s.fan o
  let d := s.rd FAN_OSTAT.drive o
  let passed := d == 0 || s.fastEnough o d
  doIf (s.supervises && s.ostate o == 1 && decide (f.checkAt + 3000000 ≤ s.bootUs)) s
    (if passed then
      let t := (s.setFan o { f with judgedAt := s.bootUs, retry := false }).wr FAN_OSTAT.state o 2
      (if f.retry then t.record Ev.FAN_RECOVERED Src.cooling [o, 3] else t).driveAll
     else (s.judgeLost o false).driveAll)

/-- RETRY_CHECK_START (R286): 10 s after the previous judgement. -/
def execRetryCheckStart (o : Nat) (s : State) : Out :=
  doIf (s.supervises && s.ostate o == 3 && decide ((s.fan o).judgedAt + 10000000 ≤ s.bootUs)) s
    ((s.startCheck o (s.rd FAN_OSTAT.retries o + 1)).driveAll)

/-- TACH_PULSE (R284, R287, Table 6-5): a falling edge of FTACH (0 to 15) or PTACH (16 to 19), or a pulse of FLOW (20 to 27). -/
def execTachPulse (i : Nat) (s : State) : Out :=
  let p := s.pulse i
  let p := { p with count := (p.count + 1) % 2 ^ 32, prev := p.last, last := some s.bootUs }
  let t := { s with cooling := { s.cooling with pulses := Tab.set {} s.cooling.pulses i p } }
  doIf s.alive s (if i < 20 then t.judgeEdge i else t)

/-- TACH_STOPPED (R287): an output in RUN that is driven is judged by its current. -/
def execTachStopped (o : Nat) (s : State) : Out :=
  doIf (s.supervises && s.supervised o && s.ostate o == 2 && s.tachStopped o && s.rd FAN_OSTAT.drive o != 0) s
    ((s.judgeLost o true).driveAll)

/-- FAN_CLEAR (R289). -/
def execFanClear (o : BitVec 5) (s : State) : Out :=
  let t := s.writeFld FAN_CMD.o 0 o.toNat
  let o := o.toNat
  doIf s.supervises s
    (if o < 20 ∧ 4 ≤ s.ostate o ∧ s.ostate o ≤ 6 then (t.startCheck o 0).driveAll else t)

/-- FLOW_UPDATE (R290): every 100 ms, from the pulses of the last 1 s; a meter that is not enabled only counts. -/
def execFlowUpdate (f : Nat) (s : State) : Out :=
  let w := s.flowOf f
  let now := (s.pulse (20 + f)).count
  let n : Nat := (now + 2 ^ 32 - w.counts.getD 9 0) % 2 ^ 32
  let k := s.rd FAN_FCFG.k f
  let flow := if k = 0 then Config.outOfRange n else (openQuot (n * 6000 : Nat) k).toNat
  let t := s.wr FAN_FSTAT.flow f (min 65535 flow)
  let below := t.flowBelow f
  let from_ (keep : Bool) (o : Option Nat) : Option Nat := if keep then (match o with | some x => some x | none => some s.bootUs) else none
  let counts := (now :: w.counts).take 10
  doIf (s.supervises && s.tick % 100000 == 0) s
    (if s.bit FAN_FCFG.en f then
      t.setFlow f { counts, lowFrom := from_ (below && t.flowArmed f) w.lowFrom, okFrom := from_ (!below) w.okFrom }
     else s.setFlow f { counts, lowFrom := none, okFrom := none })

/-- LOW_FLOW_EXPIRY (R290). -/
def execLowFlowExpiry (f : Nat) (s : State) : Out :=
  let due := match (s.flowOf f).lowFrom with
    | some t => decide (t + 2000000 ≤ s.bootUs)
    | none => false
  doIf (s.supervises && !s.bit FAN_FSTAT.low f && s.flowArmed f && s.flowBelow f && due) s
    ((s.wr FAN_FSTAT.low f 1).driveAll.record Ev.FAN_FLOW_LOW Src.cooling [f, s.rd FAN_FSTAT.flow f])

/-- FLOW_OK_EXPIRY (R290). -/
def execFlowOkExpiry (f : Nat) (s : State) : Out :=
  let due := match (s.flowOf f).okFrom with
    | some t => decide (t + 10000000 ≤ s.bootUs)
    | none => false
  doIf (s.supervises && s.bit FAN_FSTAT.low f && !s.flowBelow f && due) s
    ((s.wr FAN_FSTAT.low f 0).driveAll.record Ev.FAN_FLOW_OK Src.cooling [f, s.rd FAN_FSTAT.flow f])

/-- VALVE_CLOSE_WRITE (R290, R291): bits of owned valves are ignored. -/
def execValveCloseWrite (v : BitVec 4) (s : State) : Out :=
  let owned (b : Nat) : Bool := (s.ownerOf 11 b).isSome
  let bit (b : Nat) : Nat := if (if owned b then (s.rd FAN_VLV.close 0).testBit b else v.getLsbD b) then 2 ^ b else 0
  doIf s.alive s (s.wr FAN_VLV.close 0 (bit 0 + bit 1 + bit 2 + bit 3)).judgeFlows

/-- A critical sensor that has become failed (R299): alone, or the second of the pair, which starts the grace. -/
def State.critFail (s : State) (k : Nat) (r : CritRead) : State :=
  let kind := match r with | .opened => 1 | _ => 2
  if s.cooling.crit.a.isNone && s.cooling.crit.b.isNone then
    ({ s with cooling := { s.cooling with crit := { s.cooling.crit with graceAt := s.bootUs } } }.wr FAN_CRIT.grace 0 1).record
      Ev.FAN_CRIT_BLIND Src.cooling [k, kind]
  else s.record Ev.FAN_CRIT_SENSOR Src.cooling [k, kind]

/-- A result's reading, none where the sensor is failed. -/
def critTemp : CritRead → Option Int
  | .temp t => some t.toInt
  | _ => none

/-- CRIT_RESULT (R298, R299): the two sensors' results, in 1/128 °C, open, short, or both pins at AGND. -/
def execCritResult (a b : CritRead) (s : State) : Out :=
  let c := s.cooling.crit
  let limit := s.critThreshold * 128
  let hot (n : Nat) (r : CritRead) : Nat := match critTemp r with
    | some t => if limit ≤ t then min 2 (n + 1) else 0
    | none => 0
  let below (r : CritRead) : Bool := match critTemp r with
    | some t => decide (t < limit - 640)
    | none => true
  let blind := (critTemp a).isNone && (critTemp b).isNone
  let cool := if below a && below b && !blind then min 100 (c.cool + 1) else 0
  let n := { c with hotA := hot c.hotA a, hotB := hot c.hotB b, cool := cool, a := critTemp a, b := critTemp b }
  let t := { s with cooling := { s.cooling with crit := n } }
  let hotter := (((critTemp a).toList ++ (critTemp b).toList).max?).getD 0
  let t := (t.wr FAN_CRIT.failed 0 ((critTemp a).isNone.toNat + 2 * (critTemp b).isNone.toNat)).wr FAN_CRIT.hotter 0 (max 0 (min 255 (hotter / 128))).toNat
  let t := if blind then t else t.wr FAN_CRIT.grace 0 0
  let t := if !s.bit FAN_CRIT.asserting 0 && (n.hotA == 2 || n.hotB == 2) then t.setCrit true
    else if s.bit FAN_CRIT.asserting 0 && n.cool == 100 then t.setCrit false
    else t
  let newA := (critTemp a).isNone && s.rd FAN_CRIT.failed 0 % 2 == 0
  let newB := (critTemp b).isNone && s.rd FAN_CRIT.failed 0 / 2 == 0
  let t := if newA then t.critFail 0 a else t
  doIf s.alive s (if newB && !(newA && blind) then t.critFail 1 b else t)

/-- CRIT_GRACE_END (R299). -/
def execCritGraceEnd (s : State) : Out :=
  doIf (s.alive && s.bit FAN_CRIT.grace 0 && decide (s.cooling.crit.graceAt + 10000000 ≤ s.bootUs)) s
    (let t := s.wr FAN_CRIT.grace 0 0
     if s.bit FAN_CRIT.asserting 0 then t else t.setCrit true)

/-- LEAK_RSTAT_CLEAR (R301). -/
def execLeakRstatClear (r : Nat) (s : State) : Out :=
  doIf s.settUp s ((s.wr LEAK_RSTAT.worst r 0).wr LEAK_RSTAT.lowest r 0x7FFF)

end Sys2Proof.Machine
end

