-- ==== Sys2Proof/Machine/EngineAlu.lean ====
section
/-!
DEFINITION. The loop engine's arithmetic, logic, shift and immediate instructions (Table 6-4).
-/
namespace Sys2Proof.Machine

/-- ADD (Table 6-4). -/
def execEngAdd (n : Nat) (rd ra rb : BitVec 4) (s : State) : Out := s.issueAlu n (.add rd ra rb) rd ra rb

/-- SUB (Table 6-4). -/
def execEngSub (n : Nat) (rd ra rb : BitVec 4) (s : State) : Out := s.issueAlu n (.sub rd ra rb) rd ra rb

/-- ADDW (Table 6-4). -/
def execEngAddw (n : Nat) (rd ra rb : BitVec 4) (s : State) : Out := s.issueAlu n (.addw rd ra rb) rd ra rb

/-- SUBW (Table 6-4). -/
def execEngSubw (n : Nat) (rd ra rb : BitVec 4) (s : State) : Out := s.issueAlu n (.subw rd ra rb) rd ra rb

/-- MUL (Table 6-4). -/
def execEngMul (n : Nat) (rd ra rb : BitVec 4) (s : State) : Out := s.issueAlu n (.mul rd ra rb) rd ra rb

/-- IMUL (Table 6-4). -/
def execEngImul (n : Nat) (rd ra rb : BitVec 4) (s : State) : Out := s.issueAlu n (.imul rd ra rb) rd ra rb

/-- DIV (Table 6-4). -/
def execEngDiv (n : Nat) (rd ra rb : BitVec 4) (s : State) : Out := s.issueAlu n (.div rd ra rb) rd ra rb

/-- MIN (Table 6-4). -/
def execEngMin (n : Nat) (rd ra rb : BitVec 4) (s : State) : Out := s.issueAlu n (.min rd ra rb) rd ra rb

/-- MAX (Table 6-4). -/
def execEngMax (n : Nat) (rd ra rb : BitVec 4) (s : State) : Out := s.issueAlu n (.max rd ra rb) rd ra rb

/-- LIM (Table 6-4). -/
def execEngLim (n : Nat) (rd ra rb : BitVec 4) (s : State) : Out := s.issueAlu n (.lim rd ra rb) rd ra rb

/-- FLT (Table 6-4). -/
def execEngFlt (n : Nat) (rd ra rb : BitVec 4) (s : State) : Out := s.issueAlu n (.flt rd ra rb) rd ra rb

/-- MAC (Table 6-4). -/
def execEngMac (n : Nat) (rd ra rb : BitVec 4) (s : State) : Out := s.issueAlu n (.mac rd ra rb) rd ra rb

/-- AND (Table 6-4). -/
def execEngAnd (n : Nat) (rd ra rb : BitVec 4) (s : State) : Out := s.issueAlu n (.and rd ra rb) rd ra rb

/-- OR (Table 6-4). -/
def execEngOr (n : Nat) (rd ra rb : BitVec 4) (s : State) : Out := s.issueAlu n (.or rd ra rb) rd ra rb

/-- XOR (Table 6-4). -/
def execEngXor (n : Nat) (rd ra rb : BitVec 4) (s : State) : Out := s.issueAlu n (.xor rd ra rb) rd ra rb

/-- SHL (Table 6-4). -/
def execEngShl (n : Nat) (rd ra rb : BitVec 4) (s : State) : Out := s.issueAlu n (.shl rd ra rb) rd ra rb

/-- SHR (Table 6-4). -/
def execEngShr (n : Nat) (rd ra rb : BitVec 4) (s : State) : Out := s.issueAlu n (.shr rd ra rb) rd ra rb

/-- SAR (Table 6-4). -/
def execEngSar (n : Nat) (rd ra rb : BitVec 4) (s : State) : Out := s.issueAlu n (.sar rd ra rb) rd ra rb

/-- ABS (Table 6-4). -/
def execEngAbs (n : Nat) (rd ra : BitVec 4) (s : State) : Out := s.issueAlu n (.abs rd ra) rd ra 0

/-- NEG (Table 6-4). -/
def execEngNeg (n : Nat) (rd ra : BitVec 4) (s : State) : Out := s.issueAlu n (.neg rd ra) rd ra 0

/-- ADDI (Table 6-4). -/
def execEngAddi (n : Nat) (rd ra : BitVec 4) (imm : BitVec 18) (s : State) : Out := s.issueAlu n (.addi rd ra imm) rd ra 0

/-- ANDI (Table 6-4). -/
def execEngAndi (n : Nat) (rd ra : BitVec 4) (imm : BitVec 18) (s : State) : Out := s.issueAlu n (.andi rd ra imm) rd ra 0

/-- ORI (Table 6-4). -/
def execEngOri (n : Nat) (rd ra : BitVec 4) (imm : BitVec 18) (s : State) : Out := s.issueAlu n (.ori rd ra imm) rd ra 0

/-- XORI (Table 6-4). -/
def execEngXori (n : Nat) (rd ra : BitVec 4) (imm : BitVec 18) (s : State) : Out := s.issueAlu n (.xori rd ra imm) rd ra 0

/-- SHLI (Table 6-4). -/
def execEngShli (n : Nat) (rd ra : BitVec 4) (sh : BitVec 5) (s : State) : Out := s.issueAlu n (.shli rd ra sh) rd ra 0

/-- SHRI (Table 6-4). -/
def execEngShri (n : Nat) (rd ra : BitVec 4) (sh : BitVec 5) (s : State) : Out := s.issueAlu n (.shri rd ra sh) rd ra 0

/-- SARI (Table 6-4). -/
def execEngSari (n : Nat) (rd ra : BitVec 4) (sh : BitVec 5) (s : State) : Out := s.issueAlu n (.sari rd ra sh) rd ra 0

/-- LDH (Table 6-4). -/
def execEngLdh (n : Nat) (rd : BitVec 4) (imm : BitVec 16) (s : State) : Out := s.issueAlu n (.ldh rd imm) rd 0 0

end Sys2Proof.Machine
end

