-- ==== Sys2Proof/Machine/EngineCtl.lean ====
section
/-!
DEFINITION. The loop engine's jumps and branches (Table 6-4, R139).
-/
namespace Sys2Proof.Machine

/-- JAL: g15 = pc + 1; the flags stay. -/
def execEngJal (n : Nat) (target : BitVec 10) (s : State) : Out :=
  s.issueEngine n (.jal target) fun e => (e.setReg 15 (BitVec.ofNat 32 e.pc)).jump target.toNat

/-- JR: a value above 1,023 lies outside the code region. -/
def execEngJr (n : Nat) (ra : BitVec 4) (s : State) : Out :=
  s.issueEngine n (.jr ra) fun e => e.jump (e.reg ra).toNat

/-- BEQ. -/
def execEngBeq (n : Nat) (ra rb : BitVec 4) (target : BitVec 10) (s : State) : Out :=
  s.issueEngine n (.beq ra rb target) fun e => e.branch (e.reg ra == e.reg rb) target.toNat

/-- BNE. -/
def execEngBne (n : Nat) (ra rb : BitVec 4) (target : BitVec 10) (s : State) : Out :=
  s.issueEngine n (.bne ra rb target) fun e => e.branch (e.reg ra != e.reg rb) target.toNat

/-- BLT, signed. -/
def execEngBlt (n : Nat) (ra rb : BitVec 4) (target : BitVec 10) (s : State) : Out :=
  s.issueEngine n (.blt ra rb target) fun e => e.branch ((e.reg ra).slt (e.reg rb)) target.toNat

/-- BGE, signed. -/
def execEngBge (n : Nat) (ra rb : BitVec 4) (target : BitVec 10) (s : State) : Out :=
  s.issueEngine n (.bge ra rb target) fun e => e.branch (!(e.reg ra).slt (e.reg rb)) target.toNat

/-- JMP. -/
def execEngJmp (n : Nat) (target : BitVec 10) (s : State) : Out :=
  s.issueEngine n (.jmp target) fun e => e.jump target.toNat

/-- BTX: taken when the timer reads zero (R132). -/
def execEngBtx (n : Nat) (tm : BitVec 2) (target : BitVec 10) (s : State) : Out :=
  s.issueEngine n (.btx tm target) fun e => e.branch (e.timer tm == 0) target.toNat

/-- BST: a status bit of Table 6-2; index 7 to 15 is an instruction fault. -/
def execEngBst (n : Nat) (bit : BitVec 4) (target : BitVec 10) (s : State) : Out :=
  s.issueEngine n (.bst bit target) fun e => if bit.toNat ≤ 6 then e.branch (e.status bit.toNat) target.toNat else none

end Sys2Proof.Machine
end

