-- ==== Sys2Proof/Machine/EngineMem.lean ====
section
/-!
DEFINITION. The loop engine's NOP, loads, stores, inputs, outputs, status and timers (Table 6-4).
-/
namespace Sys2Proof.Machine

/-- NOP. -/
def execEngNop (n : Nat) (s : State) : Out := s.issueEngine n .nop some

/-- LDP: a private-area word. -/
def execEngLdp (n : Nat) (rd ra : BitVec 4) (off : BitVec 18) (s : State) : Out :=
  s.issue n (.ldp rd ra off) fun e s =>
    match accessAddr (e.reg ra) off 0x800 with
    | none => .fault 3
    | some a =>
      if s.shBad (privKey n a) then .uncorr (privKey n a)
      else .done ((s.noteRead (privKey n a)).setEngine n (e.result rd (Res.plain (s.shRead (privKey n a)))))

/-- STP: a private-area word, at once; its old value is kept for an undo (R109). -/
def execEngStp (n : Nat) (rd ra : BitVec 4) (off : BitVec 18) (s : State) : Out :=
  s.issue n (.stp rd ra off) fun e s =>
    match accessAddr (e.reg ra) off 0x800 with
    | none => .fault 3
    | some a =>
      let k := privKey n a
      .done ((s.setEngine n { e with undo := (k, s.shWord k) :: e.undo }).setSh k (e.reg rd))

/-- LDC: a common-area word as committed before the issue cycle (R137). It issues once every other engine of the sett that runs a tick has
issued its instructions of earlier cycles. -/
def execEngLdc (n : Nat) (rd ra : BitVec 4) (off : BitVec 18) (s : State) : Out :=
  if s.awaits n then .next s
  else s.issue n (.ldc rd ra off) fun e t =>
    match accessAddr (e.reg ra) off 0x10000 with
    | none => .fault 3
    | some a =>
      if !e.common then .fault 3
      else if t.shBad (commonKey n a) then .uncorr (commonKey n a)
      else
        let v := t.commonAt (commonKey n a) (s.engine n).cycle ^^^ t.shWrong (commonKey n a)
        .done ((t.noteRead (commonKey n a)).setEngine n (e.result rd (Res.plain v)))

/-- STC: a common-area store into the 8-entry buffer (R137). -/
def execEngStc (n : Nat) (rd ra : BitVec 4) (off : BitVec 18) (s : State) : Out :=
  s.issueEngine n (.stc rd ra off) fun e =>
    match accessAddr (e.reg ra) off 0x10000 with
    | none => none
    | some a =>
      if e.common ∧ e.stores.length < 8 then some { e with stores := e.stores ++ [(commonKey n a, e.reg rd)] } else none

/-- LDK: a constant word of instruction memory, checked for parity (R148). -/
def execEngLdk (n : Nat) (rd : BitVec 4) (addr : BitVec 10) (s : State) : Out :=
  s.issue n (.ldk rd addr) fun e s =>
    if e.codeEnd ≤ addr.toNat ∧ addr.toNat < e.length then
      if e.badWords.contains addr.toNat then .fault 2
      else .done (s.setEngine n (e.result rd (Res.plain (e.word addr.toNat))))
    else .fault 3

/-- RD: a bound input from the snapshot (R103, R140). -/
def execEngRd (n : Nat) (rd slot sel : BitVec 4) (s : State) : Out :=
  s.issueEngine n (.rd rd slot sel) fun e =>
    if sel.toNat < selCount (e.bind slot.toNat).1 then
      some (e.result rd (Res.plain (Tab.get 0 e.snap (slot.toNat * 16 + sel.toNat))))
    else none

/-- WR: a write of a bound output queued; Q tells a clamped value (R142). -/
def execEngWr (n : Nat) (slot ra : BitVec 4) (s : State) : Out :=
  s.issueEngine n (.wr slot ra) fun e =>
    let b := e.bind slot.toNat
    match outputValue b.1 (e.reg ra) with
    | none => none
    | some r =>
      ({ e with regs := { e.regs with q := r.2, qs := e.regs.qs || r.2 } }.mend 16).enqueue (.write b.1 b.2 r.1)

/-- WPR: a request block copied from the private area at issue (R143). -/
def execEngWpr (n : Nat) (slot ra : BitVec 4) (s : State) : Out :=
  s.issue n (.wpr slot ra) fun e s =>
    let b := e.bind slot.toNat
    let a := (e.reg ra).toNat
    let k := privKey n a
    let op := (s.shRead k).extractLsb' 24 8
    if b.1 ≠ 7 ∨ a % 4 ≠ 0 ∨ 0x7F0 < a then .fault 3
    else
      match [k, k + 1, k + 2, k + 3].find? s.shBad with
      | some bad => .uncorr bad
      | none =>
        if op = 0 ∨ 5 < op.toNat then .fault 3
        else match e.enqueue (.port slot.toNat b.2 (s.shRead k) (s.shRead (k + 1)) (s.shRead (k + 2)) (s.shRead (k + 3))) with
          | some e => .done ((if k % 8 ≤ 4 then s.noteRead k else (s.noteRead k).noteRead (k + 3)).setEngine n e)
          | none => .fault 3

/-- EVT: an event record queued; its class must be 0x01 to 0x0C (R144). -/
def execEngEvt (n : Nat) (code : BitVec 16) (ra rb : BitVec 4) (s : State) : Out :=
  s.issueEngine n (.evt code ra rb) fun e =>
    let c := code.toNat / 256
    if 1 ≤ c ∧ c ≤ 0x0C then e.enqueue (.event code.toNat (e.reg ra) (e.reg rb)) else none

/-- MBX: a mailbox entry queued (R145). -/
def execEngMbx (n : Nat) (tag : BitVec 8) (ra : BitVec 4) (s : State) : Out :=
  s.issueEngine n (.mbx tag ra) fun e => e.enqueue (.mail tag.toNat (e.reg ra))

/-- The item `sel` of an engine's own status (Table 6-5, R151). -/
def State.statusItem (s : State) (n : Nat) (e : Engine) (sel : Nat) : Option Word :=
  let tick := e.tickAt / 2
  match sel with
  | 0 => some (BitVec.ofNat 32 (2 ^ 24 * e.ovr.toNat + 2 ^ 23 * e.mig.toNat + 2 ^ 22 * e.first.toNat + 2 ^ 11 * n + e.obj))
  | 1 => some (BitVec.ofNat 32 (if e.mig then e.srcLayout else e.layout))
  | 2 => some (BitVec.ofNat 32 tick)
  | 3 => some (BitVec.ofNat 32 (tick / 2 ^ 32))
  | 4 => some (BitVec.ofNat 32 (s.rd SETT_CTL.period (n / 32) * 32768))
  | _ => none

/-- RDST (R140). -/
def execEngRdst (n : Nat) (rd sel : BitVec 4) (s : State) : Out :=
  s.issueEngine n (.rdst rd sel) fun e => (s.statusItem n e sel.toNat).map fun v => e.result rd (Res.plain v)

/-- TSET. -/
def execEngTset (n : Nat) (tm : BitVec 2) (ra : BitVec 4) (s : State) : Out :=
  s.issueEngine n (.tset tm ra) fun e => some (e.setTimer tm (e.reg ra))

/-- TSETI. -/
def execEngTseti (n : Nat) (tm : BitVec 2) (imm : BitVec 18) (s : State) : Out :=
  s.issueEngine n (.tseti tm imm) fun e => some (e.setTimer tm (imm.setWidth 32))

/-- TRD. -/
def execEngTrd (n : Nat) (rd : BitVec 4) (tm : BitVec 2) (s : State) : Out :=
  s.issueEngine n (.trd rd tm) fun e => some (e.result rd (Res.plain (e.timer tm)))

end Sys2Proof.Machine
end

