-- ==== Sys2Proof/Machine/Zither.lean ====
section
/-!
DEFINITION. The meanings of the zither sequencer's commands (07): table writes, group commands, and the instants of a run.
-/
namespace Sys2Proof.Machine

/-- PG_CHANGE: the synchronised level of a PG input, and the good conditions that read it (R160). -/
def execPgChange (pin : Nat) (high : Bool) (s : State) : Out :=
  let l := s.zither.pgHigh.filter (· != pin)
  doIf s.alive s
    ({ s with zither := { s.zither with pgHigh := if high then pin :: l else l } }).judgeEntries

/-- The fields of a zither entry word. -/
def entryWordFields (w : Nat) : List Fld :=
  if w = 0 then Reg.fields .ZIT_EW0
  else if w = 1 then Reg.fields .ZIT_EW1
  else if w = 2 then Reg.fields .ZIT_EW2
  else Reg.fields .ZIT_EW3

/-- ENTRY_WRITE (R153): ignored, with wr_ignored set, when the table is locked or the entry's group, present or written, is not OFF
or DWELL. -/
def execEntryWrite (k w : Nat) (v : BitVec 32) (s : State) : Out :=
  let v := v.toNat
  let down (g : Nat) : Bool := s.gstate g == 0 || s.gstate g == 4
  let ok := !s.bit ZIT_CTL.lock 0 && down (s.rd ZIT_EW0.group k) && (w != 0 || down (ZIT_EW0.group.of v))
  doIf s.alive s (if ok then s.writeFlds (entryWordFields w) k v else s.wr ZIT_STAT.wr_ignored 0 1)

/-- ZITHER_LOCK (R153). -/
def execZitherLock (s : State) : Out := doIf s.alive s (s.wr ZIT_CTL.lock 0 1)

/-- POWER_UP (Table 7-6): the status is OK unless a check refuses the start or a power-on reset is pending (R58). -/
def execPowerUp (g : Nat) (via : Via) (s : State) : Out :=
  let t := s.powerUp g
  doIf (s.fwUp && s.given via 0x0400 fun d => descParam d 0x2C 1 == g && descParam d 0x2D 1 == 1) s
    (if viaRing via && s.shadow_ then s.finish via St.refusedState else t.finish via (t.rd ZIT_GSTAT.cmd_status g))

/-- POWER_DOWN (Table 7-6). -/
def execPowerDown (g : Nat) (via : Via) (s : State) : Out :=
  let t := s.powerDown g
  doIf (s.fwUp && s.given via 0x0400 fun d => descParam d 0x2C 1 == g && descParam d 0x2D 1 == 2) s
    (if viaRing via && s.shadow_ then s.finish via St.refusedState else t.finish via (t.rd ZIT_GSTAT.cmd_status g))

/-- PENDING_POWER_UP_START (R158). -/
def execPendingPowerUpStart (g : Nat) (s : State) : Out :=
  doIf (s.alive && !s.noStart && s.gstate g == 0 && s.bit ZIT_GSTAT.up_pending g && s.admitted) s (s.startUp g)

/-- ENTRY_DUE (R159): due at common start plus on_delay and after every dependency is good; a shadow whose set does not match raises no
EN (R486). -/
def execEntryDue (k : Nat) (s : State) : Out :=
  let g := s.rd ZIT_EW0.group k
  let e := s.zent k
  let due := decide ((s.zgrp g).start + s.rd ZIT_EW1.on_delay k * 10 ≤ s.tick) &&
    (s.deps k).all (fun d => (s.zent d).good && decide ((s.zent d).goodAt + 1 ≤ s.tick))
  doIf (s.alive && s.gstate g == 1 && e.phase == 1 && due && !(s.shadow_ && !s.bit TWIN_STAT.set_match 0)) s
    (s.setZent k { e with phase := 2, on := true, onAt := s.tick, cond := s.goodCond k, condAt := if e.cond && s.goodCond k then e.condAt else s.tick })

/-- ENTRY_GOOD (R160, R162). -/
def execEntryGood (k : Nat) (s : State) : Out :=
  let g := s.rd ZIT_EW0.group k
  let e := s.zent k
  let ready :=
    if s.hasSource k then s.goodCond k && decide (max e.onAt e.condAt + s.rd ZIT_EW2.pg_filter k ≤ s.tick)
    else decide (e.onAt + s.rd ZIT_EW2.deadline k * 100 ≤ s.tick)
  let t := s.setZent k { e with phase := 3, good := true, goodAt := s.tick, goodUs := min 65535 (s.tick - e.onAt) }
  let t :=
    if (t.groupEntries g).all (fun j => (t.zent j).good) then
      ((t.wr ZIT_GSTAT.state g 2).setZgrp g { t.zgrp g with doneAt := some t.tick }).record
        Ev.SEQ_UP_DONE Src.zither [g, t.tick - (t.zgrp g).start]
    else t
  doIf (s.alive && s.gstate g == 1 && e.phase == 2 && ready) s t

/-- GOOD_DEADLINE_EXPIRY (R161): cause 1; of an entry whose deadline ends in the cycle that has aborted its group it is recorded too (R165). -/
def execGoodDeadlineExpiry (k : Nat) (s : State) : Out :=
  let g := s.rd ZIT_EW0.group k
  let e := s.zent k
  let due := e.onAt + s.rd ZIT_EW2.deadline k * 100
  let runs := decide (s.gstate g = 1 ∧ due ≤ s.tick) || decide (s.gstate g = 3 ∧ due = s.tick ∧ e.fault = 0 ∧ s.oneCycle g 1 = true)
  doIf (s.alive && e.phase == 2 && s.hasSource k && runs) s
    ((s.record Ev.SEQ_PG_TIMEOUT Src.zither [g, k, s.rd ZIT_EW2.deadline k]).abort g 1 k)

/-- FALSE_GOOD_INTERVAL (R163, R167): one interval counts once, as a chatter or as a loss of good. -/
def execFalseGoodInterval (k : Nat) (s : State) : Out :=
  let g := s.rd ZIT_EW0.group k
  let e := s.zent k
  let t := s.setZent k { e with counted := true, chatters := if e.inWatch then e.chatters + 1 else e.chatters }
  let t :=
    if e.inWatch then
      if s.rd ZIT_EW2.chatter_max k < e.chatters + 1 then
        (t.record Ev.SEQ_CHATTER Src.zither [g, k, e.chatters + 1]).abort g 2 k
      else t
    else (t.record Ev.SEQ_PG_LOST Src.zither [g, k, s.tick - e.condAt]).abort g 3 k
  doIf (s.alive && s.hasSource k && e.on && e.good && !e.cond && !e.counted && 1 ≤ s.gstate g && s.gstate g ≤ 3 &&
      decide (e.condAt + s.rd ZIT_EW2.pg_filter k ≤ s.tick)) s t

/-- PG_LOST_DEADLINE (R163): an interval of the watch that outlasts the deadline, cause 3. It is recorded in DOWN of an interval that decided
cause 2, too (R167, DEDUCED, log entry 80). -/
def execPgLostDeadline (k : Nat) (s : State) : Out :=
  let g := s.rd ZIT_EW0.group k
  let e := s.zent k
  doIf (s.alive && s.hasSource k && e.on && e.good && !e.cond && e.inWatch && e.counted && !e.lost && 1 ≤ s.gstate g && s.gstate g ≤ 3 &&
      decide (e.condAt + s.rd ZIT_EW2.deadline k * 100 ≤ s.tick)) s
    (((s.setZent k { e with lost := true }).record Ev.SEQ_PG_LOST Src.zither [g, k, s.tick - e.condAt]).abort g 3 k)

/-- POWER_DOWN_ENTRY_DUE (R166): the EN drops at common start plus off_delay. -/
def execPowerDownEntryDue (k : Nat) (s : State) : Out :=
  let g := s.rd ZIT_EW0.group k
  let e := s.zent k
  doIf (s.alive && s.gstate g == 3 && e.on && decide ((s.zgrp g).start + s.rd ZIT_EW1.off_delay k * 10 ≤ s.tick)) s
    (s.setZent k { e with phase := 4, on := false, offAt := s.tick })

/-- OFF_CONFIRMED (R166). -/
def execOffConfirmed (k : Nat) (s : State) : Out :=
  let g := s.rd ZIT_EW0.group k
  let e := s.zent k
  let off :=
    if s.hasSource k then !s.goodCond k && decide (max e.offAt e.condAt + s.rd ZIT_EW2.pg_filter k ≤ s.tick)
    else decide (e.offAt + s.rd ZIT_EW2.deadline k * 100 ≤ s.tick)
  doIf (s.alive && s.gstate g == 3 && e.phase == 4 && off) s
    ((s.setZent k { e with phase := 0 }).checkOff g)

/-- OFF_DEADLINE_EXPIRY (R166): recorded, off_stuck set, counted off. -/
def execOffDeadlineExpiry (k : Nat) (s : State) : Out :=
  let g := s.rd ZIT_EW0.group k
  let e := s.zent k
  doIf (s.alive && s.gstate g == 3 && e.phase == 4 && s.hasSource k &&
      decide (e.offAt + s.rd ZIT_EW2.deadline k * 100 ≤ s.tick)) s
    ((((s.setZent k { e with phase := 0 }).wr ZIT_GSTAT.off_stuck g 1).checkOff g).record Ev.SEQ_OFF_STUCK Src.zither [g, k])

/-- DWELL_END (R170): DWELL becomes OFF; a pending or automatic power-up follows. -/
def execDwellEnd (g : Nat) (s : State) : Out :=
  let t := s.wr ZIT_GSTAT.state g 0
  let auto := s.bit ZIT_GCTL.auto_restart g && !s.bit ZIT_GSTAT.off_stuck g && !s.bit RST_CAUSE.xtal_fallback 0
  doIf (s.alive && s.gstate g == 4 && decide ((s.zgrp g).dwellEnd ≤ s.tick)) s
    (if !s.noStart && (s.bit ZIT_GSTAT.up_pending g || auto) then t.upOrPend g else t)

/-- EN_REDRIVE (R169): 1 ms after the collapse condition has gone, or after a trip, the pads are driven again and
FEED_STAT.collapse clears (R177). -/
def execEnRedrive (s : State) : Out :=
  let ready := match s.zither.redriveFrom with
    | some t => decide (t + 1000 ≤ s.bootUs)
    | none => false
  doIf (s.alive && s.zither.released && ready) s
    ({ s with zither := { s.zither with released := false, redriveFrom := none },
              burrow := { s.burrow with halt := false } }.wr FEED_STAT.collapse 0 0)

end Sys2Proof.Machine
end

