-- ==== Sys2Proof/Machine/Feeds.lean ====
section
/-!
DEFINITION. The meanings of the commands of feed and insertion control (08).
-/
namespace Sys2Proof.Machine

/-- The burrow at an input collapse (R480). With the hold-up store good the commit in progress is followed at once by the two collapse
records and the queued records are discarded; with it low no commit starts and the one under way survives or is torn. -/
def Burrow.collapse (b : Burrow) (good : Bool) (recs : List Rec) : Burrow :=
  match good, b.flight with
  | true, h :: _ => { b with flight := h :: recs, prio := [] }
  | true, [] => { b with flight := recs, prio := [] }
  | false, h :: _ =>
    if Config.commitSurvives b.nextSeq then
      { b with flash := b.flash ++ [{ h with seq := b.nextSeq }], nextSeq := b.nextSeq + 1, flight := [], prio := [], halt := true }
    else { b with flight := [], prio := [], halt := true, tornNew := b.tornNew + 1 }
  | false, [] => { b with prio := [], halt := true }

/-- INPUT_COLLAPSE (R168, R177, R480). -/
def execInputCollapse (s : State) : Out :=
  let mask := s.runMask
  let good := !s.flev 9 2
  let lost := (s.burrow.flight.length - 1) + s.burrow.prio.length
  let t := s.releasePads
  let t := if t.insActive then t.ghsLow.setIns 0 else t
  let t := (t.wr FEED_STAT.collapse 0 1).judgeSpans
  let seq := t.mkRec Ev.SEQ_COLLAPSE Src.zither [mask, 0]
  let feed := t.mkRec Ev.FEED_COLLAPSE Src.feed [voltsOf (s.sample 60), voltsOf (s.sample 62), good.toNat, if good then lost else 0]
  let t := { t with burrow := t.burrow.collapse good [seq, feed] }
  doIf (s.alive && s.collapsed && (!s.bit FEED_STAT.collapse 0 || s.zither.redriveFrom.isSome)) s
    ((t.offerMirror feed).offerMirror seq).eventInt

/-- The enabled thresholds of a window lie in the order FL < WL < WH < FH (R86). -/
def WinSet.ordered (w : WinSet) : Bool :=
  let l := (if w.flEn then [w.fl] else []) ++ (if w.wlEn then [w.wl] else []) ++
    (if w.whEn then [w.wh] else []) ++ (if w.fhEn then [w.fh] else [])
  (l.zip (l.drop 1)).all fun p => decide (p.1 < p.2)

/-- FEED_WINDOW_COMMIT (R175): a write of FEED_WCTLn with commit set; ignored under FEED_CTL.lock or the channel's lock (R90), refused with
cfg_err on bad order. -/
def execFeedWindowCommit (n : Nat) (v : BitVec 32) (s : State) : Out :=
  let x := 2 * fixedChannel n
  let t := s.writeFlds (Reg.fields .FEED_WCTL) n v.toNat
  doIf (s.settUp && !s.bit FEED_CTL.lock 0 && !s.bit SNS_CHCFG.lock (fixedChannel n)) s
    (if (t.shadow x).ordered then t.setWin x { t.win x with commitDue := true }
     else (t.wr FEED_STAT.cfg_err 0 1).wr SNS_WSTAT.order_err x 1)

/-- A span has lasted `us`. -/
def State.spanned (s : State) (from_ : Option Nat) (us : Nat) : Bool := match from_ with
  | some t => decide (t + us ≤ s.bootUs)
  | none => false

/-- FEED_GATE_ON (Table 8-2): the conditions have held for 100 µs. -/
def execFeedGateOn (b : Bool) (s : State) : Out :=
  doIf (s.alive && s.gateOk b && s.spanned (s.side b).okFrom 100) s
    (let t := s.setGate b 1
     (t.setSide b { t.side b with onAt := s.bootUs, confirmed := false, sag := 0 }).judgeSpans)

/-- GATE_CHECK_EXPIRY (R186): 0 GDA, 1 GDB, 2 GHS. -/
def execGateCheckExpiry (g : Nat) (s : State) : Out :=
  let due :=
    if g = 2 then s.feed.ghsHigh && !s.feed.ghsConfirmed && decide (s.feed.ghsAt + 5000 ≤ s.bootUs)
    else s.rd (gateFld (g == 1)) 0 == 1 && !(s.side (g == 1)).confirmed && decide ((s.side (g == 1)).onAt + 5000 ≤ s.bootUs)
  doIf (s.alive && due && s.flev (6 + g) 2) s (s.damage g)

/-- FEED_REVERSE_DUE (R180). -/
def execFeedReverseDue (b : Bool) (s : State) : Out :=
  let f := s.side b
  let due := match f.lastRec with
    | some r => decide (r + 1000000 ≤ s.bootUs)
    | none => true
  doIf (s.alive && decide (0 < f.held) && due) s (s.reverseRecord b)

/-- A feed gate is ON and confirmed by its monitor (R182). -/
def State.gateReady (s : State) (b : Bool) : Bool :=
  s.rd (gateFld b) 0 == 1 && (s.side b).confirmed && !s.flev (gateWin b) 2

/-- SETTLE_EXPIRY (R182, R194): the admission conditions have held for t_settle; WAIT becomes RAMP, once the burrow has been read. -/
def execSettleExpiry (s : State) : Out :=
  doIf (s.alive && s.ins == 0 && s.feed.replayed && s.admissible && s.spanned s.feed.settleDue 0 &&
      (s.gateReady false || s.gateReady true)) s (s.rampStart.setIns 1)

/-- RAMP_END (R183): QS59 near V_in for 1 ms; GHS is driven high and the gate check starts. -/
def execRampEnd (s : State) : Out :=
  doIf (s.alive && !s.shadow_ && s.rampNear && s.spanned s.feed.nearFrom 1000) s
    ({ s with feed := { s.feed with ghsHigh := true, ghsAt := s.bootUs, nearFrom := none, lowFrom := none } }).confirmGhs

/-- RAMP_SHORTFALL_EXPIRY (R187): QS59 more than 10 V (5,120 codes) below the profile for 200 µs, cause 3. -/
def execRampShortfallExpiry (s : State) : Out :=
  doIf (s.alive && s.rampLow && s.spanned s.feed.lowFrom 200) s
    (s.trip [(3, Ev.FEED_SHORT_RAMP, s.shortData 3)])

/-- RAMP_DEADLINE_EXPIRY (R187): cause 5. -/
def execRampDeadlineExpiry (s : State) : Out :=
  doIf (s.alive && s.ins == 1 && !s.feed.ghsHigh && decide (s.feed.rampAt + s.feed.rampTo * 10000 ≤ s.bootUs)) s
    (s.trip [(5, Ev.FEED_RAMP_TO, [voltsOf (s.sample 59)])])

/-- TIMED_FUSE_EXPIRY (R188): the WH level of window 0 has stood for t_oc, cause 2. -/
def execTimedFuseExpiry (s : State) : Out :=
  doIf (s.alive && s.insActive && s.flev 0 1 && decide (s.feed.ocFrom + s.feed.tOc * 10 ≤ s.bootUs)) s
    (s.trip [(2, Ev.FEED_OC_TIMED, [2, ampsOf s.feed.peak])])

/-- RETRY_TIMER_EXPIRY (R190). -/
def execRetryTimerExpiry (s : State) : Out :=
  doIf (s.alive && s.ins == 3 && decide (s.feed.retryEnd ≤ s.bootUs)) s (s.setIns 0)

/-- TRIP_CLEAR_TIMER (R191): ON for 60 s. -/
def execTripClearTimer (s : State) : Out :=
  let n := s.rd FEED_STAT.retry_count 0
  doIf (s.alive && s.ins == 2 && n != 0 && decide (s.feed.onAt + 60000000 ≤ s.bootUs)) s
    ((s.wr FEED_STAT.retry_count 0 0).record Ev.FEED_TRIP_CLEAR Src.feed [n])

/-- A feed command of tray firmware or of FEED_CMD (Table 8-5): its status in FEED_STAT and in the completion; a shadow refuses the
descriptor (R500). -/
def State.feedCmd (s : State) (cmd : Nat) (via : Via) (r : State × Nat) : Out :=
  doIf (s.fwUp && s.given via 0x0401 fun d => descParam d 0x2C 1 == cmd) s
    (if viaRing via && s.shadow_ then s.finish via St.refusedState else (r.1.wr FEED_STAT.cmd_status 0 r.2).finish via r.2)

/-- FEED_CLEAR (R193). -/
def execFeedClear (via : Via) (s : State) : Out :=
  s.feedCmd 1 via (match s.feedClear 0 with
    | some t => (t, St.ok)
    | none => (s, St.refusedState))

/-- FORCE_OFF (R193). -/
def execForceOff (via : Via) (s : State) : Out :=
  s.feedCmd 2 via (if s.allGroupsDown && s.ins ≤ 3 then (s.ghsLow.setIns 7, St.ok) else (s, St.refusedState))

/-- FEED_RELEASE (R193). -/
def execFeedRelease (via : Via) (s : State) : Out :=
  s.feedCmd 3 via ((if s.ins = 7 then s.setIns 0 else s), St.ok)

/-- FEED_LOCK (R198). -/
def execFeedLock (s : State) : Out := doIf s.alive s (s.wr FEED_CTL.lock 0 1)

/-- LEVER_OPEN (R195): LEVER# has been high for 1 ms. -/
def execLeverOpen (s : State) : Out :=
  let t := ((s.wr FEED_STAT.lever_latched 0 0).judgeSpans).record Ev.FEED_LEVER_OPEN Src.feed [s.ins]
  doIf s.alive s
    (if s.bit FEED_CTL.lever_act 0 && (s.ins == 1 || s.ins == 2) then
      let t := ({ t with feed := { t.feed with
        ghsHigh := true, ghsAt := if s.feed.ghsHigh then s.feed.ghsAt else s.bootUs, removeEnd := s.bootUs + s.rd FEED_REMOVE.t_lever 0 * 1000 } }).setIns 6
      each (List.range 16) (fun g s => if s.gstate g = 1 ∨ s.gstate g = 2 then s.powerDown g else s) t
     else t)

/-- LEVER_CLOSED (R195): LEVER# has been low for 1 ms. -/
def execLeverClosed (s : State) : Out :=
  doIf s.alive s (((s.wr FEED_STAT.lever_latched 0 1).judgeSpans).record Ev.FEED_LEVER_CLOSED Src.feed [s.ins])

/-- REMOVAL_END (R195). -/
def execRemovalEnd (s : State) : Out :=
  doIf (s.alive && s.ins == 6 && (s.allGroupsDown || decide (s.feed.removeEnd ≤ s.bootUs))) s
    (s.ghsLow.setIns 0)

/-- DISCH_TIMEOUT (R196). -/
def execDischTimeout (s : State) : Out :=
  doIf (s.alive && s.feed.disch && decide (s.feed.dischAt + s.rd FEED_REMOVE.t_disch_max 0 * 1000 ≤ s.bootUs)) s
    (({ s with feed := { s.feed with disch := false, dischWant := false } }).record
      Ev.FEED_DISCH_SLOW Src.feed [voltsOf (s.sample 59)])

/-- The trip cause a record of a trip event stands for, none for another record (Table 8-4). -/
def Rec.tripCause (r : Rec) : Option Nat :=
  if r.code = Ev.FEED_OC_FAST ∨ r.code = Ev.FEED_OC_TIMED ∨ r.code = Ev.FEED_OUT_LOST ∨ r.code = Ev.FEED_SHORT_RAMP ∨
      r.code = Ev.FEED_PULLDOWN then some (r.data.headD 0)
  else if r.code = Ev.FEED_RAMP_TO then some 5 else none

/-- A record that R194 takes the insertion state from. -/
def Rec.setsInsertion (r : Rec) : Bool :=
  r.tripCause.isSome || r.code == Ev.FEED_TRIP_CLEAR || r.code == Ev.FEED_LATCHED || r.code == Ev.FEED_CLEARED ||
    (r.code == Ev.FEED_FET_DAMAGED && r.data.headD 0 == 2)

/-- The feed record with the highest seq among those that satisfy `p`. -/
def latestRec (p : Rec → Bool) (l : List Rec) : Option Rec :=
  l.foldl (fun m r => if p r && (match m with | some q => decide (q.seq ≤ r.seq) | none => true) then some r else m) none

/-- Feed gate `g` starts DAMAGED: its latest damage record is later than the latest FEED_CLEARED (R194). -/
def gateDamaged (g : Nat) (l : List Rec) : Bool :=
  match latestRec (fun r => r.code == Ev.FEED_FET_DAMAGED && r.data.headD 0 == g) l, latestRec (fun r => r.code == Ev.FEED_CLEARED) l with
  | some d, some c => decide (c.seq < d.seq)
  | some _, none => true
  | none, _ => false

/-- The insertion state that the latest feed record gives (R194). -/
def State.replayIns (s : State) (l : List Rec) : State :=
  match latestRec Rec.setsInsertion l with
  | some r =>
    match r.tripCause with
    | some c =>
      let n := r.data.getLastD 0
      let s := { s with feed := { s.feed with retryEnd := s.rd FEED_CTL.retry_s 0 * 1000000 } }
      ((s.setIns 3).wr FEED_STAT.retry_count 0 n).record Ev.FEED_RETRY_RESUMED Src.feed [n, c]
    | none =>
      if r.code = Ev.FEED_LATCHED then (s.setIns 4).wr FEED_STAT.retry_count 0 (r.data.getLastD 0)
      else if r.code = Ev.FEED_FET_DAMAGED then s.setIns 5
      else s
  | none => s

/-- BURROW_REPLAY (R194): the feed state rebuilt from the burrow and the last persistence write; a state that a shadow has adopted from its lead
stands. -/
def execBurrowReplay (s : State) : Out :=
  let l := s.burrow.feedRecs ++ s.burrow.flash
  let t := { s with feed := { s.feed with replayed := true } }
  let t := if gateDamaged 0 l then t.setGate false 3 else t
  let t := if gateDamaged 1 l then t.setGate true 3 else t
  doIf (s.alive && decide (2 ≤ s.part.stage) && !s.feed.replayed) s (if s.ins = 0 then t.replayIns l else t)

end Sys2Proof.Machine
end

