-- ==== Sys2Proof/Machine/Harps.lean ====
section
/-!
DEFINITION. The meanings of the harp arbiter's and the AVSBus masters' commands (09).
-/
namespace Sys2Proof.Machine

/-- HOLD_EXPIRY (R204): the code has stood for hold; it falls by one level, or straight to the request. -/
def execHoldExpiry (w : Nat) (s : State) : Out :=
  let code := s.rd HARP_WSTAT.code w
  let r := s.harpRequest w
  doIf (s.settUp && decide (r < code) && decide ((s.harp w).changeAt + s.rd HARP_WCTL.hold w ≤ s.bootUs)) s
    ((s.setHarp w { s.harp w with changeAt := s.bootUs }).wr HARP_WSTAT.code w (if s.bit HARP_WCTL.step_down w then code - 1 else r))

/-- WALRT_QUALIFIED (R206): the arbiter judges again, and an assertion is recorded, in the order of R525. -/
def execWalrtQualified (w : Nat) (low : Bool) (s : State) : Out :=
  let t := s.wrBit HARP_WSTAT.walrt w low
  doIf (s.settUp && s.bit HARP_WSTAT.walrt w != low) s
    (if low then t.harpJudge.record Ev.WARD_ALERT (Src.ward w) [w] else t.harpJudge)

/-- FLOOR_WRITE (R205): not subject to the lock. -/
def execFloorWrite (w : Nat) (code : BitVec 2) (s : State) : Out :=
  let t := (s.wr HARP_WCTL.floor w code.toNat).harpJudge
  doIf s.settUp s (if t.leads then t.tellTwin (.floor (Fin.ofNat 8 w) code) else t)

/-- AVS_FRAME_DONE (R219, R220): `resp` is the read-back value of a response whose acknowledge and CRC pass, none where they fail. A status that
is read shows in no register of the spec. -/
def execAvsFrameDone (w : Nat) (resp : Option (BitVec 12)) (s : State) : Out :=
  let resp := resp.map (·.toNat)
  let h := s.harp w
  doIf s.settUp s <|
    match h.frame, resp with
    | none, _ => s
    | some .read, some v => (s.wr HARP_AVSSTAT.v_read w v).avsNext w
    | some .read, none => s.avsNext w
    | some .status, _ => s.avsNext w
    | some (.write v _), some _ => ((s.wr HARP_AVSSTAT.v_sent w v).wr HARP_AVSSTAT.fault w 0).avsNext w
    | some (.write v n), none =>
      if n < 2 then s.avsStart w (.write v (n + 1))
      else if n = 2 then ((s.wr HARP_AVSSTAT.fault w 1).record Ev.WARD_AVS_FAULT (Src.ward w) [w, v]).avsNext w
      else s.avsNext w

/-- AVS_RESEND (R220): under fault the latest setpoint is sent again every 100 µs. -/
def execAvsResend (w : Nat) (s : State) : Out :=
  let h := s.harp w
  doIf (s.settUp && s.avsDrives w && s.bit HARP_AVSSTAT.fault w && h.frame.isNone && decide (h.lastTry + 100 ≤ s.bootUs)) s
    (match h.latest with
      | some v => s.avsStart w (.write v 3)
      | none => s)

/-- The poll period of `HARP_GCTL.poll` in µs. -/
def avsPeriod (p : Nat) : Nat := if p = 1 then 10 else if p = 2 then 100 else 1000

/-- AVS_POLL (R219): a voltage read at its period, or a status read, which the T840 supports at no stated period (DESIGN CHOICE, log entry 84);
both yield to writes. -/
def execAvsPoll (w : Nat) (status : Bool) (s : State) : Out :=
  let h := s.harp w
  let p := s.rd HARP_GCTL.poll 0
  let due := status || (p != 0 && decide (h.lastPoll + avsPeriod p ≤ s.bootUs))
  doIf (s.settUp && s.avsDrives w && h.frame.isNone && h.next.isNone && due) s
    (if status then s.avsStart w .status else (s.setHarp w { h with lastPoll := s.bootUs }).avsStart w .read)

end Sys2Proof.Machine
end

