-- ==== Sys2Proof/Machine/RecOps.lean ====
section
/-!
DEFINITION. In-package memory, the flight recorder and telemetry subscriptions (16, 17).
-/
namespace Sys2Proof.Machine

/-! ## In-package memory -/

/-- The byte of in-package memory at an HDM offset; a byte that nothing has written reads as zero. -/
def State.hbmByte (s : State) (a : Nat) : Byte := Tab.get 0 s.recorder.hbm a

/-- Bytes written from an HDM offset up. -/
def putBytes : Tab Byte → Nat → List Byte → Tab Byte
  | m, _, [] => m
  | m, a, b :: l => putBytes (Tab.set 0 m a b) (a + 1) l

/-- The bad bits left after `n` bytes from offset `a` are written: the words that they touch are encoded again. -/
def wroteBad (bad : Tab CodeWord) (a n : Nat) : Tab CodeWord :=
  each ((List.range ((a + n + 31) / 32 - a / 32)).map (a / 32 + ·)) (fun w t =>
    let lo := max a (32 * w)
    Tab.upd 0 t w fun c => writeBad c (8 * (lo - 32 * w)) (8 * (min (a + n) (32 * w + 32) - lo))) bad

def State.setHbm (s : State) (a : Nat) (l : List Byte) : State :=
  { s with recorder := { s.recorder with hbm := putBytes s.recorder.hbm a l, hbmBad := wroteBad s.recorder.hbmBad a l.length } }

/-! ## The flight recorder (R413 to R420) -/

/-- The recorder's segments (R414). -/
def State.segments (s : State) : Nat := if s.part.variant = .qc then 80558 else 161170

def segBytes : Nat := 319680

/-- The HDM offset of the segment whose first tick is `t`. -/
def State.segOffset (s : State) (t : Nat) : Nat := t / 64 % s.segments * segBytes

/-- The recorder writes: RECORDING or POST, with VCORE (R418). -/
def State.recWrites (s : State) : Bool := s.coreUp && s.rd REC_STAT.state 0 ≤ 1

/-- The channels disabled, faulted or absent now, as a mask (R413). -/
def State.absentMask (s : State) : Nat :=
  (((List.range 304).filter fun c => !s.bit SNS_CHCFG.enable c || s.bit SNS_CHSTAT.fault c || s.bit SNS_CHSTAT.absent c).map (2 ^ ·)).sum

/-- A channel marked absent in the segment being written. -/
def State.recMark (s : State) (c : Nat) : State :=
  if s.recWrites then { s with recorder := { s.recorder with absent := s.recorder.absent ||| 2 ^ c } } else s

/-- The segment of tick `t` begun: its bytes at zero, magic included (R415). -/
def State.segBegin (s : State) (t : Nat) : State :=
  let first := t / 64 * 64
  let o := s.segOffset first
  { s with recorder := { s.recorder with
      segTick := first, absent := s.absentMask, resultAt := none, trigAt := none,
      hbm := s.recorder.hbm.filter fun e => !(decide (o ≤ e.1) && decide (e.1 < o + segBytes)) } }

/-- The header of the segment being written, last (Table 17-2). -/
def State.segHeader (s : State) : List Byte :=
  let r := s.recorder
  leBytes 4 0x52454331 ++ leBytes 1 (r.resultAt.getD 255) ++ leBytes 1 r.trigAt.isSome.toNat ++ leBytes 1 (r.trigAt.getD 0) ++ leBytes 1 0 ++
  leBytes 8 r.seq ++ leBytes 8 r.segTick ++ leBytes 38 (r.absent ||| s.absentMask) ++ leBytes 2 0

/-- The segment being written is complete. -/
def State.segEnd (s : State) : State :=
  let s := s.setHbm (s.segOffset s.recorder.segTick) s.segHeader
  { s with recorder := { s.recorder with seq := s.recorder.seq + 1 } }

/-- The place of a sample word in its segment (Table 17-1): channel, tick index, sub-aperture. -/
def samplePlace (c t a : Nat) : Nat :=
  if c < 64 then 64 + 128 * (20 * t + a) + 2 * c
  else if c < 256 then 163904 + 384 * t + 2 * (c - 64)
  else 319552 + 2 * (c - 256)

/-- A sample word recorded. -/
def State.recSample (s : State) (c a word : Nat) : State :=
  let t := s.tick - s.recorder.segTick
  if s.recWrites && decide (t < 64) then
    let s := s.setHbm (s.segOffset s.recorder.segTick + samplePlace c t a) (leBytes 2 word)
    let s := if 256 ≤ c then { s with recorder := { s.recorder with resultAt := some t } } else s
    if s.bit SNS_CHSTAT.fault c || s.bit SNS_CHSTAT.absent c then s.recMark c else s
  else s

/-- A TELEM frame of ward `w` recorded as received. -/
def State.recTelem (s : State) (w : Nat) (frame : List Word) : State :=
  let t := s.tick - s.recorder.segTick
  if s.recWrites && decide (t < 64) then
    s.setHbm (s.segOffset s.recorder.segTick + 188480 + 256 * (8 * t + w)) (frame.flatMap fun v => leBytes 4 v.toNat)
  else s

/-- A trigger falls into the sett-clock cycle of the one that moved the recorder to POST (R418). -/
def State.sameTrigger (s : State) : Bool :=
  s.rd REC_STAT.state 0 == 1 && s.rd REC_TTICK.tick 0 == s.tick && Config.sameCycle s.tick 16

/-- A trigger (R418): source 0 descriptor, 1 tray firmware, 2 reflex rule; its post-trigger span in ms. Of those of one cycle the lowest source
stands. -/
def State.recTrigger (s : State) (src rule post : Nat) : State :=
  if !s.coreUp then s
  else if s.sameTrigger then
    if src < s.rd REC_STAT.src 0 then
      { s with recorder := { s.recorder with post } }.wr REC_STAT.src 0 src |>.wr REC_STAT.rule 0 rule
    else s
  else
  match s.rd REC_STAT.state 0 with
  | 0 =>
    let s := ((((s.wr REC_STAT.state 0 1).wr REC_TTICK.tick 0 s.tick).wr REC_STAT.src 0 src).wr REC_STAT.rule 0 rule).wr REC_STAT.more 0 0
    let s := { s with recorder := { s.recorder with post, trigAt := some (s.tick - s.recorder.segTick) } }
    s.record Ev.INT_REC_TRIGGER (if src = 2 then Src.rule rule else Src.memory) [s.tick, src, rule]
  | 3 => s
  | _ => s.addSat REC_STAT.more 0 1

/-- The recorder's start (R416). -/
def State.recStart (s : State) : State :=
  let s := ((((((s.wr REC_STAT.state 0 0).wr REC_TTICK.tick 0 0).wr REC_MISSED.missed 0 0).wr REC_STAT.src 0 0).wr REC_STAT.more 0 0).wr
    REC_STAT.rule 0 0).wr BRW_MSEQ.seq 0 0
  let s := { s with burrow := { s.burrow with mirror := [] }, recorder := { s.recorder with seq := 0, releaseDue := false, freezer := none } }
  let top := s.segments * segBytes
  let s := { s with recorder := { s.recorder with
    hbm := s.recorder.hbm.filter fun e => !(decide (e.1 < top) && decide (e.1 % segBytes < 64))
    hbmBad := s.recorder.hbmBad.filter fun e => decide (e.1 < 2 ^ 40) } }
  s.segBegin s.tick

/-! ## Telemetry subscriptions (R407, R408) -/

def State.sub (s : State) (k : Nat) : Option Sub := (s.host.subs.find? (·.1 == k)).map (·.2)
def State.setSub (s : State) (k : Nat) (v : Sub) : State :=
  { s with host := { s.host with subs := Tab.ins (Tab.del s.host.subs k) k v } }

/-- One more value of a subscription's source: after 2^k of them an entry is due, with the position of the last and the statistic. -/
def Sub.take (x : Sub) (pos : Nat) (v : Int) : Sub :=
  let acc := if x.count = 0 then v else if x.stat = 0 then x.acc + v else if x.stat = 1 then min x.acc v else max x.acc v
  if x.count + 1 < 2 ^ x.k then { x with acc, count := x.count + 1 }
  else { x with acc := 0, count := 0, due := x.due ++ [(pos, fit32 (if x.stat = 0 then openQuot acc (2 ^ x.k) else acc))] }

/-- A value of source (kind, index) given to every subscription of it. -/
def State.feedSubs (s : State) (kind index pos : Nat) (v : Int) : State :=
  { s with host := { s.host with
      subs := s.host.subs.map fun e => if e.2.kind == kind && e.2.index == index then (e.1, e.2.take pos v) else e } }

end Sys2Proof.Machine
end

