-- ==== Sys2Proof/Machine/MemOps.lean ====
section
/-!
DEFINITION. Records as bytes, the regions of in-package memory and what a read of them answers (16, 17, 20).
-/
namespace Sys2Proof.Machine

/-! ## Records as bytes (Tables 20-1 and 20-3) -/

/-- The bytes that the data of an event take, where they are not 4 each: those that report a register or descriptor field take the whole bytes of its
width (R472; which data do, log entry 19). -/
def dataWidths : Nat → List Nat
  | 0x0101 => [4, 2, 2]
  | 0x0102 => [4, 2, 1]
  | 0x0103 => [2, 2, 2]
  | 0x0104 => [2, 2, 1]
  | 0x0105 => [4, 1, 4]
  | 0x0202 => [1, 4, 1]
  | 0x0203 => [1, 4, 1]
  | 0x0204 => [1, 4, 1]
  | 0x0205 => [1, 4, 4, 4, 1]
  | 0x0206 => [4, 1]
  | 0x0207 => [1, 4, 1]
  | 0x0208 => [1]
  | 0x0209 => [1]
  | 0x020C => [1, 1]
  | 0x020D => [4, 4, 1, 4]
  | 0x020E => [1]
  | 0x020F => [1]
  | 0x0302 => [4, 1, 4]
  | 0x0303 => [4, 1, 2]
  | 0x0304 => [4, 1, 1]
  | 0x0305 => [4, 1, 4]
  | 0x0306 => [4, 1, 4]
  | 0x0307 => [4, 1]
  | 0x0309 => [4, 1, 1]
  | 0x0401 => [4, 1, 4]
  | 0x0402 => [4, 2]
  | 0x0404 => [4, 1]
  | 0x0405 => [4, 1]
  | 0x0406 => [4, 1]
  | 0x0407 => [4, 1]
  | 0x0408 => [4, 2]
  | 0x0409 => [4, 2]
  | 0x0602 => [4, 1, 4]
  | 0x060A => [4, 2]
  | 0x060B => [4, 1, 4]
  | 0x060F => [4, 2, 8]
  | 0x0614 => [4, 1, 1]
  | 0x0615 => [4, 1, 1, 1]
  | 0x061B => [4, 1]
  | 0x061C => [4, 1, 1]
  | 0x0623 => [4, 4, 1]
  | 0x0701 => [4, 1, 4, 4, 1]
  | 0x0702 => [1, 4]
  | 0x0703 => [4, 1]
  | 0x0704 => [4, 1]
  | 0x0709 => [1, 4, 4]
  | 0x070B => [1]
  | 0x0801 => [1, 1, 4]
  | 0x0802 => [4, 8, 4]
  | 0x0806 => [1, 1]
  | 0x0908 => [8, 4]
  | 0x090A => [4, 8]
  | 0x090D => [8, 1, 2]
  | 0x090E => [8, 2]
  | 0x0910 => [2]
  | 0x0A02 => [1, 4, 1]
  | 0x0A04 => [8]
  | 0x0A05 => [2]
  | 0x0B03 => [4, 1, 1]
  | 0x0B04 => [4, 4, 2]
  | 0x0B05 => [8, 4, 4]
  | 0x0C02 => [4, 1, 1]
  | 0x0C04 => [4, 1]
  | 0x0C05 => [4, 1, 4]
  | 0x0C06 => [4, 1, 1]
  | 0x0C07 => [4, 1, 1]
  | _ => []

/-- Data packed in order, little-endian, each in its bytes: those of `ws` and then 4 each. -/
def packFields : List Nat → List Nat → Nat
  | _, [] => 0
  | ws, d :: l =>
    let w := 8 * ws.headD 4
    d % 2 ^ w + 2 ^ w * packFields ws.tail l

/-- The 16 data bytes of a record as a number, the first in the low bits. -/
def Rec.dataField (r : Rec) : Nat :=
  let d (i : Nat) : Nat := r.data.getD i 0
  match r.kind with
  | 2 => d 0 % 2 ^ 32 + 2 ^ 32 * (d 1 % 2 ^ 40) + 2 ^ 72 * (d 2 % 2 ^ 40)
  | 3 => d 0 % 2 ^ 64 + 2 ^ 64 * (d 1 % 2 ^ 64)
  | _ => packFields (dataWidths r.code) r.data % 2 ^ 128

/-- Little-endian words of bytes. -/
def wordsOf : List Byte → List Word
  | a :: b :: c :: d :: l => (d ++ c ++ b ++ a) :: wordsOf l
  | _ => []

/-- The 64 bytes of a burrow record, or of a mirror record. -/
def Rec.bytes (r : Rec) (mirror : Bool) : List Byte :=
  let body := leBytes 1 r.kind ++ leBytes 1 (r.prog.toNat + 2 * mirror.toNat) ++ leBytes 2 r.code ++ leBytes 2 r.source ++ leBytes 2 r.packId ++
    leBytes 8 r.seq ++ leBytes 5 r.opSeconds ++ leBytes 3 r.powerCycles ++ leBytes 5 r.bootUs ++ leBytes 3 0 ++ leBytes 16 r.dataField ++ leBytes 8 0
  body ++ leBytes 4 (crcWords (wordsOf body)).toNat ++ leBytes 4 0xA5C33C5A

/-! ## Regions of the HDM range (Table 16-2) -/

inductive Region where
  | recorder | eventRing | staging | store | models | working
deriving DecidableEq, Repr

/-- The region of an HDM offset; none beyond the capacity. -/
def State.region (s : State) (a : Nat) : Option Region :=
  if s.part.variant = .qc then
    if a < 0x5FF000000 then some .recorder else if a < 0x600000000 then some .eventRing else if a < 0x640000000 then some .staging
    else if a < 0x780000000 then some .store else if a < 0x800000000 then some .working else none
  else
    if a < 0xBFF000000 then some .recorder else if a < 0xC00000000 then some .eventRing else if a < 0xC40000000 then some .staging
    else if a < 0xE00000000 then some .store else if a < 0xF80000000 then some .models else if a < 0x1000000000 then some .working else none

/-- The first offset of the event ring (R417). -/
def State.ringBase (s : State) : Nat := if s.part.variant = .qc then 0x5FF000000 else 0xBFF000000

/-- The first offset of the staging window. -/
def State.stageBase (s : State) : Nat := if s.part.variant = .qc then 0x600000000 else 0xC00000000

/-- The stack that holds an HDM offset (R410). -/
def State.stackOf (s : State) (a : Nat) : Nat := Config.stackOf (a / 256) % (if s.part.variant = .qc then 2 else 4)

/-- The record of the event ring at an HDM offset. -/
def State.ringRecord (s : State) (a : Nat) : Option Rec :=
  if s.region a = some .eventRing then s.burrow.mirror.find? fun r => r.seq % mirrorRing == (a - s.ringBase) / 64 else none

/-- Where the bad bits of the word at an HDM offset are held. -/
def State.badKey (s : State) (a : Nat) : Nat := match s.ringRecord a with
  | some r => 2 ^ 40 + 2 * r.seq + a / 32 % 2
  | none => a / 32

/-- What a read of the word at an HDM offset finds, and the bits that it leaves wrong (R421). -/
def State.hbmFound (s : State) (a : Nat) : WordRead × CodeWord := readBad (Tab.get 0 s.recorder.hbmBad (s.badKey a))

/-- Bit upsets take place in the word at an HDM offset. -/
def State.hbmUpset (s : State) (a : Nat) (bad : CodeWord) : State :=
  { s with recorder := { s.recorder with hbmBad := Tab.upd 0 s.recorder.hbmBad (s.badKey a) (· ^^^ bad) } }

/-- The 64 bytes from an HDM offset as a read gives them: a record of the event ring, or memory. -/
def State.hbmLine (s : State) (a : Nat) : List Byte :=
  let stored := if s.region a = some .eventRing then ((s.ringRecord a).map fun r => r.bytes true).getD (leBytes 64 0)
    else (List.range 64).map fun i => s.hbmByte (a + i)
  (stored.zip (List.range 64)).map fun e => e.1 ^^^ (s.hbmFound (a + e.2)).2.extractLsb' (8 * (e.2 % 32)) 8

/-- A corrected word written back as one: its bad bits are gone, and where the decoder took it for another word the data are that word's. -/
def State.hbmMend (s : State) (a : Nat) : State :=
  let left := (s.hbmFound a).2
  let s := if left = 0 then s else s.setHbm a ((List.range 32).map fun i => s.hbmByte (a + i) ^^^ left.extractLsb' (8 * i) 8)
  { s with recorder := { s.recorder with hbmBad := Tab.del s.recorder.hbmBad (s.badKey a) } }

/-- An uncorrectable read of in-package memory (R422): `finder` 0 the host, 1 the scrubber. A word of tray firmware's working space raises
its machine check and an application reset, which the caller makes of the answer. -/
def State.hbmUncorr (s : State) (a finder : Nat) : State :=
  let s := s.memUncorr (s.stackOf a) (finder == 1) a
  if s.region a = some .working ∧ s.fwUp = true then s.record Ev.INT_APP_UNCORR Src.firmware [s.stackOf a, a]
  else s.record Ev.INT_HBM_UNCORR Src.memory [a, finder]

/-- A corrected read of in-package memory, which counts towards the hour's corrected words of its stack (R426). -/
def State.hbmCorr (s : State) (a : Nat) : State :=
  { s with recorder := { s.recorder with corrHour := Tab.upd 0 s.recorder.corrHour (s.stackOf a) (· + 1) } }.memCorr (s.stackOf a)

end Sys2Proof.Machine
end

