-- ==== Sys2Proof/Machine/Numbers.lean ====
section
/-!
DEFINITION. Marten's numbers: exact values, the floating-point and MX element formats, and the one rounding of each conversion (10).
-/
namespace Sys2Proof.Machine

/-- A value: m · 2^e with a sign, an infinity, or NaN. -/
inductive Num where
  | nan
  | inf (neg : Bool)
  | fin (neg : Bool) (m : Nat) (e : Int)
deriving DecidableEq, Repr

/-- A quotient by 2^k rounded to nearest with ties to even (R235, R242). -/
def tiesEven (n : Int) (k : Nat) : Int :=
  let d : Int := 2 ^ k
  let q := n / d
  let r := n % d
  if 2 * r < d then q else if d < 2 * r then q + 1 else if q % 2 = 0 then q else q + 1

/-- m · 2^e as an integer multiple of 2^q, rounded to nearest with ties to even. -/
def atQuantum (m : Nat) (e q : Int) : Nat :=
  if q ≤ e then m * 2 ^ (e - q).toNat else (tiesEven m (q - e).toNat).toNat

/-! ## Exact arithmetic -/

/-- The signed multiple of 2^q that m · 2^e is, where q is at most e. -/
def scaled (neg : Bool) (m : Nat) (e q : Int) : Int := (if neg then -1 else 1) * (m * 2 ^ (e - q).toNat : Nat)

/-- An integer multiple of 2^e; `zero` is the sign of 0. -/
def ofScaled (n : Int) (e : Int) (zero : Bool := false) : Num := if n = 0 then .fin zero 0 0 else .fin (decide (n < 0)) n.natAbs e

def Num.neg : Num → Num
  | .nan => .nan
  | .inf s => .inf !s
  | .fin s m e => .fin (!s) m e

def Num.abs : Num → Num
  | .nan => .nan
  | .inf _ => .inf false
  | .fin _ m e => .fin false m e

/-- The exact sum; of opposite infinities NaN (R239). -/
def Num.add : Num → Num → Num
  | .nan, _ => .nan
  | _, .nan => .nan
  | .inf s, .inf t => if s = t then .inf s else .nan
  | .inf s, .fin _ _ _ => .inf s
  | .fin _ _ _, .inf t => .inf t
  | .fin s m e, .fin t n f =>
    if m = 0 ∧ n = 0 then .fin (s && t) 0 0
    else ofScaled (scaled s m e (min e f) + scaled t n f (min e f)) (min e f)

/-- The exact product; of 0 and an infinity NaN. -/
def Num.mul : Num → Num → Num
  | .nan, _ => .nan
  | _, .nan => .nan
  | .inf s, .inf t => .inf (s != t)
  | .inf s, .fin t n _ => if n = 0 then .nan else .inf (s != t)
  | .fin s m _, .inf t => if m = 0 then .nan else .inf (s != t)
  | .fin s m e, .fin t n f => .fin (s != t) (m * n) (e + f)

/-- The value times 2^k. -/
def Num.shift (k : Int) : Num → Num
  | .fin s m e => .fin s m (e + k)
  | x => x

def ofInt (n : Int) : Num := ofScaled n 0

def Num.isNan : Num → Bool
  | .nan => true
  | _ => false

/-- x < y; none where one is NaN. -/
def Num.less : Num → Num → Option Bool
  | .nan, _ => none
  | _, .nan => none
  | .inf s, .inf t => some (s && !t)
  | .inf s, .fin _ _ _ => some s
  | .fin _ _ _, .inf t => some !t
  | .fin s m e, .fin t n f => some (decide (scaled s m e (min e f) < scaled t n f (min e f)))

/-! ## Formats (Tables 10-3 and 10-7) -/

/-- A floating-point format: exponent and mantissa bits, bias; 0 no special values, 1 a NaN alone in the highest code, 2 those of IEEE 754; whether
subnormals are read and written as zero. -/
structure Form where
  eb : Nat
  mb : Nat
  bias : Nat
  special : Nat
  flush : Bool

def formOf : FloatFmt → Form
  | .fp32 => ⟨8, 23, 127, 2, true⟩
  | .bf16 => ⟨8, 7, 127, 2, true⟩
  | .fp16 => ⟨5, 10, 15, 2, false⟩

/-- The form of an MX element and its emax; none of MXINT8 and of the types that are not supported. -/
def mxForm : MxElem → Option Form
  | .e4m3 => some ⟨4, 3, 7, 1, false⟩
  | .e5m2 => some ⟨5, 2, 15, 2, false⟩
  | .e3m2 => some ⟨3, 2, 3, 0, false⟩
  | .e2m3 => some ⟨2, 3, 1, 0, false⟩
  | .e2m1 => some ⟨2, 1, 1, 0, false⟩
  | _ => none

def mxEmax : MxElem → Int
  | .e4m3 => 8
  | .e5m2 => 15
  | .e3m2 => 4
  | .e2m3 => 2
  | .e2m1 => 2
  | _ => 0

/-- Bits of an element. -/
def mxBits : MxElem → Nat
  | .e3m2 => 6
  | .e2m3 => 6
  | .e2m1 => 4
  | _ => 8

/-- Bytes of a block of 32 elements and its scale (R232). -/
def mxSize (e : MxElem) : Nat := 4 * mxBits e + 1

/-- The value of a code (Tables 10-3 and 10-7). -/
def Form.value (f : Form) (w : Nat) : Num :=
  let s := w.testBit (f.eb + f.mb)
  let e := w / 2 ^ f.mb % 2 ^ f.eb
  let m := w % 2 ^ f.mb
  let top := 2 ^ f.eb - 1
  if f.special = 2 ∧ e = top then (if m = 0 then .inf s else .nan)
  else if f.special = 1 ∧ e = top ∧ m = 2 ^ f.mb - 1 then .nan
  else if e = 0 then .fin s (if f.flush then 0 else m) (1 - (f.bias : Int) - f.mb)
  else .fin s (2 ^ f.mb + m) ((e : Int) - f.bias - f.mb)

/-- The code of the largest finite value. -/
def Form.maxCode (f : Form) : Nat := if f.special = 2 then (2 ^ f.eb - 1) * 2 ^ f.mb - 1 else 2 ^ (f.eb + f.mb) - 1 - f.special

/-- A code with the sign put in. -/
def Form.signed (f : Form) (s : Bool) (c : Nat) : Nat := c + s.toNat * 2 ^ (f.eb + f.mb)

/-- The canonical NaN (R242). -/
def Form.nanCode (f : Form) : Nat := (2 ^ f.eb - 1) * 2 ^ f.mb + 2 ^ (f.mb - 1)

/-- A value rounded once: its code, whether it saturated and whether it is NaN (R242). A result below the normal numbers of a flushing format is
zero with its sign. -/
def Form.code (f : Form) : Num → Nat × Bool × Bool
  | .nan => (f.nanCode, false, true)
  | .inf s => (f.signed s ((2 ^ f.eb - 1) * 2 ^ f.mb), false, false)
  | .fin s m e =>
    if m = 0 then (f.signed s 0, false, false)
    else
      let low : Int := 1 - (f.bias : Int) - f.mb
      let q := max ((Nat.log2 m : Int) + e - f.mb) low
      let n := atQuantum m e q
      let c := if n < 2 ^ f.mb then (if f.flush then 0 else n) else n + ((q - low).toNat) * 2 ^ f.mb
      if f.maxCode < c then (f.signed s f.maxCode, true, false) else (f.signed s c, false, false)

/-! ## Integers, MX blocks and slots (R230, R232, R243) -/

/-- Two's complement of `n` bits. -/
def twos (n w : Nat) : Int := if w.testBit (n - 1) then (w % 2 ^ n : Nat) - (2 ^ n : Nat) else (w % 2 ^ n : Nat)

/-- Elements of `n` bits packed in bytes in ascending order: one little-endian bit stream (R230, R232). -/
def unpack (n count : Nat) (bytes : List Nat) : List Nat :=
  let all := (bytes.zip (List.range bytes.length)).foldl (fun a e => a + e.1 * 2 ^ (8 * e.2)) 0
  (List.range count).map fun j => all / 2 ^ (n * j) % 2 ^ n

def packBytes (n : Nat) (elems : List Nat) : List Nat :=
  let all := (elems.zip (List.range elems.length)).foldl (fun a e => a + e.1 % 2 ^ n * 2 ^ (n * e.2)) 0
  (List.range (n * elems.length / 8)).map fun j => all / 2 ^ (8 * j) % 256

/-- The value of an MX element before its scale. -/
def mxElem (e : MxElem) (w : Nat) : Num :=
  match mxForm e with
  | some f => f.value w
  | none => (ofInt (twos 8 w)).shift (-6)

/-- The 32 elements of a block, before the scale, and the scale; a NaN scale makes every element NaN. -/
def mxBlock (e : MxElem) (bytes : List Nat) : List Num × Int :=
  let x := bytes.getD (mxSize e - 1) 0
  if x = 255 then (List.replicate 32 .nan, 0)
  else ((unpack (mxBits e) 32 (bytes.take (mxSize e - 1))).map (mxElem e), (x : Int) - 127)

/-- The sum of the 32 products of a block pair with both scales, exact (R239). -/
def mxDot (a b : List Num × Int) : Num := (((a.1.zip b.1).map fun e => e.1.mul e.2).foldl Num.add (.fin false 0 0)).shift (a.2 + b.2)

def clampInt (lo hi n : Int) : Int := max lo (min hi n)

/-- A value as an integer multiple of 2^q, rounded, and saturated to a range (R243). NaN gives 0. -/
def Num.toRange (lo hi q : Int) : Num → Int
  | .nan => 0
  | .inf s => if s then lo else hi
  | .fin s m e => clampInt lo hi ((if s then -1 else 1) * (atQuantum m e q : Nat))

/-- INT8 and INT4 (R243). -/
def Num.toInt (four : Bool) (x : Num) : Int := if four then x.toRange (-8) 7 0 else x.toRange (-128) 127 0

/-- Q16.16 for an output slot; none for a NaN (R243). -/
def Num.toQ (x : Num) : Option Word :=
  if x.isNan then none else some (BitVec.ofInt 32 (x.toRange (-2147483648) 2147483647 (-16)))

def isFinite : Num → Bool
  | .fin _ _ _ => true
  | _ => false

/-- The exponent of the largest of the finite values, none where all are 0. -/
def topExp (l : List Num) : Option Int :=
  l.foldl (fun a x => match x with
    | .fin _ m e => if m = 0 then a else
      let k := (Nat.log2 m : Int) + e
      some (match a with
        | some b => max b k
        | none => k)
    | _ => a) none

/-- The code of an MX element: rounded and saturated to the largest finite element. -/
def mxCode (e : MxElem) (x : Num) : Nat :=
  match mxForm e with
  | some f => (f.code x).1
  | none => (x.toRange (-128) 127 (-6) % 256).toNat

/-- A block of 32 values as an MX type (R243): its bytes, and whether it is NaN. -/
def toMxBlock (e : MxElem) (l : List Num) : List Nat × Bool :=
  if l.all isFinite then
    match topExp l with
    | none => (List.replicate (mxSize e) 0, false)
    | some k =>
      let x := clampInt 0 254 (k - mxEmax e + 127)
      (packBytes (mxBits e) (l.map fun v => mxCode e (v.shift (127 - x))) ++ [x.toNat], false)
  else (List.replicate (mxSize e - 1) 0 ++ [255], true)

/-! ## The functions of at most 2 ulp (R241) -/

/-- Fractional bits of the values below. -/
def fine : Nat := 300

/-- The integer square root by `k` bits of the result. -/
def rootBits : Nat → Nat → Nat → Nat
  | 0, _, r => r
  | k + 1, n, r => let t := r + 2 ^ k; rootBits k n (if t * t ≤ n then t else r)

/-- 2^f for a fraction f of `fine` bits: the product of the square roots of 2 that its bits name. -/
def exp2Bits : Nat → Nat → Nat → Nat → Nat
  | 0, _, _, acc => acc
  | k + 1, f, root, acc =>
    let r := rootBits (fine + 1) (root * 2 ^ fine) 0
    exp2Bits k f r (if f.testBit k then acc * r / 2 ^ fine else acc)

/-- 2^y for y in units of 2^−fine. -/
def exp2Of (y : Int) : Num :=
  let d : Int := 2 ^ fine
  .fin false (exp2Bits fine (y % d).toNat (2 * 2 ^ fine) (2 ^ fine)) (y / d - fine)

/-- The bits of log2 of a number in [1, 2), by repeated squaring. -/
def log2Bits : Nat → Nat → Nat → Nat
  | 0, _, acc => acc
  | k + 1, m, acc =>
    let q := m * m / 2 ^ fine
    if 2 * 2 ^ fine ≤ q then log2Bits k (q / 2) (2 * acc + 1) else log2Bits k q (2 * acc)

/-- ln 2 in units of 2^−fine: the sum of 1 / (k 2^k). -/
def ln2 : Nat := ((List.range fine).map fun k => 2 ^ fine / ((k + 1) * 2 ^ (k + 1))).sum

/-- x / ln 2 in units of 2^−fine, for x = m · 2^e. -/
def overLn2 (m : Nat) (e : Int) : Int :=
  if 0 ≤ e then (m * 2 ^ e.toNat * 2 ^ fine * 2 ^ fine / ln2 : Nat) else (m * 2 ^ fine * 2 ^ fine / (ln2 * 2 ^ (-e).toNat) : Nat)

/-- A quotient of values with more than 250 bits. -/
def quotient (s : Bool) (m : Nat) (e : Int) (n : Nat) (f : Int) : Num := .fin s (m * 2 ^ 600 / n) (e - f - 600)

/-- The value of a function at a finite operand to more than 100 bits; none where the spec states none. -/
def fnValue (f : VecFn1) (s : Bool) (m : Nat) (e : Int) : Option Num :=
  let top : Int := (Nat.log2 m : Int) + e
  let sign : Int := if s then -1 else 1
  match f with
  | .recip => if m = 0 then none else some (quotient s 1 0 m e)
  | .rsqrt =>
    if m = 0 ∨ s = true then none
    else
      let k := if e % 2 = 0 then m else 2 * m
      let h := if e % 2 = 0 then e / 2 else (e - 1) / 2
      some (quotient false 1 0 (rootBits 700 (k * 2 ^ 800) 0) (h - 400))
  | .exp2 => some (if m = 0 then .fin false 1 0 else if 9 < top then (if s then .fin false 1 (-1000) else .fin false 1 1000)
      else exp2Of (sign * (atQuantum m e (-(fine : Int)) : Nat)))
  | .log2 =>
    if m = 0 ∨ s = true then none
    else
      let l := Nat.log2 m
      let frac := log2Bits 200 (m * 2 ^ fine / 2 ^ l) 0
      some (ofScaled (top * 2 ^ 200 + frac) (-200))
  | .tanh =>
    if m = 0 then some (.fin s 0 0)
    else if 6 < top then some (.fin s 1 0)
    else match exp2Of (-(overLn2 m (e + 1))) with
      | .fin _ t k => let d := (2 : Nat) ^ (-k).toNat; some (quotient s (d - t) 0 (d + t) 0)
      | _ => none
  | .sigmoid =>
    if m = 0 then some (.fin false 1 (-1))
    else if 9 < top then (if s then some (.fin false 1 (-1000)) else some (.fin false 1 0))
    else match exp2Of (-(overLn2 m e)) with
      | .fin _ t k => let d := (2 : Nat) ^ (-k).toNat; some (quotient false (if s then t else d) 0 (d + t) 0)
      | _ => none
  | _ => some (.fin s m e)

/-- The value that a function has at an infinity, as IEEE 754 gives it; none where it is none. -/
def fnAtInf (f : VecFn1) (s : Bool) : Num :=
  match f with
  | .recip => .fin s 0 0
  | .rsqrt => if s then .nan else .fin false 0 0
  | .exp2 => if s then .fin false 0 0 else .inf false
  | .log2 => if s then .nan else .inf false
  | .tanh => .fin s 1 0
  | .sigmoid => if s then .fin false 0 0 else .fin false 1 0
  | .abs => .inf false
  | .move => .inf s

/-- y lies within 2 units in the last place of FP32 of v. -/
def withinUlps (y v : Num) : Bool :=
  match y, v with
  | .fin _ _ _, .fin _ m e =>
    let u := max ((Nat.log2 m : Int) + e - 23) (-149)
    match (y.add v.neg).abs, (Num.fin false 2 u) with
    | d, lim => (lim.less d) == some false
  | _, _ => false

/-- A vector function at a value, before the rounding into its destination. A 2-ulp function gives any FP32 value within its limit; where the
spec states no value, any finite value or NaN (R241, R242). -/
def VecFn1.apply (f : VecFn1) (x : Num) : Num :=
  let free := formOf .fp32 |>.value (Config.approx f (BitVec.ofNat 32 ((formOf .fp32).code x).1)).toNat
  match f, x with
  | _, .nan => .nan
  | .abs, _ => x.abs
  | .move, _ => x
  | _, .inf s => fnAtInf f s
  | _, .fin s m e =>
    match fnValue f s m e with
    | some v => if withinUlps free v then free else v
    | none =>
      match free with
      | .inf t => .fin t (2 ^ 24 - 1) 104
      | y => y

/-- The smaller (or greater) of two values; NaN where one is (R242). -/
def Num.least (greatest : Bool) (a b : Num) : Num :=
  match a.less b, b.less a with
  | some l, some g => if l then (if greatest then b else a) else if g then (if greatest then a else b) else if Config.zeroFirst then a else b
  | _, _ => .nan

/-- The lane that a comparison writes; NaN where an operand is. -/
def laneOf (f : FloatFmt) (b : Bool) : Nat := (Config.truth f b).toNat % 2 ^ ((formOf f).eb + (formOf f).mb + 1)

/-- A lane of an operation of two operands: a value to round, or the lane of a comparison. -/
def VecFn2.apply (f : VecFn2) (a b : Num) : Num ⊕ Bool :=
  match f with
  | .add => .inl (a.add b)
  | .sub => .inl (a.add b.neg)
  | .mul => .inl (a.mul b)
  | .min => .inl (a.least false b)
  | .max => .inl (a.least true b)
  | .lt => match a.less b with
    | some l => .inr l
    | none => .inl .nan
  | .le => match b.less a with
    | some g => .inr !g
    | none => .inl .nan
  | .eq => match a.less b, b.less a with
    | some l, some g => .inr (!l && !g)
    | _, _ => .inl .nan

end Sys2Proof.Machine
end

