-- ==== Sys2Proof/Machine/MartenRun.lean ====
section
/-!
DEFINITION. A job's operations on its tile: reads and writes of the word-coded memories, the array, and the vector unit (10).
-/
namespace Sys2Proof.Machine

/-- A job on its tile as it runs: the tile; its latched indices and outputs; the symbols corrected, whether a value saturated or was NaN; and
what stopped it: an uncorrectable word or a parity error with its address, or an invalid DF8 block (none). -/
structure JobRun where
  tile : Tile
  latched : Tab Nat
  outs : List (Nat × Option Word) := []
  corr : Nat := 0
  sat : Bool := false
  nan : Bool := false
  stop : Option (Option Nat) := none
deriving DecidableEq, Repr

/-! ## Memory: SRAM from byte 0, the operand buffer from byte 8,388,608 -/

/-- The first byte of the operand buffer. -/
def bufferBase : Nat := 8388608

/-- The first word of the job and stream tables in the numbering of bad words. -/
def tableBase : Nat := 270336

/-- A 32-bit word of a tile's memory as stored. -/
def Tile.rawWord (x : Tile) (k : Nat) : Word := if k < bufferBase / 4 then Tab.get 0 x.sram k else Tab.get 0 x.buffer (k - bufferBase / 4)

def Tile.setRaw (x : Tile) (k : Nat) (v : Word) : Tile :=
  if k < bufferBase / 4 then { x with sram := Tab.set 0 x.sram k v } else { x with buffer := Tab.set 0 x.buffer (k - bufferBase / 4) v }

/-- A byte as a read gives it: with the bits that the word code leaves wrong. -/
def Tile.byteAt (x : Tile) (a : Nat) : Nat :=
  let raw := (x.rawWord (a / 4)).extractLsb' (8 * (a % 4)) 8
  (raw ^^^ (readBad (Tab.get 0 x.bad (a / 32))).2.extractLsb' (8 * (a % 32)) 8).toNat

/-- A 32-bit word written; its word of the word code is encoded again. -/
def Tile.putWord (x : Tile) (k : Nat) (v : Word) : Tile :=
  { x.setRaw k v with bad := Tab.upd 0 x.bad (k / 8) fun c => writeBad c (32 * (k % 8)) 32 }

/-- A byte written. -/
def Tile.putByte (x : Tile) (a v : Nat) : Tile :=
  let w := x.rawWord (a / 4)
  let keep : Word := w &&& ~~~(0xFF#32 <<< (8 * (a % 4)))
  { x.setRaw (a / 4) (keep ||| (BitVec.ofNat 32 (v % 256) <<< (8 * (a % 4)))) with
    bad := Tab.upd 0 x.bad (a / 32) fun c => writeBad c (8 * (a % 32)) 8 }

/-- A word of the word code is read (R226): one bad symbol is corrected and counted, two stop the job. -/
def JobRun.touch (r : JobRun) (w : Nat) : JobRun :=
  if r.stop.isSome then r else
    match (readBad (Tab.get 0 r.tile.bad w)).1 with
    | .good => r
    | .corrected => { r with corr := r.corr + 1 }
    | .uncorrectable => { r with stop := some (some w) }

/-- Bytes read. -/
def JobRun.read (r : JobRun) (a n : Nat) : JobRun × List Nat :=
  let words := (List.range ((a + n + 31) / 32 - a / 32)).map (a / 32 + ·)
  (each words (fun w r => r.touch w) r, (List.range n).map fun i => r.tile.byteAt (a + i))

/-- Bytes written, unless the job has stopped. -/
def JobRun.write (r : JobRun) (a : Nat) (l : List Nat) : JobRun :=
  if r.stop.isSome then r else { r with tile := each (l.zip (List.range l.length)) (fun e t => t.putByte (a + e.2) e.1) r.tile }

/-- An address of SRAM, and one of the operand buffer. -/
def inSram (a : Nat) : Nat := a % bufferBase
def inBuffer (a : Nat) : Nat := bufferBase + a % 262144

/-- Little-endian numbers of `n` bytes. -/
def numbers (n : Nat) : Nat → List Nat → List Nat
  | 0, _ => []
  | k + 1, l => ((l.take n).zip (List.range n)).foldl (fun a e => a + e.1 * 2 ^ (8 * e.2)) 0 :: numbers n k (l.drop n)

def bytesOf (n : Nat) (l : List Nat) : List Nat := l.flatMap fun v => (List.range n).map fun i => v / 2 ^ (8 * i) % 256

/-! ## The array (R230, R232, R237 to R240) -/

/-- The T840 supports the format: of MX, 32 elements of a listed type with an E8M0 scale (R231). -/
def MartenFmt.supported : MartenFmt → Bool
  | .int8 => true
  | .int4 => true
  | .df8 => true
  | .mx e block scale => e != .other && block == 32 && scale
  | .float _ => false

/-- The accumulation of a pairing. -/
inductive Accum where
  | int32 | df8 | fp32
deriving DecidableEq, Repr

/-- Table 10-5. -/
def pairing (weights acts : MartenFmt) : Option Accum :=
  if !(weights.supported && acts.supported) then none else
    match weights, acts with
    | .int8, .int8 => some .int32
    | .int8, .int4 => some .int32
    | .int4, .int8 => some .int32
    | .int4, .int4 => some .int32
    | .int8, .df8 => some .df8
    | .int4, .df8 => some .df8
    | .mx _ _ _, .mx _ _ _ => some .fp32
    | _, _ => none

/-- A matrix operation that the pack check refuses (R231, R237). -/
def MartenOp.refused : MartenOp → Bool
  | .matrix w a _ => (pairing w a).isNone
  | .toMx e _ _ _ => e == .other
  | _ => false

/-- Elements of a slice: 64 where both operands are 4-bit, else 32. -/
def sliceLen (w a : MartenFmt) : Nat :=
  match w, a with
  | .int4, .int4 => 64
  | .mx .e2m1 _ _, .mx .e2m1 _ _ => 64
  | _, _ => 32

/-- Bytes of a slice of `n` elements. -/
def sliceBytes (f : MartenFmt) (n : Nat) : Nat :=
  match f with
  | .int8 => n
  | .int4 => n / 2
  | .df8 => 36
  | .mx e _ _ => n / 32 * mxSize e
  | .float _ => 0

/-- The integers of a slice. -/
def sliceInts (f : MartenFmt) (n : Nat) (l : List Nat) : List Int :=
  if f = .int4 then (unpack 4 n l).map (twos 4) else (l.take n).map (twos 8)

def dotInt (a b : List Int) : Int := ((a.zip b).map fun e => e.1 * e.2).sum

/-- A DF8 block with reserved bits set or a shift above 9 (R236). -/
def df8Bad (l : List Nat) : Bool := decide (9 < l.getD 2 0 % 16) || l.getD 2 0 / 16 != 0 || l.getD 3 0 / 2 != 0

/-- 2^k Σ w d + base Σ w over the present elements (R236, R240). -/
def df8Dot (ws : List Int) (l : List Nat) : Int :=
  let base := twos 16 (l.getD 0 0 + 256 * l.getD 1 0)
  let k := l.getD 2 0 % 16
  let pairs := (ws.zip (l.drop 4)).filter fun e => e.2 != 128
  2 ^ k * (pairs.map fun e => e.1 * twos 8 e.2).sum + base * (pairs.map (·.1)).sum

/-- The blocks of a slice. -/
def blocksOf (n : Nat) (l : List Nat) : List (List Nat) := if l.length < n ∨ n = 0 then [] else
  (List.range (l.length / n)).map fun i => (l.drop (i * n)).take n

/-- An accumulator after one cycle's products of a slice: its value, whether it saturated, whether it is NaN (R238 to R240). -/
def accumulate (k : Nat) (w a : MartenFmt) (old : BitVec 48) (ws acts : List Nat) : BitVec 48 × Bool × Bool :=
  let n := sliceLen w a
  match pairing w a with
  | some .int32 =>
    let v := (old.truncate 32).toInt + dotInt (sliceInts w n ws) (sliceInts a n acts)
    let c := clampInt (-2147483648) 2147483647 v
    (BitVec.ofInt 48 c, c != v, false)
  | some .df8 =>
    let v := old.toInt + df8Dot (sliceInts w 32 ws) acts
    let c := clampInt (-140737488355328) 140737488355327 v
    (BitVec.ofInt 48 c, c != v, false)
  | some .fp32 =>
    match w, a with
    | .mx e _ _, .mx f _ _ =>
      let pairs := (blocksOf (mxSize e) ws).zip (blocksOf (mxSize f) acts)
      pairs.foldl (fun r p =>
        let c := (formOf .fp32).code (((formOf .fp32).value (r.1.toNat % 2 ^ 32)).add (mxDot (mxBlock e p.1) (mxBlock f p.2)))
        (BitVec.ofNat 48 c.1, r.2.1 || c.2.1, r.2.2 || c.2.2)) (old, false, false)
    | _, _ => (old, false, false)
  | none => (Config.oddPairing k, false, false)

/-- A parity error met: the job stops with the word address reported for it (R227). -/
def JobRun.parity (r : JobRun) (bad : Option Nat) : JobRun :=
  match bad with
  | some k => if r.stop.isSome then r else { r with stop := some (some (Config.parityWord k).toNat) }
  | none => r

/-- A slice of activations multiplied by a weight block of 32 rows of `size` bytes and added to a row of accumulators. -/
def JobRun.cycle (r : JobRun) (w a : MartenFmt) (row : Nat) (weights : List Nat) (buffer : Nat) : JobRun :=
  let n := sliceLen w a
  let size := sliceBytes w n
  let (r, acts) := r.read (inBuffer buffer) (sliceBytes a n)
  let r := r.parity (((List.range 32).map (row * 32 + ·)).find? r.tile.badAcc.contains |>.map (· + 64))
  if r.stop.isSome then r
  else if a = .df8 ∧ df8Bad acts = true then { r with stop := some none }
  else
    each (List.range 32) (fun o r =>
      let k := row * 32 + o
      let v := accumulate k w a (Tab.get 0 r.tile.acc k) ((weights.drop (o * size)).take size) acts
      { r with tile := { r.tile with acc := Tab.set 0 r.tile.acc k v.1 }, sat := r.sat || v.2.1, nan := r.nan || v.2.2 }) r

/-- A step of a matrix operation. -/
def JobRun.step (r : JobRun) (w a : MartenFmt) (m : MatStep) : JobRun :=
  let size := 32 * sliceBytes w (sliceLen w a)
  if r.stop.isSome then r else
  match m with
  | .bank b sram =>
    let (r, l) := r.read (inSram sram) size
    if r.stop.isSome then r else
      { r with tile := { r.tile with
          banks := each (l.zip (List.range size)) (fun e t => Tab.set 0 t (b.toNat * 2048 + e.2) (BitVec.ofNat 8 e.1)) r.tile.banks
          badRows := r.tile.badRows.filter fun k => k / 32 != b.toNat } }
  | .clear row =>
    { r with tile := { r.tile with
        acc := each (List.range 32) (fun o t => Tab.set 0 t (row.val * 32 + o) 0) r.tile.acc
        badAcc := r.tile.badAcc.filter fun k => k / 32 != row.val } }
  | .stationary b row buffer =>
    let r := r.parity (((List.range 32).map (b.toNat * 32 + ·)).find? r.tile.badRows.contains)
    let l := (List.range size).map fun i => (Tab.get 0 r.tile.banks (b.toNat * 2048 + i)).toNat
    if r.stop.isSome then r else r.cycle w a row.val l buffer
  | .stream sram row buffer =>
    let (r, l) := r.read (inSram sram) size
    if r.stop.isSome then r else r.cycle w a row.val l buffer
  | .drain row buffer =>
    let r := r.parity (((List.range 32).map (row.val * 32 + ·)).find? r.tile.badAcc.contains |>.map (· + 64))
    let n := if pairing w a = some .df8 then 6 else 4
    r.write (inBuffer buffer) (bytesOf n ((List.range 32).map fun o => (Tab.get 0 r.tile.acc (row.val * 32 + o)).toNat % 2 ^ (8 * n)))

/-! ## The vector unit (R241 to R243) -/

/-- Lanes of a vector, and bytes of a lane. -/
def lanesOf (f : FloatFmt) : Nat := if f = .fp32 then 32 else 64
def laneBytes (f : FloatFmt) : Nat := if f = .fp32 then 4 else 2

/-- A vector read. -/
def JobRun.vector (r : JobRun) (f : FloatFmt) (a : Nat) : JobRun × List Num :=
  let (r, l) := r.read (inBuffer a) (lanesOf f * laneBytes f)
  (r, (numbers (laneBytes f) (lanesOf f) l).map (formOf f).value)

/-- Values rounded once to a format and written; a lane of a comparison is written as it is. -/
def JobRun.result (r : JobRun) (f : FloatFmt) (a : Nat) (l : List (Num ⊕ Bool)) : JobRun :=
  let codes := l.map fun x => match x with
    | .inl v => (formOf f).code v
    | .inr b => (laneOf f b, false, false)
  let r := r.write (inBuffer a) (bytesOf (laneBytes f) (codes.map (·.1)))
  if r.stop.isSome then r else { r with sat := r.sat || codes.any (·.2.1), nan := r.nan || codes.any (·.2.2) }

/-- A pairwise step of the tree of a reduction: each sum rounded to FP32. -/
def treeStep (sum : Bool) : List Num → List Num
  | a :: b :: l => (if sum then (formOf .fp32).value ((formOf .fp32).code (a.add b)).1 else a.least true b) :: treeStep sum l
  | l => l

/-- A reduction saturates where a pairwise sum does. -/
def treeSat : List Num → Bool
  | a :: b :: l => ((formOf .fp32).code (a.add b)).2.1 || treeSat l
  | _ => false

/-- The value at the root, by levels of the tree, and whether a sum saturated. -/
def treeRoot (sum : Bool) : Nat → List Num → Bool → Num × Bool
  | 0, l, s => (l.headD (.fin false 0 0), s)
  | k + 1, l, s => treeRoot sum k (treeStep sum l) (s || (sum && treeSat l))

/-- The lanes in the order in which they enter the tree. -/
def treeOrder (l : List Num) : List Num :=
  let n := l.length
  let p := (List.range n).map (Config.treeLane n)
  let p := if p.Nodup ∧ p.all (· < n) = true then p else List.range n
  p.map fun i => l.getD i .nan

/-- An operation of a job. -/
def JobRun.exec (r : JobRun) (op : MartenOp) : JobRun :=
  if r.stop.isSome then r else
  match op with
  | .fetch w => r.touch (w % 262144)
  | .load sram buffer len => let (r, l) := r.read (inSram sram) len; r.write (inBuffer buffer) l
  | .store buffer sram len => let (r, l) := r.read (inBuffer buffer) len; r.write (inSram sram) l
  | .entry i back buffer =>
    let kind := ((Tab.get 0 r.tile.streamTable (i * 8)).extractLsb' 28 3).toNat
    let size := if kind = 0 then 36 else 8
    let depth := max 1 (((Tab.get 0 r.tile.streamTable (i * 8 + 2)).extractLsb' 0 20).toNat)
    let base := ((Tab.get 0 r.tile.streamTable (i * 8 + 1)).extractLsb' 0 18).toNat * 32
    let j := (Tab.get 0 r.latched i + 2 ^ 32 - 1 - back % 2 ^ 32) % 2 ^ 32
    let (r, l) := r.read (inSram (base + j % depth * size)) size
    r.write (inBuffer buffer) l
  | .matrix w a steps => each steps (fun m r => r.step w a m) r
  | .vec1 f src dst a to_ => let (r, x) := r.vector src a; r.result dst to_ (x.map fun v => .inl (f.apply v))
  | .vec2 f src dst a b to_ =>
    let (r, x) := r.vector src a
    let (r, y) := r.vector src b
    r.result dst to_ ((x.zip y).map fun e => f.apply e.1 e.2)
  | .fma src dst a b c to_ =>
    let (r, x) := r.vector src a
    let (r, y) := r.vector src b
    let (r, z) := r.vector src c
    r.result dst to_ ((x.zip (y.zip z)).map fun e => .inl ((e.1.mul e.2.1).add e.2.2))
  | .select src dst c a b to_ =>
    let (r, l) := r.read (inBuffer c) (lanesOf src * laneBytes src)
    let (r, x) := r.vector src a
    let (r, y) := r.vector src b
    r.result dst to_ (((numbers (laneBytes src) (lanesOf src) l).zip (x.zip y)).map fun e => .inl (if e.2.1.isNan || e.2.2.isNan then .nan else if e.1 = laneOf src true then e.2.1 else e.2.2))
  | .reduce sum src dst a to_ =>
    let (r, x) := r.vector src a
    let v := treeRoot sum 6 (treeOrder x) false
    let r := r.result dst to_ [.inl v.1]
    { r with sat := r.sat || v.2 }
  | .fromInt wide a to_ =>
    let n := if wide then 6 else 4
    let (r, l) := r.read (inBuffer a) (32 * n)
    r.result .fp32 to_ ((numbers n 32 l).map fun v => .inl (ofInt (twos (8 * n) v)))
  | .toInt four src a to_ =>
    let (r, x) := r.vector src a
    let r := r.write (inBuffer to_) (packBytes (if four then 4 else 8) (x.map fun v => (v.toInt four % 256).toNat))
    if r.stop.isSome then r else { r with nan := r.nan || x.any Num.isNan }
  | .toMx e src a to_ =>
    let (r, x) := r.vector src a
    let blocks := (List.range (x.length / 32)).map fun i => toMxBlock e ((x.drop (32 * i)).take 32)
    let r := r.write (inBuffer to_) (blocks.flatMap (·.1))
    if r.stop.isSome then r else { r with nan := r.nan || blocks.any (·.2) }
  | .output k a =>
    let (r, l) := r.read (inBuffer a) 4
    let v := ((formOf .fp32).value ((numbers 4 1 l).headD 0)).toQ
    if r.stop.isSome then r
    else { r with outs := r.outs.filter (·.1 != k) ++ [(k, v)], nan := r.nan || v.isNone }

end Sys2Proof.Machine
end

