-- ==== Sys2Proof/Machine/MartenOps.lean ====
section
/-!
DEFINITION. Marten: tables and schedule checks, the scheduler, job ends, slots, and sample ingest (10, 11).
-/
namespace Sys2Proof.Machine

def State.tile (s : State) (t : Nat) : Tile := Tab.get {} s.marten.tiles t
def State.setTile (s : State) (t : Nat) (v : Tile) : State :=
  { s with marten := { s.marten with tiles := Tab.set {} s.marten.tiles t v } }
def Tile.job (t : Tile) (j : Nat) : MJob := Tab.get {} t.jobs j
def Tile.setJob (t : Tile) (j : Nat) (v : MJob) : Tile := { t with jobs := Tab.set {} t.jobs j v }
def Tile.stream (t : Tile) (i : Nat) : MStream := Tab.get {} t.streams i

/-- Marten exists: on the T840-QA alone (R1, R254). -/
def State.hasMarten (s : State) : Bool := s.part.variant == .qa && s.coreUp

/-- A domain of a tile is on, and with it the ingest path in D64 (Table 3-8). -/
def State.ingestOn (s : State) : Bool := s.hasMarten && (List.range 4).any fun t => s.rd MRT_TSTAT.state t != 0

/-- The state of tile `t`: 0 OFF, 1 STANDBY, 2 RUN, 3 DRAIN (Table 10-9). -/
def State.tstate (s : State) (t : Nat) : Nat := s.rd MRT_TSTAT.state t

/-! ## Tables (Tables 11-3 and 11-4) -/

def Tile.jf (t : Tile) (j w lo n : Nat) : Nat := ((Tab.get 0 t.jobTable (j * 8 + w)).extractLsb' lo n).toNat
def Tile.sf (t : Tile) (i w lo n : Nat) : Nat := ((Tab.get 0 t.streamTable (i * 8 + w)).extractLsb' lo n).toNat
def Tile.jobValid (t : Tile) (j : Nat) : Bool := t.jf j 0 31 1 == 1
def Tile.jobClass (t : Tile) (j : Nat) : Nat := t.jf j 0 29 2
def Tile.jobPhase (t : Tile) (j : Nat) : Nat := t.jf j 1 16 16
def Tile.warmRuns (t : Tile) (j : Nat) : Nat := t.jf j 1 0 12
def Tile.bound (t : Tile) (j : Nat) : Nat := t.jf j 2 0 32
def Tile.outBase (t : Tile) (j : Nat) : Nat := t.jf j 3 24 8
def Tile.outCount (t : Tile) (j : Nat) : Nat := t.jf j 3 16 8
def Tile.failMax (t : Tile) (j : Nat) : Nat := t.jf j 3 8 8
def Tile.jobId (t : Tile) (j : Nat) : Nat := t.jf j 3 0 8
def Tile.names (t : Tile) (j i : Nat) : Bool := t.jf j (4 + i / 32) (i % 32) 1 == 1
def Tile.streamValid (t : Tile) (i : Nat) : Bool := t.sf i 0 31 1 == 1
def Tile.streamKind (t : Tile) (i : Nat) : Nat := t.sf i 0 28 3
def Tile.streamSource (t : Tile) (i : Nat) : Nat := t.sf i 0 0 16
def Tile.ringBase (t : Tile) (i : Nat) : Nat := t.sf i 1 0 18 * 32
def Tile.depth (t : Tile) (i : Nat) : Nat := t.sf i 2 0 20

/-- Bytes of an entry of a ring: a DF8 block or a telemetry record. -/
def entrySize (kind : Nat) : Nat := if kind = 0 then 36 else 8
def Tile.ringEnd (t : Tile) (i : Nat) : Nat := t.ringBase i + t.depth i * entrySize (t.streamKind i)

def Tile.validJobs (t : Tile) : List Nat := (List.range 64).filter t.jobValid
def Tile.validStreams (t : Tile) : List Nat := (List.range 64).filter t.streamValid
def Tile.jobSlots (t : Tile) (j : Nat) : List Nat := (List.range (t.outCount j)).map (t.outBase j + ·)
/-- Every slot the job table writes. -/
def Tile.slots (t : Tile) : List Nat := (t.validJobs.map t.jobSlots).flatten
/-- The sum of the bounds of the valid jobs of a class. -/
def Tile.load (t : Tile) (c : Nat) : Nat := ((t.validJobs.filter (t.jobClass · == c)).map t.bound).sum

/-- The sense rate subscribed, in thousands of sample words per second (R264). -/
def State.subRate (s : State) : Nat :=
  ((List.range 304).map fun c => if s.bit SNS_CHCFG.marten_sub c then (if c < 64 then 20000 else if c < 256 then 1000 else 1) else 0).sum

/-- The tiles in RUN. -/
def State.running (s : State) : List Nat := (List.range 4).filter (s.tstate · == 2)

/-- The telemetry words that a tile's streams name. -/
def Tile.telemSources (x : Tile) : List Nat := (x.validStreams.filter (x.streamKind · == 1)).map x.streamSource

/-- The distinct telemetry words that the streams of the listed tiles name. -/
def State.telemWords (s : State) (ts : List Nat) : List Nat := ((ts.map fun t => (s.tile t).telemSources).flatten).eraseDups

/-- The first failure of Table 11-5 for a tile with tables `x` and a fast window of `f` cycles beside the tiles of `others` in RUN, with its
entry (0 where the failure names none); `unread` is an uncorrectable read of a table. -/
def State.schedCheck (s : State) (x : Tile) (f : Nat) (others : List Nat) (unread : Bool) : Option (Nat × Nat) :=
  let rest := 2000 - f
  let first (code : Nat) (l : List Nat) (p : Nat → Bool) : Option (Nat × Nat) := (l.find? p).map fun k => (code, k)
  let whole (code : Nat) (b : Bool) : Option (Nat × Nat) := if b then some (code, 0) else none
  let phaseBad (j : Nat) : Bool := match x.jobClass j with
    | 0 => x.jobPhase j != 0
    | 1 => decide (99 < x.jobPhase j)
    | 2 => decide (9999 < x.jobPhase j)
    | _ => true
  let slotBad (j : Nat) : Bool :=
    (x.jobSlots j).any fun k => decide ((33 ≤ k ∧ k ≤ 39) ∨ 255 < k) || x.validJobs.any (fun i => i != j && (x.jobSlots i).contains k)
  let noStream (j : Nat) : Bool := (List.range 64).any fun i => x.names j i && !x.streamValid i
  let ringBad (i : Nat) : Bool :=
    decide (1 < x.streamKind i) ||
    (if x.streamKind i = 0 then x.depth i % 8 != 0 || decide (x.depth i < 8) else x.depth i % 4 != 0 || decide (x.depth i < 4)) ||
    decide (8388608 < x.ringEnd i) ||
    x.validStreams.any (fun k => k != i && decide (x.ringBase k < x.ringEnd i ∧ x.ringBase i < x.ringEnd k))
  let unfed (i : Nat) : Bool :=
    let c := x.streamSource i
    if x.streamKind i = 0 then !s.bit SNS_CHCFG.enable c || !s.bit SNS_CHCFG.marten_sub c else !s.bit WPORT_CTL.enable (c / 64)
  first 1 x.validJobs (fun j => phaseBad j || decide (x.bound j < 41))
  <|> whole 2 (decide (f - 64 < x.load 0) || (f == 0 && x.validJobs.any (x.jobClass · == 0)))
  <|> whole 3 (decide (49 * rest < x.load 1))
  <|> whole 4 (decide (4999 * rest < x.load 2 + 100 * x.load 1))
  <|> first 5 x.validJobs slotBad
  <|> first 6 x.validJobs noStream
  <|> first 6 x.validStreams ringBad
  <|> first 7 x.validStreams unfed
  <|> whole 8 (decide (1000000 < s.subRate) || decide (128 < ((s.telemWords others ++ x.telemSources).eraseDups).length))
  <|> whole 9 (x.validJobs.isEmpty || unread)

/-- Words of a tile's memory that a read finds uncorrectable, and those that it corrects, of a list of words of the word code. -/
def Tile.badWords (x : Tile) (l : List Nat) : List Nat := l.filter fun w => (readBad (Tab.get 0 x.bad w)).1 == .uncorrectable
def Tile.mended (x : Tile) (l : List Nat) : Nat := (l.filter fun w => (readBad (Tab.get 0 x.bad w)).1 == .corrected).length

/-- The words of both tables. -/
def tableWords : List Nat := (List.range 128).map (tableBase + ·)

/-- The check of a run write for tile `t` (R261). -/
def State.tileCheck (s : State) (t : Nat) : Option (Nat × Nat) :=
  s.schedCheck (s.tile t) (s.rd MRT_TCTL.fast_cycles t) s.running (!((s.tile t).badWords tableWords).isEmpty)

/-! ## Slots -/

def State.slot (s : State) (k : Nat) : MSlot := Tab.get {} s.marten.slots k

/-- Slots marked never written (R252). -/
def State.dropSlots (s : State) (l : List Nat) : State :=
  { s with marten := { s.marten with slots := s.marten.slots.filter fun e => !l.contains e.1 } }

/-- A value committed to slot `k` at half-microsecond `h`; a margin offer, which is in mV (Table 9-8), also updates MRT_OFFERw (R248, R270). -/
def State.commitSlot (s : State) (k : Nat) (v : Word) (h : Nat) (warm : Bool) : State :=
  let s := { s with marten := { s.marten with slots := Tab.set {} s.marten.slots k { value := v, half := some h } } }
  if warm && decide (k < 32) && k % 4 == 3 then
    let w := k / 4
    let mv := (max 0 (min 4095 (Int.tdiv v.toInt 65536))).toNat
    ({ s with marten := { s.marten with offerMax := Tab.set 0 s.marten.offerMax w (max mv (Tab.get 0 s.marten.offerMax w)) } }.wr
      MRT_OFFER.offer_mv w mv).wr MRT_OFFER.valid w 1
  else s

/-! ## Warmth (R267) -/

/-- Where tile `t`'s job `j` has its `MRT_JSTAT`. -/
def jix (t j : Nat) : Nat := t * 64 + j

/-- A stream's history in ticks, saturating (Table 11-4); a missing span of more than 3 µs that has ended restarts it (R265). -/
def State.history (s : State) (t i : Nat) : Nat :=
  let m := (s.tile t).stream i
  min 65535 (s.tick - m.gapAt.getD m.from_)

/-- A cold job whose streams have history and whose OK ends suffice becomes warm. -/
def State.judgeWarm (s : State) (t j : Nat) : State :=
  let x := s.tile t
  let ok := (List.range 64).all (fun i => !x.names j i || decide (4096 ≤ s.history t i)) && decide (x.warmRuns j ≤ s.rd MRT_JSTAT.ok_runs (jix t j))
  if x.jobValid j && s.rd MRT_JSTAT.state (jix t j) == 0 && ok then
    (s.wr MRT_JSTAT.state (jix t j) 1).record Ev.MRT_JOB_WARM Src.marten [t, x.jobId j]
  else s

/-- Job `j` becomes cold through stream `i`. -/
def State.chill (s : State) (t j i : Nat) : State :=
  let was := s.rd MRT_JSTAT.state (jix t j)
  if was = 1 then
    ((s.wr MRT_JSTAT.state (jix t j) 0).wr MRT_JSTAT.ok_runs (jix t j) 0).record Ev.MRT_JOB_COLD Src.marten [t, (s.tile t).jobId j, i]
  else if was = 0 then s.wr MRT_JSTAT.ok_runs (jix t j) 0 else s

/-- The warmth of every job of the tiles in RUN or DRAIN, judged at a tray tick. -/
def State.judgeWarmAll (s : State) : State :=
  each ((List.range 4).filter fun t => 2 ≤ s.tstate t) (fun t s => each (s.tile t).validJobs (fun j s => s.judgeWarm t j) s) s

/-! ## The scheduler (R245, R246) -/

/-- The jobs of a tile in a phase. -/
def Tile.inPhase (x : Tile) (p : JobPhase) : List Nat := (List.range 64).filter fun j => (x.job j).phase == p

/-- The job of the list released first; of one tick, the lowest entry. -/
def Tile.oldest (x : Tile) (l : List Nat) : Option Nat :=
  l.foldl (fun m j => match m with
    | none => some j
    | some i => if (x.job j).since < (x.job i).since then some j else some i) none

/-- The job that a tile runs next: in the fast window the first released 2 µs-class job, else a 100 µs-class job before a 10 ms-class
job, suspended before released (R246). -/
def Tile.next (x : Tile) : Option Nat :=
  let pick (c : Nat) (p : JobPhase) : Option Nat := x.oldest ((x.inPhase p).filter (x.jobClass · == c))
  if x.fast then ((x.inPhase .released).filter (x.jobClass · == 0)).head?
  else pick 1 .suspended <|> pick 1 .released <|> pick 2 .suspended <|> pick 2 .released

/-- The tile takes up its next job when it runs none. A job that starts latches its streams' wr_index (R266), and its program is what SRAM holds
from its entry on; a suspended job takes back what it parked. -/
def Tile.dispatch (x : Tile) : Tile :=
  if (x.inPhase .running).isEmpty then
    match x.next with
    | some j =>
      let m := x.job j
      match m.phase with
      | .released =>
        x.setJob j { m with phase := .running, prog := Config.compiled x.sram (x.jf j 0 0 18), ran := 0, outs := [], parked := none
                            latched := ((List.range 64).filter (x.names j)).map fun i => (i, (x.stream i).wr) }
      | _ =>
        let x := match m.parked with
          | some (b, a) => { x with banks := b, acc := a }
          | none => x
        x.setJob j { m with phase := .running, parked := none }
    | none => x
  else x

def State.dispatch (s : State) (t : Nat) : State := s.setTile t (s.tile t).dispatch

/-- The running job suspended, with its weight registers and accumulators parked (R246). -/
def Tile.suspend (x : Tile) : Tile :=
  (x.inPhase .running).foldl (fun x j => x.setJob j { x.job j with phase := .suspended, parked := some (x.banks, x.acc) }) x

/-- The tiles other than `t` whose job tables write a slot that tile `t` writes. -/
def State.sharers (s : State) (t : Nat) : List Nat :=
  (List.range 4).filter fun u => u != t && (s.tile u).slots.any (s.tile t).slots.contains

/-- Tile `u` leaves shadow, in which tile `v` held it (R262). -/
def State.unshadow (s : State) (u v : Nat) : State :=
  if s.bit MRT_CHK.shadow u then (s.wr MRT_CHK.shadow u 0).record Ev.MRT_SHADOW Src.marten [u, v, 0] else s

/-- Tile `t` has left RUN: the tiles in shadow with which it shares a slot leave shadow where no other tile in RUN does (R262). -/
def State.leaveShadow (s : State) (t : Nat) : State :=
  each ((s.sharers t).filter fun u => !(s.sharers u).any fun v => s.tstate v == 2) (fun u s => s.unshadow u t) s

/-- Slots marked never written until the tile next commits a value (R252, R272). -/
def State.invalidate (s : State) (t : Nat) (l : List Nat) : State := (s.dropSlots l).wr MRT_TSTAT.invalidated t 1

/-- The tile leaves DRAIN (R251, R252), and with it its shadow; a tile that switches off loses its memories (R67). -/
def State.leaveDrain (s : State) (t : Nat) : State :=
  let x := s.tile t
  if s.tstate t = 3 ∧ (x.inPhase .running).isEmpty ∧ (x.inPhase .suspended).isEmpty then
    let s := (s.invalidate t x.slots).unshadow t ((s.sharers t).headD t)
    let target := if x.toOff then 0 else 1
    let s := s.setTile t (if x.toOff then {} else { x with jobs := [], fast := false, runDue := false, aborted := 0, completed := 0 })
    (s.wr MRT_TSTAT.state t target).record Ev.MRT_TILE_DRAINED Src.marten [t, target, x.aborted, x.completed]
  else s

/-- Job `j` of tile `t` ends with a status of Table 10-8: counts, the first miss, failure (R249, R272). -/
def State.endJob (s : State) (t j status : Nat) : State :=
  let x := s.tile t
  let c := t * 3 + x.jobClass j
  let k := jix t j
  let drain := s.tstate t == 3
  let x := { x.setJob j {} with completed := if drain && status != St.abortedDisable then x.completed + 1 else x.completed,
                                aborted := if status = St.abortedDisable then x.aborted + 1 else x.aborted }
  let s := ((s.setTile t x).wr MRT_TCLS.last_status c status).wr MRT_JSTAT.last_status k status
  if status = St.ok then
    ((s.addSat MRT_TCLS.done c 1).wr MRT_JSTAT.consec_fail k 0).addSat MRT_JSTAT.ok_runs k 1
  else
    let was := s.rd MRT_JSTAT.consec_fail k
    let s := if status = St.timeout then s.addSat MRT_TMISS.missed c 1 else s
    let s := s.addSat MRT_JSTAT.consec_fail k 1
    let s := if was = 0 then s.record Ev.MRT_JOB_MISS Src.marten [t, x.jobId j, status] else s
    if x.failMax j ≠ 0 ∧ s.rd MRT_JSTAT.consec_fail k = x.failMax j ∧ was ≠ x.failMax j then
      ((s.wr MRT_JSTAT.state k 2).invalidate t (x.jobSlots j)).record Ev.MRT_JOB_FAILED Src.marten [t, x.jobId j, x.failMax j]
    else s

/-- Job `j` ended, and what the tile does then: a drain that has ended, or the next job. -/
def State.finishJob (s : State) (t j status : Nat) : State := ((s.endJob t j status).leaveDrain t).dispatch t

/-- Entry to DRAIN (R251): every job released and not started ends with ABORTED_DISABLE, and the fast window is over. -/
def State.enterDrain (s : State) (t : Nat) (off : Bool) : State :=
  let s := (s.wr MRT_TSTAT.state t 3).setTile t { s.tile t with toOff := off, fast := false, aborted := 0, completed := 0 }
  let s := each ((s.tile t).inPhase .released) (fun j s => s.endJob t j St.abortedDisable) s
  ((s.leaveShadow t).leaveDrain t).dispatch t

/-- The position of a channel's result at an aperture among its results: apertures, tray ticks, milliseconds. -/
def resultPos (c ap : Nat) : Nat := if c < 64 then ap else if c < 256 then ap / 20 else ap / 20000

/-- The position of a source's first sample from the present tick on (kind 0, a channel), or the tick (kind 1). -/
def State.firstPos (s : State) (kind c : Nat) : Nat :=
  if kind ≠ 0 then s.tick else if c < 64 then s.tick * 20 else if c < 256 then s.tick else (s.tick + 999) / 1000

/-- A stream of a tile in RUN or DRAIN names a channel. -/
def State.named (s : State) (c : Nat) : Bool :=
  ((List.range 4).filter fun t => 2 ≤ s.tstate t).any fun t =>
    (s.tile t).validStreams.any fun i => (s.tile t).streamKind i == 0 && (s.tile t).streamSource i == c

def State.block (s : State) (c : Nat) : Collect := Tab.get {} s.marten.collect c
def State.setBlock (s : State) (c : Nat) (b : Collect) : State :=
  { s with marten := { s.marten with collect := Tab.set {} s.marten.collect c b } }

/-- A channel that no stream named so far is collected from the block in progress on. -/
def State.openBlock (s : State) (c pos : Nat) : State :=
  if s.named c then s else s.setBlock c { next := pos / 32, words := (s.block c).words.filter fun e => e.1 / 32 == pos / 32 }

/-- Entry to RUN at a frame start (R258, R262, R267, R274). -/
def State.enterRun (s : State) (t : Nat) : State :=
  let x := s.tile t
  let other := (s.sharers t).find? (s.tstate · == 2)
  let streams := x.validStreams.map fun i =>
    (i, { wr := 0, gaps := 0, from_ := s.tick, expect := s.firstPos (x.streamKind i) (x.streamSource i) : MStream })
  let s := each (x.validStreams.filter (x.streamKind · == 0)) (fun i s => s.openBlock (x.streamSource i) (resultPos (x.streamSource i) (s.tick * 20))) s
  let s := s.setTile t { x with runDue := false, jobs := [], streams := streams, fast := false, aborted := 0, completed := 0 }
  let s := each (List.range 64) (fun j s =>
    (((s.wr MRT_JSTAT.last_status (jix t j) 0).wr MRT_JSTAT.consec_fail (jix t j) 0).wr MRT_JSTAT.ok_runs (jix t j) 0).wr
      MRT_JSTAT.state (jix t j) (if x.jobValid j then 0 else 3)) s
  let s := (s.wr MRT_TSTAT.state t 2).wr MRT_TUTIL.max_fast t 0
  match other with
  | some u => (s.wr MRT_CHK.shadow t 1).record Ev.MRT_SHADOW Src.marten [t, u, 1]
  | none => s.wr MRT_CHK.shadow t 0

/-- Job `j` released at this tick: none where it is failed or not valid. -/
def State.releaseJob (s : State) (t j : Nat) : State :=
  let x := s.tile t
  if x.jobValid j && s.rd MRT_JSTAT.state (jix t j) != 2 then
    s.setTile t (x.setJob j { phase := .released, since := s.tick + 1 })
  else s

/-- The number that MRT_TERRA and INT_MRT_UNCORR give a word: its own within SRAM, operand buffer or tables (log entry 84). -/
def wordNumber (w : Nat) : Nat := if w < 262144 then w else if w < tableBase then w - 262144 else w - tableBase

/-- An uncorrectable word of tile `t` (R226). -/
def State.tileUncorr (s : State) (t word : Nat) (scrub : Bool) : State :=
  (((((s.addSat MRT_TECC.uncorr t 1).wr MRT_TSTAT.uncorr t 1).wr MRT_TERRA.valid t 1).wrBit MRT_TERRA.scrub t scrub).wr MRT_TERRA.word t
    (wordNumber word)).record Ev.INT_MRT_UNCORR Src.marten [t, wordNumber word, scrub.toNat]

/-- Bit upsets take place in a tile. -/
def Tile.upset (x : Tile) (u : TileUpset) : Tile :=
  match u with
  | .word w bad => { x with bad := Tab.upd 0 x.bad (w.toNat % 270464) (· ^^^ bad) }
  | .weights b row => { x with badRows := (b.toNat * 32 + row.val) :: x.badRows.filter (· != b.toNat * 32 + row.val) }
  | .accumulator k => { x with badAcc := k.val :: x.badAcc.filter (· != k.val) }

def State.tileUpsets (s : State) (t : Nat) (l : List TileUpset) : State := s.setTile t (l.foldl Tile.upset (s.tile t))

/-- The words of the word code that a job's start reads of the tables: its job entry and its streams' entries. -/
def Tile.entryWords (x : Tile) (j : Nat) : List Nat := (tableBase + j) :: ((List.range 64).filter (x.names j)).map (tableBase + 64 + ·)

/-- Job `j`'s operations up to the `n`th run on its tile (R226, R238, R242), and whether they ended it with INTEGRITY. -/
def State.runTo (s : State) (t j n : Nat) : State × Bool :=
  let x := s.tile t
  let m := x.job j
  let r : JobRun := { tile := x, latched := m.latched, outs := m.outs }
  let r := if m.ran = 0 then each (x.entryWords j) (fun w r => r.touch w) r else r
  let r := each ((m.prog.take n).drop m.ran) (fun op r => r.exec op) r
  let s := (s.setTile t (r.tile.setJob j { m with ran := max n m.ran, outs := r.outs })).addSat MRT_TECC.corr t r.corr
  let s := if r.sat then s.wr MRT_TSTAT.sat t 1 else s
  let s := if r.nan then s.wr MRT_TSTAT.nan t 1 else s
  match r.stop with
  | none => (s, false)
  | some none => (s, true)
  | some (some w) => (s.tileUncorr t w false, true)

/-- A job that runs is stopped with its first `n` operations done: it ends with INTEGRITY where one of them ended it, else with TIMEOUT. -/
def State.stopJob (s : State) (t j n : Nat) : State :=
  if ((s.tile t).job j).phase = .running then
    let u := s.runTo t j n
    u.1.endJob t j (if u.2 then St.integrity else St.timeout)
  else s.endJob t j St.timeout

/-! ## Ingest (R263 to R265) -/

/-- The nine words of the DF8 block of 32 sample words, none where a sample is missing (R234, R235). -/
def df8 (l : List (Option Nat)) : List Word :=
  let xs := l.filterMap fun o => o.map signed16
  let lo := xs.foldl min (xs.headD 0)
  let hi := xs.foldl max (xs.headD 0)
  let base := (lo + hi) / 2
  let far := max (hi - base) (base - lo)
  let k := ((List.range 10).find? fun k => decide (far ≤ 127 * 2 ^ k)).getD 9
  let gap := l.any Option.isNone
  let drift (o : Option Nat) : Nat := match o with
    | some w => low 8 (tiesEven (signed16 w - base) k)
    | none => 128
  let head := low 16 base + k * 65536 + gap.toNat * 16777216
  let ds := l.map drift
  BitVec.ofNat 32 head :: (List.range 8).map fun i =>
    BitVec.ofNat 32 (ds.getD (4 * i) 128 + ds.getD (4 * i + 1) 128 * 256 + ds.getD (4 * i + 2) 128 * 65536 + ds.getD (4 * i + 3) 128 * 16777216)

/-- An entry written into a ring: its words at the ring's next place, and wr_index (R260, R263). -/
def Tile.ringPut (x : Tile) (i : Nat) (ws : List Word) : Tile :=
  let m := x.stream i
  let a := (x.ringBase i + m.wr % max 1 (x.depth i) * entrySize (x.streamKind i)) / 4
  let x := (ws.zip (List.range ws.length)).foldl (fun t e => t.putWord ((a + e.2) % 2097152) e.1) x
  { x with streams := Tab.set {} x.streams i { m with wr := (m.wr + 1) % 2 ^ 32 } }

/-- `f` applied to every stream of a tile in RUN or DRAIN that names the source. -/
def State.eachStream (s : State) (kind source : Nat) (f : Nat → Tile → Tile) : State :=
  each ((List.range 4).filter fun t => 2 ≤ s.tstate t) (fun t s =>
    each ((s.tile t).validStreams.filter fun i => (s.tile t).streamKind i == kind && (s.tile t).streamSource i == source)
      (fun i s => s.setTile t (f i (s.tile t))) s) s

/-- An entry written into every ring that names the source. -/
def State.ringPutAll (s : State) (kind source : Nat) (ws : List Word) : State := s.eachStream kind source fun i x => x.ringPut i ws

/-- A sample at position `pos` has come: a missing span before it of more than `most` positions ends (R265). -/
def Tile.came (x : Tile) (i pos most now : Nat) : Tile :=
  let m := x.stream i
  { x with streams := Tab.set {} x.streams i { m with expect := pos + 1, gapAt := if m.expect + most < pos then some now else m.gapAt } }

/-- The positions that 3 µs hold: 60 apertures, 3 tray ticks, no millisecond. -/
def mostMissing (kind c : Nat) : Nat := if kind ≠ 0 then 3 else if c < 64 then 60 else if c < 256 then 3 else 0

/-- The 32 words of a channel's next block, and whether the block is over: whole, or followed by a later aperture or tick. -/
def Collect.all (b : Collect) : List (Option Nat) := (List.range 32).map fun i => (b.words.find? (fun e => e.1 == b.next * 32 + i)).map (·.2)
def State.blockOver (s : State) (c : Nat) : Bool :=
  let b := s.block c
  b.all.all Option.isSome || decide ((b.next + 1) * 32 ≤ resultPos c (max (s.tick * 20) s.marten.queueAp))

/-- A sample word of a subscribed channel enters the ingest queue, which the path empties at 50 words an aperture, and its channel's
block; at a full queue it is dropped (R264). `pos` counts the channel's results. -/
def State.ingest (s : State) (c ap pos word : Nat) : State :=
  if s.ingestOn && s.bit SNS_CHCFG.marten_sub c then
    let q := s.marten.queue - 50 * (ap - s.marten.queueAp)
    let s := { s with marten := { s.marten with queueAp := max ap s.marten.queueAp } }
    if 2048 ≤ q then
      let s := { s with marten := { s.marten with queue := q } }
      let s := (s.addSat MRT_IDROP.dropped c 1).wr MRT_ISTAT.over 0 1
      let last := Tab.get 0 s.marten.dropAt c
      if last = 0 ∨ last + 1000000 ≤ s.bootUs + 1 then
        { s with marten := { s.marten with dropAt := Tab.set 0 s.marten.dropAt c (s.bootUs + 1) } }.record
          Ev.MRT_INGEST_DROP Src.marten [c, s.rd MRT_IDROP.dropped c]
      else s
    else
      let s := ({ s with marten := { s.marten with queue := q + 1 } }).openBlock c pos
      (s.setBlock c { s.block c with words := (s.block c).words.filter (·.1 != pos) ++ [(pos, word)] }).eachStream 0 c fun i x =>
        x.came i pos (mostMissing 0 c) s.tick
  else s

/-- A good telemetry frame of ward `w` at the present tick: a record for each of its words that a stream of a tile in RUN or DRAIN names (R263),
and the ends of missing spans (R265). -/
def State.ingestFrame (s : State) (w : Nat) (words : List Word) : State :=
  let named := (s.telemWords ((List.range 4).filter fun t => 2 ≤ s.tstate t)).filter (fun k => k / 64 == w)
  let s := { s with marten := { s.marten with telem := s.marten.telem ++ named.map fun k => (k, words.getD (k % 64) 0, s.tick) } }
  each named (fun k s => s.eachStream 1 k fun i x => x.came i s.tick (mostMissing 1 k) s.tick) s

end Sys2Proof.Machine
end

