-- ==== Sys2Proof/Machine/ModelPack.lean ====
section
/-!
DEFINITION. The Marten model pack: its header, section table and sections, and the checks of a set cross-check (R256, R257).
-/
namespace Sys2Proof.Machine

/-- A word of a pack by its number, and a field of it. -/
def packWord (l : List Word) (i : Nat) : Nat := (l.getD i 0).toNat
def packField (l : List Word) (i lo n : Nat) : Nat := ((l.getD i 0).extractLsb' lo n).toNat

/-! ## Header and section table (Tables 11-1 and 11-2) -/

def packId (l : List Word) : Nat := packField l 1 16 16
def packVersion (l : List Word) : Nat := packWord l 2
def packLength (l : List Word) : Nat := packWord l 4
def packSections (l : List Word) : Nat := packField l 5 0 16
def packTiles (l : List Word) : Nat := packField l 5 16 8
def packSteppings (l : List Word) : List Word := (List.range 8).map fun i => l.getD (6 + i) 0

/-- The minimum and maximum version of tray firmware (0), sett program pack (1) and tray descriptor (2). -/
def packRange (l : List Word) (i : Nat) : Nat × Nat := (packWord l (14 + 2 * i), packWord l (15 + 2 * i))

/-- A section-table entry. -/
structure Section where
  type : Nat
  tile : Nat
  offset : Nat
  length : Nat
  dest : Nat
deriving DecidableEq, Repr

def sectionsOf (l : List Word) : List Section :=
  (List.range (packSections l)).map fun i =>
    { type := packField l (64 + 4 * i) 0 8, tile := packField l (64 + 4 * i) 8 8, offset := packWord l (65 + 4 * i)
      length := packWord l (66 + 4 * i), dest := packWord l (67 + 4 * i) }

/-- A section as Table 11-2 has it: 32-byte aligned, above the section table, inside the pack. -/
def Section.ok (x : Section) (tiles first total : Nat) : Bool :=
  decide (x.tile < tiles) && decide (x.offset % 32 = 0) && decide (first ≤ x.offset ∧ x.offset + x.length ≤ total) &&
  match x.type with
  | 1 => x.length == 2048 && x.dest == 0
  | 2 => x.length == 2048 && x.dest == 0
  | 3 => x.length % 32 == 0 && x.dest % 32 == 0 && decide (x.dest + x.length ≤ 8388608)
  | 4 => x.length == 16 && x.dest == 0
  | _ => false

/-- Two sections share no byte. -/
def Section.apart (x y : Section) : Bool := decide (x.offset + x.length ≤ y.offset ∨ y.offset + y.length ≤ x.offset)

/-- The section of a type of a logical tile. -/
def sectionOf (l : List Word) (tile type : Nat) : Option Section := (sectionsOf l).find? fun x => x.type == type && x.tile == tile

/-- Words of a section. -/
def sectionWords (l : List Word) (x : Section) : List Word := (l.drop (x.offset / 4)).take (x.length / 4)

/-- The tile-settings section's fast_cycles (R256). -/
def packFast (l : List Word) (tile : Nat) : Nat := match sectionOf l tile 4 with
  | some x => packField l (x.offset / 4) 0 16
  | none => 0

/-- A pack of `len` bytes is laid out as R256 has it; that reserved bytes not 0 and a fast_cycles outside its range are refused is the model's (DESIGN
CHOICE, log entry 87). -/
def packLaidOut (l : List Word) (len : Nat) : Bool :=
  let ss := sectionsOf l
  let total := packLength l
  packWord l 0 == 0x5054524D && packField l 1 0 16 == 1 && total == len && decide (total ≤ 67108864) && decide (total ≤ 4 * l.length) &&
  decide (1 ≤ packSections l ∧ packSections l ≤ 32) && decide (1 ≤ packTiles l ∧ packTiles l ≤ 4) && packField l 5 24 8 == 0 &&
  (List.range 32).all (fun i => packWord l (32 + i) == 0) && (List.range ss.length).all (fun i => packField l (64 + 4 * i) 16 16 == 0) &&
  ss.all (fun x => x.ok (packTiles l) (0x100 + 16 * packSections l) total) && decide (ss.Pairwise fun x y => x.apart y = true) &&
  (List.range (packTiles l)).all fun t =>
    [1, 2, 4].all (fun k => (ss.filter fun x => x.type == k && x.tile == t).length == 1) &&
    (packFast l t == 0 || decide (64 ≤ packFast l t ∧ packFast l t ≤ 2000)) &&
    (match sectionOf l t 4 with
      | some x => packField l (x.offset / 4) 16 16 == 0 && (List.range 3).all fun i => packWord l (x.offset / 4 + 1 + i) == 0
      | none => false)

/-! ## Checks of R257 -/

/-- Words put into a table from a key on. -/
def putWordsFrom : Tab Word → Nat → List Word → Tab Word
  | t, _, [] => t
  | t, k, v :: l => putWordsFrom (Tab.set 0 t k v) (k + 1) l

/-- A logical tile as its sections fill it: tables and SRAM. -/
def packTile (l : List Word) (tile : Nat) : Tile :=
  let table (k : Nat) : Tab Word := match sectionOf l tile k with
    | some x => putWordsFrom [] 0 (sectionWords l x)
    | none => []
  let images := (sectionsOf l).filter fun x => x.type == 3 && x.tile == tile
  { jobTable := table 1, streamTable := table 2
    sram := each images (fun x t => putWordsFrom t (x.dest / 4) (sectionWords l x)) [] }

/-- Check 10: every matrix operation of the tile's jobs has formats of R231 and a pairing of R237. -/
def Tile.opsOk (x : Tile) : Bool := x.validJobs.all fun j => (Config.compiled x.sram (x.jf j 0 0 18)).all fun op => !op.refused

/-- The first code of Table 11-5 that a logical tile fails, with no other tile in RUN. -/
def State.packTileCheck (s : State) (l : List Word) (tile : Nat) : Option Nat :=
  let x := packTile l tile
  match s.schedCheck x (packFast l tile) [] false with
  | some (code, _) => some code
  | none => if x.opsOk then none else some 10

/-- A version within a range of the pack's header. -/
def packInRange (l : List Word) (i : Nat) (m : Manifest) (t : Nat) : Bool :=
  (m.entries.filter fun e => e.type.toNat == t && !e.carried).all fun e =>
    decide ((packRange l i).1 ≤ e.version.toNat ∧ e.version.toNat ≤ (packRange l i).2)

/-- A model pack passes its checks in set `m` (R256, R257): layout, digest, ranges, steppings, and Table 11-5 for every logical tile. -/
def State.packOk (s : State) (m : Manifest) (l : List Word) (len : Nat) (digestOk : Bool) : Bool :=
  packLaidOut l len && digestOk && packInRange l 0 m 1 && packInRange l 1 m 2 && packInRange l 2 m 5 &&
  ((packSteppings l).filter (· != 0)).contains s.secure.stepId &&
  (List.range (packTiles l)).all fun t => (s.packTileCheck l t).isNone

end Sys2Proof.Machine
end

