-- ==== Sys2Proof/Machine/WardOps.lean ====
section
/-!
DEFINITION. The bring-up of a ward: its states, the step each state runs, and what a failure does (14, 15).
-/
namespace Sys2Proof.Machine

/-- READY or DEGRADED: in service. -/
def inService (st : Nat) : Bool := st == 11 || st == 13

/-- POWERING to LOADED: a step runs. -/
def stepping (st : Nat) : Bool := 1 ≤ st && st ≤ 10

/-- The floor of a state (Table 14-1): 3 HALT, 2 DEEP, 0 NONE. -/
def floorOf (st : Nat) : Nat := if st = 10 then 2 else if inService st then 0 else 3

/-- A floor written (R205); the arbiter judges. -/
def State.setFloor (s : State) (w code : Nat) : State :=
  let s := (s.wr HARP_WCTL.floor w code).harpJudge
  if s.leads then s.tellTwin (.floor (Fin.ofNat 8 w) (BitVec.ofNat 2 code)) else s

/-- Ward `w` enters a state: floor, deadline, the record (R360). -/
def State.wardEnter (s : State) (w st : Nat) : State :=
  let x := s.ward w
  let s := (s.setWard w { x with state := st, entered := s.tick, deadFrom := some s.bootUs, sub := 0, op := 0, leaving := false }).setFloor w (floorOf st)
  let s := if s.leads then s.tellTwin (.ward (Fin.ofNat 8 w) (BitVec.ofNat 4 st) (BitVec.ofNat 8 x.attempts)) else s
  s.record Ev.WARD_BU_STATE (Src.ward w) [w, st, x.attempts]

/-- FENCE or its lift for ward `w` sent to ward `v` (R327). -/
def State.fenceAt (s : State) (v w lift : Nat) : State :=
  let s := s.sendCtrl v 5 (w + 8 * lift) (.firmware 0)
  let x := s.ward v
  s.setWard v { x with fences := if lift = 1 then x.fences.filter (· != w) else w :: x.fences.filter (· != w) }

/-- FENCE or its lift for ward `w` sent to every other LINKED ward (R358); answers the wards. -/
def State.fencePeers (s : State) (w lift : Nat) : State × List Nat :=
  let peers := (List.range 8).filter fun v => v != w && s.linked v
  (each peers (fun v s => s.fenceAt v w lift) s, peers)

/-- A reset sequence ends with ABORTED_DISABLE (R384). -/
def State.abortSeq (s : State) (w : Nat) : State :=
  match (s.ward w).seq with
  | none => s
  | some q => (s.setWard w { s.ward w with seq := none }).finish q.via St.abortedDisable 1

/-- Steps 1 to 3 of R354: streams and requests end, the floor is HALT, the group is powered down; in service the fence goes first (R358). -/
def State.wardCut (s : State) (w : Nat) : State :=
  let s := if inService (s.ward w).state then (s.fencePeers w 0).1 else s
  let s := ((s.abortSeq w).endAll w St.abortedDisable).setFloor w 3
  if s.gstate w = 1 ∨ s.gstate w = 2 then s.powerDown w
  else if s.gstate w = 4 then s.wr ZIT_GSTAT.up_pending w 0 else s

/-- The port and the laser sources of a ward enabled (Table 14-4, POWERING). -/
def State.portEnable (s : State) (p : Nat) : State :=
  let s := (s.wr WPORT_CTL.enable p 1).wr WPORT_STAT.cmd_status p St.ok
  if s.pstate p = 0 then s.setPstate p 1
  else if s.pstate p = 4 then
    ((s.setPort p { s.port p with failRecorded := false }).wr WPORT_STAT.retrains p 0).setPstate p 1
  else s

def State.laserEnable (s : State) (k : Nat) : State :=
  if s.bit WPORT_LSCFG.lock k then s else (s.wr WPORT_LSCFG.enable k 1).laserShow k

/-- Ward `w` enters POWERING (R337, R343): its governor is bound and started, its port and sources enabled; a retry writes its power-up command at
once (R354). -/
def State.wardPower (s : State) (w : Nat) (retry : Bool) : State :=
  let s := (s.wardEnter w 1).governorUp w
  let s := ((s.portEnable w).laserEnable (2 + 2 * w)).laserEnable (3 + 2 * w)
  let s := s.setWard w { s.ward w with powered := false, upDue := !retry, retry, partsOff := 0, verdict := 0, fw := none }
  if retry then s.powerUp w else s

/-- Causes of Table 14-9 that are counted and retried. -/
def countedCause (c : Nat) : Bool := c == 1 || c == 2 || c == 5 || c == 6 || c == 7 || c == 10 || c == 11

/-- A failure of ward `w` (R354). -/
def State.wardFail (s : State) (w cause : Nat) : State :=
  let x := s.ward w
  let st := x.state
  let counted := countedCause cause && !inService st
  let n := if counted then min 255 (x.attempts + 1) else x.attempts
  let s := s.wardCut w
  let s := s.setWard w { s.ward w with attempts := n, failState := st, failCause := cause, hold := false, resume := false }
  let s := s.record Ev.WARD_BU_FAIL (Src.ward w) [w, st, cause, n]
  let retries := ((s.trayWard w).map (·.retries.toNat)).getD 0
  if cause = 3 ∨ cause = 4 ∨ cause = 14 then s.wardEnter w 0
  else if counted && decide (n ≤ retries) then s.wardPower w true
  else (s.wardEnter w 14).record Ev.WARD_FAILED (Src.ward w) [w, st, cause]

/-! ## Steps -/

/-- Tray firmware writes one word of the ward. -/
def State.wardWrite (s : State) (w a : Nat) (v : Word) : State := s.fwWrite w 1 a [v]

/-- An operation of Table 14-6 written to bu_cmd. -/
def State.wardOp (s : State) (w op arg : Nat) : State :=
  (s.setWard w { s.ward w with op, sub := 2 }).wardWrite w 0x100 (BitVec.ofNat 32 (op * 16777216 + arg))

/-- Words of a map of 1,536 bits. -/
def mapWords (m : Nat) : List Word := (List.range 48).map fun i => BitVec.ofNat 32 (m / 2 ^ (32 * i))

/-- The number that `n` buffer words make, the first lowest. -/
def bufNat (b : Tab Word) (n : Nat) : Nat := ((List.range n).map fun i => 2 ^ (32 * i) * (Tab.get 0 b i).toNat).sum

/-- The set bits of a map below `n`, ascending. -/
def bits (m n : Nat) : List Nat := (List.range n).filter m.testBit

/-- The low `n` bits of a map. -/
def maskTo (m n : Nat) : Nat := m % 2 ^ n

/-- The ward type's pattern set is in the pattern store; its image is (R348). -/
def State.copied (s : State) (pattern : Bool) (wt : BitVec 32) : Bool := s.wards.copies.contains (pattern, wt.toNat)

/-- Identification starts (Table 14-4, LINKED): the fences of R358, and the four reads of the capability block. -/
def State.identify (s : State) (w : Nat) : State :=
  let peers := (List.range 8).filter fun v => v != w && (s.trayWard v).isSome && !inService (s.ward v).state
  let s := each peers (fun v s => s.fenceAt w v 0) s
  let s := s.setWard w { s.ward w with sub := 1, buf := [] }
  s.fwRead w 5 0 64 0

/-- The first wrong field of a capability block (R328, R354): 0 magic, 1 version, 2 type, 3 stepping. -/
def State.idMismatch (s : State) (w : Nat) : Option Nat :=
  let x := s.ward w
  let steps := ((s.trayWard w).bind fun t => s.wardPart 6 t.wardType).map fun c => wardSteppings c.content
  if x.at_ 0 ≠ 0x574D5043 then some 0
  else if x.byte 5 ≠ 1 then some 1
  else if (s.trayWard w).map (·.wardType.toNat) ≠ some (x.at_ 8) then some 2
  else if !(steps.getD []).any (fun v => v.toNat == x.at_ 12) then some 3
  else none

/-- The first quantity of a capability block beyond Table 1-4, as its byte offset (R19). -/
def Ward.beyond (x : Ward) : Option Nat :=
  if 1536 < x.half 0x20 then some 0x20
  else if 160 < x.half 0x22 then some 0x22
  else if 16 < x.byte 0x24 then some 0x24
  else if 16 < x.byte 0x25 then some 0x25
  else if 8 < x.byte 0x26 then some 0x26
  else if 400 < x.half 0x30 then some 0x30
  else if 1500 < x.half 0x32 then some 0x32
  else none

/-- The structural test starts (R349): TEST, and both streams. -/
def State.testStart (s : State) (w : Nat) : State :=
  match (s.trayWard w).bind fun t => s.wardPart 7 t.wardType with
  | none => s
  | some c =>
    let (id, resp, stim) := patternIds c.content
    let s := s.wardOp w 1 id
    let x := s.ward w
    let s := s.openOut w 0 stim
    let s := s.setPort w { s.port w with ins := Tab.set none (s.port w).ins 0 (some { len := x.half 0x20 * resp, progressAt := s.bootUs }) }
    s.setWard w { s.ward w with differs := 0 }

/-- The step of IDENTIFIED begins once the ward's pattern set has been copied (R348): tray firmware reads the bring-up block and
the head of the reset block. -/
def State.beginTest (s : State) (w : Nat) : State :=
  match s.trayWard w with
  | some t =>
    if s.copied true t.wardType then
      let s := s.setWard w { s.ward w with deadFrom := some s.bootUs, sub := 1, buf := [] }
      (s.fwRead w 3 0x100 24 0).fwRead w 1 0x200 3 24
    else s.setWard w { s.ward w with deadFrom := none }
  | none => s

/-- The image's transfer begins once it has been copied (R348): outbound stream 1. -/
def State.beginLoad (s : State) (w : Nat) : State :=
  match (s.trayWard w).bind fun t => (s.wardPart 6 t.wardType).map fun c => (t, c) with
  | some (t, c) =>
    if s.copied false t.wardType then
      let s := s.setWard w { s.ward w with deadFrom := some s.bootUs, sub := 1, fw := some c.digest }
      s.openOut w 1 c.length.toNat
    else s.setWard w { s.ward w with deadFrom := none }
  | none => s

/-! ## Licences (R369 to R373) -/

/-- Byte `a` of a licence. -/
def licByte (l : Licence) (a : Nat) : Nat := recByte l.words a
/-- The number of `n` bytes at `a`. -/
def licNat (l : Licence) (a n : Nat) : Nat := recNum l.words a n
def licDie (l : Licence) : Nat := licNat l 8 16
def licKey (l : Licence) : Nat := licByte l 6

/-- Licence key-pair slot `k` is neither empty nor revoked (R430, R371). -/
def State.licKeyGood (s : State) (k : Nat) : Bool := decide (k ≤ 3) && !(s.secure.empty ||| s.secure.mismatch).testBit (4 + k) && !s.secure.revoked.testBit (4 + k)

/-- The conditions of R371 other than key slot and signatures. -/
def licFields (l : Licence) : Bool :=
  licNat l 0 4 == 0x4C494345 && licNat l 4 2 == 1 && decide (licKey l ≤ 3) && licByte l 7 == 0 &&
  (List.range 84).all (fun i => licByte l (0x2C + i) == 0) &&
  decide (1 ≤ licNat l 0x2A 2 ∧ licNat l 0x2A 2 ≤ licNat l 0x28 2 ∧ licNat l 0x28 2 ≤ 1536)

/-- The slot of the stored licence for a die. -/
def State.licenceFor (s : State) (die : Nat) : Option Nat :=
  (s.wards.licences.find? fun e => match e.2 with
    | some l => licDie l == die
    | none => false).map (·.1)

/-- Why a stored licence is not selected (R373): 0 signature, 1 revoked, 2 fields, 3 type. -/
def State.licReject (s : State) (l : Licence) (wardType : Nat) : Option Nat :=
  if s.secure.revoked.testBit (4 + licKey l) then some 1
  else if !l.sigOk || s.secure.empty.testBit (4 + licKey l) then some 0
  else if !licFields l then some 2
  else if licNat l 0x18 4 ≠ wardType then some 3
  else none

/-- The step of TOPOLOGY_OK (R353, R369, R373): selection, verdict, LICENCE. -/
def State.beginLicence (s : State) (w : Nat) : State :=
  let x := s.ward w
  let slot := s.licenceFor x.die
  let lic : Option Licence := slot.bind fun k => Tab.get none s.wards.licences k
  let why : Option Nat := lic.bind fun l => s.licReject l (x.at_ 8)
  let s := match lic with
    | none => s.record Ev.WARD_UNLICENSED (Src.ward w) [w]
    | some _ => match why with
      | some r => s.record Ev.WARD_LIC_REJECTED (Src.ward w) [w, r]
      | none => s
  let base := (((s.trayWard w).bind fun t => s.wardPart 6 t.wardType).map fun c => wardBase c.content).getD 0
  let chosen := if why.isNone then lic else none
  let verdict := match chosen with
    | some l => if licNat l 0x28 2 ≤ x.good then 1 else if licNat l 0x2A 2 ≤ x.good then 2 else 0
    | none => if base ≤ x.good then 2 else 0
  let s := s.setWard w { x with verdict, licence := if chosen.isSome then slot else none }
  if verdict = 0 then s.wardFail w 12
  else match chosen with
    | some l => if x.at_ 0x140 < 3501 then s.wardFail w 7 else (s.fwWrite w 60 (x.long 0x138) l.words).wardOp w 5 3501
    | none => s.wardOp w 5 0

/-- The step of a state starts (Table 14-4). -/
def State.beginStep (s : State) (w : Nat) : State :=
  let x := s.ward w
  match x.state with
  | 3 => s.identify w
  | 4 => s.beginTest w
  | 5 => (s.setWard w { x with sub := 1, buf := [] }).fwRead w 4 (x.long 0x118) 48 0
  | 6 => s.wardOp w 3 0
  | 7 => s.wardOp w 4 0
  | 8 => s.beginLicence w
  | 9 => s.beginLoad w
  | _ => s

/-- The step has ended: the next state, or HELD where a hold is requested (R339). -/
def State.wardNext (s : State) (w st : Nat) : State :=
  let x := s.ward w
  if x.hold then
    let s := s.wardEnter w 12
    (s.setWard w { s.ward w with hold := false, held := x.state, leftLink := false, resume := false }).record Ev.WARD_HELD (Src.ward w) [w, x.state]
  else (s.wardEnter w st).beginStep w

/-- The ward takes READY or DEGRADED (R343, R358). -/
def State.wardServe (s : State) (w : Nat) : State :=
  let x := s.ward w
  if x.hold then s.wardNext w 11
  else
    let st := if x.verdict = 2 then 13 else 11
    let s := (s.setWard w { x with attempts := 0 }).wardEnter w st
    let s := (s.fencePeers w 1).1
    s.record (if st = 13 then Ev.WARD_DEGRADED else Ev.WARD_READY) (Src.ward w) [w, x.good, (s.bootUs - x.upUs) / 1000]

/-! ## The defect map (R361 to R368) -/

/-- A die's soft list: its record of the highest generation (R365). -/
def State.softOf (s : State) (die : Nat) : Option SoftRec :=
  (s.wards.soft.filter (·.die == die)).foldl (fun b r => match b with
    | none => some r
    | some q => if q.generation ≤ r.generation then some r else b) none

/-- A record appended to the journal; a full half is compacted into the other first (R368). -/
def State.softAppend (s : State) (r : SoftRec) : State :=
  let l := s.wards.soft
  if l.length < 4096 then { s with wards := { s.wards with soft := l ++ [r] } }
  else
    let dies := (l.map (·.die)).eraseDups
    let kept := dies.filterMap fun d => (s.softOf d).map fun q => { q with cause := 3 }
    { s with wards := { s.wards with soft := kept ++ [r], softHalf := !s.wards.softHalf } }

/-- A DEF_ record of a non-empty set of cores: count, lowest, highest (R363). -/
def State.defRecord (s : State) (code w : Nat) (l : List Nat) : State :=
  match l with
  | [] => s
  | c :: _ => s.record code (Src.ward w) [w, l.length, c, l.getLastD c]

/-- The effective map of ward `w` formed and written, MAP started (R361 to R366); `fails`: the flash does not take the soft-list record. -/
def State.formMap (s : State) (w : Nat) (fails : Bool) : State :=
  let x := s.ward w
  let n := x.half 0x20
  let fuse := bufNat x.buf 48
  let old := ((s.softOf x.die).map (·.cores)).getD 0
  let fuseBad := bits fuse n
  let pass (c : Nat) : Bool := !x.bad.testBit c
  let new_ := (List.range n).filter fun c => !fuse.testBit c && !old.testBit c && !pass c
  let grown := old ||| (new_.map (2 ^ ·)).sum
  let s := s.defRecord Ev.DEF_FUSE_PASS w (fuseBad.filter pass)
  let s := s.defRecord Ev.DEF_SOFT_PASS w ((List.range n).filter fun c => !fuse.testBit c && old.testBit c && pass c)
  let s := s.defRecord Ev.DEF_NEW w new_
  let gen := ((s.softOf x.die).map (·.generation)).getD 0 + 1
  let s :=
    if new_.isEmpty then s
    else if fails then s.record Ev.DEF_SOFT_COMMIT_FAIL (Src.ward w) [w, gen]
    else s.softAppend { die := x.die, generation := gen, wardType := x.at_ 8, cause := 1, cores := grown }
  let eff := maskTo (fuse ||| old ||| x.bad) n
  let s := s.setWard w { s.ward w with fuse, soft := if fails then old else grown, effective := eff, sub := 2 }
  (s.fwWrite w 4 (x.long 0x120) (mapWords eff)).wardOp w 2 0

/-- The judgements of a test that ended OK (R350). -/
def State.judgeTest (s : State) (w : Nat) : State :=
  let x := s.ward w
  let n := x.half 0x20
  let applied := bufNat x.buf 48
  let incon := (List.range n).filter fun c => !applied.testBit c
  let fail := (List.range n).filter fun c => applied.testBit c && x.differs.testBit c
  let s := s.setWard w { x with bad := ((fail ++ incon).map (2 ^ ·)).sum, failed := fail.length, incon := incon.length }
  (s.record Ev.WARD_TEST_DONE (Src.ward w) [w, n - fail.length - incon.length, fail.length, incon.length]).wardNext w 5

/-- good_cores judged against the effective map (R364). -/
def State.judgeMap (s : State) (w : Nat) : State :=
  let x := s.ward w
  let good := (Tab.get 0 x.buf 0).toNat % 65536
  let want := x.half 0x20 - (bits x.effective 1536).length
  let s := s.setWard w { x with good, mapped := true }
  if good = want then s.wardNext w 6
  else (s.record Ev.DEF_MAP_MISMATCH (Src.ward w) [w, want, good]).wardFail w 7

/-- The first byte in which the topology read of ward `w` differs from the declared one, with both bytes: declared, read. -/
def State.topologyDiff (s : State) (w : Nat) : Option (Nat × Nat × Nat) :=
  let got := bufNat (s.ward w).buf 6
  let want := ((s.trayWard w).map (·.topology.toNat)).getD 0
  ((List.range 24).find? fun i => got / 256 ^ i % 256 != want / 256 ^ i % 256).map fun i => (i, want / 256 ^ i % 256, got / 256 ^ i % 256)

/-- The topology record judged (R352). -/
def State.judgeTopology (s : State) (w : Nat) : State :=
  match s.topologyDiff w with
  | none => s.wardNext w 8
  | some (i, want, got) => (s.record Ev.WARD_TOPOLOGY_MISMATCH (Src.ward w) [w, i, want, got]).wardFail w 11

/-- The capability block judged (R328, R19). -/
def State.judgeCapability (s : State) (w : Nat) : State :=
  let x := s.ward w
  let s := s.setWard w { x with block := putWords x.block 0 ((List.range 64).map fun i => Tab.get 0 x.buf i) }
  match s.idMismatch w with
  | some f => (s.record Ev.WARD_ID_MISMATCH (Src.ward w) [w, f]).wardFail w 8
  | none => match (s.ward w).beyond with
    | some o => (s.record Ev.WARD_CLASS_EXCEEDED (Src.ward w) [w, o]).wardFail w 9
    | none =>
      let die := (s.ward w).long 0x10 + 2 ^ 64 * (s.ward w).long 0x18
      if (s.ward w).resume ∧ die ≠ (s.ward w).die then
        (s.record Ev.WARD_ID_MISMATCH (Src.ward w) [w, 4]).wardFail w 8
      else s.setWard w { s.ward w with die, sub := 3, opSeq := 0 }

/-- The next read of the certificate, or the secure channel once all of it is read (`opSeq` counts the bytes read). -/
def State.readCertificate (s : State) (w : Nat) : State :=
  let x := s.ward w
  let len := x.at_ 0x50
  if x.opSeq < len then
    (s.setWard w { x with opSeq := x.opSeq + 64 }).fwRead w 1 (x.long 0x48 + x.opSeq) (min 16 ((len - x.opSeq + 3) / 4)) 64
  else ((s.setWard w { x with sub := 4, opSeq := 0 }).secDown w).secStart w

/-- Ward `w` is being identified: LINKED, or a resume from HELD whose port had left LINKED (R357). -/
def Ward.identifying (x : Ward) : Bool := x.state == 3 || (x.state == 12 && x.resume)

/-- The reads that a step waited for are all answered. -/
def State.wardStep (s : State) (w : Nat) (fails : Bool) : State :=
  let x := s.ward w
  if (s.port w).fwBusy then s
  else if x.identifying then
    if x.sub = 1 then
      let s := s.judgeCapability w
      if (s.ward w).sub = 3 ∧ (s.ward w).identifying then s.readCertificate w else s
    else if x.sub = 3 then s.readCertificate w else s
  else
    match x.state, x.sub with
    | 4, 1 =>
      let s := s.setWard w { x with block := putWords x.block 64 ((List.range 24).map fun i => Tab.get 0 x.buf i) }
      (s.setWard w { s.ward w with opSeq := (s.ward w).at_ 0x108, rstSeq := (Tab.get 0 x.buf 26).toNat }).testStart w
    | 4, 3 => s.judgeTest w
    | 5, 1 => s.formMap w fails
    | 5, 3 => s.judgeMap w
    | 7, 3 => s.judgeTopology w
    | _, _ => s

/-- The channel of port `w` is up: identification ends (Table 14-4, R357). -/
def State.wardSecured (s : State) (w : Nat) : State :=
  let x := s.ward w
  if x.state = 3 then s.wardNext w 4
  else if x.state = 12 ∧ x.resume then
    let s := s.setWard w { x with resume := false }
    (s.wardEnter w x.held).beginStep w
  else s

/-- An operation of Table 14-6 has ended with a status (Table 14-4, Table 14-9). -/
def State.opEnded (s : State) (w status : Nat) : State :=
  let x := s.ward w
  if x.op = 6 ∧ status = St.integrity then s.wardFail w 13
  else if status ≠ St.ok then s.wardFail w 7
  else match x.op with
    | 1 => (s.setWard w { x with sub := 3, buf := [] }).fwRead w 4 (x.long 0x128) 48 0
    | 2 => (s.setWard w { x with sub := 3, buf := [] }).fwRead w 1 0x150 1 0
    | 3 => s.wardNext w 7
    | 4 => (s.setWard w { x with sub := 3, buf := [] }).fwRead w 1 (x.long 0x130) 8 0
    | 5 => s.wardNext w 9
    | 6 => s.wardNext w 10
    | _ => s

/-- The deadline of a state's step in ms (Table 14-2). -/
def stepMs (t : TrayWard) (st : Nat) : Option Nat :=
  match st with
  | 2 => some t.linkMs.toNat
  | 3 => some t.idMs.toNat
  | 4 => some t.testMs.toNat
  | 5 => some t.mapMs.toNat
  | 6 => some t.trainMs.toNat
  | 7 => some t.discMs.toNat
  | 8 => some t.licMs.toNat
  | 9 => some t.bootMs.toNat
  | 10 => some t.readyMs.toNat
  | _ => none

/-- What ward `w` does when its group's or its port's state has changed: all-OFF after a DOWN, POWERING and AO_UP left, group aborts and a
port in FAULT (R343, R354, R382); the lowest cause decides. -/
def State.wardWatch (s : State) (w : Nat) : State :=
  let x := s.ward w
  let g := s.gstate w
  let down := g == 0 || g == 3 || g == 4
  let s := if g = 1 ∨ g = 2 then s.setWard w { x with powered := true } else s
  let x := s.ward w
  let abort := s.rd ZIT_GSTAT.abort_cause w
  let cause :=
    if x.powered && down && (stepping x.state || inService x.state) then
      if abort = 1 ∨ abort = 2 ∨ abort = 3 then some 1
      else if abort = 4 ∨ abort = 5 then some (if s.leakStands w then 3 else 2)
      else if abort = 6 ∨ abort = 7 ∨ abort = 8 then some 4
      else none
    else if x.state = 1 ∧ x.powered = false ∧ s.leakStands w = true then some 3
    else if s.pstate w = 4 ∧ ((2 ≤ x.state ∧ x.state ≤ 10) ∨ x.seq.isSome) then some 6
    else none
  if x.leaving then (if g = 0 ∨ g = 4 then s.wardEnter w 0 else s)
  else match cause with
    | some c => s.wardFail w c
    | none =>
      if x.state = 1 ∧ g = 2 then s.wardNext w 2
      else if x.state = 2 ∧ s.linked w = true then s.wardNext w 3
      else if x.state = 12 ∧ x.resume ∧ x.sub = 0 ∧ s.linked w = true then s.identify w
      else s

/-- Every ward watched; a shadow mirrors the lead's ward states (Table 21-3). -/
def State.watchWards (s : State) : State := if s.fwUp && !s.shadow_ then each (List.range 8) (fun w s => s.wardWatch w) s else s

end Sys2Proof.Machine
end

