-- ==== Sys2Proof/Machine/SeqOps.lean ====
section
/-!
DEFINITION. Reset sequences of a ward in service (R377 to R385).
-/
namespace Sys2Proof.Machine

/-- The reset operation that a sequence writes once the partition is quiesced: PART_RESET or PART_OFF. -/
def ResetSeq.partOp (q : ResetSeq) : Nat := if q.op = 2 then 4 else 5

/-- A reset operation written (Table 15-6). -/
def State.resetOp (s : State) (w : Nat) (q : ResetSeq) (op : Nat) : State :=
  (s.setWard w { s.ward w with seq := some { q with step := 3, stepAt := s.bootUs, running := op } }).wardWrite w 0x200
    (BitVec.ofNat 32 (op * 16777216 + q.target))

/-- RELEASE sent (Table 15-8). -/
def State.seqRelease (s : State) (w : Nat) (q : ResetSeq) : State :=
  (s.setWard w { s.ward w with seq := some { q with step := 4, stepAt := s.bootUs, running := 0 } }).sendCtrl w 3 q.target (.firmware 0)

/-- A sequence ends OK: PART_RESET_DONE with the operation, its target and the µs taken, and the descriptor's result. -/
def State.seqDone (s : State) (w : Nat) (q : ResetSeq) : State :=
  let us := s.bootUs - q.startAt
  let x := s.ward w
  let off := if q.op = 3 then x.partsOff ||| 2 ^ q.target else x.partsOff
  let s := s.setWard w { x with seq := none, partsOff := if q.op = 4 then maskTo off q.target + off / 2 ^ (q.target + 1) * 2 ^ (q.target + 1) else off }
  let s := each (q.fenced.filter s.linked) (fun v s => s.fenceAt v w 1) s
  (match q.recovered with
    | some step => s.record Ev.PART_RESET_RECOVERED (Src.ward w) [w, step]
    | none => s.record Ev.PART_RESET_DONE (Src.ward w) [w, q.op, q.target, us]).finish q.via St.ok 0 us true

/-- An operation of Table 15-6 has ended with a status. -/
def State.seqOpEnded (s : State) (w : Nat) (q : ResetSeq) (status : Nat) : State :=
  if status ≠ St.ok then s.wardFail w 7
  else if q.op = 1 then
    if q.running = 1 then s.resetOp w q 2
    else if q.running = 2 then s.resetOp w q 3
    else s.seqDone w q
  else if q.op = 3 ∧ q.recovered.isNone = true then s.seqDone w q
  else s.seqRelease w q

/-- DRAINED ends the quiesce of a sequence: the reset operation is written (Table 15-8). -/
def State.seqDrained (s : State) (w part : Nat) : State :=
  match (s.ward w).seq with
  | some q => if q.step = 1 ∧ q.target = part then s.resetOp w q q.partOp else s
  | none => s

/-- The drain of a sequence is late (R380): PART_DRAIN_TO, and the ward is fenced at every other LINKED ward. -/
def State.seqEscalate (s : State) (w part : Nat) : State :=
  match (s.ward w).seq with
  | some q =>
    if q.step = 1 ∧ q.target = part then
      let (s, peers) := s.fencePeers w 0
      let s := s.record Ev.PART_DRAIN_TO (Src.ward w) [w, part, (peers.map (2 ^ ·)).sum]
      let q := { q with step := 2, stepAt := s.bootUs, fenced := peers, awaiting := peers }
      if peers.isEmpty then s.resetOp w q q.partOp else s.setWard w { s.ward w with seq := some q }
    else s
  | none => s

/-- FENCE_DONE from peer `p` for a fence of ward `w` (R380): after the last the reset operation is written. -/
def State.seqFenced (s : State) (w p : Nat) : State :=
  match (s.ward w).seq with
  | some q =>
    if q.step = 2 then
      let q := { q with awaiting := q.awaiting.filter (· != p) }
      if q.awaiting.isEmpty then s.resetOp w q q.partOp else s.setWard w { s.ward w with seq := some q }
    else s
  | none => s

/-- RELEASED ends a sequence (R379, R380, R381). -/
def State.seqReleased (s : State) (w part : Nat) : State :=
  match (s.ward w).seq with
  | some q => if q.step = 4 ∧ q.target = part then s.seqDone w q else s
  | none => s

/-- A RELEASED or FENCE_DONE of a sequence that is late fails the ward (R382). -/
def State.seqLate (s : State) (w : Nat) (p : Option Nat) : State :=
  match (s.ward w).seq, p with
  | some q, none => if q.step = 4 then s.wardFail w 7 else s
  | some q, some p => if q.step = 2 ∧ q.awaiting.contains p = true then s.wardFail w 7 else s
  | none, _ => s

/-- The restarted tray firmware takes up the sequence of ward `w` from its recorded step (R385). -/
def State.seqRecover (s : State) (w : Nat) : State :=
  match (s.ward w).seq with
  | none => s
  | some q =>
    let q := { q with recovered := some q.step, via := .firmware }
    if q.op = 1 then s.resetOp w q 3
    else if q.step ≤ 2 then s.seqRelease w q
    else s.setWard w { s.ward w with seq := some q }

end Sys2Proof.Machine
end

