-- ==== Sys2Proof/Machine/SecOps.lean ====
section
/-!
DEFINITION. The security island and the compatible set: key pairs, slot verdicts, service phases, guards and the cross-check of a
manifest (18, 19).
-/
namespace Sys2Proof.Machine

/-- CAP0 of a variant (Table 16-5): Marten tiles, HBM stacks, twin port. -/
def capWord : Variant → Nat
  | .qa => 4 + 4 * 16 + 256
  | .qb => 4 * 16 + 256
  | .qc => 2 * 16

/-- CAP1 of a variant (Table 16-6): the recorder's GiB and the largest power in W. -/
def capWord1 : Variant → Nat
  | .qa => 48 + 125 * 256
  | .qb => 48 + 95 * 256
  | .qc => 24 + 70 * 256

/-! ## Key pairs and slots -/

/-- The empty key pairs of SEC_FUSE.empty: unfused, or with an entry that does not match (R430). -/
def State.emptyKeys (s : State) : Nat := s.secure.empty ||| s.secure.mismatch

/-- Image pair `k` is neither empty nor revoked. -/
def State.imageKeyGood (s : State) (k : Nat) : Bool := !s.emptyKeys.testBit k && !s.secure.revoked.testBit k

/-- What uses the signature, hash and cipher engines keeps their domain D102 on (Table 3-8). -/
def State.useCrypto (s : State) (f : State → State) : State := f { s with secure := { s.secure with cryptoAt := s.bootUs } }

/-- Slot B (true) or A. -/
def State.slotOf (s : State) (b : Bool) : Slot := if b then s.secure.slotB else s.secure.slotA
def State.setSlot (s : State) (b : Bool) (v : Slot) : State :=
  { s with secure := if b then { s.secure with slotB := v } else { s.secure with slotA := v } }

/-- The slot that runs. -/
def State.running? (s : State) : Option Bool :=
  match s.rd SEC_BOOT.slot 0 with
  | 1 => some false
  | 2 => some true
  | _ => none

/-- The running slot is TRIAL. -/
def State.trialRuns (s : State) : Bool := match s.running? with
  | some b => (s.slotOf b).state == 2
  | none => false

/-- Checks 2 to 9 of Table 18-3; `bad` is an uncorrectable read found now. -/
def State.imageVerdict (s : State) (bad : Bool) (x : Component × Header × ImageCheck) : Nat :=
  let h := x.2.1
  let c := x.2.2
  if bad || !c.readable then 2
  else if s.emptyKeys.testBit h.keySlot then 4
  else if s.secure.revoked.testBit h.keySlot then 5
  else if !c.sigOk then 6
  else if !c.bodyOk then 7
  else if h.svn.toNat < s.secure.svnFloor then 8
  else if !(h.steppings.filter (· != 0)).contains s.secure.stepId then 9
  else 0

/-- The verdict of a slot (R432). -/
def State.verdict (s : State) (bad : Bool) (x : Slot) : Nat :=
  if x.state ≠ 2 ∧ x.state ≠ 3 then 1
  else match x.image with
    | none => 3
    | some i =>
      let v := s.imageVerdict bad i
      if v ≠ 0 then v
      else if x.state = 2 ∧ 3 ≤ x.trials then 10
      else if x.state = 2 ∧ x.expired = true then 11
      else 0

/-- The header of a slot's image. -/
def Slot.header (x : Slot) : Option Header := x.image.map (·.2.1)

/-- The (svn, commit_seq) of a header as one number, svn first (R434). -/
def headerRank (h : Header) : Nat := h.svn.toNat * 4294967296 + h.commitSeq.toNat

def slotRank (x : Slot) : Nat := (x.header.map headerRank).getD 0

/-! ## Phases and guards -/

/-- Less than `sec` seconds have passed since the last hand-over. -/
def State.handedWithin (s : State) (sec : Nat) : Bool :=
  match s.secure.handedAt with
  | some t => decide (s.bootUs < t + sec * 1000000)
  | none => true

/-- The service phase (Table 19-6); test takes precedence over recovery, recovery over start-up. -/
def State.phase (s : State) : Nat :=
  if ((s.tray.map trayTest).getD false) then 2
  else if s.bit SEC_UPD.fallback 0 || s.bit SEC_UPD.no_set 0 then 3
  else if s.trialRuns || s.handedWithin 60 then 0
  else 1

/-- Feed A (false) or B is present (R176). -/
def State.feedPresent (s : State) (b : Bool) : Bool := !s.flev (voltWin b) 2

/-- A guard of R455 holds. -/
def State.guarded (s : State) : Bool :=
  s.phase == 1 && (!s.bit FEED_STAT.lever_latched 0 || s.flev 9 2 || s.feedPresent false != s.feedPresent true || s.secure.ownerLock)

/-! ## The cross-check (R454) -/

/-- The image of a manifest: its type-1 entry. -/
def imageEntry (m : Manifest) : Option Entry := (entriesOf m 1).head?

/-- The slot whose image is the one an entry names. -/
def State.slotWith (s : State) (e : Entry) : Option Bool :=
  [false, true].find? fun b => match (s.slotOf b).image with
    | some i => i.1.digest == e.digest && i.1.length == e.length
    | none => false

/-- The ward types that a tray descriptor declares. -/
def trayTypes (c : Content) : List (BitVec 32) := ((trayWards c).map (·.wardType)).eraseDups

/-- Exactly one current entry. -/
def oneCurrent (l : List Entry) : Bool := (l.filter (!·.carried)).length == 1

/-- Check 1: the counts of Table 19-3; the counts per ward type once the descriptor is staged. -/
def State.countsOk (s : State) (m : Manifest) : Bool :=
  let n (t : Nat) : List Entry := entriesOf m t
  (n 1).length == 1 && oneCurrent (n 2) && (s.part.variant != .qa || oneCurrent (n 3)) && (n 4).length == 1 && (n 5).length == 1 &&
  m.entries.all (fun e => decide (1 ≤ e.type.toNat ∧ e.type.toNat ≤ 7) &&
    (!e.carried || e.type == 2 || e.type == 3 || e.type == 6)) &&
  match s.trayOf m with
    | none => true
    | some c =>
      let ty := trayTypes c
      ty.all (fun w => oneCurrent ((n 6).filter (·.wardType == w)) && ((n 7).filter (·.wardType == w)).length == 1) &&
      (n 6 ++ n 7).all fun e => e.carried || ty.contains e.wardType

/-- The entries that count on this variant. -/
def State.counted (s : State) (m : Manifest) : List Entry := m.entries.filter fun e => !(e.type == 3 && s.part.variant != .qa)

/-- Check 2: an entry's component is staged with its digest and length. -/
def State.staged (s : State) (e : Entry) : Bool :=
  if e.type = 1 then (s.slotWith e).isSome
  else match s.stored e.digest with
    | some c => c.length == e.length
    | none => false

/-- Check 4: the version of an entry lies in every range given for its type. -/
def inRanges (m : Manifest) (e : Entry) : Bool :=
  (decide (5 < e.type.toNat)) || m.entries.all fun o => o == e || match o.ranges[e.type.toNat - 1]? with
    | some (lo, hi) => decide (lo.toNat ≤ e.version.toNat ∧ e.version.toNat ≤ hi.toNat)
    | none => true

/-- Check 5: what a tray descriptor declares lies within Table 1-4 (R19) and Table 14-2 (R338). That it declares seven of the quantities of Table
1-4, and neither die size nor hierarchy nor power domains, is the model's (DESIGN CHOICE, log entry 83). -/
def trayWardOk (t : TrayWard) : Bool :=
  decide (t.retries.toNat ≤ 3) &&
  [t.linkMs, t.idMs].all (fun n => decide (10 ≤ n.toNat ∧ n.toNat ≤ 5000)) &&
  [t.testMs, t.trainMs, t.bootMs].all (fun n => decide (10 ≤ n.toNat ∧ n.toNat ≤ 60000)) &&
  decide (1 ≤ t.mapMs.toNat ∧ t.mapMs.toNat ≤ 1000) &&
  [t.discMs, t.licMs, t.readyMs].all (fun n => decide (1 ≤ n.toNat ∧ n.toNat ≤ 5000)) &&
  decide (t.cores.toNat ≤ 1536 ∧ t.partitions.toNat ≤ 160 ∧ t.partCores.toNat ≤ 16 ∧ t.uncore.toNat ≤ 16 ∧ t.memStacks.toNat ≤ 8 ∧
    t.peak.toNat ≤ 400 ∧ t.power.toNat ≤ 1500)

def trayOk (c : Content) : Bool := (trayWards c).all trayWardOk && decide (trayStagger c ≤ 1000)

/-- Check 6: every model pack passes R257. -/
def State.modelsOk (s : State) (m : Manifest) : Bool :=
  (s.counted m).all fun e => e.type != 3 || match s.stored e.digest with
    | some { content := .models words digestOk, length, .. } => s.packOk m words length.toNat digestOk
    | _ => false

/-- Check 7: outside normal service no current entry lies below the active set's of the same type and ward type, nor the image build below
the running image's (R456). -/
def State.versionsOk (s : State) (m : Manifest) : Bool :=
  s.phase == 1 ||
  ((m.entries.all fun e => e.carried || match s.secure.set.bind fun a => entryOf a e.type.toNat e.wardType with
      | some o => decide (o.version.toNat ≤ e.version.toNat)
      | none => true) &&
   match (imageEntry m).bind s.slotWith, s.running? with
     | some b, some r => match (s.slotOf b).header, (s.slotOf r).header with
       | some h, some q => decide (q.build.toNat ≤ h.build.toNat)
       | _, _ => true
     | _, _ => true)

/-- The digest of a set's entry of a type. -/
def entryDigest (m : Manifest) (t : Nat) : Option (BitVec 384) := (entriesOf m t).head?.map (·.digest)

/-- The set is live (R457): its tray firmware, zither table and tray descriptor are those of the active set. -/
def State.isLive (s : State) (m : Manifest) : Bool := match s.secure.set with
  | some a => [1, 4, 5].all fun t => (entryDigest a t).isSome && entryDigest a t == entryDigest m t
  | none => false

/-- Check 8: a full activation's image is in a PENDING slot, names this manifest, and ranks above the running image. -/
def State.fullOk (s : State) (m : Manifest) : Bool :=
  match (imageEntry m).bind s.slotWith with
  | some b => (s.slotOf b).state == 1 && match (s.slotOf b).header with
    | some h => h.manifest == m.hash && match s.running? with
      | some r => decide (slotRank (s.slotOf r) < headerRank h)
      | none => true
    | none => false
  | none => false



/-- Check 9: every running version is carried or current in the set (R464). `models` says so of the model images of the tiles that are not OFF. -/
def State.runningOk (s : State) (m : Manifest) (models : Bool) : Bool :=
  models &&
  (s.setts.engines.all fun e =>
    e.2.state == .idle || (s.setPrograms m).any fun p => p.id.toNat == e.2.progId && p.ver.toNat == e.2.progVer) &&
  (List.range 8).all fun w => match (s.ward w).fw with
    | some d => (s.ward w).state == 0 || (s.ward w).state == 14 || (entriesOf m 6).any fun e => e.digest == d
    | none => true

/-- The first code of Table 19-5 that fails among 1 to 6, which a start checks too; 0 none. -/
def State.checkSet (s : State) (m : Manifest) : Nat :=
  if !s.countsOk m then 1
  else if !(s.counted m).all s.staged then 2
  else if (s.counted m).any (fun e => !e.carried && !(e.steppings.filter (· != 0)).contains s.secure.stepId) then 3
  else if (s.counted m).any (fun e => !e.carried && !inRanges m e) then 4
  else if !((s.trayOf m).map trayOk).getD false then 5
  else if !s.modelsOk m then 6
  else 0

/-- The manifest's signatures verify against a key slot that is neither empty nor revoked. -/
def State.manifestSigned (s : State) (m : Manifest) : Bool := m.sigOk && s.imageKeyGood m.keySlot

/-- The set's boot cross-check (R462): codes 1 to 6, and the image that runs; 255 stands for BAD_SIGNATURE. -/
def State.bootCheck (s : State) (m : Manifest) : Nat :=
  if !s.manifestSigned m then 255
  else match s.checkSet m with
    | 0 => if (imageEntry m).bind s.slotWith = s.running? then 0 else 2
    | c => c

end Sys2Proof.Machine
end

