-- ==== Sys2Proof/Machine/ResetOps.lean ====
section
/-!
DEFINITION. Resets of every kind and the Cub's selection (R55 to R64, R434 to R440).
-/
namespace Sys2Proof.Machine

/-- The fields `fs`, in every instance, at their reset values. -/
def State.clearFlds (s : State) (fs : List Fld) : State :=
  { s with regs := s.regs.filter fun e => !fs.any fun f => f.code == e.1 % 16384 }

/-! ## Power-on reset (Table 3-4) -/

/-- The burrow through a power-on reset. With VAO in range no record is lost (R22): the queued ones stay queued, each open count is queued as a count
record, and what hold-up low has cut short (R480) stays cut. When VAO fails the operation under way is completed or torn and the queue is
lost. -/
def Burrow.restart (b : Burrow) (powered : Bool) : Burrow :=
  let keep : Burrow := { flash := b.flash, nextSeq := b.nextSeq, torn := b.torn, tornNew := b.tornNew, feedRecs := b.feedRecs,
                         persistOp := b.persistOp, persistMeters := b.persistMeters, powerCycles := b.powerCycles }
  let counts := (b.flashPath.open_.filter (0 < ·.count)).map fun e =>
    e.counts { code := e.code, source := e.source, opSeconds := b.opSeconds, powerCycles := b.powerCycles, bootUs := e.lastUs }
  if powered then
    if b.halt then keep
    else { keep with flight := b.flight ++ counts, prio := b.prio, flashPath := { tokens := b.flashPath.tokens } }
  else match b.flight with
  | [] => keep
  | r :: _ =>
    if Config.commitSurvives b.nextSeq then { keep with flash := b.flash ++ [{ r with seq := b.nextSeq }], nextSeq := b.nextSeq + 1 }
    else { keep with tornNew := b.tornNew + 1 }

/-- The state that a power-on reset leaves: fuses, on-chip flash and store flash, the levels at the pins and the supplies (R55); `powered` where
VAO stays in range. -/
def State.cleared (s : State) (powered : Bool) : State :=
  { State.reset with
    pending := s.pending
    part := { variant := s.part.variant, straps := s.part.straps, held := s.part.held, vaoLow := s.part.vaoLow,
              vsettLost := s.part.vsettLost, vcoreLost := s.part.vcoreLost, perstLow := s.part.perstLow }
    zither := { pgHigh := s.zither.pgHigh }
    wards := { soft := s.wards.soft, softHalf := s.wards.softHalf, licences := s.wards.licences }
    secure := { slotA := s.secure.slotA, slotB := s.secure.slotB, store := s.secure.store, noStore := s.secure.noStore, die := s.secure.die,
                stepId := s.secure.stepId, svnFloor := s.secure.svnFloor, revoked := s.secure.revoked, empty := s.secure.empty,
                ownerLock := s.secure.ownerLock, draws := s.secure.draws }
    burrow := s.burrow.restart powered }

/-- The role strap is ignored (R6, Table 2-9 note). -/
def State.roleIgnored (s : State) : Bool := s.part.straps.twinRole == 3 || (s.part.variant == .qc && s.part.straps.twinRole != 0)

/-- What the straps set (Tables 2-8 to 2-10, R76, R485). -/
def State.applyStraps (s : State) : State :=
  let p := s.part.straps
  let role := if s.roleIgnored then 0 else p.twinRole
  let s := (((s.wr DEV_STAT.role 0 role).wr TWIN_STAT.role 0 role).wrBit HARP_GSTAT.obj_excl 0 (role == 2)).wr FAN_CRIT.threshold 0 (95 + 5 * p.tcrit)
  let s := each (List.range 4) (fun z s => s.wr FAN_ZIN.sel z (3 * 2 ^ (8 * p.tchan))) s
  let s := (s.wr SNS_CHCFG.enable (256 + 8 * p.tchan) 1).wr SNS_CHCFG.enable (257 + 8 * p.tchan) 1
  each (List.range 32) (fun k s => (s.wr FAN_ZPT.temp k (low 8 (fandefTemp p.fandef (k % 8)))).wr FAN_ZPT.duty k (fandefDuty p.fandef (k % 8))) s

/-- Stages 0 and 1 of Table 3-9 after a power-on reset with a cause of Table 3-7 (R63, R68, R154, R473). -/
def State.boot (s : State) (cause : Nat) : State :=
  let s := { s with
    part := { s.part with stage := 1 }
    zither := { s.zither with released := false }
    burrow := { s.burrow with powerCycles := min 16777215 (s.burrow.powerCycles + 1) } }
  let s := each (List.range 16) (fun g s => s.setZgrp g { s.zgrp g with dwellEnd := s.tick + s.rd ZIT_GCTL.t_off_min g * 1000 }) s
  let s := (each (List.range 4) (fun z s => s.judgeZone z) (s.wr RST_CAUSE.last_cause 0 cause).applyStraps).calPass
  let s := s.record Ev.IMG_RESET Src.security [cause]
  let s := if s.roleIgnored then s.record Ev.TWIN_ROLE_IGNORED Src.twin [s.part.straps.twinRole] else s
  s.driveAll

/-- A power-on reset that the T840 performs by itself: it starts from stage 0 (R58, R62). -/
def State.powerOnReset (s : State) (cause : Nat) : State := (s.cleared true).boot cause

/-! ## Application and CXL resets -/

/-- Every group in UP or ON goes down with cause 8, and the power-on reset is pending (R58). -/
def State.pendReset (s : State) (cause : Nat) : State :=
  each (List.range 16) (fun g s => s.goDown g 8) { s with part := { s.part with pendingPor := some cause } }

/-- Host ring state cleared (Table 3-4, R60). -/
def State.clearRings (s : State) : State := each (List.range 32) (fun r s => s.clearPair r) s

/-- An application reset with a cause of Table 3-7 (R56 to R58, R402): rings are disabled, tray firmware halts, and the Cub's selection
is due unless a power-on reset is pending. -/
def State.appReset (s : State) (cause : Nat) : State :=
  let s := if s.hostUp then each (List.range 32) (fun r s => s.disablePair r) s else s
  let s := s.clearRings
  let s := (s.wr DEV_STAT.mode 0 2).raiseInt INT_CAUSE.restarting INT_MASK.restarting
  let s := s.clearFlds (Reg.fields .MRT_OFFER ++ Reg.fields .FW_BUILD)
  let s := (s.addSat RST_CAUSE.app_resets 0 1).wr RST_CAUSE.last_cause 0 cause
  let s := { s with
    part := { s.part with halted := true }
    marten := { s.marten with offerMax := [] }
    secure := { s.secure with handing := false, staging := none, copying := none,
                              selecting := if s.part.pendingPor.isSome then none else some 1 } }
  s.record Ev.IMG_RESET Src.security [cause]

/-- A CXL reset (R60): every pair is disabled and nothing completes. -/
def State.cxlReset (s : State) (cause : Nat) : State :=
  ({ s.clearRings with host := { s.clearRings.host with linkUp := false } }).record Ev.IMG_RESET Src.security [cause]

/-! ## Supplies -/

/-- What the loss of VCORE takes with it (R61): recorder and mirror contents, Marten, host rings and the ports; the slots of a tile that was on read as
never written until it next commits (R252). -/
def State.vcoreOff (s : State) : State :=
  let s := each (List.range 8) (fun p s => if s.pstate p = 0 then s else s.portOff p) s
  let s := (s.clearRings.wr DEV_STAT.mem_active 0 0).wr REC_STAT.state 0 3
  let mrt := (Reg.fields .MRT_TSTAT ++ Reg.fields .MRT_OFFER ++ Reg.fields .MRT_GSTAT ++ Reg.fields .MRT_ISTAT ++ Reg.fields .MRT_JSTAT ++
    [MRT_TCTL.enable, MRT_TCTL.run])
  let on := (List.range 4).filter fun t => s.rd MRT_TSTAT.state t != 0
  let s := s.clearFlds mrt
  let s := each on (fun t s => (s.wr MRT_TSTAT.invalidated t 1).wr MRT_CHK.shadow t 0) s
  { s with
    part := { s.part with vcoreLost := true }
    marten := {}
    burrow := { s.burrow with mirror := [] }
    recorder := { trained := s.recorder.trained, trainFailed := s.recorder.trainFailed } }

/-- What the loss of VSETT takes with it (R62): the EN outputs, the harp drivers, and everything on VSETT; the reflex matrix is on VAO and
keeps the rules in force; every zone falls back. Every group that is not OFF enters DWELL with abort_cause 6, as at the loss of the input (DESIGN
CHOICE, log entry 80). -/
def State.vsettOff (s : State) : State :=
  let s := s.releasePads.clearFlds (Reg.fields .HARP_WSTAT ++ Reg.fields .SNS_WSTAT ++ Reg.fields .SNS_CHSTAT ++ Reg.fields .SNS_CHSAMP)
  let s := { s with
    part := { s.part with vsettLost := true }
    setts := { trueRules := s.setts.trueRules, activeRules := s.setts.activeRules }
    sense := {}
    harps := [] }
  s.zonesFallback 4

/-! ## Selection (R434) -/

/-- The locks of Table 18-4. -/
def State.setLocks (s : State) : State :=
  each [SEC_LOCK.cub_region, SEC_LOCK.fuse_raw, SEC_LOCK.seed, SEC_LOCK.key_table, SEC_LOCK.running_slot_wp, SEC_LOCK.island_regions]
    (fun f s => s.wr f 0 1) s

/-- The inert state (R440). -/
def State.goInert (s : State) (data : List Nat) : State :=
  (((s.setLocks.wr SEC_BOOT.inert 0 1).wr SEC_BOOT.slot 0 0).wr DEV_STAT.mode 0 3).record Ev.IMG_INERT Src.security data

/-- What SEC_SLOTA or SEC_SLOTB shows of a judgement. -/
def State.showVerdict (s : State) (b : Bool) (v : Nat) : State :=
  let h := (s.slotOf b).header
  let svn := (h.map (·.svn.toNat)).getD 0
  let key := (h.map (·.keySlot.val)).getD 0
  if b then ((s.wr SEC_SLOTB.verdict 0 v).wr SEC_SLOTB.svn 0 svn).wr SEC_SLOTB.key_slot 0 key
  else ((s.wr SEC_SLOTA.verdict 0 v).wr SEC_SLOTA.svn 0 svn).wr SEC_SLOTA.key_slot 0 key

/-- Slot `b` judged: the register, and IMG_SLOT_INVALID for verdicts 2 to 9. -/
def State.judgeSlot (s : State) (b : Bool) (v : Nat) : State :=
  let s := s.showVerdict b v
  if 2 ≤ v ∧ v ≤ 9 then s.record Ev.IMG_SLOT_INVALID Src.security [b.toNat, v] else s

/-- A TRIAL slot with verdict 10 or 11 is retired. -/
def State.retire (s : State) (b : Bool) (v : Nat) : State :=
  if v = 10 ∨ v = 11 then
    (s.setSlot b { s.slotOf b with state := 4 }).record Ev.IMG_TRIAL_SKIPPED Src.security [b.toNat, v]
  else s

/-- The slot that two verdicts select (R434): the higher (svn, commit_seq), slot A of equals. -/
def State.chosen (s : State) (va vb : Nat) : Option Bool :=
  if va = 0 ∧ vb = 0 then some (decide (slotRank s.secure.slotA < slotRank s.secure.slotB))
  else if va = 0 then some false
  else if vb = 0 then some true
  else none

/-- The thermometer positions blown up to a COMMITTED slot's svn (R460). -/
def State.advanceFloor (s : State) (b : Bool) : State :=
  let n := min 128 (((s.slotOf b).header.map (·.svn.toNat)).getD 0)
  if (s.slotOf b).state = 3 ∧ s.secure.svnFloor < n then
    ({ s with secure := { s.secure with svnFloor := n } }).record Ev.UPD_SVN_ADVANCED Src.security [s.secure.svnFloor, n]
  else s

/-- The Cub hands over to slot `b` (R434, R439). -/
def State.handOver (s : State) (b : Bool) : State :=
  let x := s.slotOf b
  let s := if x.state = 2 ∧ s.part.straps.bootHold = false then s.setSlot b { x with trials := x.trials + 1 } else s
  let h := x.header
  let s := s.record Ev.IMG_BOOT Src.security
    [b.toNat, (h.map (·.svn.toNat)).getD 0, (h.map (·.commitSeq.toNat)).getD 0, (h.map (·.build.toNat)).getD 0, (s.slotOf b).trials]
  let s := (s.wr SEC_BOOT.slot 0 (b.toNat + 1)).setLocks
  if s.part.straps.bootHold then { s with part := { s.part with stage := max 3 s.part.stage } }.wr DEV_STAT.mode 0 4
  else { s with secure := { s.secure with handing := true } }

/-- The Cub's selection: `mode` 0 at a power-on reset, 1 at an application reset, 2 at trial expiry; uncorrectable reads of the slots. -/
def State.select (s : State) (mode : Nat) (badA badB : Bool) : State :=
  let va := s.verdict badA s.secure.slotA
  let vb := s.verdict badB s.secure.slotB
  let s := (s.judgeSlot false va).judgeSlot true vb
  let s := if s.part.straps.bootHold then s else (s.retire false va).retire true vb
  let was := s.running?
  match s.chosen va vb with
  | none => if mode = 0 then s.goInert [va, vb] else s.pendReset 0x0A
  | some b =>
    let tie := va == 0 && vb == 0 && slotRank s.secure.slotA == slotRank s.secure.slotB
    let s := s.wr SEC_BOOT.tie 0 tie.toNat
    let s := if tie then s.record Ev.IMG_TIE Src.security [slotRank s.secure.slotA / 4294967296, slotRank s.secure.slotA % 4294967296] else s
    let s := if mode ≠ 0 ∧ was ≠ some b then s.pendReset 0x04
      else if mode = 2 then s else s.handOver b
    s.advanceFloor b

/-! ## Tray firmware's start -/

/-- A refusal of a set shown in SEC_UPD.last_check (R454). -/
def State.noteCheck (s : State) (code : Nat) : State := if code ≤ 10 then s.wr SEC_UPD.last_check 0 code else s

/-- The set that the running slot's record names, cross-checked at a power-on reset (R462, R463). -/
def State.bootSet (s : State) (b : Bool) : State :=
  let x := s.slotOf b
  let code (m : Option Manifest) : Nat := match m with
    | some m => s.bootCheck m
    | none => 2
  let seq (m : Option Manifest) : Nat := (m.map (·.setSeq.toNat)).getD 0
  if code x.active = 0 then { s with secure := { s.secure with set := x.active } }
  else if code x.good = 0 then
    (({ s with secure := { s.secure with set := x.good } }.noteCheck (code x.active)).wr SEC_UPD.fallback 0 1).record Ev.SET_FALLBACK Src.firmware
      [seq x.active, code x.active]
  else ((s.noteCheck (code x.good)).wr SEC_UPD.no_set 0 1).record Ev.SET_NONE Src.firmware [seq x.active, seq x.good, code x.active, code x.good]

/-- The internal address of an image slot (Table 18-1). -/
def slotBase (b : Bool) : Nat := if b then 0x21040000 else 0x20040000

/-- Core 0 is released and tray firmware starts (R439): the set at a power-on reset, the wards and sequences at an application reset. -/
def State.firmStart (s : State) : State :=
  let b := (s.running?).getD false
  let build := ((s.slotOf b).header.map (·.build.toNat)).getD 0
  let entry : Nat := ((s.slotOf b).header.map (·.entry.toNat)).getD 0
  let first := decide (s.part.stage < 3)
  let s := { s with
    part := { s.part with halted := false, stage := max 3 s.part.stage, refreshAt := s.bootUs, parked := 0 }
    secure := { s.secure with handing := false, handedAt := some s.bootUs, entryAt := slotBase b + 0x1000 + entry }
    twin := { s.twin with fwAt := some s.bootUs } }
  let s := ((s.wr FW_BUILD.major 0 (build / 16777216)).wr FW_BUILD.minor 0 (build / 65536)).wr FW_BUILD.patch 0 build
  if first then s.bootSet b
  else each (List.range 8) (fun w s => (if stepping (s.ward w).state then s.wardFail w 14 else s).seqRecover w) s

end Sys2Proof.Machine
end

