-- ==== Sys2Proof/Machine/Hosts.lean ====
section
/-!
DEFINITION. The meanings of the commands of the host interface (16): descriptors checked as they are fetched, rings and doorbells,
interrupts, the HDM range, telemetry subscriptions.
-/
namespace Sys2Proof.Machine

/-! ## The checks of R404 -/

/-- The inline parameters of an opcode (offset, size) and whether it has a buffer at addr0 (Table 16-13); none for an unknown opcode. -/
def opShape : Nat → Option (Bool × List (Nat × Nat))
  | 0x0001 => some (false, [])
  | 0x0002 => some (false, [])
  | 0x0003 => some (false, [(0x2C, 8), (0x34, 8)])
  | 0x0100 => some (false, [(0x2C, 1), (0x2D, 1), (0x2E, 2), (0x30, 1)])
  | 0x0101 => some (false, [(0x2C, 2)])
  | 0x0200 => some (true, [(0x2C, 1), (0x30, 8), (0x38, 4)])
  | 0x0201 => some (false, [(0x2C, 2)])
  | 0x0202 => some (false, [])
  | 0x0300 => some (false, [(0x2C, 1), (0x2D, 1)])
  | 0x0301 => some (true, [])
  | 0x0302 => some (true, [(0x2C, 1), (0x2D, 1), (0x2E, 1), (0x30, 8)])
  | 0x0303 => some (false, [(0x2C, 1), (0x2D, 1), (0x2E, 2)])
  | 0x0304 => some (true, [(0x2C, 1)])
  | 0x0305 => some (true, [])
  | 0x0400 => some (false, [(0x2C, 1), (0x2D, 1)])
  | 0x0401 => some (false, [(0x2C, 1)])
  | 0x0402 => some (false, [(0x2C, 1)])
  | 0x0500 => some (true, [(0x2C, 1), (0x2D, 1)])
  | 0x0501 => some (true, [(0x2C, 8)])
  | 0x0502 => some (false, [])
  | 0x0503 => some (true, [(0x2C, 1), (0x2D, 1)])
  | 0x0504 => some (true, [])
  | 0x0505 => some (true, [(0x2C, 16)])
  | 0x0506 => some (true, [(0x2C, 1)])
  | _ => none

/-- The offsets at which a descriptor fails check 1 (R404), in ascending order: an unknown opcode, a reserved flag, src_hdm elsewhere than in
0x0500, a wrong ring_tag, a field that the opcode does not use and that is not zero. -/
def descForm (r : Nat) (d : Desc) : List Nat :=
  let op := d.opcode.toNat
  let shape := (opShape op).getD (false, [])
  let buf := shape.1 && !(op == 0x0506 && descParam d 0x2C 1 == 1)
  let used (a : Nat) : Bool := shape.2.any fun p => decide (p.1 ≤ a ∧ a < p.1 + p.2)
  let at_ (a : Nat) (b : Bool) : List Nat := if b then [a] else []
  at_ 0 (opShape op).isNone ++ at_ 2 (decide (8 ≤ d.flags.toNat) || (descHdm d && op != 0x0500)) ++ at_ 3 (d.ringTag.toNat != r) ++
  at_ 8 (!buf && d.addr0 != 0) ++ at_ 0x10 (d.addr1 != 0) ++ at_ 0x18 (d.addr2 != 0) ++ at_ 0x20 (!buf && d.len0 != 0) ++
  at_ 0x24 (d.len1 != 0) ++ at_ 0x28 (d.len2 != 0) ++
  ((List.range 20).map (0x2C + ·)).filter fun a => !used a && descParam d a 1 != 0

/-- The indices of a subscription kind (R407). -/
def subRange : Nat → Nat
  | 1 => 304
  | 2 => 64
  | 3 => 512
  | 4 => 8
  | 5 => 256
  | _ => 0

/-- The offsets at which a descriptor fails check 3 (R404): parameters out of range, buffers too short or not aligned. -/
def State.descRange (s : State) (d : Desc) : List Nat :=
  let p := descParam d
  let at_ (a : Nat) (b : Bool) : List Nat := if b then [a] else []
  let ward : List Nat := at_ 0x2C (decide (8 ≤ p 0x2C 1))
  let buf (n : Nat) : List Nat := at_ 8 (d.addr0.toNat % 4 != 0) ++ at_ 0x20 (decide (d.len0.toNat < n))
  match d.opcode.toNat with
  | 0x0100 => at_ 0x2C (p 0x2C 1 == 0 || decide (5 < p 0x2C 1)) ++ at_ 0x2D (decide (2 < p 0x2D 1)) ++
      at_ 0x2E (decide (subRange (p 0x2C 1) ≤ p 0x2E 2)) ++ at_ 0x30 (decide (20 < p 0x30 1))
  | 0x0200 => buf (64 * p 0x38 4) ++ at_ 0x2C (decide (2 < p 0x2C 1)) ++ at_ 0x38 (p 0x38 4 == 0 || decide (65536 < p 0x38 4))
  | 0x0201 => at_ 0x2C (decide ((if s.part.variant = .qc then 2500 else 5000) < p 0x2C 2))
  | 0x0300 => ward ++ at_ 0x2D (p 0x2D 1 == 0 || decide (4 < p 0x2D 1))
  | 0x0301 => buf 256
  | 0x0302 => buf (4 * p 0x2E 1) ++ ward ++ at_ 0x2D (p 0x2D 1 == 0 || decide (2 < p 0x2D 1)) ++
      at_ 0x2E (p 0x2E 1 == 0 || decide (16 < p 0x2E 1)) ++ at_ 0x30 (decide (2 ^ 48 ≤ p 0x30 8))
  | 0x0303 => ward ++ at_ 0x2D (p 0x2D 1 == 0 || decide (4 < p 0x2D 1))
  | 0x0304 => buf 576 ++ ward
  | 0x0305 => at_ 8 (d.addr0.toNat % 4 != 0) ++ at_ 0x20 (d.len0.toNat != 3501)
  | 0x0400 => at_ 0x2C (decide (p 0x2C 1 < 8 ∨ 16 ≤ p 0x2C 1)) ++ at_ 0x2D (p 0x2D 1 == 0 || decide (2 < p 0x2D 1))
  | 0x0401 => at_ 0x2C (p 0x2C 1 == 0 || decide (3 < p 0x2C 1))
  | 0x0402 => at_ 0x2C (decide (16 ≤ p 0x2C 1))
  | 0x0500 =>
    let image := p 0x2C 1 == 1
    at_ 8 (d.addr0.toNat % 4 != 0 || (descHdm d && (decide (d.addr0.toNat < s.stageBase) ||
      decide (s.stageBase + 2 ^ 30 < d.addr0.toNat + d.len0.toNat)))) ++
    at_ 0x20 (if image then decide (d.len0.toNat < 4097 ∨ 16777216 < d.len0.toNat) else d.len0 == 0) ++
    at_ 0x2C (p 0x2C 1 == 0 || decide (7 < p 0x2C 1)) ++ at_ 0x2D (decide ((if image then 1 else 0) < p 0x2D 1))
  | 0x0501 => if p 0x2C 8 = 0 then [] else buf 3581
  | 0x0503 => buf 3629 ++ at_ 0x2C (decide (1 < p 0x2C 1)) ++ at_ 0x2D (decide (3 < p 0x2D 1))
  | 0x0504 => buf 3629
  | 0x0505 => buf 8192
  | 0x0506 => (if p 0x2C 1 = 0 then buf 3629 else []) ++ at_ 0x2C (decide (1 < p 0x2C 1))
  | _ => []

/-- The opcode's target block is absent (R3): a subscription of kind 5, or a stage of a model pack, without Marten. -/
def State.descAbsent (s : State) (d : Desc) : Bool :=
  s.part.variant != .qa && ((d.opcode == 0x0100 && descParam d 0x2C 1 == 5) || (d.opcode == 0x0500 && descParam d 0x2C 1 == 3))

/-- The outcome of the checks of R404, with its detail; none where they pass. -/
def State.descCheck (s : State) (r : Nat) (d : Desc) : Option (Nat × Nat) :=
  match descForm r d with
  | a :: _ => some (St.badDescriptor, a)
  | [] => if s.descAbsent d then some (St.unsupported, 0) else match s.descRange d with
    | a :: _ => some (St.badDescriptor, a)
    | [] => none

/-! ## Rings and doorbells -/

/-- RING_ENABLE (R394, R396): a write of RING_CTL with enable = 1. -/
def execRingEnable (r : Nat) (v : BitVec 32) (s : State) : Out :=
  let v := v.toNat
  let st (s : State) (c : Nat) : State := s.wr RING_STAT.ctl_status r c
  let t := s.writeFlds [RING_CTL.sq_log2, RING_CTL.cq_log2, RING_CTL.int_en, RING_CTL.vector] r v
  let sized := decide (4 ≤ t.rd RING_CTL.sq_log2 r ∧ t.rd RING_CTL.sq_log2 r ≤ t.rd RING_CTL.cq_log2 r) && t.rd SQ_BASE.base r != 0 &&
    t.rd CQ_BASE.base r != 0
  let up := ((((t.wr SQ_HEAD.index r 0).wr CQ_TAIL.index r 0).wr DB_SQ.index r 0).wr DB_CQ.index r 0).setPair r {}
  let up := (((up.wr RING_CTL.enable r 1).wr RING_STAT.state r 1).wr RING_STAT.outstanding r 0)
  doIf (s.hostUp && decide (2147483648 ≤ v)) s
    (if s.rd RING_STAT.state r = 1 then st (s.writeFlds [RING_CTL.int_en] r v) St.ok
     else if !s.ready then st t St.refusedState
     else if !sized then st t St.badDescriptor
     else (st up St.ok).record Ev.HOST_RING_ON Src.hostIf [r, t.rd RING_CTL.sq_log2 r, t.rd RING_CTL.cq_log2 r])

/-- RING_DISABLE (R400): a write of RING_CTL with enable = 0; on a disabled pair it only sets the fields. -/
def execRingDisable (r : Nat) (v : BitVec 32) (s : State) : Out :=
  let v := v.toNat
  doIf (s.hostUp && decide (v < 2147483648)) s
    (if s.rd RING_STAT.state r = 1 then (s.disablePair r).writeFlds [RING_CTL.int_en] r v
     else s.writeFlds [RING_CTL.sq_log2, RING_CTL.cq_log2, RING_CTL.int_en, RING_CTL.vector] r v)

/-- SQ_DOORBELL (R396, R397). -/
def execSqDoorbell (r : Nat) (v : BitVec 32) (s : State) : Out :=
  let i := v.toNat % 4096
  doIf (s.hostUp && s.rd RING_STAT.state r == 1 && decide (i < s.sqSize r)) s (s.wr DB_SQ.index r i)

/-- An entry of subscription `k` written in a free slot (R407). -/
def State.writeEntry (s : State) (k : Nat) (x : Sub) (e : Nat × Nat) : State :=
  (s.setSub k { x with dropped := 0 }).putCompletion x.pair x.quiet
    { cookie := x.cookie, status := St.ok, phase := false, valid := true, more := true, detail := min 65535 x.dropped, sqHead := 0,
      ringTag := x.pair, result := e.1 % 2 ^ 64 + 2 ^ 64 * (e.2 % 2 ^ 32) + 2 ^ 96 * (k % 65536) }

/-- The first completion of subscription `k`, with its sub_id. -/
def State.writeGreet (s : State) (k : Nat) (x : Sub) : State :=
  (s.setSub k { x with greet := false }).putCompletion x.pair x.quiet
    { cookie := x.cookie, status := St.ok, phase := false, valid := true, more := true, detail := 0, sqHead := 0, ringTag := x.pair,
      result := Config.firstPosition k % 2 ^ 64 + 2 ^ 96 * (k % 65536) }

/-- The completions that subscription `k` holds, written while a slot is free, oldest first; at most `fuel`. -/
def State.flushSub (s : State) (k : Nat) : Nat → State
  | 0 => s
  | fuel + 1 => match s.sub k with
    | none => s
    | some x =>
      if s.cqFree x.pair = 0 then s
      else if x.greet then (s.writeGreet k x).flushSub k fuel
      else match x.held with
        | [] => s
        | e :: l => (s.writeEntry k { x with held := l } e).flushSub k fuel

/-- CQ_DOORBELL (R396, R397, R408): slots are freed and held entries use them. -/
def execCqDoorbell (r : Nat) (v : BitVec 32) (s : State) : Out :=
  let i := v.toNat % 4096
  doIf (s.hostUp && s.rd RING_STAT.state r == 1 && decide (i < s.cqSize r)) s
    (each (s.host.subs.filter (·.2.pair == r)) (fun e s => s.flushSub e.1 65) (s.wr DB_CQ.index r i))

/-- DESCRIPTOR_FETCH (R397, R404): the descriptor `d` at SQ_HEAD is fetched, reserves a slot and is checked. -/
def execDescriptorFetch (r : Nat) (d : Desc) (s : State) : Out :=
  let h := s.rd SQ_HEAD.index r
  let p := s.pair r
  let t := (s.setPair r { p with out := p.out ++ [{ slot := h, desc := d, order := s.host.order }] }).wr RING_STAT.outstanding r (p.out.length + 1)
  let t := { t with host := { t.host with order := s.host.order + 1 } }.wr SQ_HEAD.index r ((h + 1) % s.sqSize r)
  doIf (s.hostUp && s.rd RING_STAT.state r == 1 && h != s.rd DB_SQ.index r && decide (p.out.length < 8) && decide (0 < s.cqFree r)) s <|
    match s.descCheck r d with
    | some (c, detail) => t.complete r h c detail 0 false
    | none => t

/-- COALESCE_TIMEOUT (R398). -/
def execCoalesceTimeout (r : Nat) (s : State) : Out :=
  let us := s.rd RING_COAL.coal_us r
  let due := match (s.pair r).firstAt with
    | some t => decide (t + us ≤ s.bootUs)
    | none => false
  doIf (s.hostUp && s.bit RING_CTL.int_en r && us != 0 && due) s (s.signal_ r)

/-- INT_CAUSE_CLEAR (R395). -/
def execIntCauseClear (v : BitVec 32) (s : State) : Out :=
  doIf s.hostUp s (s.writeFlds (Reg.fields .INT_CAUSE) 0 v.toNat)

/-- A failed access counted and recorded (R401): pair, cookie, kind (0 fetch, 1 read, 2 write). -/
def State.dmaError (s : State) (r cookie kind : Nat) : State :=
  ((s.addSat RING_ERR.dma_err r 1).record Ev.HOST_DMA_ERR Src.hostIf [r, cookie, kind]).raiseInt INT_CAUSE.dma_err INT_MASK.dma_err

/-- The stage that the descriptor of slot `slot` of pair `r` has begun ends with it, and its target stays EMPTY. -/
def State.dropStage (s : State) (r slot : Nat) : State :=
  let its (v : Via) : Bool := match v with
    | .ring q k => decide (q.val = r ∧ k.toNat = slot)
    | .firmware => false
  { s with secure := { s.secure with staging := s.secure.staging.filter fun g => !its g.via } }

/-- DMA_FAILURE (R401). -/
def execDmaFailure (r : Nat) (acc : DmaAccess) (s : State) : Out :=
  let buffer (slot kind : Nat) : State := match s.fetched r slot with
    | some f => ((s.dmaError r f.desc.cookie.toNat kind).complete r slot St.integrity kind 0 false).dropStage r slot
    | none => s
  doIf (s.hostUp && s.rd RING_STAT.state r == 1) s <|
    match acc with
    | .fetch => if s.rd SQ_HEAD.index r = s.rd DB_SQ.index r then s else (s.dmaError r 0 0).disablePair r
    | .read slot => buffer slot.toNat 1
    | .write slot => buffer slot.toNat 2

/-! ## The HDM range -/

/-- The first and last of a denied access (R392): HDM_ERR, the cause, and the count of the second's HOST_HDM_DENIED. -/
def State.deny (s : State) (write : Bool) (a : Nat) : State :=
  let s := s.addSat (if write then HDM_ERR.writes else HDM_ERR.reads) 0 1
  let h := s.host
  let s := match h.deniedAt with
    | some _ => { s with host := { h with denied := (h.denied.1, h.denied.2.1, h.denied.2.2 + 1) } }
    | none => { s with host := { h with denied := (a, write, 1), deniedAt := some s.bootUs } }
  s.raiseInt INT_CAUSE.hdm_denied INT_MASK.hdm_denied

/-- The end of a second in which accesses were denied (R392). -/
def State.deniedSecond (s : State) : State :=
  match s.host.deniedAt with
  | some t =>
    if t + 1000000 ≤ s.bootUs then
      ({ s with host := { s.host with deniedAt := none } }).record Ev.HOST_HDM_DENIED Src.hostIf
        [s.host.denied.1, s.host.denied.2.1.toNat, s.host.denied.2.2]
    else s
  | none => s

/-- Bytes answered to a CXL.mem read. -/
def State.answer (s : State) (l : List Byte) : State := { s with host := { s.host with answer := l } }

/-- A staging descriptor reads the window. -/
def State.windowRead (s : State) : Bool := match s.secure.staging with
  | some g => ((s.descOf g.via).map descHdm).getD false
  | none => false

/-- HDM_ACCESS (R391, R392, R421, R422): a CXL.mem access of 64 bytes, two words of the word code, after the bit upsets in them since. -/
def execHdmAccess (write : Bool) (line : BitVec 30) (data : BitVec 512) (bad0 bad1 : BitVec 280) (s : State) : Out :=
  let a := line.toNat * 64
  let u := (s.hbmUpset a bad0).hbmUpset (a + 32) bad1
  let read (a : Nat) (t : State) : State := match (u.hbmFound a).1 with
    | .good => t
    | .corrected => t.hbmCorr a
    | .uncorrectable => t.hbmUncorr a 0
  doIf (s.hostUp && s.host.linkUp && s.host.decoder && (s.region a).isSome) s
    (if !s.bit DEV_STAT.mem_active 0 then
      (if write then s.addSat HDM_ERR.writes 0 1 else (s.addSat HDM_ERR.reads 0 1).answer (leBytes 64 0))
     else if write then
      (if s.region a = some .staging ∧ s.bit HDM_WCTL.stage_open 0 = true ∧ s.windowRead = false then s.setHbm a (leBytes 64 data.toNat)
       else s.deny true a)
     else if s.region a = some .models ∨ s.region a = some .working then (s.deny false a).answer (leBytes 64 0)
     else
      read (a + 32) (read a (u.answer (u.hbmLine a))))

/-- HDM_DECODER_COMMIT (R390): the size in GiB and the interleave ways that the host programs. -/
def execHdmDecoderCommit (gib : BitVec 16) (ways : BitVec 8) (s : State) : Out :=
  let ok := gib.toNat == (if s.part.variant = .qc then 32 else 64) && ways.toNat == 1
  doIf (s.hostUp && s.host.linkUp) s { s with host := { s.host with decoder := ok, decoderErr := !ok } }

/-! ## Descriptors of chapter 16 -/

/-- NOP_DESCRIPTOR: completes with the tray tick. -/
def execNopDescriptor (via : Via) (s : State) : Out :=
  doIf (viaRing via && s.given via 0x0001 fun _ => true) s (s.finish via St.ok 0 (s.tick % 2 ^ 64) true)

/-- HOST_RESET: completes OK, then an application reset with cause 0x08. -/
def execHostReset (via : Via) (s : State) : Out :=
  doIf (viaRing via && s.given via 0x0002 fun _ => true) s ((s.finish via St.ok).appReset 0x08)

/-- A free subscription number. -/
def State.freeSub (s : State) : Nat :=
  let p := Config.subPick s.host.order
  (((List.range 257).map fun i => (p + i) % 65536).find? fun k => (s.sub k).isNone).getD 0

/-- TELEM_SUBSCRIBE (R407): NO_RESOURCE beyond 256 subscriptions. -/
def execTelemSubscribe (via : Via) (s : State) : Out :=
  let k := s.freeSub
  doIf (viaRing via && s.fwUp && s.given via 0x0100 fun _ => true) s <|
    match via, s.descOf via with
    | .ring r slot, some d =>
      if 256 ≤ s.host.subs.length then s.finish via St.noResource
      else
        let x : Sub := { pair := r.toNat, slot := slot.toNat, cookie := d.cookie, quiet := descQuiet d, kind := descParam d 0x2C 1,
                         stat := descParam d 0x2D 1, index := descParam d 0x2E 2, k := descParam d 0x30 1, greet := true }
        (((s.begin_ via).setSub k x).countSubs r.toNat).flushSub k 1
    | _, _ => s

/-- TELEM_CANCEL (R406): the subscription's own descriptor completes OK; REFUSED_STATE for an unknown sub_id. -/
def execTelemCancel (via : Via) (s : State) : Out :=
  doIf (viaRing via && s.fwUp && s.given via 0x0101 fun _ => true) s <|
    match s.descOf via with
    | some d =>
      let k := descParam d 0x2C 2
      match s.sub k with
      | some x => (((s.endSubs (·.1 == k)).countSubs x.pair).complete x.pair x.slot St.ok 0 0 false).finish via St.ok
      | none => s.finish via St.refusedState
    | none => s

/-- SUBSCRIPTION_ENTRY (R407, R408): the next entry of the subscription is written in a free slot, or held; a full holding queue drops
its oldest. -/
def execSubscriptionEntry (sub : BitVec 16) (s : State) : Out :=
  let k := sub.toNat
  doIf (s.hostUp && s.ready) s <|
    match s.sub k with
    | none => s
    | some x => match x.due with
      | [] => s
      | e :: l =>
        let x := { x with due := l }
        if x.held.length < 64 then (s.setSub k { x with held := x.held ++ [e] }).flushSub k 65
        else
          ((s.addSat RING_ERR.sub_drops x.pair 1).setSub k
            { x with held := x.held.drop 1 ++ [e], dropped := x.dropped + 1, inSecond := x.inSecond + 1,
                     recordAt := some (x.recordAt.getD s.bootUs) }).flushSub k 65

/-- The end of a second in which a subscription dropped entries (R408). -/
def State.dropSeconds (s : State) : State :=
  each s.host.subs (fun e s => match e.2.recordAt with
    | some t => if t + 1000000 ≤ s.bootUs then (s.subRecord e.1 e.2).setSub e.1 { e.2 with recordAt := none, inSecond := 0 } else s
    | none => s) s

/-- The records of an area (R481) from a first sequence: 0 permanent, 1 circulating, 2 mirror. -/
def State.areaRecords (s : State) (area first : Nat) : List Rec :=
  let b := s.burrow
  match area with
  | 0 => b.flash.filter fun r => decide (r.seq ≤ 4095 ∧ first ≤ r.seq)
  | 1 => b.flash.filter fun r => decide (4096 ≤ r.seq ∧ first ≤ r.seq ∧ b.nextSeq - 1 - r.seq ≤ 65535)
  | _ => b.mirror.filter fun r => decide (first ≤ r.seq)

/-- EVENT_READ (R481). -/
def execEventRead (via : Via) (s : State) : Out :=
  doIf (viaRing via && s.fwUp && s.given via 0x0200 fun _ => true) s <|
    match s.descOf via with
    | some d =>
      let area := descParam d 0x2C 1
      let first := descParam d 0x30 8
      let l := (s.areaRecords area first).take (descParam d 0x38 4)
      let next := (l.getLast?.map (·.seq + 1)).getD first
      if area = 2 ∧ s.bit DEV_STAT.mem_active 0 = false then s.finish via St.refusedState
      else
        { s with host := { s.host with written := (d.addr0.toNat, l.flatMap fun (x : Rec) => x.bytes (area == 2)) } }.finish via St.ok 0
          (l.length + 2 ^ 64 * (next % 2 ^ 64)) true
    | none => s

/-- TIME_ANCHOR (R475): its completion waits for the record's commit (FLASH_COMMIT_DONE). -/
def execTimeAnchor (via : Via) (s : State) : Out :=
  doIf (viaRing via && s.fwUp && s.given via 0x0003 fun _ => true) s <|
    match s.descOf via with
    | some d =>
      let cal := descParam d 0x2C 8
      let t := descParam d 0x34 8
      let soon := match s.burrow.lastAnchor with
        | some a => decide (s.bootUs < a + 1000000)
        | none => false
      if s.tick < t ∨ t + 1000000 < s.tick then s.finish via St.badDescriptor 0x34
      else if soon then s.finish via St.busy
      else
        let us := low 40 ((t : Int) - (if s.shadow_ then signedOf 64 (s.rd TWIN_OFFSET.offset 0) else 0))
        let u := s.begin_ via
        ({ u with burrow := { u.burrow with lastAnchor := some u.bootUs } }).offer
          { u.mkRec Ev.HOST_TIME_ANCHOR Src.hostIf [cal, t] with kind := 3, bootUs := us }
    | none => s

/-- RECORDER_FREEZE (R418, R419): BUSY in POST and FROZEN, REFUSED_STATE while the recorder writes nothing; it completes when the recorder is
frozen. -/
def execRecorderFreeze (via : Via) (s : State) : Out :=
  doIf (viaRing via && s.fwUp && s.given via 0x0201 fun _ => true) s <|
    match via, s.descOf via, if s.sameTrigger then 0 else s.rd REC_STAT.state 0 with
    | .ring r slot, some d, 0 =>
      let s := (s.begin_ via).recTrigger 0 0 (descParam d 0x2C 2)
      { s with recorder := { s.recorder with freezer := some (r.toNat, slot.toNat) } }
    | .ring _ _, some _, 3 => s.finish via St.refusedState
    | .ring _ _, some d, _ => (s.recTrigger 0 0 (descParam d 0x2C 2)).finish via St.busy
    | _, _, _ => s

/-- RECORDER_RELEASE (R420): FROZEN ends at the next segment boundary. -/
def execRecorderRelease (via : Via) (s : State) : Out :=
  doIf (viaRing via && s.fwUp && s.given via 0x0202 fun _ => true) s
    (if s.rd REC_STAT.state 0 = 2 then
      (({ s with recorder := { s.recorder with releaseDue := true } }).record Ev.INT_REC_RELEASED Src.memory [s.rd REC_MISSED.missed 0]).finish via
        St.ok
     else s.finish via St.refusedState)

end Sys2Proof.Machine
end

