-- ==== Sys2Proof/Machine/Lasers.lean ====
section
/-!
DEFINITION. The meanings of the laser sources' commands (R310 to R316).
-/
namespace Sys2Proof.Machine

/-- The laser masters run (D105) and tray firmware has started (R314). -/
def State.laserUp (s : State) : Bool := s.settUp && s.secure.handedAt.isSome

/-- SOURCE_ENABLE_WRITE (R316): 0 is refused while the port that the source feeds is LINKED; a locked register ignores the write. -/
def execSourceEnableWrite (k : Nat) (on : Bool) (s : State) : Out :=
  let s1 := s.wr WPORT_LSSTAT.cmd_status k St.ok
  doIf (s.laserUp && !s.bit WPORT_LSCFG.lock k) s
    (if on then (s1.wr WPORT_LSCFG.enable k 1).laserShow k
     else if s.feedsLinked k then (s.wr WPORT_LSSTAT.refused k 1).wr WPORT_LSSTAT.cmd_status k St.refusedState
     else
       let s2 := (s1.wr WPORT_LSCFG.enable k 0).setLaser k { s.laser k with reduced := none }
       (if s.rd WPORT_LSSTAT.state k = 4 then s2 else s2.wr WPORT_LSSTAT.state k 0).laserShow k)

/-- The fault and overtemp bits of LS_STAT (Table 13-4). -/
def laserBad (stat : Nat) : Bool := stat.testBit 1 || stat.testBit 2

/-- A reduced source has settled (R313): LS_PMEAS at most 1.1 × p_probe for ALS, emitting 0 for FAULT. -/
def State.laserSettled (s : State) (k : Nat) (fault : Bool) (v : LaserRead) : Bool :=
  if fault then !v.stat.getLsbD 0 else decide (v.pmeas.toNat * 10 ≤ 11 * (s.rd WPORT_LSCFG.p_probe k * 100))

/-- A read within the 1 ms of R313 that shows the source settled ends the wait. -/
def State.laserSettle (s : State) (k : Nat) (v : LaserRead) : State :=
  match (s.laser k).reduced with
  | some (_, fault) => if s.laserSettled k fault v then s.setLaser k { s.laser k with reduced := none } else s
  | none => s

/-- LASER_POLL (R310, R312): every 1 ms; a source that answers first has taken its dynamic address; a fault, overtemp or the third silent poll
reduces the source. -/
def execLaserPoll (k : Nat) (r : Option LaserRead) (s : State) : Out :=
  let x := s.laser k
  doIf (s.laserUp && decide (x.polledAt + 1000 ≤ s.bootUs)) s <|
    match r with
    | some v =>
      let st := v.stat.toNat
      let s := (s.setLaser k { x with
        misses := 0
        polledAt := s.bootUs
        stat := st
        address := some (x.address.getD (Config.laserAddress k)) }).laserSettle k v
      let s := ((s.wr WPORT_LSSTAT.present k 1).wr WPORT_LSSTAT.p_meas k (openQuot v.pmeas.toNat 100).toNat).wr WPORT_LSSTAT.temp k
        (low 8 (max (-128) (min 127 (openQuot v.temp.toInt 128))))
      if laserBad st then s.laserFault k st else s.laserShow k
    | none =>
      if !s.bit WPORT_LSSTAT.present k then s
      else
        let s := s.setLaser k { x with misses := min 3 (x.misses + 1), polledAt := s.bootUs }
        if x.misses + 1 = 3 then s.laserFault k x.stat else s

/-- IN_BAND_INTERRUPT (R311, R312): from a source that has taken its dynamic address. -/
def execInBandInterrupt (k : Nat) (stat : BitVec 4) (s : State) : Out :=
  let t := s.setLaser k { s.laser k with stat := stat.toNat }
  doIf (s.laserUp && (s.laser k).address.isSome) s (if laserBad stat.toNat then t.laserFault k stat.toNat else t)

/-- ALS_DECISION (Table 13-5, R313): a source above p_probe whose lane has been dark, or whose monitor low, for 10 µs. -/
def execAlsDecision (k which : Nat) (s : State) : Out :=
  let p := s.laserPower k
  let st := s.rd WPORT_LSSTAT.state k
  doIf (s.laserUp && (st == 1 || st == 2) && decide (s.rd WPORT_LSCFG.p_probe k * 100 < p)) s
    ((((s.setLaser k { s.laser k with lit := false, reduced := some (s.bootUs, false) }).wr WPORT_LSSTAT.state k 3).wr WPORT_LSSTAT.limited k 1).record
      Ev.WARD_LASER_ALS (laserSrc k) [k, which, p])

/-- FULL_POWER_ALLOWED (Table 13-5, R313): the condition holds, and an ALS ends. -/
def execFullPowerAllowed (k : Nat) (s : State) : Out :=
  let st := s.rd WPORT_LSSTAT.state k
  let t := s.setLaser k { s.laser k with lit := true, reduced := if st = 3 then none else (s.laser k).reduced }
  doIf (s.laserUp && (st ≤ 3)) s ((if st = 3 then t.wr WPORT_LSSTAT.state k 1 else t).laserShow k)

/-- LASER_SETTLE_CHECK (R313): 1 ms after the decision a source that has not settled shuts its bus off. -/
def execLaserSettleCheck (k : Nat) (r : Option LaserRead) (s : State) : Out :=
  let x := s.laser k
  doIf s.laserUp s <|
    match x.reduced with
    | none => s
    | some (at_, fault) =>
      if s.bootUs < at_ + 1000 then s
      else if (r.map (s.laserSettled k fault)).getD false then s.setLaser k { x with reduced := none }
      else s.busShut k

/-- RELEASE_BUS (R314): accepted when no source of the bus reads a fault, overtemp or silence; every source restarts at p_probe. -/
def execReleaseBus (b : BitVec 3) (s : State) : Out :=
  let n := b.toNat
  let l := busSources n
  let bad := l.any fun k => laserBad (s.laser k).stat || (s.laser k).misses == 3
  let status (s : State) (v : Nat) : State := each l (fun k s => s.wr WPORT_LSSTAT.cmd_status k v) s
  let free (s : State) : State :=
    let s := { s with lasers := { s.lasers with shut := s.lasers.shut.filter (· != n) } }
    each l (fun k s => ((s.setLaser k { s.laser k with lit := false }).wr WPORT_LSSTAT.state k 0).laserShow k) s
  doIf (s.laserUp && n ≤ 4) s
    (let s := s.wr WPORT_LSCMD.bus 0 n
     if bad then status s St.refusedState else if s.lasers.shut.contains n then free (status s St.ok) else status s St.ok)

end Sys2Proof.Machine
end

