-- ==== Sys2Proof/Machine/Martens.lean ====
section
/-!
DEFINITION. The meanings of Marten's commands (10, 11).
-/
namespace Sys2Proof.Machine

/-- The status of an enable or run write. -/
def State.tileStatus (s : State) (t code : Nat) : State := s.wr MRT_TSTAT.cmd_status t code

/-- TILE_ENABLE (Table 10-9), by tray firmware; refused after a failed training of the HBM (R411). -/
def execTileEnable (t : Nat) (s : State) : Out :=
  doIf (s.hasMarten && s.fwUp) s
    (match s.tstate t with
      | 0 => if s.recorder.trainFailed then s.tileStatus t St.refusedState
             else ((s.wr MRT_TCTL.enable t 1).wr MRT_TSTAT.state t 1).tileStatus t St.ok
      | 3 => s.tileStatus t St.busy
      | _ => s.tileStatus t St.ok)

/-- TILE_DISABLE (Table 10-9): a tile in STANDBY loses its memories; a running tile drains. -/
def execTileDisable (t : Nat) (s : State) : Out :=
  let u := ((s.wr MRT_TCTL.enable t 0).wr MRT_TCTL.run t 0).tileStatus t St.ok
  doIf (s.hasMarten && s.fwUp) s
    (match s.tstate t with
      | 1 => (u.wr MRT_TSTAT.state t 0).setTile t {}
      | 2 => u.enterDrain t true
      | 3 => u.setTile t { u.tile t with toOff := true }
      | _ => u)

/-- TILE_RUN (R250, R261): both tables are read and checked (R226). -/
def execTileRun (t : Nat) (upsets : List TileUpset) (s : State) : Out :=
  let u := s.tileUpsets t upsets
  let x := u.tile t
  let v := each (x.badWords tableWords) (fun w s => s.tileUncorr t w false) (u.addSat MRT_TECC.corr t (x.mended tableWords))
  doIf (s.hasMarten && s.fwUp) s
    (match s.tstate t with
      | 0 => s.tileStatus t St.refusedState
      | 1 =>
        match u.tileCheck t with
        | some (code, entry) =>
          ((((v.tileStatus t St.refusedState).wr MRT_CHK.code t code).wr MRT_CHK.entry t entry).setTile t { x with runDue := false }).record
            Ev.MRT_CHECK_FAIL Src.marten [t, code, entry]
        | none => ((v.wr MRT_TCTL.run t 1).tileStatus t St.ok).setTile t { x with runDue := true }
      | 2 => u.tileStatus t St.ok
      | _ => u.tileStatus t St.busy)

/-- TILE_RUN_CLEAR (Table 10-9, R251). -/
def execTileRunClear (t : Nat) (s : State) : Out :=
  let u := (s.wr MRT_TCTL.run t 0).tileStatus t St.ok
  doIf (s.hasMarten && s.fwUp) s
    (match s.tstate t with
      | 1 => u.setTile t { u.tile t with runDue := false }
      | 2 => u.enterDrain t false
      | _ => u)

/-- A 32-bit word of SRAM (`kind` 0), job table (1) or stream table (2) written, its word of the word code encoded again. -/
def Tile.load32 (x : Tile) (kind a : Nat) (v : Word) : Tile :=
  let k := a % 512
  let good (x : Tile) (w : Nat) : Tile := { x with bad := Tab.upd 0 x.bad w fun c => writeBad c (32 * (k % 8)) 32 }
  match kind with
  | 0 => x.putWord a v
  | 1 => good { x with jobTable := Tab.set 0 x.jobTable k v } (tableBase + k / 8)
  | _ => good { x with streamTable := Tab.set 0 x.streamTable k v } (tableBase + 64 + k / 8)

/-- TILE_SRAM_WRITE (R253, R258), only in STANDBY. -/
def execTileSramWrite (t : Nat) (kind : Nat) (a : BitVec 21) (v : Word) (s : State) : Out :=
  doIf (s.hasMarten && s.fwUp) s
    (if s.tstate t = 1 then s.setTile t ((s.tile t).load32 kind a.toNat v) else s.wr MRT_TSTAT.wr_ignored t 1)

/-- FRAME_START (R245, R246): on even ticks; a tile that is due enters RUN, slower jobs park, 2 µs-class jobs are released. -/
def execFrameStart (t : Nat) (s : State) : Out :=
  let u := if s.tstate t = 1 then s.enterRun t else s
  let x := u.tile t
  let u := u.setTile t { x with frame := u.tick + 1 }
  let fast := u.tstate t == 2 && u.rd MRT_TCTL.fast_cycles t != 0
  let u :=
    if fast then
      let u := u.setTile t { (u.tile t).suspend with fast := true }
      each ((u.tile t).validJobs.filter fun j => (u.tile t).jobClass j == 0) (fun j s => s.releaseJob t j) u
    else u
  doIf (s.hasMarten && s.tick % 2 == 0 && decide ((s.tile t).frame ≤ s.tick) &&
      (2 ≤ s.tstate t || (s.tstate t == 1 && (s.tile t).runDue))) s (u.dispatch t)

/-- FAST_WINDOW_END (R246): 2 µs-class jobs not ended end with TIMEOUT, the one that runs after its first `done` operations; `cycles` were used in
the window. -/
def execFastWindowEnd (t : Nat) (cycles : BitVec 11) (done : BitVec 16) (s : State) : Out :=
  let x := s.tile t
  let late := (List.range 64).filter fun j => x.jobClass j == 0 && ((x.job j).phase == .running || (x.job j).phase == .released)
  let u := each late (fun j s => s.stopJob t j done.toNat) s
  let u := u.setTile t { u.tile t with fast := false }
  doIf (s.hasMarten && x.fast) s
    (((u.wr MRT_TUTIL.last_fast t cycles.toNat).wr MRT_TUTIL.max_fast t (max cycles.toNat (s.rd MRT_TUTIL.max_fast t))).dispatch t)

/-- The job that runs has done its first `n` operations; it ends with INTEGRITY where one of them ends it. -/
def State.advance (s : State) (t n : Nat) : State :=
  match (s.tile t).inPhase .running with
  | j :: _ => let u := s.runTo t j n; if u.2 then u.1.endJob t j St.integrity else u.1
  | [] => s

/-- FRAME_END (R246): the running slower job is suspended after its first `done` operations. -/
def execFrameEnd (t : Nat) (done : BitVec 16) (s : State) : Out :=
  let u := s.advance t done.toNat
  doIf (s.hasMarten && !(s.tile t).fast) s ((u.setTile t (u.tile t).suspend).leaveDrain t)

/-- JOB_RELEASE (R245, R247): a 100 µs or 10 ms class job at its phase; an unfinished previous instance ends with TIMEOUT, after its first
`done` operations where it runs. -/
def execJobRelease (t j : Nat) (done : BitVec 16) (s : State) : Out :=
  let x := s.tile t
  let period := if x.jobClass j = 1 then 100 else 10000
  let fits := (x.jobClass j == 1 || x.jobClass j == 2) && s.tick % period == x.jobPhase j % period && (x.job j).since != s.tick + 1
  let u := if (x.job j).phase = .absent then s else s.stopJob t j done.toNat
  doIf (s.hasMarten && s.tstate t == 2 && x.jobValid j && fits && s.rd MRT_JSTAT.state (jix t j) != 2) s
    ((u.releaseJob t j).dispatch t)

/-- The values of an OK job committed (R248, R268): a cold job's protective slots are discarded, a shadow tile commits none. -/
def State.commitJob (s : State) (t j h : Nat) (outs : List (Nat × Option Word)) : State :=
  let x := s.tile t
  let warm := s.rd MRT_JSTAT.state (jix t j) == 1
  if s.bit MRT_CHK.shadow t then s else
    let l := (outs.filterMap fun e => e.2.map fun v => (x.outBase j + e.1, v)).filter fun e =>
      (x.jobSlots j).contains e.1 && (warm || decide (64 ≤ e.1))
    if l.isEmpty then s else each l (fun e s => s.commitSlot e.1 e.2 h warm) (s.wr MRT_TSTAT.invalidated t 0)

/-- JOB_END (R242 to R249): the rest of the running job's operations have run. It ends with INTEGRITY where one of them met an uncorrectable word, a
parity error or an invalid DF8 block, or where an output is NaN; else with OK. -/
def execJobEnd (t j : Nat) (half : Bool) (upsets : List TileUpset) (s : State) : Out :=
  let u := (s.tileUpsets t upsets).runTo t j ((s.tile t).job j).prog.length
  let outs := ((u.1.tile t).job j).outs
  doIf (s.hasMarten && ((s.tile t).job j).phase == .running) s
    (if u.2 || outs.any (·.2.isNone) then u.1.finishJob t j St.integrity
     else
      let v := (u.1.endJob t j St.ok).judgeWarm t j
      ((v.commitJob t j (2 * s.tick + half.toNat) outs).leaveDrain t).dispatch t)

/-- JOB_BOUND_REACHED (R247): the job is stopped after its first `done` operations. -/
def execJobBoundReached (t j : Nat) (done : BitVec 16) (s : State) : Out :=
  doIf (s.hasMarten && ((s.tile t).job j).phase == .running) s (((s.stopJob t j done.toNat).leaveDrain t).dispatch t)

/-- A word of SRAM as the scrubber leaves it: corrected bits are written back, also where the decoder took the word for another. -/
def Tile.scrubbed (x : Tile) (w : Nat) : Tile :=
  let r := readBad (Tab.get 0 x.bad w)
  match r.1 with
  | .corrected =>
    let x := { x with bad := Tab.set 0 x.bad w 0 }
    each (List.range 8) (fun i x => x.setRaw (8 * w + i) (x.rawWord (8 * w + i) ^^^ r.2.extractLsb' (32 * i) 32)) x
  | _ => x

/-- SRAM_SCRUB (R226, R227): the next word, after the bit upsets since; a corrected word is written back, an uncorrectable one is left. -/
def execSramScrub (t : Nat) (upsets : List TileUpset) (s : State) : Out :=
  let x := (s.tileUpsets t upsets).tile t
  let w := x.scrub
  let u := s.setTile t { x.scrubbed w with scrub := (w + 1) % 262144 }
  doIf (s.hasMarten && s.tstate t != 0) s
    (match (readBad (Tab.get 0 x.bad w)).1 with
      | .good => u
      | .corrected => u.addSat MRT_TECC.corr t 1
      | .uncorrectable => u.tileUncorr t w true)

/-- INGEST_BLOCK_WRITE (R263): the next block of channel `source`, once it is over, or the oldest record of telemetry word `source`, written into
every ring that names it. -/
def execIngestBlockWrite (telem : Bool) (source : Nat) (s : State) : Out :=
  let b := s.block source
  doIf s.ingestOn s
    (if telem then
      match s.marten.telem.find? (·.1 == source) with
      | some r => { s with marten := { s.marten with telem := s.marten.telem.erase r } }.ringPutAll 1 source [r.2.1, BitVec.ofNat 32 r.2.2]
      | none => s
     else if source < 304 ∧ s.named source = true ∧ s.blockOver source = true then
      (s.setBlock source { next := b.next + 1, words := b.words.filter fun e => decide ((b.next + 1) * 32 ≤ e.1) }).ringPutAll 0 source (df8 b.all)
     else s)

/-- STREAM_GAP (R265): at the end of a span of more than 3 µs without data, history restarts and the stream's jobs are cold. -/
def execStreamGap (t i : Nat) (s : State) : Out :=
  let x := s.tile t
  let m := x.stream i
  doIf (s.hasMarten && 2 ≤ s.tstate t && x.streamValid i) s
    (match m.gapAt with
      | some k =>
        each (x.validJobs.filter (x.names · i)) (fun j s => s.chill t j i)
          (s.setTile t { x with streams := Tab.set {} x.streams i { m with gaps := min 65535 (m.gaps + 1), from_ := k, gapAt := none } })
      | none => s)

/-- OFFER_WINDOW_END (R270): on ticks that are multiples of 1,000, for every ward. -/
def execOfferWindowEnd (s : State) : Out :=
  let u := each (List.range 8) (fun w s =>
    s.wr MRT_OFFER.min_mv w (min (s.rd MRT_OFFER.min_mv w) (Tab.get 0 s.marten.offerMax w))) s
  doIf (s.hasMarten && s.tick % 1000 == 0 && decide (s.marten.offerAt < s.tick)) s
    { u with marten := { u.marten with offerMax := [], offerAt := s.tick } }

/-- OFFER_READ (R270). -/
def execOfferRead (w : Nat) (s : State) : Out := doIf s.hasMarten s (s.wr MRT_OFFER.min_mv w 4095)

end Sys2Proof.Machine
end

