-- ==== Sys2Proof/Machine/Ports.lean ====
section
/-!
DEFINITION. The meanings of the ward ports' commands: link states, frames of the ward, and the instants at which an answer is late (13).
-/
namespace Sys2Proof.Machine

/-- PORT_ENABLE (R68, R306, R308): from stage 4, when tray firmware has started. -/
def execPortEnable (p : Nat) (s : State) : Out := doIf (s.portUp && s.fwUp) s (s.portEnable p)

/-- PORT_DISABLE (R309). -/
def execPortDisable (p : Nat) (s : State) : Out :=
  let st := (s.ward p).state
  doIf s.portUp s
    (if st = 0 ∨ st = 12 then (s.portOff p).wr WPORT_STAT.cmd_status p St.ok
     else s.wr WPORT_STAT.cmd_status p St.refusedState)

/-- LIGHT_QUALIFIED (Table 13-2): light held for 100 µs on both lanes, or on one with one_lane_ok; in TRAINING the T840 sends its HELLO, version
1.0. -/
def execLightQualified (p : Nat) (l0 l1 : Bool) (s : State) : Out :=
  let ok := if s.bit WPORT_CTL.one_lane_ok p then l0 || l1 else l0 && l1
  let lanes := (if l0 then [0] else []) ++ (if l1 then [1] else [])
  doIf (s.portUp && s.pstate p == 1 && ok) s
    (let t := (((s.setLanes p lanes).wrBit WPORT_STAT.light0 p l0).wrBit WPORT_STAT.light1 p l1).setPstate p 2
     t.setPort p ((t.port p).send 7 0 (ctrlWords 7 1 0)))

/-- A frame that fails R317 is discarded and counted. -/
def State.badFrame (s : State) (p : Nat) : State := s.addSat WPORT_ERR.crc p 1

/-- The checks of R317 on a frame's envelope: a frame of `base` bytes is 16 longer when sealed, and at most 4,148 (R334). -/
def headOk (h : FrameHead) (base : Nat) : Bool :=
  let n := base + (if h.isSealed then 16 else 0)
  h.good && h.length.toNat == n && decide (n ≤ 4148)

/-- A CTRL frame is 16 bytes long and never sealed (Table 13-6, R330). -/
def ctrlHeadOk (h : FrameHead) : Bool := headOk h 16 && !h.isSealed

/-- HELLO (Table 13-2, R328): the T840's WMP major version is 1; one that comes within 50 ms of entry counts. -/
def execHello (p : Nat) (h : FrameHead) (major _minor : BitVec 8) (s : State) : Out :=
  let x := s.port p
  doIf (s.portUp && s.pstate p == 2 && decide (s.bootUs ≤ x.entered + 50000)) s
    (if !ctrlHeadOk h then s.badFrame p
     else if major = 1 then
       ((s.setPstate p 3).record Ev.WARD_LINK_UP (Src.ward p) [p, x.lanes.length, s.bootUs - x.entered]).watchWards
     else ((s.portFault p).record Ev.WARD_LINK_FAIL (Src.ward p) [p, 0]).watchWards)

/-- TRAINING_TIMEOUT (Table 13-2): no HELLO within 50 ms of entry. -/
def execTrainingTimeout (p : Nat) (s : State) : Out :=
  doIf (s.portUp && s.pstate p == 2 && decide ((s.port p).entered + 50000 ≤ s.bootUs)) s (s.portFault p).watchWards

/-- The number of a lane's failure in event data. -/
def laneCauseNo : LaneCause → Nat
  | .noLight => 0
  | .lockLost => 1
  | .uncorrectable => 2

/-- More than uncorr_max uncorrectable codewords on a lane within the last ms (R307). -/
def State.tooManyUncorr (s : State) (p lane : Nat) : Bool :=
  decide (s.rd WPORT_CTL.uncorr_max p <
    (((s.port p).uncorr.filter fun e => e.2.1 == lane && decide (s.bootUs < e.1 + 1000)).map (·.2.2)).sum)

/-- LANE_FAIL (R307). -/
def execLaneFail (p lane : Nat) (cause : LaneCause) (s : State) : Out :=
  let x := s.port p
  let rest := x.lanes.filter (· != lane)
  let t := if cause = .noLight then s.wr (lightFld lane) p 0 else s
  doIf (s.portUp && s.linked p && x.lanes.contains lane && (cause != .uncorrectable || s.tooManyUncorr p lane)) s
    (if !rest.isEmpty && s.bit WPORT_CTL.one_lane_ok p then
       (t.setLanes p rest).record Ev.WARD_LINK_DEGRADED (Src.ward p) [p, lane, laneCauseNo cause]
     else ((t.portFault p).record Ev.WARD_LINK_DOWN (Src.ward p) [p, laneCauseNo cause]).watchWards)

/-- LANE_REJOIN (R307): the lane has retrained, `us` after its light returned, at most 50 ms. -/
def execLaneRejoin (p lane : Nat) (us : BitVec 16) (s : State) : Out :=
  let x := s.port p
  doIf (s.portUp && s.linked p && !x.lanes.contains lane && decide (us.toNat ≤ 50000)) s
    (((s.setLanes p (if lane = 0 then 0 :: x.lanes else x.lanes ++ [lane])).wr (lightFld lane) p 1).record Ev.WARD_LINK_UP (Src.ward p)
      [p, x.lanes.length + 1, us.toNat])

/-- FAULT_RETRAIN_EXPIRY (R308): 10 ms after FAULT the port is DARK again, or stays once retrains has reached retrain_max. -/
def execFaultRetrainExpiry (p : Nat) (s : State) : Out :=
  let x := s.port p
  doIf (s.portUp && s.pstate p == 4 && decide (x.entered + 10000 ≤ s.bootUs)) s
    (if s.rd WPORT_STAT.retrains p < s.rd WPORT_CTL.retrain_max p then (s.addSat WPORT_STAT.retrains p 1).setPstate p 1
     else if x.failRecorded then s
     else (s.setPort p { x with failRecorded := true }).record Ev.WARD_LINK_FAIL (Src.ward p) [p, 1])

/-- A sealed frame's tag fails (R330): eight within 1 s take the channel down, and with it the ward's bring-up step (Table 14-9). -/
def State.sealFail (s : State) (p : Nat) : State :=
  let l := s.bootUs :: (s.port p).tagFails.filter (fun t => decide (s.bootUs < t + 1000000))
  let s := s.addSat WPORT_ERR.tag p 1
  if l.length < 8 then s.setPort p { s.port p with tagFails := l }
  else
    let s := ((s.secDown p).islandNext).record Ev.WARD_SEC_FAIL (Src.ward p) [p, 8]
    if stepping (s.ward p).state then s.wardFail p 10 else s

/-- A frame of a type that is sealed while the channel is up, of `base` bytes when in the clear: let through, discarded and counted, or
discarded where its sealing does not fit the channel's state (R317, R330, R334). -/
def State.admitFrame (s : State) (p : Nat) (h : FrameHead) (base : Nat) (sealOk : Bool) (f : State → State) : State :=
  if !headOk h base then s.badFrame p
  else if h.isSealed != (s.port p).up then s
  else if (s.port p).up then
    if sealOk then f (s.setPort p { s.port p with sealedIn := (s.port p).sealedIn + 1 }) else s.sealFail p
  else f s

/-- The third sealed answer to a request that fails its tag ends it with INTEGRITY (Table 13-7). -/
def State.countTagFail (s : State) (p : Nat) (tag : BitVec 8) : State :=
  let x := s.port p
  match x.reqs.find? (·.tag == tag.toNat) with
  | none => s
  | some r =>
    if r.tagFails + 1 < 3 then
      s.setPort p { x with reqs := x.reqs.map fun q => if q.tag == r.tag then { q with tagFails := q.tagFails + 1 } else q }
    else s.finishReq p r St.integrity []

/-- RSP (R319, R320): the request of its tag ends; tray firmware's step goes on. A status that Table 0-2 does not define makes a frame that is
discarded (R523). -/
def execRsp (p : Nat) (f : RspFrame) (flashFails : Bool) (s : State) : Out :=
  let base := 16 + 4 * f.data.length
  let s0 := if headOk f.head base && f.head.isSealed && (s.port p).up && !f.sealOk then s.countTagFail p f.tag else s
  doIf (s.portUp && s.linked p) s <| s0.admitFrame p f.head base f.sealOk fun s =>
    if 0x0B < f.status.toNat then s.badFrame p else
    match (s.port p).reqs.find? (fun r => r.tag == f.tag.toNat && r.addr == f.addr.toNat && r.count == f.count.toNat) with
    | none => s
    | some r =>
      let want := if r.read ∧ f.status = 0 then r.count else 0
      if f.status = 0 ∧ f.data.length ≠ want then s.badFrame p
      else (s.finishReq p r f.status.toNat f.data).wardStep p flashFails

/-- REQ_RESEND (R319): sent again with the same tag, TIMEOUT after three sends. -/
def execReqResend (p : Nat) (tag : BitVec 8) (s : State) : Out :=
  let x := s.port p
  doIf (s.portUp && s.linked p) s <|
    match x.reqs.find? (·.tag == tag.toNat) with
    | none => s
    | some r =>
      if s.bootUs < r.sentAt + s.rd WPORT_TMO.req_us p then s
      else if r.sends < 3 then
        s.setPort p { x.send 3 r.tag r.words with
          reqs := x.reqs.map fun q => if q.tag == r.tag then { q with sends := q.sends + 1, sentAt := s.bootUs } else q }
      else s.finishReq p r St.timeout []

/-- A TELEM frame that answers the last SYNC, 64 words with the header of Table 13-6 and the CRC of the words before it (R317, R323). -/
def State.telemGood (s : State) (p : Nat) (words : List Word) : Bool :=
  let h := words.getD 0 0
  let sync := (s.port p).sync
  words.length == 64 && h.extractLsb' 28 4 == 2 && h.extractLsb' 24 4 == 0 && h.extractLsb' 0 16 == 256 &&
  words.getD 63 0 == crcWords (words.take 63) && sync != 0 && words.getD 1 0 == BitVec.ofNat 32 (sync - 1)

/-- TELEM (R322, R323): the frame becomes the ward's kind-4 words, goes to recorder and ingest, and ends LOADED (R343, R344). -/
def execTelem (p : Nat) (words : List (BitVec 32)) (ns : BitVec 16) (s : State) : Out :=
  let x := s.port p
  let t := s.setPort p { x with telem := putWords [] 0 words, telemAt := s.bootUs, sync := 0 }
  let t := (t.wr WPORT_TLAT.last p ns.toNat).wr WPORT_TLAT.largest p (max (s.rd WPORT_TLAT.largest p) ns.toNat)
  let t := if t.ingestOn then t.ingestFrame p words else t
  let t := t.recTelem p words
  let w := t.ward p
  let t := if w.state = 10 ∧ (words.getD 62 0).getLsbD 0 = true ∧ w.leaving = false then t.wardServe p else t
  doIf (s.portUp && s.linked p) s (if s.telemGood p words then t else s.addSat WPORT_ERR.telem_lost p 1)

/-- EVT_FRAME (R324): acknowledged, and recorded unless its tag is among the last 256 acknowledged. -/
def execEvtFrame (p : Nat) (h : FrameHead) (sealOk : Bool) (tag : BitVec 8) (code : BitVec 16) (data : BitVec 64) (s : State) : Out :=
  doIf (s.portUp && s.linked p) s <| s.admitFrame p h 32 sealOk fun s =>
    let x := s.port p
    let t := s.setPort p { x.send 6 0 [BitVec.ofNat 32 tag.toNat, 0] with acked := (tag.toNat :: x.acked).take 256 }
    if x.acked.contains tag.toNat then t else t.record Ev.WARD_EVENT (Src.ward p) [p, code.toNat, data.toNat]

/-- An answer of Table 13-8 ends its exchange OK, and then `f`. -/
def State.ctrlAnswer (s : State) (p : Nat) (h : FrameHead) (code arg : Nat) (f : State → State) : Out :=
  doIf (s.portUp && s.linked p) s <|
    if !ctrlHeadOk h then s.badFrame p
    else match s.findCtrl p code arg with
      | none => s
      | some c => f (s.endCtrl p c St.ok)

/-- DRAINED (R326, R379). -/
def execDrained (p : Nat) (h : FrameHead) (part : BitVec 8) (s : State) : Out :=
  s.ctrlAnswer p h 1 part.toNat fun s => s.seqDrained p part.toNat

/-- RELEASED (R326, R379). -/
def execReleased (p : Nat) (h : FrameHead) (part : BitVec 8) (s : State) : Out :=
  s.ctrlAnswer p h 3 part.toNat fun s => s.seqReleased p part.toNat

/-- FENCE_DONE (R327, R380). -/
def execFenceDone (p : Nat) (h : FrameHead) (arg : BitVec 4) (s : State) : Out :=
  s.ctrlAnswer p h 5 arg.toNat fun s => if arg.toNat < 8 then s.seqFenced arg.toNat p else s

/-- CTRL_RESEND (R325): sent again every req_us until the deadline; a RELEASE past its 3 × req_us ends TIMEOUT (R326). -/
def execCtrlResend (p : Nat) (code arg : BitVec 8) (s : State) : Out :=
  doIf (s.portUp && s.linked p) s <|
    match s.findCtrl p code.toNat arg.toNat with
    | none => s
    | some c =>
      if s.bootUs < c.sentAt + s.rd WPORT_TMO.req_us p then s
      else if s.bootUs < c.since + s.ctrlDeadline p c then
        let x := s.port p
        s.setPort p { x.send 7 0 (ctrlWords c.code c.arg 0) with ctrls := x.ctrls.map fun d => if d == c then { d with sentAt := s.bootUs } else d }
      else if c.code = 3 then (s.endCtrl p c St.timeout).seqLate p none
      else s

/-- DRAIN_DEADLINE (R326, R380). -/
def execDrainDeadline (p : Nat) (part : BitVec 8) (s : State) : Out :=
  doIf (s.portUp && s.linked p) s <|
    match s.findCtrl p 1 part.toNat with
    | none => s
    | some c => if s.bootUs < c.since + s.ctrlDeadline p c then s else (s.endCtrl p c St.timeout).seqEscalate p part.toNat

/-- FENCE_DEADLINE (R327, R382). -/
def execFenceDeadline (p : Nat) (arg : BitVec 4) (s : State) : Out :=
  doIf (s.portUp && s.linked p) s <|
    match s.findCtrl p 5 arg.toNat with
    | none => s
    | some c =>
      if s.bootUs < c.since + s.ctrlDeadline p c then s
      else (s.endCtrl p c St.timeout).seqLate (arg.toNat % 8) (some p)

/-- BULK (R321, R349): a frame in order is accepted; the blocks of a structural test that differ are noted; an uncorrectable expected response
ends the test (Table 17-3), and tray firmware copies the set again. -/
def execBulk (p stream : Nat) (h : FrameHead) (sealOk : Bool) (off : BitVec 64) (len : BitVec 13) (diffs : List (BitVec 11)) (uncorr : Bool)
    (s : State) : Out :=
  let n := len.toNat
  let h := { h with good := h.good && decide (32 ≤ n ∧ n ≤ 4096 ∧ n % 32 = 0) }
  doIf (s.portUp && s.linked p) s <| s.admitFrame p h (20 + n) sealOk fun s =>
    match Tab.get none (s.port p).ins stream with
    | none => s
    | some b =>
      let x := s.port p
      if off.toNat ≠ b.done ∨ b.len + 31 < b.done + n then s.setPort p (x.send 9 0 (backWords p stream b.done))
      else
        let x := x.send 9 0 (backWords p stream (b.done + n))
        let s := s.setPort p { x with
          ins := Tab.set none x.ins stream (if b.len ≤ b.done + n then none else some { b with done := b.done + n, progressAt := s.bootUs }) }
        let w := s.ward p
        if stream = 0 ∧ w.state = 4 ∧ w.op = 1 then
          if uncorr then
            let wt := ((s.trayWard p).map (·.wardType.toNat)).getD 0
            { s with wards := { s.wards with copies := s.wards.copies.filter (· != (true, wt)) } }.wardFail p 7
          else s.setWard p { w with differs := diffs.foldl (fun m c => m ||| 2 ^ c.toNat) w.differs }
        else s

/-- An outbound stream has been received whole: the image of LICENSED is followed by DEEP and BOOT (Table 14-4). -/
def State.streamDone (s : State) (p stream len : Nat) : State :=
  let w := s.ward p
  if stream = 1 ∧ w.state = 9 ∧ w.sub = 1 then (s.setFloor p 2).wardOp p 6 len else s

/-- BACK (R321): the acknowledged offset and the credit, at most 1 MiB. -/
def execBack (p stream : Nat) (h : FrameHead) (sealOk : Bool) (off : BitVec 64) (credit : BitVec 32) (s : State) : Out :=
  doIf (s.portUp && s.linked p) s <| s.admitFrame p h 24 sealOk fun s =>
    let x := s.port p
    match Tab.get none x.outs stream with
    | none => s
    | some b =>
      let n := off.toNat
      if n < b.done ∨ b.len + 31 < n then s
      else if b.len ≤ n then (s.setPort p { x with outs := Tab.set none x.outs stream none }).streamDone p stream b.len
      else
        let c := min credit.toNat 1048576
        s.setPort p (x.pump stream
          (if b.done < n then { b with done := n, sent := max n b.sent, credit := c, timeouts := 0, progressAt := s.bootUs } else { b with credit := c }))

/-- BULK_TIMEOUT (R321): resent from the acknowledged offset; the third consecutive timeout ends the stream, and leaves the ward's step to its
deadline. -/
def execBulkTimeout (p stream : Nat) (s : State) : Out :=
  let x := s.port p
  doIf (s.portUp && s.linked p) s <|
    match Tab.get none x.outs stream with
    | none => s
    | some b =>
      if s.bootUs < b.progressAt + 20 then s
      else if b.timeouts + 1 < 3 then
        s.setPort p ((x.dropBulk stream).pump stream { b with sent := b.done, timeouts := b.timeouts + 1, progressAt := s.bootUs })
      else
        let s := s.setPort p { x.dropBulk stream with outs := Tab.set none x.outs stream none }
        if stepping (s.ward p).state && decide (stream ≤ 1) then s.setWard p { s.ward p with sub := 99 } else s

/-- The channel set-up of a port fails (R329): WARD_SEC_FAIL with the step, and cause 10 for the ward (Table 14-9). -/
def State.secFail (s : State) (p : Nat) : State :=
  let s := ((s.secDown p).islandNext).record Ev.WARD_SEC_FAIL (Src.ward p) [p, 2]
  if (s.ward p).identifying || stepping (s.ward p).state then s.wardFail p 10 else s

/-- A SEC frame is 16 to 4,148 bytes long, a multiple of 4, and not sealed (Table 13-6, R330). -/
def secHeadOk (h : FrameHead) : Bool :=
  let n := h.length.toNat
  h.good && !h.isSealed && decide (16 ≤ n ∧ n ≤ 4148 ∧ n % 4 = 0)

/-- SEC (R329): the ward's ACCEPT, fragment by fragment; then FINISH, which needs the T840's identity keys (R445). -/
def execSec (p : Nat) (f : SecFrame) (s : State) : Out :=
  let x := s.port p
  doIf (s.portUp && s.linked p && x.setup == 2) s <|
    if !secHeadOk f.head then s.badFrame p
    else if f.message ≠ 2 ∨ f.fragment.toNat ≠ x.fragments then s
    else if !f.last then s.setPort p { x with fragments := x.fragments + 1 }
    else
      let w := s.ward p
      if !f.certOk || !f.sigOk || s.bit SEC_LOCK.debug_open 0 || f.die.toNat != w.die then s.secFail p
      else
        let s := { s with wards := { s.wards with island := none } }
        let s := (s.setPort p { x.send 10 0 [secWord 3] finishBytes with up := true, setup := 0, fragments := 0, secAt := s.bootUs, sealedOut := 0, sealedIn := 0, tagFails := [] }).wr
          WPORT_STAT.sec p 1
        s.islandNext.wardSecured p

/-- REKEY_DUE (R330): a new channel before a counter reaches 2^40, or 24 h after set-up. -/
def execRekeyDue (p : Nat) (s : State) : Out :=
  let x := s.port p
  doIf (s.portUp && s.linked p && x.up && x.setup == 0 &&
      decide (2 ^ 39 ≤ x.sealedOut ∨ 2 ^ 39 ≤ x.sealedIn ∨ x.secAt + 86400000000 ≤ s.bootUs)) s (s.secStart p)

end Sys2Proof.Machine
end

