-- ==== Sys2Proof/Machine/Recorders.lean ====
section
/-!
DEFINITION. The meanings of the commands of the flight recorder and of memory integrity (17).
-/
namespace Sys2Proof.Machine

/-- The tick that ends the post-trigger span (R419). -/
def State.postEnd (s : State) : Nat := s.rd REC_TTICK.tick 0 + 1000 * s.recorder.post

/-- The segment being written is over, and it is the one that holds the end of the post-trigger span. -/
def State.lastSegment (s : State) : Bool := s.rd REC_STAT.state 0 == 1 && decide (s.postEnd < s.recorder.segTick + 64)

/-- SEGMENT_COMPLETE (R413, R415, R420): at a boundary the header is written and the next segment begun; in FROZEN the segment is counted
as missed, and a release takes effect. -/
def execSegmentComplete (s : State) : Out :=
  let over_ := decide (s.recorder.segTick + 64 ≤ s.tick)
  doIf (s.coreUp && s.recorder.trained && over_ && !s.lastSegment) s
    (if s.recWrites then s.segEnd.segBegin s.tick
     else if s.rd REC_STAT.state 0 = 2 then
      let s := s.addSat REC_MISSED.missed 0 1
      if s.recorder.releaseDue then
        ({ s with recorder := { s.recorder with releaseDue := false } }.wr REC_STAT.state 0 0).segBegin s.tick
      else { s with recorder := { s.recorder with segTick := s.tick / 64 * 64 } }
     else s)

/-- REC_TRIGGER (R418): a write of 1 to REC_CTL.trigger. -/
def execRecTrigger (s : State) : Out := doIf s.fwUp s (s.recTrigger 1 0 (s.rd REC_CTL.post_ms 0))

/-- POST_SPAN_END (R419): the segment is completed and the recorder is FROZEN; a RECORDER_FREEZE completes with the trigger tick and the
offset of the trigger's segment. -/
def execPostSpanEnd (s : State) : Out :=
  let t := (s.segEnd.wr REC_STAT.state 0 2).record Ev.INT_REC_FROZEN Src.memory [s.rd REC_TTICK.tick 0, s.recorder.post]
  let t := { t with recorder := { t.recorder with segTick := s.tick / 64 * 64, freezer := none } }
  doIf (s.coreUp && decide (s.recorder.segTick + 64 ≤ s.tick) && s.lastSegment) s <|
    match s.recorder.freezer with
    | some (r, slot) =>
      t.complete r slot St.ok 0 (s.rd REC_TTICK.tick 0 % 2 ^ 64 + 2 ^ 64 * s.segOffset (s.rd REC_TTICK.tick 0)) true
    | none => t

/-- HBM_SCRUB (R421, R422, R425): one word of in-package memory is read, after the bit upsets in it since; a corrected word is written back, but
not in the recorder region, and an uncorrectable one is left. -/
def execHbmScrub (offset : BitVec 36) (bad : BitVec 280) (s : State) : Out :=
  let a := offset.toNat
  let u := s.hbmUpset a bad
  let t := u.hbmUncorr a 1
  doIf (s.coreUp && s.bit DEV_STAT.mem_active 0 && (s.region a).isSome) s <|
    match (u.hbmFound a).1 with
    | .good => u
    | .corrected => if s.region a = some .recorder ∨ s.region a = some .eventRing then u.hbmCorr a else (u.hbmMend a).hbmCorr a
    | .uncorrectable => if s.region a = some .working ∧ s.fwUp = true then t.appReset 0x06 else t

/-- A corrected word of shared memory written back as one: eight words of the memory from key `k` on, and their bad bits are gone. -/
def State.sharedMend (s : State) (k : Nat) : State :=
  let t := each (List.range 8) (fun i t => t.setSh (k + i) (s.shRead (k + i))) s
  { t with setts := { t.setts with sharedBad := Tab.del t.setts.sharedBad (k / 8) } }

/-- SHARED_MEMORY_SCRUB (R111, R421, R425): the word of the word code with number `w`, after the bit upsets in it since. -/
def execSharedMemoryScrub (sett : Nat) (w : BitVec 12) (bad : BitVec 280) (s : State) : Out :=
  let k := sett * 32768 + 8 * w.toNat
  let u := { s with setts := { s.setts with sharedBad := Tab.upd 0 s.setts.sharedBad (k / 8) (· ^^^ bad) } }
  doIf (s.settUp && s.settOn sett) s <|
    match u.shFound k with
    | .good => u
    | .corrected => (u.sharedMend k).memCorr 5
    | .uncorrectable => (u.memUncorr 5 true (k * 4)).record Ev.INT_SETT_UNCORR Src.setts [sett, w.toNat * 32]

/-- L2_SCRUB (R421, R422, R425): a word of L2 with its bad bits; an uncorrectable word raises tray firmware's machine check, its record and an application reset. -/
def execL2Scrub (addr : BitVec 32) (bad : BitVec 280) (s : State) : Out :=
  let t := s.memUncorr 4 true addr.toNat
  doIf (s.coreUp && decide (3 ≤ s.part.stage)) s <|
    match (readBad bad).1 with
    | .good => s
    | .corrected => s.memCorr 4
    | .uncorrectable => if s.fwUp then (t.record Ev.INT_APP_UNCORR Src.firmware [4, addr.toNat]).appReset 0x06 else t

/-- FLASH_SCRUB (R423, R425): regions are numbered in the order of Table 18-1. -/
def execFlashScrub (region sector : BitVec 16) (found : FlashRead) (s : State) : Out :=
  let data := [region.toNat, sector.toNat]
  doIf (s.alive && decide (2 ≤ s.part.stage)) s <|
    match found with
    | .corrected n =>
      let t := if n = 0 then s else s.memCorr 7
      if 4 < n.toNat then t.record Ev.INT_FLASH_REFRESH Src.memory data else t
    | .uncorrectable => (s.memUncorr 7 true (sector.toNat * 512)).record Ev.INT_FLASH_UNCORR Src.memory data

/-- CORR_RATE_HOUR (R426): the stacks with more corrected words in the hour than corr_th, and the next hour. -/
def execCorrRateHour (s : State) : Out :=
  let high := s.recorder.corrHour.filter fun e => decide (s.rd MEM_SCRUB.corr_th 0 < e.2)
  let t := each high (fun e s => s.record Ev.INT_HBM_CORR_RATE Src.memory [e.1, e.2]) s
  doIf (s.coreUp && decide (s.recorder.hourAt + 3600000000 ≤ s.bootUs)) s
    { t with recorder := { t.recorder with corrHour := [], hourAt := s.bootUs } }

end Sys2Proof.Machine
end

