-- ==== Sys2Proof/Machine/Reflex.lean ====
section
/-!
DEFINITION. A reflex rule becomes true (R121 to R126).
-/
namespace Sys2Proof.Machine

/-- A list of rule numbers with `r`, ascending. -/
def withRule (r : Nat) (l : List Nat) : List Nat := (l.filter (· < r)) ++ r :: l.filter (r < ·)

/-- The action bits of a rule as ENG_RFX_FIRE gives them: the word of RFX_ACT without its ward mask (DESIGN CHOICE, log entry 79). -/
def State.actionBits (s : State) (r : Nat) : Nat :=
  ([RFX_ACT.lock, RFX_ACT.enable, RFX_ACT.latch, RFX_ACT.kmin, RFX_ACT.freeze, RFX_ACT.shutdn, RFX_ACT.ghs, RFX_ACT.gdb, RFX_ACT.gda,
    RFX_ACT.en_group, RFX_ACT.harp].map fun f => s.rd f r * 2 ^ f.lo).sum

/-- Rule `r` changes from not true to true: its actions are in force at once; their records enter by source (R525). -/
def State.fire (s : State) (r : Nat) : State := s.inOneCycle fun s =>
  let s := { s with setts := { s.setts with
    trueRules := withRule r s.setts.trueRules, activeRules := withRule r s.setts.activeRules } }
  let s := if s.bit RFX_ACT.latch r then s.wr RFX_STAT.latched r 1 else s
  let s := (s.addSat RFX_STAT.fires r 1).record Ev.ENG_RFX_FIRE (Src.rule r) [r, s.rd RFX_ACT.wards r, s.actionBits r]
  let s := if s.bit RFX_ACT.freeze r then s.recTrigger 2 r (s.rd REC_CTL.post_ms 0) else s
  s.harpJudge.judgePulls (if s.bit RFX_ACT.ghs r then some (6, Src.rule r) else none)

/-- RFX_RULE_TRUE (R122, R126). -/
def execRfxRuleTrue (r : Nat) (s : State) : Out :=
  doIf (s.alive && s.ruleMayHold r && !s.setts.trueRules.contains r) s (s.fire r)

end Sys2Proof.Machine
end

