-- ==== Sys2Proof/Machine/Registers.lean ====
section
/-!
DEFINITION. Writes of registers that have no command of their own, and lock bits (R2, R8, R9, R87, R128, R223, R254, R300, R332).
-/
namespace Sys2Proof.Machine

/-- The lock bit that guards the RWL fields of instance `i` of a register, and its instance; the FEED_ window of a fixed channel is guarded by
the channel's lock as well (R90). -/
def Reg.lockOf (r : Reg) (i : Nat) : Option (Fld × Nat) :=
  match r with
  | .SNS_CHSCALE => some (SNS_CHCFG.lock, i)
  | .SNS_WCTL => some (SNS_CHCFG.lock, i / 2)
  | .SNS_WTHHI => some (SNS_CHCFG.lock, i / 2)
  | .SNS_WTHLO => some (SNS_CHCFG.lock, i / 2)
  | .SNS_MTR_CFG => some (SNS_MTR_CFG.lock, i)
  | .RFX_ACT => some (RFX_ACT.lock, i)
  | .RFX_ENMASK => some (RFX_ACT.lock, i)
  | .FEED_CTL => some (FEED_CTL.lock, 0)
  | .FEED_INRUSH => some (FEED_CTL.lock, 0)
  | .FEED_TIMING => some (FEED_CTL.lock, 0)
  | .FEED_REMOVE => some (FEED_CTL.lock, 0)
  | .FEED_WCTL => some (FEED_CTL.lock, 0)
  | .FEED_WTHHI => some (FEED_CTL.lock, 0)
  | .FEED_WTHLO => some (FEED_CTL.lock, 0)
  | .HARP_WCTL => some (HARP_WCTL.lock, i)
  | .HARP_AVSCFG => some (HARP_AVSCFG.lock, i)
  | .HARP_GCTL => some (HARP_GCTL.lock, 0)
  | .MRT_TCTL => some (MRT_TCTL.lock, i)
  | .FAN_OCFG => some (FAN_OCFG.lock, i)
  | .FAN_OLIM => some (FAN_OCFG.lock, i)
  | .FAN_ZCTL => some (FAN_ZCTL.lock, i)
  | .FAN_ZIN => some (FAN_ZCTL.lock, i)
  | .FAN_ZPT => some (FAN_ZCTL.lock, i / 8)
  | .FAN_FCFG => some (FAN_FCFG.lock, i)
  | .FAN_GCTL => some (FAN_GCTL.lock, 0)
  | .WPORT_LSCFG => some (WPORT_LSCFG.lock, i)
  | .REC_CTL => some (REC_CTL.lock, 0)
  | .MEM_SCRUB => some (MEM_SCRUB.lock, 0)
  | .TWIN_CTL => some (TWIN_CTL.lock, 0)
  | _ => none

/-- Registers whose writes are commands of their own; a write of SETT_ENG_CTL without a command, or of SETT_MIGCMD without go, is not. -/
def Reg.ownRow : Reg → Bool
  | .SNS_CHCFG | .SETT_CTL | .SETT_BIND | .RFX_TERM01 | .RFX_TERM23 | .RFX_STAT | .ZIT_EW0 | .ZIT_EW1
  | .ZIT_EW2 | .ZIT_EW3 | .ZIT_CTL | .ZIT_GCMD | .FEED_CMD | .FAN_DUTY | .FAN_VLV | .LEAK_RSTAT | .INT_CAUSE | .DB_SQ | .DB_CQ => true
  | _ => false

/-- Fields of other registers whose writes are commands of their own. -/
def ownField (f : Fld) : Bool :=
  [MRT_TCTL.enable, MRT_TCTL.run, WPORT_CTL.enable, WPORT_LSCFG.enable, RING_CTL.enable, HARP_WCTL.floor].contains f

/-- The registers whose lock bit has no command of its own. -/
def Reg.lockRow : Reg → Bool
  | .SNS_MTR_CFG | .HARP_WCTL | .HARP_AVSCFG | .HARP_GCTL | .MRT_TCTL | .FAN_OCFG | .FAN_ZCTL | .FAN_FCFG | .FAN_GCTL | .WPORT_LSCFG
  | .REC_CTL | .MEM_SCRUB | .TWIN_CTL => true
  | _ => false

/-- What a register needs in order to be written. -/
inductive Tier where
  | sett | core | always
deriving DecidableEq, Repr

/-- The tier a register is in (Tables 3-4 and 3-8). -/
def Reg.tier : Reg → Tier
  | .SNS_CALCTL | .SNS_CHSTAT | .SNS_CHSCALE | .SNS_WCTL | .SNS_WTHHI | .SNS_WTHLO | .SNS_MTR_CFG | .SETT_STAT | .SETT_ENG_CTL
  | .SETT_ENG_STAT | .SETT_MIGCMD | .SETT_MIGSTAT | .HARP_WCTL | .HARP_AVSCFG | .HARP_AVSSTAT | .HARP_GCTL => .sett
  | .MRT_TCTL | .MRT_TSTAT | .MRT_TERRA | .MRT_ISTAT | .WPORT_CTL | .WPORT_TMO | .WPORT_LSCFG | .WPORT_LSSTAT | .WPORT_LSCMD | .INT_MASK
  | .INT_VEC | .RING_CTL | .RING_COAL | .SQ_BASE | .CQ_BASE | .HDM_WCTL | .REC_CTL | .MEM_SCRUB | .MEM_UNCA => .core
  | _ => .always

/-- The tier runs. -/
def State.tierUp (s : State) : Tier → Bool
  | .sett => s.settUp
  | .core => s.coreUp
  | .always => s.alive

/-- A register of a block that the variant, or the single role, leaves absent (R2, R254, R502). -/
def State.absentReg (s : State) (r : Reg) : Bool :=
  match r with
  | .MRT_TCTL | .MRT_TSTAT | .MRT_TCLS | .MRT_TMISS | .MRT_TECC | .MRT_TERRA | .MRT_GSTAT | .MRT_TUTIL | .MRT_CHK | .MRT_OFFER
  | .MRT_ISTAT | .MRT_IDROP | .MRT_JSTAT => s.part.variant != .qa
  | .TWIN_CTL | .TWIN_STAT | .TWIN_OFFSET | .TWIN_SKEW => s.part.variant == .qc || s.rd TWIN_STAT.role 0 == 0
  | _ => false

/-- A write of HARP_AVSCFG that would make v_min exceed v_max: it is ignored whole (R223). A value outside a field's range leaves the field as it is
(R9). -/
def State.avsCrossed (s : State) (w v : Nat) : Bool :=
  let next (f : Fld) : Nat := if f.of v ≤ f.max then f.of v else s.rd f w
  decide (next HARP_AVSCFG.v_max < next HARP_AVSCFG.v_min)

/-- Field `f` takes value `x` from a write of `v` to instance `i` of its register: a lock, a command of its own and a rule of the
register's chapter may stand against it. -/
def State.takes (s : State) (i v : Nat) (f : Fld) : Bool :=
  let x := f.of v
  let locked := match f.reg.lockOf i with
    | some (g, j) => f.acc == .rwl && s.bit g j
    | none => false
  let barred := match f.reg with
    | .SNS_WCTL | .SNS_WTHHI | .SNS_WTHLO => (feedIndex i).isSome
    | .FEED_WCTL | .FEED_WTHHI | .FEED_WTHLO => s.bit SNS_CHCFG.lock (fixedChannel i)
    | .HARP_AVSCFG => s.avsCrossed i v
    | .SETT_ENG_CTL => decide (1 ≤ SETT_ENG_CTL.cmd.of v ∧ SETT_ENG_CTL.cmd.of v ≤ 4) || !s.settOn (i / 32)
    | .SETT_MIGCMD => SETT_MIGCMD.go.of v == 1
    | .MRT_TCTL => f == MRT_TCTL.fast_cycles && (decide (2 ≤ s.tstate i) || (x != 0 && decide (x < 64 ∨ 2000 < x)))
    | .FAN_OLIM => decide (FAN_OLIM.i_stall.of v ≤ FAN_OLIM.i_min.of v)
    | .FAN_OCFG => (f == FAN_OCFG.sup || f == FAN_OCFG.rpm_full) && FAN_OCFG.sup.of v == 1 && FAN_OCFG.rpm_full.of v == 0
    | .REC_CTL => f == REC_CTL.post_ms && s.part.variant == .qc && decide (2500 < x)
    | .RING_CTL => f != RING_CTL.int_en && s.rd RING_STAT.state i != 0
    | .SQ_BASE | .CQ_BASE => s.rd RING_STAT.state i != 0
    | _ => false
  !locked && !barred && !ownField f

/-- The fields of the write that take their values. -/
def State.plainWrite (s : State) (r : Reg) (i v : Nat) : State := each (r.fields.filter (s.takes i v)) (fun f s => s.writeFld f i (f.of v)) s

/-- An output that becomes supervised starts a check; one that is no longer is IDLE (R285, Table 12-3). While VSETT is lost supervision stops and
every state holds (R283). -/
def State.supervise (s was : State) (o : Nat) : State :=
  let s := if s.part.vsettLost then s
    else if s.supervised o && !was.supervised o then s.startCheck o 0
    else if !s.supervised o && was.supervised o then s.wr FAN_OSTAT.state o 0 else s
  s.driveAll

/-- What follows from a write of a reflex rule (R123): enable = 0 releases its actions; a rule that is true latches with its latch bit; a rule
in force acts with its new actions. -/
def State.ruleWritten (s was : State) (r : Nat) : State :=
  if !s.bit RFX_ACT.enable r then
    let s := (s.wr RFX_STAT.latched r 0).releaseRule r
    { s with setts := { s.setts with trueRules := s.setts.trueRules.filter (· != r) } }
  else if s.setts.activeRules.contains r then
    let s := if s.setts.trueRules.contains r && s.bit RFX_ACT.latch r then s.wr RFX_STAT.latched r 1 else s
    s.harpJudge.judgePulls (if s.bit RFX_ACT.ghs r && !was.bit RFX_ACT.ghs r then some (6, Src.rule r) else none)
  else s

/-- What follows from a write in the register's block. -/
def State.written (s was : State) (r : Reg) (i v : Nat) : State :=
  match r with
  | .SETT_ENG_STAT =>
    if SETT_ENG_STAT.handover_req.of v = 1 then s.setEngine i { s.engine i with handover := false } else s
  | .SNS_MTR_CFG => s.setMeter i { s.meter i with v := none, i := none }
  | .RFX_ACT => if was.bit RFX_ACT.lock i then s else s.ruleWritten was i
  | .HARP_WCTL => s.harpJudge
  | .FAN_OCFG => s.supervise was i
  | .FAN_ZIN => s.judgeZone i
  | .FAN_ZPT => s.judgeZone (i / 8)
  | .FAN_FCFG => s.flowSet i
  | .WPORT_LSCFG => s.laserShow i
  | _ => s

/-- A write of `v` to instance `i` of a register with no command of its own. -/
def State.regWrite (s : State) (r : Reg) (i v : Nat) : State :=
  if s.tierUp r.tier && decide (i < r.count) && !s.absentReg r && !r.ownRow then (s.plainWrite r i v).written s r i v else s

/-- REGISTER_WRITE (R2, R8, R9, R87, R128). -/
def execRegisterWrite (reg : Reg) (i : BitVec 15) (v : BitVec 64) (s : State) : Out := .next (s.regWrite reg i.toNat v.toNat)

/-- REGISTER_LOCK (R223, R254, R300, R502): a write with the lock bit set; its other fields are taken first. -/
def execRegisterLock (reg : Reg) (i : BitVec 15) (v : BitVec 64) (s : State) : Out :=
  doIf reg.lockRow s (s.regWrite reg i.toNat (v ||| 0x80000000#64).toNat)

end Sys2Proof.Machine
end

