-- ==== Sys2Proof/Machine/UpdOps.lean ====
section
/-!
DEFINITION. Staging, activation and tokens: the operations that update commands share (18, 19).
-/
namespace Sys2Proof.Machine

/-! ## The store flash directory (R453) -/

/-- The components that a manifest names. -/
def namedBy (m : Option Manifest) (d : BitVec 384) : Bool := match m with
  | some m => m.entries.any (·.digest == d)
  | none => false

/-- A component that the directory protects (R453). -/
def State.protected_ (s : State) (d : BitVec 384) : Bool :=
  ([s.secure.slotA, s.secure.slotB].any fun x => (x.state == 2 || x.state == 3) && (namedBy x.active d || namedBy x.good d)) ||
  namedBy (s.secure.armed.map (·.set)) d

/-! ## Arming a set (R457) -/

/-- The activation tick lies within 100 ms to 3,600 s ahead. -/
def State.tickOk (s : State) (t : Nat) : Bool := decide (s.tick + 100000 ≤ t ∧ t ≤ s.tick + 3600000000)

/-- A set is armed, unless its tick is too near or too far; a twin's lead tells the shadow (R492). -/
def State.arm (s : State) (via : Via) (m : Manifest) (t : Nat) (full : Bool) : State :=
  if !s.tickOk t then s.finish via St.refusedState
  else
    let slot := ((imageEntry m).bind s.slotWith).getD false
    let s := { s with secure := { s.secure with armed := some { set := m, at_ := t, full, slot := slot.toNat } } }
    let s := s.record Ev.UPD_ARMED Src.firmware [m.setSeq.toNat, t, full.toNat]
    (s.tellTwin (.arm s.activeSeq m.setSeq (BitVec.ofNat 64 t) full)).finish via St.ok

/-- The ward components of set `m` that differ from those of set `a`: pattern sets (true) and images by ward type. -/
def changedParts (a m : Manifest) : List (Bool × Nat) :=
  (m.entries.filter fun e => (e.type == 6 || e.type == 7) && !e.carried &&
    ((entryOf a e.type.toNat e.wardType).map (·.digest)) != some e.digest).map fun e => (e.type == 7, e.wardType.toNat)

/-- A copy of a live set's ward component has ended (R457); after the last the set is armed. -/
def State.liveCopied (s : State) (c : Bool × Nat) (ok : Bool) : State :=
  match s.secure.copying with
  | none => s
  | some (via, m, t) =>
    let rest := s.secure.copyDue.filter (· != c)
    if !ok then { s with secure := { s.secure with copying := none, copyDue := [] } }.finish via St.integrity 1
    else if rest.isEmpty then { s with secure := { s.secure with copying := none, copyDue := [] } }.arm via m t false
    else { s with secure := { s.secure with copyDue := rest } }

/-! ## Activation (R458) -/

/-- A ward that stands in the way of a live activation: in POWERING to LOADED, with a type whose firmware changes. -/
def State.wardInWay (s : State) (m : Manifest) : Bool :=
  (List.range 8).any fun w => stepping (s.ward w).state && match s.trayWard w, s.secure.set with
    | some t, some a => (changedParts a m).contains (false, t.wardType.toNat)
    | _, _ => false

/-- The cause that cancels an armed set at its tick: 0 a guard, 1 a ward in bring-up, 2 a trial runs. -/
def State.cancelCause (s : State) (a : Armed) : Option Nat :=
  if s.guarded then some 0
  else if !a.full && s.wardInWay a.set then some 1
  else if a.full && s.trialRuns then some 2
  else none

/-- The armed set is cancelled with a cause. -/
def State.cancelArmed (s : State) (cause : Nat) : State :=
  match s.secure.armed with
  | some a =>
    (({ s with secure := { s.secure with armed := none } }).record Ev.UPD_ACT_CANCELLED Src.firmware [a.set.setSeq.toNat, cause]).tellTwin .cancel
  | none => s

/-- A set activation lets auto_up stand again for every ward (R341). -/
def State.autoAgain (s : State) : State :=
  each (List.range 8) (fun w s => s.setWard w { s.ward w with autoOff := false }) s

/-- A live set becomes the running slot's active set; of two that have joined both activate it at the same tick (R501). -/
def State.activateLive (s : State) (m : Manifest) : State :=
  let changed : List (Bool × Nat) := match s.secure.set with
    | some a => changedParts a m
    | none => []
  let s := match s.running? with
    | some b => s.setSlot b { s.slotOf b with active := some m }
    | none => s
  let s := { s with
    secure := { s.secure with armed := none, set := some m }
    wards := { s.wards with copies := (s.wards.copies.filter fun c => !changed.contains c) ++ changed
                            badTypes := s.wards.badTypes.filter fun t => !(changed.any fun (c : Bool × Nat) => c.2 == t) } }
  let s := if s.bit TWIN_STAT.joined 0 then { s with twin := { s.twin with peer := s.twin.peer.map fun (p : TwinPeer) => { p with setSeq := m.setSeq } } } else s
  ((((s.autoAgain.wr SEC_UPD.live_pending 0 1).wr SEC_UPD.fallback 0 0).wr SEC_UPD.no_set 0 0).record Ev.UPD_ACTIVATED Src.firmware [m.setSeq.toNat, 0]).judgeMatch
    false

/-- The target slot of a full set becomes TRIAL with the set as its own, before the application reset. -/
def State.activateFull (s : State) (a : Armed) : State :=
  let b := a.slot == 1
  let s := s.setSlot b { s.slotOf b with state := 2, trials := 0, expired := false, active := some a.set, good := some a.set }
  ({ s.autoAgain with secure := { s.secure with armed := none } }).record Ev.UPD_ACTIVATED Src.firmware [a.set.setSeq.toNat, 1]

/-! ## Tokens (R443 to R445) -/

/-- The challenge that SEC_CHAL shows, byte 0 in the low bits. -/
def State.challenge (s : State) : Nat := ((List.range 4).map fun k => 2 ^ (32 * k) * s.rd SEC_CHAL.word k).sum

/-- The challenge drawn anew (R443). -/
def State.drawChallenge (s : State) : State :=
  let s := { s with secure := { s.secure with draws := s.secure.draws + 1, trngAt := s.bootUs } }
  each (List.range 4) (fun k s => s.wr SEC_CHAL.word k (Config.challenge s.secure.draws k).toNat) s

/-- A valid token, or why it is not valid: the layout, the signatures and key slot, the device and the challenge (R443, R444). -/
def State.tokenCheck (s : State) (b : Signed) : Token ⊕ Nat :=
  match parseToken b with
  | none => .inr St.badDescriptor
  | some t =>
    if !t.sigOk || !s.imageKeyGood t.keySlot then .inr St.badSignature
    else if t.device ≠ s.secure.die.toNat ∨ t.challenge ≠ s.challenge then .inr St.refusedState
    else .inl t

/-- The debug unlock (R445); `path` 0 a descriptor, 1 the TAP. -/
def State.debugUnlock (s : State) (path : Nat) : Option State :=
  if (List.range 8).all (fun w => (s.ward w).state == 0 || (s.ward w).state == 14) then
    some (((each (List.range 8) (fun p s => s.secDown p) s).record Ev.IMG_DEBUG_UNLOCK Src.security [path]).wr SEC_LOCK.debug_open 0 1)
  else none

/-- The defect shrink (R367). -/
def State.defectShrink (s : State) (t : Token) : Option State :=
  match s.softOf t.ward with
  | none => none
  | some r =>
    let gone := bits (r.cores &&& t.removal) 1536
    if gone.isEmpty then none
    else some ((s.softAppend { r with generation := r.generation + 1, cause := 2, cores := r.cores - (r.cores &&& t.removal) }).record
      Ev.DEF_SOFT_SHRINK Src.security [dieDigest t.ward, gone.length, r.generation + 1])

/-- The owner lock cleared (R469). -/
def State.ownerClear (s : State) : State :=
  if s.secure.ownerLock then ({ s with secure := { s.secure with ownerLock := false } }).record Ev.UPD_OWNER_LOCK Src.security [0] else s

/-- Right `k` of a token applied under its owner's rules; none where it is refused, with REFUSED_STATE. -/
def State.applyRight (s : State) (t : Token) (path k : Nat) : Option State :=
  match k with
  | 0 => s.debugUnlock path
  | 1 => s.feedClear 1
  | 2 => s.defectShrink t
  | _ => some s.ownerClear

/-- The rights in `ask` applied in ascending order: the state and the rights applied. -/
def State.applyRights (s : State) (t : Token) (path : Nat) : List Nat → State × Nat
  | [] => (s, 0)
  | k :: l =>
    match s.applyRight t path k with
    | some u => let r := u.applyRights t path l; (r.1, r.2 + 2 ^ k)
    | none => s.applyRights t path l

/-- A valid token's rights applied, IMG_TOKEN, and a new challenge. -/
def State.useToken (s : State) (t : Token) (path : Nat) (ask : Nat) : State × Nat :=
  let r := s.applyRights t path ((List.range 4).filter ask.testBit)
  ((r.1.record Ev.IMG_TOKEN Src.security [t.keySlot, t.rights, r.2]).drawChallenge, r.2)

end Sys2Proof.Machine
end

