-- ==== Sys2Proof/Machine/Resets.lean ====
section
/-!
DEFINITION. The meanings of the commands of resets, supplies, clocks, start-up and the CXL link (02, 03, 16, 17, 18, 22).
-/
namespace Sys2Proof.Machine

/-- PORST_ASSERT (R55, R513): `short` is a low pulse between the two figures of Table 22-9, of which the spec leaves open whether it resets. -/
def execPorstAssert (short : Bool) (s : State) : Out :=
  let t := s.cleared true
  doIf (!s.part.held && (!short || Config.shortPulseResets s.bootUs)) s { t with part := { t.part with held := true } }

/-- PORST_RELEASE (R29, R35, R68): the straps are sampled; with TESTEN high no statement of the spec holds. -/
def execPorstRelease (tcrit : BitVec 3) (tchan twinRole : BitVec 2) (bootHold : Bool) (fandef : BitVec 2) (xspiMode testen : Bool)
    (s : State) : Out :=
  if s.part.held && testen then .fault .productionTest
  else
    let straps : Straps := { tcrit := tcrit.toNat, tchan := tchan.toNat, twinRole := twinRole.toNat, bootHold, fandef := fandef.toNat, xspiMode }
    let t := { s with part := { s.part with held := false, straps } }
    doIf s.part.held s (if s.part.vaoLow then t else t.boot 0x01)

/-- An accumulator's stored energy joined by what its meter has counted since stage 1 (R94); it saturates (R93). -/
def State.restoreAcc (s : State) (acc sat : Fld) (m stored : Nat) : State :=
  let n := stored + s.rd acc m
  if 2 ^ 64 - 1 ≤ n then (s.wr acc m (2 ^ 64 - 1)).wr sat m 1 else s.wr acc m n

/-- Meters and operating seconds from the last persistence write (R94, R473), joined by what stage 1 has counted; the next is due 60 s from now. -/
def State.restore (s : State) : State :=
  let s := { s with burrow := { s.burrow with opSeconds := (s.burrow.opSeconds + s.burrow.persistOp) % 2 ^ 40, persistAt := s.bootUs } }
  each s.burrow.persistMeters (fun e s =>
    (s.restoreAcc SNS_MTR_EF.ef SNS_MTR_STAT.ef_sat e.1 e.2.1).restoreAcc SNS_MTR_ER.er SNS_MTR_STAT.er_sat e.1 e.2.2) s

/-- The boot scan of the burrow (R477). -/
def State.scanBurrow (s : State) : State :=
  let n := s.burrow.tornNew
  let s := { s with burrow := { s.burrow with torn := n, tornNew := 0 } }.wr BRW_STAT.torn 0 (min 65535 n)
  if n = 0 then s else s.record Ev.INT_BRW_TORN Src.memory [n]

/-- STAGE_2_START (R429, R473, R477). -/
def execStage2Start (cub : CubCheck) (s : State) : Out :=
  let t := { s with part := { s.part with stage := 2 }, secure := { s.secure with stage2At := s.bootUs, cryptoAt := s.bootUs } }
  let t := t.restore.scanBurrow.drawChallenge
  let bad (c : Nat) : State := (t.record Ev.IMG_CUB_BAD Src.security [c]).goInert [c]
  doIf (s.alive && s.part.stage == 1) s
    (match cub with
      | .matched => { t with secure := { t.secure with selecting := some 0 } }
      | .digest => bad 0
      | .unreadable => bad 1)

/-- IMAGE_SELECTION (R430, R434, R435): `mismatch` has a bit for each key-table entry that does not match its digest, `badA` and `badB` say that a
slot's image does not read. A selection at a power-on reset shows its time since stage 2. -/
def execImageSelection (mismatch : BitVec 8) (badA badB : Bool) (s : State) : Out :=
  let wrong := (List.range 8).filter fun k => mismatch.toNat.testBit k && !s.secure.empty.testBit k
  let t := { s with secure := { s.secure with mismatch := mismatch.toNat, selecting := none, cryptoAt := s.bootUs } }
  let t := each wrong (fun k s => s.record Ev.IMG_KEY_MISMATCH Src.security [k / 4, k % 4]) t
  let t := if s.secure.selecting = some 0 then t.wr SEC_BOOT.cub_ms 0 (min 65535 ((s.bootUs - s.secure.stage2At) / 1000)) else t
  let t := t.wrBit SEC_BOOT.hold 0 s.part.straps.bootHold
  doIf s.alive s <|
    match s.secure.selecting with
    | some m => t.select m badA badB
    | none => s

/-- CORE_0_RELEASE (R439, R462, R385). -/
def execCore0Release (s : State) : Out := doIf (s.coreUp && s.secure.handing) s s.firmStart

/-- FIRMWARE_READY (R394, R402). -/
def execFirmwareReady (s : State) : Out :=
  let mode := s.rd DEV_STAT.mode 0
  doIf (s.fwUp && (mode == 0 || mode == 2)) s ((s.wr DEV_STAT.mode 0 1).raiseInt INT_CAUSE.ready INT_MASK.ready)

/-- The HBM stacks present (R412). -/
def State.stacks (s : State) : Nat := if s.part.variant = .qc then 2 else 4

/-- HBM_TRAINING_END (R410, R411, R416): the stacks that failed their third training. -/
def execHbmTrainingEnd (failed : BitVec 4) (s : State) : Out :=
  let bad := (List.range s.stacks).filter failed.toNat.testBit
  let t := each bad (fun k s => s.record Ev.INT_HBM_TRAIN_FAIL Src.memory [k, 3]) s
  doIf (s.coreUp && decide (3 ≤ s.part.stage) && !s.part.straps.bootHold && !s.recorder.trained && !s.recorder.trainFailed) s
    (if bad.isEmpty then ({ s with recorder := { s.recorder with trained := true } }.wr DEV_STAT.mem_active 0 1).recStart
     else { t with recorder := { t.recorder with trainFailed := true } })

/-- XTAL_LOSS (R52): the power-down of the ward groups, told to the other T840 of a twin (R492). -/
def execXtalLoss (s : State) : Out :=
  let down (g : Nat) (s : State) : State :=
    if s.gstate g = 1 ∨ s.gstate g = 2 then (s.goDown g 7).tellTwin (.abort (Fin.ofNat 16 g) 7 0) else s
  doIf (s.alive && !s.bit RST_CAUSE.xtal_fallback 0) s
    ((each (List.range 8) down (s.wr RST_CAUSE.xtal_fallback 0 1)).record Ev.IMG_XTAL_LOST Src.security [])

/-- XTAL32K_LOSS (R53). -/
def execXtal32kLoss (s : State) : Out :=
  doIf (s.alive && !s.part.xtal32kLost) s
    ({ s with part := { s.part with xtal32kLost := true } }.record Ev.IMG_XTAL32K_LOST Src.security [])

/-- WATCHDOG_LAPSE (R59, R279): the period has passed since the last refresh; every zone enters FALLBACK, and an application reset. -/
def execWatchdogLapse (s : State) : Out :=
  doIf (s.alive && !s.part.halted && decide (s.part.refreshAt + s.part.watchdogUs ≤ s.bootUs)) s ((s.zonesFallback 2).appReset 0x05)

/-- APPLICATION_RESET on tray firmware's request (R56 to R58). -/
def execApplicationReset (s : State) : Out := doIf s.fwUp s (s.appReset 0x06)

/-- PENDING_POWER_ON_RESET (R58): once every group is OFF or DWELL; a twin's lead has sent its HANDOVER before (R497), where its link is up. -/
def execPendingPowerOnReset (s : State) : Out :=
  doIf (s.alive && s.allGroupsDown && (!(s.leads && s.coreUp && s.bit TWIN_STAT.link 0) || s.twin.handover)) s <|
    match s.part.pendingPor with
    | some c => s.powerOnReset c
    | none => s

/-- VCORE_LOSS (R61). -/
def execVcoreLoss (s : State) : Out :=
  doIf (!s.part.vcoreLost) s (if s.alive then s.vcoreOff else { s with part := { s.part with vcoreLost := true } })

/-- VCORE_RETURN (R61, R391, R416): memory is active again and the recorder starts anew; an application reset with cause 0x07. -/
def execVcoreReturn (s : State) : Out :=
  let t := { s with part := { s.part with vcoreLost := false } }.appReset 0x07
  doIf s.part.vcoreLost s
    (if !s.alive then { s with part := { s.part with vcoreLost := false } }
     else if t.recorder.trained then (t.wr DEV_STAT.mem_active 0 1).recStart else t)

/-- VSETT_LOSS (R62); while a reset is held nothing is left to lose. -/
def execVsettLoss (s : State) : Out :=
  doIf (!s.part.vsettLost) s (if s.alive then s.vsettOff else { s with part := { s.part with vsettLost := true } })

/-- VSETT_RETURN (R62). -/
def execVsettReturn (s : State) : Out :=
  let t := { s with part := { s.part with vsettLost := false } }
  doIf s.part.vsettLost s (if s.alive then t.powerOnReset 0x03 else t)

/-- VAO_BROWNOUT (R63). -/
def execVaoBrownout (s : State) : Out :=
  let t := s.cleared false
  doIf (!s.part.vaoLow) s { t with part := { t.part with vaoLow := true } }

/-- VAO_RETURN (R63). -/
def execVaoReturn (s : State) : Out :=
  let t := { s with part := { s.part with vaoLow := false } }
  doIf s.part.vaoLow s (if s.part.held then t else t.boot 0x02)

/-- CXL_PERST_ASSERT (R60, R390). -/
def execCxlPerstAssert (s : State) : Out :=
  let t := { s with part := { s.part with perstLow := true }, host := { s.host with decoder := false, decoderErr := false } }
  doIf (!s.part.perstLow) s (if s.alive then t.cxlReset 0x0B else t)

/-- CXL_PERST_RELEASE (R68). -/
def execCxlPerstRelease (s : State) : Out := doIf s.part.perstLow s { s with part := { s.part with perstLow := false } }

/-- CXL_LINK_DOWN (R388, R60). -/
def execCxlLinkDown (cause : BitVec 8) (s : State) : Out :=
  doIf (s.alive && s.host.linkUp) s
    ((s.record Ev.HOST_LINK_DOWN Src.hostIf [s.host.rate, s.host.width, cause.toNat]).cxlReset 0x0C)

/-- LINK_L0 (R388): the rate in GT/s and the width trained to. -/
def execLinkL0 (rate width : BitVec 8) (s : State) : Out :=
  let t := ({ s with host := { s.host with linkUp := true, rate := rate.toNat, width := width.toNat } }).record Ev.HOST_LINK_UP Src.hostIf
    [rate.toNat, width.toNat]
  doIf (s.hostUp && !s.host.linkUp) s
    (if width.toNat < 16 ∨ rate.toNat < 64 then t.raiseInt INT_CAUSE.link_narrow INT_MASK.link_narrow else t)

/-- PMBUS_ALERT (R516): the master of the bus answers through the alert response address; in the shadow role it is high impedance (Table
21-3). -/
def execPmbusAlert (bus : Nat) (s : State) : Out :=
  doIf (s.fwUp && !s.shadow_) s { s with part := { s.part with alerts := Tab.upd 0 s.part.alerts bus (· + 1) } }

end Sys2Proof.Machine
end

