-- ==== Sys2Proof/Machine/Samples.lean ====
section
/-!
DEFINITION. SAMPLE_WORD: a result of a front-end reaches every consumer (04).
-/
namespace Sys2Proof.Machine

/-- The sample word of a reading and whether it is out of range (Table 4-2); a word that its front-end cannot give reads as the end of the
range that it lies beyond. -/
def wordOf (c : Nat) (r : SampleRead) : Nat × Bool :=
  let lo : Int := if c < 64 then -32768 else if c < 256 then 0 else if c < 288 then -5120 else 12288
  let top : Int := if 256 ≤ c ∧ c < 288 then 19200 else 32767
  match r with
  | .above => (32767, true)
  | .below => (low 16 lo, true)
  | .absent => (32767, false)
  | .code w =>
    let v : Int := if 64 ≤ c ∧ c < 256 then w.toNat else w.toInt
    if top < v then (32767, true) else if v < lo ∨ (288 ≤ c ∧ v = lo) then (low 16 lo, true) else (w.toNat, false)

/-- The sample word of channel `c` that the consumers get (Table 4-6, R524). -/
def State.deliveredWord (s : State) (c word : Nat) : Nat :=
  if s.bit SNS_CHSTAT.absent c then 0x7FFF
  else if s.bit SNS_CHSTAT.fault c then
    if c < 64 then 0x8000 else if c < 256 then 0 else if c < 288 then 0x7FFF else (s.chan c).lastGood
  else word

/-- Both windows of channel `c` on a sample (R84, R524, Table 4-6). -/
def State.judgeWindows (s : State) (c word : Nat) : State :=
  if s.bit SNS_CHSTAT.absent c then (s.clearLevels (2 * c)).clearLevels (2 * c + 1)
  else if s.bit SNS_CHSTAT.fault c && !(decide (256 ≤ c) && decide (c < 288)) then (s.freezeWindow (2 * c)).freezeWindow (2 * c + 1)
  else (s.judgeWindow (2 * c) (wordVal c word)).judgeWindow (2 * c + 1) (wordVal c word)

/-- A TD channel is found absent or present; an absent channel is not a faulted one (R524). -/
def State.markAbsent (s : State) (c : Nat) (gone : Bool) : State :=
  let s := s.wrBit SNS_CHSTAT.absent c gone
  if gone then (s.wr SNS_CHSTAT.fault c 0).wr SNS_CHSTAT.fault_kind c 0 else s

/-- A reading of channel `c` at aperture `ap` becomes its sample word, which its windows judge (R72, R83, R84, R524). -/
def State.arrive (s : State) (c ap : Nat) (r : SampleRead) : State :=
  let td := decide (256 ≤ c ∧ c < 288)
  let s := if td then s.markAbsent c (r == .absent && !s.criticalChan c) else s
  let w := s.deliveredWord c (wordOf c r).1
  let s := if ((wordOf c r).2 && !s.bit SNS_CHSTAT.absent c) || (td && s.bit SNS_CHSTAT.fault c) then s.wr SNS_CHSTAT.overrange c 1 else s
  let s := s.setChan c { s.chan c with ap, recent := (w :: (s.chan c).recent).take 3 }
  ((s.wr SNS_CHSAMP.sample c w).wr SNS_CHSAMP.aperture c ap).judgeWindows c w

/-- A delivered word of channel `c` at aperture `ap` goes to the other consumers. -/
def State.fanOut (s : State) (c ap : Nat) (was : Bool × Bool × Bool) : State :=
  let word := s.rd SNS_CHSAMP.sample c
  let s := each (List.range 64) (fun m s => s.meterSample c ap word m) s
  let s := if fixedChannels.contains c then s.feedSample c ap was else s
  let s := if 64 ≤ c ∧ c < 256 then s.noteCurrent c word else s
  let s := if 288 ≤ c then s.noteLeak (c - 288) word else s
  let s := if s.bit SNS_CHSTAT.fault c then s else s.ingest c ap (resultPos c ap) word
  (s.recSample c (ap % 20) word).feedSubs 1 c ap (s.scaled c word)

/-- A reading that the fabric takes at sub-index `sub` of this tray tick: of an enabled channel that has a result then (R73, R91). -/
def State.hasResult (s : State) (sub : Nat) (e : Fin 304 × SampleRead) : Bool :=
  let c := e.1.val
  s.bit SNS_CHCFG.enable c && (c < 64 || (sub == 0 && (c < 256 || s.tick % 1000 == 0))) && (e.2 != .absent || (256 ≤ c && c < 288))

/-- SAMPLE_WORD (R72 to R74, R83 to R88, R524): the results of the channels at sub-index `sub` of this tray tick, all of one aperture. Every
level and edge changes first; then every consumer acts on what it sees of them all (R88). -/
def execSampleWord (sub : Nat) (words : List (Fin 304 × SampleRead)) (s : State) : Out :=
  let ap := s.tick * 20 + sub
  let mine := words.filter (s.hasResult sub)
  let was := (s.flev 0 0, s.flev 0 1, s.flev 1 2)
  doIf s.settUp s <| s.inOneCycle fun s =>
    let t := each mine (fun e s => s.arrive e.1 ap e.2) s
    let t := (each mine (fun e s => s.collectEdges e.1) t).judgeEntries
    each mine (fun e s => s.fanOut e.1 ap was) t

end Sys2Proof.Machine
end

