-- ==== Sys2Proof/Machine/Secures.lean ====
section
/-!
DEFINITION. The meanings of the commands of updates, tokens, evidence and the owner lock (18, 19).
-/
namespace Sys2Proof.Machine

/-! ## Staging (R451, R452) -/

/-- A component's contents are of a type of Table 19-3. -/
def contentType : Content → Nat
  | .image _ _ => 1
  | .programs _ _ => 2
  | .models _ _ => 3
  | .zither => 4
  | .tray _ _ _ _ => 5
  | .ward _ _ _ => 6
  | .patterns _ => 7

/-- The refusals at the start of a stage, in the order of Table 19-4. -/
def State.stageRefusal (s : State) (type target : Nat) (room : Bool) : Option Nat :=
  let b := target == 1
  if s.guarded then some St.refusedGuard
  else if type = 1 ∧ (s.running? = some b ∨ ((s.slotOf b).state = 3 ∧ s.trialRuns = true) ∨
      (match s.secure.armed with
        | some a => a.full && a.slot == target
        | none => false) = true) then some St.refusedState
  else if type ≠ 1 ∧ (s.secure.noStore = true ∨ room = false) then some St.noResource
  else none

/-- STAGE_COMPONENT (R451): programming begins; an image's slot is erased. `room` and `evict` say whether the store flash finds room, and
which unprotected components it frees for it. -/
def execStageComponent (via : Via) (part : Component) (room : Bool) (evict : List (BitVec 384)) (s : State) : Out :=
  doIf (viaRing via && s.fwUp && s.given via 0x0500 fun d => descParam d 0x2C 1 == contentType part.content && d.len0 == part.length) s <|
    match s.descOf via with
    | some d =>
      let type := descParam d 0x2C 1
      let target := descParam d 0x2D 1
      match s.stageRefusal type target room with
      | some c => s.finish via c
      | none =>
        let s := s.begin_ via
        let s := if type = 1 then s.setSlot (target == 1) {} else s
        { s with secure := { s.secure with
            store := s.secure.store.filter fun c => type == 1 || s.protected_ c.digest || !evict.contains c.digest
            staging := some { via, part, type, target, since := s.bootUs } } }
    | none => s

/-- The verdict of a staged image apart from those of slot states (R452). -/
def State.stagedVerdict (s : State) (c : Component) : Nat :=
  match c.content with
  | .image l k => match parseHeader l with
    | some h => s.imageVerdict false (c, h, k)
    | none => if k.readable then 3 else 2
  | _ => 3

/-- A stage that ends OK. -/
def State.stageOk (s : State) (g : Staging) : State :=
  let n := g.part.length.toNat
  (s.record Ev.UPD_STAGED Src.firmware [g.type, g.target, n]).finish g.via St.ok 0 n true

/-- A word of the staging window that a stage reads is uncorrectable (Table 17-3). -/
def State.windowBad (s : State) (via : Via) : Bool :=
  match s.descOf via with
  | some d => descHdm d && s.recorder.hbmBad.any fun e =>
      decide (d.addr0.toNat ≤ 32 * e.1 + 31 ∧ 32 * e.1 < d.addr0.toNat + d.len0.toNat) && (readBad e.2).1 == .uncorrectable
  | none => false

/-- STAGE_DONE (R451, R452): the slot is judged and set PENDING; `sourceOk` is false where the source fails its check against the digest. -/
def execStageDone (sourceOk : Bool) (s : State) : Out :=
  doIf s.fwUp s <| s.useCrypto fun s =>
    match s.secure.staging with
    | none => s
    | some g =>
      let bad := !sourceOk || s.windowBad g.via
      let s := { s with secure := { s.secure with staging := none } }
      if bad then s.finish g.via St.integrity 1
      else if g.type = 1 then
        let v := s.stagedVerdict g.part
        if v = 4 ∨ v = 5 ∨ v = 6 then s.finish g.via St.badSignature
        else if v ≠ 0 then s.finish g.via St.incompatible v
        else
          let image := match g.part.content with
            | .image l k => (parseHeader l).map fun h => (g.part, h, k)
            | _ => none
          (s.setSlot (g.target == 1) { state := 1, image }).stageOk g
      else
        ({ s with secure := { s.secure with store := (s.secure.store.filter fun (c : Component) => c.digest != g.part.digest) ++ [g.part] } }).stageOk g

/-! ## Activation and commit (R457 to R460) -/

/-- The code of Table 19-5 that refuses a set at ACTIVATE_SET, 0 none. -/
def State.activateCheck (s : State) (m : Manifest) (models shadowOk : Bool) : Nat :=
  match s.checkSet m with
  | 0 =>
    if !s.versionsOk m then 7
    else if !s.isLive m && !s.fullOk m then 8
    else if s.isLive m && !s.runningOk m models then 9
    else if s.leads && !shadowOk then 10
    else 0
  | c => c

/-- ACTIVATE_SET (R454, R457): `bytes` is the manifest at addr0; `models` says that every running model image is in the set, `shadowOk` that a
twin's shadow has the set staged. -/
def execActivateSet (via : Via) (bytes : Signed) (models shadowOk : Bool) (s : State) : Out :=
  doIf (viaRing via && s.fwUp && s.given via 0x0501 fun _ => true) s <| s.useCrypto fun s =>
    match s.descOf via with
    | none => s
    | some d =>
      let t := descParam d 0x2C 8
      if s.shadow_ then s.finish via St.refusedState
      else if t = 0 then
        match s.secure.armed with
        | some _ => ({ s with secure := { s.secure with armed := none } }.tellTwin .cancel).finish via St.ok
        | none => s.finish via St.refusedState
      else if s.secure.armed.isSome then s.finish via St.busy
      else match parseManifest bytes with
      | none => s.finish via St.badDescriptor 8
      | some m => if !s.manifestSigned m then s.finish via St.badSignature
      else match s.activateCheck m models shadowOk with
        | 0 =>
          if s.guarded then s.finish via St.refusedGuard
          else
            let changed : List (Bool × Nat) := match s.secure.set with
              | some a => changedParts a m
              | none => []
            if s.isLive m && !changed.isEmpty then
              { s.begin_ via with secure := { s.secure with copying := some (via, m, t), copyDue := changed } }
            else s.arm via m t (!s.isLive m)
        | c => (s.wr SEC_UPD.last_check 0 c).finish via St.incompatible c

/-- ACTIVATION_TICK (R458): a lead's full set waits for its shadow (R501). -/
def execActivationTick (s : State) : Out :=
  doIf s.fwUp s <|
    match s.secure.armed with
    | none => s
    | some a =>
      if s.tick < a.at_ ∨ a.shadowAt.isSome = true then s
      else match s.cancelCause a with
        | some c => s.cancelArmed c
        | none =>
          if !a.full then s.activateLive a.set
          else if s.leads then { s with secure := { s.secure with armed := some { a with shadowAt := some s.bootUs } } }
          else (s.activateFull a).appReset 0x09

/-- COMMIT_CONFIRM (R437, R455, R459, R460). -/
def execCommitConfirm (via : Via) (s : State) : Out :=
  let seq : Nat := (s.secure.set.map (·.setSeq.toNat)).getD 0
  doIf (viaRing via && s.fwUp && s.given via 0x0502 fun _ => true) s <|
    if s.guarded then s.finish via St.refusedGuard
    else match s.running? with
      | none => s.finish via St.refusedState
      | some b =>
        let x := s.slotOf b
        if x.state = 2 then
          (if x.expired || s.handedWithin 10 then s.finish via St.refusedState
           else (((s.setSlot b { x with state := 3 }).record Ev.UPD_COMMITTED Src.firmware
             [b.toNat, (x.active.map (·.setSeq.toNat)).getD 0]).advanceFloor b).finish via St.ok)
        else if s.bit SEC_UPD.live_pending 0 then
          (((s.setSlot b { x with good := x.active }).wr SEC_UPD.live_pending 0 0).record Ev.UPD_COMMITTED Src.firmware [2, seq]).finish via St.ok
        else s.finish via St.refusedState

/-- TRIAL_EXPIRY (R436, R58): 120 s since the last hand-over without a confirmation. -/
def execTrialExpiry (s : State) : Out :=
  doIf (s.alive && s.trialRuns && s.part.pendingPor.isNone && s.secure.handedAt.isSome && !s.handedWithin 120) s <|
    match s.running? with
    | none => s
    | some b =>
      let secs := (s.bootUs - s.secure.handedAt.getD 0) / 1000000
      if (s.slotOf b).expired then s
      else
        let s := (s.setSlot b { s.slotOf b with expired := true }).record Ev.IMG_TRIAL_EXPIRED Src.security [b.toNat, secs]
        { s with secure := { s.secure with selecting := some 2 } }

/-! ## Revocation (R466 to R468) -/

/-- A slot holds a COMMITTED image with verdict 0 under a pair other than `pair` and not revoked. -/
def State.otherCommitted (s : State) (pair : Nat) : Bool :=
  [s.secure.slotA, s.secure.slotB].any fun x => x.state == 3 && s.verdict false x == 0 && match x.header with
    | some h => h.keySlot.val != pair
    | none => false

/-- Why a revocation is refused: status and detail. -/
def State.revokeRefusal (s : State) (kind pair : Nat) (b : Signed) : Option (Nat × Nat) :=
  if s.guarded then some (St.refusedGuard, 0)
  else match parseRevocation b with
  | none => some (St.badDescriptor, 8)
  | some rv =>
  if rv.kind ≠ kind ∨ rv.pair ≠ pair ∨ (kind = 0 ∧ rv.keySlot = pair) then some (St.badDescriptor, 8)
  else if !rv.sigOk || !s.imageKeyGood rv.keySlot then some (St.badSignature, 0)
  else if kind = 0 ∧ ((s.secure.slotA.state = 1 ∨ s.secure.slotA.state = 2) ∨ (s.secure.slotB.state = 1 ∨ s.secure.slotB.state = 2)) then
    some (St.refusedState, 0)
  else if kind = 0 ∧ s.otherCommitted pair = false then some (St.refusedGuard, 0)
  else none

/-- REVOKE_KEY (R466 to R468): `rv` is the revocation at addr0. -/
def execRevokeKey (via : Via) (rv : Signed) (s : State) : Out :=
  doIf (viaRing via && s.fwUp && s.given via 0x0503 fun _ => true) s <| s.useCrypto fun s =>
    match s.descOf via with
    | none => s
    | some d =>
      let kind := descParam d 0x2C 1
      let pair := descParam d 0x2D 1
      match s.revokeRefusal kind pair rv with
      | some (c, detail) => s.finish via c detail
      | none =>
        (({ s with secure := { s.secure with revoked := s.secure.revoked ||| 2 ^ (4 * kind + pair) } }).record Ev.UPD_KEY_REVOKED Src.security
          [kind, pair]).finish via St.ok

/-! ## Tokens, the owner lock and evidence -/

/-- TOKEN_SUBMIT (R444): the result holds the rights applied; a right refused gives REFUSED_STATE. -/
def execTokenSubmit (via : Via) (b : Signed) (s : State) : Out :=
  doIf (viaRing via && s.fwUp && s.given via 0x0504 fun _ => true) s <| s.useCrypto fun s =>
    match s.tokenCheck b with
    | .inr c => s.finish via c (if c = St.badDescriptor then 8 else 0)
    | .inl t =>
      let r := s.useToken t 0 t.rights
      r.1.finish via (if r.2 = t.rights then St.ok else St.refusedState) 0 r.2 true

/-- TAP_TOKEN (R444): only the debug-unlock right is accepted. -/
def execTapToken (b : Signed) (s : State) : Out :=
  doIf (s.alive && decide (2 ≤ s.part.stage)) s <| s.useCrypto fun s =>
    match s.tokenCheck b with
    | .inl t => (s.useToken t 1 (t.rights % 2)).1
    | .inr _ => s

/-- The signed part of an evidence report (Table 18-7). -/
def State.evidence (s : State) (nonce : Nat) : List Byte :=
  let hdr (x : Slot) : List Byte := if x.state = 0 then leBytes 48 0 else digestBytes ((x.header.map (·.digest)).getD 0)
  let a := s.secure.slotA
  let b := s.secure.slotB
  let p := s.part
  let h := (s.running?).bind fun r => (s.slotOf r).header
  leBytes 4 0x45564944 ++ leBytes 2 1 ++ leBytes 2 3629 ++ leBytes 16 nonce ++ leBytes 16 s.secure.die.toNat ++
  leBytes 4 s.secure.stepId.toNat ++ leBytes 4 (capWord p.variant) ++ leBytes 4 (capWord1 p.variant) ++ leBytes 1 ((s.running?).getD false).toNat ++ leBytes 1 s.secure.svnFloor ++
  leBytes 1 s.emptyKeys ++ leBytes 1 s.secure.revoked ++ leBytes 1 a.state ++ leBytes 1 a.trials ++ leBytes 1 b.state ++ leBytes 1 b.trials ++
  leBytes 4 (p.straps.bootHold.toNat + 2 * s.rd DEV_STAT.role 0 + 8 * s.rd RST_CAUSE.xtal_fallback 0) ++
  hdr a ++ hdr b ++ digestBytes ((h.map (·.manifest)).getD 0) ++ leBytes 4 ((h.map (·.build.toNat)).getD 0) ++ leBytes 4 s.burrow.powerCycles ++
  leBytes 8 s.burrow.opSeconds ++ leBytes 8 s.tick ++ leBytes 16 s.challenge ++ leBytes 8 0

/-- The device certificate (Table 18-6): `rest` is what Tvedek put into it, maker_key, both public keys and both signatures. -/
def State.certificate (s : State) (rest : List Byte) : List Byte :=
  leBytes 4 0x43455254 ++ leBytes 2 1 ++ rest.take 2 ++ leBytes 16 s.secure.die.toNat ++ (rest.drop 2).take 1984 ++ leBytes 40 0 ++
  (rest.drop 1986).take 3373

/-- EVIDENCE_REPORT (R442): `signed` are the bytes that the island's keys and the Cub region give: both signatures, or for a zero nonce what the
device certificate holds besides its constants and the die_id. -/
def execEvidenceReport (via : Via) (signed : List (BitVec 8)) (s : State) : Out :=
  doIf (viaRing via && s.fwUp && s.given via 0x0505 fun _ => true) s <| s.useCrypto fun s =>
    match s.descOf via with
    | none => s
    | some d =>
      let nonce := descParam d 0x2C 16
      let report := if nonce = 0 then s.certificate signed else s.evidence nonce ++ signed.take 3373
      if s.bit SEC_LOCK.debug_open 0 then s.finish via St.refusedState
      else
        { s with host := { s.host with written := (d.addr0.toNat, report) } }.finish via St.ok 0 (if nonce = 0 then 5421 else 3629) true

/-- OWNER_LOCK_SET (R469). -/
def execOwnerLockSet (via : Via) (s : State) : Out :=
  doIf (viaRing via && s.fwUp && s.given via 0x0506 fun d => descParam d 0x2C 1 == 1) s
    (if s.secure.armed.isSome || s.secure.slotA.state == 2 || s.secure.slotB.state == 2 then s.finish via St.refusedState
     else if s.secure.ownerLock then s.finish via St.ok
     else (({ s with secure := { s.secure with ownerLock := true } }).record Ev.UPD_OWNER_LOCK Src.security [1]).finish via St.ok)

/-- OWNER_LOCK_CLEAR (R469): the token must carry the owner-lock-clear right. -/
def execOwnerLockClear (via : Via) (b : Signed) (s : State) : Out :=
  doIf (viaRing via && s.fwUp && s.given via 0x0506 fun d => descParam d 0x2C 1 == 0) s <| s.useCrypto fun s =>
    match s.tokenCheck b with
    | .inr c => s.finish via c (if c = St.badDescriptor then 8 else 0)
    | .inl t => if t.rights.testBit 3 then s.ownerClear.drawChallenge.finish via St.ok else s.finish via St.refusedState

end Sys2Proof.Machine
end

