-- ==== Sys2Proof/Machine/Sense.lean ====
section
/-!
DEFINITION. The meanings of the commands of sense channels, windows and meters (04); SAMPLE_WORD is in Machine/Samples.lean.
-/
namespace Sys2Proof.Machine

/-- The window of channel `c`: A (0) or B (1). -/
def winIx (c : Nat) (b : Bool) : Nat := 2 * c + b.toNat

/-- COMMIT (R87, R90, R175): the write's own fields enter the shadow first; a locked channel and window A of a fixed channel ignore it. -/
def execCommit (c : Nat) (b : Bool) (v : BitVec 32) (s : State) : Out :=
  let x := winIx c b
  let t := s.writeFlds (Reg.fields .SNS_WCTL) x v.toNat
  doIf (s.settUp && !s.bit SNS_CHCFG.lock c && (feedIndex x).isNone) s (t.setWin x { t.win x with commitDue := true })

/-- WINDOW_COMMIT_APPLY (R86, R87): at the next aperture the shadow takes effect as one unit or is refused for its order. -/
def execWindowCommitApply (c : Nat) (b : Bool) (s : State) : Out :=
  let x := winIx c b
  doIf (s.settUp && (s.win x).commitDue) s
    (if (s.shadow x).ordered then (s.applyWindow x).judgeEntries
     else
      let t := (s.setWin x { s.win x with commitDue := false }).wr SNS_WSTAT.order_err x 1
      if (feedIndex x).isSome then t.wr FEED_STAT.cfg_err 0 1 else t)

/-- Some sett object binds channel `c` (`SNS_CHSTAT.bound`). -/
def State.chanBound (s : State) (c : Nat) : Bool :=
  s.setts.engines.any fun e => e.2.state != .idle && e.2.binds.any fun b => b.2 == (1, c) || b.2 == (2, c)

/-- CHANNEL_CONFIG_WRITE (R66, R91, R76, R98). -/
def execChannelConfigWrite (c : Nat) (v : BitVec 32) (s : State) : Out :=
  let v := v.toNat
  let fixed := s.fixedChan c
  let range := SNS_CHCFG.range.of v
  let enable := SNS_CHCFG.enable.of v
  let keepRange := fixed || decide (64 ≤ c)
  let rangeBad := !keepRange && range ≤ 2 && range != s.rd SNS_CHCFG.range c && ((s.active (2 * c)).arm || (s.active (2 * c + 1)).arm)
  let enableBad := !fixed && enable == 0 && s.bit SNS_CHCFG.enable c && s.chanBound c
  let fs := (if fixed then [] else [SNS_CHCFG.enable]) ++ (if keepRange then [] else [SNS_CHCFG.range]) ++
    (if s.part.variant = .qa then [SNS_CHCFG.marten_sub] else []) ++ [SNS_CHCFG.lock]
  let t := s.writeFlds fs c v
  let t := if s.bit SNS_CHCFG.enable c && !t.bit SNS_CHCFG.enable c then (t.clearLevels (2 * c)).clearLevels (2 * c + 1) else t
  let t := if s.bit SNS_CHCFG.enable c == t.bit SNS_CHCFG.enable c then t else t.domainFollow c
  doIf (s.settUp && !s.bit SNS_CHCFG.lock c && !rangeBad && !enableBad) s t.judgeEntries

/-- CHANNEL_LOCK (R90). -/
def execChannelLock (c : Nat) (s : State) : Out := doIf s.settUp s (s.wr SNS_CHCFG.lock c 1)

/-- METER_CLEAR (R93): both accumulators, the fractions they carry, and both saturation bits. -/
def execMeterClear (m : Nat) (s : State) : Out :=
  doIf (s.settUp && !s.bit SNS_MTR_CFG.lock m) s
    (((((s.setMeter m { s.meter m with fracF := 0, fracR := 0 }).wr SNS_MTR_EF.ef m 0).wr SNS_MTR_ER.er m 0).wr
      SNS_MTR_STAT.ef_sat m 0).wr SNS_MTR_STAT.er_sat m 0)

/-- METER_PAVG_UPDATE (R92): at ticks that are multiples of 2^avg_k, the mean over the apertures at which the meter ran, if it ran at all. -/
def execMeterPavgUpdate (m : Nat) (s : State) : Out :=
  let t := s.meter m
  doIf (s.settUp && s.tick % 2 ^ s.rd SNS_MTR_CFG.avg_k m == 0 && t.count != 0) s
    ((s.setMeter m { t with sum := 0, count := 0 }).wr SNS_MTR_PAVG.pavg m (fit32 (nearest (t.sum * 1000) (powerUnit * t.count))))

/-- ACCUMULATOR_LOW_READ (R96): the upper half is latched. -/
def execAccumulatorLowRead (m : Nat) (reverse : Bool) (s : State) : Out :=
  let t := s.meter m
  doIf s.settUp s
    (if reverse then s.setMeter m { t with upperR := s.rd SNS_MTR_ER.er m / 2 ^ 32 }
     else s.setMeter m { t with upperF := s.rd SNS_MTR_EF.ef m / 2 ^ 32 })

/-- PERSIST_WRITE (R94, R194): persisting meters, operating seconds and the latest feed records. -/
def execPersistWrite (s : State) : Out :=
  let l := s.burrow.feedRecs ++ s.burrow.flash
  let pick (p : Rec → Bool) : List Rec := (latestRec p l).toList
  let dam (g : Nat) (r : Rec) : Bool := r.code == Ev.FEED_FET_DAMAGED && r.data.headD 0 == g
  let recs := pick Rec.setsInsertion ++ pick (dam 0) ++ pick (dam 1) ++ pick (fun r => r.code == Ev.FEED_CLEARED)
  let meters := ((List.range 64).filter (s.bit SNS_MTR_CFG.persist)).map fun m => (m, s.rd SNS_MTR_EF.ef m, s.rd SNS_MTR_ER.er m)
  doIf (s.alive && decide (2 ≤ s.part.stage) && !s.burrow.halt && decide (s.burrow.persistAt + 60000000 ≤ s.bootUs)) s
    { s with burrow := { s.burrow with
        persistAt := s.bootUs, persistOp := s.burrow.opSeconds, persistMeters := meters, feedRecs := recs } }

/-- CALIBRATION_REQUEST (R77). -/
def execCalibrationRequest (s : State) : Out := doIf s.settUp s s.calPass

/-- CAL_PERIOD_EXPIRY (R77): period_s seconds after the last pass began. -/
def execCalPeriodExpiry (s : State) : Out :=
  doIf (s.settUp && decide (s.sense.calStart + s.rd SNS_CALCTL.period_s 0 * 1000000 ≤ s.bootUs)) s s.calPass

/-- CAL_TEMP_DELTA (R77, R82): the serving die temperature has moved by temp_delta since the channel's last calibration. -/
def execCalTempDelta (c : Nat) (s : State) : Out :=
  let moved := match s.dieTemp c, (s.lastCal c).2 with
    | some a, some b => decide ((s.rd SNS_CALCTL.temp_delta 0 : Int) * 128 ≤ max (a - b) (b - a))
    | _, _ => false
  doIf (s.settUp && moved && (s.chan c).phase == .idle && !s.sense.waiting.contains c && !s.sense.off.contains (chanDomain c)) s
    (({ s with sense := { s.sense with waiting := c :: s.sense.waiting } }).calRun (20 * s.bootUs))

/-- CAL_SPARE_TAKEOVER (Table 4-5, t1 = t0 + 64 apertures): at sub-index `sub` of this tray tick. -/
def execCalSpareTakeover (c sub : Nat) (s : State) : Out :=
  doIf (s.settUp && (s.chan c).phase == .paired && decide ((s.chan c).calAp + calSpan c ≤ 20 * s.bootUs + sub)) s
    ((s.setChan c { s.chan c with phase := .standIn }).wr SNS_CHSTAT.stand_in c 1)

/-- CAL_OWN_CONVERTER_DONE (Table 4-5, t2): the own converter has coefficients of now. -/
def execCalOwnConverterDone (c sub : Nat) (s : State) : Out :=
  let h := s.chan c
  doIf (s.settUp && h.phase == .standIn) s
    (s.setChan c { h with phase := .returning, calAp := 20 * s.bootUs + sub, coef := some s.bootUs, coefWas := h.coef })

/-- CAL_RETURN (Table 4-5, t3 = t2 + 64 apertures; R79): within 0.25 % the samples return to the own converter; else its previous coefficients
are restored and the recalibration repeats once, and then the spare stays for good. -/
def execCalReturn (c sub : Nat) (within : Bool) (s : State) : Out :=
  let h := s.chan c
  let ap := 20 * s.bootUs + sub
  let back := { h with coef := h.coefWas, coefWas := none }
  let t :=
    if within then (((s.setChan c { h with coefWas := none }).wr SNS_CHSTAT.stand_in c (s.rd SNS_CHSTAT.spared c)).calDone c).calRun ap
    else
      let t := s.record Ev.INT_CAL_MISMATCH Src.sense [c]
      if h.attempt < 2 then t.setChan c { back with phase := .standIn, attempt := 2 }
      else ((t.setChan c back).calSpared c).calRun ap
  doIf (s.settUp && h.phase == .returning && decide (h.calAp + calSpan c ≤ ap)) s t

/-- DIE_TEMPERATURE_READ (R82): a sensor outside its range check reads 0x7FFF with valid = 0. -/
def execDieTemperatureRead (temps : List (Option (BitVec 16))) (s : State) : Out :=
  doIf s.alive s
    (each (List.range 8) (fun k s => match temps.getD k none with
      | some t => (s.wr SNS_DIETEMP.temp k t.toNat).wr SNS_DIETEMP.valid k 1
      | none => (s.wr SNS_DIETEMP.temp k 0x7FFF).wr SNS_DIETEMP.valid k 0) s)

/-- CHANNEL_FAULT (R83): `short` tells a shorted from an open diode, `bad` the samples delivered since the onset. A converter that fails while
its pool holds a spare is replaced by it, one that was itself a spare too. -/
def execChannelFault (c : Nat) (short : Bool) (bad : Nat) (s : State) : Out :=
  let kind := if 256 ≤ c ∧ c < 288 then (if short then 2 else 1) else 3
  let t :=
    if c < 256 ∧ s.rd (spareFld c) 0 ≠ 0 then (s.calSpared c).calRun (20 * s.bootUs)
    else
      let t := ((s.wr SNS_CHSTAT.fault c 1).wr SNS_CHSTAT.fault_kind c kind).record Ev.INT_CHAN_FAULT Src.sense [c, kind]
      let t := t.setChan c { t.chan c with lastGood := (t.chan c).recent.getD bad (s.rd SNS_CHSAMP.sample c) }
      t.judgeEntries
  doIf (s.settUp && s.bit SNS_CHCFG.enable c && !s.bit SNS_CHSTAT.fault c && !s.bit SNS_CHSTAT.absent c) s t

/-- CHANNEL_FAULT_CLEAR (R83). -/
def execChannelFaultClear (c : Nat) (s : State) : Out :=
  doIf (s.settUp && s.bit SNS_CHSTAT.fault c) s
    ((s.wr SNS_CHSTAT.fault c 0).wr SNS_CHSTAT.fault_kind c 0).judgeEntries

end Sys2Proof.Machine
end

