-- ==== Sys2Proof/Machine/Setts.lean ====
section
/-!
DEFINITION. The meanings of the setts' commands (05): engine commands, memory and binding writes, migration, enable and period,
and the mailbox. The tick boundary is in Machine/Boundary.lean.
-/
namespace Sys2Proof.Machine

/-- BIND (R112): pending until the next boundary; lost where the sett's domain is off (R67), as every command to it. -/
def execBind (n : Nat) (obj : BitVec 11) (s : State) : Out :=
  doIf (s.settUp && s.settOn (n / 32) && s.mayBind) s (s.engCtl n 1 obj.toNat)
/-- START (R112). -/
def execStart (n : Nat) (obj : BitVec 11) (s : State) : Out := doIf (s.settUp && s.settOn (n / 32)) s (s.engCtl n 2 obj.toNat)
/-- STOP (R112). -/
def execStop (n : Nat) (obj : BitVec 11) (s : State) : Out := doIf (s.settUp && s.settOn (n / 32)) s (s.engCtl n 3 obj.toNat)
/-- UNBIND (R112). -/
def execUnbind (n : Nat) (obj : BitVec 11) (s : State) : Out := doIf (s.settUp && s.settOn (n / 32)) s (s.engCtl n 4 obj.toNat)

/-- INSTRUCTION_MEMORY_WRITE (R114): only while the engine is IDLE, and its sett's domain on. -/
def execInstructionMemoryWrite (n : Nat) (a : BitVec 10) (v : Word) (s : State) : Out :=
  let e := s.engine n
  doIf (s.settUp && e.state == .idle && s.settOn (n / 32)) s
    (s.setEngine n { e with imem := Tab.set 0 e.imem a.toNat v, badWords := e.badWords.filter (· != a.toNat) })

/-- BINDING_WRITE (R106, Table 5-14): only while the engine is IDLE, with an index in range. -/
def execBindingWrite (n slot : Nat) (v : BitVec 32) (s : State) : Out :=
  let e := s.engine n
  let kind := SETT_BIND.kind.of v.toNat
  let index := SETT_BIND.index.of v.toNat
  doIf (s.settUp && e.state == .idle && s.settOn (n / 32) && decide (index < kindSize kind)) s
    (s.setEngine n { e with binds := Tab.set (0, 0) e.binds slot (kind, index) })

/-- FIRMWARE_VALUE_WRITE (R100): collected in an enabled sett's firmware-value areas, ignored elsewhere in it; at once in a disabled
sett. -/
def execFirmwareValueWrite (k : Nat) (off : BitVec 15) (v : Word) (s : State) : Out :=
  let key := k * 32768 + off.toNat
  let fw := decide (off.toNat < 16384 ∧ 0x780 / 4 ≤ off.toNat % 512)
  doIf (s.settUp && s.settOn k) s
    (if s.bit SETT_CTL.enable k then
      if fw then { s with setts := { s.setts with fwWrites := s.setts.fwWrites ++ [(key, v)] } }
      else s.wr SETT_STAT.fw_wr_ignored k 1
     else s.setSh key v)

/-- MIGRATION_GO (R115, R118). -/
def execMigrationGo (src dst : BitVec 11) (s : State) : Out :=
  let t := (s.writeFld SETT_MIGCMD.src 0 src.toNat).writeFld SETT_MIGCMD.dst 0 dst.toNat
  let a := t.rd SETT_MIGCMD.src 0
  let b := t.rd SETT_MIGCMD.dst 0
  let who := if (s.engine a).state = .idle then Src.setts else (s.engine a).obj
  doIf s.settUp s
    (if s.bit SETT_MIGSTAT.busy 0 then t.wr SETT_MIGSTAT.lost 0 1
     else match t.migRefusal a b with
      | some code => (t.wr SETT_MIGSTAT.status 0 code).record Ev.ENG_MIG_REFUSED who [a, b, code]
      | none => { t with setts := { t.setts with mig := { src := a, dst := b } } }.wr SETT_MIGSTAT.busy 0 1)

/-- MIGRATION_COPY (R116): at the setts' next boundary, before it. -/
def execMigrationCopy (half : Bool) (s : State) : Out :=
  let h := 2 * s.tick + half.toNat
  doIf (s.settUp && s.bit SETT_MIGSTAT.busy 0 && !s.setts.mig.copied && s.migBoundary h) s (s.migCopy h)

/-- MIGRATION_HANDOVER (R116): one tick period after the copy. -/
def execMigrationHandover (half : Bool) (s : State) : Out :=
  let h := 2 * s.tick + half.toNat
  doIf (s.settUp && s.bit SETT_MIGSTAT.busy 0 && s.setts.mig.copied && s.migBoundary h && h == s.setts.mig.half + s.rd SETT_CTL.period (s.setts.mig.src / 32)) s
    s.migHandover

/-- SETT_ENABLE (R120). -/
def execSettEnable (k : Nat) (s : State) : Out :=
  doIf s.settUp s ((s.wr SETT_CTL.enable k 1).wr SETT_STAT.ctl_status k St.ok)

/-- SETT_DISABLE (R120): the engines stop at the next boundary. -/
def execSettDisable (k : Nat) (s : State) : Out :=
  doIf s.settUp s
    (if (settEngines k).any (fun n => (s.engine n).state != .idle && s.ownsOnRail (s.engine n)) then
      s.wr SETT_STAT.ctl_status k St.refusedState
     else if s.migrates k then s.wr SETT_STAT.ctl_status k St.busy
     else
      ({ s with setts := { s.setts with stopDue := k :: s.setts.stopDue.filter (· != k) } }.wr SETT_CTL.enable k 0 |>.wr
        SETT_STAT.ctl_status k St.ok).settOff k)

/-- PERIOD_WRITE (R101, R102). -/
def execPeriodWrite (k : Nat) (v : BitVec 8) (s : State) : Out :=
  doIf (s.settUp && !s.someEngine k (fun e => e == .running || e == .faulted || e == .migrating)) s
    (s.writeFld SETT_CTL.period k v.toNat)

/-- POP (R146). -/
def execPop (s : State) : Out := doIf s.settUp s { s with setts := { s.setts with mailbox := s.setts.mailbox.drop 1 } }

/-- TERM_WRITE (R121, R124): `hi` is RFX_TERM23. -/
def execTermWrite (r : Nat) (hi : Bool) (v : BitVec 32) (s : State) : Out :=
  let v := v.toNat
  doIf (s.alive && !s.bit RFX_ACT.lock r) s
    (if hi then
      (s.writeTerm r RFX_TERM23.t2_src RFX_TERM23.t2_inv RFX_TERM23.t2_en v).writeTerm r RFX_TERM23.t3_src RFX_TERM23.t3_inv RFX_TERM23.t3_en v
     else
      (s.writeTerm r RFX_TERM01.t0_src RFX_TERM01.t0_inv RFX_TERM01.t0_en v).writeTerm r RFX_TERM01.t1_src RFX_TERM01.t1_inv RFX_TERM01.t1_en v)

/-- RULE_DISABLE (R123): the actions are released, latched or not. -/
def execRuleDisable (r : Nat) (s : State) : Out :=
  let t := ((s.wr RFX_ACT.enable r 0).wr RFX_STAT.latched r 0).releaseRule r
  doIf (s.alive && !s.bit RFX_ACT.lock r) s
    { t with setts := { t.setts with trueRules := t.setts.trueRules.filter (· != r) } }

/-- RULE_LOCK (R124). -/
def execRuleLock (r : Nat) (s : State) : Out := doIf s.alive s (s.wr RFX_ACT.lock r 1)

/-- LATCH_CLEAR (R123): a rule with latch = 1 that is still true latches again; the actions of a rule that is not are released. -/
def execLatchClear (r : Nat) (s : State) : Out :=
  let t := s.wr RFX_STAT.latched r 0
  doIf (s.alive && s.bit RFX_STAT.latched r && !(s.stillTrue r && s.bit RFX_ACT.latch r)) s (if s.stillTrue r then t else t.releaseRule r)

/-- RFX_RULE_FALSE (R123): the actions of a rule that is not latched are released. -/
def execRfxRuleFalse (r : Nat) (s : State) : Out :=
  let t := { s with setts := { s.setts with trueRules := s.setts.trueRules.filter (· != r) } }
  doIf (s.alive && s.ruleMayFail r && s.setts.trueRules.contains r) s
    (if s.bit RFX_STAT.latched r then t else t.releaseRule r)

end Sys2Proof.Machine
end

