-- ==== Sys2Proof/Machine/Ticks.lean ====
section
/-!
DEFINITION. The tray-tick boundary: what happens once per µs.
-/
namespace Sys2Proof.Machine

/-- The value of a subscription's source that advances once per tray tick (R407); none for a channel. -/
def State.tickSource (s : State) (kind index : Nat) : Option Int :=
  match kind with
  | 2 => some (wattsOf (s.rd SNS_MTR_P.p index))
  | 3 => some (Tab.get 0 (s.port (index / 64)).telem (index % 64)).toInt
  | 4 => some (s.rd HARP_WSTAT.code index * 65536)
  | 5 => some (Tab.get {} s.marten.slots index).value.toInt
  | _ => none

/-- Every subscription of such a source takes its value. -/
def State.tickSubs (s : State) : State :=
  { s with host := { s.host with subs := s.host.subs.map fun e => match s.tickSource e.2.kind e.2.index with
      | some v => (e.1, e.2.take s.tick v)
      | none => e } }

/-- One µs more at its present code for each ward above NONE (Table 9-9 note). -/
def State.residency (s : State) : State :=
  each (List.range 8) (fun w s =>
    let c := s.rd HARP_WSTAT.code w
    if c = 0 then s else s.addWrap HARP_WRES.us (3 * w + c - 1) 1) s

/-- Every LINKED port queues a SYNC that carries the tray tick (R322), behind what the last µs has queued and sent. -/
def State.syncPorts (s : State) : State :=
  each (List.range 8) (fun p s =>
    if s.linked p then
      s.setPort p { (s.port p).send 1 0 [BitVec.ofNat 32 s.tick, BitVec.ofNat 32 (s.tick / 4294967296)] with sync := s.tick + 1 }
    else s) s.drainTx

/-- Corrected and uncorrectable codewords counted (R332), and kept by lane for the ms of R307. -/
def State.countFec (s : State) (l : List FecCount) : State :=
  each l (fun c s =>
    let p := c.port.val
    let x := s.port p
    let recent := x.uncorr.filter fun e => decide (s.bootUs < e.1 + 1000)
    let s := s.setPort p { x with
      uncorr := if c.uncorrectable = 0 then recent else recent ++ [(s.bootUs, c.lane.val, c.uncorrectable.toNat)] }
    (s.addSat WPORT_FECCOR.count p c.corrected.toNat).addSat WPORT_FECUNC.count p c.uncorrectable.toNat) s

/-- TWIN_ALV_OUT may toggle: the sett tier runs, and tray firmware has started since the power-on reset, before which, in the inert state and
under BOOT_HOLD the line is driven low (Table 2-7, R36, R493). -/
def State.alvRuns (s : State) : Bool := s.settUp && s.twin.fwAt.isSome && !s.bit SEC_BOOT.inert 0

/-- The ALV lines at a boundary (R493, R494), and whether an EN is driven (Table 21-1). -/
def State.alvTick (s : State) (edge : Bool) : State :=
  if s.rd TWIN_STAT.role 0 = 0 then s else
    let on := s.zither.entries.any fun e => s.enHigh (s.rd ZIT_EW0.en e.1)
    let s := { s with twin := { s.twin with
      driven := s.twin.driven || on
      alvOut := s.alvRuns && !s.twin.alvOut
      edgeAt := if edge then s.bootUs else s.twin.edgeAt
      alvLost := s.twin.alvLost && !edge } }
    s.wrBit TWIN_STAT.alv 0 (decide (s.bootUs < s.twin.edgeAt + s.rd TWIN_CTL.silence 0))

/-- The checkpoint of a bound object (R491), for a yield in the tick of its engine's last boundary. -/
def State.checkpointOf (s : State) (n : Nat) : Checkpoint :=
  let e := s.engine n
  let r := e.regs
  { obj := BitVec.ofNat 11 e.obj, tick := BitVec.ofNat 64 (e.tickAt / 2), regs := (List.range 15).map fun i => Tab.get 0 r.g (i + 1),
    flags := BitVec.ofNat 4 (r.z.toNat + 2 * r.n.toNat + 4 * r.q.toNat + 8 * r.qs.toNat), timers := (List.range 4).map fun i => Tab.get 0 r.tm i,
    consec := Fin.ofNat 4 e.consec, priv := (List.range 512).map fun j => s.shWord (privKey n 0 + j) }

/-- The frames that a lead sends at a tray-tick boundary: TICK, and while the sets match a MIRROR for every bound object whose turn it is, once in 64
ticks on two or more lanes and in 128 on one (R486, R487, R491); the HANDOVER of a lead whose power-on reset is due (R497). -/
def State.twinFrames (s : State) : State :=
  if s.leads && s.bit TWIN_STAT.link 0 then
    let span := if 2 ≤ s.rd TWIN_STAT.lanes 0 then 64 else 128
    let due := s.setts.engines.filter fun e => e.2.state != .idle && e.2.obj % span == s.tick % span
    let s := { s with twin := { s.twin with
      tickOut := some s.tick
      mirrorOut := if s.bit TWIN_STAT.set_match 0 then due.map (fun e => s.checkpointOf e.1) else [] } }
    if s.part.pendingPor.isSome && s.allGroupsDown && !s.twin.handover then { s.tellTwin .handover with twin := { (s.tellTwin .handover).twin with handover := true } }
    else s
  else { s with twin := { s.twin with tickOut := none, mirrorOut := [] } }

/-- A shadow's tray tick slewed by one sett-clock cycle in at most every 16th tick (R489). -/
def State.slewTick (s : State) : State :=
  if s.twin.slew ≠ 0 ∧ s.twin.slewAt + 16 ≤ s.tick then
    { s with twin := { s.twin with slew := s.twin.slew - s.twin.slew.sign, slewAt := s.tick } }
  else s

/-- INT_CAUSE.event that waited for the end of its 10 ms (R395). -/
def State.eventTick (s : State) : State := if s.burrow.eventDue then s.eventInt else s

/-- What running tray firmware has done since the last boundary: the watchdog refreshed (R59; a period outside 100 ms to 10 s is not taken),
cores parked, masters enabled (Table 3-8), queued edges taken (R91). -/
def State.firmwareActs (s : State) (a : FirmwareActs) : State :=
  let p := s.part
  let p := match a.watchdog with
    | some w => { p with refreshAt := s.bootUs, watchdogUs := if 100000 ≤ w.toNat ∧ w.toNat ≤ 10000000 then w.toNat else p.watchdogUs }
    | none => p
  let p : Part := { p with parked := (a.parked.map fun (m : BitVec 4) => m.toNat - m.toNat % 2).getD p.parked, masters := (a.masters.map fun (m : BitVec 6) => m.toNat).getD p.masters }
  let p : Part := { p with masters := if s.shadow_ then 0 else p.masters }
  s.when s.fwUp fun s => { s with part := p, sense := { s.sense with edgeQueue := s.sense.edgeQueue.drop a.edges.toNat } }

/-- TRAY_TICK_BOUNDARY (R59, R91, R101, R157, R164, R223, R322, R407, R473, R493): the tick and boot_us count, EN drops are judged, SYNC goes
to every LINKED port; `alvEdge` tells an edge of TWIN_ALV_IN since the last boundary, `fec` the codewords seen, `acts` what tray firmware has
done. -/
def execTrayTickBoundary (alvEdge : Bool) (fec : List FecCount) (acts : FirmwareActs) (s : State) : Out :=
  doIf s.alive s <| s.inOneCycle fun s =>
    let t := { s with tick := s.tick + 1, bootUs := s.bootUs + 1 }.firmwareActs acts
    let t := if t.settUp then t.judgeDrops.residency.judgeSpans else t
    let t := if t.coreUp then (((t.judgeWarmAll.syncPorts).countFec fec).tickSubs).twinFrames.slewTick else t
    ((((t.alvTick alvEdge).eventTick).watchWards).deniedSecond).dropSeconds

end Sys2Proof.Machine
end

