-- ==== Sys2Proof/Machine/TwinOps.lean ====
section
/-!
DEFINITION. Twin operation: the roles settled at a join, what a shadow adopts, takeover (21).
-/
namespace Sys2Proof.Machine

/-- The T840 is one of a twin (R484). -/
def State.twinned (s : State) : Bool := s.alive && s.rd TWIN_STAT.role 0 != 0

/-- The twin link and the sett tier run. -/
def State.twinLink (s : State) : Bool := s.twinned && s.coreUp && s.settUp

/-- A twin frame has arrived (R494). -/
def State.twinHeard (s : State) : State := { s with twin := { s.twin with frameAt := s.bootUs } }

/-- The T840 acts in a role: 1 lead, 2 shadow (R221, R485, Table 21-3); a shadow's AVSBus pins go to high impedance, whatever was in flight
(R222). -/
def State.setRole (s : State) (role : Nat) : State :=
  let s := ((s.wr DEV_STAT.role 0 role).wr TWIN_STAT.role 0 role).wrBit HARP_GSTAT.obj_excl 0 (role == 2)
  let s := if role = 2 then each (List.range 8) (fun w s => (s.setHarp w { s.harp w with frame := none, next := none }).wr HARP_AVSSTAT.busy w 0) s else s
  let s := { s with part := { s.part with masters := if role = 2 then 0 else s.part.masters } }
  (if role = 2 then each (List.range 4) (fun z s => s.wr FAN_ZSTAT.fallback z 1) s else s).driveAll.harpJudge

/-- The HELLO of this T840 (Table 21-2). -/
def State.helloFrame (s : State) : TwinPeer :=
  { strapLead := s.part.straps.twinRole == 1, actsLead := s.rd TWIN_STAT.role 0 == 1, die := s.secure.die, setSeq := s.activeSeq,
    driven := s.twin.driven, down := s.allGroupsDown }

/-- The row of Table 21-1 that applies, with the role that this T840 takes: 1 lead, 2 shadow, 0 neither joins. None where no row does. -/
def State.arbitrate (s : State) (p : TwinPeer) : Option (Nat × Nat) :=
  let me := s.rd TWIN_STAT.role 0 == 1
  let idle := s.allGroupsDown && !s.twin.driven
  let peerIdle := p.down && !p.driven
  let strapLead := s.part.straps.twinRole == 1
  let lower := decide (s.secure.die.toNat < p.die.toNat)
  let role (lead : Bool) : Nat := if lead then 1 else 2
  if me != p.actsLead then some (1, role me)
  else if me then
    if idle != peerIdle then some (2, role peerIdle)
    else if !s.twin.driven && !p.driven then some (3, role (if strapLead != p.strapLead then strapLead else lower))
    else if s.twin.driven && p.driven then some (4, 0)
    else none
  else some (5, role lower)

/-- TWIN_ROLE_CONFLICT: both strapped roles and the row. -/
def State.conflict (s : State) (p : TwinPeer) (row : Nat) : State :=
  s.record Ev.TWIN_ROLE_CONFLICT Src.twin [s.part.straps.twinRole, if p.strapLead then 1 else 2, row]

/-- An insertion state adopted from the lead: GHS is low while the lead is in RAMP, high while it is ON (Table 21-3); E_fet runs from the ramp's
start (R184). -/
def State.adoptIns (s : State) (v : Nat) : State :=
  let s := if v = 1 ∧ s.ins ≠ 1 then s.rampStart else s
  let s := if v = 2 ∨ v = 6 then s else s.ghsLow
  let s := if v = 2 ∧ s.ins ≠ 2 then { s with feed := { s.feed with ghsHigh := true, ghsAt := s.bootUs, onAt := s.bootUs } } else s
  s.wr FEED_STAT.ins_state 0 v

/-- What a shadow adopts at its join (R485): the lead's groups and runs, and its feed state. -/
def State.adopt (s : State) (a : TwinAdopt) : State :=
  let s := each a.groups (fun (e : Fin 16 × TwinGroup) s =>
    let g := e.1.val
    let x := e.2
    ((s.setZgrp g { start := x.start.toNat, doneAt := x.done.map (·.toNat), dwellEnd := x.dwellEnd.toNat,
                    upStart := if x.state = 1 ∨ x.state = 2 then some x.start.toNat else none }).wr
      ZIT_GSTAT.state g x.state.toNat).wr ZIT_GSTAT.abort_cause g x.cause.toNat) s
  let s := each a.entries (fun (e : Fin 256 × TwinEntry) s =>
    let x := e.2
    let k := e.1.val
    s.setZent k { s.zent k with phase := x.phase.val, on := x.on, good := x.good, onAt := x.onAt.toNat, goodAt := x.goodAt.toNat,
                                    cond := s.goodCond k, condAt := s.tick }) s
  (s.adoptIns a.ins.toNat).wr FEED_STAT.retry_count 0 a.retry.toNat

/-- Roles settled (R485): sequences of CMDs start afresh; the shadow adopts the lead's runs and records the join. -/
def State.join (s : State) (p : TwinPeer) (a : TwinAdopt) (row role : Nat) : State :=
  let s := (s.setRole role).wr TWIN_STAT.joined 0 1
  let s := { s with twin := { s.twin with nextSeq := 0, lastSeq := 0, unacked := [], mirrors := [], stepped := false, echoAt := none,
                                          leadTick := 0, alone := false } }
  let s := s.judgeMatch true
  if role = 2 then
    let s := (s.adopt a).wr TWIN_STAT.aligned 0 0
    let s := s.record Ev.TWIN_JOINED Src.twin [2, dieDigest p.die.toNat, s.rd TWIN_STAT.set_match 0]
    if row = 5 ∨ (row = 3 ∧ (s.part.straps.twinRole == 1) = p.strapLead) then s.conflict p row else s
  else s

/-- RAMP left for WAIT (R182, R495 step 5). -/
def State.leaveRamp (s : State) : State := if s.ins = 1 then s.setIns 0 else s

/-- The shadow takes over as lead (R495); cause 0 silence, 1 handover, 2 no lead at start. -/
def State.takeover (s : State) (cause : Nat) : State :=
  let s := { s with twin := { s.twin with unacked := [], mirrors := [] } }
  let s := ((s.wr TWIN_STAT.joined 0 0).wr TWIN_STAT.aligned 0 0).setRole 1
  let s := each (List.range 8) (fun w s => match (s.harp w).latest with
    | some v => s.avsCommit w v
    | none => s) s
  let s := { s with part := { s.part with masters := 63 } }.leaveRamp
  let s := each (List.range 8) (fun w s => if stepping (s.ward w).state then s.wardFail w 14 else s) s
  (State.addSat s TWIN_STAT.takeovers 0 1).record Ev.TWIN_TAKEOVER Src.twin [cause]

/-- A signed number in 16 bits; the spec does not say what a number outside shows. -/
def fit16 (n : Int) : Nat := if (-32768 : Int) ≤ n ∧ n ≤ 32767 then low 16 n else Config.outOfRange n % 65536

/-- An offset in units of 1.25 ns as the 16-bit number of ns that TWIN_SKEW shows. -/
def skewNs (o : Int) : Nat := fit16 (openQuot (o * 5) 4)

/-- A measured offset shown (R502): the last, and the largest in magnitude. -/
def State.measure (s : State) (o : Int) : State :=
  let big := if s.twin.largest.natAbs < o.natAbs then o else s.twin.largest
  let slew : Int := if s.twin.stepped then openQuot o 2 else 0
  (({ s with twin := { s.twin with echoAt := some s.bootUs, skew := o, largest := big, slew } }).wr TWIN_SKEW.last 0 (skewNs o)).wr
    TWIN_SKEW.largest 0 (skewNs big)

/-- A CMD of the lead, of either T840, applied (R492); `held` is the staged set with the announced set_seq, where it is held. -/
def State.applyCmd (s : State) (c : TwinCmd) (held : Option Manifest) : State :=
  match c with
  | .group g up start =>
    if !s.shadow_ then s
    else if up then
      if s.bit TWIN_STAT.set_match 0 && s.gstate g == 0 && s.part.pendingPor.isNone && !s.bit SEC_BOOT.inert 0 && !s.part.straps.bootHold then
        let t := s.startUp g
        if t.gstate g = 1 then
          let t := t.startAt g start.toNat
          t.setZgrp g { t.zgrp g with upStart := some start.toNat }
        else t
      else s
    else
      let t := s.goDown g (if s.gstate g = 1 then 9 else 0)
      if t.gstate g = 3 ∧ s.gstate g ≠ 3 then t.startAt g start.toNat else t
  | .abort g cause entry =>
    if s.gstate g = 1 ∨ s.gstate g = 2 then
      (if 1 ≤ cause.toNat ∧ cause.toNat ≤ 5 then s.wr ZIT_GSTAT.abort_entry g entry.toNat else s).goDown g cause.toNat
    else s
  | .trip cause retry => s.tripTold cause.toNat retry.toNat
  | .insertion state => if s.shadow_ then s.adoptIns state.toNat else s
  | .ward w state attempts => if s.shadow_ then s.setWard w { s.ward w with state := state.toNat, attempts := attempts.toNat } else s
  | .floor w code => if s.shadow_ then (s.wr HARP_WCTL.floor w code.toNat).harpJudge else s
  | .arm active setSeq tick full =>
    let s := { s with twin := { s.twin with peer := s.twin.peer.map fun (p : TwinPeer) => { p with setSeq := active } } }.judgeMatch false
    match held with
    | some m =>
      if s.shadow_ && m.setSeq == setSeq then
        let slot := ((imageEntry m).bind s.slotWith).getD false
        { s with secure := { s.secure with armed := some { set := m, at_ := tick.toNat, full, slot := slot.toNat } } }.record
          Ev.UPD_ARMED Src.firmware [m.setSeq.toNat, tick.toNat, full.toNat]
      else s
    | none => s
  | .cancel =>
    match s.secure.armed with
    | some a =>
      { s with secure := { s.secure with armed := none } }.record Ev.UPD_ACT_CANCELLED Src.firmware [a.set.setSeq.toNat, 3]
    | none => s
  | .handover => if s.shadow_ then s.takeover 1 else s

end Sys2Proof.Machine
end

