-- ==== Sys2Proof/Machine/Twins.lean ====
section
/-!
DEFINITION. The frames and instants of twin operation (21).
-/
namespace Sys2Proof.Machine

/-- TWIN_HELLO (R485, R486): the roles are settled by Table 21-1 when the link comes up; a T840 that has joined notes the peer's set. -/
def execTwinHello (peer : TwinPeer) (adopt : TwinAdopt) (lanes : Nat) (s : State) : Out :=
  let hello := if s.bit TWIN_STAT.link 0 then s.twin.hello else some s.helloFrame
  let t := ({ s with twin := { s.twin with peer := some peer, frameAt := s.bootUs, hello } }.wr TWIN_STAT.link 0 1).wr TWIN_STAT.lanes 0 (lanes + 1)
  doIf s.twinLink s <|
    if s.bit TWIN_STAT.joined 0 || s.twin.alone then t.judgeMatch false
    else match t.arbitrate peer with
      | none => t
      | some (row, 0) => { t with twin := { t.twin with alone := true } }.conflict peer row
      | some (row, role) => t.join peer adopt row role

/-- JOIN_TIMEOUT (R485): no peer has joined within the wait since tray firmware started. -/
def execJoinTimeout (s : State) : Out :=
  let late := match s.twin.fwAt with
    | some t => decide (t + s.rd TWIN_CTL.join 0 * 100000 ≤ s.bootUs)
    | none => false
  doIf (s.twinned && s.fwUp && s.shadow_ && !s.bit TWIN_STAT.joined 0 && late) s (s.takeover 2)

/-- TICK_FRAME (R487): the lead's tray tick. -/
def execTickFrame (tick : BitVec 64) (s : State) : Out :=
  doIf (s.twinLink && s.shadow_ && s.bit TWIN_STAT.joined 0) s
    { s.twinHeard with twin := { s.twinHeard.twin with leadTick := tick.toNat } }

/-- ECHO_EXCHANGE (R489, R490): four time stamps in sett-clock cycles; the first measurement after a join steps the shadow's tray
tick, later ones slew it. -/
def execEchoExchange (t1 t2 t3 t4 : BitVec 64) (s : State) : Out :=
  let o : Int := ((t2.toNat : Int) - t1.toNat) + ((t3.toNat : Int) - t4.toNat)
  let t := s.twinHeard
  doIf (s.twinLink && s.bit TWIN_STAT.joined 0) s <|
    if !s.shadow_ then t
    else
      let t := t.measure o
      if t.twin.stepped then (if o.natAbs ≤ 80 then t.wr TWIN_STAT.aligned 0 1 else t)
      else
        let tick := ((t.tick : Int) + o / 800).toNat
        let off := low 64 ((tick : Int) - t.bootUs)
        (({ t with tick, twin := { t.twin with stepped := true } }.wr
          TWIN_STAT.aligned 0 1).wr TWIN_OFFSET.offset 0 off).record Ev.TWIN_ALIGNED Src.twin [off]

/-- ECHO_TIMEOUT (R490): 500 µs without a measurement. -/
def execEchoTimeout (s : State) : Out :=
  let late := match s.twin.echoAt with
    | some t => decide (t + 500 ≤ s.bootUs)
    | none => false
  doIf (s.twinned && s.shadow_ && s.bit TWIN_STAT.aligned 0 && late) s
    ((s.wr TWIN_STAT.aligned 0 0).record Ev.TWIN_TICK_LOST Src.twin [skewNs s.twin.skew])

/-- MIRROR (R491): the checkpoint waits for its object's next boundary; with set_match = 0 it is not applied (R486). -/
def execMirror (c : Checkpoint) (s : State) : Out :=
  let t := s.twinHeard
  doIf (s.twinLink && s.shadow_ && s.bit TWIN_STAT.joined 0) s <|
    if s.bit TWIN_STAT.set_match 0 then
      { t with twin := { t.twin with mirrors := (t.twin.mirrors.filter fun x => x.obj != c.obj) ++ [c] } }
    else t

/-- A CMD whose turn it is, or one before it: acknowledged, and counted as applied in its turn (R492). -/
def State.takeCmd (s : State) (seq : Nat) : State :=
  let t := s.twinHeard
  let past := (s.twin.lastSeq + 65536 - seq) % 65536
  if past = 0 then { t with twin := { t.twin with lastSeq := (seq + 1) % 65536, ackOut := some seq } }
  else if past ≤ 32768 then { t with twin := { t.twin with ackOut := some seq } }
  else t

/-- CMD (R492): applied in the order of sequences; one already applied is only acknowledged again. -/
def execTwinCommand (seq : BitVec 16) (c : TwinCmd) (held : Option Signed) (s : State) : Out :=
  let t := s.takeCmd seq.toNat
  doIf (s.twinLink && s.bit TWIN_STAT.joined 0) s
    (if seq.toNat = s.twin.lastSeq then t.applyCmd c (held.bind parseManifest) else t)

/-- CACK (R492). -/
def execTwinCack (seq : BitVec 16) (s : State) : Out :=
  let t := s.twinHeard
  doIf (s.twinLink && s.bit TWIN_STAT.joined 0) s
    { t with twin := { t.twin with unacked := t.twin.unacked.filter fun (e : Nat × TwinCmd × Nat) => e.1 != seq.toNat } }

/-- CMD_RESEND (R492): a CMD without its CACK is sent again 2 µs after its last send. -/
def execCmdResend (seq : BitVec 16) (s : State) : Out :=
  doIf (s.twinLink && s.bit TWIN_STAT.joined 0) s
    { s with twin := { s.twin with unacked := s.twin.unacked.map fun (e : Nat × TwinCmd × Nat) =>
      if e.1 = seq.toNat ∧ e.2.2 + 2 ≤ s.bootUs then (e.1, e.2.1, s.bootUs) else e } }

/-- HANDOVER (R497): the shadow answers with a CACK and takes over without waiting for silence. -/
def execHandover (seq : BitVec 16) (s : State) : Out :=
  doIf (s.twinLink && s.shadow_ && s.bit TWIN_STAT.joined 0 && decide (seq.toNat = s.twin.lastSeq)) s
    ((s.takeCmd seq.toNat).applyCmd .handover none)

/-- TWIN_SILENCE (R494): silence on the ALV line, on the link, or on both. -/
def execTwinSilence (s : State) : Out :=
  let n := s.rd TWIN_CTL.silence 0
  let frames := decide (s.twin.frameAt + n ≤ s.bootUs)
  let edges := decide (s.twin.edgeAt + n ≤ s.bootUs)
  let lanes := s.rd TWIN_STAT.lanes 0
  let down := (s.wr TWIN_STAT.link 0 0).wr TWIN_STAT.lanes 0 0
  doIf (s.twinned && s.settUp && s.bit TWIN_STAT.joined 0) s <|
    if s.shadow_ then
      if frames && edges then down.takeover 0
      else if frames && s.bit TWIN_STAT.link 0 then down.record Ev.TWIN_LINK_DOWN Src.twin [lanes]
      else if edges && !s.twin.alvLost then
        { s with twin := { s.twin with alvLost := true } }.record Ev.TWIN_ALV_LOST Src.twin [s.bootUs - s.twin.edgeAt]
      else s
    else if frames && edges then
      { (down.wr TWIN_STAT.joined 0 0) with twin := { s.twin with unacked := [] } }.record Ev.TWIN_PEER_LOST Src.twin
        [s.bootUs - max s.twin.frameAt s.twin.edgeAt]
    else if frames then down
    else s

/-- The full set of a lead that its shadow has activated. -/
def State.leadArmed (s : State) : Option (Armed × Nat) :=
  match s.secure.armed with
  | some a => if a.full then a.shadowAt.map fun t => (a, t) else none
  | none => none

/-- LEAD_ACTIVATION (R501): the shadow has rejoined with the new set. -/
def execLeadActivation (s : State) : Out :=
  doIf (s.fwUp && s.leads) s <|
    match s.leadArmed with
    | some (a, _) => if (s.twin.peer.map (·.setSeq)) = some a.set.setSeq then (s.activateFull a).appReset 0x09 else s
    | none => s

/-- TWIN_ACTIVATION_TIMEOUT (R501): 300 s after the tick the lead cancels with cause twin. -/
def execTwinActivationTimeout (s : State) : Out :=
  doIf (s.fwUp && s.rd TWIN_STAT.role 0 == 1) s <|
    match s.leadArmed with
    | some (_, t) => if t + 300000000 ≤ s.bootUs then s.cancelArmed 3 else s
    | none => s

end Sys2Proof.Machine
end

