-- ==== Sys2Proof/Machine/Wards.lean ====
section
/-!
DEFINITION. The meanings of the commands for wards: bring-up, its polls and deadlines, reset sequences, licences and ward descriptors
(14, 15, 16).
-/
namespace Sys2Proof.Machine

/-! ## Ward commands (R339, R340) -/

/-- The first check of R340 that fails for UP of ward `w`, with R348 and R411. -/
def State.upRefusal (s : State) (w : Nat) : Option Nat :=
  match s.trayWard w with
  | none => some St.refusedState
  | some t =>
    if s.shadow_ then some St.refusedState
    else if s.leakStands w then some St.refusedGuard
    else if (s.wardPart 6 t.wardType).isNone || (s.wardPart 7 t.wardType).isNone || s.recorder.trainFailed then some St.noResource
    else if s.wards.badTypes.contains t.wardType.toNat then some St.integrity
    else none

/-- An accepted UP from OFF or FAILED (Table 14-3). -/
def State.wardUp (s : State) (w : Nat) : State :=
  let x := s.ward w
  (s.setWard w { x with attempts := if x.state = 14 then 0 else x.attempts, hold := false, upTick := s.tick, upUs := s.bootUs }).wardPower w false

/-- UP in HELD (R357). -/
def State.wardResume (s : State) (w : Nat) : State :=
  let x := s.ward w
  let s := s.setWard w { x with upTick := s.tick, upUs := s.bootUs, deadFrom := some s.bootUs, sub := 0 }
  if !s.linked w then (s.setWard w { s.ward w with resume := true, leftLink := true }).portEnable w
  else if x.leftLink then (s.setWard w { s.ward w with resume := true }).identify w
  else (s.wardEnter w x.held).beginStep w

/-- A ward command given by a descriptor WARD_CMD or by tray firmware. -/
def State.wardGiven (s : State) (v : Via) (w cmd : Nat) : Bool :=
  s.fwUp && s.given v 0x0300 fun d => descParam d 0x2C 1 == w && descParam d 0x2D 1 == cmd

/-- UP (Table 14-3). -/
def execUp (w : Nat) (via : Via) (s : State) : Out :=
  let st := (s.ward w).state
  doIf (s.wardGiven via w 1) s <|
    if s.shadow_ then s.finish via St.refusedState
    else if st = 0 ∨ st = 14 then
      match s.upRefusal w with
      | some c => s.finish via c
      | none => (s.wardUp w).finish via St.ok
    else if st = 12 ∧ (s.ward w).resume = false ∧ (s.ward w).leaving = false then (s.wardResume w).finish via St.ok
    else s.finish via St.ok

/-- HOLD (Table 14-3). -/
def execHold (w : Nat) (via : Via) (s : State) : Out :=
  let st := (s.ward w).state
  doIf (s.wardGiven via w 2) s <|
    if s.shadow_ then s.finish via St.refusedState
    else if stepping st then (s.setWard w { s.ward w with hold := true }).finish via St.ok
    else if st = 0 ∨ st = 12 then s.finish via St.ok
    else s.finish via St.refusedState

/-- DOWN (Table 14-3, R358): the step abandoned, steps 1 to 3 of R354, OFF at all-OFF; auto_up is cleared (R341). -/
def execDown (w : Nat) (via : Via) (s : State) : Out :=
  let st := (s.ward w).state
  let s1 := s.setWard w { s.ward w with autoOff := true }
  doIf (s.wardGiven via w 3) s <|
    if s.shadow_ then s.finish via St.refusedState
    else if st = 0 ∨ st = 14 then s1.finish via St.ok
    else
      let t := s1.wardCut w
      let t := t.setWard w { t.ward w with leaving := true, sub := 99, op := 0, hold := false, resume := false, upDue := false, deadFrom := none }
      (t.wardWatch w).finish via St.ok

/-- CLEAR (Table 14-3). -/
def execClear (w : Nat) (via : Via) (s : State) : Out :=
  let st := (s.ward w).state
  doIf (s.wardGiven via w 4) s <|
    if s.shadow_ then s.finish via St.refusedState
    else if st = 14 then (s.wardEnter w 0).finish via St.ok
    else if st = 0 then s.finish via St.ok
    else s.finish via St.refusedState

/-- AUTO_UP (R341). -/
def execAutoUp (w : Nat) (s : State) : Out :=
  let auto := ((s.trayWard w).map (·.autoUp)).getD false && !(s.ward w).autoOff
  doIf (s.fwUp && auto && (s.ward w).state == 0 && !s.leakStands w && s.admitted && (s.upRefusal w).isNone) s (s.wardUp w)

/-- stagger_ms have passed since the last power-up of every other ward group (R342). -/
def State.staggered (s : State) (w : Nat) : Bool :=
  let ms := (s.tray.map trayStagger).getD 10
  (List.range 8).all fun g => g == w || match (s.zgrp g).upStart with
    | some t => decide (t + ms * 1000 ≤ s.bootUs)
    | none => true

/-- STAGGERED_POWER_UP (R342): the lowest waiting ward whose group is OFF; none for which a leak latch stands (R297). -/
def execStaggeredPowerUp (w : Nat) (s : State) : Out :=
  let waits (v : Nat) : Bool := (s.ward v).state == 1 && (s.ward v).upDue && s.gstate v == 0 && !(s.ward v).leaving
  doIf (s.fwUp && !s.shadow_ && waits w && !(List.range w).any waits && s.staggered w && !s.leakStands w) s
    ((s.setWard w { s.ward w with upDue := false }).powerUp w)

/-! ## Store copies (R348) -/

/-- A ward of the type that still needs the copy. -/
def State.needsCopy (s : State) (pattern : Bool) (wt : BitVec 32) (w : Nat) : Bool :=
  let st := (s.ward w).state
  (s.trayWard w).map (·.wardType) == some wt && decide (1 ≤ st ∧ st ≤ (if pattern then 4 else 9))

/-- The copies into the pattern and image store in their order (R348): every pattern set in ascending ward number of first use, then every
image. -/
def State.copyOrder (s : State) : List (Bool × Nat) :=
  let types := ((List.range 8).filterMap fun w => (s.trayWard w).map (·.wardType)).eraseDups
  let parts (pattern : Bool) : List (Bool × Nat) :=
    (types.filter fun t => (s.wardPart (if pattern then 7 else 6) t).isSome).map fun t => (pattern, t.toNat)
  parts true ++ parts false

/-- The copy that runs: the first that has neither been made nor failed. -/
def State.copyNext (s : State) : Option (Bool × Nat) :=
  s.copyOrder.find? fun c => !s.wards.copies.contains c && !s.wards.badTypes.contains c.2

/-- STORE_COPY_DONE (R348, R457): a copy into the pattern and image store passes its digest check, or fails it. -/
def execStoreCopyDone (pattern : Bool) (wardType : BitVec 32) (ok : Bool) (s : State) : Out :=
  let w := s.wards
  let t :=
    if ok then
      let t := { s with wards := { w with copies := w.copies.filter (· != (pattern, wardType.toNat)) ++ [(pattern, wardType.toNat)] } }
      each (List.range 8) (fun v t =>
        if t.needsCopy pattern wardType v && (t.ward v).deadFrom.isNone && !(t.ward v).leaving then
          (if (t.ward v).state = 4 ∧ pattern = true then t.beginTest v
           else if (t.ward v).state = 9 ∧ pattern = false then t.beginLoad v else t)
        else t) t
    else
      let t := { s with wards := { w with badTypes := wardType.toNat :: w.badTypes.filter (· != wardType.toNat) } }
      each (List.range 8) (fun v t => if t.needsCopy pattern wardType v && !(t.ward v).leaving then t.wardFail v 13 else t) t
  let live := s.secure.copying.isSome && s.secure.copyDue.contains (pattern, wardType.toNat)
  doIf (s.fwUp && s.bit DEV_STAT.mem_active 0 && (live || s.copyNext == some (pattern, wardType.toNat))) s
    (if live then s.liveCopied (pattern, wardType.toNat) ok else t)

/-! ## Polls and deadlines -/

/-- No stack and no ring is training (R343, MAPPED): two bits each, 1 training. -/
def noneTraining (mem : BitVec 16) (ring : BitVec 32) : Bool :=
  (List.range 8).all (fun k => mem.toNat / 4 ^ k % 4 != 1) && (List.range 16).all (fun r => ring.toNat / 4 ^ r % 4 != 1)

/-- BU_POLL (R346, Table 14-4): bu_stat, bu_seq, and in MAPPED mem_stat and ring_stat, as read. -/
def execBuPoll (w : Nat) (stat seq : BitVec 32) (mem : BitVec 16) (ring : BitVec 32) (s : State) : Out :=
  let x := s.ward w
  let status := stat.toNat / 65536 % 256
  let ended := x.op != 0 && stat.toNat / 16777216 == x.op && status != St.busy && seq.toNat == (x.opSeq + 1) % 4294967296
  let t := (s.setWard w { x with opSeq := seq.toNat }).opEnded w status
  doIf (s.fwUp && s.portUp && !s.shadow_) s
    (if s.linked w && stepping x.state && x.sub == 2 && !x.leaving && ended && (x.op != 3 || status != 0 || noneTraining mem ring) then t
     else s.wardWatch w)

/-- BU_DEADLINE (R354, R357): cause 5; cause 6 for a held ward whose port does not link. -/
def execBuDeadline (w : Nat) (s : State) : Out :=
  let x := s.ward w
  let st := if x.state = 12 ∧ x.resume = true then (if x.sub = 0 then 2 else 3) else x.state
  let late := match (s.trayWard w).bind (stepMs · st), x.deadFrom with
    | some ms, some t => decide (t + ms * 1000 ≤ s.bootUs)
    | _, _ => false
  doIf (s.fwUp && !s.shadow_ && late && !x.leaving) s (s.wardFail w (if x.state = 12 ∧ x.sub = 0 then 6 else 5))

/-! ## Reset sequences (R377 to R381) -/

/-- The first refusal of Table 15-7. -/
def State.seqRefusal (s : State) (w op target : Nat) : Option Nat :=
  let x := s.ward w
  if s.shadow_ || !inService x.state || x.leaving then some St.refusedState
  else if x.seq.isSome then some St.busy
  else if op ≠ 1 ∧ (x.at_ 0x28).testBit 0 = false then some St.refusedState
  else if op = 1 then (if x.half 0x20 ≤ target ∨ x.effective.testBit target = true then some St.refusedState else none)
  else if x.half 0x22 ≤ target then some St.badDescriptor
  else if (op = 4) = (x.partsOff.testBit target = true) then none else some St.refusedState

/-- A request for a reset sequence: refused, or begun with its first write or QUIESCE. -/
def State.seqStart (s : State) (w op target : Nat) (via : Via) : Out :=
  let q : ResetSeq := { op, target, via, startAt := s.bootUs, step := 1, stepAt := s.bootUs }
  doIf (s.fwUp && s.given via 0x0303 fun d => descParam d 0x2C 1 == w && descParam d 0x2D 1 == op && descParam d 0x2E 2 == target) s <|
    match s.seqRefusal w op target with
    | some c => s.finish via c (if c = St.badDescriptor then 0x2E else 0)
    | none =>
      let s := s.begin_ via
      if op = 1 then s.resetOp w q 1
      else if op = 4 then s.resetOp w q 6
      else (s.setWard w { s.ward w with seq := some q }).sendCtrl w 1 target (.firmware 0)

/-- CORE_RESET (R378). -/
def execCoreReset (w : Nat) (core : BitVec 16) (via : Via) (s : State) : Out := s.seqStart w 1 core.toNat via

/-- PARTITION_RESET (R379). -/
def execPartitionReset (w : Nat) (part : BitVec 16) (via : Via) (s : State) : Out := s.seqStart w 2 part.toNat via

/-- PARTITION_OFF (R381). -/
def execPartitionOff (w : Nat) (part : BitVec 16) (via : Via) (s : State) : Out := s.seqStart w 3 part.toNat via

/-- PARTITION_ON (R381). -/
def execPartitionOn (w : Nat) (part : BitVec 16) (via : Via) (s : State) : Out := s.seqStart w 4 part.toNat via

/-- RST_POLL (R376, R382): rst_stat and rst_seq as read; an operation that has not ended within 10 ms ends with TIMEOUT. -/
def execRstPoll (w : Nat) (stat seq : BitVec 32) (s : State) : Out :=
  let x := s.ward w
  doIf (s.fwUp && s.portUp && s.linked w) s <|
    match x.seq with
    | none => s
    | some q =>
      let status := stat.toNat / 65536 % 256
      if q.step ≠ 3 then s
      else if stat.toNat / 16777216 = q.running ∧ status ≠ St.busy ∧ seq.toNat ≠ x.rstSeq then
        (s.setWard w { x with rstSeq := seq.toNat }).seqOpEnded w q status
      else if q.stepAt + 10000 ≤ s.bootUs then s.seqOpEnded w q St.timeout
      else s

/-! ## Ward descriptors -/

/-- The ward status record of Table 14-10. -/
def State.wardRecord (s : State) (w : Nat) : List Byte :=
  let x := s.ward w
  let auto := ((s.trayWard w).map (·.autoUp)).getD false && !x.autoOff
  let flags := x.hold.toNat + (s.leakStands w).toNat * 2 + auto.toNat * 4 + (decide (x.verdict = 2)).toNat * 8
  leBytes 1 x.state ++ leBytes 1 x.failState ++ leBytes 1 x.failCause ++ leBytes 1 x.attempts ++ leBytes 1 flags ++
  leBytes 1 (s.rd WPORT_STAT.lanes w) ++ leBytes 2 x.good ++ leBytes 2 x.failed ++ leBytes 2 x.incon ++ leBytes 4 0 ++
  leBytes 8 x.entered ++ leBytes 8 x.upTick

/-- Bytes written to a descriptor's buffer at addr0 (R398). -/
def State.dmaOut (s : State) (via : Via) (l : List Byte) : State :=
  match s.descOf via with
  | some d => { s with host := { s.host with written := (d.addr0.toNat, l) } }
  | none => s

/-- WARD_STATUS (R359): eight records, ward 0 first. -/
def execWardStatus (via : Via) (s : State) : Out :=
  doIf (viaRing via && s.fwUp && s.given via 0x0301 fun _ => true) s
    ((s.dmaOut via ((List.range 8).flatMap s.wardRecord)).finish via St.ok)

/-- WARD_REG (R319, R320): the host's register proxy; `data` are the words at addr0 for a write. -/
def execWardReg (w : Nat) (via : Via) (data : List (BitVec 32)) (s : State) : Out :=
  doIf (s.fwUp && s.given via 0x0302 fun d => descParam d 0x2C 1 == w) s <|
    match via, s.descOf via with
    | .ring r slot, some d =>
      let n := descParam d 0x2E 1
      if s.shadow_ then s.finish via St.refusedState
      else (s.begin_ via).request w
        { owner := .host r.toNat slot.toNat, read := descParam d 0x2D 1 == 1, addr := descParam d 0x30 6, count := n,
          data := if descParam d 0x2D 1 = 1 then [] else (List.range n).map fun i => data.getD i 0 }
    | _, _ => s

/-- DEFECT_MAP_READ (R363): fuse, soft and effective maps of the last MAP. -/
def execDefectMapRead (w : Nat) (via : Via) (s : State) : Out :=
  let x := s.ward w
  doIf (viaRing via && s.fwUp && s.given via 0x0304 fun d => descParam d 0x2C 1 == w) s
    (if x.mapped then (s.dmaOut via (leBytes 192 x.fuse ++ leBytes 192 x.soft ++ leBytes 192 x.effective)).finish via St.ok
     else s.finish via St.refusedState)

/-- The first failing check of a licence (R372): the signature and key slot, the other conditions of R371, a stored licence as new, room. -/
def State.licRefusal (s : State) (l : Licence) : Option Nat :=
  if !l.sigOk || !s.licKeyGood (licKey l) then some St.badSignature
  else if !licFields l then some St.badDescriptor
  else match (s.licenceFor (licDie l)).bind fun k => Tab.get none s.wards.licences k with
    | some old => if licNat l 0x1C 4 ≤ licNat old 0x1C 4 then some St.refusedGuard
      else if s.wards.licences.length < 256 then none else some St.noResource
    | none => if s.wards.licences.length < 256 then none else some St.noResource

/-- LICENCE_INSTALL (R372): written into a free slot, and any older licence for the die erased. -/
def execLicenceInstall (via : Via) (lic : Licence) (s : State) : Out :=
  doIf (viaRing via && s.fwUp && s.given via 0x0305 fun _ => true) s <| s.useCrypto fun s =>
    match s.licRefusal lic with
    | some c => s.finish via c
    | none =>
      let l := s.wards.licences
      let free := ((List.range 256).find? fun k => (Tab.get none l k).isNone).getD 0
      let old := s.licenceFor (licDie lic)
      let l := match old with
        | some k => Tab.set none l k none
        | none => l
      (({ s with wards := { s.wards with licences := Tab.set none l free (some lic) } }).record Ev.WARD_LIC_INSTALLED Src.security
        [dieDigest (licDie lic), licNat lic 0x1C 4, licKey lic]).finish via St.ok

/-- LEAK_CLEAR (R296): tray firmware increments clear_seq of the branch object; the descriptor completes on the object's event, REFUSED_STATE in the
shadow role (R500). -/
def execLeakClear (branch : Nat) (via : Via) (s : State) : Out :=
  doIf (s.fwUp && s.given via 0x0402 fun d => descParam d 0x2C 1 == branch) s
    (if s.shadow_ then s.finish via St.refusedState else (s.begin_ via).clearBranch branch)

end Sys2Proof.Machine
end

