-- ==== Sys2Proof/Machine/Dispatch.lean ====
section
/-!
DEFINITION. The meaning of every command, one arm per constructor.
-/
namespace Sys2Proof.Machine

def exec (i : Instr) (s : State) : Host.Outcome State Fault Refusal :=
  match i with
  | .porstAssert short => Sys2Proof.Machine.execPorstAssert short s
  | .porstRelease tcrit tchan twinRole bootHold fandef xspiMode testen => Sys2Proof.Machine.execPorstRelease tcrit tchan twinRole bootHold fandef xspiMode testen s
  | .stage2Start cub => Sys2Proof.Machine.execStage2Start cub s
  | .burrowReplay => Sys2Proof.Machine.execBurrowReplay s
  | .imageSelection mismatch badA badB => Sys2Proof.Machine.execImageSelection mismatch badA badB s
  | .core0Release => Sys2Proof.Machine.execCore0Release s
  | .firmwareReady => Sys2Proof.Machine.execFirmwareReady s
  | .hbmTrainingEnd failed => Sys2Proof.Machine.execHbmTrainingEnd failed s
  | .xtalLoss => Sys2Proof.Machine.execXtalLoss s
  | .xtal32kLoss => Sys2Proof.Machine.execXtal32kLoss s
  | .watchdogLapse => Sys2Proof.Machine.execWatchdogLapse s
  | .applicationReset => Sys2Proof.Machine.execApplicationReset s
  | .pendingPowerOnReset => Sys2Proof.Machine.execPendingPowerOnReset s
  | .vcoreLoss => Sys2Proof.Machine.execVcoreLoss s
  | .vcoreReturn => Sys2Proof.Machine.execVcoreReturn s
  | .vsettLoss => Sys2Proof.Machine.execVsettLoss s
  | .vsettReturn => Sys2Proof.Machine.execVsettReturn s
  | .vaoBrownout => Sys2Proof.Machine.execVaoBrownout s
  | .vaoReturn => Sys2Proof.Machine.execVaoReturn s
  | .cxlPerstAssert => Sys2Proof.Machine.execCxlPerstAssert s
  | .cxlLinkDown cause => Sys2Proof.Machine.execCxlLinkDown cause s
  | .linkL0 rate width => Sys2Proof.Machine.execLinkL0 rate width s
  | .sampleWord sub words => Sys2Proof.Machine.execSampleWord sub words s
  | .inputCollapse => Sys2Proof.Machine.execInputCollapse s
  | .pgChange pin high => Sys2Proof.Machine.execPgChange pin high s
  | .commit c b v => Sys2Proof.Machine.execCommit c b v s
  | .windowCommitApply c b => Sys2Proof.Machine.execWindowCommitApply c b s
  | .feedWindowCommit n v => Sys2Proof.Machine.execFeedWindowCommit n v s
  | .channelConfigWrite c v => Sys2Proof.Machine.execChannelConfigWrite c v s
  | .channelLock c => Sys2Proof.Machine.execChannelLock c s
  | .meterClear m => Sys2Proof.Machine.execMeterClear m s
  | .meterPavgUpdate m => Sys2Proof.Machine.execMeterPavgUpdate m s
  | .accumulatorLowRead m reverse => Sys2Proof.Machine.execAccumulatorLowRead m reverse s
  | .persistWrite => Sys2Proof.Machine.execPersistWrite s
  | .calibrationRequest => Sys2Proof.Machine.execCalibrationRequest s
  | .calPeriodExpiry => Sys2Proof.Machine.execCalPeriodExpiry s
  | .calTempDelta c => Sys2Proof.Machine.execCalTempDelta c s
  | .calSpareTakeover c sub => Sys2Proof.Machine.execCalSpareTakeover c sub s
  | .calOwnConverterDone c sub => Sys2Proof.Machine.execCalOwnConverterDone c sub s
  | .calReturn c sub within => Sys2Proof.Machine.execCalReturn c sub within s
  | .dieTemperatureRead temps => Sys2Proof.Machine.execDieTemperatureRead temps s
  | .channelFault c short bad => Sys2Proof.Machine.execChannelFault c short bad s
  | .channelFaultClear c => Sys2Proof.Machine.execChannelFaultClear c s
  | .settTickBoundary k half upsets => Sys2Proof.Machine.execSettTickBoundary k half upsets s
  | .tickOverrun n half => Sys2Proof.Machine.execTickOverrun n half s
  | .bind n obj => Sys2Proof.Machine.execBind n obj s
  | .start n obj => Sys2Proof.Machine.execStart n obj s
  | .stop n obj => Sys2Proof.Machine.execStop n obj s
  | .unbind n obj => Sys2Proof.Machine.execUnbind n obj s
  | .instructionMemoryWrite n a v => Sys2Proof.Machine.execInstructionMemoryWrite n a v s
  | .bindingWrite n slot v => Sys2Proof.Machine.execBindingWrite n slot v s
  | .firmwareValueWrite k off v => Sys2Proof.Machine.execFirmwareValueWrite k off v s
  | .migrationGo src dst => Sys2Proof.Machine.execMigrationGo src dst s
  | .migrationCopy half => Sys2Proof.Machine.execMigrationCopy half s
  | .migrationHandover half => Sys2Proof.Machine.execMigrationHandover half s
  | .settEnable k => Sys2Proof.Machine.execSettEnable k s
  | .settDisable k => Sys2Proof.Machine.execSettDisable k s
  | .periodWrite k v => Sys2Proof.Machine.execPeriodWrite k v s
  | .termWrite r hi v => Sys2Proof.Machine.execTermWrite r hi v s
  | .ruleDisable r => Sys2Proof.Machine.execRuleDisable r s
  | .ruleLock r => Sys2Proof.Machine.execRuleLock r s
  | .latchClear r => Sys2Proof.Machine.execLatchClear r s
  | .rfxRuleTrue r => Sys2Proof.Machine.execRfxRuleTrue r s
  | .rfxRuleFalse r => Sys2Proof.Machine.execRfxRuleFalse r s
  | .pop => Sys2Proof.Machine.execPop s
  | .engNop n => Sys2Proof.Machine.execEngNop n s
  | .engAdd n rd ra rb => Sys2Proof.Machine.execEngAdd n rd ra rb s
  | .engSub n rd ra rb => Sys2Proof.Machine.execEngSub n rd ra rb s
  | .engAddw n rd ra rb => Sys2Proof.Machine.execEngAddw n rd ra rb s
  | .engSubw n rd ra rb => Sys2Proof.Machine.execEngSubw n rd ra rb s
  | .engMul n rd ra rb => Sys2Proof.Machine.execEngMul n rd ra rb s
  | .engImul n rd ra rb => Sys2Proof.Machine.execEngImul n rd ra rb s
  | .engDiv n rd ra rb => Sys2Proof.Machine.execEngDiv n rd ra rb s
  | .engMin n rd ra rb => Sys2Proof.Machine.execEngMin n rd ra rb s
  | .engMax n rd ra rb => Sys2Proof.Machine.execEngMax n rd ra rb s
  | .engAbs n rd ra => Sys2Proof.Machine.execEngAbs n rd ra s
  | .engNeg n rd ra => Sys2Proof.Machine.execEngNeg n rd ra s
  | .engLim n rd ra rb => Sys2Proof.Machine.execEngLim n rd ra rb s
  | .engFlt n rd ra rb => Sys2Proof.Machine.execEngFlt n rd ra rb s
  | .engMac n rd ra rb => Sys2Proof.Machine.execEngMac n rd ra rb s
  | .engAnd n rd ra rb => Sys2Proof.Machine.execEngAnd n rd ra rb s
  | .engOr n rd ra rb => Sys2Proof.Machine.execEngOr n rd ra rb s
  | .engXor n rd ra rb => Sys2Proof.Machine.execEngXor n rd ra rb s
  | .engShl n rd ra rb => Sys2Proof.Machine.execEngShl n rd ra rb s
  | .engShr n rd ra rb => Sys2Proof.Machine.execEngShr n rd ra rb s
  | .engSar n rd ra rb => Sys2Proof.Machine.execEngSar n rd ra rb s
  | .engAddi n rd ra imm => Sys2Proof.Machine.execEngAddi n rd ra imm s
  | .engAndi n rd ra imm => Sys2Proof.Machine.execEngAndi n rd ra imm s
  | .engOri n rd ra imm => Sys2Proof.Machine.execEngOri n rd ra imm s
  | .engXori n rd ra imm => Sys2Proof.Machine.execEngXori n rd ra imm s
  | .engShli n rd ra sh => Sys2Proof.Machine.execEngShli n rd ra sh s
  | .engShri n rd ra sh => Sys2Proof.Machine.execEngShri n rd ra sh s
  | .engSari n rd ra sh => Sys2Proof.Machine.execEngSari n rd ra sh s
  | .engLdh n rd imm => Sys2Proof.Machine.execEngLdh n rd imm s
  | .engLdp n rd ra off => Sys2Proof.Machine.execEngLdp n rd ra off s
  | .engStp n rd ra off => Sys2Proof.Machine.execEngStp n rd ra off s
  | .engLdc n rd ra off => Sys2Proof.Machine.execEngLdc n rd ra off s
  | .engStc n rd ra off => Sys2Proof.Machine.execEngStc n rd ra off s
  | .engLdk n rd addr => Sys2Proof.Machine.execEngLdk n rd addr s
  | .engRd n rd slot sel => Sys2Proof.Machine.execEngRd n rd slot sel s
  | .engWr n slot ra => Sys2Proof.Machine.execEngWr n slot ra s
  | .engWpr n slot ra => Sys2Proof.Machine.execEngWpr n slot ra s
  | .engEvt n code ra rb => Sys2Proof.Machine.execEngEvt n code ra rb s
  | .engMbx n tag ra => Sys2Proof.Machine.execEngMbx n tag ra s
  | .engRdst n rd sel => Sys2Proof.Machine.execEngRdst n rd sel s
  | .engTset n tm ra => Sys2Proof.Machine.execEngTset n tm ra s
  | .engTseti n tm imm => Sys2Proof.Machine.execEngTseti n tm imm s
  | .engTrd n rd tm => Sys2Proof.Machine.execEngTrd n rd tm s
  | .engJal n target => Sys2Proof.Machine.execEngJal n target s
  | .engJr n ra => Sys2Proof.Machine.execEngJr n ra s
  | .engBeq n ra rb target => Sys2Proof.Machine.execEngBeq n ra rb target s
  | .engBne n ra rb target => Sys2Proof.Machine.execEngBne n ra rb target s
  | .engBlt n ra rb target => Sys2Proof.Machine.execEngBlt n ra rb target s
  | .engBge n ra rb target => Sys2Proof.Machine.execEngBge n ra rb target s
  | .engJmp n target => Sys2Proof.Machine.execEngJmp n target s
  | .engBtx n tm target => Sys2Proof.Machine.execEngBtx n tm target s
  | .engBst n bit target => Sys2Proof.Machine.execEngBst n bit target s
  | .engYld n => Sys2Proof.Machine.execEngYld n s
  | .trayTickBoundary alvEdge fec acts => Sys2Proof.Machine.execTrayTickBoundary alvEdge fec acts s
  | .entryWrite k w v => Sys2Proof.Machine.execEntryWrite k w v s
  | .zitherLock => Sys2Proof.Machine.execZitherLock s
  | .powerUp g via => Sys2Proof.Machine.execPowerUp g via s
  | .powerDown g via => Sys2Proof.Machine.execPowerDown g via s
  | .pendingPowerUpStart g => Sys2Proof.Machine.execPendingPowerUpStart g s
  | .entryDue k => Sys2Proof.Machine.execEntryDue k s
  | .entryGood k => Sys2Proof.Machine.execEntryGood k s
  | .goodDeadlineExpiry k => Sys2Proof.Machine.execGoodDeadlineExpiry k s
  | .falseGoodInterval k => Sys2Proof.Machine.execFalseGoodInterval k s
  | .pgLostDeadline k => Sys2Proof.Machine.execPgLostDeadline k s
  | .powerDownEntryDue k => Sys2Proof.Machine.execPowerDownEntryDue k s
  | .offConfirmed k => Sys2Proof.Machine.execOffConfirmed k s
  | .offDeadlineExpiry k => Sys2Proof.Machine.execOffDeadlineExpiry k s
  | .dwellEnd g => Sys2Proof.Machine.execDwellEnd g s
  | .enRedrive => Sys2Proof.Machine.execEnRedrive s
  | .feedGateOn b => Sys2Proof.Machine.execFeedGateOn b s
  | .gateCheckExpiry g => Sys2Proof.Machine.execGateCheckExpiry g s
  | .feedReverseDue b => Sys2Proof.Machine.execFeedReverseDue b s
  | .settleExpiry => Sys2Proof.Machine.execSettleExpiry s
  | .rampEnd => Sys2Proof.Machine.execRampEnd s
  | .rampShortfallExpiry => Sys2Proof.Machine.execRampShortfallExpiry s
  | .rampDeadlineExpiry => Sys2Proof.Machine.execRampDeadlineExpiry s
  | .timedFuseExpiry => Sys2Proof.Machine.execTimedFuseExpiry s
  | .retryTimerExpiry => Sys2Proof.Machine.execRetryTimerExpiry s
  | .tripClearTimer => Sys2Proof.Machine.execTripClearTimer s
  | .feedClear via => Sys2Proof.Machine.execFeedClear via s
  | .forceOff via => Sys2Proof.Machine.execForceOff via s
  | .feedRelease via => Sys2Proof.Machine.execFeedRelease via s
  | .feedLock => Sys2Proof.Machine.execFeedLock s
  | .leverOpen => Sys2Proof.Machine.execLeverOpen s
  | .leverClosed => Sys2Proof.Machine.execLeverClosed s
  | .removalEnd => Sys2Proof.Machine.execRemovalEnd s
  | .dischTimeout => Sys2Proof.Machine.execDischTimeout s
  | .holdExpiry w => Sys2Proof.Machine.execHoldExpiry w s
  | .walrtQualified w low => Sys2Proof.Machine.execWalrtQualified w low s
  | .floorWrite w code => Sys2Proof.Machine.execFloorWrite w code s
  | .avsFrameDone w resp => Sys2Proof.Machine.execAvsFrameDone w resp s
  | .avsResend w => Sys2Proof.Machine.execAvsResend w s
  | .avsPoll w status => Sys2Proof.Machine.execAvsPoll w status s
  | .tileEnable t => Sys2Proof.Machine.execTileEnable t s
  | .tileDisable t => Sys2Proof.Machine.execTileDisable t s
  | .tileRun t upsets => Sys2Proof.Machine.execTileRun t upsets s
  | .tileRunClear t => Sys2Proof.Machine.execTileRunClear t s
  | .tileSramWrite t kind a v => Sys2Proof.Machine.execTileSramWrite t kind a v s
  | .frameStart t => Sys2Proof.Machine.execFrameStart t s
  | .fastWindowEnd t cycles done => Sys2Proof.Machine.execFastWindowEnd t cycles done s
  | .frameEnd t done => Sys2Proof.Machine.execFrameEnd t done s
  | .jobRelease t j done => Sys2Proof.Machine.execJobRelease t j done s
  | .jobEnd t j half upsets => Sys2Proof.Machine.execJobEnd t j half upsets s
  | .jobBoundReached t j done => Sys2Proof.Machine.execJobBoundReached t j done s
  | .sramScrub t upsets => Sys2Proof.Machine.execSramScrub t upsets s
  | .ingestBlockWrite telem source => Sys2Proof.Machine.execIngestBlockWrite telem source s
  | .streamGap t ix => Sys2Proof.Machine.execStreamGap t ix s
  | .offerWindowEnd => Sys2Proof.Machine.execOfferWindowEnd s
  | .offerRead w => Sys2Proof.Machine.execOfferRead w s
  | .driveUpdate => Sys2Proof.Machine.execDriveUpdate s
  | .dutyWrite o v => Sys2Proof.Machine.execDutyWrite o v s
  | .zoneTake z => Sys2Proof.Machine.execZoneTake z s
  | .zoneRelease z => Sys2Proof.Machine.execZoneRelease z s
  | .zoneRefreshTimeout z => Sys2Proof.Machine.execZoneRefreshTimeout z s
  | .checkJudgement o => Sys2Proof.Machine.execCheckJudgement o s
  | .retryCheckStart o => Sys2Proof.Machine.execRetryCheckStart o s
  | .tachPulse ix => Sys2Proof.Machine.execTachPulse ix s
  | .tachStopped o => Sys2Proof.Machine.execTachStopped o s
  | .fanClear o => Sys2Proof.Machine.execFanClear o s
  | .flowUpdate f => Sys2Proof.Machine.execFlowUpdate f s
  | .lowFlowExpiry f => Sys2Proof.Machine.execLowFlowExpiry f s
  | .flowOkExpiry f => Sys2Proof.Machine.execFlowOkExpiry f s
  | .valveCloseWrite v => Sys2Proof.Machine.execValveCloseWrite v s
  | .critResult a b => Sys2Proof.Machine.execCritResult a b s
  | .critGraceEnd => Sys2Proof.Machine.execCritGraceEnd s
  | .leakRstatClear r => Sys2Proof.Machine.execLeakRstatClear r s
  | .portEnable p => Sys2Proof.Machine.execPortEnable p s
  | .portDisable p => Sys2Proof.Machine.execPortDisable p s
  | .lightQualified p l0 l1 => Sys2Proof.Machine.execLightQualified p l0 l1 s
  | .hello p h major minor => Sys2Proof.Machine.execHello p h major minor s
  | .trainingTimeout p => Sys2Proof.Machine.execTrainingTimeout p s
  | .laneFail p lane cause => Sys2Proof.Machine.execLaneFail p lane cause s
  | .laneRejoin p lane us => Sys2Proof.Machine.execLaneRejoin p lane us s
  | .faultRetrainExpiry p => Sys2Proof.Machine.execFaultRetrainExpiry p s
  | .rsp p f flashFails => Sys2Proof.Machine.execRsp p f flashFails s
  | .reqResend p tag => Sys2Proof.Machine.execReqResend p tag s
  | .telem p words ns => Sys2Proof.Machine.execTelem p words ns s
  | .evtFrame p h sealOk tag code data => Sys2Proof.Machine.execEvtFrame p h sealOk tag code data s
  | .drained p h part => Sys2Proof.Machine.execDrained p h part s
  | .released p h part => Sys2Proof.Machine.execReleased p h part s
  | .fenceDone p h arg => Sys2Proof.Machine.execFenceDone p h arg s
  | .ctrlResend p code arg => Sys2Proof.Machine.execCtrlResend p code arg s
  | .drainDeadline p part => Sys2Proof.Machine.execDrainDeadline p part s
  | .fenceDeadline p arg => Sys2Proof.Machine.execFenceDeadline p arg s
  | .bulk p stream h sealOk off len diffs uncorr => Sys2Proof.Machine.execBulk p stream h sealOk off len diffs uncorr s
  | .back p stream h sealOk off credit => Sys2Proof.Machine.execBack p stream h sealOk off credit s
  | .bulkTimeout p stream => Sys2Proof.Machine.execBulkTimeout p stream s
  | .sec p f => Sys2Proof.Machine.execSec p f s
  | .rekeyDue p => Sys2Proof.Machine.execRekeyDue p s
  | .sourceEnableWrite k on => Sys2Proof.Machine.execSourceEnableWrite k on s
  | .laserPoll k r => Sys2Proof.Machine.execLaserPoll k r s
  | .inBandInterrupt k stat => Sys2Proof.Machine.execInBandInterrupt k stat s
  | .alsDecision k which => Sys2Proof.Machine.execAlsDecision k which s
  | .fullPowerAllowed k => Sys2Proof.Machine.execFullPowerAllowed k s
  | .laserSettleCheck k r => Sys2Proof.Machine.execLaserSettleCheck k r s
  | .releaseBus b => Sys2Proof.Machine.execReleaseBus b s
  | .up w via => Sys2Proof.Machine.execUp w via s
  | .hold w via => Sys2Proof.Machine.execHold w via s
  | .down w via => Sys2Proof.Machine.execDown w via s
  | .clear w via => Sys2Proof.Machine.execClear w via s
  | .autoUp w => Sys2Proof.Machine.execAutoUp w s
  | .staggeredPowerUp w => Sys2Proof.Machine.execStaggeredPowerUp w s
  | .storeCopyDone pattern wardType ok => Sys2Proof.Machine.execStoreCopyDone pattern wardType ok s
  | .buPoll w stat seq mem ring => Sys2Proof.Machine.execBuPoll w stat seq mem ring s
  | .buDeadline w => Sys2Proof.Machine.execBuDeadline w s
  | .coreReset w core via => Sys2Proof.Machine.execCoreReset w core via s
  | .partitionReset w part via => Sys2Proof.Machine.execPartitionReset w part via s
  | .partitionOff w part via => Sys2Proof.Machine.execPartitionOff w part via s
  | .partitionOn w part via => Sys2Proof.Machine.execPartitionOn w part via s
  | .rstPoll w stat seq => Sys2Proof.Machine.execRstPoll w stat seq s
  | .nopDescriptor via => Sys2Proof.Machine.execNopDescriptor via s
  | .hostReset via => Sys2Proof.Machine.execHostReset via s
  | .timeAnchor via => Sys2Proof.Machine.execTimeAnchor via s
  | .telemSubscribe via => Sys2Proof.Machine.execTelemSubscribe via s
  | .telemCancel via => Sys2Proof.Machine.execTelemCancel via s
  | .subscriptionEntry sub => Sys2Proof.Machine.execSubscriptionEntry sub s
  | .eventRead via => Sys2Proof.Machine.execEventRead via s
  | .recorderFreeze via => Sys2Proof.Machine.execRecorderFreeze via s
  | .recorderRelease via => Sys2Proof.Machine.execRecorderRelease via s
  | .wardStatus via => Sys2Proof.Machine.execWardStatus via s
  | .wardReg w via data => Sys2Proof.Machine.execWardReg w via data s
  | .defectMapRead w via => Sys2Proof.Machine.execDefectMapRead w via s
  | .licenceInstall via lic => Sys2Proof.Machine.execLicenceInstall via lic s
  | .leakClear branch via => Sys2Proof.Machine.execLeakClear branch via s
  | .stageComponent via part room evict => Sys2Proof.Machine.execStageComponent via part room evict s
  | .stageDone readOk => Sys2Proof.Machine.execStageDone readOk s
  | .activateSet via m models shadowOk => Sys2Proof.Machine.execActivateSet via m models shadowOk s
  | .activationTick => Sys2Proof.Machine.execActivationTick s
  | .commitConfirm via => Sys2Proof.Machine.execCommitConfirm via s
  | .trialExpiry => Sys2Proof.Machine.execTrialExpiry s
  | .revokeKey via rv => Sys2Proof.Machine.execRevokeKey via rv s
  | .tokenSubmit via t => Sys2Proof.Machine.execTokenSubmit via t s
  | .tapToken t => Sys2Proof.Machine.execTapToken t s
  | .evidenceReport via signed => Sys2Proof.Machine.execEvidenceReport via signed s
  | .ownerLockSet via => Sys2Proof.Machine.execOwnerLockSet via s
  | .ownerLockClear via t => Sys2Proof.Machine.execOwnerLockClear via t s
  | .ringEnable r v => Sys2Proof.Machine.execRingEnable r v s
  | .ringDisable r v => Sys2Proof.Machine.execRingDisable r v s
  | .sqDoorbell r v => Sys2Proof.Machine.execSqDoorbell r v s
  | .cqDoorbell r v => Sys2Proof.Machine.execCqDoorbell r v s
  | .descriptorFetch r d => Sys2Proof.Machine.execDescriptorFetch r d s
  | .coalesceTimeout r => Sys2Proof.Machine.execCoalesceTimeout r s
  | .intCauseClear v => Sys2Proof.Machine.execIntCauseClear v s
  | .dmaFailure r acc => Sys2Proof.Machine.execDmaFailure r acc s
  | .hdmAccess write line data bad0 bad1 => Sys2Proof.Machine.execHdmAccess write line data bad0 bad1 s
  | .hdmDecoderCommit gib ways => Sys2Proof.Machine.execHdmDecoderCommit gib ways s
  | .segmentComplete => Sys2Proof.Machine.execSegmentComplete s
  | .recTrigger => Sys2Proof.Machine.execRecTrigger s
  | .postSpanEnd => Sys2Proof.Machine.execPostSpanEnd s
  | .hbmScrub offset bad => Sys2Proof.Machine.execHbmScrub offset bad s
  | .sharedMemoryScrub sett word bad => Sys2Proof.Machine.execSharedMemoryScrub sett word bad s
  | .l2Scrub addr bad => Sys2Proof.Machine.execL2Scrub addr bad s
  | .flashScrub region sector found => Sys2Proof.Machine.execFlashScrub region sector found s
  | .corrRateHour => Sys2Proof.Machine.execCorrRateHour s
  | .flashCommitDone => Sys2Proof.Machine.execFlashCommitDone s
  | .tokenRefill mirror => Sys2Proof.Machine.execTokenRefill mirror s
  | .countRecordDue mirror code source => Sys2Proof.Machine.execCountRecordDue mirror code source s
  | .entryClose mirror code source => Sys2Proof.Machine.execEntryClose mirror code source s
  | .operatingSecond => Sys2Proof.Machine.execOperatingSecond s
  | .twinHello peer adopt lanes => Sys2Proof.Machine.execTwinHello peer adopt lanes s
  | .joinTimeout => Sys2Proof.Machine.execJoinTimeout s
  | .tickFrame tick => Sys2Proof.Machine.execTickFrame tick s
  | .echoExchange t1 t2 t3 t4 => Sys2Proof.Machine.execEchoExchange t1 t2 t3 t4 s
  | .echoTimeout => Sys2Proof.Machine.execEchoTimeout s
  | .mirror c => Sys2Proof.Machine.execMirror c s
  | .twinCommand seq c held => Sys2Proof.Machine.execTwinCommand seq c held s
  | .twinCack seq => Sys2Proof.Machine.execTwinCack seq s
  | .cmdResend seq => Sys2Proof.Machine.execCmdResend seq s
  | .handover seq => Sys2Proof.Machine.execHandover seq s
  | .twinSilence => Sys2Proof.Machine.execTwinSilence s
  | .leadActivation => Sys2Proof.Machine.execLeadActivation s
  | .twinActivationTimeout => Sys2Proof.Machine.execTwinActivationTimeout s
  | .registerLock reg ix v => Sys2Proof.Machine.execRegisterLock reg ix v s
  | .registerWrite reg ix v => Sys2Proof.Machine.execRegisterWrite reg ix v s
  | .cxlPerstRelease => Sys2Proof.Machine.execCxlPerstRelease s
  | .pmbusAlert bus => Sys2Proof.Machine.execPmbusAlert bus s

end Sys2Proof.Machine
end

