-- ==== Sys2Proof/Machine/Step.lean ====
section
/-!
DEFINITION. One step of the T840: the command that has waited longest takes effect.
-/
namespace Sys2Proof.Machine

/-- The step: the command at the front of the queue is executed with the rest of the queue; with no command waiting the T840 idles. -/
def step (s : State) : Host.Outcome State Fault Refusal :=
  match s.pending with
  | [] => .next s
  | c :: rest => exec c { s with pending := rest }

/-- The state with the command that a word spells at the front of its queue, unchanged where the word spells none. -/
def State.withFetchWord (s : State) (nbits w : Nat) : State :=
  match decodeTableWord nbits w with
  | some c => { s with pending := c :: s.pending }
  | none => s

end Sys2Proof.Machine
end

