-- ==== Sys2Proof/Machine/Show.lean ====
section
/-!
DEFINITION. What a read of a register field returns: the register bank, or what the field is defined to show of the blocks.
-/
namespace Sys2Proof.Machine

/-- A list of flags as a number, the first in bit 0. -/
def mask (l : List Bool) : Nat := l.foldr (fun b n => b.toNat + 2 * n) 0

/-- The number of an engine state (Table 5-11). -/
def EngState.number : EngState → Nat
  | .idle => 0
  | .stopped => 1
  | .running => 2
  | .faulted => 3
  | .migrating => 4

/-- The fields of channel, window and meter status that are not held (Tables 4-9, 4-15). -/
def State.showSense (s : State) (i : Nat) : List (Fld × Nat) :=
  [(SNS_CHSTAT.bound, (s.chanBound i).toNat),
   (SNS_CHSTAT.cal_age, min 255 ((s.bootUs - (s.lastCal i).1) / 1000000)),
   (SNS_WSTAT.pending, (decide (s.shadow i ≠ s.active i)).toNat)]

/-- The fields of setts, engines, mailbox and reflex matrix (Tables 5-9 to 5-19, 6-8 to 6-10). -/
def State.showSetts (s : State) (i : Nat) : List (Fld × Nat) :=
  let e := s.engine i
  let b := (s.engine (i / 16)).bind (i % 16)
  let sett (p : Engine → Bool) : List Bool := (settEngines i).map fun n => p (s.engine n)
  let head := s.setts.mailbox.head?
  [(SETT_STAT.fault, ((sett fun e => e.state == .faulted).any id).toNat),
   (SETT_STAT.handover_req, ((sett fun e => e.handover).any id).toNat),
   (SETT_STAT.bound, ((sett fun e => e.state != .idle).filter id).length),
   (SETT_STAT.running, ((sett fun e => e.state == .running).filter id).length),
   (SETT_ENG_STAT.bound_obj, if e.state = .idle then 0 else e.obj),
   (SETT_ENG_STAT.consec, e.consec),
   (SETT_ENG_STAT.handover_req, e.handover.toNat),
   (SETT_ENG_STAT.fault_cause, e.cause),
   (SETT_ENG_STAT.state, e.state.number),
   (SETT_ENG_STAT.cmd_status, e.cmdStatus),
   (SETT_ENG_CYC.last_used, e.lastUsed),
   (SETT_ENG_CYC.max_used, e.maxUsed),
   (SETT_ENG_OVR.overruns, e.overruns),
   (SETT_BIND.kind, b.1),
   (SETT_BIND.index, b.2),
   (RFX_STAT.active, (s.setts.activeRules.contains i).toNat),
   (RFX_SUM.active, s.setts.activeRules.length),
   (RFX_SUM.locked, ((List.range 512).filter (s.bit RFX_ACT.lock)).length),
   (SETT_MBXHEAD.valid, head.isSome.toNat),
   (SETT_MBXHEAD.object, (head.map (·.obj)).getD 0),
   (SETT_MBXHEAD.engine, (head.map (·.engine)).getD 0),
   (SETT_MBXHEAD.tag, (head.map (·.tag)).getD 0),
   (SETT_MBXVAL.value, (head.map (·.value.toNat)).getD 0),
   (SETT_MBXCTL.count, s.setts.mailbox.length)]

/-- The fields of zither, feeds, harps and Marten (Tables 7-8, 8-12, 9-10, 10-11, 10-16). -/
def State.showPower (s : State) (i : Nat) : List (Fld × Nat) :=
  let z := s.zent i
  [(ZIT_ESTAT.phase, z.phase), (ZIT_ESTAT.chatters, min 15 z.chatters), (ZIT_ESTAT.fault, z.fault), (ZIT_ESTAT.good_us, z.goodUs),
   (FEED_STAT.disch, s.dischOut.toNat),
   (FEED_STAT.holdup_ok, (s.alive && !s.flev 9 2).toNat),
   (FEED_STAT.a_present, (s.alive && s.feedPresent false).toNat),
   (FEED_STAT.b_present, (s.alive && s.feedPresent true).toNat),
   (WPORT_LSSTAT.state, s.laserState i),
   (WPORT_LSSTAT.present, (s.laser i).address.isSome.toNat),
   (HARP_WSTAT.rfx, s.rfxCode i), (HARP_WSTAT.obj, s.objCode i), (HARP_WSTAT.walrt_req, s.walrtCode i),
   (HARP_WSTAT.hold, (decide (s.harpRequest i < s.rd HARP_WSTAT.code i)).toNat),
   (HARP_WSTAT.last_up_us, match (s.harp i).upAt with
     | some t => min 65535 (s.bootUs - t)
     | none => 0),
   (MRT_TSTAT.queued, ((s.tile i).jobs.filter fun j => j.2.phase == .released).length),
   (MRT_GSTAT.on_mask, mask ((List.range 4).map fun t => s.tstate t != 0)),
   (MRT_GSTAT.run_mask, mask ((List.range 4).map fun t => s.tstate t == 2)),
   (MRT_ISTAT.sub_msps, (s.subRate + 999) / 1000),
   (MRT_ISTAT.telem_words, (s.telemWords s.running).length)]

/-- The fields of cooling (Table 12-7 and the list after Table 12-11). -/
def State.showCooling (s : State) (i : Nat) : List (Fld × Nat) :=
  [(FAN_OSTAT.speed, min 65535 (s.speed i)),
   (LEAK_RSTAT.cls, s.ropeClass i),
   (FAN_OSTAT.owned, (s.fanOwner i).isSome.toNat),
   (FAN_VLV.owned, mask ((List.range 4).map fun b => (s.ownerOf 11 b).isSome)),
   (FAN_VLV.drive, mask ((List.range 4).map s.valveClosed))]

/-- The fields of the device, secure start, updates and burrow (Tables 16-4 to 16-7, 18-10, 18-11, 19-7, 20-4). -/
def State.showDevice (s : State) (i : Nat) : List (Fld × Nat) :=
  let a := s.secure.slotA
  let b := s.secure.slotB
  [(STEP_ID.minor, s.secure.stepId.toNat / 65536 % 256), (STEP_ID.major, s.secure.stepId.toNat / 16777216),
   (CAP0.marten_tiles, CAP0.marten_tiles.of (capWord s.part.variant)),
   (CAP0.hbm_stacks, CAP0.hbm_stacks.of (capWord s.part.variant)),
   (CAP0.twin_port, CAP0.twin_port.of (capWord s.part.variant)),
   (CAP1.recorder_gib, CAP1.recorder_gib.of (capWord1 s.part.variant)),
   (CAP1.power_max_w, CAP1.power_max_w.of (capWord1 s.part.variant)),
   (DEV_STAT.rings_on, s.ringsOn),
   (SEC_SLOTA.state, a.state), (SEC_SLOTA.trials, min 3 a.trials), (SEC_SLOTA.expired, a.expired.toNat),
   (SEC_SLOTB.state, b.state), (SEC_SLOTB.trials, min 3 b.trials), (SEC_SLOTB.expired, b.expired.toNat),
   (SEC_FUSE.svn_floor, s.secure.svnFloor), (SEC_FUSE.revoked, s.secure.revoked), (SEC_FUSE.empty, s.emptyKeys),
   (SEC_DIEID.word, s.secure.die.toNat / 2 ^ (32 * i)),
   (SEC_UPD.phase, s.phase), (SEC_UPD.owner_lock, s.secure.ownerLock.toNat),
   (SEC_UPD.armed, s.secure.armed.isSome.toNat), (SEC_UPD.full, ((s.secure.armed.map (·.full)).getD false).toNat),
   (SEC_ACTTICK.tick, (s.secure.armed.map (·.at_)).getD 0),
   (SEC_SETSEQ.seq, s.activeSeq.toNat),
   (BRW_STAT.perm_full, (decide (4096 ≤ s.burrow.nextSeq)).toNat),
   (BRW_STAT.flash_coal, (!s.burrow.flashPath.open_.isEmpty).toNat),
   (BRW_STAT.mirror_coal, (!s.burrow.mirrorPath.open_.isEmpty).toNat),
   (BRW_STAT.mirror_off, (!s.mirrorOn).toNat),
   (BRW_STAT.prio_queued, s.burrow.prio.length),
   (BRW_FSEQ.seq, s.burrow.nextSeq)]

/-- What a 32-bit read of one half of an energy accumulator returns (R96): the lower half as it stands, whose read latches the upper one; the
upper half as latched. -/
def State.accHalf (s : State) (m : Nat) (reverse upper : Bool) : Nat :=
  if upper then (if reverse then (s.meter m).upperR else (s.meter m).upperF)
  else (if reverse then s.rd SNS_MTR_ER.er m else s.rd SNS_MTR_EF.ef m) % 2 ^ 32

/-- What a read of field `f` of instance `i` of its register returns: zero for an absent block (R2) and for a command field. -/
def State.show (s : State) (f : Fld) (i : Nat) : Nat :=
  if s.absentReg f.reg || f.acc == .wo then 0
  else
    let l := s.showSense i ++ s.showSetts i ++ s.showPower i ++ s.showCooling i ++ s.showDevice i
    match l.find? fun e => e.1 == f with
    | some e => e.2 % 2 ^ f.width
    | none => s.rd f i

end Sys2Proof.Machine
end

