-- ==== Sys2Proof/Machine/AddressMap.lean ====
section
/-!
DEFINITION. The address spaces that the spec lays out: BAR0 as the host reads it, the configuration space's constants, the internal addresses of
on-chip flash and in-package memory (R389, R393, R412, R428).
-/
namespace Sys2Proof.Machine

/-! ## The host's view (R389, R393) -/

/-- What the configuration space says of the function: class code, device identifier, and the bytes of its three 64-bit memory BARs. -/
def classCode : Nat := 0x050210
def deviceId : Nat := 0x0840
def barBytes : List (Nat × Nat) := [(0, 65536), (2, 8192), (4, 131072)]

/-- The ranges of BAR0. -/
inductive Bar0Range where
  | identity | global | doorbells | rings | interrupts | reserved | unnamed
deriving DecidableEq, Repr

def bar0Range (a : Nat) : Bar0Range :=
  if a < 0x100 then .identity else if a < 0x400 then .global
  else if 0x1000 ≤ a ∧ a < 0x1100 then .doorbells
  else if 0x2000 ≤ a ∧ a < 0x2800 then .rings
  else if 0x4000 ≤ a ∧ a < 0x5000 then .interrupts
  else if 0x8000 ≤ a ∧ a < 0x10000 then .reserved else .unnamed

/-- The register of a ring pair at an offset of its block, with the half of a 64-bit one (Tables 16-9 and 16-10 and the lists after them). -/
def ringReg (off : Nat) : Option (Reg × Nat) :=
  match off with
  | 0x00 => some (.RING_CTL, 0)
  | 0x04 => some (.RING_COAL, 0)
  | 0x08 => some (.RING_STAT, 0)
  | 0x10 => some (.SQ_BASE, 0)
  | 0x14 => some (.SQ_BASE, 1)
  | 0x18 => some (.CQ_BASE, 0)
  | 0x1C => some (.CQ_BASE, 1)
  | 0x20 => some (.SQ_HEAD, 0)
  | 0x24 => some (.CQ_TAIL, 0)
  | 0x28 => some (.RING_ERR, 0)
  | _ => none

/-- The register at a word address of BAR0: register, instance, half. -/
def bar0Reg (a : Nat) : Option (Reg × Nat × Nat) :=
  match bar0Range a with
  | .doorbells => some (if a % 8 = 0 then .DB_SQ else .DB_CQ, (a - 0x1000) / 8, 0)
  | .rings => (ringReg ((a - 0x2000) % 0x40)).map fun r => (r.1, (a - 0x2000) / 0x40, r.2)
  | .identity | .global | .interrupts =>
    match a with
    | 0x0000 => some (.DEV_ID, 0, 0)
    | 0x0004 => some (.STEP_ID, 0, 0)
    | 0x0008 => some (.CAP0, 0, 0)
    | 0x000C => some (.CAP1, 0, 0)
    | 0x0010 => some (.IF_VER, 0, 0)
    | 0x0014 => some (.FW_BUILD, 0, 0)
    | 0x0100 => some (.RST_CAUSE, 0, 0)
    | 0x0104 => some (.DEV_STAT, 0, 0)
    | 0x0110 => some (.HDM_WCTL, 0, 0)
    | 0x0114 => some (.HDM_ERR, 0, 0)
    | 0x4000 => some (.INT_CAUSE, 0, 0)
    | 0x4004 => some (.INT_MASK, 0, 0)
    | 0x4008 => some (.INT_VEC, 0, 0)
    | _ => none
  | .reserved | .unnamed => none

/-- A whole register as its fields show it. -/
def State.regValue (s : State) (r : Reg) (i : Nat) : Nat := ((Reg.fields r).map fun f => 2 ^ f.lo * s.show f i).sum

/-- A 32-bit read of BAR0; an address not named reads zero. -/
def State.bar0Read (s : State) (a : Nat) : Nat :=
  match bar0Reg a with
  | some (r, i, h) => s.regValue r i / 2 ^ (32 * h) % 2 ^ 32
  | none => 0

/-- A 64-bit read acts on both words. -/
def State.bar0Read64 (s : State) (a : Nat) : Nat := s.bar0Read a + 2 ^ 32 * s.bar0Read (a + 4)

/-! ## Internal addresses (R412, R428) -/

/-- A region of on-chip flash (Table 18-1). -/
inductive FlashRegion where
  | cub | slotA | slotB | burrow | config | softLists | licences | reserve
deriving DecidableEq, Repr

def flashRegion (a : Nat) : Option FlashRegion :=
  if a < 0x20000000 ∨ 0x23000000 ≤ a then none
  else if a < 0x20040000 then some .cub else if a < 0x21040000 then some .slotA else if a < 0x22040000 then some .slotB
  else if a < 0x22840000 then some .burrow else if a < 0x22C40000 then some .config else if a < 0x22E40000 then some .softLists
  else if a < 0x22F40000 then some .licences else some .reserve

/-- Who writes a region: nobody after manufacture, the security island, the flash controller, tray firmware. -/
inductive FlashWriter where
  | nobody | island | controller | firmware
deriving DecidableEq, Repr

def flashWriter (a : Nat) : Option FlashWriter :=
  (flashRegion a).map fun r => match r with
    | .cub | .reserve => .nobody
    | .slotA | .slotB | .softLists | .licences => .island
    | .burrow => .controller
    | .config => if a < 0x22842000 then .island else .firmware

/-- The address of the k-th entry of the key-pair table: image pairs 0 to 3, then licence pairs 0 to 3. -/
def keyEntry (k : Nat) : Nat := 0x20030000 + 2048 * k

/-- The address of a burrow record by its flash seq (R476). -/
def burrowAddress (seq : Nat) : Nat := 0x22040000 + 64 * (if seq < 4096 then seq else 4096 + (seq - 4096) % 126976)

/-- The internal address of an HDM offset, and the region of in-package memory at an internal address (R412). -/
def hdmInternal (off : Nat) : Nat := 0x1000000000 + off
def State.memoryRegion (s : State) (a : Nat) : Option Region := if a < 0x1000000000 then none else s.region (a - 0x1000000000)

end Sys2Proof.Machine
end

