-- ==== Sys2Proof/Machine/Domains.lean ====
section
/-!
DEFINITION. The 112 switched domains (R65, R66, R68): which are on is what the enables of their blocks, the supplies and the power-up stage make
it. A domain is taken to switch at once (log entry 92).
-/
namespace Sys2Proof.Machine

/-- The domains of stage 1, 2 or 3 of Table 3-9 have been switched on. -/
def State.stageUp (s : State) (n : Nat) : Bool := s.alive && decide (n ≤ s.part.stage)

/-- What is on VCORE from a stage on. -/
def State.coreStage (s : State) (n : Nat) : Bool := s.stageUp n && s.coreUp

/-- What is on VSETT from a stage on. -/
def State.settStage (s : State) (n : Nat) : Bool := s.stageUp n && s.settUp

/-- A unit last used at `t` has not been idle for 10 ms. -/
def State.inUse (s : State) (t : Nat) : Bool := decide (s.bootUs < t + 10000)

/-- The T840 has a twin port and a role that uses it (D88, D111). -/
def State.twinPort (s : State) : Bool := s.part.variant != .qc && s.rd TWIN_STAT.role 0 != 0

/-- An AVSBus master or a laser source is enabled (D105). -/
def State.railBuses (s : State) : Bool :=
  (List.range 8).any (s.bit HARP_AVSCFG.enable) || (List.range 18).any (s.bit WPORT_LSCFG.enable)

/-- A bring-up or a bulk stream is in progress (D109). -/
def State.patternDma (s : State) : Bool :=
  (List.range 8).any fun w => stepping (s.ward w).state || ((s.port w).outs ++ (s.port w).ins).any fun e => e.2.isSome

/-- The JTAG pins are open: under BOOT_HOLD for boundary scan (R36), or by a debug unlock (R445). -/
def State.jtagOpen (s : State) : Bool := s.alive && (s.part.straps.bootHold || s.bit SEC_LOCK.debug_open 0)

/-- Domain `d` of Table 3-8 is on. -/
def State.domainOn (s : State) (d : Nat) : Bool :=
  if d < 40 then s.settStage 1 && s.settOn d
  else if d < 54 then s.settStage 1 && !s.sense.off.contains d
  else if d < 56 then s.settStage 1
  else if d < 64 then s.coreStage 3 && s.part.variant == .qa && s.rd MRT_TSTAT.state (d % 4) != 0
  else if d = 64 then s.coreStage 3 && s.part.variant == .qa && (List.range 4).any fun t => s.rd MRT_TSTAT.state t != 0
  else if d < 69 then s.coreStage 3 && !s.part.straps.bootHold && (d == 65 || !s.part.parked.testBit (d - 65))
  else if d < 71 then s.coreStage 3
  else if d < 79 then s.coreStage 3 && decide ((d - 71) % 4 < s.stacks)
  else if d = 79 then s.coreStage 3
  else if d < 88 then s.coreStage 3 && s.pstate (d - 80) != 0
  else if d = 88 then s.coreStage 3 && s.twinPort
  else if d < 91 then s.coreStage 3 && ((List.range 4).any (fun p => s.pstate (4 * (d - 89) + p) != 0) || s.twinPort)
  else if d < 96 then s.coreStage 2
  else if d < 100 then s.coreStage 3
  else match d with
    | 100 => s.stageUp 2
    | 101 => s.coreStage 3 && !s.secure.noStore
    | 102 => s.stageUp 2 && s.inUse s.secure.cryptoAt
    | 103 => s.stageUp 2 && s.inUse s.secure.trngAt
    | 104 => s.coreStage 3 && s.part.masters != 0
    | 105 => s.settStage 3 && s.railBuses
    | 106 => s.coreStage 3 && (List.range 8).any fun p => s.pstate p != 0
    | 107 => s.coreStage 2 && s.jtagOpen
    | 108 => s.coreStage 3
    | 109 => s.coreStage 3 && s.patternDma
    | 110 => s.settStage 1
    | 111 => s.settStage 3 && s.twinPort
    | _ => false

/-- A domain of Table 3-8 that stays on for as long as its supplies do, once its stage has switched it on (R66). -/
def neverOff (d : Nat) : Bool :=
  d == 47 || d == 53 || d == 54 || d == 55 || d == 65 || d == 69 || d == 70 || d == 79 || (91 ≤ d && d ≤ 100) || d == 108 || d == 110

end Sys2Proof.Machine
end

