-- ==== Sys2Proof/Machine/Pins.lean ====
section
/-!
DEFINITION. What the output pins of Table 2-5 show (R33 to R36, R46, R62, R108, R200, Table 21-3): each follows from the state, in all three
periods of Table 2-7.
-/
namespace Sys2Proof.Machine

/-- The level of a push-pull or open-drain pad: not driven, low, high. -/
inductive Pad where
  | released | low | high
deriving DecidableEq, Repr

/-- A pad that is driven while `on`. -/
def padOf (on level : Bool) : Pad := if !on then .released else if level then .high else .low

/-- An open-drain pad: low while asserted. -/
def openDrain (low : Bool) : Pad := if low then .low else .released

/-- Configuration is loaded: tray firmware has started since the power-on reset, in no inert state and not under BOOT_HOLD (R33, R36). -/
def State.configured (s : State) : Bool :=
  s.alive && decide (3 ≤ s.part.stage) && !s.part.straps.bootHold && !s.bit SEC_BOOT.inert 0

/-- ENn: released together on input collapse and on VSETT loss (R34, R62), else driven. -/
def State.enPad (s : State) (n : Nat) : Pad := padOf (s.alive && !s.zither.released && !s.part.vsettLost) (s.enHigh n)

/-- HARPw_1 and HARPw_0, none with the drivers off (R200, R201). -/
def State.harpPads (s : State) (w : Nat) : Option (Bool × Bool) :=
  if s.settUp then some ((s.rd HARP_WSTAT.code w).testBit 1, (s.rd HARP_WSTAT.code w).testBit 0) else none

/-- GDA or GDB: high while the gate is ON and no pull-down acts. -/
def State.gatePad (s : State) (b : Bool) : Pad := padOf s.alive (s.rd (gateFld b) 0 == 1 && !s.pulled b.toNat)

/-- GHS. -/
def State.ghsPad (s : State) : Pad := padOf s.alive (s.ghsDriven && !s.pulled 2)

/-- DISCH: low before configuration and in the inert state. -/
def State.dischPad (s : State) : Pad := padOf s.alive (s.configured && s.dischOut)

/-- The duty in ‰ of FPWM `o` (0 to 15) or PPWM `o - 16`; a released pad runs its output at full speed (R41). -/
def State.fanPad (s : State) (o : Nat) : Option Nat := if s.alive && !s.shadow_ then some (s.rd FAN_OSTAT.drive o) else none

/-- VLVb. -/
def State.valvePad (s : State) (b : Nat) : Pad := padOf s.alive (s.configured && s.valveClosed b)

/-- LSOFFb#. -/
def State.lsoffPad (s : State) (b : Nat) : Pad := openDrain (s.lsOff b)

/-- SYS_SHUTDN# (R46). -/
def State.shutdownPad (s : State) : Pad := openDrain (s.alive && s.shutdown)

/-- AVSBus `w`, PMBus `i`, board I3C `i` and laser bus `b` are driven, not at high impedance. -/
def State.avsOn (s : State) (w : Nat) : Bool := s.configured && s.settUp && s.avsDrives w
def State.pmbusOn (s : State) (i : Nat) : Bool := s.configured && s.coreUp && s.part.masters.testBit i
def State.i3cOn (s : State) (i : Nat) : Bool := s.configured && s.coreUp && s.part.masters.testBit (2 + i)
def State.laserBusOn (s : State) (b : Nat) : Bool := s.configured && s.settUp && (busSources b).any fun k => s.bit WPORT_LSCFG.enable k

/-- The store-flash port: high impedance while PORST# is low and in the inert state, idle with XSPI_CS# high before configuration, then in use. -/
inductive XspiPort where
  | released | idle | discover1S25 | octal (mhz : Nat)
deriving DecidableEq, Repr

/-- How the T840 first addresses the store flash (R35, R514): as XSPI_MODE says the flash comes out of reset. -/
def State.xspiFirst (s : State) : XspiPort := if s.part.straps.xspiMode then .octal 100 else .discover1S25

def State.xspiPort (s : State) : XspiPort :=
  if !s.alive || s.bit SEC_BOOT.inert 0 || s.part.vcoreLost then .released
  else if !s.configured || s.secure.noStore then .idle
  else .octal 200

/-- The CXL port: electrical idle; training from CXL_PERST# release; up, with the identity and status responder only where no firmware serves the
rings. -/
inductive CxlPort where
  | idle | training | responder | full
deriving DecidableEq, Repr

def State.cxlPort (s : State) : CxlPort :=
  if !s.coreStage 2 || s.part.perstLow then .idle
  else if !s.host.linkUp then .training
  else if s.configured then .full else .responder

/-- UART_TX idles high from PORST# release; TDO is driven only where JTAG is open. -/
def State.uartTxPad (s : State) : Pad := padOf s.alive true
def State.tdoDriven (s : State) : Bool := s.jtagOpen

/-- TWIN_ALV_OUT. -/
def State.alvPad (s : State) : Pad := padOf s.alive s.twin.alvOut

end Sys2Proof.Machine
end

