-- ==== Sys2Proof/Safety.lean ====
section
/-!
DEFINITION. The terms in which statements about the T840 are made: which parts of the state a command leaves as they were, and what it
means that a command has an effect.
-/
namespace Sys2Proof.Machine

/-- The parts of the state, as finely as frames name them. The register bank is not one of them: a frame names its fields. -/
inductive Block where
  | pending | tick | bootUs | part | sense | engines | sharedMemory | settRest | zither | feed | harps | marten | cooling
  | msix | hostRest | ports | lasers | wards | hbm | recorderRest | secure | burrow | twin
deriving DecidableEq, Repr

/-- The two states agree on a part. -/
def Block.same (s t : State) : Block → Prop
  | .pending => t.pending = s.pending
  | .tick => t.tick = s.tick
  | .bootUs => t.bootUs = s.bootUs
  | .part => t.part = s.part
  | .sense => t.sense = s.sense
  | .engines => t.setts.engines = s.setts.engines
  | .sharedMemory => t.setts.shmem = s.setts.shmem
  | .settRest => { t.setts with engines := s.setts.engines, shmem := s.setts.shmem } = s.setts
  | .zither => t.zither = s.zither
  | .feed => t.feed = s.feed
  | .harps => t.harps = s.harps
  | .marten => t.marten = s.marten
  | .cooling => t.cooling = s.cooling
  | .msix => t.host.msix = s.host.msix
  | .hostRest => { t.host with msix := s.host.msix } = s.host
  | .ports => t.ports = s.ports
  | .lasers => t.lasers = s.lasers
  | .wards => t.wards = s.wards
  | .hbm => t.recorder.hbm = s.recorder.hbm
  | .recorderRest => { t.recorder with hbm := s.recorder.hbm } = s.recorder
  | .secure => t.secure = s.secure
  | .burrow => t.burrow = s.burrow
  | .twin => t.twin = s.twin

/-- From `s` to `t` nothing changes but the parts `bs` and the register fields `fs`, each given with its instance: every other part and
every other field of every instance of every register reads as before. -/
def Frame (bs : List Block) (fs : List (Fld × Nat)) (s t : State) : Prop :=
  (∀ b, b ∉ bs → b.same s t) ∧ ∀ (f : Fld) (i : Nat), (∀ e ∈ fs, e.1.key e.2 ≠ f.key i) → t.rd f i = s.rd f i

/-- From `s` to `t` nothing changes but the parts `bs` and the fields `fs`, in whatever instance: every other part and every other field of
every register reads as before. A field's number lies below 16,384, the span of an instance in the register bank, as every field of the
T840 does. -/
def Touches (bs : List Block) (fs : List Fld) (s t : State) : Prop :=
  (∀ b, b ∉ bs → b.same s t) ∧ ∀ (f : Fld) (i : Nat), f.code < 16384 → (∀ g ∈ fs, g.code ≠ f.code) → t.rd f i = s.rd f i

/-- The parts that recording an event touches: the burrow and, by INT_CAUSE.event, the MSI-X messages (R395, R472). -/
def recBlocks : List Block := [.burrow, .msix]

/-- The fields that recording an event touches (R395, R474, R478, R479). -/
def recFlds : List (Fld × Nat) :=
  [(BRW_COALF.count, 0), (BRW_COALM.count, 0), (BRW_LOST.mirror_lost, 0), (BRW_MSEQ.seq, 0), (INT_CAUSE.event, 0)]

/-- The fields that recording an event touches, for frames that name no instances. -/
def recBits : List Fld := recFlds.map (·.1)

/-- What the drives' calculation at any change of mode or state may touch: the drives, a zone's count of lost outputs, and the state and
retries of an output whose drive rises from 0 (R280, R285, R288). -/
def driveFlds : List Fld := [FAN_OSTAT.drive, FAN_OSTAT.retries, FAN_OSTAT.state, FAN_ZSTAT.lost]

/-- Command `c` completes on `s`: it answers a next state, of which `P` holds. -/
def Does (c : Instr) (s : State) (P : State → Prop) : Prop :=
  ∃ t, exec c s = .next t ∧ P t

/-- Command `c` completes on `s`, and the last it does is to record an event of this code, source and data; of the state just before the
record `P` holds. -/
def Records (c : Instr) (s : State) (code source : Nat) (data : List Nat) (P : State → Prop) : Prop :=
  ∃ u, exec c s = .next (u.record code source data) ∧ P u

/-- Command `c` completes on `s`: it brings about a state of which `P` holds, and from that state `f` follows at once. -/
def Then (c : Instr) (s : State) (f : State → State) (P : State → Prop) : Prop :=
  ∃ u, exec c s = .next (f u) ∧ P u

/-- The fields that a write of SNS_CHCFG may touch: its own, and what the switching of the channel's domain and its windows' levels take. -/
def chanCfgFlds : List Fld :=
  [SNS_CHCFG.enable, SNS_CHCFG.lock, SNS_CHCFG.marten_sub, SNS_CHCFG.range, SNS_CHSAMP.aperture, SNS_CHSAMP.sample, SNS_CHSTAT.cal_busy,
   SNS_CHSTAT.fault, SNS_CHSTAT.fault_kind, SNS_CHSTAT.overrange, SNS_CHSTAT.spared, SNS_CHSTAT.stand_in, SNS_WSTAT.fh, SNS_WSTAT.fl,
   SNS_WSTAT.wh, SNS_WSTAT.wl]

/-- The parts that a ward's bring-up, failure or fall may touch: its group, its arbiter, its port and requests, records (R343, R354). -/
def wardBlocks : List Block := [.engines, .settRest, .zither, .harps, .msix, .hostRest, .ports, .wards, .burrow, .twin]

/-- The fields that a ward's bring-up, failure or fall may touch. -/
def wardFlds : List Fld :=
  [SETT_ENG_CTL.obj, ZIT_GSTAT.up_pending, ZIT_GSTAT.abort_cause, ZIT_GSTAT.cmd_status, ZIT_GSTAT.state, ZIT_STAT.check_code, ZIT_STAT.check_entry,
   ZIT_GTICK.tick, HARP_WCTL.floor, HARP_WSTAT.code, HARP_WUPS.ups, WPORT_CTL.enable, WPORT_STAT.outstanding, WPORT_STAT.retrains,
   WPORT_STAT.cmd_status, WPORT_STAT.state, WPORT_ERR.req_to, WPORT_LSCFG.enable, WPORT_LSSTAT.limited, WPORT_LSSTAT.state,
   RING_STAT.outstanding, CQ_TAIL.index, RING_ERR.bad_desc] ++ recBits

/-- The fields that the end of a register request may touch: the port's counts, and a host descriptor's completion. -/
def reqFlds : List Fld := [WPORT_STAT.outstanding, WPORT_ERR.req_to, RING_STAT.outstanding, CQ_TAIL.index, RING_ERR.bad_desc]

/-- From `s` to `t` port `p` leaves its link for state `st` (R308, R309): every request, exchange and stream has ended, no lane runs and no
secure channel is up. -/
def PortDown (p st : Nat) (fs : List Fld) (s t : State) : Prop :=
  Touches [.engines, .msix, .hostRest, .ports, .wards] ([WPORT_STAT.sec, WPORT_STAT.lanes, WPORT_STAT.state] ++ reqFlds ++ fs) s t ∧
    t.pstate p = st ∧ (t.port p).reqs = [] ∧ (t.port p).waiting = [] ∧ (t.port p).ctrls = [] ∧ (t.port p).outs = [] ∧
    (t.port p).ins = [] ∧ (t.port p).up = false ∧ t.rd WPORT_STAT.lanes p = 0 ∧ t.rd WPORT_STAT.sec p = 0

/-- An object's kind-7 request of slot `slot` has ended with a status (R143). -/
def SlotEnded (obj slot status : Nat) (s t : State) : Prop :=
  ∀ n e, s.engineOf obj = some (n, e) → Tab.get 0 (t.engine n).reqStatus slot = status ∧ slot ∉ (t.engine n).reqBusy

/-- From `s` to `t` the exchange `c` of port `p` ends with a status, one that ran out of time is counted, and nothing else happens (R325 to
R327, Table 13-10). -/
def ExchangeEnded (p : Nat) (c : Ctrl) (status : Nat) (s t : State) : Prop :=
  Frame [.ports, .engines] [(WPORT_ERR.req_to, p)] s t ∧ (t.port p).ctrls = (s.port p).ctrls.filter (· != c) ∧
    t.rd WPORT_ERR.req_to p = (if status = St.timeout then min 255 (s.rd WPORT_ERR.req_to p + 1) else s.rd WPORT_ERR.req_to p) ∧
    ∀ obj slot, c.owner = .engine obj slot → SlotEnded obj slot status s t

/-- Engine `n` is about to issue `op`: it runs a tick, `op` is what its program holds at its pc, the tick's cycles suffice, and nothing that
`op` reads has bad parity. -/
def Ready (s : State) (n : Nat) (op : EngOp) : Prop :=
  s.ticking n = true ∧ (s.engine n).fetch.1 = some op ∧ (s.engine n).used + op.cycles ≤ s.budget (n / 32) ∧
    op.reads.any (s.engine n).badRegs.contains = false

/-- The command by which engine `n` issues an instruction. -/
def EngOp.command (e : Fin 1280) : EngOp → Instr
  | .nop => .engNop e
  | .add d ra rb => .engAdd e d ra rb
  | .sub d ra rb => .engSub e d ra rb
  | .addw d ra rb => .engAddw e d ra rb
  | .subw d ra rb => .engSubw e d ra rb
  | .mul d ra rb => .engMul e d ra rb
  | .imul d ra rb => .engImul e d ra rb
  | .div d ra rb => .engDiv e d ra rb
  | .min d ra rb => .engMin e d ra rb
  | .max d ra rb => .engMax e d ra rb
  | .lim d ra rb => .engLim e d ra rb
  | .flt d ra rb => .engFlt e d ra rb
  | .mac d ra rb => .engMac e d ra rb
  | .and d ra rb => .engAnd e d ra rb
  | .or d ra rb => .engOr e d ra rb
  | .xor d ra rb => .engXor e d ra rb
  | .shl d ra rb => .engShl e d ra rb
  | .shr d ra rb => .engShr e d ra rb
  | .sar d ra rb => .engSar e d ra rb
  | .abs d ra => .engAbs e d ra
  | .neg d ra => .engNeg e d ra
  | .addi d ra imm => .engAddi e d ra imm
  | .andi d ra imm => .engAndi e d ra imm
  | .ori d ra imm => .engOri e d ra imm
  | .xori d ra imm => .engXori e d ra imm
  | .shli d ra n => .engShli e d ra n
  | .shri d ra n => .engShri e d ra n
  | .sari d ra n => .engSari e d ra n
  | .ldh d imm => .engLdh e d imm
  | .ldp d ra off => .engLdp e d ra off
  | .stp d ra off => .engStp e d ra off
  | .ldc d ra off => .engLdc e d ra off
  | .stc d ra off => .engStc e d ra off
  | .ldk d addr => .engLdk e d addr
  | .rd d slot sel => .engRd e d slot sel
  | .wr slot ra => .engWr e slot ra
  | .wpr slot ra => .engWpr e slot ra
  | .evt code ra rb => .engEvt e code ra rb
  | .mbx tag ra => .engMbx e tag ra
  | .rdst d sel => .engRdst e d sel
  | .tset tm ra => .engTset e tm ra
  | .tseti tm imm => .engTseti e tm imm
  | .trd d tm => .engTrd e d tm
  | .jal target => .engJal e target
  | .jr ra => .engJr e ra
  | .beq ra rb target => .engBeq e ra rb target
  | .bne ra rb target => .engBne e ra rb target
  | .blt ra rb target => .engBlt e ra rb target
  | .bge ra rb target => .engBge e ra rb target
  | .jmp target => .engJmp e target
  | .btx tm target => .engBtx e tm target
  | .bst bit target => .engBst e bit target
  | .yld => .engYld e

/-- A word of shared memory lies in engine `n`'s private area (Table 5-1). -/
def inPrivate (n k : Nat) : Prop := privKey n 0 ≤ k ∧ k < privKey n 0 + 512

/-- From `s` to `t` engine `n` is the only thing that changes: every other engine, every register field and every other part of the state is
as it was. -/
def OnlyEngine (n : Nat) (s t : State) : Prop := t = s.setEngine n (t.engine n)

/-- Command `c` makes engine `n` issue `op`, which gives register `rd` a result: Z, N and Q follow the result, QS keeps what was set, g0 takes
nothing, and nothing else of the engine changes but pc, cycles and the parity of what is written. -/
def Computes (c : Instr) (s : State) (n : Nat) (op : EngOp) (rd : BitVec 4) (r : Res) : Prop :=
  Ready s n op → Does c s fun t => OnlyEngine n s t ∧
    t.engine n = { s.engine n with regs := (t.engine n).regs, badRegs := (t.engine n).badRegs, pc := (s.engine n).pc + 1,
                                   used := (s.engine n).used + op.cycles } ∧
    (rd ≠ 0 → (t.engine n).reg rd = r.1) ∧ (∀ x, x ≠ rd ∨ x = 0 → (t.engine n).reg x = (s.engine n).reg x) ∧
    (t.engine n).regs.z = (r.1 == 0) ∧ (t.engine n).regs.n = r.1.msb ∧ (t.engine n).regs.q = r.2 ∧
    (t.engine n).regs.qs = ((s.engine n).regs.qs || r.2) ∧ (t.engine n).regs.tm = (s.engine n).regs.tm

/-- The memory of the T840 is in its canonical form: addresses strictly rising, and no entry equal to what an unlisted address
reads as; so is the register bank's order. -/
def MemWf (s : State) : Prop :=
  Tab.wf 0 s.setts.shmem = true ∧ Tab.wf 0 s.recorder.hbm = true ∧ Tab.sortedFrom s.regs 0 = true

end Sys2Proof.Machine
end

