-- ==== Sys2Proof/Certificates/Slice0/Obligations.lean ====
section
/-!
DEFINITION. The statements about the model, for the provers. A statement says what a command does to the state and, by `Touches` and `Frame`,
that it does nothing else; its docstring names the rules it rests on.
-/
open Sys2Proof Sys2Proof.Machine

/-- A commit of a window (R87). With the settings that the SNS_ registers hold, a commit of a window that is neither locked nor window A of a
fixed channel writes the window's control fields, waits for the next aperture, and changes no active setting. At the aperture a shadow in order
becomes active and the error bit reads 0; a shadow out of order leaves the settings as they were and sets the error bit, with FEED_STAT.cfg_err
for a feed window. No other window and no other register changes. In order means that of any two enabled thresholds the lower of FL, WL, WH, FH
is the smaller; and a window's error bit that reads 1 reads 1 until a commit of it succeeds, but for a power-on reset or the loss of VSETT, which
take the registers with them. -/
def Obligations.WindowCommit : Prop :=
  (∀ (s : State) (c : Fin 304) (b : Bool) (v : BitVec 32), s.settUp = true → s.bit SNS_CHCFG.lock c = false →
    (feedIndex (winIx c b)).isNone = true →
    Does (.commit c b v) s fun t => Frame [.sense] ((Reg.fields .SNS_WCTL).map fun f => (f, winIx c b)) s t ∧
      (t.win (winIx c b)).commitDue = true ∧ t.active (winIx c b) = s.active (winIx c b) ∧
      (∀ x, x ≠ winIx c b → t.win x = s.win x)) ∧
  (∀ (s : State) (c : Fin 304) (b : Bool), s.settUp = true → (s.win (winIx c b)).commitDue = true →
    (s.shadow (winIx c b)).ordered = true →
    Does (.windowCommitApply c b) s fun t =>
      Touches [.sense, .zither] [SNS_WSTAT.fh, SNS_WSTAT.wh, SNS_WSTAT.wl, SNS_WSTAT.fl, SNS_WSTAT.order_err] s t ∧
      t.active (winIx c b) = s.shadow (winIx c b) ∧ (t.win (winIx c b)).commitDue = false ∧ t.rd SNS_WSTAT.order_err (winIx c b) = 0 ∧
      (∀ x, x ≠ winIx c b → t.win x = s.win x)) ∧
  (∀ (s : State) (c : Fin 304) (b : Bool), s.settUp = true → (s.win (winIx c b)).commitDue = true →
    (s.shadow (winIx c b)).ordered = false →
    Does (.windowCommitApply c b) s fun t => Frame [.sense] [(SNS_WSTAT.order_err, winIx c b), (FEED_STAT.cfg_err, 0)] s t ∧
      t.active (winIx c b) = s.active (winIx c b) ∧ (t.win (winIx c b)).commitDue = false ∧ t.rd SNS_WSTAT.order_err (winIx c b) = 1 ∧
      (∀ x, x ≠ winIx c b → t.win x = s.win x)) ∧
  (∀ w : WinSet, w.ordered = true ↔
    (w.flEn = true → w.wlEn = true → w.fl < w.wl) ∧ (w.flEn = true → w.whEn = true → w.fl < w.wh) ∧ (w.flEn = true → w.fhEn = true → w.fl < w.fh) ∧
    (w.wlEn = true → w.whEn = true → w.wl < w.wh) ∧ (w.wlEn = true → w.fhEn = true → w.wl < w.fh) ∧
    (w.whEn = true → w.fhEn = true → w.wh < w.fh)) ∧
  (∀ (i : Instr) (s t : State) (x : Nat), exec i s = .next t → s.rd SNS_WSTAT.order_err x = 1 → t.rd SNS_WSTAT.order_err x = 1 ∨
    (∃ c b, i = .windowCommitApply c b ∧ winIx c b = x ∧ (s.shadow x).ordered = true) ∨
    (∃ short, i = .porstAssert short) ∨ i = .pendingPowerOnReset ∨ i = .vaoBrownout ∨ i = .vsettLoss ∨ i = .vsettReturn)
/-- Channel settings (R66, R67, R76, R90, R91, R82). A lock stands and touches nothing else. A configuration write of an unlocked channel that is not
fixed takes `enable`, and takes `range` on a quick channel where neither window is armed; enabling a channel switches its sense domain on, and
disabling the last of a domain switches the domain off, which loses what its front-ends hold; on a fixed channel both read-only fields stay. Die
temperatures are read eight at once, a sensor outside its range check as 0x7FFF without `valid`. -/
def Obligations.ChannelSettings : Prop :=
  (∀ (s : State) (c : Fin 304), s.settUp = true →
    Does (.channelLock c) s fun t => Frame [] [(SNS_CHCFG.lock, c.val)] s t ∧ t.rd SNS_CHCFG.lock c = 1) ∧
  (∀ (s : State) (c : Fin 304) (v : BitVec 32), s.settUp = true → s.bit SNS_CHCFG.lock c = false → s.fixedChan c = false →
    SNS_CHCFG.enable.of v.toNat = 1 → (s.active (2 * c.val)).arm = false → (s.active (2 * c.val + 1)).arm = false →
    Does (.channelConfigWrite c v) s fun t =>
      Touches [.sense, .zither] chanCfgFlds s t ∧
      t.rd SNS_CHCFG.enable c = 1 ∧ (64 ≤ c.val → t.rd SNS_CHCFG.range c = s.rd SNS_CHCFG.range c) ∧
      (c.val < 64 → SNS_CHCFG.range.of v.toNat ≤ 2 → t.rd SNS_CHCFG.range c = SNS_CHCFG.range.of v.toNat) ∧
      (s.bit SNS_CHCFG.enable c = false → chanDomain c ∉ t.sense.off)) ∧
  (∀ (s : State) (c : Fin 304) (v : BitVec 32), s.settUp = true → s.bit SNS_CHCFG.lock c = false → s.fixedChan c = false →
    SNS_CHCFG.enable.of v.toNat = 0 → s.bit SNS_CHCFG.enable c = true → s.chanBound c = false → (s.active (2 * c.val)).arm = false →
    (s.active (2 * c.val + 1)).arm = false → c.val < 256 → chanDomain c ≠ 47 → chanDomain c ≠ 53 →
    (∀ d ∈ domainChannels (chanDomain c), d ≠ c.val → s.bit SNS_CHCFG.enable d = false) →
    Does (.channelConfigWrite c v) s fun t => Touches [.sense, .zither] chanCfgFlds s t ∧ t.rd SNS_CHCFG.enable c = 0 ∧
      chanDomain c ∈ t.sense.off ∧ ∀ d ∈ domainChannels (chanDomain c), t.rd SNS_CHSAMP.sample d = 0 ∧ t.chan d = {}) ∧
  (∀ (s : State) (c : Fin 304) (v : BitVec 32), s.settUp = true → s.bit SNS_CHCFG.lock c = false → s.fixedChan c = true →
    Does (.channelConfigWrite c v) s fun t => Touches [.sense, .zither] chanCfgFlds s t ∧
      t.rd SNS_CHCFG.enable c = s.rd SNS_CHCFG.enable c ∧ t.rd SNS_CHCFG.range c = s.rd SNS_CHCFG.range c) ∧
  (∀ (s : State) (l : List (Option (BitVec 16))), s.alive = true → l.length = 8 →
    Does (.dieTemperatureRead l) s fun t => Touches [] [SNS_DIETEMP.temp, SNS_DIETEMP.valid] s t ∧
      ∀ k, k < 8 → (∀ x, l.getD k none = some x → t.rd SNS_DIETEMP.temp k = x.toNat ∧ t.rd SNS_DIETEMP.valid k = 1) ∧
        (l.getD k none = none → t.rd SNS_DIETEMP.temp k = 0x7FFF ∧ t.rd SNS_DIETEMP.valid k = 0))
/-- Meters (R92 to R96, R194). Clearing an unlocked meter zeroes both accumulators, the fractions they carry and both saturation bits. The
average power is the mean of the span's products and the span starts anew. Reading the lower half of an accumulator latches the upper half, which
a read of the upper half returns. The persistence write, 60 s after the one before, keeps operating seconds and the accumulators of the meters
that persist. Each leaves every other meter and register alone. -/
def Obligations.MeterCommands : Prop :=
  (∀ (s : State) (m : Fin 64), s.settUp = true → s.bit SNS_MTR_CFG.lock m = false →
    Does (.meterClear m) s fun t =>
      Frame [.sense] [(SNS_MTR_EF.ef, m.val), (SNS_MTR_ER.er, m.val), (SNS_MTR_STAT.ef_sat, m.val), (SNS_MTR_STAT.er_sat, m.val)] s t ∧
      t.rd SNS_MTR_EF.ef m = 0 ∧ t.rd SNS_MTR_ER.er m = 0 ∧ t.rd SNS_MTR_STAT.ef_sat m = 0 ∧ t.rd SNS_MTR_STAT.er_sat m = 0 ∧
      (t.meter m).fracF = 0 ∧ (t.meter m).fracR = 0 ∧ (∀ k, k ≠ m.val → t.meter k = s.meter k) ∧
      t.sense.windows = s.sense.windows ∧ t.sense.channels = s.sense.channels) ∧
  (∀ (s : State) (m : Fin 64), s.settUp = true → s.bit SNS_MTR_CFG.enable m = true → s.tick % 2 ^ s.rd SNS_MTR_CFG.avg_k m = 0 →
    (s.meter m).count ≠ 0 →
    Does (.meterPavgUpdate m) s fun t => Frame [.sense] [(SNS_MTR_PAVG.pavg, m.val)] s t ∧
      t.rd SNS_MTR_PAVG.pavg m = fit32 (nearest ((s.meter m).sum * 1000) (powerUnit * (s.meter m).count)) % 2 ^ 32 ∧
      (t.meter m).sum = 0 ∧ (t.meter m).count = 0 ∧ (∀ k, k ≠ m.val → t.meter k = s.meter k)) ∧
  (∀ (s : State) (m : Fin 64), s.settUp = true →
    (Does (.accumulatorLowRead m false) s fun t => Frame [.sense] [] s t ∧ (t.meter m).upperF = s.rd SNS_MTR_EF.ef m / 2 ^ 32 ∧
      (t.meter m).upperR = (s.meter m).upperR) ∧
    (Does (.accumulatorLowRead m true) s fun t => Frame [.sense] [] s t ∧ (t.meter m).upperR = s.rd SNS_MTR_ER.er m / 2 ^ 32 ∧
      (t.meter m).upperF = (s.meter m).upperF)) ∧
  (∀ (s : State) (m : Nat), s.accHalf m false true = (s.meter m).upperF ∧ s.accHalf m true true = (s.meter m).upperR ∧
    s.accHalf m false false = s.rd SNS_MTR_EF.ef m % 2 ^ 32 ∧ s.accHalf m true false = s.rd SNS_MTR_ER.er m % 2 ^ 32) ∧
  (∀ s : State, s.alive = true → 2 ≤ s.part.stage → s.burrow.halt = false → s.burrow.persistAt + 60000000 ≤ s.bootUs →
    Does .persistWrite s fun t => Frame [.burrow] [] s t ∧ t.burrow.persistOp = s.burrow.opSeconds ∧ t.burrow.persistAt = s.bootUs ∧
      (∀ m, m < 64 → s.bit SNS_MTR_CFG.persist m = true → (m, s.rd SNS_MTR_EF.ef m, s.rd SNS_MTR_ER.er m) ∈ t.burrow.persistMeters) ∧
      t.burrow.flash = s.burrow.flash)
/-- Live recalibration (R77 to R82, Table 4-5). A pass starts at a request and at the end of its period; a channel whose serving die
temperature has moved is queued or under recalibration; the spare takes over 64 apertures later, the own converter calibrates, and after 64
apertures more the samples return, or with a mismatch the coefficients of before are restored, the recalibration repeats once and then the spare
stays. A remote-diode or leak front-end is calibrated as of now. -/
def Obligations.Recalibration : Prop :=
  (∀ s : State, s.settUp = true →
    Does .calibrationRequest s fun t => Touches [.sense, .msix, .burrow]
      [SNS_CHSTAT.cal_busy, SNS_CALSTAT.pass_busy, BRW_COALF.count, BRW_COALM.count, BRW_LOST.mirror_lost, BRW_MSEQ.seq, INT_CAUSE.event] s t ∧
      t.sense.calStart = s.bootUs ∧ t.sense.windows = s.sense.windows ∧ t.sense.meters = s.sense.meters) ∧
  (∀ s : State, s.settUp = true → s.sense.calStart + s.rd SNS_CALCTL.period_s 0 * 1000000 ≤ s.bootUs →
    Does .calPeriodExpiry s fun t => Touches [.sense, .msix, .burrow]
      [SNS_CHSTAT.cal_busy, SNS_CALSTAT.pass_busy, BRW_COALF.count, BRW_COALM.count, BRW_LOST.mirror_lost, BRW_MSEQ.seq, INT_CAUSE.event] s t ∧
      t.sense.calStart = s.bootUs ∧ t.sense.windows = s.sense.windows ∧ t.sense.meters = s.sense.meters) ∧
  (∀ (s : State) (c : Fin 256) (a b : Int), s.settUp = true → s.dieTemp c = some a → (s.chan c).calTemp = some b →
    (s.rd SNS_CALCTL.temp_delta 0 : Int) * 128 ≤ max (a - b) (b - a) → (s.chan c).phase = .idle → c.val ∉ s.sense.waiting →
    chanDomain c ∉ s.sense.off → s.rd (spareFld c) 0 ≠ 0 →
    Does (.calTempDelta c) s fun t => Touches [.sense, .msix, .burrow]
      [SNS_CHSTAT.cal_busy, SNS_CALSTAT.pass_busy, BRW_COALF.count, BRW_COALM.count, BRW_LOST.mirror_lost, BRW_MSEQ.seq, INT_CAUSE.event] s t ∧
      ((t.chan c).phase = .paired ∨ c.val ∈ t.sense.waiting)) ∧
  (∀ (s : State) (c : Fin 256) (sub : Fin 20), s.settUp = true → (s.chan c).phase = .paired →
    (s.chan c).calAp + calSpan c ≤ 20 * s.bootUs + sub →
    Does (.calSpareTakeover c sub) s fun t => Frame [.sense] [(SNS_CHSTAT.stand_in, c.val)] s t ∧
      t.rd SNS_CHSTAT.stand_in c = 1 ∧ t.chan c = { s.chan c with phase := .standIn } ∧ (∀ k, k ≠ c.val → t.chan k = s.chan k)) ∧
  (∀ (s : State) (c : Fin 256) (sub : Fin 20), s.settUp = true → (s.chan c).phase = .standIn →
    Does (.calOwnConverterDone c sub) s fun t => Frame [.sense] [] s t ∧
      t.chan c = { s.chan c with phase := .returning, calAp := 20 * s.bootUs + sub, coef := some s.bootUs, coefWas := (s.chan c).coef } ∧
      (∀ k, k ≠ c.val → t.chan k = s.chan k)) ∧
  (∀ (s : State) (c : Fin 256) (sub : Fin 20), s.settUp = true → (s.chan c).phase = .returning →
    (s.chan c).calAp + calSpan c ≤ 20 * s.bootUs + sub →
    (Does (.calReturn c sub true) s fun t => Touches [.sense, .msix, .burrow]
      ([SNS_CALSTAT.general_spares, SNS_CALSTAT.pass_busy, SNS_CALSTAT.quick_spares, SNS_CHSTAT.cal_busy, SNS_CHSTAT.spared,
        SNS_CHSTAT.stand_in] ++ recBits) s t ∧
      t.rd SNS_CHSTAT.stand_in c = s.rd SNS_CHSTAT.spared c % 2 ∧ t.sense.windows = s.sense.windows) ∧
    ((s.chan c).attempt < 2 →
      Does (.calReturn c sub false) s fun t => Frame (.sense :: recBlocks) recFlds s t ∧
        t.chan c = { s.chan c with coef := (s.chan c).coefWas, coefWas := none, phase := .standIn, attempt := 2 } ∧
        (∀ k, k ≠ c.val → t.chan k = s.chan k)) ∧
    (2 ≤ (s.chan c).attempt →
      Does (.calReturn c sub false) s fun t => Touches [.sense, .msix, .burrow]
        ([SNS_CALSTAT.general_spares, SNS_CALSTAT.pass_busy, SNS_CALSTAT.quick_spares, SNS_CHSTAT.cal_busy, SNS_CHSTAT.spared,
          SNS_CHSTAT.stand_in] ++ recBits) s t ∧
        t.rd SNS_CHSTAT.spared c = 1 ∧ t.rd SNS_CHSTAT.stand_in c = 1 ∧ t.sense.windows = s.sense.windows)) ∧
  (∀ (s : State) (c : Nat), 256 ≤ c → s.lastCal c = (s.bootUs, s.dieTemp c))

/-- Results reach their consumers (R72 to R74, R84, R88, R524, Tables 4-2 and 4-6). SAMPLE_WORD carries the results of the channels at one aperture;
each enabled channel that has a result then shows the word that the consumers get with the low 16 bits of the aperture: the converter's word for a
channel neither absent nor faulted, 0x8000 for a faulted quick channel, 0 for a faulted general one, 0x7FFF for a remote diode found absent. A
reading above or below a type's range is the end of its range in Table 4-2. -/
def Obligations.SampleDelivery : Prop :=
  (∀ (s : State) (sub : Fin 20) (words : List (Fin 304 × SampleRead)), s.settUp = true → (words.map (·.1)).Nodup →
    Does (.sampleWord sub words) s fun t =>
      Touches [.sense, .engines, .zither, .feed, .marten, .cooling, .msix, .hostRest, .hbm, .recorderRest, .burrow, .twin]
        ([SNS_CHSTAT.absent, SNS_CHSTAT.fault, SNS_CHSTAT.fault_kind, SNS_CHSTAT.overrange, SNS_CHSAMP.sample, SNS_CHSAMP.aperture, SNS_WSTAT.fl,
          SNS_WSTAT.wl, SNS_WSTAT.wh, SNS_WSTAT.fh, SNS_MTR_STAT.ef_sat, SNS_MTR_STAT.er_sat, SNS_MTR_P.p, SNS_MTR_EF.ef, SNS_MTR_ER.er,
          ZIT_GSTAT.abort_cause, ZIT_GSTAT.state, FEED_STAT.gdb, FEED_STAT.gda, FEED_STAT.retry_count, FEED_STAT.trip_cause,
          FEED_STAT.ins_state, FEED_EFET.e_fet, MRT_ISTAT.over, MRT_IDROP.dropped, LEAK_RSTAT.lowest, LEAK_RSTAT.worst,
          LEAK_RSTAT.cls] ++ recBits) s t ∧
      ∀ (c : Fin 304) (r : SampleRead), (c, r) ∈ words → s.bit SNS_CHCFG.enable c = true →
        (c.val < 64 ∨ c.val < 256 ∧ sub.val = 0 ∨ sub.val = 0 ∧ s.tick % 1000 = 0) → (r ≠ .absent ∨ 256 ≤ c.val ∧ c.val < 288) →
        t.rd SNS_CHSAMP.aperture c = (s.tick * 20 + sub) % 65536 ∧
        ((c.val < 256 ∨ 288 ≤ c.val) → s.bit SNS_CHSTAT.absent c = false →
          (s.bit SNS_CHSTAT.fault c = false → t.rd SNS_CHSAMP.sample c = (wordOf c r).1 % 65536) ∧
          (s.bit SNS_CHSTAT.fault c = true → c.val < 64 → t.rd SNS_CHSAMP.sample c = 0x8000) ∧
          (s.bit SNS_CHSTAT.fault c = true → 64 ≤ c.val → c.val < 256 → t.rd SNS_CHSAMP.sample c = 0)) ∧
        (256 ≤ c.val → c.val < 288 → r = .absent → s.criticalChan c = false →
          t.rd SNS_CHSAMP.sample c = 0x7FFF ∧ t.rd SNS_CHSTAT.absent c = 1 ∧ t.rd SNS_CHSTAT.fault c = 0)) ∧
  (∀ c : Nat, wordOf c .above = (32767, true) ∧
    wordOf c .below = (if c < 64 then 32768 else if c < 256 then 0 else if c < 288 then 60416 else 12288, true)) ∧
  (∀ w : BitVec 16, wordOf 0 (.code w) = (w.toNat, false) ∧ (w.toNat ≤ 32767 → wordOf 64 (.code w) = (w.toNat, false)))
/-- Channel faults (R83, R79). A fault of an enabled channel that shows none sets the fault bit and its kind and keeps the last good sample, the
newest delivered before the onset, or, for a converter whose pool holds a spare, puts the spare in for good with INT_ADC_SPARED; when the cause has
gone the fault and its kind read 0. -/
def Obligations.ChannelFaults : Prop :=
  (∀ (s : State) (c : Fin 304) (short : Bool) (bad : Fin 3), s.settUp = true → s.bit SNS_CHCFG.enable c = true → s.bit SNS_CHSTAT.fault c = false →
    s.bit SNS_CHSTAT.absent c = false → (256 ≤ c.val ∨ s.rd (spareFld c) 0 = 0) →
    Does (.channelFault c short bad) s fun t =>
      Touches [.sense, .zither, .msix, .burrow] ([SNS_CALSTAT.general_spares, SNS_CALSTAT.pass_busy, SNS_CALSTAT.quick_spares, SNS_CHSTAT.cal_busy,
        SNS_CHSTAT.fault, SNS_CHSTAT.fault_kind, SNS_CHSTAT.spared, SNS_CHSTAT.stand_in] ++ recBits) s t ∧
      t.rd SNS_CHSTAT.spared c = s.rd SNS_CHSTAT.spared c ∧
      t.rd SNS_CHSTAT.fault c = 1 ∧
      t.rd SNS_CHSTAT.fault_kind c = (if 256 ≤ c.val ∧ c.val < 288 then (if short then 2 else 1) else 3) ∧
      (t.chan c).lastGood = (s.chan c).recent.getD bad (s.rd SNS_CHSAMP.sample c) ∧ (∀ k, k ≠ c.val → t.chan k = s.chan k)) ∧
  (∀ (s : State) (c : Fin 304) (short : Bool) (bad : Fin 3), s.settUp = true → s.bit SNS_CHCFG.enable c = true → s.bit SNS_CHSTAT.fault c = false →
    s.bit SNS_CHSTAT.absent c = false → c.val < 256 → s.rd (spareFld c) 0 ≠ 0 →
    Then (.channelFault c short bad) s (·.calRun (20 * s.bootUs)) fun v => ∃ u, v = u.record Ev.INT_ADC_SPARED Src.sense [c.val] ∧
      Frame [.sense] [(SNS_CHSTAT.spared, c.val), (SNS_CHSTAT.stand_in, c.val), (SNS_CHSTAT.cal_busy, c.val), (spareFld c, 0)] s u ∧
      u.rd SNS_CHSTAT.spared c = 1 ∧ u.rd SNS_CHSTAT.stand_in c = 1 ∧ u.rd SNS_CHSTAT.fault c = s.rd SNS_CHSTAT.fault c ∧
      u.rd (spareFld c) 0 = (s.rd (spareFld c) 0 - 1) % 2 ^ (spareFld c).width) ∧
  (∀ (s : State) (c : Fin 304), s.settUp = true → s.bit SNS_CHSTAT.fault c = true →
    Does (.channelFaultClear c) s fun t => Touches [.zither] [SNS_CHSTAT.fault, SNS_CHSTAT.fault_kind] s t ∧
      t.rd SNS_CHSTAT.fault c = 0 ∧ t.rd SNS_CHSTAT.fault_kind c = 0)

/-- The arithmetic, logic and shifts of a loop engine (R133, R134, Table 6-4). Each instruction, issued by an engine that is about to, puts the
exact result of its registers' values, rounded and clamped to the Q16.16 range as the spec says, into rd; Z and N follow the result and nothing
else changes. Q is 1 exactly where the result was clamped, in every case of DIV with rb = 0, and where LIM changed rd; ADDW, SUBW, MIN, MAX, the
logic instructions, the shifts and LDH clear it. g0 reads zero. -/
def Obligations.EngineArithmetic : Prop :=
  (∀ i : Int, Res.sat i = if i < -2147483648 then (0x80000000#32, true) else if 2147483647 < i then (0x7FFFFFFF#32, true)
    else (BitVec.ofInt 32 i, false)) ∧ (∀ e : Engine, e.reg 0 = 0) ∧
  ∀ (s : State) (n : Fin 1280) (rd ra rb : BitVec 4) (imm : BitVec 18) (sh : BitVec 5) (up : BitVec 16),
    let d := (s.engine n).reg rd; let a := (s.engine n).reg ra; let b := (s.engine n).reg rb
    Computes (.engAdd n rd ra rb) s n (.add rd ra rb) rd (Res.sat (a.toInt + b.toInt)) ∧
    Computes (.engSub n rd ra rb) s n (.sub rd ra rb) rd (Res.sat (a.toInt - b.toInt)) ∧
    Computes (.engAddw n rd ra rb) s n (.addw rd ra rb) rd (a + b, false) ∧
    Computes (.engSubw n rd ra rb) s n (.subw rd ra rb) rd (a - b, false) ∧
    Computes (.engMul n rd ra rb) s n (.mul rd ra rb) rd (Res.sat ((a.toInt * b.toInt + 32768) / 65536)) ∧
    Computes (.engImul n rd ra rb) s n (.imul rd ra rb) rd (Res.sat (a.toInt * b.toInt)) ∧
    Computes (.engDiv n rd ra rb) s n (.div rd ra rb) rd
    (if b.toInt = 0 then (if 0 < a.toInt then 0x7FFFFFFF#32 else if a.toInt < 0 then 0x80000000#32 else 0#32, true)
    else Res.sat (Int.tdiv (a.toInt * 65536) b.toInt)) ∧
    Computes (.engMin n rd ra rb) s n (.min rd ra rb) rd (if b.slt a then b else a, false) ∧
    Computes (.engMax n rd ra rb) s n (.max rd ra rb) rd (if a.slt b then b else a, false) ∧
    Computes (.engAbs n rd ra) s n (.abs rd ra) rd (Res.sat a.toInt.natAbs) ∧
    Computes (.engNeg n rd ra) s n (.neg rd ra) rd (Res.sat (-a.toInt)) ∧
    Computes (.engLim n rd ra rb) s n (.lim rd ra rb) rd (let m := if d.slt a then a else d; let r := if b.slt m then b else m; (r, r != d)) ∧
    Computes (.engFlt n rd ra rb) s n (.flt rd ra rb) rd (Res.sat (d.toInt + ((a.toInt - d.toInt) * b.toInt + 32768) / 65536)) ∧
    Computes (.engMac n rd ra rb) s n (.mac rd ra rb) rd (Res.sat (d.toInt + (a.toInt * b.toInt + 32768) / 65536)) ∧
    Computes (.engAnd n rd ra rb) s n (.and rd ra rb) rd (a &&& b, false) ∧
    Computes (.engOr n rd ra rb) s n (.or rd ra rb) rd (a ||| b, false) ∧
    Computes (.engXor n rd ra rb) s n (.xor rd ra rb) rd (a ^^^ b, false) ∧
    Computes (.engShl n rd ra rb) s n (.shl rd ra rb) rd (a <<< (b.toNat % 32), false) ∧
    Computes (.engShr n rd ra rb) s n (.shr rd ra rb) rd (a >>> (b.toNat % 32), false) ∧
    Computes (.engSar n rd ra rb) s n (.sar rd ra rb) rd (a.sshiftRight (b.toNat % 32), false) ∧
    Computes (.engAddi n rd ra imm) s n (.addi rd ra imm) rd (Res.sat (a.toInt + imm.toInt)) ∧
    Computes (.engAndi n rd ra imm) s n (.andi rd ra imm) rd (a &&& imm.setWidth 32, false) ∧
    Computes (.engOri n rd ra imm) s n (.ori rd ra imm) rd (a ||| imm.setWidth 32, false) ∧
    Computes (.engXori n rd ra imm) s n (.xori rd ra imm) rd (a ^^^ imm.setWidth 32, false) ∧
    Computes (.engShli n rd ra sh) s n (.shli rd ra sh) rd (a <<< sh.toNat, false) ∧
    Computes (.engShri n rd ra sh) s n (.shri rd ra sh) rd (a >>> sh.toNat, false) ∧
    Computes (.engSari n rd ra sh) s n (.sari rd ra sh) rd (a.sshiftRight sh.toNat, false) ∧
    Computes (.engLdh n rd up) s n (.ldh rd up) rd (up ++ 0#16, false)
/-- Loads and inputs of a loop engine (R137, R139, R140, R132, R421). A word-aligned byte address inside the private area, inside the common area of
a program that may use it, or a constant of the program is loaded; RD gives a snapshot word that the slot's kind has, RDST an item of the engine's
own status, TRD a timer; NOP only takes its cycle. No load changes memory. LDC gives the word as the stores of earlier cycles leave it, once no
other engine of the sett has an earlier cycle to issue. A word with no bad bits is read as written. -/
def Obligations.EngineLoads : Prop :=
  ∀ (s : State) (n : Fin 1280) (rd ra slot sel : BitVec 4) (off : BitVec 18) (addr : BitVec 10) (tm : BitVec 2),
    let e := s.engine n
    (Ready s n .nop → Does (.engNop n) s fun t => t = s.setEngine n { e with pc := e.pc + 1, used := e.used + 1 }) ∧
    (∀ a, accessAddr (e.reg ra) off 0x800 = some a → s.shFound (privKey n a) = .good →
      Computes (.engLdp n rd ra off) s n (.ldp rd ra off) rd (s.shRead (privKey n a), false)) ∧
    (∀ a, accessAddr (e.reg ra) off 0x800 = some a → s.shFound (privKey n a) = .corrected → Ready s n (.ldp rd ra off) →
      Does (.engLdp n rd ra off) s fun t => Frame [.engines] [(MEM_ECC.corr, 5)] s t ∧
        (rd ≠ 0 → (t.engine n).reg rd = s.shRead (privKey n a)) ∧ (t.engine n).pc = e.pc + 1 ∧
        t.rd MEM_ECC.corr 5 = min (2 ^ MEM_ECC.corr.width - 1) (s.rd MEM_ECC.corr 5 + 1)) ∧
    (∀ a, accessAddr (e.reg ra) off 0x10000 = some a → e.common = true → s.awaits n = false →
      Tab.get 0 s.setts.sharedBad (commonKey n a / 8) = 0 →
      Computes (.engLdc n rd ra off) s n (.ldc rd ra off) rd (s.commonAt (commonKey n a) e.cycle, false)) ∧
    (∀ k, Tab.get 0 s.setts.sharedBad (k / 8) = 0 → s.shFound k = .good ∧ s.shRead k = s.shWord k) ∧
    (∀ k, s.setts.commits = [] → s.setts.before = [] → s.commonAt k e.cycle = s.shWord k) ∧
    (e.codeEnd ≤ addr.toNat → addr.toNat < e.length → e.badWords.contains addr.toNat = false →
      Computes (.engLdk n rd addr) s n (.ldk rd addr) rd (e.word addr.toNat, false)) ∧
    (sel.toNat < selCount (e.bind slot.toNat).1 →
      Computes (.engRd n rd slot sel) s n (.rd rd slot sel) rd (Tab.get 0 e.snap (slot.toNat * 16 + sel.toNat), false)) ∧
    (∀ v, s.statusItem n e sel.toNat = some v → Computes (.engRdst n rd sel) s n (.rdst rd sel) rd (v, false)) ∧
    Computes (.engTrd n rd tm) s n (.trd rd tm) rd (e.timer tm, false)
/-- Stores, outputs and timers of a loop engine (R104, R137, R142 to R145, R132). STP writes its private word at once and no other word; STC, WR,
WPR, EVT and MBX put one entry into the store buffer or the output queue and commit nothing; TSET and TSETI set their timer. -/
def Obligations.EngineStores : Prop :=
  ∀ (s : State) (n : Fin 1280) (rd ra rb slot : BitVec 4) (off imm : BitVec 18) (code : BitVec 16) (tag : BitVec 8) (tm : BitVec 2),
    let e := s.engine n
    (∀ a, accessAddr (e.reg ra) off 0x800 = some a → Ready s n (.stp rd ra off) →
      Does (.engStp n rd ra off) s fun t => Touches [.engines, .sharedMemory, .settRest] [] s t ∧
        t.shWord (privKey n a) = e.reg rd ∧ (∀ k, k ≠ privKey n a → t.shWord k = s.shWord k) ∧ (∀ m, m ≠ n.val → t.engine m = s.engine m) ∧
        t.engine n = { e with pc := e.pc + 1, used := e.used + 1, undo := (privKey n a, s.shWord (privKey n a)) :: e.undo }) ∧
    (∀ a, accessAddr (e.reg ra) off 0x10000 = some a → e.common = true → e.stores.length < 8 → Ready s n (.stc rd ra off) →
      Does (.engStc n rd ra off) s fun t =>
        t = s.setEngine n { e with pc := e.pc + 1, used := e.used + 1, stores := e.stores ++ [(commonKey n a, e.reg rd)] }) ∧
    (∀ v q, outputValue (e.bind slot.toNat).1 (e.reg ra) = some (v, q) → e.queue.length < 32 → Ready s n (.wr slot ra) →
      Does (.engWr n slot ra) s fun t => OnlyEngine n s t ∧
        (t.engine n).queue = e.queue ++ [OutEntry.write (e.bind slot.toNat).1 (e.bind slot.toNat).2 v] ∧
        (t.engine n).regs = { e.regs with q := q, qs := e.regs.qs || q } ∧ (t.engine n).pc = e.pc + 1 ∧ (t.engine n).used = e.used + 1) ∧
    (∀ k, k = privKey n (e.reg ra).toNat → (e.bind slot.toNat).1 = 7 → (e.reg ra).toNat % 4 = 0 → (e.reg ra).toNat ≤ 0x7F0 →
      (∀ j, j < 4 → s.shFound (k + j) = .good) → ((s.shRead k).extractLsb' 24 8).toNat ∈ [1, 2, 3, 4, 5] →
      e.queue.length < 32 → Ready s n (.wpr slot ra) →
      Does (.engWpr n slot ra) s fun t => t = s.setEngine n { e with
        pc := e.pc + 1, used := e.used + 1
        queue := e.queue ++ [.port slot.toNat (e.bind slot.toNat).2 (s.shRead k) (s.shRead (k + 1)) (s.shRead (k + 2)) (s.shRead (k + 3))] }) ∧
    (1 ≤ code.toNat / 256 → code.toNat / 256 ≤ 12 → e.queue.length < 32 → Ready s n (.evt code ra rb) →
      Does (.engEvt n code ra rb) s fun t =>
        t = s.setEngine n { e with pc := e.pc + 1, used := e.used + 1, queue := e.queue ++ [.event code.toNat (e.reg ra) (e.reg rb)] }) ∧
    (e.queue.length < 32 → Ready s n (.mbx tag ra) →
      Does (.engMbx n tag ra) s fun t =>
        t = s.setEngine n { e with pc := e.pc + 1, used := e.used + 1, queue := e.queue ++ [.mail tag.toNat (e.reg ra)] }) ∧
    (Ready s n (.tset tm ra) → Does (.engTset n tm ra) s fun t => OnlyEngine n s t ∧ (t.engine n).timer tm = e.reg ra ∧
      (∀ x, x ≠ tm → (t.engine n).timer x = e.timer x) ∧ (t.engine n).regs.g = e.regs.g ∧ (t.engine n).pc = e.pc + 1) ∧
    (Ready s n (.tseti tm imm) → Does (.engTseti n tm imm) s fun t => OnlyEngine n s t ∧ (t.engine n).timer tm = imm.setWidth 32 ∧
      (∀ x, x ≠ tm → (t.engine n).timer x = e.timer x) ∧ (t.engine n).regs.g = e.regs.g ∧ (t.engine n).pc = e.pc + 1)
/-- Jumps and branches of a loop engine (R131, R132, R138, R139). With a target inside the code region, a jump goes there and a branch goes there
with one cycle more when its condition holds; else it falls through. JAL leaves the address after it in g15. No flag changes. -/
def Obligations.EngineJumps : Prop :=
  ∀ (s : State) (n : Fin 1280) (ra rb bit : BitVec 4) (tm : BitVec 2) (target : BitVec 10),
    let e := s.engine n
    let at_ (pc used : Nat) : State := s.setEngine n { e with pc := pc, used := used }
    let inCode (t : Nat) : Prop := 8 ≤ t ∧ t < e.codeEnd
    let branch (c : Instr) (op : EngOp) (taken : Prop) : Prop := Ready s n op →
      (taken → inCode target.toNat → Does c s fun t => t = at_ target.toNat (e.used + 2)) ∧
      (¬ taken → Does c s fun t => t = at_ (e.pc + 1) (e.used + 1))
    (Ready s n (.jal target) → inCode target.toNat → Does (.engJal n target) s fun t => OnlyEngine n s t ∧
      (t.engine n).pc = target.toNat ∧ (t.engine n).reg 15 = BitVec.ofNat 32 (e.pc + 1) ∧ (t.engine n).used = e.used + 2 ∧
      (∀ x, x ≠ 15 → (t.engine n).reg x = e.reg x) ∧ (t.engine n).regs.z = e.regs.z ∧ (t.engine n).regs.n = e.regs.n) ∧
    (Ready s n (.jr ra) → inCode (e.reg ra).toNat → Does (.engJr n ra) s fun t => t = at_ (e.reg ra).toNat (e.used + 2)) ∧
    (Ready s n (.jmp target) → inCode target.toNat → Does (.engJmp n target) s fun t => t = at_ target.toNat (e.used + 2)) ∧
    branch (.engBeq n ra rb target) (.beq ra rb target) (e.reg ra = e.reg rb) ∧
    branch (.engBne n ra rb target) (.bne ra rb target) (e.reg ra ≠ e.reg rb) ∧
    branch (.engBlt n ra rb target) (.blt ra rb target) ((e.reg ra).toInt < (e.reg rb).toInt) ∧
    branch (.engBge n ra rb target) (.bge ra rb target) ((e.reg rb).toInt ≤ (e.reg ra).toInt) ∧
    branch (.engBtx n tm target) (.btx tm target) (e.timer tm = 0) ∧
    (bit.toNat ≤ 6 → branch (.engBst n bit target) (.bst bit target) (e.status bit.toNat = true))

/-- A tick of a sett (R101, R109, R131, R135, R137, R142, R145). A boundary of a sett whose programs issue instructions notes its half-microsecond,
takes up the firmware values collected for the sett, touches no engine of another sett, and leaves every RUNNING engine of the sett at the entry
of its program in a new tick, with FIRST where a START preceded and MIG where a migration did. An engine past its budget is undone: its registers
are those of the start of the tick, the overrun is counted, and the third in a row faults it with cause 1. A YLD commits the stores of the tick
against those of earlier cycles, a value for an output becomes the object's committed value, a mailbox entry follows those of earlier cycles, and
the tick is over. -/
def Obligations.SettTick : Prop :=
  (∀ (s : State) (k : Fin 40) (half : Bool), s.settUp = true → s.boundaryAt k (2 * s.tick + half.toNat) = true →
    Tab.get 0 s.setts.lastHalf k ≠ 2 * s.tick + half.toNat + 1 → (∀ n, n / 32 = k.val → s.progRole n = .other) →
    Does (.settTickBoundary k half []) s fun t =>
      Touches [.engines, .sharedMemory, .settRest, .msix, .burrow, .twin] (TWIN_STAT.mirror_age :: SETT_ENG_CTL.obj :: recBits) s t ∧
      Tab.get 0 t.setts.lastHalf k = 2 * s.tick + half.toNat + 1 ∧ (∀ w ∈ t.setts.fwWrites, w.1 / 32768 ≠ k.val) ∧
      (∀ n, n / 32 ≠ k.val → t.engine n = s.engine n) ∧
      (∀ n, n / 32 = k.val → (t.engine n).state = .running →
        (t.engine n).inTick = true ∧ (t.engine n).pc = (t.engine n).entry ∧ (t.engine n).used = 2 ∧
        (t.engine n).tickAt = 2 * s.tick + half.toNat ∧ (t.engine n).queue = [] ∧ (t.engine n).stores = [] ∧
        (t.engine n).startDue = false ∧ (t.engine n).migDue = false ∧
        ((s.engine n).cmd = 0 → (t.engine n).first = (s.engine n).startDue ∧ (t.engine n).mig = (s.engine n).migDue))) ∧
  (∀ (s : State) (n : Fin 1280) (half : Bool), s.settUp = true → (s.engine n).state = .running → (s.engine n).inTick = true →
    (s.engine n).tickAt + s.rd SETT_CTL.period (n / 32) ≤ 2 * s.tick + half.toNat →
    Does (.tickOverrun n half) s fun t =>
      Touches [.engines, .sharedMemory, .settRest, .msix, .burrow] recBits s t ∧
      (t.engine n).regs = (s.engine n).start ∧ (t.engine n).inTick = false ∧ (t.engine n).queue = [] ∧ (t.engine n).stores = [] ∧
      (t.engine n).overruns = min (2 ^ 32 - 1) ((s.engine n).overruns + 1) ∧
      ((s.engine n).consec < 2 → (t.engine n).state = .running) ∧
      ((s.engine n).consec = 2 → (t.engine n).state = .faulted ∧ (t.engine n).cause = 1) ∧
      (∀ m, m ≠ n.val → t.engine m = s.engine m)) ∧
  (∀ (s : State) (n : Fin 1280), Ready s n .yld → (s.engine n).queue = [] →
    Does (.engYld n) s fun t => Touches [.engines, .sharedMemory, .settRest] [] s t ∧
      (t.engine n).inTick = false ∧ (t.engine n).consec = 0 ∧ (t.engine n).lastUsed = min 65535 ((s.engine n).used + 1) ∧
      (∀ k v, (s.engine n).stores = [(k, v)] → (∀ x ∈ s.setts.commits, x.key = k → x.cycle < (s.engine n).cycle) →
        t.shWord k = v ∧ ∀ j, j ≠ k → t.shWord j = s.shWord j)) ∧
  (∀ (s : State) (n : Fin 1280) (index : Nat) (v : Word), Ready s n .yld → (s.engine n).queue = [.write 8 index v] → (s.engine n).stores = [] →
    (s.engine n).badRegs.contains 21 = false →
    Does (.engYld n) s fun t => Touches [.engines, .settRest] [] s t ∧
      t.outVal (s.engine n).obj 8 index = v ∧ t.setts.shmem = s.setts.shmem ∧ (t.engine n).inTick = false) ∧
  (∀ (s : State) (n : Fin 1280) (tag : Nat) (v : Word), Ready s n .yld → (s.engine n).queue = [.mail tag v] → (s.engine n).stores = [] →
    (s.engine n).badRegs.contains 21 = false → s.setts.mailbox.length < 256 → (∀ x ∈ s.setts.mailbox, x.cycle < (s.engine n).cycle) →
    Does (.engYld n) s fun t => Touches [.engines, .settRest] [] s t ∧
      t.setts.mailbox = s.setts.mailbox ++ [{ obj := (s.engine n).obj, engine := n.val, tag := tag, value := v, cycle := (s.engine n).cycle }])
/-- Engine commands and the writes that only an IDLE engine takes (R67, R100, R106, R112, R114, R146). In a sett whose domain is on, BIND, START,
STOP and UNBIND wait in the engine for the sett's boundary, one at a time, with the object number, and an instruction word and a binding of an index
in range are written; a sett whose domain is off takes none of them. A firmware value of an enabled sett is collected, a write outside the
firmware-value areas only sets fw_wr_ignored; POP removes the head of the mailbox. -/
def Obligations.EngineCommands : Prop :=
  (∀ (s : State) (n : Fin 1280) (obj : BitVec 11) (slot : Fin 16) (a : BitVec 10) (v : BitVec 32), s.settOn (n / 32) = false →
    Does (.bind n obj) s (· = s) ∧ Does (.start n obj) s (· = s) ∧ Does (.stop n obj) s (· = s) ∧ Does (.unbind n obj) s (· = s) ∧
    Does (.bindingWrite n slot v) s (· = s) ∧ Does (.instructionMemoryWrite n a v) s (· = s)) ∧
  (∀ (s : State) (n : Fin 1280) (obj : BitVec 11), s.settUp = true → s.settOn (n / 32) = true →
    (s.mayBind = true → Does (.bind n obj) s fun t => Frame [.engines] [(SETT_ENG_CTL.obj, n.val)] s t ∧ t.engine n = { s.engine n with cmd := 1 } ∧
      (obj.toNat < 1280 → t.rd SETT_ENG_CTL.obj n = obj.toNat) ∧ ∀ m, m ≠ n.val → t.engine m = s.engine m) ∧
    (Does (.start n obj) s fun t => Frame [.engines] [(SETT_ENG_CTL.obj, n.val)] s t ∧ t.engine n = { s.engine n with cmd := 2 } ∧
      (obj.toNat < 1280 → t.rd SETT_ENG_CTL.obj n = obj.toNat) ∧ ∀ m, m ≠ n.val → t.engine m = s.engine m) ∧
    (Does (.stop n obj) s fun t => Frame [.engines] [(SETT_ENG_CTL.obj, n.val)] s t ∧ t.engine n = { s.engine n with cmd := 3 } ∧
      (obj.toNat < 1280 → t.rd SETT_ENG_CTL.obj n = obj.toNat) ∧ ∀ m, m ≠ n.val → t.engine m = s.engine m) ∧
    (Does (.unbind n obj) s fun t => Frame [.engines] [(SETT_ENG_CTL.obj, n.val)] s t ∧ t.engine n = { s.engine n with cmd := 4 } ∧
      (obj.toNat < 1280 → t.rd SETT_ENG_CTL.obj n = obj.toNat) ∧ ∀ m, m ≠ n.val → t.engine m = s.engine m)) ∧
  (∀ (s : State) (n : Fin 1280) (a : BitVec 10) (v : BitVec 32), s.settUp = true → (s.engine n).state = .idle →
    s.bit SETT_CTL.enable (n / 32) = true →
    Does (.instructionMemoryWrite n a v) s fun t => OnlyEngine n s t ∧ (t.engine n).word a.toNat = v ∧
      (∀ b, b ≠ a.toNat → (t.engine n).word b = (s.engine n).word b) ∧ (t.engine n).badWords.contains a.toNat = false) ∧
  (∀ (s : State) (n : Fin 1280) (slot : Fin 16) (v : BitVec 32), s.settUp = true → (s.engine n).state = .idle → s.settOn (n / 32) = true →
    SETT_BIND.index.of v.toNat < kindSize (SETT_BIND.kind.of v.toNat) →
    Does (.bindingWrite n slot v) s fun t => OnlyEngine n s t ∧
      (t.engine n).bind slot = (SETT_BIND.kind.of v.toNat, SETT_BIND.index.of v.toNat) ∧
      ∀ j, j ≠ slot.val → (t.engine n).bind j = (s.engine n).bind j) ∧
  (∀ (s : State) (k : Fin 40) (off : BitVec 15) (v : BitVec 32), s.settUp = true → s.bit SETT_CTL.enable k = true →
    (off.toNat < 16384 → 480 ≤ off.toNat % 512 →
      Does (.firmwareValueWrite k off v) s fun t => Frame [.settRest] [] s t ∧
        t.setts.fwWrites = s.setts.fwWrites ++ [(k.val * 32768 + off.toNat, v)]) ∧
    ((16384 ≤ off.toNat ∨ off.toNat % 512 < 480) →
      Does (.firmwareValueWrite k off v) s fun t => Frame [] [(SETT_STAT.fw_wr_ignored, k.val)] s t ∧ t.rd SETT_STAT.fw_wr_ignored k = 1)) ∧
  (∀ s : State, s.settUp = true →
    Does .pop s fun t => Frame [.settRest] [] s t ∧ t.setts.mailbox = s.setts.mailbox.drop 1 ∧ t.setts.outs = s.setts.outs)
/-- Migration, enabling and period (R67, R102, R115 to R118, R120). A migration that Table 5-4 does not refuse becomes busy; at the next boundary
source and destination are MIGRATING and the destination holds the source's object, registers, bindings and private area; one tick later the
destination has the object and the source is IDLE. A sett is enabled at once; disabling it is refused while an object owns a rail that is ON, and
a sett that holds no object loses its bindings and programs with its domain; the period changes only while no engine is RUNNING, FAULTED or
MIGRATING. -/
def Obligations.MigrationAndEnable : Prop :=
  (∀ (s : State) (src dst : BitVec 11), s.settUp = true → src.toNat < 1280 → dst.toNat < 1280 → s.bit SETT_MIGSTAT.busy 0 = false →
    (s.migRefusal src.toNat dst.toNat = none →
      Does (.migrationGo src dst) s fun t =>
        Frame [.settRest] [(SETT_MIGCMD.src, 0), (SETT_MIGCMD.dst, 0), (SETT_MIGSTAT.busy, 0)] s t ∧ t.rd SETT_MIGSTAT.busy 0 = 1 ∧
        t.rd SETT_MIGCMD.src 0 = src.toNat ∧ t.rd SETT_MIGCMD.dst 0 = dst.toNat ∧
        t.setts.mig = { src := src.toNat, dst := dst.toNat }) ∧
    (∀ code, s.migRefusal src.toNat dst.toNat = some code →
      Records (.migrationGo src dst) s Ev.ENG_MIG_REFUSED
        (if (s.engine src.toNat).state = .idle then Src.setts else (s.engine src.toNat).obj) [src.toNat, dst.toNat, code] fun u =>
        Frame [] [(SETT_MIGCMD.src, 0), (SETT_MIGCMD.dst, 0), (SETT_MIGSTAT.status, 0)] s u ∧ u.rd SETT_MIGSTAT.status 0 = code % 256)) ∧
  (∀ (s : State) (half : Bool), s.settUp = true → s.bit SETT_MIGSTAT.busy 0 = true → s.setts.mig.copied = false →
    s.migBoundary (2 * s.tick + half.toNat) = true → s.setts.mig.src ≠ s.setts.mig.dst → (s.engine s.setts.mig.src).inTick = false →
    Does (.migrationCopy half) s fun t => Touches [.engines, .sharedMemory, .settRest] [] s t ∧
      (t.engine s.setts.mig.src).state = .migrating ∧ (t.engine s.setts.mig.dst).state = .migrating ∧
      (t.engine s.setts.mig.dst).obj = (s.engine s.setts.mig.src).obj ∧ (t.engine s.setts.mig.dst).regs = (s.engine s.setts.mig.src).regs ∧
      (t.engine s.setts.mig.dst).binds = (s.engine s.setts.mig.src).binds ∧
      (∀ j, j < 512 → t.shWord (privKey s.setts.mig.dst 0 + j) = s.shWord (privKey s.setts.mig.src 0 + j)) ∧
      t.setts.mig.copied = true ∧ (∀ n, n ≠ s.setts.mig.src → n ≠ s.setts.mig.dst → t.engine n = s.engine n)) ∧
  (∀ (s : State) (half : Bool), s.settUp = true → s.bit SETT_MIGSTAT.busy 0 = true → s.setts.mig.copied = true →
    s.migBoundary (2 * s.tick + half.toNat) = true → s.setts.mig.src ≠ s.setts.mig.dst →
    2 * s.tick + half.toNat = s.setts.mig.half + s.rd SETT_CTL.period (s.setts.mig.src / 32) →
    Records (.migrationHandover half) s Ev.ENG_MIGRATED (s.engine s.setts.mig.src).obj
      [s.setts.mig.src, s.setts.mig.dst, (s.engine s.setts.mig.src).obj] fun u =>
      Touches [.engines, .sharedMemory, .settRest] [SETT_MIGSTAT.busy, SETT_MIGSTAT.status, SETT_MIGSTAT.done] s u ∧
      (u.engine s.setts.mig.src).state = .idle ∧ (u.engine s.setts.mig.src).binds = [] ∧
      (u.engine s.setts.mig.dst).state = (if s.setts.mig.srcStopped then .stopped else .running) ∧
      u.rd SETT_MIGSTAT.busy 0 = 0 ∧ u.rd SETT_MIGSTAT.status 0 = St.ok) ∧
  (∀ (s : State) (k : Fin 40), s.settUp = true →
    Does (.settEnable k) s fun t => Frame [] [(SETT_CTL.enable, k.val), (SETT_STAT.ctl_status, k.val)] s t ∧
      t.rd SETT_CTL.enable k = 1 ∧ t.rd SETT_STAT.ctl_status k = St.ok) ∧
  (∀ (s : State) (k : Fin 40), s.settUp = true →
    ((∃ n ∈ settEngines k, (s.engine n).state ≠ .idle ∧ s.ownsOnRail (s.engine n) = true) →
      Does (.settDisable k) s fun t => Frame [] [(SETT_STAT.ctl_status, k.val)] s t ∧ t.rd SETT_STAT.ctl_status k = St.refusedState) ∧
    ((∀ n ∈ settEngines k, (s.engine n).state ≠ .idle → s.ownsOnRail (s.engine n) = false) → s.migrates k = false →
      Does (.settDisable k) s fun t =>
        Touches [.engines, .sharedMemory, .settRest] [SETT_CTL.enable, SETT_STAT.ctl_status, SETT_ENG_CTL.obj] s t ∧
        t.rd SETT_CTL.enable k = 0 ∧ t.rd SETT_STAT.ctl_status k = St.ok ∧ k.val ∈ t.setts.stopDue ∧
        (∀ n, n / 32 ≠ k.val → t.engine n = s.engine n) ∧
        ((∀ n ∈ settEngines k, (s.engine n).state = .idle) → ∀ n ∈ settEngines k, (t.engine n).binds = [] ∧ (t.engine n).imem = []))) ∧
  (∀ (s : State) (k : Fin 40) (v : BitVec 8), s.settUp = true → 1 ≤ v.toNat → v.toNat ≤ 200 →
    (∀ n ∈ settEngines k, (s.engine n).state = .idle ∨ (s.engine n).state = .stopped) →
    Does (.periodWrite k v) s fun t => Frame [] [(SETT_CTL.period, k.val)] s t ∧ t.rd SETT_CTL.period k = v.toNat)
/-- Reflex rules (R121 to R126). A term of an unlocked rule takes a source that is not reserved; a rule that becomes true puts its actions in force,
latches if it is to, and counts; one that stops being true, or whose latch is cleared when it is no longer true, or that is disabled, has its
actions released; the latch of a rule that latches and is still true stands; a lock stands. -/
def Obligations.ReflexRules : Prop :=
  (∀ (s : State) (r : Fin 512) (v : BitVec 32), s.settUp = true → s.bit RFX_ACT.lock r = false →
    reservedSource (RFX_TERM01.t0_src.of v.toNat) = false → reservedSource (RFX_TERM01.t1_src.of v.toNat) = false →
    (Does (.termWrite r false v) s fun t =>
      Frame [] [(RFX_TERM01.t0_src, r.val), (RFX_TERM01.t0_inv, r.val), (RFX_TERM01.t0_en, r.val), (RFX_TERM01.t1_src, r.val),
        (RFX_TERM01.t1_inv, r.val), (RFX_TERM01.t1_en, r.val)] s t ∧
      ∀ f ∈ [RFX_TERM01.t0_src, RFX_TERM01.t0_inv, RFX_TERM01.t0_en, RFX_TERM01.t1_src, RFX_TERM01.t1_inv, RFX_TERM01.t1_en],
        t.rd f r = f.of v.toNat) ∧
    (Does (.termWrite r true v) s fun t =>
      Frame [] [(RFX_TERM23.t2_src, r.val), (RFX_TERM23.t2_inv, r.val), (RFX_TERM23.t2_en, r.val), (RFX_TERM23.t3_src, r.val),
        (RFX_TERM23.t3_inv, r.val), (RFX_TERM23.t3_en, r.val)] s t ∧
      ∀ f ∈ [RFX_TERM23.t2_src, RFX_TERM23.t2_inv, RFX_TERM23.t2_en, RFX_TERM23.t3_src, RFX_TERM23.t3_inv, RFX_TERM23.t3_en],
        t.rd f r = f.of v.toNat)) ∧
  (∀ (s : State) (r : Fin 512), s.settUp = true → s.ruleMayHold r = true → r.val ∉ s.setts.trueRules →
    Does (.rfxRuleTrue r) s fun t =>
      Touches [.settRest, .zither, .feed, .harps, .msix, .recorderRest, .burrow, .twin]
        ([RFX_STAT.latched, RFX_STAT.fires, ZIT_GSTAT.abort_cause, ZIT_GSTAT.state, FEED_STAT.gdb, FEED_STAT.gda, FEED_STAT.retry_count,
          FEED_STAT.trip_cause, FEED_STAT.ins_state, HARP_WSTAT.code, HARP_WUPS.ups, REC_STAT.rule, REC_STAT.more, REC_STAT.src,
          REC_STAT.state, REC_TTICK.tick] ++ recBits) s t ∧
      r.val ∈ t.setts.activeRules ∧ r.val ∈ t.setts.trueRules ∧
      t.rd RFX_STAT.fires r = min (2 ^ 16 - 1) (s.rd RFX_STAT.fires r + 1) ∧ (s.bit RFX_ACT.latch r = true → t.rd RFX_STAT.latched r = 1)) ∧
  (∀ (s : State) (r : Fin 512), s.settUp = true → s.ruleMayFail r = true → r.val ∈ s.setts.trueRules →
    Does (.rfxRuleFalse r) s fun t => Frame [.settRest] [] s t ∧ r.val ∉ t.setts.trueRules ∧
      (s.bit RFX_STAT.latched r = false → r.val ∉ t.setts.activeRules) ∧
      (s.bit RFX_STAT.latched r = true → t.setts.activeRules = s.setts.activeRules)) ∧
  (∀ (s : State) (r : Fin 512), s.settUp = true → s.bit RFX_STAT.latched r = true → s.stillTrue r = false →
    Does (.latchClear r) s fun t => Frame [.settRest] [(RFX_STAT.latched, r.val)] s t ∧ t.rd RFX_STAT.latched r = 0 ∧
      r.val ∉ t.setts.activeRules) ∧
  (∀ (s : State) (r : Fin 512), s.bit RFX_STAT.latched r = true → s.stillTrue r = true → s.bit RFX_ACT.latch r = true →
    Does (.latchClear r) s (· = s)) ∧
  (∀ (s : State) (r : Fin 512), s.settUp = true → s.bit RFX_ACT.lock r = false →
    Does (.ruleDisable r) s fun t => Frame [.settRest] [(RFX_ACT.enable, r.val), (RFX_STAT.latched, r.val)] s t ∧
      t.rd RFX_ACT.enable r = 0 ∧ t.rd RFX_STAT.latched r = 0 ∧ r.val ∉ t.setts.activeRules ∧ r.val ∉ t.setts.trueRules) ∧
  (∀ (s : State) (r : Fin 512), s.settUp = true →
    Does (.ruleLock r) s fun t => Frame [] [(RFX_ACT.lock, r.val)] s t ∧ t.rd RFX_ACT.lock r = 1)

/-- The table and the group commands of the zither sequencer (R153 to R158, R169, R170, Table 7-6). An entry word is written while its groups are
down and the table is not locked, and else only wr_ignored sets. A power-up of an OFF group whose checks pass puts it in UP with a common start at
the next boundary (R157), or waits for the input's admission; of a group in DOWN or DWELL it waits; a power-down takes a group in ON or UP to DOWN
and a group in DWELL forgets the power-up. DWELL ends in OFF, and the pads are driven low again 1 ms after a collapse or trip. -/
def Obligations.ZitherCommands : Prop :=
  (∀ (s : State) (k : Fin 256) (w : Fin 4) (v : BitVec 32), s.alive = true →
    (s.bit ZIT_CTL.lock 0 = false → s.gstate (s.rd ZIT_EW0.group k) ∈ [0, 4] → (w.val = 0 → s.gstate (ZIT_EW0.group.of v.toNat) ∈ [0, 4]) →
      Does (.entryWrite k w v) s fun t => Frame [] ((entryWordFields w).map fun f => (f, k.val)) s t ∧
        ∀ f ∈ entryWordFields w, f.min ≤ f.of v.toNat → f.of v.toNat ≤ f.max → t.rd f k = f.of v.toNat) ∧
    ((s.bit ZIT_CTL.lock 0 = true ∨ s.gstate (s.rd ZIT_EW0.group k) ∈ [1, 2, 3]) →
      Does (.entryWrite k w v) s fun t => Frame [] [(ZIT_STAT.wr_ignored, 0)] s t ∧ t.rd ZIT_STAT.wr_ignored 0 = 1)) ∧
  (∀ s : State, s.alive = true → Does .zitherLock s fun t => Frame [] [(ZIT_CTL.lock, 0)] s t ∧ t.rd ZIT_CTL.lock 0 = 1) ∧
  (∀ (s : State) (g : Fin 16) (via : Via), s.fwUp = true →
    (s.given via 0x0400 fun d => descParam d 0x2C 1 == g.val && descParam d 0x2D 1 == 1) = true → s.shadow_ = false → s.noStart = false →
    Does (.powerUp g via) s fun t =>
      Touches [.zither, .msix, .hostRest, .burrow, .twin]
        ([ZIT_GSTAT.up_pending, ZIT_GSTAT.cmd_status, ZIT_GSTAT.state, ZIT_STAT.check_code, ZIT_STAT.check_entry, ZIT_GTICK.tick,
          RING_STAT.outstanding, CQ_TAIL.index, RING_ERR.bad_desc] ++ recBits) s t ∧
      (s.gstate g ∈ [3, 4] ∨ s.gstate g = 0 ∧ s.admitted = false ∧ s.groupCheck g = none →
        t.rd ZIT_GSTAT.up_pending g = 1 ∧ t.rd ZIT_GSTAT.cmd_status g = St.ok ∧ t.gstate g = s.gstate g) ∧
      (s.gstate g = 0 → s.admitted = true → s.groupCheck g = none →
        t.gstate g = 1 ∧ t.rd ZIT_GSTAT.cmd_status g = St.ok ∧ t.rd ZIT_GSTAT.up_pending g = 0 ∧
        (s.leads = false → t.rd ZIT_GTICK.tick g = (s.tick + 1) % 2 ^ 32) ∧ ∀ k ∈ s.groupEntries g, (t.zent k).phase = 1) ∧
      (∀ code k, s.gstate g = 0 → s.groupCheck g = some (code, k) →
        t.gstate g = 0 ∧ t.rd ZIT_GSTAT.cmd_status g = St.refusedState ∧ t.rd ZIT_STAT.check_code 0 = code % 16 ∧
        t.rd ZIT_STAT.check_entry 0 = k % 256)) ∧
  (∀ (s : State) (g : Fin 16) (via : Via), s.fwUp = true →
    (s.given via 0x0400 fun d => descParam d 0x2C 1 == g.val && descParam d 0x2D 1 == 2) = true → s.shadow_ = false →
    Does (.powerDown g via) s fun t =>
      Touches [.zither, .msix, .hostRest, .burrow, .twin]
        ([ZIT_GSTAT.up_pending, ZIT_GSTAT.abort_cause, ZIT_GSTAT.cmd_status, ZIT_GSTAT.state, ZIT_GTICK.tick, RING_STAT.outstanding,
          CQ_TAIL.index, RING_ERR.bad_desc] ++ recBits) s t ∧
      t.rd ZIT_GSTAT.cmd_status g = St.ok ∧
      (s.gstate g ∈ [1, 2] → t.gstate g ∈ [3, 4] ∧ t.rd ZIT_GSTAT.abort_cause g = (if s.gstate g = 1 then 9 else 0)) ∧
      (s.gstate g = 4 → t.gstate g = 4 ∧ t.rd ZIT_GSTAT.up_pending g = 0) ∧ (s.gstate g ∈ [0, 3] → t.gstate g = s.gstate g)) ∧
  (∀ (s : State) (g : Fin 16), s.alive = true → s.noStart = false → s.gstate g = 0 → s.bit ZIT_GSTAT.up_pending g = true → s.admitted = true →
    s.groupCheck g = none →
    Does (.pendingPowerUpStart g) s fun t =>
      Touches [.zither, .msix, .burrow, .twin]
        ([ZIT_GSTAT.up_pending, ZIT_GSTAT.cmd_status, ZIT_GSTAT.state, ZIT_STAT.check_code, ZIT_STAT.check_entry, ZIT_GTICK.tick] ++ recBits) s t ∧
      t.gstate g = 1 ∧ t.rd ZIT_GSTAT.up_pending g = 0 ∧ ∀ k ∈ s.groupEntries g, (t.zent k).phase = 1) ∧
  (∀ (s : State) (g : Fin 16), s.alive = true → s.gstate g = 4 → (s.zgrp g).dwellEnd ≤ s.tick → s.bit ZIT_GSTAT.up_pending g = false →
    s.bit ZIT_GCTL.auto_restart g = false →
    Does (.dwellEnd g) s fun t => Frame [] [(ZIT_GSTAT.state, g.val)] s t ∧ t.gstate g = 0) ∧
  (∀ (s : State) (at_ : Nat), s.alive = true → s.zither.released = true → s.zither.redriveFrom = some at_ → at_ + 1000 ≤ s.bootUs →
    Does .enRedrive s fun t => Frame [.zither, .burrow] [(FEED_STAT.collapse, 0)] s t ∧ t.zither.released = false ∧
      t.zither.entries = s.zither.entries ∧ t.rd FEED_STAT.collapse 0 = 0 ∧ t.burrow.flash = s.burrow.flash)
/-- The instants of a run of the zither sequencer (R159 to R167). An entry that falls due has its EN on and ramps; one that is good is noted with
its µs, and the last of its group completes the power-up; a missed good deadline, a chatter beyond the limit and a loss of good abort the group
with causes 1, 2 and 3; in a power-down an entry's EN drops, and an entry confirmed off, or past its deadline, is OFF. -/
def Obligations.ZitherRun : Prop :=
  (∀ (s : State) (k : Fin 256), s.alive = true → s.gstate (s.rd ZIT_EW0.group k) = 1 → (s.zent k).phase = 1 →
    (s.zgrp (s.rd ZIT_EW0.group k)).start + s.rd ZIT_EW1.on_delay k * 10 ≤ s.tick →
    (∀ d ∈ s.deps k, (s.zent d).good = true ∧ (s.zent d).goodAt + 1 ≤ s.tick) → s.shadow_ = false →
    Does (.entryDue k) s fun t => Frame [.zither] [] s t ∧ (t.zent k).phase = 2 ∧ (t.zent k).on = true ∧ (t.zent k).onAt = s.tick ∧
      (∀ j, j ≠ k.val → t.zent j = s.zent j) ∧ t.zither.groups = s.zither.groups) ∧
  (∀ (s : State) (k : Fin 256), s.alive = true → s.gstate (s.rd ZIT_EW0.group k) = 1 → (s.zent k).phase = 2 → s.hasSource k = true →
    s.goodCond k = true → max (s.zent k).onAt (s.zent k).condAt + s.rd ZIT_EW2.pg_filter k ≤ s.tick →
    Does (.entryGood k) s fun t => Touches [.zither, .msix, .burrow] (ZIT_GSTAT.state :: recBits) s t ∧ (t.zent k).phase = 3 ∧
      (t.zent k).good = true ∧ (t.zent k).goodAt = s.tick ∧ (t.zent k).goodUs = min 65535 (s.tick - (s.zent k).onAt) ∧
      (∀ j, j ≠ k.val → t.zent j = s.zent j) ∧
      ((∀ j ∈ s.groupEntries (s.rd ZIT_EW0.group k), j = k.val ∨ (s.zent j).good = true) → t.gstate (s.rd ZIT_EW0.group k) = 2) ∧
      ((∃ j ∈ s.groupEntries (s.rd ZIT_EW0.group k), j ≠ k.val ∧ (s.zent j).good = false) → t.gstate (s.rd ZIT_EW0.group k) = 1)) ∧
  (∀ (s : State) (k : Fin 256), s.alive = true → s.gstate (s.rd ZIT_EW0.group k) = 1 → (s.zent k).phase = 2 → s.hasSource k = true →
    (s.zent k).onAt + s.rd ZIT_EW2.deadline k * 100 ≤ s.tick →
    Does (.goodDeadlineExpiry k) s fun t => Touches [.zither, .msix, .burrow, .twin]
        ([ZIT_GSTAT.abort_entry, ZIT_GSTAT.abort_cause, ZIT_GSTAT.state, ZIT_GTICK.tick] ++ recBits) s t ∧
      t.gstate (s.rd ZIT_EW0.group k) ∈ [3, 4] ∧ t.rd ZIT_GSTAT.abort_cause (s.rd ZIT_EW0.group k) = 1 ∧
      t.rd ZIT_GSTAT.abort_entry (s.rd ZIT_EW0.group k) = k ∧ (t.zent k).fault = 1) ∧
  (∀ (s : State) (k : Fin 256), s.alive = true → s.hasSource k = true → (s.zent k).on = true → (s.zent k).good = true →
    (s.zent k).cond = false → (s.zent k).counted = false → s.gstate (s.rd ZIT_EW0.group k) ∈ [1, 2] →
    (s.zent k).condAt + s.rd ZIT_EW2.pg_filter k ≤ s.tick →
    Does (.falseGoodInterval k) s fun t => Touches [.zither, .msix, .burrow, .twin]
        ([ZIT_GSTAT.abort_entry, ZIT_GSTAT.abort_cause, ZIT_GSTAT.state, ZIT_GTICK.tick] ++ recBits) s t ∧ (t.zent k).counted = true ∧
      ((s.zent k).inWatch = true → (t.zent k).chatters = (s.zent k).chatters + 1 ∧
        ((s.zent k).chatters + 1 ≤ s.rd ZIT_EW2.chatter_max k → t.gstate (s.rd ZIT_EW0.group k) = s.gstate (s.rd ZIT_EW0.group k)) ∧
        (s.rd ZIT_EW2.chatter_max k < (s.zent k).chatters + 1 → t.rd ZIT_GSTAT.abort_cause (s.rd ZIT_EW0.group k) = 2)) ∧
      ((s.zent k).inWatch = false → t.rd ZIT_GSTAT.abort_cause (s.rd ZIT_EW0.group k) = 3)) ∧
  (∀ (s : State) (k : Fin 256), s.alive = true → s.hasSource k = true → (s.zent k).on = true → (s.zent k).good = true →
    (s.zent k).cond = false → (s.zent k).inWatch = true → (s.zent k).counted = true → (s.zent k).lost = false →
    s.gstate (s.rd ZIT_EW0.group k) ∈ [1, 2] → (s.zent k).condAt + s.rd ZIT_EW2.deadline k * 100 ≤ s.tick →
    Does (.pgLostDeadline k) s fun t => Touches [.zither, .msix, .burrow, .twin]
        ([ZIT_GSTAT.abort_entry, ZIT_GSTAT.abort_cause, ZIT_GSTAT.state, ZIT_GTICK.tick] ++ recBits) s t ∧ (t.zent k).lost = true ∧
      t.gstate (s.rd ZIT_EW0.group k) ∈ [3, 4] ∧ t.rd ZIT_GSTAT.abort_cause (s.rd ZIT_EW0.group k) = 3) ∧
  (∀ (s : State) (k : Fin 256), s.alive = true → s.gstate (s.rd ZIT_EW0.group k) = 3 → (s.zent k).on = true →
    (s.zgrp (s.rd ZIT_EW0.group k)).start + s.rd ZIT_EW1.off_delay k * 10 ≤ s.tick →
    Does (.powerDownEntryDue k) s fun t => Frame [.zither] [] s t ∧
      t.zent k = { s.zent k with phase := 4, on := false, offAt := s.tick } ∧ ∀ j, j ≠ k.val → t.zent j = s.zent j) ∧
  (∀ (s : State) (k : Fin 256), s.alive = true → s.gstate (s.rd ZIT_EW0.group k) = 3 → (s.zent k).phase = 4 → s.hasSource k = true →
    s.goodCond k = false → max (s.zent k).offAt (s.zent k).condAt + s.rd ZIT_EW2.pg_filter k ≤ s.tick →
    Does (.offConfirmed k) s fun t => Touches [.zither, .msix, .burrow] (ZIT_GSTAT.state :: recBits) s t ∧
      t.zent k = { s.zent k with phase := 0 } ∧
      ((∀ j ∈ s.groupEntries (s.rd ZIT_EW0.group k), j = k.val ∨ (s.zent j).phase = 0) → t.gstate (s.rd ZIT_EW0.group k) = 4)) ∧
  (∀ (s : State) (k : Fin 256), s.alive = true → s.gstate (s.rd ZIT_EW0.group k) = 3 → (s.zent k).phase = 4 → s.hasSource k = true →
    (s.zent k).offAt + s.rd ZIT_EW2.deadline k * 100 ≤ s.tick →
    Does (.offDeadlineExpiry k) s fun t => Touches [.zither, .msix, .burrow] ([ZIT_GSTAT.off_stuck, ZIT_GSTAT.state] ++ recBits) s t ∧
      t.zent k = { s.zent k with phase := 0 } ∧ t.rd ZIT_GSTAT.off_stuck (s.rd ZIT_EW0.group k) = 1)
/-- The tray tick, a PG input and an input collapse (R59, R101, R157, R160, R168, R177, R473). The boundary counts the tick and boot_us; the
watchdog that running tray firmware has refreshed since the last one counts from now on, over a period of 100 ms to 10 s; a PG input takes
its level and moves no EN; a collapse releases every EN pad, leaves every group OFF or in DWELL, and takes GHS low from RAMP, ON and REMOVING. -/
def Obligations.TickAndCollapse : Prop :=
  (∀ (s : State) (edge : Bool) (fec : List FecCount) (acts : FirmwareActs), s.alive = true →
    Does (.trayTickBoundary edge fec acts) s fun t => t.tick = s.tick + 1 ∧ t.bootUs = s.bootUs + 1 ∧
      (s.fwUp = true → ∀ w, acts.watchdog = some w → t.part.refreshAt = s.bootUs + 1 ∧
        (100000 ≤ w.toNat → w.toNat ≤ 10000000 → t.part.watchdogUs = w.toNat)) ∧
      (s.fwUp = false → t.part = s.part) ∧
      Touches [.tick, .bootUs, .part, .sense, .engines, .settRest, .zither, .feed, .harps, .msix, .hostRest, .ports, .wards, .burrow, .twin]
        ([ZIT_GSTAT.up_pending, ZIT_GSTAT.abort_entry, ZIT_GSTAT.abort_cause, ZIT_GSTAT.cmd_status, ZIT_GSTAT.state, ZIT_STAT.check_code,
          ZIT_STAT.check_entry, ZIT_GTICK.tick, HARP_WCTL.floor, HARP_WSTAT.code, HARP_WUPS.ups, HARP_WRES.us, MRT_JSTAT.state,
          WPORT_CTL.enable, WPORT_STAT.outstanding, WPORT_STAT.retrains, WPORT_STAT.cmd_status, WPORT_STAT.state, WPORT_ERR.req_to,
          WPORT_LSCFG.enable, WPORT_LSSTAT.limited, WPORT_LSSTAT.state, WPORT_FECCOR.count, WPORT_FECUNC.count, RING_STAT.outstanding,
          CQ_TAIL.index, RING_ERR.bad_desc, SETT_ENG_CTL.obj, TWIN_STAT.alv] ++ recBits) s t) ∧
  (∀ (s : State) (pin : Fin 128) (high : Bool), s.alive = true →
    Does (.pgChange pin high) s fun t => Frame [.zither] [] s t ∧ t.zither.pgHigh.contains pin.val = high ∧
      (∀ p, p ≠ pin.val → t.zither.pgHigh.contains p = s.zither.pgHigh.contains p) ∧ (∀ k, (t.zent k).on = (s.zent k).on)) ∧
  (∀ s : State, s.alive = true → s.collapsed = true → s.bit FEED_STAT.collapse 0 = false →
    Does .inputCollapse s fun t => Touches [.zither, .feed, .msix, .burrow, .twin]
        ([ZIT_GSTAT.abort_cause, ZIT_GSTAT.state, FEED_STAT.collapse, FEED_STAT.ins_state] ++ recBits) s t ∧
      t.zither.released = true ∧ t.rd FEED_STAT.collapse 0 = 1 ∧ (∀ k, (t.zent k).on = false) ∧
      (∀ g, g < 16 → t.gstate g = (if s.gstate g = 0 then 0 else 4)) ∧ (s.insActive = true → t.ins = 0))
/-- Feed gates and the feed configuration (R175, R179, R180, R186, R198, Table 8-2). A commit of a feed window in order waits for the aperture and
one out of order sets cfg_err; a gate whose on conditions hold is ON; a gate not confirmed in time is DAMAGED and recorded; the closed reverse
episodes are recorded together; a lock stands. -/
def Obligations.FeedGates : Prop :=
  (∀ (s : State) (n : Fin 10) (v : BitVec 32), s.settUp = true → s.bit FEED_CTL.lock 0 = false → s.bit SNS_CHCFG.lock (fixedChannel n) = false →
    (((s.writeFlds (Reg.fields .FEED_WCTL) n v.toNat).shadow (2 * fixedChannel n)).ordered = true →
      Does (.feedWindowCommit n v) s fun t => Frame [.sense] ((Reg.fields .FEED_WCTL).map fun f => (f, n.val)) s t ∧
        (t.win (2 * fixedChannel n)).commitDue = true ∧ t.active (2 * fixedChannel n) = s.active (2 * fixedChannel n)) ∧
    (((s.writeFlds (Reg.fields .FEED_WCTL) n v.toNat).shadow (2 * fixedChannel n)).ordered = false →
      Does (.feedWindowCommit n v) s fun t =>
        Frame [] ((FEED_STAT.cfg_err, 0) :: (SNS_WSTAT.order_err, 2 * fixedChannel n) ::
          (Reg.fields .FEED_WCTL).map fun f => (f, n.val)) s t ∧
        t.rd FEED_STAT.cfg_err 0 = 1 ∧ t.rd SNS_WSTAT.order_err (2 * fixedChannel n) = 1)) ∧
  (∀ (s : State) (b : Bool), s.alive = true → s.rd (gateFld b) 0 ∈ [0, 2] → s.flev (voltWin b) 0 = false → s.flev (voltWin b) 3 = false →
    s.vIn - 256 ≤ (if b then s.sample 62 else s.sample 60) → s.flev (currWin b) 3 = false → s.pulled b.toNat = false →
    (∃ from_, (s.side b).okFrom = some from_ ∧ from_ + 100 ≤ s.bootUs) →
    Does (.feedGateOn b) s fun t => Touches [.feed, .msix, .burrow] ([FEED_STAT.gdb, FEED_STAT.gda] ++ recBits) s t ∧
      t.rd (gateFld b) 0 = 1 ∧ t.rd (gateFld !b) 0 = s.rd (gateFld !b) 0 ∧ (t.side b).confirmed = false ∧ (t.side b).onAt = s.bootUs) ∧
  (∀ (s : State) (b : Bool), s.alive = true → s.rd (gateFld b) 0 = 1 → (s.side b).confirmed = false → (s.side b).onAt + 5000 ≤ s.bootUs →
    s.flev (6 + b.toNat) 2 = true →
    Does (.gateCheckExpiry (if b then 1 else 0)) s fun t => Touches [.zither, .feed, .msix, .burrow, .twin]
        ([ZIT_GSTAT.abort_cause, ZIT_GSTAT.state, FEED_STAT.gdb, FEED_STAT.gda, FEED_STAT.retry_count, FEED_STAT.trip_cause,
          FEED_STAT.ins_state] ++ recBits) s t ∧
      t.rd (gateFld b) 0 = 3 ∧ t.rd (gateFld !b) 0 = s.rd (gateFld !b) 0) ∧
  (∀ s : State, s.alive = true → s.feed.ghsHigh = true → s.feed.ghsConfirmed = false → s.feed.ghsAt + 5000 ≤ s.bootUs →
    s.flev 8 2 = true →
    Records (.gateCheckExpiry 2) s Ev.FEED_FET_DAMAGED Src.feed [2, low 32 (s.sample 254 * 32)] fun u =>
      Touches [.feed, .twin] [FEED_STAT.ins_state] s u ∧ u.ins = 5) ∧
  (∀ (s : State) (b : Bool), s.alive = true → 0 < (s.side b).held → (s.side b).lastRec = none →
    Does (.feedReverseDue b) s fun t => Frame (.feed :: recBlocks) recFlds s t ∧ (t.side b).held = 0 ∧ (t.side b).lastRec = some s.bootUs ∧
      t.side (!b) = s.side (!b)) ∧
  (∀ s : State, s.alive = true → Does .feedLock s fun t => Frame [] [(FEED_CTL.lock, 0)] s t ∧ t.rd FEED_CTL.lock 0 = 1)
/-- The insertion path (R182, R183, R187 to R191, R194 to R196, Table 8-3). The t_settle of an admission starts anew where its conditions begin to
hold and ends where one fails; once it has passed, WAIT becomes RAMP with E_fet at 0, the ramp's end drives GHS high, a trip
from RAMP or ON goes to TRIPPED or LATCHED with its cause, the retry count one higher and every EN pad released, the retry timer leads back to
WAIT, 60 s of ON clear the count and the timer otherwise does nothing, and removal and discharge end. -/
def Obligations.InsertionPath : Prop :=
  let tripped (s t : State) (cause : Nat) : Prop :=
    Touches [.zither, .feed, .msix, .burrow, .twin]
      ([ZIT_GSTAT.abort_cause, ZIT_GSTAT.state, FEED_STAT.retry_count, FEED_STAT.trip_cause, FEED_STAT.ins_state] ++ recBits) s t ∧
    t.ins = (if s.rd FEED_CTL.retry_max 0 < s.rd FEED_STAT.retry_count 0 + 1 then 4 else 3) ∧ t.rd FEED_STAT.trip_cause 0 = cause ∧
    t.rd FEED_STAT.retry_count 0 = (s.rd FEED_STAT.retry_count 0 + 1) % 32 ∧ t.zither.released = true ∧ (∀ k, (t.zent k).on = false)
  (∀ s : State, (s.admissible = false → s.judgeSpans.feed.settleDue = none) ∧
    (s.admissible = true → s.feed.settleDue = none →
      s.judgeSpans.feed.settleDue = some (s.bootUs + s.rd FEED_TIMING.t_settle 0 * 1000)) ∧
    (s.admissible = true → s.feed.settleDue.isSome = true → s.judgeSpans.feed.settleDue = s.feed.settleDue)) ∧
  (∀ s : State, s.alive = true → s.ins = 0 → s.flev 2 2 = false → s.flev 2 0 = false → s.bit FEED_STAT.lever_latched 0 = true →
    s.pulled 2 = false → s.collapsed = false → s.bit FEED_STAT.collapse 0 = false → s.gateReady false = true → s.feed.replayed = true →
    (∃ due, s.feed.settleDue = some due ∧ due ≤ s.bootUs) →
    Does .settleExpiry s fun t => Frame [.feed, .twin] [(FEED_STAT.ins_state, 0), (FEED_EFET.e_fet, 0)] s t ∧ t.ins = 1 ∧
      t.rd FEED_EFET.e_fet 0 = 0 ∧ t.feed.rampAt = s.bootUs ∧ t.feed.vStart = s.sample 59 ∧ t.feed.ghsHigh = false) ∧
  (∀ s : State, s.alive = true → s.ins = 1 → s.shadow_ = false → s.feed.ghsHigh = false → s.vIn - 512 ≤ s.sample 59 → s.flev 1 2 = false →
    (∃ from_, s.feed.nearFrom = some from_ ∧ from_ + 1000 ≤ s.bootUs) →
    Does .rampEnd s fun t => Touches [.feed, .msix, .burrow, .twin] (FEED_STAT.ins_state :: recBits) s t ∧
      t.feed.ghsHigh = true ∧ t.feed.ghsAt = s.bootUs ∧ (s.flev 8 2 = true → t.ins = 1) ∧ (s.flev 8 2 = false → t.ins = 2)) ∧
  (∀ s : State, s.alive = true → s.ins = 1 → s.feed.ghsHigh = false →
    s.feed.vStart * 1000000 + s.feed.dvdt * (s.bootUs - s.feed.rampAt : Nat) * 512 > (s.sample 59 + 5120) * 1000000 →
    s.vIn > s.sample 59 + 5120 → (∃ from_, s.feed.lowFrom = some from_ ∧ from_ + 200 ≤ s.bootUs) →
    Does .rampShortfallExpiry s fun t => tripped s t 3) ∧
  (∀ s : State, s.alive = true → s.ins = 1 → s.feed.ghsHigh = false → s.feed.rampAt + s.feed.rampTo * 10000 ≤ s.bootUs →
    Does .rampDeadlineExpiry s fun t => tripped s t 5) ∧
  (∀ s : State, s.alive = true → s.insActive = true → s.flev 0 1 = true → s.feed.ocFrom + s.feed.tOc * 10 ≤ s.bootUs →
    Does .timedFuseExpiry s fun t => tripped s t 2) ∧
  (∀ s : State, s.alive = true → s.ins = 3 → s.feed.retryEnd ≤ s.bootUs →
    Does .retryTimerExpiry s fun t => Frame [.twin] [(FEED_STAT.ins_state, 0)] s t ∧ t.ins = 0) ∧
  (∀ s : State, s.alive = true → s.ins = 2 → s.rd FEED_STAT.retry_count 0 ≠ 0 → s.feed.onAt + 60000000 ≤ s.bootUs →
    Records .tripClearTimer s Ev.FEED_TRIP_CLEAR Src.feed [s.rd FEED_STAT.retry_count 0] fun u =>
      Frame [] [(FEED_STAT.retry_count, 0)] s u ∧ u.rd FEED_STAT.retry_count 0 = 0) ∧
  (∀ s : State, s.rd FEED_STAT.retry_count 0 = 0 ∨ s.ins ≠ 2 ∨ s.bootUs < s.feed.onAt + 60000000 → Does .tripClearTimer s (· = s)) ∧
  (∀ s : State, s.alive = true → s.ins = 6 → s.allGroupsDown = true →
    Does .removalEnd s fun t => Frame [.feed, .twin] [(FEED_STAT.ins_state, 0)] s t ∧ t.ins = 0 ∧ t.feed.ghsHigh = false) ∧
  (∀ s : State, s.alive = true → s.feed.disch = true → s.feed.dischAt + s.rd FEED_REMOVE.t_disch_max 0 * 1000 ≤ s.bootUs →
    Records .dischTimeout s Ev.FEED_DISCH_SLOW Src.feed [voltsOf (s.sample 59)] fun u =>
      Frame [.feed] [] s u ∧ u.feed.disch = false ∧ u.feed.dischWant = false) ∧
  (∀ (s : State) (l : List Rec), s.alive = true → 2 ≤ s.part.stage → s.ins = 0 → s.feed.replayed = false →
    l = s.burrow.feedRecs ++ s.burrow.flash →
    Does .burrowReplay s fun t => Touches [.feed, .msix, .burrow, .twin]
        ([FEED_STAT.gdb, FEED_STAT.gda, FEED_STAT.retry_count, FEED_STAT.ins_state] ++ recBits) s t ∧ t.feed.replayed = true ∧
      (gateDamaged 0 l = true → t.rd FEED_STAT.gda 0 = 3) ∧ (gateDamaged 1 l = true → t.rd FEED_STAT.gdb 0 = 3) ∧
      (latestRec Rec.setsInsertion l = none → t.ins = 0) ∧
      (∀ r, latestRec Rec.setsInsertion l = some r → r.code = Ev.FEED_LATCHED → t.ins = 4 ∧ t.rd FEED_STAT.retry_count 0 = r.data.getLastD 0 % 32) ∧
      (∀ r c, latestRec Rec.setsInsertion l = some r → r.tripCause = some c →
        t.ins = 3 ∧ t.rd FEED_STAT.retry_count 0 = r.data.getLastD 0 % 32))
/-- Feed commands and the lever (R193, R195, Table 8-5). Clear takes LATCHED to WAIT with the retry count at 0; force off takes WAIT, RAMP, ON and
TRIPPED to FORCED_OFF with every group down; release returns to WAIT; each gives its status. The lever's opening starts removal from RAMP and ON
and powers the groups down; its closing is latched. -/
def Obligations.FeedCommands : Prop :=
  (∀ (s : State) (via : Via), s.fwUp = true → (s.given via 0x0401 fun d => descParam d 0x2C 1 == 1) = true → s.shadow_ = false → s.ins = 4 →
    Does (.feedClear via) s fun t => Touches [.msix, .hostRest, .burrow, .twin]
        ([FEED_STAT.gdb, FEED_STAT.gda, FEED_STAT.retry_count, FEED_STAT.cmd_status, FEED_STAT.ins_state, RING_STAT.outstanding,
          CQ_TAIL.index, RING_ERR.bad_desc] ++ recBits) s t ∧
      t.ins = 0 ∧ t.rd FEED_STAT.retry_count 0 = 0 ∧ t.rd FEED_STAT.cmd_status 0 = St.ok) ∧
  (∀ (s : State) (via : Via), s.fwUp = true → (s.given via 0x0401 fun d => descParam d 0x2C 1 == 2) = true → s.shadow_ = false →
    s.allGroupsDown = true → s.ins ≤ 3 →
    Does (.forceOff via) s fun t => Touches [.feed, .msix, .hostRest, .twin]
        [FEED_STAT.cmd_status, FEED_STAT.ins_state, RING_STAT.outstanding, CQ_TAIL.index, RING_ERR.bad_desc] s t ∧
      t.ins = 7 ∧ t.rd FEED_STAT.cmd_status 0 = St.ok) ∧
  (∀ (s : State) (via : Via), s.fwUp = true → (s.given via 0x0401 fun d => descParam d 0x2C 1 == 3) = true → s.shadow_ = false → s.ins = 7 →
    Does (.feedRelease via) s fun t => Touches [.msix, .hostRest, .twin]
        [FEED_STAT.cmd_status, FEED_STAT.ins_state, RING_STAT.outstanding, CQ_TAIL.index, RING_ERR.bad_desc] s t ∧
      t.ins = 0 ∧ t.rd FEED_STAT.cmd_status 0 = St.ok) ∧
  (∀ s : State, s.alive = true →
    (s.bit FEED_CTL.lever_act 0 = false ∨ s.ins ∉ [1, 2] →
      Records .leverOpen s Ev.FEED_LEVER_OPEN Src.feed [s.ins] fun u =>
        Frame [.feed] [(FEED_STAT.lever_latched, 0)] s u ∧ u.rd FEED_STAT.lever_latched 0 = 0) ∧
    (s.bit FEED_CTL.lever_act 0 = true → s.ins ∈ [1, 2] →
      Does .leverOpen s fun t => Touches [.zither, .feed, .msix, .burrow, .twin]
          ([ZIT_GSTAT.up_pending, ZIT_GSTAT.abort_cause, ZIT_GSTAT.cmd_status, ZIT_GSTAT.state, ZIT_GTICK.tick, FEED_STAT.lever_latched,
            FEED_STAT.ins_state] ++ recBits) s t ∧
        t.ins = 6 ∧ t.rd FEED_STAT.lever_latched 0 = 0 ∧ ∀ g, g < 16 → t.gstate g ∉ [1, 2])) ∧
  (∀ s : State, s.alive = true →
    Records .leverClosed s Ev.FEED_LEVER_CLOSED Src.feed [s.ins] fun u =>
      Frame [.feed] [(FEED_STAT.lever_latched, 0)] s u ∧ u.rd FEED_STAT.lever_latched 0 = 1)

/-- The harp arbiter, the AVSBus masters and the governors (R203 to R206, R211, R213, R215 to R220, R222). A code falls only when its hold is over,
one level or to the request; a qualified WALRT# and a floor are in force at once; a write's answer becomes v_sent and clears the fault, a failed
write is tried again twice and then sets the fault; under fault the latest setpoint is sent again, and an idle master polls; a master that does not
drive its pins sends nothing. A ward governor asks for TRIM at least from its trim threshold on and for DEEP from the deep one on, takes no pre-arm,
scale or margin from a slot that is not fresh and no pre-arm once its budget is used, and raises its setpoint at once; its code is what its engine
commits to the ward's arbiter. The tray governor's shed level rises by one at a power at or above its cap. Where the governors keep their state is
the model's choice (log entry 82), and no clause rests on it. -/
def Obligations.HarpAndAvs : Prop :=
  (∀ (s : State) (w : Fin 8), s.settUp = true → s.harpRequest w < s.rd HARP_WSTAT.code w →
    (s.harp w).changeAt + s.rd HARP_WCTL.hold w ≤ s.bootUs →
    Does (.holdExpiry w) s fun t => Frame [.harps] [(HARP_WSTAT.code, w.val)] s t ∧ (t.harp w).changeAt = s.bootUs ∧
      t.rd HARP_WSTAT.code w = (if s.bit HARP_WCTL.step_down w then s.rd HARP_WSTAT.code w - 1 else s.harpRequest w) % 4) ∧
  (∀ (s : State) (w : Fin 8) (low : Bool), s.settUp = true → s.bit HARP_WSTAT.walrt w = !low →
    Does (.walrtQualified w low) s fun t => Touches [.harps, .msix, .burrow] ([HARP_WSTAT.walrt, HARP_WSTAT.code, HARP_WUPS.ups] ++ recBits) s t ∧
      t.rd HARP_WSTAT.walrt w = low.toNat ∧
      (low = true → s.harpRequest w ≤ 3 → s.rd HARP_WCTL.walrt_code w ≤ 3 → s.rd HARP_WCTL.walrt_code w ≤ t.rd HARP_WSTAT.code w)) ∧
  (∀ (s : State) (w : Fin 8) (code : BitVec 2), s.settUp = true →
    Does (.floorWrite w code) s fun t => Touches [.harps, .msix, .burrow, .twin] ([HARP_WCTL.floor, HARP_WSTAT.code, HARP_WUPS.ups] ++ recBits) s t ∧
      t.rd HARP_WCTL.floor w = code.toNat ∧ (∀ v, v ≠ w.val → t.rd HARP_WCTL.floor v = s.rd HARP_WCTL.floor v) ∧
      (s.harpRequest w ≤ 3 → code.toNat ≤ t.rd HARP_WSTAT.code w)) ∧
  (∀ (s : State) (w : Fin 8) (mv n : Nat) (v : BitVec 12), s.settUp = true →
    ((s.harp w).frame = some .read → (s.harp w).next = none →
      Does (.avsFrameDone w (some v)) s fun t => Frame [.harps] [(HARP_AVSSTAT.v_read, w.val), (HARP_AVSSTAT.busy, w.val)] s t ∧
        t.rd HARP_AVSSTAT.v_read w = v.toNat ∧ t.rd HARP_AVSSTAT.busy w = 0 ∧ (t.harp w).frame = none) ∧
    ((s.harp w).frame = some (.write mv n) → (s.harp w).next = none →
      Does (.avsFrameDone w (some v)) s fun t =>
        Frame [.harps] [(HARP_AVSSTAT.v_sent, w.val), (HARP_AVSSTAT.fault, w.val), (HARP_AVSSTAT.busy, w.val)] s t ∧
        t.rd HARP_AVSSTAT.v_sent w = mv % 4096 ∧ t.rd HARP_AVSSTAT.fault w = 0 ∧ (t.harp w).frame = none) ∧
    ((s.harp w).frame = some (.write mv n) → n < 2 → s.avsDrives w = true →
      Does (.avsFrameDone w none) s fun t => Frame [.harps] [(HARP_AVSSTAT.busy, w.val)] s t ∧
        (t.harp w).frame = some (.write mv (n + 1)) ∧ (t.harp w).lastTry = s.bootUs) ∧
    ((s.harp w).frame = some (.write mv n) → n < 2 → s.avsDrives w = false →
      Does (.avsFrameDone w none) s fun t => Frame [.harps] [(HARP_AVSSTAT.busy, w.val)] s t ∧ (t.harp w).frame = none ∧
        t.rd HARP_AVSSTAT.busy w = 0) ∧
    ((s.harp w).frame = some (.write mv 2) →
      Does (.avsFrameDone w none) s fun t => Touches [.harps, .msix, .burrow] ([HARP_AVSSTAT.fault, HARP_AVSSTAT.busy] ++ recBits) s t ∧
        t.rd HARP_AVSSTAT.fault w = 1)) ∧
  (∀ (s : State) (w : Fin 8) (mv : Nat), s.settUp = true → s.avsDrives w = true → s.bit HARP_AVSSTAT.fault w = true → (s.harp w).frame = none →
    (s.harp w).lastTry + 100 ≤ s.bootUs → (s.harp w).latest = some mv →
    Does (.avsResend w) s fun t => Frame [.harps] [(HARP_AVSSTAT.busy, w.val)] s t ∧ (t.harp w).frame = some (.write mv 3) ∧
      t.rd HARP_AVSSTAT.busy w = 1) ∧
  (∀ (s : State) (w : Fin 8), s.settUp = true → s.avsDrives w = true → (s.harp w).frame = none → (s.harp w).next = none →
    (s.rd HARP_GCTL.poll 0 ≠ 0 → (s.harp w).lastPoll + avsPeriod (s.rd HARP_GCTL.poll 0) ≤ s.bootUs →
      Does (.avsPoll w false) s fun t => Frame [.harps] [(HARP_AVSSTAT.busy, w.val)] s t ∧ (t.harp w).frame = some .read ∧
        t.rd HARP_AVSSTAT.busy w = 1 ∧ (t.harp w).lastPoll = s.bootUs ∧ (t.harp w).lastTry = (s.harp w).lastTry) ∧
    Does (.avsPoll w true) s fun t => Frame [.harps] [(HARP_AVSSTAT.busy, w.val)] s t ∧ (t.harp w).frame = some .status) ∧
  (∀ (g : Gov) (f : GovSet) (i : GovIn),
    (i.threshold f f.pTrim ≤ i.power → 1 ≤ (g.tick f i).code) ∧ (i.threshold f f.pDeep ≤ i.power → 2 ≤ (g.tick f i).code) ∧
    (i.fresh f = false → (g.tick f i).floor = 0 ∧ (g.tick f i).margin = 0 ∧ i.scaled f = 65536) ∧
    (f.budget ≤ g.window.used → (g.tick f i).floor = 0) ∧
    (g.setpoint < f.vNom * 1000 - i.margin f → (g.tick f i).setpoint = f.vNom * 1000 - i.margin f)) ∧
  (∀ (g : TrayGov) (f : TraySet) (i : TrayIn), g.level < 16 → i.cap f ≤ i.pavg → (g.tick f i).level = g.level + 1) ∧
  (∀ (s : State) (n w : Nat), (s.engine n).govWard = some w → (∀ off, s.shBad (privKey n off) = false) →
    (s.wardGovTick n).outVal (s.engine n).obj 13 w = BitVec.ofNat 32 ((s.gov n).tick (s.govSet n) (s.engine n).govIn).code)
/-- Marten's tiles (R226, R227, R250 to R253, R261, Table 10-9). A tile enabled from OFF is in STANDBY; disabled from STANDBY it is OFF and empty; a
run whose tables pass the checks is due at the next frame, and one that fails is refused with the code and the entry and is no longer due; a run
cleared, or a tile disabled, in RUN drains; tables and SRAM are written in STANDBY alone; the scrubber writes back and counts what it corrects, and
records what it cannot correct and leaves it. -/
def Obligations.MartenTiles : Prop :=
  (∀ (s : State) (q : Fin 4), s.hasMarten = true → s.fwUp = true → s.tstate q = 0 → s.recorder.trainFailed = false →
    Does (.tileEnable q) s fun t =>
      Frame [] [(MRT_TCTL.enable, q.val), (MRT_TSTAT.state, q.val), (MRT_TSTAT.cmd_status, q.val)] s t ∧ t.tstate q = 1 ∧
      t.rd MRT_TCTL.enable q = 1 ∧ t.rd MRT_TSTAT.cmd_status q = St.ok) ∧
  (∀ (s : State) (q : Fin 4), s.hasMarten = true → s.fwUp = true →
    (s.tstate q = 1 → Does (.tileDisable q) s fun t =>
      Frame [.marten] [(MRT_TCTL.enable, q.val), (MRT_TCTL.run, q.val), (MRT_TSTAT.state, q.val), (MRT_TSTAT.cmd_status, q.val)] s t ∧
      t.tstate q = 0 ∧ t.tile q = {} ∧ t.rd MRT_TCTL.enable q = 0 ∧ (∀ r, r ≠ q.val → t.tile r = s.tile r)) ∧
    (s.tstate q = 2 → Does (.tileDisable q) s fun t => t.tstate q ∈ [0, 3] ∧ t.rd MRT_TCTL.enable q = 0 ∧ t.rd MRT_TCTL.run q = 0 ∧
      Touches [.marten, .msix, .burrow] ([MRT_TCTL.enable, MRT_TCTL.run, MRT_TSTAT.invalidated, MRT_TSTAT.cmd_status, MRT_TSTAT.state,
        MRT_TCLS.done, MRT_TCLS.last_status, MRT_TMISS.missed, MRT_CHK.shadow, MRT_JSTAT.ok_runs, MRT_JSTAT.state, MRT_JSTAT.consec_fail,
        MRT_JSTAT.last_status] ++ recBits) s t)) ∧
  (∀ (s : State) (q : Fin 4), s.hasMarten = true → s.fwUp = true → s.tstate q = 1 →
    (s.tileCheck q = none → Does (.tileRun q []) s fun t =>
      Frame [.marten] [(MRT_TCTL.run, q.val), (MRT_TSTAT.cmd_status, q.val), (MRT_TECC.corr, q.val)] s t ∧
      t.tile q = { s.tile q with runDue := true } ∧ t.rd MRT_TCTL.run q = 1 ∧ t.rd MRT_TSTAT.cmd_status q = St.ok) ∧
    (∀ code entry, s.tileCheck q = some (code, entry) →
      Records (.tileRun q []) s Ev.MRT_CHECK_FAIL Src.marten [q.val, code, entry] fun u =>
        Touches [.marten, .msix, .burrow] ([MRT_TSTAT.cmd_status, MRT_CHK.code, MRT_CHK.entry, MRT_TECC.corr, MRT_TECC.uncorr, MRT_TSTAT.uncorr,
          MRT_TERRA.valid, MRT_TERRA.scrub, MRT_TERRA.word] ++ recBits) s u ∧ u.tile q = { s.tile q with runDue := false } ∧
        u.rd MRT_TSTAT.cmd_status q = St.refusedState ∧ u.rd MRT_CHK.code q = code % 256 ∧ u.rd MRT_CHK.entry q = entry % 256)) ∧
  (∀ (s : State) (q : Fin 4), s.hasMarten = true → s.fwUp = true →
    (s.tstate q = 1 → Does (.tileRunClear q) s fun t =>
      Frame [.marten] [(MRT_TCTL.run, q.val), (MRT_TSTAT.cmd_status, q.val)] s t ∧ t.tile q = { s.tile q with runDue := false } ∧
      t.rd MRT_TCTL.run q = 0) ∧
    (s.tstate q = 2 → Does (.tileRunClear q) s fun t => t.tstate q ∈ [1, 3] ∧ t.rd MRT_TCTL.run q = 0 ∧
      Touches [.marten, .msix, .burrow] ([MRT_TCTL.run, MRT_TSTAT.invalidated, MRT_TSTAT.cmd_status, MRT_TSTAT.state,
        MRT_TCLS.done, MRT_TCLS.last_status, MRT_TMISS.missed, MRT_CHK.shadow, MRT_JSTAT.ok_runs, MRT_JSTAT.state, MRT_JSTAT.consec_fail,
        MRT_JSTAT.last_status] ++ recBits) s t)) ∧
  (∀ (s : State) (q : Fin 4) (kind : Fin 3) (a : BitVec 21) (v : BitVec 32), s.hasMarten = true → s.fwUp = true →
    (s.tstate q = 1 → kind.val = 0 → Does (.tileSramWrite q kind a v) s fun t => Frame [.marten] [] s t ∧
      Tab.get 0 (t.tile q).sram a.toNat = v ∧ (∀ b, b ≠ a.toNat → Tab.get 0 (t.tile q).sram b = Tab.get 0 (s.tile q).sram b) ∧
      (t.tile q).jobTable = (s.tile q).jobTable ∧ (t.tile q).streamTable = (s.tile q).streamTable ∧ t.marten.slots = s.marten.slots) ∧
    (s.tstate q = 1 → kind.val = 1 → Does (.tileSramWrite q kind a v) s fun t => Frame [.marten] [] s t ∧
      Tab.get 0 (t.tile q).jobTable (a.toNat % 512) = v ∧ (t.tile q).sram = (s.tile q).sram ∧
      (t.tile q).streamTable = (s.tile q).streamTable) ∧
    (s.tstate q = 1 → kind.val = 2 → Does (.tileSramWrite q kind a v) s fun t => Frame [.marten] [] s t ∧
      Tab.get 0 (t.tile q).streamTable (a.toNat % 512) = v ∧ (t.tile q).sram = (s.tile q).sram ∧
      (t.tile q).jobTable = (s.tile q).jobTable) ∧
    (s.tstate q ≠ 1 → Does (.tileSramWrite q kind a v) s fun t => Frame [] [(MRT_TSTAT.wr_ignored, q.val)] s t ∧
      t.rd MRT_TSTAT.wr_ignored q = 1)) ∧
  (∀ (s : State) (q : Fin 4), s.hasMarten = true → s.tstate q ≠ 0 →
    ((readBad (Tab.get 0 (s.tile q).bad (s.tile q).scrub)).1 = .good →
      Does (.sramScrub q []) s fun t => Frame [.marten] [] s t ∧
        t.tile q = { s.tile q with scrub := ((s.tile q).scrub + 1) % 262144 }) ∧
    ((readBad (Tab.get 0 (s.tile q).bad (s.tile q).scrub)).1 = .corrected →
      Does (.sramScrub q []) s fun t => Frame [.marten] [(MRT_TECC.corr, q.val)] s t ∧
        (t.tile q).scrub = ((s.tile q).scrub + 1) % 262144 ∧ Tab.get 0 (t.tile q).bad (s.tile q).scrub = 0 ∧
        t.rd MRT_TECC.corr q = min 65535 (s.rd MRT_TECC.corr q + 1)) ∧
    ((readBad (Tab.get 0 (s.tile q).bad (s.tile q).scrub)).1 = .uncorrectable →
      Records (.sramScrub q []) s Ev.INT_MRT_UNCORR Src.marten [q.val, wordNumber (s.tile q).scrub, 1] fun u =>
        Frame [.marten] [(MRT_TECC.uncorr, q.val), (MRT_TSTAT.uncorr, q.val), (MRT_TERRA.valid, q.val), (MRT_TERRA.scrub, q.val),
          (MRT_TERRA.word, q.val)] s u ∧ u.rd MRT_TERRA.valid q = 1 ∧ u.rd MRT_TERRA.scrub q = 1 ∧ (u.tile q).bad = (s.tile q).bad))
/-- Marten's jobs, ingest and offers (R226, R230, R235, R236, R238, R240, R242 to R249, R263, R265, R266, R270, R272). A due tile enters RUN at a
frame start; a job that is released runs or waits; one that ends well is OK and its slot holds the value it gave, which for a margin offer shows in
mV; one whose run met a bad word, a bad block or a NaN ends with INTEGRITY, one that reaches its bound with TIMEOUT; the fast window and the frame
end as they should; an ingest block that is over enters its rings; a stream's gap restarts its history and cools its warm jobs; the offer window
keeps the minimum. INT8 products add up exactly and saturate once; a missing element of a DF8 block counts in neither sum, and a block with none
present has base 0, shift 0 and gap 1. -/
def Obligations.MartenJobs : Prop :=
  let js := [MRT_TCLS.done, MRT_TCLS.last_status, MRT_TMISS.missed, MRT_JSTAT.ok_runs, MRT_JSTAT.state, MRT_JSTAT.consec_fail, MRT_JSTAT.last_status]
  let run := [MRT_TECC.corr, MRT_TECC.uncorr, MRT_TERRA.scrub, MRT_TERRA.valid, MRT_TERRA.word, MRT_TSTAT.invalidated, MRT_TSTAT.nan,
    MRT_TSTAT.sat, MRT_TSTAT.uncorr]
  (∀ (s : State) (q : Fin 4), s.hasMarten = true → s.tick % 2 = 0 → (s.tile q).frame ≤ s.tick →
    (s.tstate q = 2 ∨ s.tstate q = 3 ∨ s.tstate q = 1 ∧ (s.tile q).runDue = true) →
    Does (.frameStart q) s fun t => Touches [.marten, .msix, .burrow]
        ([MRT_TSTAT.state, MRT_TUTIL.max_fast, MRT_CHK.shadow, MRT_JSTAT.ok_runs, MRT_JSTAT.state, MRT_JSTAT.consec_fail,
          MRT_JSTAT.last_status] ++ recBits) s t ∧
      t.tstate q = (if s.tstate q = 1 then 2 else s.tstate q) ∧ (t.tile q).frame = s.tick + 1 ∧
      (∀ r, r ≠ q.val → t.tile r = s.tile r ∧ t.tstate r = s.tstate r)) ∧
  (∀ (s : State) (q : Fin 4) (cycles : BitVec 11) (done : BitVec 16), s.hasMarten = true → (s.tile q).fast = true →
    Does (.fastWindowEnd q cycles done) s fun t =>
      Touches [.marten, .msix, .burrow] ([MRT_TUTIL.last_fast, MRT_TUTIL.max_fast] ++ run ++ js ++ recBits) s t ∧
      (t.tile q).fast = false ∧ t.rd MRT_TUTIL.last_fast q = cycles.toNat ∧
      t.rd MRT_TUTIL.max_fast q = max cycles.toNat (s.rd MRT_TUTIL.max_fast q) % 65536) ∧
  (∀ (s : State) (q : Fin 4) (done : BitVec 16), s.hasMarten = true → (s.tile q).fast = false →
    Does (.frameEnd q done) s fun t =>
      Touches [.marten, .msix, .burrow] ([MRT_CHK.shadow, MRT_TSTAT.state] ++ run ++ js ++ recBits) s t ∧
      (∀ r, r ≠ q.val → t.tile r = s.tile r) ∧ (∀ j, j < 64 → ((t.tile q).job j).phase ≠ .running) ∧
      (s.tstate q ≠ 3 → (∀ j, j < 64 → (s.runTo q j done.toNat).2 = false) → ∀ j, j < 64 → ((t.tile q).job j).phase =
        (if ((s.tile q).job j).phase = .running then .suspended else ((s.tile q).job j).phase))) ∧
  (∀ (s : State) (q : Fin 4) (j : Fin 64) (done : BitVec 16), s.hasMarten = true → s.tstate q = 2 → (s.tile q).jobValid j = true →
    (s.tile q).jobClass j = 1 → s.tick % 100 = (s.tile q).jobPhase j % 100 → ((s.tile q).job j).phase = .absent →
    ((s.tile q).job j).since ≠ s.tick + 1 → s.rd MRT_JSTAT.state (jix q j) ≠ 2 →
    Does (.jobRelease q j done) s fun t => Frame [.marten] [] s t ∧ ((t.tile q).job j).phase ∈ [.released, .running] ∧
      ((t.tile q).job j).since = s.tick + 1) ∧
  (∀ (s : State) (q : Fin 4) (j : Fin 64) (half : Bool) (upsets : List TileUpset), s.hasMarten = true → ((s.tile q).job j).phase = .running →
    let u := (s.tileUpsets q upsets).runTo q j ((s.tile q).job j).prog.length
    let outs := ((u.1.tile q).job j).outs
    (∀ (v : BitVec 32) (k : Nat), s.tstate q = 2 → s.rd MRT_JSTAT.state (jix q j) = 1 → s.bit MRT_CHK.shadow q = false →
      (s.tile q).jobSlots j = [k] → u.2 = false → outs = [(0, some v)] →
      Does (.jobEnd q j half upsets) s fun t =>
        Touches [.marten, .msix, .burrow] ([MRT_CHK.shadow, MRT_TSTAT.state, MRT_OFFER.offer_mv, MRT_OFFER.valid] ++ run ++ js ++ recBits) s t ∧
        t.slot k = { value := v, half := some (2 * s.tick + half.toNat) } ∧ t.rd MRT_JSTAT.last_status (jix q j) = St.ok ∧
        ((t.tile q).job j).phase = .absent ∧ (∀ m, m ≠ k → t.slot m = s.slot m) ∧
        (k < 32 → k % 4 = 3 → t.rd MRT_OFFER.offer_mv (k / 4) = (max 0 (min 4095 (Int.tdiv v.toInt 65536))).toNat)) ∧
    ((u.2 = true ∨ ∃ o ∈ outs, o.2 = none) →
      Does (.jobEnd q j half upsets) s fun t =>
        Touches [.marten, .msix, .burrow] ([MRT_CHK.shadow, MRT_TSTAT.state] ++ run ++ js ++ recBits) s t ∧
        t.rd MRT_JSTAT.last_status (jix q j) = St.integrity ∧ ((t.tile q).job j).phase = .absent)) ∧
  (∀ (s : State) (q : Fin 4) (j : Fin 64) (done : BitVec 16), s.hasMarten = true → ((s.tile q).job j).phase = .running →
    Does (.jobBoundReached q j done) s fun t =>
      Touches [.marten, .msix, .burrow] ([MRT_CHK.shadow, MRT_TSTAT.state] ++ run ++ js ++ recBits) s t ∧
      t.rd MRT_JSTAT.last_status (jix q j) = (if (s.runTo q j done.toNat).2 then St.integrity else St.timeout) ∧
      ((t.tile q).job j).phase = .absent) ∧
  (∀ (s : State) (source : Fin 512), s.ingestOn = true →
    (source.val < 304 → s.named source = true → s.blockOver source = true →
      Does (.ingestBlockWrite false source) s fun t => Frame [.marten] [] s t ∧
        (t.block source).next = (s.block source).next + 1 ∧ t.marten.slots = s.marten.slots) ∧
    (∀ r, s.marten.telem.find? (·.1 == source.val) = some r → Does (.ingestBlockWrite true source) s fun t => Frame [.marten] [] s t ∧
      t.marten.telem = s.marten.telem.erase r ∧ t.marten.slots = s.marten.slots)) ∧
  (∀ (s : State) (q : Fin 4) (i : Fin 64) (k : Nat), s.hasMarten = true → 2 ≤ s.tstate q → (s.tile q).streamValid i = true →
    ((s.tile q).stream i).gapAt = some k →
    Does (.streamGap q i) s fun t => Touches [.marten, .msix, .burrow] ([MRT_JSTAT.ok_runs, MRT_JSTAT.state] ++ recBits) s t ∧
      (t.tile q).stream i =
        { (s.tile q).stream i with gaps := min 65535 (((s.tile q).stream i).gaps + 1), from_ := k, gapAt := none } ∧
      ∀ j ∈ (s.tile q).validJobs, (s.tile q).names j i = true → s.rd MRT_JSTAT.state (jix q j) = 1 →
        t.rd MRT_JSTAT.state (jix q j) = 0 ∧ t.rd MRT_JSTAT.ok_runs (jix q j) = 0) ∧
  (∀ s : State, s.hasMarten = true → s.tick % 1000 = 0 → s.marten.offerAt < s.tick →
    Does .offerWindowEnd s fun t => Touches [.marten] [MRT_OFFER.min_mv] s t ∧ t.marten.offerMax = [] ∧ t.marten.offerAt = s.tick ∧
      ∀ w, w < 8 → t.rd MRT_OFFER.min_mv w = min (s.rd MRT_OFFER.min_mv w) (Tab.get 0 s.marten.offerMax w) % 4096) ∧
  (∀ (s : State) (w : Fin 8), s.hasMarten = true →
    Does (.offerRead w) s fun t => Frame [] [(MRT_OFFER.min_mv, w.val)] s t ∧ t.rd MRT_OFFER.min_mv w = 4095) ∧
  (∀ (k : Nat) (old : BitVec 48) (ws acts : List Nat),
    let sum := (old.truncate 32).toInt + (((ws.take 32).zip (acts.take 32)).map fun e => twos 8 e.1 * twos 8 e.2).sum
    accumulate k .int8 .int8 old ws acts =
      (BitVec.ofInt 48 (max (-2147483648) (min 2147483647 sum)), max (-2147483648) (min 2147483647 sum) != sum, false)) ∧
  (∀ (ws : List Int) (head ds : List Nat), head.length = 4 → (∀ d ∈ ds, d = 128) → df8Dot ws (head ++ ds) = 0) ∧
  df8 (List.replicate 32 none) = BitVec.ofNat 32 (2 ^ 24) :: List.replicate 8 0x80808080#32 ∧
  (∀ f : Form, f.code .nan = (f.nanCode, false, true)) ∧ Num.toQ .nan = none

/-- Cooling's zones (R278 to R282, R291, R301, Tables 12-1 and 12-2). Every millisecond the tables and drives are judged: the table duty is
that of the highest level, 100 % with a failed sensor or no reading, and every drive is that of Table 12-2. A duty is taken by a zoned output
that no object owns, and refreshes it. A zone is taken where it has members, all of them fresh, and an ordered table, and refused otherwise;
it falls back on release and on a member not refreshed. A valve bit is taken where no object owns the valve, and a rope's clear resets worst
and lowest. -/
def Obligations.CoolingZones : Prop :=
  (∀ s : State, s.alive = true → s.tick % 1000 = 0 →
    Does .driveUpdate s fun t =>
      Touches [.cooling, .msix, .burrow]
        ([FAN_ZSTAT.level, FAN_ZSTAT.t_duty, FAN_ZSTAT.sensor_fail, FAN_ZSTAT.tbl_err] ++ driveFlds ++ recBits) s t ∧
      (∀ z < 4, t.rd FAN_ZSTAT.tbl_err z = (s.tableBad z).toNat ∧ t.rd FAN_ZSTAT.sensor_fail z = (s.sensorFailed z).toNat ∧
        t.rd FAN_ZSTAT.t_duty z = (match s.zoneInput z with
          | none => 100
          | some i => if s.sensorFailed z then 100 else (s.pointIn z (topLevel (s.zoneLevels z i))).2.2) % 128) ∧
      ∀ o < 20, t.rd FAN_OSTAT.drive o = t.driveOf o % 1024) ∧
  (∀ (s : State) (o : Fin 20) (v : BitVec 10), s.alive = true →
    (s.bit FAN_OCFG.zoned o = true → s.fanOwner o = none → v.toNat ≤ 1000 →
      Does (.dutyWrite o v) s fun t => Frame [.cooling] [(FAN_DUTY.duty, o.val)] s t ∧ t.rd FAN_DUTY.duty o = v.toNat ∧
        (t.fan o).refreshed = some s.bootUs ∧ ∀ p, p ≠ o.val → t.fan p = s.fan p) ∧
    (s.bit FAN_OCFG.zoned o = false ∨ (s.fanOwner o).isSome = true → Does (.dutyWrite o v) s fun t => t = s)) ∧
  (∀ (s : State) (z : Fin 4), s.alive = true →
    (s.bit FAN_ZSTAT.fallback z = true → s.members z ≠ [] → (∀ o ∈ s.members z, s.fresh o = true) → s.tableBad z = false →
      s.part.vsettLost = false → s.shadow_ = false → s.bit SEC_BOOT.inert 0 = false → s.part.straps.bootHold = false →
      Does (.zoneTake z) s fun t => Touches [.cooling, .msix, .burrow] ([FAN_ZSTAT.cmd_status, FAN_ZSTAT.fallback] ++ driveFlds ++ recBits) s t ∧
        t.rd FAN_ZSTAT.fallback z = 0 ∧ t.rd FAN_ZSTAT.cmd_status z = St.ok ∧
        ∀ y, y ≠ z.val → t.rd FAN_ZSTAT.fallback y = s.rd FAN_ZSTAT.fallback y) ∧
    (s.bit FAN_ZSTAT.fallback z = true → s.members z = [] ∨ (∃ o ∈ s.members z, s.fresh o = false) ∨ s.tableBad z = true →
      Does (.zoneTake z) s fun t => Frame [] [(FAN_ZSTAT.cmd_status, z.val)] s t ∧ t.rd FAN_ZSTAT.cmd_status z = St.refusedState) ∧
    (s.bit FAN_ZSTAT.fallback z = false →
      Does (.zoneRelease z) s fun t =>
        Touches [.cooling, .msix, .burrow] ([FAN_ZSTAT.cmd_status, FAN_ZSTAT.fallback, FAN_ZSTAT.fb_cause] ++ driveFlds ++ recBits) s t ∧
        t.rd FAN_ZSTAT.fallback z = 1 ∧ t.rd FAN_ZSTAT.fb_cause z = 3 ∧ t.rd FAN_ZSTAT.cmd_status z = St.ok ∧
        ∀ y, y ≠ z.val → t.rd FAN_ZSTAT.fallback y = s.rd FAN_ZSTAT.fallback y) ∧
    (s.bit FAN_ZSTAT.fallback z = false → (∃ o ∈ s.members z, s.fresh o = false) →
      Does (.zoneRefreshTimeout z) s fun t =>
        Touches [.cooling, .msix, .burrow] ([FAN_ZSTAT.fallback, FAN_ZSTAT.fb_cause] ++ driveFlds ++ recBits) s t ∧
        t.rd FAN_ZSTAT.fallback z = 1 ∧ t.rd FAN_ZSTAT.fb_cause z = 1)) ∧
  (∀ (s : State) (v : BitVec 4), s.alive = true →
    Does (.valveCloseWrite v) s fun t => Frame [.cooling] [(FAN_VLV.close, 0)] s t ∧
      ∀ b < 4, (t.rd FAN_VLV.close 0).testBit b =
        if (s.ownerOf 11 b).isSome then (s.rd FAN_VLV.close 0).testBit b else v.getLsbD b) ∧
  (∀ (s : State) (r : Fin 16), s.settUp = true →
    Does (.leakRstatClear r) s fun t => Frame [] [(LEAK_RSTAT.worst, r.val), (LEAK_RSTAT.lowest, r.val)] s t ∧
      t.rd LEAK_RSTAT.worst r = 0 ∧ t.rd LEAK_RSTAT.lowest r = 0x7FFF)
/-- The supervision of fans and pumps (R284 to R287, R289). A check is judged 3 s after its start: at a tenth of the expected rate, or with a
drive of 0, the output runs; otherwise its current names the loss, and a third retry that is blocked latches. A blocked output is checked
again after 10 s, and a clear checks a latched, lost or absent one from the start and leaves any other as it is; a power-on reset clears every
output's state. A tach edge is counted and its interval kept. -/
def Obligations.FanSupervision : Prop :=
  (∀ (s : State) (o : Fin 20), s.alive = true → s.part.vsettLost = false → s.ostate o = 1 → (s.fan o).checkAt + 3000000 ≤ s.bootUs →
    Does (.checkJudgement o) s fun t => Touches [.cooling, .msix, .burrow] (driveFlds ++ recBits) s t ∧
      (t.fan o).judgedAt = s.bootUs ∧
      (s.fastEnough o (s.rd FAN_OSTAT.drive o) = false → s.rd FAN_OSTAT.drive o ≠ 0 →
        t.ostate o = match s.currentOf o with
          | 0 => 6
          | 1 => 5
          | _ => if (s.fan o).retry = true ∧ 3 ≤ s.rd FAN_OSTAT.retries o then 4 else 3)) ∧
  (∀ (s : State) (o : Fin 20), s.alive = true → s.part.vsettLost = false → s.ostate o = 3 → (s.fan o).judgedAt + 10000000 ≤ s.bootUs →
    Does (.retryCheckStart o) s fun t => Touches [.cooling, .msix, .burrow] (driveFlds ++ recBits) s t ∧ t.ostate o = 1 ∧
      t.rd FAN_OSTAT.retries o = (s.rd FAN_OSTAT.retries o + 1) % 4 ∧ (t.fan o).checkAt = s.bootUs ∧ (t.fan o).retry = true) ∧
  (∀ (s : State) (ix : Fin 28), s.alive = true →
    Does (.tachPulse ix) s fun t => Touches [.cooling, .msix, .burrow] (driveFlds ++ recBits) s t ∧
      t.pulse ix = { count := ((s.pulse ix).count + 1) % 2 ^ 32, prev := (s.pulse ix).last, last := some s.bootUs } ∧
      (20 ≤ ix.val → Frame [.cooling] [] s t) ∧ ∀ j, j ≠ ix.val → t.pulse j = s.pulse j) ∧
  (∀ (s : State) (o : Fin 20), s.alive = true → s.part.vsettLost = false → s.supervised o = true → s.ostate o = 2 → s.tachStopped o = true →
    s.rd FAN_OSTAT.drive o ≠ 0 →
    Does (.tachStopped o) s fun t => Touches [.cooling, .msix, .burrow] (driveFlds ++ recBits) s t ∧
      t.ostate o = (match s.currentOf o with
        | 0 => 6
        | 1 => 5
        | _ => if (s.fan o).retry = true ∧ 3 ≤ s.rd FAN_OSTAT.retries o then 4 else 3) ∧
      (t.fan o).frozen = s.rd FAN_OSTAT.drive o ∧ (t.fan o).judgedAt = s.bootUs) ∧
  (∀ (s : State) (o : BitVec 5), s.alive = true → s.part.vsettLost = false →
    (o.toNat < 20 → 4 ≤ s.ostate o.toNat → s.ostate o.toNat ≤ 6 →
      Does (.fanClear o) s fun t => Touches [.cooling, .msix, .burrow] (FAN_CMD.o :: driveFlds ++ recBits) s t ∧ t.ostate o.toNat = 1 ∧
        t.rd FAN_OSTAT.retries o.toNat = 0 ∧ (t.fan o.toNat).checkAt = s.bootUs ∧ (t.fan o.toNat).retry = false) ∧
    (20 ≤ o.toNat ∨ s.ostate o.toNat < 4 ∨ 6 < s.ostate o.toNat → Does (.fanClear o) s fun t => Frame [] [(FAN_CMD.o, 0)] s t)) ∧
  (∀ (s : State) (powered : Bool) (o : Nat), (s.cleared powered).ostate o = 0)
/-- Flow, the critical comparator and the branch leak object (R290, R294, R298, R299). A meter's flow is 60 n / k in hundredths of a litre a minute,
saturating, where the spec's k is not 0; a low flow of 2 s and a good flow of 10 s change its mark. A sensor's failure and its readings follow each
result; the comparator asserts on the second hot result in a row of a sensor and releases after 100 cool results, and asserts at the end of the
grace of a blind pair. A rope of a branch role latches the branch where it is wet or flooded, one of a tray role the tray where it is flooded, and a
latch stands; the branch closes its valve, branch and tray hold off, and the tray pulls GHS down t_ghs ms after its latch. -/
def Obligations.FlowAndCritical : Prop :=
  (∀ (s : State) (f : Fin 8), s.alive = true → s.part.vsettLost = false → s.bit FAN_FCFG.en f = true → s.tick % 100000 = 0 →
    Does (.flowUpdate f) s fun t => Frame [.cooling] [(FAN_FSTAT.flow, f.val)] s t ∧
      (t.flowOf f).counts = ((s.pulse (20 + f)).count :: (s.flowOf f).counts).take 10 ∧
      ∀ n, (s.pulse (20 + f)).count < 2 ^ 32 → n ≤ (s.pulse (20 + f)).count →
        (s.flowOf f).counts.getD 9 0 = (s.pulse (20 + f)).count - n → s.rd FAN_FCFG.k f ∣ 6000 * n → s.rd FAN_FCFG.k f ≠ 0 →
        t.rd FAN_FSTAT.flow f = min 65535 (6000 * n / s.rd FAN_FCFG.k f)) ∧
  (∀ (s : State) (f : Fin 8) (from_ : Nat), s.alive = true → s.part.vsettLost = false →
    (s.bit FAN_FSTAT.low f = false → s.flowArmed f = true → s.flowBelow f = true → (s.flowOf f).lowFrom = some from_ →
      from_ + 2000000 ≤ s.bootUs →
      Does (.lowFlowExpiry f) s fun t => Touches [.cooling, .msix, .burrow] (FAN_FSTAT.low :: driveFlds ++ recBits) s t ∧
        t.rd FAN_FSTAT.low f = 1) ∧
    (s.bit FAN_FSTAT.low f = true → s.flowBelow f = false → (s.flowOf f).okFrom = some from_ → from_ + 10000000 ≤ s.bootUs →
      Does (.flowOkExpiry f) s fun t => Touches [.cooling, .msix, .burrow] (FAN_FSTAT.low :: driveFlds ++ recBits) s t ∧
        t.rd FAN_FSTAT.low f = 0)) ∧
  (∀ (s : State) (a b : CritRead), s.alive = true →
    Does (.critResult a b) s fun t =>
      Touches [.cooling, .msix, .burrow] ([FAN_CRIT.hotter, FAN_CRIT.failed, FAN_CRIT.grace, FAN_CRIT.asserting] ++ driveFlds ++ recBits) s t ∧
      t.rd FAN_CRIT.failed 0 = (critTemp a).isNone.toNat + 2 * (critTemp b).isNone.toNat ∧
      t.cooling.crit.a = critTemp a ∧ t.cooling.crit.b = critTemp b ∧
      (∀ x, s.bit FAN_CRIT.asserting 0 = false → critTemp a = some x → s.critThreshold * 128 ≤ x →
        1 ≤ s.cooling.crit.hotA → t.rd FAN_CRIT.asserting 0 = 1) ∧
      (∀ x y, s.bit FAN_CRIT.asserting 0 = true → critTemp a = some x → critTemp b = some y →
        x < s.critThreshold * 128 - 640 → y < s.critThreshold * 128 - 640 →
        t.rd FAN_CRIT.asserting 0 = if 99 ≤ s.cooling.crit.cool then 0 else 1)) ∧
  (∀ s : State, s.alive = true → s.bit FAN_CRIT.grace 0 = true → s.cooling.crit.graceAt + 10000000 ≤ s.bootUs →
    Does .critGraceEnd s fun t =>
      Touches [.cooling, .msix, .burrow] ([FAN_CRIT.grace, FAN_CRIT.asserting] ++ driveFlds ++ recBits) s t ∧
      t.rd FAN_CRIT.grace 0 = 0 ∧ t.rd FAN_CRIT.asserting 0 = 1) ∧
  (∀ (b : Branch) (r : Rope) (now : Nat),
    ((b.judge r now).branch = true ↔ b.branch = true ∨ 2 ≤ r.cls ∧ (r.role = 1 ∨ r.role = 3)) ∧
    ((b.judge r now).tray = true ↔ b.tray = true ∨ r.cls = 3 ∧ (r.role = 2 ∨ r.role = 3)) ∧
    (b.tray = false → (b.judge r now).tray = true → (b.judge r now).trayAt = now) ∧
    (b.tray = true → (b.judge r now).trayAt = b.trayAt)) ∧
  (∀ (b : Branch) (now ms : Nat), (b.actions now ms).testBit 0 = b.branch ∧ (b.actions now ms).testBit 1 = (b.branch || b.tray) ∧
    (b.actions now ms).testBit 2 = (b.tray && decide (b.trayAt + 2000 * ms ≤ now)))

/-- The ward ports' links (R306 to R309, R328, Table 13-2). A port enabled is DARK, one disabled with its ward off or held is down and
DISABLED, and refuses otherwise; qualified light starts training, HELLO of major version 1 links, no HELLO in 50 ms faults; a lane that
fails leaves one lane or takes the port down, and rejoins; 10 ms after a fault the port is DARK again until its retrains are spent, and then
reports once. A frame that is not good is counted and changes nothing else. -/
def Obligations.PortLinks : Prop :=
  (∀ s : State, Touches wardBlocks wardFlds s s.watchWards) ∧
  (∀ (s : State) (p : Fin 8), s.portUp = true →
    (s.fwUp = true → s.pstate p = 0 ∨ s.pstate p = 4 → Does (.portEnable p) s fun t =>
      Frame [.ports] [(WPORT_CTL.enable, p.val), (WPORT_STAT.cmd_status, p.val), (WPORT_STAT.retrains, p.val), (WPORT_STAT.state, p.val)] s t ∧
      t.pstate p = 1 ∧ t.rd WPORT_CTL.enable p = 1 ∧ (t.port p).entered = s.bootUs) ∧
    (s.fwUp = true → s.pstate p ≠ 0 → s.pstate p ≠ 4 → Does (.portEnable p) s fun t =>
      Frame [] [(WPORT_CTL.enable, p.val), (WPORT_STAT.cmd_status, p.val)] s t ∧ t.rd WPORT_CTL.enable p = 1) ∧
    ((s.ward p).state = 0 ∨ (s.ward p).state = 12 → Does (.portDisable p) s fun t =>
      PortDown p 0 [WPORT_CTL.enable, WPORT_STAT.cmd_status, WPORT_STAT.light0, WPORT_STAT.light1] s t ∧ t.rd WPORT_CTL.enable p = 0) ∧
    ((s.ward p).state ≠ 0 → (s.ward p).state ≠ 12 → Does (.portDisable p) s fun t =>
      Frame [] [(WPORT_STAT.cmd_status, p.val)] s t ∧ t.rd WPORT_STAT.cmd_status p = St.refusedState)) ∧
  (∀ (s : State) (p : Fin 8) (l0 l1 : Bool), s.portUp = true → s.pstate p = 1 →
    (if s.bit WPORT_CTL.one_lane_ok p then l0 || l1 else l0 && l1) = true →
    Does (.lightQualified p l0 l1) s fun t =>
      Frame [.ports] [(WPORT_STAT.lanes, p.val), (WPORT_STAT.light0, p.val), (WPORT_STAT.light1, p.val), (WPORT_STAT.state, p.val)] s t ∧
      t.pstate p = 2 ∧ (t.port p).entered = s.bootUs ∧ (∃ f ∈ (t.port p).txq, f.type = 7 ∧ f.words = ctrlWords 7 1 0) ∧
      (t.port p).lanes = (if l0 then [0] else []) ++ (if l1 then [1] else []) ∧
      t.rd WPORT_STAT.lanes p = l0.toNat + l1.toNat ∧ t.rd WPORT_STAT.light0 p = l0.toNat ∧ t.rd WPORT_STAT.light1 p = l1.toNat) ∧
  (∀ (s : State) (p : Fin 8) (h : FrameHead) (major minor : BitVec 8), s.portUp = true → s.pstate p = 2 →
    (s.bootUs ≤ (s.port p).entered + 50000 →
      (ctrlHeadOk h = true → major = 1 → Then (.hello p h major minor) s
        (fun u => (u.record Ev.WARD_LINK_UP (Src.ward p) [p, (s.port p).lanes.length, s.bootUs - (s.port p).entered]).watchWards)
        fun u => Frame [.ports] [(WPORT_STAT.state, p.val)] s u ∧ u.pstate p = 3) ∧
      (ctrlHeadOk h = true → major ≠ 1 →
        Then (.hello p h major minor) s (fun u => (u.record Ev.WARD_LINK_FAIL (Src.ward p) [p, 0]).watchWards) (PortDown p 4 [] s)) ∧
      (ctrlHeadOk h = false → Does (.hello p h major minor) s fun t => Frame [] [(WPORT_ERR.crc, p.val)] s t ∧
        t.rd WPORT_ERR.crc p = min 255 (s.rd WPORT_ERR.crc p + 1))) ∧
    ((s.port p).entered + 50000 ≤ s.bootUs → Then (.trainingTimeout p) s State.watchWards (PortDown p 4 [] s))) ∧
  (∀ (s : State) (p : Fin 8) (lane : Fin 2) (cause : LaneCause), s.portUp = true → s.pstate p = 3 → lane.val ∈ (s.port p).lanes →
    cause ≠ .uncorrectable ∨ s.tooManyUncorr p lane = true →
    ((∃ l ∈ (s.port p).lanes, l ≠ lane.val) → s.bit WPORT_CTL.one_lane_ok p = true →
      Records (.laneFail p lane cause) s Ev.WARD_LINK_DEGRADED (Src.ward p) [p, lane, laneCauseNo cause] fun u =>
        Frame [.ports] [(WPORT_STAT.lanes, p.val), (lightFld lane, p.val)] s u ∧
        (u.port p).lanes = (s.port p).lanes.filter (· != lane.val) ∧ (cause = .noLight → u.rd (lightFld lane) p = 0)) ∧
    ((∀ l ∈ (s.port p).lanes, l = lane.val) ∨ s.bit WPORT_CTL.one_lane_ok p = false →
      Then (.laneFail p lane cause) s (fun u => (u.record Ev.WARD_LINK_DOWN (Src.ward p) [p, laneCauseNo cause]).watchWards)
        (PortDown p 4 [WPORT_STAT.light0, WPORT_STAT.light1] s))) ∧
  (∀ (s : State) (p : Fin 8) (lane : Fin 2) (us : BitVec 16), s.portUp = true → s.pstate p = 3 → lane.val ∉ (s.port p).lanes →
    us.toNat ≤ 50000 →
    Records (.laneRejoin p lane us) s Ev.WARD_LINK_UP (Src.ward p) [p, (s.port p).lanes.length + 1, us.toNat] fun u =>
      Frame [.ports] [(WPORT_STAT.lanes, p.val), (lightFld lane, p.val)] s u ∧ lane.val ∈ (u.port p).lanes ∧
      u.rd (lightFld lane) p = 1 ∧ u.rd WPORT_STAT.lanes p = ((s.port p).lanes.length + 1) % 4) ∧
  (∀ (s : State) (p : Fin 8), s.portUp = true → s.pstate p = 4 → (s.port p).entered + 10000 ≤ s.bootUs →
    (s.rd WPORT_STAT.retrains p < s.rd WPORT_CTL.retrain_max p →
      Does (.faultRetrainExpiry p) s fun t => Frame [.ports] [(WPORT_STAT.retrains, p.val), (WPORT_STAT.state, p.val)] s t ∧ t.pstate p = 1 ∧
        t.rd WPORT_STAT.retrains p = s.rd WPORT_STAT.retrains p + 1) ∧
    (s.rd WPORT_CTL.retrain_max p ≤ s.rd WPORT_STAT.retrains p → (s.port p).failRecorded = false →
      Records (.faultRetrainExpiry p) s Ev.WARD_LINK_FAIL (Src.ward p) [p, 1] fun u => Frame [.ports] [] s u ∧ (u.port p).failRecorded = true))
/-- Requests and exchanges on a ward port (R317, R319, R322 to R327, R334, Tables 13-6 to 13-8). A frame has its type's length, 16 bytes more
when sealed and at most 4,148; one that does not is counted. A response that matches an outstanding request ends it with its status and gives
an object's slot that status, and tray firmware's step goes on; a request without answer is sent again twice and then ends with TIMEOUT;
telemetry becomes the ward's 64 words and its latency is kept, or is counted lost; an event is acknowledged and recorded once; DRAINED,
RELEASED and FENCE_DONE end their exchange OK, and a deadline ends it with TIMEOUT. That a frame whose sealing does not fit the channel's
state is discarded uncounted, and one whose status Table 0-2 does not define is counted, is the model's choice (notes/assumptions/89.md). -/
def Obligations.PortRequests : Prop :=
  (∀ (s : State) (p : Fin 8) (f : RspFrame) (fails : Bool), s.portUp = true → s.pstate p = 3 →
    Does (.rsp p f fails) s (Touches wardBlocks ([WPORT_STAT.sec, WPORT_ERR.tag, WPORT_ERR.crc] ++ wardFlds) s) ∧
    (headOk f.head (16 + 4 * f.data.length) = false → Does (.rsp p f fails) s fun t => Frame [] [(WPORT_ERR.crc, p.val)] s t ∧
      t.rd WPORT_ERR.crc p = min 255 (s.rd WPORT_ERR.crc p + 1)) ∧
    (headOk f.head (16 + 4 * f.data.length) = true → f.head.isSealed ≠ (s.port p).up → Does (.rsp p f fails) s fun t => t = s) ∧
    (headOk f.head (16 + 4 * f.data.length) = true → f.head.isSealed = (s.port p).up → ((s.port p).up = true → f.sealOk = true) →
      0x0B < f.status.toNat → Does (.rsp p f fails) s fun t => Frame [.ports] [(WPORT_ERR.crc, p.val)] s t ∧
        t.rd WPORT_ERR.crc p = min 255 (s.rd WPORT_ERR.crc p + 1)) ∧
    ∀ r, headOk f.head (16 + 4 * f.data.length) = true → f.head.isSealed = (s.port p).up → ((s.port p).up = true → f.sealOk = true) →
      f.status.toNat ≤ 0x0B →
      (s.port p).reqs.find? (fun r => r.tag == f.tag.toNat && r.addr == f.addr.toNat && r.count == f.count.toNat) = some r →
      (f.status = 0 → f.data.length = if r.read = true then r.count else 0) →
      Then (.rsp p f fails) s (·.wardStep p fails) fun u => Touches [.engines, .msix, .hostRest, .ports, .wards] reqFlds s u ∧
        ((s.port p).waiting = [] → (u.port p).reqs = (s.port p).reqs.filter (·.tag != r.tag)) ∧
        ∀ obj slot, r.owner = .engine obj slot → SlotEnded obj slot f.status.toNat s u) ∧
  (∀ (s : State) (p : Fin 8) (tag : BitVec 8) (r : Req), s.portUp = true → s.pstate p = 3 →
    (s.port p).reqs.find? (·.tag == tag.toNat) = some r →
    (s.bootUs < r.sentAt + s.rd WPORT_TMO.req_us p → Does (.reqResend p tag) s fun t => t = s) ∧
    (r.sentAt + s.rd WPORT_TMO.req_us p ≤ s.bootUs → r.sends < 3 → Does (.reqResend p tag) s fun t => Frame [.ports] [] s t ∧
      (∃ f ∈ (t.port p).txq, f.type = 3 ∧ f.tag = r.tag ∧ f.words = r.words) ∧
      (t.port p).reqs = (s.port p).reqs.map fun q => if q.tag == r.tag then { q with sends := q.sends + 1, sentAt := s.bootUs } else q) ∧
    (r.sentAt + s.rd WPORT_TMO.req_us p ≤ s.bootUs → 3 ≤ r.sends → Does (.reqResend p tag) s fun t =>
      Touches [.engines, .msix, .hostRest, .ports, .wards] reqFlds s t ∧
      ((s.port p).waiting = [] → (t.port p).reqs = (s.port p).reqs.filter (·.tag != r.tag)) ∧
      t.rd WPORT_ERR.req_to p = min 255 (s.rd WPORT_ERR.req_to p + 1) ∧
      ∀ obj slot, r.owner = .engine obj slot → SlotEnded obj slot St.timeout s t)) ∧
  (∀ (s : State) (p : Fin 8) (words : List (BitVec 32)) (ns : BitVec 16), s.portUp = true → s.pstate p = 3 →
    (s.telemGood p words = true → Then (.telem p words ns) s
      (fun u => if (s.ward p).state = 10 ∧ (words.getD 62 0).getLsbD 0 = true ∧ (s.ward p).leaving = false then u.wardServe p else u)
      fun u => Touches [.marten, .ports, .hbm, .recorderRest] [WPORT_TLAT.last, WPORT_TLAT.largest] s u ∧
        (u.port p).telem = putWords [] 0 words ∧ (u.port p).telemAt = s.bootUs ∧ (u.port p).sync = 0 ∧ u.rd WPORT_TLAT.last p = ns.toNat ∧
        u.rd WPORT_TLAT.largest p = max (s.rd WPORT_TLAT.largest p) ns.toNat) ∧
    (s.telemGood p words = false → Does (.telem p words ns) s fun t => Frame [] [(WPORT_ERR.telem_lost, p.val)] s t ∧
      t.rd WPORT_ERR.telem_lost p = min 255 (s.rd WPORT_ERR.telem_lost p + 1))) ∧
  (∀ (s : State) (p : Fin 8) (h : FrameHead) (sealOk : Bool) (tag : BitVec 8) (code : BitVec 16) (data : BitVec 64), s.portUp = true →
    s.pstate p = 3 →
    (headOk h 32 = false → Does (.evtFrame p h sealOk tag code data) s fun t => Frame [] [(WPORT_ERR.crc, p.val)] s t ∧
      t.rd WPORT_ERR.crc p = min 255 (s.rd WPORT_ERR.crc p + 1)) ∧
    (headOk h 32 = true → h.isSealed ≠ (s.port p).up → Does (.evtFrame p h sealOk tag code data) s fun t => t = s) ∧
    (headOk h 32 = true → h.isSealed = (s.port p).up → ((s.port p).up = true → sealOk = true) →
      (tag.toNat ∉ (s.port p).acked →
        Records (.evtFrame p h sealOk tag code data) s Ev.WARD_EVENT (Src.ward p) [p, code.toNat, data.toNat] fun u =>
          Frame [.ports] [] s u ∧ (u.port p).acked = (tag.toNat :: (s.port p).acked).take 256 ∧
          ∃ f ∈ (u.port p).txq, f.type = 6 ∧ f.words = [BitVec.ofNat 32 tag.toNat, 0]) ∧
      (tag.toNat ∈ (s.port p).acked → Does (.evtFrame p h sealOk tag code data) s fun t => Frame [.ports] [] s t ∧
        ∃ f ∈ (t.port p).txq, f.type = 6 ∧ f.words = [BitVec.ofNat 32 tag.toNat, 0]))) ∧
  (∀ (s : State) (p : Fin 8) (h : FrameHead) (part : BitVec 8) (arg : BitVec 4) (c : Ctrl), s.portUp = true → s.pstate p = 3 →
    (ctrlHeadOk h = false → ∀ r, r = Instr.drained p h part ∨ r = .released p h part ∨ r = .fenceDone p h arg →
      Does r s fun t => Frame [] [(WPORT_ERR.crc, p.val)] s t ∧ t.rd WPORT_ERR.crc p = min 255 (s.rd WPORT_ERR.crc p + 1)) ∧
    (s.findCtrl p 1 part.toNat = some c →
      (ctrlHeadOk h = true → Then (.drained p h part) s (·.seqDrained p part.toNat) (ExchangeEnded p c St.ok s)) ∧
      (c.since + s.rd WPORT_TMO.drain_us p ≤ s.bootUs → c.code = 1 →
        Then (.drainDeadline p part) s (·.seqEscalate p part.toNat) (ExchangeEnded p c St.timeout s))) ∧
    (s.findCtrl p 3 part.toNat = some c → ctrlHeadOk h = true →
      Then (.released p h part) s (·.seqReleased p part.toNat) (ExchangeEnded p c St.ok s)) ∧
    (s.findCtrl p 5 arg.toNat = some c →
      (ctrlHeadOk h = true →
        Then (.fenceDone p h arg) s (fun u => if arg.toNat < 8 then u.seqFenced arg.toNat p else u) (ExchangeEnded p c St.ok s)) ∧
      (c.since + 10 * s.rd WPORT_TMO.fence p ≤ s.bootUs → c.code = 5 →
        Then (.fenceDeadline p arg) s (·.seqLate (arg.toNat % 8) (some p)) (ExchangeEnded p c St.timeout s)))) ∧
  (∀ (s : State) (p : Fin 8) (code arg : BitVec 8) (c : Ctrl), s.portUp = true → s.pstate p = 3 → s.findCtrl p code.toNat arg.toNat = some c →
    c.sentAt + s.rd WPORT_TMO.req_us p ≤ s.bootUs →
    (s.bootUs < c.since + s.ctrlDeadline p c → Does (.ctrlResend p code arg) s fun t => Frame [.ports] [] s t ∧
      (∃ f ∈ (t.port p).txq, f.type = 7 ∧ f.words = ctrlWords c.code c.arg 0) ∧
      (t.port p).ctrls = (s.port p).ctrls.map fun d => if d == c then { d with sentAt := s.bootUs } else d) ∧
    (c.since + s.ctrlDeadline p c ≤ s.bootUs → c.code = 3 →
      Then (.ctrlResend p code arg) s (·.seqLate p none) (ExchangeEnded p c St.timeout s)))
/-- Streams and the secure channel of a ward port (R321, R329, R330). A bulk frame in order advances its stream and one out of order changes
nothing in it, and either is answered with the offset received in order; BACK advances the acknowledged offset, and the last byte ends the
stream; a stream without progress is sent again twice and then ends. That a stream's last frame is filled up to a multiple of 32 bytes is the
model's choice (notes/assumptions/90.md). The last fragment of a sound ACCEPT brings the channel up, and a channel asks for its
successor before its counters or its day end. -/
def Obligations.PortStreams : Prop :=
  (∀ (s : State) (p stream : Fin 8) (h : FrameHead) (sealOk : Bool) (off : BitVec 64) (len : BitVec 13) (diffs : List (BitVec 11))
      (uncorr : Bool) (b : Bulk), s.portUp = true → s.pstate p = 3 →
    Does (.bulk p stream h sealOk off len diffs uncorr) s
      (Touches wardBlocks ([WPORT_STAT.sec, WPORT_ERR.tag, WPORT_ERR.crc] ++ wardFlds) s) ∧
    (headOk h (20 + len.toNat) = false ∨ len.toNat < 32 ∨ 4096 < len.toNat ∨ len.toNat % 32 ≠ 0 →
      Does (.bulk p stream h sealOk off len diffs uncorr) s fun t => Frame [] [(WPORT_ERR.crc, p.val)] s t ∧
        t.rd WPORT_ERR.crc p = min 255 (s.rd WPORT_ERR.crc p + 1)) ∧
    (headOk h (20 + len.toNat) = true → h.isSealed = (s.port p).up → ((s.port p).up = true → sealOk = true) → 32 ≤ len.toNat →
      len.toNat ≤ 4096 → len.toNat % 32 = 0 → uncorr = false → Tab.get none (s.port p).ins stream = some b →
      (off.toNat = b.done → b.done + len.toNat ≤ b.len + 31 →
        Does (.bulk p stream h sealOk off len diffs uncorr) s fun t => Frame [.ports, .wards] [] s t ∧
          (∃ f ∈ (t.port p).txq, f.type = 9 ∧ f.words = backWords p stream (b.done + len.toNat)) ∧
          Tab.get none (t.port p).ins stream = if b.len ≤ b.done + len.toNat then none
            else some { b with done := b.done + len.toNat, progressAt := s.bootUs }) ∧
      (off.toNat ≠ b.done ∨ b.len + 31 < b.done + len.toNat →
        Does (.bulk p stream h sealOk off len diffs uncorr) s fun t => Frame [.ports] [] s t ∧ (t.port p).ins = (s.port p).ins ∧
          ∃ f ∈ (t.port p).txq, f.type = 9 ∧ f.words = backWords p stream b.done))) ∧
  (∀ (s : State) (p stream : Fin 8) (h : FrameHead) (sealOk : Bool) (off : BitVec 64) (credit : BitVec 32) (b : Bulk), s.portUp = true →
    s.pstate p = 3 → headOk h 24 = true → h.isSealed = (s.port p).up → ((s.port p).up = true → sealOk = true) →
    Tab.get none (s.port p).outs stream = some b →
    (b.done < off.toNat → off.toNat < b.len →
      Does (.back p stream h sealOk off credit) s fun t => Frame [.ports] [] s t ∧
        ∃ c, c = { b with
          done := off.toNat
          sent := max off.toNat b.sent
          credit := min credit.toNat 1048576
          timeouts := 0
          progressAt := s.bootUs } ∧
        Tab.get none (t.port p).outs stream = some { c with sent := max c.sent c.limit }) ∧
    (b.done ≤ off.toNat → b.len ≤ off.toNat → off.toNat ≤ b.len + 31 →
      Then (.back p stream h sealOk off credit) s (·.streamDone p stream b.len) fun u =>
        Frame [.ports] [] s u ∧ Tab.get none (u.port p).outs stream = none)) ∧
  (∀ (s : State) (p stream : Fin 8) (b : Bulk), s.portUp = true → s.pstate p = 3 → Tab.get none (s.port p).outs stream = some b →
    b.progressAt + 20 ≤ s.bootUs →
    (b.timeouts < 2 → Does (.bulkTimeout p stream) s fun t => Frame [.ports] [] s t ∧
      ∃ c, c = { b with sent := b.done, timeouts := b.timeouts + 1, progressAt := s.bootUs } ∧
      Tab.get none (t.port p).outs stream = some { c with sent := max c.sent c.limit }) ∧
    (2 ≤ b.timeouts → Does (.bulkTimeout p stream) s fun t => Frame [.ports, .wards] [] s t ∧ Tab.get none (t.port p).outs stream = none)) ∧
  (∀ (s : State) (p : Fin 8) (f : SecFrame), s.portUp = true → s.pstate p = 3 → (s.port p).setup = 2 → secHeadOk f.head = true →
    f.message = 2 → f.fragment.toNat = (s.port p).fragments →
    (f.last = false → Does (.sec p f) s fun t => Frame [.ports] [] s t ∧ (t.port p).fragments = (s.port p).fragments + 1) ∧
    (f.last = true → f.certOk = true → f.sigOk = true → s.bit SEC_LOCK.debug_open 0 = false → f.die.toNat = (s.ward p).die →
      Then (.sec p f) s (fun u => u.islandNext.wardSecured p) fun u => Frame [.ports, .wards] [(WPORT_STAT.sec, p.val)] s u ∧
        (u.port p).up = true ∧ u.rd WPORT_STAT.sec p = 1 ∧ (u.port p).secAt = s.bootUs ∧ u.wards.island = none) ∧
    (f.last = true → f.certOk = false ∨ f.sigOk = false ∨ s.bit SEC_LOCK.debug_open 0 = true ∨ f.die.toNat ≠ (s.ward p).die →
      Does (.sec p f) s (Touches wardBlocks ([WPORT_STAT.sec, WPORT_ERR.crc] ++ wardFlds) s))) ∧
  (∀ (s : State) (p : Fin 8), s.portUp = true → s.pstate p = 3 → (s.port p).up = true → (s.port p).setup = 0 →
    2 ^ 39 ≤ (s.port p).sealedOut ∨ 2 ^ 39 ≤ (s.port p).sealedIn ∨ (s.port p).secAt + 86400000000 ≤ s.bootUs →
    Does (.rekeyDue p) s fun t => Frame [.ports, .wards] [] s t ∧ (t.port p).up = true ∧ (t.port p).setup ≠ 0)
/-- Laser sources (R310 to R316, Table 13-5). A source enabled or disabled shows it, and is not disabled while the port it feeds is LINKED; a
poll keeps what it reads, and a fault, an overtemperature or the third silence in a row reduces the source; a dark lane reduces it, the
full-power condition raises it, a reduction that has not settled shuts its bus, and a bus is released once none of its sources is bad. -/
def Obligations.LaserSources : Prop :=
  (∀ (s : State) (k : Fin 18), s.laserUp = true → s.bit WPORT_LSCFG.lock k = false →
    Does (.sourceEnableWrite k true) s (fun t => Touches [.lasers] [WPORT_LSCFG.enable, WPORT_LSSTAT.cmd_status, WPORT_LSSTAT.limited,
      WPORT_LSSTAT.state] s t ∧ t.rd WPORT_LSCFG.enable k = 1 ∧ t.rd WPORT_LSSTAT.cmd_status k = St.ok) ∧
    (s.feedsLinked k = false → Does (.sourceEnableWrite k false) s fun t => Touches [.lasers] [WPORT_LSCFG.enable, WPORT_LSSTAT.cmd_status,
      WPORT_LSSTAT.limited, WPORT_LSSTAT.state] s t ∧ t.rd WPORT_LSCFG.enable k = 0 ∧ (t.laser k).reduced = none ∧ t.laserPower k = 0) ∧
    (s.feedsLinked k = true → Does (.sourceEnableWrite k false) s fun t =>
      Frame [] [(WPORT_LSSTAT.refused, k.val), (WPORT_LSSTAT.cmd_status, k.val)] s t ∧ t.rd WPORT_LSSTAT.refused k = 1 ∧
      t.rd WPORT_LSSTAT.cmd_status k = St.refusedState)) ∧
  (∀ (s : State) (k : Fin 18) (v : LaserRead), s.laserUp = true → (s.laser k).polledAt + 1000 ≤ s.bootUs →
    Does (.laserPoll k (some v)) s (fun t =>
      Touches [.msix, .lasers, .burrow]
        ([WPORT_LSSTAT.limited, WPORT_LSSTAT.temp, WPORT_LSSTAT.p_meas, WPORT_LSSTAT.present, WPORT_LSSTAT.state] ++ recBits) s t ∧
      t.rd WPORT_LSSTAT.present k = 1 ∧ (t.laser k).misses = 0 ∧ (t.laser k).stat = v.stat.toNat ∧ (t.laser k).polledAt = s.bootUs ∧
      (t.laser k).address = some ((s.laser k).address.getD (Config.laserAddress k)) ∧
      (v.pmeas.toNat % 100 = 0 → t.rd WPORT_LSSTAT.p_meas k = v.pmeas.toNat / 100) ∧
      (laserBad v.stat.toNat = true → s.rd WPORT_LSSTAT.state k ≠ 4 → t.rd WPORT_LSSTAT.state k = 5)) ∧
    (s.bit WPORT_LSSTAT.present k = true → (s.laser k).misses + 1 = 3 → s.rd WPORT_LSSTAT.state k ≠ 4 →
      Does (.laserPoll k none) s fun t => Touches [.msix, .lasers, .burrow] (WPORT_LSSTAT.state :: recBits) s t ∧
        t.rd WPORT_LSSTAT.state k = 5 ∧ (t.laser k).misses = 3)) ∧
  (∀ (s : State) (k : Fin 18) (stat : BitVec 4), s.laserUp = true → (s.laser k).address.isSome = true →
    Does (.inBandInterrupt k stat) s fun t => Touches [.msix, .lasers, .burrow] (WPORT_LSSTAT.state :: recBits) s t ∧
      (t.laser k).stat = stat.toNat ∧ (laserBad stat.toNat = true → s.rd WPORT_LSSTAT.state k ≠ 4 → t.rd WPORT_LSSTAT.state k = 5) ∧
      (laserBad stat.toNat = false → Frame [.lasers] [] s t)) ∧
  (∀ (s : State) (k : Fin 18) (which : Fin 4), s.laserUp = true → s.rd WPORT_LSSTAT.state k = 1 ∨ s.rd WPORT_LSSTAT.state k = 2 →
    s.rd WPORT_LSCFG.p_probe k * 100 < s.laserPower k →
    Records (.alsDecision k which) s Ev.WARD_LASER_ALS (laserSrc k) [k, which, s.laserPower k] fun u =>
      Frame [.lasers] [(WPORT_LSSTAT.state, k.val), (WPORT_LSSTAT.limited, k.val)] s u ∧ u.rd WPORT_LSSTAT.state k = 3 ∧
      u.rd WPORT_LSSTAT.limited k = 1 ∧ (u.laser k).lit = false ∧ (u.laser k).reduced = some (s.bootUs, false)) ∧
  (∀ (s : State) (k : Fin 18), s.laserUp = true → s.rd WPORT_LSSTAT.state k ≤ 3 →
    Does (.fullPowerAllowed k) s fun t => Touches [.lasers] [WPORT_LSSTAT.limited, WPORT_LSSTAT.state] s t ∧ (t.laser k).lit = true ∧
      (t.laserPower k ≠ 0 → t.rd WPORT_LSSTAT.state k = 2)) ∧
  (∀ (s : State) (k : Fin 18) (r : Option LaserRead) (at_ : Nat) (fault : Bool), s.laserUp = true →
    (s.laser k).reduced = some (at_, fault) → at_ + 1000 ≤ s.bootUs →
    ((r.map (s.laserSettled k fault)).getD false = true →
      Does (.laserSettleCheck k r) s fun t => Frame [.lasers] [] s t ∧ (t.laser k).reduced = none) ∧
    ((r.map (s.laserSettled k fault)).getD false = false →
      Records (.laserSettleCheck k r) s Ev.WARD_LASER_SHUT Src.ports [laserBus k, k] fun u => Touches [.lasers] [WPORT_LSSTAT.state] s u ∧
        laserBus k ∈ u.lasers.shut ∧ u.rd WPORT_LSSTAT.state k = 4 ∧ u.laserPower k = 0)) ∧
  (∀ (s : State) (b : BitVec 3), s.laserUp = true → b.toNat ≤ 4 →
    (b.toNat ∈ s.lasers.shut → (∀ k ∈ busSources b.toNat, laserBad (s.laser k).stat = false ∧ (s.laser k).misses ≠ 3) →
      Does (.releaseBus b) s fun t =>
        Touches [.lasers] [WPORT_LSSTAT.cmd_status, WPORT_LSSTAT.limited, WPORT_LSSTAT.state, WPORT_LSCMD.bus] s t ∧
        b.toNat ∉ t.lasers.shut ∧ ∀ k ∈ busSources b.toNat, t.rd WPORT_LSSTAT.cmd_status k = St.ok ∧ (t.laser k).lit = false) ∧
    (b.toNat ∉ s.lasers.shut → (∀ k ∈ busSources b.toNat, laserBad (s.laser k).stat = false ∧ (s.laser k).misses ≠ 3) →
      Does (.releaseBus b) s fun t => Touches [] [WPORT_LSSTAT.cmd_status, WPORT_LSCMD.bus] s t ∧
        ∀ k ∈ busSources b.toNat, t.rd WPORT_LSSTAT.cmd_status k = St.ok) ∧
    ((∃ k ∈ busSources b.toNat, laserBad (s.laser k).stat = true ∨ (s.laser k).misses = 3) →
      Does (.releaseBus b) s fun t => Touches [] [WPORT_LSSTAT.cmd_status, WPORT_LSCMD.bus] s t ∧
        ∀ k ∈ busSources b.toNat, t.rd WPORT_LSSTAT.cmd_status k = St.refusedState))

/-- Ward commands (R337 to R343, R348, Table 14-3). UP from OFF or FAILED enters POWERING with HALT as its floor, its port enabled and its
governor's object to be started, or completes with the first of its checks that fails and no effect; HOLD marks a stepping ward; DOWN clears
auto_up and brings the ward to OFF when its group is all-OFF; CLEAR takes a FAILED ward to OFF; an auto_up ward is powered on an admitted tray,
a waiting power-up is written once the stagger has passed, and a copy into the store is kept or condemns its ward type. A shadow refuses every
ward command. -/
def Obligations.WardCommands : Prop :=
  (∀ (s : State) (w : Fin 8) (via : Via), s.wardGiven via w 1 = true →
    Does (.up w via) s (Touches wardBlocks wardFlds s) ∧
    (s.shadow_ = true → Then (.up w via) s (·.finish via St.refusedState) (· = s)) ∧
    (s.shadow_ = false → (s.ward w).state = 0 ∨ (s.ward w).state = 14 →
      (∀ c, s.upRefusal w = some c → Then (.up w via) s (·.finish via c) (· = s)) ∧
      (s.upRefusal w = none → Then (.up w via) s (·.finish via St.ok) fun u => (u.ward w).state = 1 ∧ (u.ward w).upTick = s.tick ∧
        (u.ward w).upUs = s.bootUs ∧ (u.ward w).upDue = true ∧
        (u.ward w).attempts = (if (s.ward w).state = 14 then 0 else (s.ward w).attempts) ∧
        u.rd HARP_WCTL.floor w = 3 ∧ u.rd WPORT_CTL.enable w = 1 ∧ ∀ n, s.governorOf w = some n → n ∈ u.setts.startDue))) ∧
  (∀ (s : State) (w : Fin 8) (via : Via), s.wardGiven via w 2 = true → s.shadow_ = false →
    (1 ≤ (s.ward w).state → (s.ward w).state ≤ 10 → Then (.hold w via) s (·.finish via St.ok) fun u => Frame [.wards] [] s u ∧
      u.ward w = { s.ward w with hold := true }) ∧
    ((s.ward w).state = 0 ∨ (s.ward w).state = 12 → Then (.hold w via) s (·.finish via St.ok) (· = s)) ∧
    ((s.ward w).state = 11 ∨ 13 ≤ (s.ward w).state → Then (.hold w via) s (·.finish via St.refusedState) (· = s))) ∧
  (∀ (s : State) (w : Fin 8) (via : Via), s.wardGiven via w 3 = true → s.shadow_ = false →
    Does (.down w via) s (Touches wardBlocks wardFlds s) ∧
    ((s.ward w).state = 0 ∨ (s.ward w).state = 14 → Then (.down w via) s (·.finish via St.ok) fun u => Frame [.wards] [] s u ∧
      u.ward w = { s.ward w with autoOff := true }) ∧
    ((s.ward w).state ≠ 0 → (s.ward w).state ≠ 14 → Then (.down w via) s (·.finish via St.ok) fun u =>
      ((u.ward w).state = 0 ∨ (u.ward w).leaving = true) ∧ (u.ward w).autoOff = true ∧ u.rd HARP_WCTL.floor w = 3)) ∧
  (∀ (s : State) (w : Fin 8) (via : Via), s.wardGiven via w 4 = true → s.shadow_ = false →
    ((s.ward w).state = 14 → Then (.clear w via) s (·.finish via St.ok) fun u =>
      Touches [.harps, .msix, .wards, .burrow, .twin] ([HARP_WCTL.floor, HARP_WSTAT.code, HARP_WUPS.ups] ++ recBits) s u ∧
      (u.ward w).state = 0 ∧ u.rd HARP_WCTL.floor w = 3) ∧
    ((s.ward w).state = 0 → Then (.clear w via) s (·.finish via St.ok) (· = s)) ∧
    ((s.ward w).state ≠ 0 → (s.ward w).state ≠ 14 → Then (.clear w via) s (·.finish via St.refusedState) (· = s))) ∧
  (∀ (s : State) (w : Fin 8), s.fwUp = true → s.shadow_ = false →
    (((s.trayWard w).map (·.autoUp)).getD false = true → (s.ward w).autoOff = false → (s.ward w).state = 0 → s.leakStands w = false →
      s.admitted = true → s.upRefusal w = none →
      Does (.autoUp w) s fun t => Touches wardBlocks wardFlds s t ∧ (t.ward w).state = 1 ∧ (t.ward w).upDue = true) ∧
    ((s.ward w).state = 1 → (s.ward w).upDue = true → s.gstate w = 0 → (s.ward w).leaving = false →
      (∀ v < w.val, (s.ward v).state ≠ 1 ∨ (s.ward v).upDue = false) → s.staggered w = true → s.leakStands w = false →
      Then (.staggeredPowerUp w) s (·.powerUp w) fun u => Frame [.wards] [] s u ∧ u.ward w = { s.ward w with upDue := false })) ∧
  (∀ (s : State) (pattern : Bool) (wt : BitVec 32) (ok : Bool), s.fwUp = true → s.bit DEV_STAT.mem_active 0 = true →
    Does (.storeCopyDone pattern wt ok) s (Touches (.secure :: wardBlocks) wardFlds s) ∧
    (s.secure.copying = none → s.copyNext = some (pattern, wt.toNat) → Does (.storeCopyDone pattern wt ok) s fun t =>
      (ok = true → (pattern, wt.toNat) ∈ t.wards.copies) ∧ (ok = false → wt.toNat ∈ t.wards.badTypes)) ∧
    (∀ via m u, s.secure.copying = some (via, m, u) → (pattern, wt.toNat) ∈ s.secure.copyDue → ok = false →
      Then (.storeCopyDone pattern wt ok) s (·.finish via St.integrity 1) fun t => Frame [.secure] [] s t ∧ t.secure.copying = none))
/-- The steps of a bring-up and their failures (R337, R346, R354, R360, Table 14-9). A ward enters a state with that state's floor; an operation
that has ended with the next sequence number ends its step, and one still busy leaves the ward watched; a deadline fails the ward. A failure
notes its state and cause; causes 3, 4 and 14 end OFF, a counted one within the retries powers the ward again, and any other ends FAILED. -/
def Obligations.WardSteps : Prop :=
  (∀ (s : State) (w st : Nat), ((s.wardEnter w st).ward w).state = st ∧ ((s.wardEnter w st).ward w).entered = s.tick ∧
    ((s.wardEnter w st).ward w).deadFrom = some s.bootUs ∧ (s.wardEnter w st).rd HARP_WCTL.floor w = floorOf st % 4 ∧
    ∀ v, v ≠ w → (s.wardEnter w st).ward v = s.ward v) ∧
  (∀ (s : State) (w cause n retries : Nat), n = (if (countedCause cause && !inService (s.ward w).state) = true
      then min 255 ((s.ward w).attempts + 1) else (s.ward w).attempts) → retries = ((s.trayWard w).map (·.retries.toNat)).getD 0 →
    Touches wardBlocks wardFlds s (s.wardFail w cause) ∧ ((s.wardFail w cause).ward w).attempts = n ∧
      ((s.wardFail w cause).ward w).failState = (s.ward w).state ∧ ((s.wardFail w cause).ward w).failCause = cause ∧
      ((s.wardFail w cause).ward w).state = (if cause = 3 ∨ cause = 4 ∨ cause = 14 then 0
        else if (countedCause cause && !inService (s.ward w).state) = true ∧ n ≤ retries then 1 else 14)) ∧
  (∀ (s : State) (w : Fin 8) (stat seq : BitVec 32) (mem : BitVec 16) (ring : BitVec 32), s.fwUp = true → s.portUp = true →
    s.shadow_ = false →
    Does (.buPoll w stat seq mem ring) s (Touches wardBlocks wardFlds s) ∧
    (s.linked w = true → stepping (s.ward w).state = true → (s.ward w).sub = 2 → (s.ward w).leaving = false → (s.ward w).op ≠ 0 →
      stat.toNat / 16777216 = (s.ward w).op → stat.toNat / 65536 % 256 ≠ St.busy → seq.toNat = ((s.ward w).opSeq + 1) % 4294967296 →
      (s.ward w).op ≠ 3 ∨ noneTraining mem ring = true →
      Then (.buPoll w stat seq mem ring) s (·.opEnded w (stat.toNat / 65536 % 256)) fun u => Frame [.wards] [] s u ∧
        u.ward w = { s.ward w with opSeq := seq.toNat }) ∧
    (stat.toNat / 65536 % 256 = St.busy ∨ seq.toNat ≠ ((s.ward w).opSeq + 1) % 4294967296 →
      Then (.buPoll w stat seq mem ring) s (·.wardWatch w) (· = s))) ∧
  (∀ (s : State) (w : Fin 8) (ms from_ : Nat), s.fwUp = true → s.shadow_ = false → (s.ward w).leaving = false → (s.ward w).state ≠ 12 →
    (s.trayWard w).bind (stepMs · (s.ward w).state) = some ms → (s.ward w).deadFrom = some from_ → from_ + ms * 1000 ≤ s.bootUs →
    Does (.buDeadline w) s fun t => t = s.wardFail w 5)
/-- Reset sequences of a ward in service (R376 to R382, Tables 15-6 to 15-8). A core reset and a partition turned on begin with their first
operation written, a partition reset or turned off with QUIESCE; a request that Table 15-7 refuses has no effect but its completion. The end of
an operation, by its sequence number or after 10 ms, goes on with the sequence; at its end the ward has none, and a partition turned off or on
is marked. -/
def Obligations.ResetSequences : Prop :=
  (∀ (s : State) (w : Fin 8) (target : BitVec 16) (via : Via) (op : Nat) (c : Instr), s.fwUp = true →
    (op, c) ∈ [(1, Instr.coreReset w target via), (2, .partitionReset w target via), (3, .partitionOff w target via),
      (4, .partitionOn w target via)] →
    s.given via 0x0303 (fun d => descParam d 0x2C 1 == w.val && descParam d 0x2D 1 == op && descParam d 0x2E 2 == target.toNat) = true →
    Does c s (Touches [.engines, .msix, .hostRest, .ports, .wards] reqFlds s) ∧
    (∀ e, s.seqRefusal w op target.toNat = some e → Then c s (·.finish via e (if e = St.badDescriptor then 0x2E else 0)) (· = s)) ∧
    (s.seqRefusal w op target.toNat = none → Does c s fun t => ∃ q, (t.ward w).seq = some q ∧ q.op = op ∧ q.target = target.toNat ∧
      q.via = via ∧ q.startAt = s.bootUs ∧ q.step = (if op = 1 ∨ op = 4 then 3 else 1) ∧
      (op = 1 → q.running = 1) ∧ (op = 4 → q.running = 6) ∧
      (op = 2 ∨ op = 3 → (t.port w).ctrls = (s.port w).ctrls ++
        [{ code := 1, arg := target.toNat, owner := .firmware 0, since := s.bootUs, sentAt := s.bootUs }]))) ∧
  (∀ (s : State) (w : Fin 8) (stat seq : BitVec 32) (q : ResetSeq), s.fwUp = true → s.portUp = true → s.pstate w = 3 →
    (s.ward w).seq = some q →
    (q.step ≠ 3 → Does (.rstPoll w stat seq) s fun t => t = s) ∧
    (q.step = 3 → stat.toNat / 16777216 = q.running → stat.toNat / 65536 % 256 ≠ St.busy → seq.toNat ≠ (s.ward w).rstSeq →
      Then (.rstPoll w stat seq) s (·.seqOpEnded w q (stat.toNat / 65536 % 256)) fun u => Frame [.wards] [] s u ∧
        u.ward w = { s.ward w with rstSeq := seq.toNat }) ∧
    (q.step = 3 → stat.toNat / 16777216 ≠ q.running ∨ stat.toNat / 65536 % 256 = St.busy ∨ seq.toNat = (s.ward w).rstSeq →
      q.stepAt + 10000 ≤ s.bootUs → Then (.rstPoll w stat seq) s (·.seqOpEnded w q St.timeout) (· = s))) ∧
  (∀ (s : State) (w : Nat) (q : ResetSeq), ((s.seqDone w q).ward w).seq = none ∧
    (q.op = 3 → ((s.seqDone w q).ward w).partsOff.testBit q.target = true) ∧
    (q.op = 4 → ((s.seqDone w q).ward w).partsOff.testBit q.target = false))

/-- Ring pairs (R394 to R398, R400, R401, R404). A pair is enabled in READY mode with a valid set-up, empty and with HOST_RING_ON, and refused
otherwise; disabling ends its subscriptions; doorbells take an index within the ring; a fetched descriptor takes its slot and moves SQ_HEAD,
and one that fails a check completes at once; the coalescing timer sends the vector's message; a 1 written to an INT_CAUSE bit clears it; a
failed access is counted, raises dma_err, and ends its descriptor or its pair. -/
def Obligations.Rings : Prop :=
  (∀ (s : State) (r : Fin 32) (v : BitVec 32) (t : State), s.hostUp = true → 2147483648 ≤ v.toNat →
    t = s.writeFlds [RING_CTL.sq_log2, RING_CTL.cq_log2, RING_CTL.int_en, RING_CTL.vector] r v.toNat →
    (s.rd RING_STAT.state r = 1 → Does (.ringEnable r v) s fun u => Frame [] [(RING_CTL.int_en, r.val), (RING_STAT.ctl_status, r.val)] s u ∧
      u.rd RING_CTL.int_en r = v.toNat / 2 ^ 15 % 2 ∧ u.rd RING_STAT.ctl_status r = St.ok) ∧
    (s.rd RING_STAT.state r ≠ 1 → s.ready = false → Does (.ringEnable r v) s fun u =>
      Frame [] [(RING_CTL.sq_log2, r.val), (RING_CTL.cq_log2, r.val), (RING_CTL.int_en, r.val), (RING_CTL.vector, r.val),
        (RING_STAT.ctl_status, r.val)] s u ∧ u.rd RING_STAT.ctl_status r = St.refusedState) ∧
    (s.rd RING_STAT.state r ≠ 1 → s.ready = true → 4 ≤ t.rd RING_CTL.sq_log2 r → t.rd RING_CTL.sq_log2 r ≤ t.rd RING_CTL.cq_log2 r →
      s.rd SQ_BASE.base r ≠ 0 → s.rd CQ_BASE.base r ≠ 0 →
      Records (.ringEnable r v) s Ev.HOST_RING_ON Src.hostIf [r, t.rd RING_CTL.sq_log2 r, t.rd RING_CTL.cq_log2 r] fun u =>
        Touches [.hostRest] [RING_CTL.sq_log2, RING_CTL.cq_log2, RING_CTL.int_en, RING_CTL.vector, RING_CTL.enable, RING_STAT.state,
          RING_STAT.outstanding, RING_STAT.ctl_status, SQ_HEAD.index, CQ_TAIL.index, DB_SQ.index, DB_CQ.index] s u ∧
        u.rd RING_STAT.state r = 1 ∧ u.rd RING_CTL.enable r = 1 ∧ u.rd SQ_HEAD.index r = 0 ∧ u.rd CQ_TAIL.index r = 0 ∧
        u.rd DB_SQ.index r = 0 ∧ u.rd DB_CQ.index r = 0 ∧ u.rd RING_STAT.ctl_status r = St.ok ∧ (u.pair r).out = []) ∧
    (s.rd RING_STAT.state r ≠ 1 → s.ready = true → s.rd SQ_BASE.base r = 0 ∨ s.rd CQ_BASE.base r = 0 ∨
        t.rd RING_CTL.sq_log2 r < 4 ∨ t.rd RING_CTL.cq_log2 r < t.rd RING_CTL.sq_log2 r → Does (.ringEnable r v) s fun u =>
      u.rd RING_STAT.ctl_status r = St.badDescriptor ∧ u.rd RING_STAT.state r = s.rd RING_STAT.state r)) ∧
  (∀ (s : State) (r : Fin 32) (v : BitVec 32), s.hostUp = true → v.toNat < 2147483648 →
    (s.rd RING_STAT.state r = 1 → Does (.ringDisable r v) s fun t =>
      Touches [.msix, .hostRest, .ports, .wards, .recorderRest, .secure, .burrow]
        ([RING_CTL.int_en, RING_CTL.enable, RING_STAT.subs, RING_STAT.outstanding, RING_STAT.state, CQ_TAIL.index, RING_ERR.bad_desc] ++
          recBits) s t ∧
      t.rd RING_STAT.state r = 0 ∧ t.rd RING_CTL.enable r = 0 ∧ (t.pair r).out = [] ∧ ∀ e ∈ t.host.subs, e.2.pair ≠ r) ∧
    (s.rd RING_STAT.state r ≠ 1 → Does (.ringDisable r v) s fun t =>
      Frame [] [(RING_CTL.sq_log2, r.val), (RING_CTL.cq_log2, r.val), (RING_CTL.int_en, r.val), (RING_CTL.vector, r.val)] s t)) ∧
  (∀ (s : State) (r : Fin 32) (v : BitVec 32), s.hostUp = true → s.rd RING_STAT.state r = 1 →
    (v.toNat % 4096 < s.sqSize r → Does (.sqDoorbell r v) s fun t => Frame [] [(DB_SQ.index, r.val)] s t ∧
      t.rd DB_SQ.index r = v.toNat % 4096) ∧
    (s.sqSize r ≤ v.toNat % 4096 → Does (.sqDoorbell r v) s fun t => t = s) ∧
    (v.toNat % 4096 < s.cqSize r → Does (.cqDoorbell r v) s fun t => Touches [.msix, .hostRest] [CQ_TAIL.index, DB_CQ.index] s t ∧
      t.rd DB_CQ.index r = v.toNat % 4096) ∧
    (s.cqSize r ≤ v.toNat % 4096 → Does (.cqDoorbell r v) s fun t => t = s)) ∧
  (∀ (s : State) (r : Fin 32) (d : Desc), s.hostUp = true → s.rd RING_STAT.state r = 1 →
    s.rd SQ_HEAD.index r ≠ s.rd DB_SQ.index r → (s.pair r).out.length < 8 → 0 < s.cqFree r →
    ∃ u, Frame [.hostRest] [(RING_STAT.outstanding, r.val), (SQ_HEAD.index, r.val)] s u ∧
      (u.pair r).out = (s.pair r).out ++ [{ slot := s.rd SQ_HEAD.index r, desc := d, order := s.host.order }] ∧
      u.host.order = s.host.order + 1 ∧ u.rd SQ_HEAD.index r = (s.rd SQ_HEAD.index r + 1) % s.sqSize r % 4096 ∧
      u.rd RING_STAT.outstanding r = (s.pair r).out.length + 1 ∧
      exec (.descriptorFetch r d) s = .next (match s.descCheck r d with
        | some (c, detail) => u.complete r (s.rd SQ_HEAD.index r) c detail 0 false
        | none => u)) ∧
  (∀ (s : State) (r : Fin 32) (from_ : Nat), s.hostUp = true → s.bit RING_CTL.int_en r = true → s.rd RING_COAL.coal_us r ≠ 0 →
    (s.pair r).firstAt = some from_ → from_ + s.rd RING_COAL.coal_us r ≤ s.bootUs →
    Does (.coalesceTimeout r) s fun t => Frame [.msix, .hostRest] [] s t ∧ (t.pair r).unsent = 0 ∧ (t.pair r).firstAt = none) ∧
  (∀ (s : State) (v : BitVec 32), s.hostUp = true → Does (.intCauseClear v) s fun t =>
    Frame [] [(INT_CAUSE.ready, 0), (INT_CAUSE.restarting, 0), (INT_CAUSE.event, 0), (INT_CAUSE.link_narrow, 0), (INT_CAUSE.hdm_denied, 0),
      (INT_CAUSE.dma_err, 0)] s t ∧
    ∀ f ∈ Reg.fields .INT_CAUSE, t.rd f 0 = if v.getLsbD f.lo then 0 else s.rd f 0) ∧
  (∀ (s : State) (r : Fin 32) (slot : BitVec 12) (write : Bool) (f : Fetched), s.hostUp = true → s.rd RING_STAT.state r = 1 →
    (s.fetched r slot.toNat = some f →
      Then (.dmaFailure r (if write then .write slot else .read slot)) s
        (fun v => (v.complete r slot.toNat St.integrity (if write then 2 else 1) 0 false).dropStage r slot.toNat) fun u =>
          Touches [.msix, .burrow] ([RING_ERR.dma_err, INT_CAUSE.dma_err] ++ recBits) s u ∧ u.rd INT_CAUSE.dma_err 0 = 1 ∧
          u.rd RING_ERR.dma_err r = min 255 (s.rd RING_ERR.dma_err r + 1)) ∧
    (s.rd SQ_HEAD.index r ≠ s.rd DB_SQ.index r → Does (.dmaFailure r .fetch) s fun t =>
      Touches [.msix, .hostRest, .ports, .wards, .recorderRest, .secure, .burrow]
        ([INT_CAUSE.dma_err, RING_CTL.enable, RING_STAT.subs, RING_STAT.outstanding, RING_STAT.state, CQ_TAIL.index, RING_ERR.bad_desc,
          RING_ERR.dma_err] ++ recBits) s t ∧
      t.rd RING_STAT.state r = 0 ∧ t.rd INT_CAUSE.dma_err 0 = 1))
/-- The HDM range (R390 to R392, R410, R422). With the memory inactive a read answers zeros and either access is counted; a write takes effect in
an open staging window alone, where it stores its 64 bytes and no others, and is denied elsewhere; a read of models or working space answers
zeros and is denied; any other read answers the 64 bytes held there. The decoder takes the capacity with one way. -/
def Obligations.HostMemory : Prop :=
  (∀ (s u : State) (write : Bool) (line : BitVec 30) (data : BitVec 512) (bad0 bad1 : BitVec 280) (a : Nat) (c : Instr), s.hostUp = true →
    s.host.linkUp = true → s.host.decoder = true → a = line.toNat * 64 → (s.region a).isSome = true →
    u = (s.hbmUpset a bad0).hbmUpset (a + 32) bad1 → c = .hdmAccess write line data bad0 bad1 →
    (s.bit DEV_STAT.mem_active 0 = false → write = false → Does c s fun t =>
      Frame [.hostRest] [(HDM_ERR.reads, 0)] s t ∧ t.host.answer = leBytes 64 0 ∧
      t.rd HDM_ERR.reads 0 = min 65535 (s.rd HDM_ERR.reads 0 + 1)) ∧
    (s.bit DEV_STAT.mem_active 0 = false → write = true → Does c s fun t =>
      Frame [] [(HDM_ERR.writes, 0)] s t ∧ t.rd HDM_ERR.writes 0 = min 65535 (s.rd HDM_ERR.writes 0 + 1)) ∧
    (s.bit DEV_STAT.mem_active 0 = true → write = true → s.region a = some .staging → s.bit HDM_WCTL.stage_open 0 = true →
      s.windowRead = false → Does c s fun t => Frame [.hbm, .recorderRest] [] s t ∧ t.hbmLine a = leBytes 64 data.toNat ∧
      ∀ b, b < a ∨ a + 64 ≤ b → t.hbmByte b = s.hbmByte b) ∧
    (s.bit DEV_STAT.mem_active 0 = true → write = true →
      s.region a ≠ some .staging ∨ s.bit HDM_WCTL.stage_open 0 = false ∨ s.windowRead = true →
      Does c s fun t => Touches [.msix, .hostRest] [HDM_ERR.writes, INT_CAUSE.hdm_denied] s t ∧
        t.rd HDM_ERR.writes 0 = min 65535 (s.rd HDM_ERR.writes 0 + 1) ∧ t.rd INT_CAUSE.hdm_denied 0 = 1) ∧
    (s.bit DEV_STAT.mem_active 0 = true → write = false → s.region a = some .models ∨ s.region a = some .working →
      Does c s fun t => Touches [.msix, .hostRest] [HDM_ERR.reads, INT_CAUSE.hdm_denied] s t ∧
        t.host.answer = leBytes 64 0 ∧ t.rd INT_CAUSE.hdm_denied 0 = 1) ∧
    (s.bit DEV_STAT.mem_active 0 = true → write = false → s.region a ≠ some .models → s.region a ≠ some .working →
      Does c s fun t =>
        Touches [.msix, .hostRest, .recorderRest, .burrow]
          ([MEM_ECC.corr, MEM_ECC.uncorr, MEM_UNCA.address, MEM_UNCA.scrub, MEM_UNCA.src, MEM_UNCA.valid] ++ recBits) s t ∧
        t.host.answer = u.hbmLine a ∧
        ((u.hbmFound a).1 = .good → (u.hbmFound (a + 32)).1 = .good → Frame [.hostRest, .recorderRest] [] s t))) ∧
  (∀ (s : State) (gib : BitVec 16) (ways : BitVec 8), s.hostUp = true → s.host.linkUp = true →
    Does (.hdmDecoderCommit gib ways) s fun t => Frame [.hostRest] [] s t ∧
      t.host.decoder = (gib.toNat == (if s.part.variant = .qc then 32 else 64) && ways.toNat == 1) ∧ t.host.decoderErr = !t.host.decoder)
/-- Descriptors of the host interface (R406 to R408, R418 to R420, R475, R481). NOP completes with the tray tick and HOST_RESET before an
application reset; an anchor outside its second is BAD_DESCRIPTOR, a second one within a second BUSY; a subscription is held with what its
descriptor names and ends when cancelled; an entry that is due is written or held, and the oldest is dropped beyond 64; EVENT_READ answers the
records of an area; the recorder is frozen from RECORDING and released from FROZEN. -/
def Obligations.HostDescriptors : Prop :=
  (∀ (s : State) (r : Fin 32) (slot : BitVec 12),
    (s.given (.ring r slot) 0x0001 (fun _ => true) = true →
      Then (.nopDescriptor (.ring r slot)) s (·.finish (.ring r slot) St.ok 0 (s.tick % 2 ^ 64) true) (· = s)) ∧
    (s.given (.ring r slot) 0x0002 (fun _ => true) = true →
      Then (.hostReset (.ring r slot)) s (·.appReset 0x08) (· = s.finish (.ring r slot) St.ok))) ∧
  (∀ (s : State) (r : Fin 32) (slot : BitVec 12) (d : Desc) (t : Nat), s.fwUp = true →
    s.given (.ring r slot) 0x0003 (fun _ => true) = true → s.descOf (.ring r slot) = some d → t = descParam d 0x34 8 →
    (s.tick < t ∨ t + 1000000 < s.tick →
      Then (.timeAnchor (.ring r slot)) s (·.finish (.ring r slot) St.badDescriptor 0x34) (· = s)) ∧
    (t ≤ s.tick → s.tick ≤ t + 1000000 → (∃ a, s.burrow.lastAnchor = some a ∧ s.bootUs < a + 1000000) →
      Then (.timeAnchor (.ring r slot)) s (·.finish (.ring r slot) St.busy) (· = s)) ∧
    (t ≤ s.tick → s.tick ≤ t + 1000000 → (∀ a, s.burrow.lastAnchor = some a → a + 1000000 ≤ s.bootUs) →
      Does (.timeAnchor (.ring r slot)) s fun u => Touches [.msix, .hostRest, .burrow] recBits s u ∧ u.burrow.lastAnchor = some s.bootUs)) ∧
  (∀ (s : State) (r : Fin 32) (slot : BitVec 12) (d : Desc), s.fwUp = true →
    s.given (.ring r slot) 0x0100 (fun _ => true) = true → s.descOf (.ring r slot) = some d →
    (s.host.subs.length < 256 → Does (.telemSubscribe (.ring r slot)) s fun t =>
      Touches [.msix, .hostRest] [RING_STAT.subs, CQ_TAIL.index] s t ∧
      ∃ k x, t.sub k = some x ∧ x.pair = r ∧ x.slot = slot.toNat ∧ x.cookie = d.cookie ∧ x.kind = descParam d 0x2C 1 ∧
        x.stat = descParam d 0x2D 1 ∧ x.index = descParam d 0x2E 2 ∧ x.k = descParam d 0x30 1 ∧ x.held = []) ∧
    (256 ≤ s.host.subs.length →
      Then (.telemSubscribe (.ring r slot)) s (·.finish (.ring r slot) St.noResource) (· = s))) ∧
  (∀ (s : State) (r : Fin 32) (slot : BitVec 12) (d : Desc), s.fwUp = true →
    s.given (.ring r slot) 0x0101 (fun _ => true) = true → s.descOf (.ring r slot) = some d →
    (∀ x, s.sub (descParam d 0x2C 2) = some x → Then (.telemCancel (.ring r slot)) s (·.finish (.ring r slot) St.ok) fun u =>
      u.sub (descParam d 0x2C 2) = none) ∧
    (s.sub (descParam d 0x2C 2) = none → Then (.telemCancel (.ring r slot)) s (·.finish (.ring r slot) St.refusedState) (· = s))) ∧
  (∀ (s : State) (k : BitVec 16) (x : Sub) (e : Nat × Nat) (l : List (Nat × Nat)), s.hostUp = true → s.ready = true →
    s.sub k.toNat = some x → x.due = e :: l →
    (64 ≤ x.held.length → 0 < s.cqFree x.pair → Does (.subscriptionEntry k) s fun t =>
      Touches [.msix, .hostRest] [CQ_TAIL.index, RING_ERR.sub_drops] s t ∧
      t.rd RING_ERR.sub_drops x.pair = min 65535 (s.rd RING_ERR.sub_drops x.pair + 1)) ∧
    (x.held.length < 64 → Does (.subscriptionEntry k) s fun t => Touches [.msix, .hostRest] [CQ_TAIL.index] s t ∧
      ∃ y, t.sub k.toNat = some y ∧ y.due = l) ∧
    (64 ≤ x.held.length → s.cqFree x.pair = 0 → Does (.subscriptionEntry k) s fun t => Frame [.hostRest] [(RING_ERR.sub_drops, x.pair)] s t ∧
      t.rd RING_ERR.sub_drops x.pair = min 65535 (s.rd RING_ERR.sub_drops x.pair + 1) ∧
      ∃ y, t.sub k.toNat = some y ∧ y.due = l ∧ y.held = x.held.drop 1 ++ [e] ∧ y.dropped = x.dropped + 1)) ∧
  (∀ (s : State) (r : Fin 32) (slot : BitVec 12) (d : Desc) (area : Nat) (l : List Rec), s.fwUp = true →
    s.given (.ring r slot) 0x0200 (fun _ => true) = true → s.descOf (.ring r slot) = some d → area = descParam d 0x2C 1 →
    l = (s.areaRecords area (descParam d 0x30 8)).take (descParam d 0x38 4) →
    (area ≠ 2 ∨ s.bit DEV_STAT.mem_active 0 = true → Then (.eventRead (.ring r slot)) s
      (·.finish (.ring r slot) St.ok 0 (l.length + 2 ^ 64 * ((l.getLast?.map (·.seq + 1)).getD (descParam d 0x30 8) % 2 ^ 64)) true)
      fun u => Frame [.hostRest] [] s u ∧ u.host.written = (d.addr0.toNat, l.flatMap fun x => x.bytes (area == 2))) ∧
    (area = 2 → s.bit DEV_STAT.mem_active 0 = false →
      Then (.eventRead (.ring r slot)) s (·.finish (.ring r slot) St.refusedState) (· = s))) ∧
  (∀ (s : State) (r : Fin 32) (slot : BitVec 12), s.fwUp = true →
    (s.given (.ring r slot) 0x0201 (fun _ => true) = true →
      (s.rd REC_STAT.state 0 = 0 → Does (.recorderFreeze (.ring r slot)) s fun t =>
        Touches [.msix, .hostRest, .recorderRest, .burrow] ([REC_STAT.rule, REC_STAT.more, REC_STAT.src, REC_STAT.state, REC_TTICK.tick] ++
          recBits) s t ∧
        t.rd REC_STAT.state 0 = 1 ∧ t.rd REC_STAT.src 0 = 0 ∧ t.recorder.freezer = some (r.val, slot.toNat)) ∧
      (s.rd REC_STAT.state 0 = 3 → Then (.recorderFreeze (.ring r slot)) s (·.finish (.ring r slot) St.refusedState) (· = s)) ∧
      (s.sameTrigger = true → Does (.recorderFreeze (.ring r slot)) s fun t =>
        Touches [.hostRest, .recorderRest] [REC_STAT.rule, REC_STAT.src] s t ∧ t.rd REC_STAT.src 0 = 0 ∧
        t.recorder.freezer = some (r.val, slot.toNat)) ∧
      (s.sameTrigger = false → s.rd REC_STAT.state 0 = 1 ∨ s.rd REC_STAT.state 0 = 2 →
        Then (.recorderFreeze (.ring r slot)) s (·.finish (.ring r slot) St.busy) fun u => Frame [] [(REC_STAT.more, 0)] s u)) ∧
    (s.given (.ring r slot) 0x0202 (fun _ => true) = true →
      (s.rd REC_STAT.state 0 = 2 → Then (.recorderRelease (.ring r slot)) s (·.finish (.ring r slot) St.ok) fun u =>
        Touches [.msix, .recorderRest, .burrow] recBits s u ∧ u.recorder.releaseDue = true) ∧
      (s.rd REC_STAT.state 0 ≠ 2 → Then (.recorderRelease (.ring r slot)) s (·.finish (.ring r slot) St.refusedState) (· = s))))
/-- Descriptors about wards (R296, R319, R320, R359, R363, R371, R372). WARD_STATUS answers eight records and DEFECT_MAP_READ three maps, the latter
only after a MAP; WARD_REG becomes a register request of the ward's port, and is refused where it is not LINKED; a licence is stored with its
record, or refused with the first check that fails; LEAK_CLEAR waits for the branch object, and is refused in the shadow role. -/
def Obligations.WardDescriptors : Prop :=
  (∀ (s : State) (r : Fin 32) (slot : BitVec 12) (d : Desc), s.fwUp = true → s.descOf (.ring r slot) = some d →
    s.given (.ring r slot) 0x0301 (fun _ => true) = true →
    Then (.wardStatus (.ring r slot)) s (·.finish (.ring r slot) St.ok) fun u => Frame [.hostRest] [] s u ∧
      u.host.written = (d.addr0.toNat, (List.range 8).flatMap s.wardRecord)) ∧
  (∀ (s : State) (w : Fin 8) (r : Fin 32) (slot : BitVec 12) (d : Desc), s.fwUp = true → s.descOf (.ring r slot) = some d →
    s.given (.ring r slot) 0x0304 (fun d => descParam d 0x2C 1 == w.val) = true →
    ((s.ward w).mapped = true → Then (.defectMapRead w (.ring r slot)) s (·.finish (.ring r slot) St.ok) fun u => Frame [.hostRest] [] s u ∧
      u.host.written = (d.addr0.toNat, leBytes 192 (s.ward w).fuse ++ leBytes 192 (s.ward w).soft ++ leBytes 192 (s.ward w).effective)) ∧
    ((s.ward w).mapped = false → Then (.defectMapRead w (.ring r slot)) s (·.finish (.ring r slot) St.refusedState) (· = s))) ∧
  (∀ (s : State) (w : Fin 8) (r : Fin 32) (slot : BitVec 12) (d : Desc) (data : List (BitVec 32)), s.fwUp = true → s.shadow_ = false →
    s.descOf (.ring r slot) = some d → s.given (.ring r slot) 0x0302 (fun d => descParam d 0x2C 1 == w.val) = true →
    (s.linked w = true → s.secureShut w (descParam d 0x30 6) = false → (s.port w).reqs.length < 64 →
      Does (.wardReg w (.ring r slot) data) s fun t => Touches [.hostRest, .ports] [WPORT_STAT.outstanding] s t ∧
        ∃ q, (t.port w).reqs = (s.port w).reqs ++ [q] ∧ q.owner = .host r slot.toNat ∧ q.addr = descParam d 0x30 6 ∧
          q.count = descParam d 0x2E 1 ∧ q.read = (descParam d 0x2D 1 == 1) ∧ q.sends = 1 ∧ q.sentAt = s.bootUs) ∧
    (s.linked w = false → Then (.wardReg w (.ring r slot) data) s (·.complete r slot.toNat St.refusedState 0 0 false)
      (· = s.begin_ (.ring r slot)))) ∧
  (∀ (s : State) (r : Fin 32) (slot : BitVec 12) (lic : Licence), s.fwUp = true → s.given (.ring r slot) 0x0305 (fun _ => true) = true →
    (∀ c, s.licRefusal lic = some c →
      Then (.licenceInstall (.ring r slot) lic) s (·.finish (.ring r slot) c) fun u => Frame [.secure] [] s u ∧ u.wards = s.wards) ∧
    (s.licRefusal lic = none → Then (.licenceInstall (.ring r slot) lic) s (·.finish (.ring r slot) St.ok) fun u =>
      Touches [.wards, .secure, .msix, .burrow] recBits s u ∧ ∃ k, Tab.get none u.wards.licences k = some lic)) ∧
  (∀ (s : State) (b : Fin 16) (r : Fin 32) (slot : BitVec 12), s.fwUp = true →
    s.given (.ring r slot) 0x0402 (fun d => descParam d 0x2C 1 == b.val) = true →
    (s.shadow_ = false → Does (.leakClear b (.ring r slot)) s fun t => Frame [.hostRest, .settRest] [] s t ∧
      t = (s.begin_ (.ring r slot)).clearBranch b ∧
      ∀ n, s.branchEngine b = some n → t.setts.fwWrites = s.setts.fwWrites ++ [(privKey n 0x788, s.priv n 0x788 + 1)]) ∧
    (s.shadow_ = true → Then (.leakClear b (.ring r slot)) s (·.finish (.ring r slot) St.refusedState) (· = s)))

/-- Staging and committing (R436, R437, R451 to R453, R459, R460). A stage begins with its image's slot erased, or completes with the first refusal;
at its end an image that passes its checks makes its slot PENDING, one that fails leaves it EMPTY, a source that fails its check or holds an
uncorrectable word ends the stage with INTEGRITY, and another component enters the directory; a confirmation commits the trial's slot or the
live set; a trial of 120 s without one expires and selection runs. -/
def Obligations.StagingAndCommit : Prop :=
  (∀ (s : State) (r : Fin 32) (slot : BitVec 12) (part : Component) (room : Bool) (evict : List (BitVec 384)) (d : Desc), s.fwUp = true →
    s.given (.ring r slot) 0x0500 (fun d => descParam d 0x2C 1 == contentType part.content && d.len0 == part.length) = true →
    s.descOf (.ring r slot) = some d →
    (∀ c, s.stageRefusal (descParam d 0x2C 1) (descParam d 0x2D 1) room = some c →
      Then (.stageComponent (.ring r slot) part room evict) s (·.finish (.ring r slot) c) (· = s)) ∧
    (s.stageRefusal (descParam d 0x2C 1) (descParam d 0x2D 1) room = none →
      Does (.stageComponent (.ring r slot) part room evict) s fun t => Frame [.hostRest, .secure] [] s t ∧
        t.secure.staging = some { via := .ring r slot, part, type := descParam d 0x2C 1, target := descParam d 0x2D 1, since := s.bootUs } ∧
        (descParam d 0x2C 1 = 1 → t.slotOf (descParam d 0x2D 1 == 1) = {}) ∧
        (∀ c ∈ s.secure.store, s.protected_ c.digest = true ∨ c.digest ∉ evict → c ∈ t.secure.store))) ∧
  (∀ (s u : State) (g : Staging) (sourceOk : Bool), s.fwUp = true → s.secure.staging = some g →
    u = { s with secure := { s.secure with staging := none, cryptoAt := s.bootUs } } →
    (sourceOk = false ∨ s.windowBad g.via = true → Then (.stageDone sourceOk) s (·.finish g.via St.integrity 1) (· = u)) ∧
    (s.windowBad g.via = false →
      (g.type = 1 → u.stagedVerdict g.part = 4 ∨ u.stagedVerdict g.part = 5 ∨ u.stagedVerdict g.part = 6 →
        Then (.stageDone true) s (·.finish g.via St.badSignature) (· = u)) ∧
      (g.type = 1 → 0 < u.stagedVerdict g.part → u.stagedVerdict g.part < 4 ∨ 6 < u.stagedVerdict g.part →
        Then (.stageDone true) s (·.finish g.via St.incompatible (u.stagedVerdict g.part)) (· = u)) ∧
      (∀ l h k, g.type = 1 → g.part.content = .image l k → parseHeader l = some h → u.stagedVerdict g.part = 0 →
        Then (.stageDone true) s (·.stageOk g) fun v => Frame [.secure] [] s v ∧
          v.slotOf (g.target == 1) = { state := 1, image := some (g.part, h, k) } ∧ v.slotOf (g.target != 1) = s.slotOf (g.target != 1)) ∧
      (g.type ≠ 1 → Then (.stageDone true) s (·.stageOk g) fun v => Frame [.secure] [] s v ∧ g.part ∈ v.secure.store ∧
        v.secure.slotA = s.secure.slotA ∧ v.secure.slotB = s.secure.slotB))) ∧
  (∀ (s : State) (r : Fin 32) (slot : BitVec 12) (b : Bool), s.fwUp = true → s.given (.ring r slot) 0x0502 (fun _ => true) = true →
    (s.guarded = true → Then (.commitConfirm (.ring r slot)) s (·.finish (.ring r slot) St.refusedGuard) (· = s)) ∧
    (s.guarded = false → s.running? = some b → (s.slotOf b).state = 2 → (s.slotOf b).expired = false → s.handedWithin 10 = false →
      Then (.commitConfirm (.ring r slot)) s (·.finish (.ring r slot) St.ok) fun u => Touches [.secure, .msix, .burrow] recBits s u ∧
        (u.slotOf b).state = 3 ∧ (u.slotOf b).image = (s.slotOf b).image) ∧
    (s.guarded = false → s.running? = some b → (s.slotOf b).state = 2 → (s.slotOf b).expired = true ∨ s.handedWithin 10 = true →
      Then (.commitConfirm (.ring r slot)) s (·.finish (.ring r slot) St.refusedState) (· = s)) ∧
    (s.guarded = false → s.running? = some b → (s.slotOf b).state ≠ 2 → s.bit SEC_UPD.live_pending 0 = true →
      Then (.commitConfirm (.ring r slot)) s (·.finish (.ring r slot) St.ok) fun u =>
        Touches [.secure, .msix, .burrow] (SEC_UPD.live_pending :: recBits) s u ∧ u.rd SEC_UPD.live_pending 0 = 0 ∧
        u.slotOf b = { s.slotOf b with good := (s.slotOf b).active })) ∧
  (∀ (s : State) (b : Bool), s.alive = true → s.running? = some b → (s.slotOf b).state = 2 → s.part.pendingPor = none →
    s.secure.handedAt.isSome = true → s.handedWithin 120 = false → (s.slotOf b).expired = false →
    Does .trialExpiry s fun t => Touches [.secure, .msix, .burrow] recBits s t ∧ t.slotOf b = { s.slotOf b with expired := true } ∧
      t.secure.selecting = some 2)
/-- Activation of sets (R454, R457, R458, R492, R501, Tables 19-1 and 19-5). ACTIVATE_SET reads the manifest's bytes, arms a signed set that passes
the cross-check at a tick within 100 ms to an hour, after a live set's ward components are copied, cancels an armed one at tick 0, and
completes with the first refusal otherwise. At its tick an armed set is cancelled with its cause, or becomes the active set, or makes its slot
TRIAL before an application reset. -/
def Obligations.SetActivation : Prop :=
  (∀ (s s' : State) (r : Fin 32) (slot : BitVec 12) (d : Desc) (bytes : Signed) (models shadowOk : Bool) (t : Nat) (c : Instr) (v : Via),
    c = .activateSet v bytes models shadowOk → v = .ring r slot → s.fwUp = true → s.given v 0x0501 (fun _ => true) = true →
    s' = { s with secure := { s.secure with cryptoAt := s.bootUs } } → s.descOf v = some d → t = descParam d 0x2C 8 →
    (s.shadow_ = true → Then c s (·.finish v St.refusedState) (· = s')) ∧
    (s.shadow_ = false → t = 0 → s.secure.armed = none → Then c s (·.finish v St.refusedState) (· = s')) ∧
    (s.shadow_ = false → t = 0 → s.secure.armed ≠ none → Then c s (·.finish v St.ok) fun u => Frame [.secure, .twin] [] s u ∧
      u.secure.armed = none) ∧
    (s.shadow_ = false → t ≠ 0 →
      (s.secure.armed ≠ none → Then c s (·.finish v St.busy) (· = s')) ∧
      (s.secure.armed = none → parseManifest bytes = none → Then c s (·.finish v St.badDescriptor 8) (· = s')) ∧
      ∀ m, s.secure.armed = none → parseManifest bytes = some m →
        (s'.manifestSigned m = false → Then c s (·.finish v St.badSignature) (· = s')) ∧
        (s'.manifestSigned m = true →
          (s'.activateCheck m models shadowOk ≠ 0 →
            Then c s (·.finish v St.incompatible (s'.activateCheck m models shadowOk)) fun u =>
              Frame [.secure] [(SEC_UPD.last_check, 0)] s u ∧ u.rd SEC_UPD.last_check 0 = s'.activateCheck m models shadowOk % 256) ∧
          (s'.activateCheck m models shadowOk = 0 →
            (s'.guarded = true → Then c s (·.finish v St.refusedGuard) (· = s')) ∧
            (s'.guarded = false → s'.isLive m = false ∨ (∃ a, s.secure.set = some a ∧ changedParts a m = []) →
              (s.tickOk t = true →
                Does c s fun u => Touches [.hostRest, .secure, .twin, .msix, .burrow] (reqFlds ++ recBits) s u ∧
                  u.secure.armed =
                    some { set := m, at_ := t, full := !s'.isLive m, slot := (((imageEntry m).bind s'.slotWith).getD false).toNat }) ∧
              (s.tickOk t = false → Then c s (·.finish v St.refusedState) (· = s'))) ∧
            (∀ a, s'.guarded = false → s'.isLive m = true → s.secure.set = some a → changedParts a m ≠ [] →
              Does c s fun u => Frame [.hostRest, .secure] [] s u ∧ u.secure.copying = some (v, m, t) ∧
                u.secure.copyDue = changedParts a m ∧ u.secure.armed = none))))) ∧
  (∀ (s : State) (a : Armed), s.fwUp = true → s.secure.armed = some a →
    (s.tick < a.at_ → Does .activationTick s fun t => t = s) ∧
    (a.at_ ≤ s.tick → a.shadowAt = none →
      (∀ c, s.cancelCause a = some c → Does .activationTick s fun t => Touches [.secure, .twin, .msix, .burrow] recBits s t ∧
        t.secure.armed = none ∧ t.secure.set = s.secure.set) ∧
      (s.cancelCause a = none → a.full = false → Does .activationTick s fun t =>
        Touches [.secure, .wards, .twin, .msix, .burrow]
          ([SEC_UPD.live_pending, SEC_UPD.fallback, SEC_UPD.no_set, TWIN_STAT.set_match] ++ recBits) s t ∧
        t.secure.armed = none ∧ t.secure.set = some a.set ∧ t.rd SEC_UPD.live_pending 0 = 1) ∧
      (s.cancelCause a = none → a.full = true → s.leads = true → Does .activationTick s fun t => Frame [.secure] [] s t ∧
        t.secure.armed = some { a with shadowAt := some s.bootUs }) ∧
      (s.cancelCause a = none → a.full = true → s.leads = false → Then .activationTick s (·.appReset 0x09) fun u =>
        Touches [.secure, .wards, .msix, .burrow] recBits s u ∧ u.secure.armed = none ∧ (u.slotOf (a.slot == 1)).state = 2 ∧
        (u.slotOf (a.slot == 1)).active = some a.set ∧ (u.slotOf (a.slot == 1)).trials = 0)))
/-- Keys, tokens, evidence and the owner lock (R442 to R445, R466 to R469). A revocation that passes its checks sets its pair's fuse; a valid
token's rights are applied, each under its own rule, and a new challenge is drawn; a report is written unless debug is open; the owner
lock is set outside trials and armed sets and cleared by a token that carries the right. A refusal completes with its status and has no other
effect but the use of the signature engine. -/
def Obligations.TokensAndKeys : Prop :=
  (∀ (s s' : State) (r : Fin 32) (slot : BitVec 12) (d : Desc) (rv : Signed), s.fwUp = true →
    s' = { s with secure := { s.secure with cryptoAt := s.bootUs } } →
    s.given (.ring r slot) 0x0503 (fun _ => true) = true → s.descOf (.ring r slot) = some d →
    (∀ c n, s'.revokeRefusal (descParam d 0x2C 1) (descParam d 0x2D 1) rv = some (c, n) →
      Then (.revokeKey (.ring r slot) rv) s (·.finish (.ring r slot) c n) (· = s')) ∧
    (s'.revokeRefusal (descParam d 0x2C 1) (descParam d 0x2D 1) rv = none →
      Then (.revokeKey (.ring r slot) rv) s (·.finish (.ring r slot) St.ok) fun u => Touches [.secure, .msix, .burrow] recBits s u ∧
        u.secure.revoked = s.secure.revoked ||| 2 ^ (4 * descParam d 0x2C 1 + descParam d 0x2D 1))) ∧
  (∀ (s s' : State) (r : Fin 32) (slot : BitVec 12) (b : Signed), s.fwUp = true →
    s' = { s with secure := { s.secure with cryptoAt := s.bootUs } } → s.given (.ring r slot) 0x0504 (fun _ => true) = true →
    (∀ c, s'.tokenCheck b = .inr c →
      Then (.tokenSubmit (.ring r slot) b) s (·.finish (.ring r slot) c (if c = St.badDescriptor then 8 else 0)) (· = s')) ∧
    (∀ t, s'.tokenCheck b = .inl t → Then (.tokenSubmit (.ring r slot) b) s
      (·.finish (.ring r slot) (if (s'.useToken t 0 t.rights).2 = t.rights then St.ok else St.refusedState) 0 (s'.useToken t 0 t.rights).2 true)
      fun u => u.secure.draws = s.secure.draws + 1 ∧ (∀ k < 4, u.rd SEC_CHAL.word k = (Config.challenge u.secure.draws k).toNat) ∧
        (t.rights.testBit 3 = true → u.secure.ownerLock = false) ∧
        (t.rights.testBit 0 = true → (∀ w < 8, (s.ward w).state = 0 ∨ (s.ward w).state = 14) → u.rd SEC_LOCK.debug_open 0 = 1) ∧
        (t.rights.testBit 0 = false → u.rd SEC_LOCK.debug_open 0 = s.rd SEC_LOCK.debug_open 0))) ∧
  (∀ (s s' : State) (b : Signed), s.alive = true → 2 ≤ s.part.stage → s' = { s with secure := { s.secure with cryptoAt := s.bootUs } } →
    (∀ t, s'.tokenCheck b = .inl t → Does (.tapToken b) s fun u =>
      Touches [.ports, .wards, .secure, .msix, .burrow] ([WPORT_STAT.sec, SEC_LOCK.debug_open, SEC_CHAL.word] ++ recBits) s u ∧
      u.secure.draws = s.secure.draws + 1 ∧ u.secure.ownerLock = s.secure.ownerLock) ∧
    (∀ c, s'.tokenCheck b = .inr c → Does (.tapToken b) s fun u => u = s')) ∧
  (∀ (s s' : State) (r : Fin 32) (slot : BitVec 12) (d : Desc) (signed : List (BitVec 8)), s.fwUp = true →
    s' = { s with secure := { s.secure with cryptoAt := s.bootUs } } →
    s.given (.ring r slot) 0x0505 (fun _ => true) = true → s.descOf (.ring r slot) = some d →
    (s.bit SEC_LOCK.debug_open 0 = true →
      Then (.evidenceReport (.ring r slot) signed) s (·.finish (.ring r slot) St.refusedState) (· = s')) ∧
    (s.bit SEC_LOCK.debug_open 0 = false → descParam d 0x2C 16 ≠ 0 → Then (.evidenceReport (.ring r slot) signed) s
      (·.finish (.ring r slot) St.ok 0 3629 true) fun u => Frame [.hostRest, .secure] [] s u ∧
        u.host.written = (d.addr0.toNat, s.evidence (descParam d 0x2C 16) ++ signed.take 3373)) ∧
    (s.bit SEC_LOCK.debug_open 0 = false → descParam d 0x2C 16 = 0 → Then (.evidenceReport (.ring r slot) signed) s
      (·.finish (.ring r slot) St.ok 0 5421 true) fun u => Frame [.hostRest, .secure] [] s u ∧
        u.host.written = (d.addr0.toNat, s.certificate signed))) ∧
  (∀ (s s' : State) (r : Fin 32) (slot : BitVec 12) (b : Signed), s.fwUp = true →
    s' = { s with secure := { s.secure with cryptoAt := s.bootUs } } →
    (s.given (.ring r slot) 0x0506 (fun d => descParam d 0x2C 1 == 1) = true →
      (s.secure.armed ≠ none ∨ s.secure.slotA.state = 2 ∨ s.secure.slotB.state = 2 →
        Then (.ownerLockSet (.ring r slot)) s (·.finish (.ring r slot) St.refusedState) (· = s)) ∧
      (s.secure.armed = none → s.secure.slotA.state ≠ 2 → s.secure.slotB.state ≠ 2 →
        Then (.ownerLockSet (.ring r slot)) s (·.finish (.ring r slot) St.ok) fun u => Touches [.secure, .msix, .burrow] recBits s u ∧
          u.secure.ownerLock = true)) ∧
    (s.given (.ring r slot) 0x0506 (fun d => descParam d 0x2C 1 == 0) = true →
      (∀ c, s'.tokenCheck b = .inr c →
        Then (.ownerLockClear (.ring r slot) b) s (·.finish (.ring r slot) c (if c = St.badDescriptor then 8 else 0)) (· = s')) ∧
      ∀ t, s'.tokenCheck b = .inl t →
        (t.rights.testBit 3 = true → Then (.ownerLockClear (.ring r slot) b) s (·.finish (.ring r slot) St.ok) fun u =>
          Touches [.secure, .msix, .burrow] (SEC_CHAL.word :: recBits) s u ∧ u.secure.ownerLock = false ∧
          u.secure.draws = s.secure.draws + 1) ∧
        (t.rights.testBit 3 = false → Then (.ownerLockClear (.ring r slot) b) s (·.finish (.ring r slot) St.refusedState) (· = s'))))

/-- The flight recorder (R413 to R416, R418 to R420). At a segment boundary the header of the segment that ends is written and the next segment's
bytes are zero, and no other byte changes; in FROZEN the segment is counted as missed, and a release that is due returns to RECORDING. A trigger in
RECORDING starts POST with its tick and source, of those of one cycle the lowest source stands, and later ones are counted; the segment that holds
the end of the span freezes the recorder, and the RECORDER_FREEZE that waits completes. -/
def Obligations.Recorder : Prop :=
  (∀ s : State, s.coreUp = true → s.recorder.trained = true → s.recorder.segTick + 64 ≤ s.tick → s.lastSegment = false →
    (s.rd REC_STAT.state 0 ≤ 1 → s.segOffset s.recorder.segTick ≠ s.segOffset s.tick → Does .segmentComplete s fun t =>
      Frame [.hbm, .recorderRest] [] s t ∧ t.recorder.segTick = s.tick / 64 * 64 ∧ t.recorder.seq = s.recorder.seq + 1 ∧
      (∀ i < 64, t.hbmByte (s.segOffset s.recorder.segTick + i) = s.segHeader.getD i 0) ∧
      (∀ i < segBytes, t.hbmByte (s.segOffset s.tick + i) = 0) ∧
      ∀ a, a < s.segOffset s.recorder.segTick ∨ s.segOffset s.recorder.segTick + 64 ≤ a →
        a < s.segOffset s.tick ∨ s.segOffset s.tick + segBytes ≤ a → t.hbmByte a = s.hbmByte a) ∧
    (s.rd REC_STAT.state 0 = 2 → s.recorder.releaseDue = true → Does .segmentComplete s fun t =>
      Frame [.hbm, .recorderRest] [(REC_STAT.state, 0), (REC_MISSED.missed, 0)] s t ∧ t.rd REC_STAT.state 0 = 0 ∧
      t.rd REC_MISSED.missed 0 = min 4294967295 (s.rd REC_MISSED.missed 0 + 1) ∧ t.recorder.releaseDue = false) ∧
    (s.rd REC_STAT.state 0 = 2 → s.recorder.releaseDue = false → Does .segmentComplete s fun t =>
      Frame [.recorderRest] [(REC_MISSED.missed, 0)] s t ∧ t.rd REC_MISSED.missed 0 = min 4294967295 (s.rd REC_MISSED.missed 0 + 1) ∧
      t.recorder.segTick = s.tick / 64 * 64)) ∧
  (∀ s : State, s.fwUp = true →
    (s.rd REC_STAT.state 0 = 0 → Does .recTrigger s fun t =>
      Touches [.msix, .recorderRest, .burrow] ([REC_STAT.rule, REC_STAT.more, REC_STAT.src, REC_STAT.state, REC_TTICK.tick] ++ recBits) s t ∧
      t.rd REC_STAT.state 0 = 1 ∧ t.rd REC_STAT.src 0 = 1 ∧ t.rd REC_STAT.rule 0 = 0 ∧ t.rd REC_STAT.more 0 = 0 ∧
      t.rd REC_TTICK.tick 0 = s.tick % 2 ^ 64 ∧ t.recorder.post = s.rd REC_CTL.post_ms 0) ∧
    (s.sameTrigger = false → s.rd REC_STAT.state 0 = 1 ∨ s.rd REC_STAT.state 0 = 2 → Does .recTrigger s fun t =>
      Frame [] [(REC_STAT.more, 0)] s t ∧ t.rd REC_STAT.more 0 = min 255 (s.rd REC_STAT.more 0 + 1)) ∧
    (s.sameTrigger = true → 1 < s.rd REC_STAT.src 0 → Does .recTrigger s fun t =>
      Frame [.recorderRest] [(REC_STAT.rule, 0), (REC_STAT.src, 0)] s t ∧ t.rd REC_STAT.src 0 = 1 ∧
      t.recorder.post = s.rd REC_CTL.post_ms 0) ∧
    (s.sameTrigger = true → s.rd REC_STAT.src 0 ≤ 1 → Does .recTrigger s fun t => t = s) ∧
    (s.rd REC_STAT.state 0 = 3 → Does .recTrigger s fun t => t = s)) ∧
  (∀ s : State, s.coreUp = true → s.recorder.segTick + 64 ≤ s.tick → s.lastSegment = true →
    Then .postSpanEnd s (fun u => match s.recorder.freezer with
      | some (r, slot) => u.complete r slot St.ok 0 (s.rd REC_TTICK.tick 0 % 2 ^ 64 + 2 ^ 64 * s.segOffset (s.rd REC_TTICK.tick 0)) true
      | none => u) fun u => Touches [.msix, .hbm, .recorderRest, .burrow] (REC_STAT.state :: recBits) s u ∧ u.rd REC_STAT.state 0 = 2 ∧
        u.recorder.freezer = none ∧ u.recorder.seq = s.recorder.seq + 1)
/-- Memory integrity (R421 to R426). The word code corrects any one bad symbol and detects any two. What a scrub finds good stays; a corrected word
is counted and written back, but not in the recorder region; an uncorrectable one is counted, recorded, and held in MEM_UNCA while that holds none,
and where tray firmware would read it there follows an application reset with cause 0x06; a sett's word stays bad. A flash sector with more than
four corrected bits is refreshed and recorded, and each hour the stacks above the threshold are recorded. -/
def Obligations.MemoryIntegrity : Prop :=
  (∀ (s : State) (m : Nat) (scrub : Bool) (a : Nat), m < 8 →
    Touches [] [MEM_ECC.uncorr, MEM_UNCA.address, MEM_UNCA.scrub, MEM_UNCA.src, MEM_UNCA.valid] s (s.memUncorr m scrub a) ∧
    (s.memUncorr m scrub a).rd MEM_ECC.uncorr m = min 65535 (s.rd MEM_ECC.uncorr m + 1) ∧ (s.memUncorr m scrub a).rd MEM_UNCA.valid 0 = 1 ∧
    (s.bit MEM_UNCA.valid 0 = true → (s.memUncorr m scrub a).rd MEM_UNCA.address 0 = s.rd MEM_UNCA.address 0) ∧
    (s.bit MEM_UNCA.valid 0 = false → (s.memUncorr m scrub a).rd MEM_UNCA.address 0 = a % 2 ^ 40 ∧
      (s.memUncorr m scrub a).rd MEM_UNCA.src 0 = m ∧ (s.memUncorr m scrub a).rd MEM_UNCA.scrub 0 = scrub.toNat)) ∧
  (∀ (p q : Nat) (e f : BitVec 8), p < 35 → q < 35 → p ≠ q → e ≠ 0 → f ≠ 0 →
    readBad ((e.setWidth 280 : CodeWord) <<< symbolAt p) = (.corrected, 0) ∧
    (readBad ((e.setWidth 280 : CodeWord) <<< symbolAt p ^^^ (f.setWidth 280 : CodeWord) <<< symbolAt q)).1 = .uncorrectable) ∧
  (∀ (s u : State) (offset : BitVec 36) (bad : CodeWord) (a m : Nat), s.coreUp = true → s.bit DEV_STAT.mem_active 0 = true →
    a = offset.toNat → (s.region a).isSome = true → m = s.stackOf a → u = s.hbmUpset a bad →
    ((u.hbmFound a).1 = .good → Does (.hbmScrub offset bad) s (· = u)) ∧
    ((u.hbmFound a).1 = .corrected → Does (.hbmScrub offset bad) s fun t => Frame [.hbm, .recorderRest] [(MEM_ECC.corr, m)] s t ∧
      t.rd MEM_ECC.corr m = min 65535 (s.rd MEM_ECC.corr m + 1) ∧
      (s.region a = some .recorder ∨ s.region a = some .eventRing → t.recorder.hbm = s.recorder.hbm) ∧
      (s.region a ≠ some .recorder → s.region a ≠ some .eventRing → (t.hbmFound a).1 = .good)) ∧
    ((u.hbmFound a).1 = .uncorrectable → s.region a ≠ some .working ∨ s.fwUp = false →
      Records (.hbmScrub offset bad) s Ev.INT_HBM_UNCORR Src.memory [a, 1] (· = u.memUncorr m true a)) ∧
    ((u.hbmFound a).1 = .uncorrectable → s.region a = some .working → s.fwUp = true → Then (.hbmScrub offset bad) s (·.appReset 0x06)
      (· = (u.memUncorr m true a).record Ev.INT_APP_UNCORR Src.firmware [m, a]))) ∧
  (∀ (s u : State) (sett : Fin 40) (w : BitVec 12) (bad : CodeWord) (k : Nat), s.settUp = true → s.settOn sett = true →
    k = sett.val * 32768 + 8 * w.toNat →
    u = { s with setts := { s.setts with sharedBad := Tab.upd 0 s.setts.sharedBad (k / 8) (· ^^^ bad) } } →
    (u.shFound k = .good → Does (.sharedMemoryScrub sett w bad) s (· = u)) ∧
    (u.shFound k = .corrected → Does (.sharedMemoryScrub sett w bad) s fun t =>
      Frame [.sharedMemory, .settRest] [(MEM_ECC.corr, 5)] s t ∧ t.shFound k = .good ∧ ∀ i < 8, t.shWord (k + i) = u.shRead (k + i)) ∧
    (u.shFound k = .uncorrectable → Records (.sharedMemoryScrub sett w bad) s Ev.INT_SETT_UNCORR Src.setts [sett, w.toNat * 32] fun v =>
      Touches [.settRest] [MEM_ECC.uncorr, MEM_UNCA.address, MEM_UNCA.scrub, MEM_UNCA.src, MEM_UNCA.valid] s v ∧
      ∀ i < 8, v.shBad (k + i) = true)) ∧
  (∀ (s : State) (addr : BitVec 32) (bad : CodeWord), s.coreUp = true → 3 ≤ s.part.stage →
    ((readBad bad).1 = .good → Does (.l2Scrub addr bad) s (fun t => t = s)) ∧
    ((readBad bad).1 = .corrected → Does (.l2Scrub addr bad) s (fun t => Frame [] [(MEM_ECC.corr, 4)] s t)) ∧
    ((readBad bad).1 = .uncorrectable → s.fwUp = true → Then (.l2Scrub addr bad) s (·.appReset 0x06)
      (· = (s.memUncorr 4 true addr.toNat).record Ev.INT_APP_UNCORR Src.firmware [4, addr.toNat])) ∧
    ((readBad bad).1 = .uncorrectable → s.fwUp = false → Does (.l2Scrub addr bad) s fun t => t = s.memUncorr 4 true addr.toNat)) ∧
  (∀ (s : State) (region sector : BitVec 16) (n : BitVec 8), s.alive = true → 2 ≤ s.part.stage →
    (n.toNat ≤ 4 → Does (.flashScrub region sector (.corrected n)) s fun t => Frame [] [(MEM_ECC.corr, 7)] s t ∧
      t.rd MEM_ECC.corr 7 = (if n = 0 then s.rd MEM_ECC.corr 7 else min 65535 (s.rd MEM_ECC.corr 7 + 1))) ∧
    (4 < n.toNat → Records (.flashScrub region sector (.corrected n)) s Ev.INT_FLASH_REFRESH Src.memory [region.toNat, sector.toNat] fun u =>
      Frame [] [(MEM_ECC.corr, 7)] s u) ∧
    Records (.flashScrub region sector .uncorrectable) s Ev.INT_FLASH_UNCORR Src.memory [region.toNat, sector.toNat]
      (· = s.memUncorr 7 true (sector.toNat * 512))) ∧
  (∀ s : State, s.coreUp = true → s.recorder.hourAt + 3600000000 ≤ s.bootUs →
    (Does .corrRateHour s fun t => Touches [.msix, .recorderRest, .burrow] recBits s t ∧ t.recorder.corrHour = [] ∧
      t.recorder.hourAt = s.bootUs ∧ ((∀ e ∈ s.recorder.corrHour, e.2 ≤ s.rd MEM_SCRUB.corr_th 0) → Frame [.recorderRest] [] s t)) ∧
    ∀ k n, s.recorder.corrHour.filter (fun e => decide (s.rd MEM_SCRUB.corr_th 0 < e.2)) = [(k, n)] →
      Records .corrRateHour s Ev.INT_HBM_CORR_RATE Src.memory [k, n] (Frame [.recorderRest] [] s))
/-- What recording an event does (R472, R474, R478, R479). A record touches nothing but the burrow's paths, counts and the event interrupt. On the
flash path it takes a token, a priority one waits for a token, and any other without a token or with an open entry is counted there; the mirror
takes it with the next mirror sequence, counts it, or loses it. While a cycle is decided records wait; at its end they enter both paths by
ascending source and then by ascending code (R525). -/
def Obligations.RecordingAnEvent : Prop :=
  ∀ (s t : State) (code source : Nat) (data : List Nat) (r : Rec), r = s.mkRec code source data → t = s.record code source data →
    Frame recBlocks recFlds s t ∧
    (∀ l, s.burrow.batch = some l → t = { s with burrow := { s.burrow with batch := some (l ++ [r]) } }) ∧
    (∀ (f : State → State) (l : List Rec), s.burrow.batch = none →
      (f { s with burrow := { s.burrow with batch := some [] } }).burrow.batch = some l →
      ∃ l' : List Rec, l'.Perm l ∧ l'.Pairwise (fun a b => b.before a = false) ∧
        s.inOneCycle f = l'.foldl State.offer
          { f { s with burrow := { s.burrow with batch := some [] } } with
            burrow := { (f { s with burrow := { s.burrow with batch := some [] } }).burrow with batch := none } }) ∧
    (s.burrow.batch = none →
    (0 < s.burrow.flashPath.tokens → r.priority = true ∨ s.burrow.flashPath.hasEntry r = false →
      t.burrow.flight = s.burrow.flight ++ [r] ∧ t.burrow.flashPath.tokens = s.burrow.flashPath.tokens - 1) ∧
    (s.burrow.flashPath.tokens = 0 → r.priority = true → s.burrow.prio.length < 256 → t.burrow.prio = s.burrow.prio ++ [r]) ∧
    (r.priority = false → s.burrow.flashPath.tokens = 0 ∨ s.burrow.flashPath.hasEntry r = true →
      t.burrow.flight = s.burrow.flight ∧ t.rd BRW_COALF.count 0 = min 4294967295 (s.rd BRW_COALF.count 0 + 1)) ∧
    (s.mirrorOn = false → t.rd BRW_LOST.mirror_lost 0 = min 4294967295 (s.rd BRW_LOST.mirror_lost 0 + 1) ∧ t.burrow.mirror = s.burrow.mirror) ∧
    (s.mirrorOn = true → s.burrow.mirrorPath.hasEntry r = false → 0 < s.burrow.mirrorPath.tokens →
      t.burrow.mirror.getLast? = some { r with seq := s.rd BRW_MSEQ.seq 0 } ∧ t.rd BRW_MSEQ.seq 0 = (s.rd BRW_MSEQ.seq 0 + 1) % 2 ^ 64) ∧
    (s.mirrorOn = true → s.burrow.mirrorPath.hasEntry r = true ∨ s.burrow.mirrorPath.tokens = 0 →
      t.burrow.mirror = s.burrow.mirror ∧ t.rd BRW_COALM.count 0 = min 4294967295 (s.rd BRW_COALM.count 0 + 1)))
/-- The burrow's commands (R473, R474, R476 to R479). A commit gives the oldest record in flight the next sequence number; a token is added up to
its bucket's size, or taken at once by the oldest priority record or else by a count record that is due; a count record of an entry that is due
carries its count and its first and last times and takes a token; an entry with nothing uncounted closes after a second; operating seconds advance
by one. -/
def Obligations.BurrowCommands : Prop :=
  (∀ (s : State) (r : Rec) (l : List Rec), s.alive = true → 2 ≤ s.part.stage → s.burrow.halt = false → s.burrow.flight = r :: l →
    Does .flashCommitDone s fun t => Touches [.msix, .hostRest, .burrow] reqFlds s t ∧ t.burrow.nextSeq = s.burrow.nextSeq + 1 ∧
      t.burrow.flight = l ∧ t.burrow.flash.getLast? = some { r with seq := s.burrow.nextSeq } ∧
      (r.code ≠ Ev.HOST_TIME_ANCHOR → Frame [.burrow] [] s t)) ∧
  (∀ (s : State) (r : Rec) (l : List Rec) (e : Coal), s.alive = true →
    (s.burrow.mirrorPath.refillAt + 50 ≤ s.bootUs →
      (s.mirrorOn = false ∨ s.burrow.mirrorPath.open_.find? s.countDue = none → Does (.tokenRefill true) s fun t => Frame [.burrow] [] s t ∧
        t.burrow = { s.burrow with
          mirrorPath := { s.burrow.mirrorPath with tokens := min 256 (s.burrow.mirrorPath.tokens + 1), refillAt := s.bootUs } }) ∧
      (s.mirrorOn = true → s.burrow.mirrorPath.open_.find? s.countDue = some e → Does (.tokenRefill true) s fun t =>
        Frame [.burrow] [(BRW_MSEQ.seq, 0)] s t ∧ t.burrow.mirrorPath.tokens = s.burrow.mirrorPath.tokens ∧
        t.burrow.mirror.getLast? = some { e.counts (s.mkRec e.code e.source []) with seq := s.rd BRW_MSEQ.seq 0 })) ∧
    (s.burrow.flashPath.refillAt + 500 ≤ s.bootUs →
      (s.burrow.prio = [] → s.burrow.flashPath.open_.find? s.countDue = none → Does (.tokenRefill false) s fun t => Frame [.burrow] [] s t ∧
        t.burrow = { s.burrow with
          flashPath := { s.burrow.flashPath with tokens := min 64 (s.burrow.flashPath.tokens + 1), refillAt := s.bootUs } }) ∧
      (s.burrow.prio = [] → s.burrow.flashPath.open_.find? s.countDue = some e → Does (.tokenRefill false) s fun t => Frame [.burrow] [] s t ∧
        t.burrow.flight = s.burrow.flight ++ [e.counts (s.mkRec e.code e.source [])] ∧
        t.burrow.flashPath.tokens = s.burrow.flashPath.tokens) ∧
      (s.burrow.prio = r :: l → Does (.tokenRefill false) s fun t => Frame [.burrow] [] s t ∧
        t.burrow.prio = l ∧ t.burrow.flight = s.burrow.flight ++ [r] ∧ t.burrow.flashPath.tokens = s.burrow.flashPath.tokens ∧
        t.burrow.flashPath.refillAt = s.bootUs))) ∧
  (∀ (s : State) (mirror : Bool) (code source : BitVec 16) (e : Coal), s.alive = true →
    (s.path mirror).entry code.toNat source.toNat = some e →
    (0 < (s.path mirror).tokens → mirror = false → s.countDue e = true →
      Does (.countRecordDue mirror code source) s fun t => Frame [.burrow] [] s t ∧
        t.burrow.flight = s.burrow.flight ++ [e.counts (s.mkRec e.code e.source [])] ∧
        t.burrow.flashPath.tokens = s.burrow.flashPath.tokens - 1) ∧
    (0 < (s.path mirror).tokens → mirror = true → s.mirrorOn = true → s.countDue e = true →
      Does (.countRecordDue mirror code source) s fun t => Frame [.burrow] [(BRW_MSEQ.seq, 0)] s t ∧
        t.burrow.mirror.getLast? = some { e.counts (s.mkRec e.code e.source []) with seq := s.rd BRW_MSEQ.seq 0 } ∧
        t.burrow.mirrorPath.tokens = s.burrow.mirrorPath.tokens - 1) ∧
    (s.countDue e = true ↔ e.since + 100000 ≤ s.bootUs ∧ 0 < e.count) ∧
    (e.lastAt + 1000000 ≤ s.bootUs → e.count = 0 → Does (.entryClose mirror code source) s fun t => Frame [.burrow] [] s t ∧
      (t.path mirror).entry code.toNat source.toNat = none ∧ (t.path mirror).tokens = (s.path mirror).tokens) ∧
    (s.bootUs < e.lastAt + 1000000 ∨ 0 < e.count → Does (.entryClose mirror code source) s fun t => t = s)) ∧
  (∀ s : State, s.part.vaoLow = false → Does .operatingSecond s fun t => Frame [.burrow] [] s t ∧
    t.burrow = { s.burrow with opSeconds := (s.burrow.opSeconds + 1) % 2 ^ 40 })

/-- Twin links and time (R485 to R490, R494, R495, Table 21-1). A HELLO notes the peer and the link, and settles the roles by the row of Table 21-1
that applies; of two that have driven their groups none joins. A shadow without a lead takes over after the wait; a TICK is kept; the first
measurement after a join steps the tray tick to the lead's, later ones are kept and align within 100 ns; 500 µs without one lose the alignment.
A takeover makes this T840 lead, not joined, and is counted. -/
def Obligations.TwinJoinAndTime : Prop :=
  (∀ (s : State) (peer : TwinPeer) (a : TwinAdopt) (lanes : Fin 4), s.twinLink = true →
    Does (.twinHello peer a lanes) s (fun t => t.rd TWIN_STAT.link 0 = 1 ∧ t.rd TWIN_STAT.lanes 0 = lanes.val + 1 ∧
      t.twin.peer = some peer ∧ t.twin.frameAt = s.bootUs) ∧
    (s.bit TWIN_STAT.joined 0 = true ∨ s.twin.alone = true → Does (.twinHello peer a lanes) s fun t =>
      Touches [.twin, .msix, .burrow] ([TWIN_STAT.link, TWIN_STAT.lanes, TWIN_STAT.set_match] ++ recBits) s t) ∧
    (s.bit TWIN_STAT.joined 0 = false → s.twin.alone = false → ∀ row role, s.arbitrate peer = some (row, role) →
      (role ≠ 0 → Does (.twinHello peer a lanes) s fun t => t.rd TWIN_STAT.role 0 = role ∧ t.rd DEV_STAT.role 0 = role ∧
        t.rd TWIN_STAT.joined 0 = 1 ∧ t.twin.nextSeq = 0 ∧ t.twin.lastSeq = 0 ∧ t.twin.mirrors = [] ∧ t.twin.unacked = []) ∧
      (role = 0 → Does (.twinHello peer a lanes) s fun t => t.twin.alone = true ∧ t.rd TWIN_STAT.joined 0 = 0 ∧
        t.rd TWIN_STAT.role 0 = s.rd TWIN_STAT.role 0))) ∧
  (∀ (s : State) (from_ : Nat), s.twinned = true → s.fwUp = true → s.shadow_ = true → s.bit TWIN_STAT.joined 0 = false →
    s.twin.fwAt = some from_ → from_ + s.rd TWIN_CTL.join 0 * 100000 ≤ s.bootUs → Does .joinTimeout s fun t => t = s.takeover 2) ∧
  (∀ (s : State) (cause : Nat), (s.takeover cause).rd TWIN_STAT.role 0 = 1 ∧ (s.takeover cause).rd DEV_STAT.role 0 = 1 ∧
    (s.takeover cause).rd TWIN_STAT.joined 0 = 0 ∧ (s.takeover cause).rd TWIN_STAT.aligned 0 = 0 ∧
    (s.takeover cause).rd TWIN_STAT.takeovers 0 = min (2 ^ TWIN_STAT.takeovers.width - 1) (s.rd TWIN_STAT.takeovers 0 + 1)) ∧
  (∀ (s : State) (tick : BitVec 64), s.twinLink = true → s.shadow_ = true → s.bit TWIN_STAT.joined 0 = true →
    Does (.tickFrame tick) s fun t => Frame [.twin] [] s t ∧
      t.twin = { s.twin with leadTick := tick.toNat, frameAt := s.bootUs }) ∧
  (∀ (s : State) (t1 t2 t3 t4 : BitVec 64) (o : Int), s.twinLink = true → s.bit TWIN_STAT.joined 0 = true →
    o = ((t2.toNat : Int) - t1.toNat) + ((t3.toNat : Int) - t4.toNat) →
    (s.shadow_ = false → Does (.echoExchange t1 t2 t3 t4) s fun t => Frame [.twin] [] s t ∧ t.twin = { s.twin with frameAt := s.bootUs }) ∧
    (s.shadow_ = true → s.twin.stepped = true → Does (.echoExchange t1 t2 t3 t4) s fun t =>
      Frame [.twin] [(TWIN_SKEW.last, 0), (TWIN_SKEW.largest, 0), (TWIN_STAT.aligned, 0)] s t ∧ t.twin.echoAt = some s.bootUs ∧
      t.twin.skew = o ∧ t.twin.slew = openQuot o 2 ∧
      t.rd TWIN_STAT.aligned 0 = (if o.natAbs ≤ 80 then 1 else s.rd TWIN_STAT.aligned 0)) ∧
    (s.shadow_ = true → s.twin.stepped = false → Does (.echoExchange t1 t2 t3 t4) s fun t =>
      Touches [.tick, .twin, .msix, .burrow] ([TWIN_SKEW.last, TWIN_SKEW.largest, TWIN_STAT.aligned, TWIN_OFFSET.offset] ++ recBits) s t ∧
      t.tick = ((s.tick : Int) + o / 800).toNat ∧ t.rd TWIN_STAT.aligned 0 = 1 ∧ t.twin.stepped = true ∧ t.twin.slew = 0 ∧
      t.rd TWIN_OFFSET.offset 0 = low 64 ((t.tick : Int) - s.bootUs))) ∧
  (∀ (s : State) (from_ : Nat), s.twinned = true → s.shadow_ = true → s.bit TWIN_STAT.aligned 0 = true → s.twin.echoAt = some from_ →
    from_ + 500 ≤ s.bootUs → Records .echoTimeout s Ev.TWIN_TICK_LOST Src.twin [skewNs s.twin.skew] fun u =>
      Frame [] [(TWIN_STAT.aligned, 0)] s u ∧ u.rd TWIN_STAT.aligned 0 = 0)
/-- Twin frames and silence (R486, R491, R492, R494, R497, R501). A checkpoint waits for its object where the sets match; a CMD is applied in the
order of sequences and a repeated one only acknowledged; a CACK ends its resending; HANDOVER and full silence make the shadow take over, silence of
one path is recorded, and a lead whose peer is silent is no longer joined. A lead activates its full set once the shadow has rejoined with it, or
cancels it after 300 s. -/
def Obligations.TwinCommands : Prop :=
  (∀ (s : State) (c : Checkpoint), s.twinLink = true → s.shadow_ = true → s.bit TWIN_STAT.joined 0 = true →
    (s.bit TWIN_STAT.set_match 0 = true → Does (.mirror c) s fun t => Frame [.twin] [] s t ∧ t.twin =
      { s.twin with frameAt := s.bootUs, mirrors := (s.twin.mirrors.filter fun x => x.obj != c.obj) ++ [c] }) ∧
    (s.bit TWIN_STAT.set_match 0 = false → Does (.mirror c) s fun t => Frame [.twin] [] s t ∧ t.twin = { s.twin with frameAt := s.bootUs })) ∧
  (∀ (s : State) (seq : BitVec 16) (c : TwinCmd) (held : Option Signed), s.twinLink = true → s.bit TWIN_STAT.joined 0 = true →
    (seq.toNat = s.twin.lastSeq → Then (.twinCommand seq c held) s (·.applyCmd c (held.bind parseManifest)) fun u => Frame [.twin] [] s u ∧
      u.twin = { s.twin with frameAt := s.bootUs, lastSeq := (s.twin.lastSeq + 1) % 65536, ackOut := some seq.toNat }) ∧
    (seq.toNat ≠ s.twin.lastSeq → s.twin.lastSeq < 65536 → Does (.twinCommand seq c held) s fun t => Frame [.twin] [] s t ∧
      t.twin = { s.twin with
        frameAt := s.bootUs
        ackOut := if (s.twin.lastSeq + 65536 - seq.toNat) % 65536 ≤ 32768 then some seq.toNat else s.twin.ackOut }) ∧
    (∀ w st att, c = .ward w st att → seq.toNat = s.twin.lastSeq → s.shadow_ = true → Does (.twinCommand seq c held) s fun t =>
      Frame [.twin, .wards] [] s t ∧ (t.ward w).state = st.toNat ∧ (t.ward w).attempts = att.toNat) ∧
    (∀ w code, c = .floor w code → seq.toNat = s.twin.lastSeq → s.shadow_ = true → Does (.twinCommand seq c held) s fun t =>
      Touches [.twin, .harps, .msix, .burrow] ([HARP_WCTL.floor, HARP_WSTAT.code, HARP_WUPS.ups] ++ recBits) s t ∧
      t.rd HARP_WCTL.floor w = code.toNat) ∧
    (c = .cancel → seq.toNat = s.twin.lastSeq → Does (.twinCommand seq c held) s fun t =>
      Touches [.twin, .secure, .msix, .burrow] recBits s t ∧ t.secure.armed = none)) ∧
  (∀ (s : State) (seq : BitVec 16), s.twinLink = true → s.bit TWIN_STAT.joined 0 = true →
    Does (.twinCack seq) s (fun t => Frame [.twin] [] s t ∧ t.twin =
      { s.twin with frameAt := s.bootUs, unacked := s.twin.unacked.filter fun e => e.1 != seq.toNat }) ∧
    Does (.cmdResend seq) s (fun t => Frame [.twin] [] s t ∧ t.twin =
      { s.twin with unacked := s.twin.unacked.map fun e => if e.1 = seq.toNat ∧ e.2.2 + 2 ≤ s.bootUs then (e.1, e.2.1, s.bootUs) else e }) ∧
    (s.shadow_ = true → seq.toNat = s.twin.lastSeq → Does (.handover seq) s fun t => t = (s.takeCmd seq.toNat).takeover 1)) ∧
  (∀ (s : State) (n : Nat), s.twinned = true → s.settUp = true → s.bit TWIN_STAT.joined 0 = true → n = s.rd TWIN_CTL.silence 0 →
    (s.shadow_ = true → s.twin.frameAt + n ≤ s.bootUs → s.twin.edgeAt + n ≤ s.bootUs →
      Does .twinSilence s fun t => t = ((s.wr TWIN_STAT.link 0 0).wr TWIN_STAT.lanes 0 0).takeover 0) ∧
    (s.shadow_ = true → s.twin.frameAt + n ≤ s.bootUs → s.bootUs < s.twin.edgeAt + n → s.bit TWIN_STAT.link 0 = true →
      Records .twinSilence s Ev.TWIN_LINK_DOWN Src.twin [s.rd TWIN_STAT.lanes 0] fun u =>
        Frame [] [(TWIN_STAT.link, 0), (TWIN_STAT.lanes, 0)] s u ∧ u.rd TWIN_STAT.link 0 = 0) ∧
    (s.shadow_ = true → s.bootUs < s.twin.frameAt + n → s.twin.edgeAt + n ≤ s.bootUs → s.twin.alvLost = false →
      Records .twinSilence s Ev.TWIN_ALV_LOST Src.twin [s.bootUs - s.twin.edgeAt] fun u => Frame [.twin] [] s u ∧ u.twin.alvLost = true) ∧
    (s.shadow_ = false → s.twin.frameAt + n ≤ s.bootUs → s.bootUs < s.twin.edgeAt + n →
      Does .twinSilence s fun t => Frame [] [(TWIN_STAT.link, 0), (TWIN_STAT.lanes, 0)] s t ∧ t.rd TWIN_STAT.link 0 = 0) ∧
    (s.shadow_ = false → s.twin.frameAt + n ≤ s.bootUs → s.twin.edgeAt + n ≤ s.bootUs →
      Records .twinSilence s Ev.TWIN_PEER_LOST Src.twin [s.bootUs - max s.twin.frameAt s.twin.edgeAt] fun u =>
        Frame [.twin] [(TWIN_STAT.link, 0), (TWIN_STAT.lanes, 0), (TWIN_STAT.joined, 0)] s u ∧ u.rd TWIN_STAT.joined 0 = 0 ∧
        u.twin.unacked = [])) ∧
  (∀ (s : State) (a : Armed) (since : Nat), s.fwUp = true → s.secure.armed = some a → a.full = true → a.shadowAt = some since →
    (s.leads = true → s.twin.peer.map (·.setSeq) = some a.set.setSeq →
      Then .leadActivation s (·.appReset 0x09) fun u => u = s.activateFull a) ∧
    (s.rd TWIN_STAT.role 0 = 1 → since + 300000000 ≤ s.bootUs → Does .twinActivationTimeout s fun t =>
      Touches [.secure, .twin, .msix, .burrow] recBits s t ∧ t.secure.armed = none ∧ t.secure.set = s.secure.set))
/-- Writes of registers without a row of their own (R2, R8, R9, R254, R300, R502). A field takes its value where the register is present and up, its
lock is open and the value is in range; every other field of the register stays; a write to an absent register or tier has no effect, nor has one
that would cross v_min and v_max; a lock bit written 1 stands, where the write is not ignored whole. In BAR0 each ring pair has its doorbells and its
block of 64 bytes, and an address that the tables do not name reads zero (R393). -/
def Obligations.RegisterWrites : Prop :=
  (∀ (s : State) (reg : Reg) (ix : BitVec 15) (v : BitVec 64), s.tierUp reg.tier = true → ix.toNat < reg.count → s.absentReg reg = false →
    reg.ownRow = false → Does (.registerWrite reg ix v) s fun t =>
      (∀ f ∈ reg.fields, s.takes ix.toNat v.toNat f = true → f.acc = .rw ∨ f.acc = .rwl → f.min ≤ f.of v.toNat → f.of v.toNat ≤ f.max →
        t.rd f ix.toNat = f.of v.toNat) ∧
      (∀ f ∈ reg.fields, f.acc = .rw ∨ f.acc = .rwl → s.takes ix.toNat v.toNat f = false ∨ f.of v.toNat < f.min ∨ f.max < f.of v.toNat →
        t.rd f ix.toNat = s.rd f ix.toNat) ∧
      (∀ f ∈ reg.fields, f.acc = .w1s → f.of v.toNat = 1 → s.takes ix.toNat v.toNat f = true → t.rd f ix.toNat = 1) ∧
      (reg ∉ [.SETT_ENG_STAT, .SNS_MTR_CFG, .RFX_ACT, .HARP_WCTL, .FAN_OCFG, .FAN_ZIN, .FAN_ZPT, .FAN_FCFG, .WPORT_LSCFG] →
        Touches [] reg.fields s t)) ∧
  (∀ (s : State) (w : Fin 8) (ix : BitVec 15) (v : BitVec 64), ix.toNat = w.val → s.avsCrossed w v.toNat = true →
    Does (.registerWrite .HARP_AVSCFG ix v) s fun t => t = s) ∧
  (∀ (s : State) (reg : Reg) (ix : BitVec 15) (v : BitVec 64),
    s.tierUp reg.tier = false ∨ reg.count ≤ ix.toNat ∨ s.absentReg reg = true ∨ reg.ownRow = true →
    Does (.registerWrite reg ix v) s fun t => t = s) ∧
  (∀ (s : State) (reg : Reg) (ix : BitVec 15) (v : BitVec 64), reg.lockRow = true → s.tierUp reg.tier = true → ix.toNat < reg.count →
    s.absentReg reg = false → reg ≠ .HARP_AVSCFG ∨ s.avsCrossed ix.toNat (v ||| 0x80000000#64).toNat = false →
    Does (.registerLock reg ix v) s fun t => ∀ f ∈ reg.fields, f.acc = .w1s → f.lo = 31 → t.rd f ix.toNat = 1) ∧
  (∀ (s : State) (f g : Fld) (i j v : Nat), f.reg.lockOf i = some (g, j) → s.bit g j = true → f.acc = .rwl → s.takes i v f = false) ∧
  (∀ r < 32, bar0Reg (0x1000 + 8 * r) = some (.DB_SQ, r, 0) ∧ bar0Reg (0x1004 + 8 * r) = some (.DB_CQ, r, 0) ∧
    ∀ off < 0x40, bar0Reg (0x2000 + 0x40 * r + off) = (ringReg off).map fun e => (e.1, r, e.2)) ∧
  (∀ (s : State) (a : Nat), 0x1100 ≤ a ∧ a < 0x2000 ∨ 0x2800 ≤ a ∧ a < 0x4000 ∨ 0x5000 ≤ a → s.bar0Read a = 0)

/-- Power-on resets (R22, R29, R33, R55, R58, R62, R63, R68, R154, Tables 2-7 to 2-9, 3-4). A reset clears every register, the tray tick and every
domain, and keeps flash, fuses and the queue; the release of PORST# samples the straps, and the cause, role, threshold, zone inputs and points
follow them; a reset by the T840 itself starts with its cause. While PORST# is low no output pin is driven (Table 2-7). With TESTEN high at the
release no statement of the spec holds, and the T840 stops. -/
def Obligations.PowerOnResets : Prop :=
  (∀ (s c : State) (powered : Bool), c = s.cleared powered → (∀ f i, c.rd f i = State.reset.rd f i) ∧ c.tick = 0 ∧ c.bootUs = 0 ∧
    c.setts = {} ∧ c.feed = {} ∧ c.harps = [] ∧ c.ports = [] ∧ c.pending = s.pending ∧ c.secure.slotA = s.secure.slotA ∧
    c.secure.slotB = s.secure.slotB ∧ c.secure.revoked = s.secure.revoked ∧ c.wards.licences = s.wards.licences ∧
    (powered = true → s.burrow.halt = false → c.burrow.prio = s.burrow.prio ∧ ∀ r ∈ s.burrow.flight, r ∈ c.burrow.flight)) ∧
  (∀ (s : State) (cause : Nat), cause < 256 → (s.powerOnReset cause).rd RST_CAUSE.last_cause 0 = cause ∧ (s.powerOnReset cause).part.stage = 1 ∧
    (s.powerOnReset cause).tick = 0 ∧ (s.powerOnReset cause).part.straps = s.part.straps ∧ (s.powerOnReset cause).setts = {}) ∧
  (∀ s : State, s.part.held = false → Does (.porstAssert false) s fun t => t.part.held = true ∧ ∀ f i, t.rd f i = State.reset.rd f i) ∧
  (∀ (s : State) (tcrit : BitVec 3) (tchan twinRole : BitVec 2) (bootHold : Bool) (fandef : BitVec 2) (xspiMode : Bool) (c : Bool → Instr),
    (∀ testen, c testen = .porstRelease tcrit tchan twinRole bootHold fandef xspiMode testen) → s.part.held = true →
    exec (c true) s = .fault .productionTest ∧
    (s.part.vaoLow = false → Does (c false) s fun t =>
      Touches [.part, .sense, .zither, .cooling, .msix, .burrow]
        ([RST_CAUSE.last_cause, HARP_GSTAT.obj_excl, FAN_ZPT.duty, FAN_ZPT.temp, FAN_ZIN.sel, FAN_CRIT.threshold, DEV_STAT.role,
          TWIN_STAT.role, SNS_CHCFG.enable, SNS_CALSTAT.pass_busy, SNS_CHSTAT.cal_busy, FAN_ZSTAT.level, FAN_ZSTAT.sensor_fail,
          FAN_ZSTAT.t_duty, FAN_ZSTAT.tbl_err] ++ driveFlds ++ recBits) s t ∧
      t.part.held = false ∧ t.part.stage = 1 ∧ t.rd RST_CAUSE.last_cause 0 = 1 ∧
      t.part.straps = { tcrit := tcrit.toNat, tchan := tchan.toNat, twinRole := twinRole.toNat, bootHold, fandef := fandef.toNat, xspiMode } ∧
      t.rd FAN_CRIT.threshold 0 = 95 + 5 * tcrit.toNat ∧ (∀ z < 4, t.rd FAN_ZIN.sel z = 3 * 2 ^ (8 * tchan.toNat)) ∧
      t.rd DEV_STAT.role 0 = (if twinRole = 3 ∨ s.part.variant = .qc then 0 else twinRole.toNat) ∧
      (∀ z < 4, ∀ k < 8, t.rd FAN_ZPT.duty (8 * z + k) = fandefDuty fandef.toNat k) ∧
      t.rd SNS_CHCFG.enable (256 + 8 * tchan.toNat) = 1 ∧ t.rd SNS_CHCFG.enable (257 + 8 * tchan.toNat) = 1 ∧
      (∀ g < 16, (t.zgrp g).dwellEnd = s.tick + s.rd ZIT_GCTL.t_off_min g * 1000) ∧
      t.burrow.powerCycles = min 16777215 (s.burrow.powerCycles + 1)) ∧
    (s.part.vaoLow = true → Does (c false) s fun t => Frame [.part] [] s t ∧ t.part.held = false)) ∧
  (∀ (s : State) (cause : Nat), s.alive = true → s.allGroupsDown = true → s.part.pendingPor = some cause →
    s.leads = false ∨ s.coreUp = false ∨ s.bit TWIN_STAT.link 0 = false ∨ s.twin.handover = true →
    Does .pendingPowerOnReset s fun t => t = s.powerOnReset cause) ∧
  (∀ (s u : State), s.part.vsettLost = true → u = { s with part := { s.part with vsettLost := false } } →
    (s.alive = true → Does .vsettReturn s fun t => t = u.powerOnReset 0x03) ∧ (s.alive = false → Does .vsettReturn s fun t => t = u)) ∧
  (∀ s : State, s.part.vaoLow = false → Does .vaoBrownout s fun t => t.part.vaoLow = true ∧ ∀ f i, t.rd f i = State.reset.rd f i) ∧
  (∀ s : State, s.part.vaoLow = true → s.part.held = false → Does .vaoReturn s fun t => t.part.vaoLow = false ∧ t.part.stage = 1 ∧
    t.rd RST_CAUSE.last_cause 0 = 2) ∧
  (∀ s : State, s.part.vaoLow = true → s.part.held = true → Does .vaoReturn s fun t => Frame [.part] [] s t ∧ t.part.vaoLow = false) ∧
  (∀ s : State, s.alive = false → (∀ n, s.enPad n = .released) ∧ (∀ w, s.harpPads w = none) ∧ (∀ b, s.gatePad b = .released) ∧
    s.ghsPad = .released ∧ s.dischPad = .released ∧ (∀ o, s.fanPad o = none) ∧ (∀ b, s.valvePad b = .released) ∧
    (∀ b, s.lsoffPad b = .released) ∧ s.shutdownPad = .released ∧ s.alvPad = .released ∧ s.uartTxPad = .released ∧ s.xspiPort = .released ∧
    s.cxlPort = .idle ∧ s.tdoDriven = false)
/-- Start-up (R394, R410, R411, R416, R429, R434, R439, R440, R462, R473). Stage 2 restores the operating seconds, draws a challenge and, with a good
Cub, makes selection due, or makes the T840 inert; selection shows each slot's verdict, hands over to the slot it chooses, or at a power-on
reset with none goes inert; core 0's release starts tray firmware, which declares READY; the memory becomes active when every stack
trains. -/
def Obligations.StartUp : Prop :=
  (∀ s : State, s.alive = true → s.part.stage = 1 →
    Does (.stage2Start .matched) s (fun t => t.part.stage = 2 ∧ t.secure.selecting = some 0 ∧ 
      t.burrow.opSeconds = (s.burrow.opSeconds + s.burrow.persistOp) % 2 ^ 40 ∧
      t.secure.draws = s.secure.draws + 1 ∧ t.secure.stage2At = s.bootUs) ∧
    Does (.stage2Start .digest) s (fun t => t.rd SEC_BOOT.inert 0 = 1 ∧ t.rd DEV_STAT.mode 0 = 3 ∧ t.rd SEC_BOOT.slot 0 = 0 ∧
      t.rd SEC_LOCK.seed 0 = 1 ∧ t.rd SEC_LOCK.fuse_raw 0 = 1)) ∧
  (∀ (s : State) (mismatch : BitVec 8) (badA badB : Bool) (m : Nat), s.alive = true → s.secure.selecting = some m →
    Then (.imageSelection mismatch badA badB) s (·.select m badA badB) fun u =>
      Touches [.secure, .msix, .burrow] ([SEC_BOOT.cub_ms, SEC_BOOT.hold] ++ recBits) s u ∧
      (m = 0 → u.rd SEC_BOOT.cub_ms 0 = min 65535 ((s.bootUs - s.secure.stage2At) / 1000)) ∧
      u.secure.mismatch = mismatch.toNat ∧ u.secure.selecting = none ∧ u.secure.slotA = s.secure.slotA) ∧
  (∀ (s : State) (badA badB : Bool) (va vb : Nat), va = s.verdict badA s.secure.slotA → vb = s.verdict badB s.secure.slotB →
    (s.select 0 badA badB).rd SEC_SLOTA.verdict 0 = va % 2 ^ SEC_SLOTA.verdict.width ∧
    (s.select 0 badA badB).rd SEC_SLOTB.verdict 0 = vb % 2 ^ SEC_SLOTB.verdict.width ∧
    (s.chosen va vb = none → (s.select 0 badA badB).rd SEC_BOOT.inert 0 = 1 ∧ (s.select 0 badA badB).rd DEV_STAT.mode 0 = 3) ∧
    (∀ b, s.chosen va vb = some b → (s.select 0 badA badB).rd SEC_BOOT.slot 0 = b.toNat + 1 ∧
      (s.part.straps.bootHold = true → (s.select 0 badA badB).rd DEV_STAT.mode 0 = 4) ∧
      (s.part.straps.bootHold = false → (s.select 0 badA badB).secure.handing = true ∧
        ((s.slotOf b).state = 2 → ((s.select 0 badA badB).slotOf b).trials = (s.slotOf b).trials + 1)))) ∧
  (∀ s : State, s.coreUp = true → s.secure.handing = true → Does .core0Release s fun t =>
    Touches ([.part, .secure] ++ wardBlocks) ([FW_BUILD.major, FW_BUILD.minor, FW_BUILD.patch, SEC_UPD.no_set, SEC_UPD.fallback,
      SEC_UPD.last_check] ++ wardFlds) s t ∧
    t.part.halted = false ∧ 3 ≤ t.part.stage ∧ t.secure.handing = false ∧ t.secure.handedAt = some s.bootUs) ∧
  (∀ s : State, s.fwUp = true → s.rd DEV_STAT.mode 0 = 0 ∨ s.rd DEV_STAT.mode 0 = 2 → Does .firmwareReady s fun t =>
    Frame [.msix] [(DEV_STAT.mode, 0), (INT_CAUSE.ready, 0)] s t ∧ t.rd DEV_STAT.mode 0 = 1 ∧ t.rd INT_CAUSE.ready 0 = 1) ∧
  (∀ (s : State) (failed : BitVec 4), s.coreUp = true → 3 ≤ s.part.stage → s.part.straps.bootHold = false → s.recorder.trained = false →
    s.recorder.trainFailed = false →
    ((∀ k < s.stacks, failed.getLsbD k = false) → Does (.hbmTrainingEnd failed) s fun t =>
      Touches [.msix, .hbm, .recorderRest, .burrow] ([DEV_STAT.mem_active, REC_STAT.rule, REC_STAT.more, REC_STAT.src, REC_STAT.state, REC_TTICK.tick,
        REC_MISSED.missed] ++ recBits) s t ∧
      t.recorder.trained = true ∧ t.rd DEV_STAT.mem_active 0 = 1 ∧ t.rd REC_STAT.state 0 = 0 ∧ t.recorder.seq = 0 ∧ t.burrow.mirror = []) ∧
    ((∃ k < s.stacks, failed.getLsbD k = true) → Does (.hbmTrainingEnd failed) s fun t => Touches [.recorderRest, .msix, .burrow] recBits s t ∧
      t.recorder.trainFailed = true))
/-- Application resets (R56 to R59, R61, R279, R402, Tables 3-4 and 3-7). An application reset halts tray firmware, shows RESTARTING with its cause
counted, disables every ring pair, ends staging, and makes selection due unless a power-on reset is pending; the channels, setts, sequences,
feeds, arbiter and cooling run on untouched. A watchdog lapse first sends every zone to FALLBACK. -/
def Obligations.ApplicationResets : Prop :=
  (∀ (s t : State) (cause : Nat), t = s.appReset cause →
    (∀ b ∈ [Block.pending, .tick, .bootUs, .sense, .engines, .sharedMemory, .settRest, .zither, .feed, .harps, .cooling, .lasers, .hbm, .twin],
      b.same s t) ∧
    t.part.halted = true ∧ t.rd DEV_STAT.mode 0 = 2 ∧ t.rd RST_CAUSE.last_cause 0 = cause % 256 ∧
    t.rd RST_CAUSE.app_resets 0 = min 255 (s.rd RST_CAUSE.app_resets 0 + 1) ∧ t.rd INT_CAUSE.restarting 0 = 1 ∧ t.secure.staging = none ∧
    t.secure.selecting = (if s.part.pendingPor.isSome then none else some 1) ∧ (∀ r < 32, t.rd RING_STAT.state r = 0) ∧
    ∀ e ∈ t.host.subs, 32 ≤ e.2.pair) ∧
  (∀ s : State, s.fwUp = true → Does .applicationReset s fun t => t = s.appReset 0x06) ∧
  (∀ s : State, s.alive = true → s.part.halted = false → s.part.refreshAt + s.part.watchdogUs ≤ s.bootUs →
    Then .watchdogLapse s (·.appReset 0x05) fun u => Touches [.cooling, .msix, .burrow] ([FAN_ZSTAT.fallback, FAN_ZSTAT.fb_cause] ++ driveFlds ++ recBits) s u ∧
    ∀ z < 4, u.rd FAN_ZSTAT.fallback z = 1 ∧ (s.bit FAN_ZSTAT.fallback z = false → u.rd FAN_ZSTAT.fb_cause z = 2)) ∧
  (∀ (s t : State), s.part.vcoreLost = true → t = { s with part := { s.part with vcoreLost := false } } →
    (s.alive = false → Does .vcoreReturn s fun u => u = t) ∧
    (s.alive = true → s.recorder.trained = false → Does .vcoreReturn s fun u => u = t.appReset 0x07) ∧
    (s.alive = true → s.recorder.trained = true → Does .vcoreReturn s fun u => u.part.vcoreLost = false ∧ u.rd RST_CAUSE.last_cause 0 = 7 ∧
      u.rd DEV_STAT.mem_active 0 = 1 ∧ u.rd REC_STAT.state 0 = 0))
/-- Clocks, supplies and the CXL link (R52, R53, R60 to R62, R388, R390, R516). The loss of XTAL brings every powered ward group down with cause 7;
the loss of VCORE ends memory, recorder, Marten, rings and ports, that of VSETT the sense fabric, setts and arbiter, with every zone in FALLBACK; no
domain is on without the supply of its stage, and those that do not switch stay on; CXL_PERST# or a lost link is a CXL reset, and a link that trains
narrow raises its interrupt. -/
def Obligations.SuppliesAndLinks : Prop :=
  (∀ s : State, s.alive = true → s.bit RST_CAUSE.xtal_fallback 0 = false → Does .xtalLoss s fun t =>
    Touches [.zither, .msix, .burrow, .twin] ([RST_CAUSE.xtal_fallback, ZIT_GSTAT.abort_cause, ZIT_GSTAT.state, ZIT_GTICK.tick] ++ recBits) s t ∧
    t.rd RST_CAUSE.xtal_fallback 0 = 1 ∧
    ∀ g < 8, s.gstate g = 1 ∨ s.gstate g = 2 → t.rd ZIT_GSTAT.abort_cause g = 7) ∧
  (∀ s : State, s.alive = true → s.part.xtal32kLost = false → Records .xtal32kLoss s Ev.IMG_XTAL32K_LOST Src.security [] fun u =>
    Frame [.part] [] s u ∧ u.part = { s.part with xtal32kLost := true }) ∧
  (∀ s : State, s.alive = true → s.part.vcoreLost = false → Does .vcoreLoss s fun t =>
    (∀ b ∈ [Block.pending, .tick, .bootUs, .sense, .sharedMemory, .settRest, .zither, .feed, .harps, .cooling, .lasers, .twin], b.same s t) ∧
    t.part.vcoreLost = true ∧ t.rd DEV_STAT.mem_active 0 = 0 ∧ t.rd REC_STAT.state 0 = 3 ∧ t.marten = {} ∧ t.burrow.mirror = [] ∧
    t.recorder.hbm = [] ∧ (∀ p < 8, t.pstate p = 0) ∧ ∀ r < 32, t.rd RING_STAT.state r = 0) ∧
  (∀ s : State, s.alive = true → s.part.vsettLost = false → Does .vsettLoss s fun t =>
    (∀ b ∈ [Block.pending, .tick, .bootUs, .feed, .marten, .hostRest, .ports, .lasers, .wards, .hbm, .recorderRest, .secure, .twin], b.same s t) ∧
    t.part.vsettLost = true ∧ t.setts = { trueRules := s.setts.trueRules, activeRules := s.setts.activeRules } ∧
    t.sense = {} ∧ t.harps = [] ∧ ∀ z < 4, t.rd FAN_ZSTAT.fallback z = 1) ∧
  (∀ s : State, s.alive = false → (s.part.vcoreLost = false → Does .vcoreLoss s fun t => Frame [.part] [] s t ∧ t.part.vcoreLost = true) ∧
    (s.part.vsettLost = false → Does .vsettLoss s fun t => Frame [.part] [] s t ∧ t.part.vsettLost = true)) ∧
  (∀ s : State, (s.alive = false → ∀ d, s.domainOn d = false) ∧
    (s.alive = true → s.coreUp = true → s.settUp = true → 3 ≤ s.part.stage → s.part.straps.bootHold = false →
      ∀ d, neverOff d = true → d ∉ s.sense.off → s.domainOn d = true)) ∧
  (∀ s : State, s.part.perstLow = false →
    (s.alive = true → Does .cxlPerstAssert s fun t => t.part.perstLow = true ∧ t.host.decoder = false ∧ t.host.linkUp = false ∧
      (∀ e ∈ t.host.subs, 32 ≤ e.2.pair) ∧ ∀ r < 32, t.rd RING_STAT.state r = 0 ∧ t.rd SQ_HEAD.index r = 0 ∧ (t.pair r).out = []) ∧
    (s.alive = false → Does .cxlPerstAssert s fun t => Frame [.part, .hostRest] [] s t ∧ t.part.perstLow = true)) ∧
  (∀ s : State, s.part.perstLow = true → Does .cxlPerstRelease s fun t => Frame [.part] [] s t ∧ t.part = { s.part with perstLow := false }) ∧
  (∀ (s : State) (cause : BitVec 8), s.alive = true → s.host.linkUp = true → Does (.cxlLinkDown cause) s fun t =>
    t.host.linkUp = false ∧ t.host.decoder = s.host.decoder ∧ ∀ r < 32, t.rd RING_STAT.state r = 0 ∧ (t.pair r).out = []) ∧
  (∀ (s : State) (rate width : BitVec 8), s.hostUp = true → s.host.linkUp = false →
    (16 ≤ width.toNat → 64 ≤ rate.toNat → Records (.linkL0 rate width) s Ev.HOST_LINK_UP Src.hostIf [rate.toNat, width.toNat] fun u =>
      Frame [.hostRest] [] s u ∧ u.host = { s.host with linkUp := true, rate := rate.toNat, width := width.toNat }) ∧
    (width.toNat < 16 ∨ rate.toNat < 64 → Does (.linkL0 rate width) s fun t =>
      Touches [.msix, .hostRest, .burrow] (INT_CAUSE.link_narrow :: recBits) s t ∧ t.host.linkUp = true ∧
      t.rd INT_CAUSE.link_narrow 0 = 1)) ∧
  (∀ (s : State) (bus : Fin 2), s.fwUp = true → s.shadow_ = false → Does (.pmbusAlert bus) s fun t => Frame [.part] [] s t ∧
    Tab.get 0 t.part.alerts bus = Tab.get 0 s.part.alerts bus + 1)

/-- A step takes the command at the front of the queue and executes it on the state with the queue's rest; with no command waiting the T840
idles. The rows of the command table have no bits, so no word spells a command. The queue, the idling and the commands' form are the
model's (log entries 1 and 2). -/
def Obligations.BlockStep : Prop :=
  (∀ (c : Instr) (rest : List Instr) (s : State), s.pending = c :: rest → step s = exec c { s with pending := rest }) ∧
  (∀ (c : Instr) (s : State), step { s with pending := c :: s.pending } = exec c s) ∧
  (∀ s : State, s.pending = [] → step s = .next s) ∧
  (∀ (s : State) (nbits w : Nat), decodeTableWord nbits w = none ∧ s.withFetchWord nbits w = s)
/-- After reset every register field reads its reset value; the memories are in their canonical form and no command waits; every engine is IDLE with
its registers and timers zero, and its budget is that of its sett's period; shared memory reads zero and the mailbox is empty; every sequencer group
is in DWELL, every ward port DISABLED, every ring pair DISABLED, every ward OFF and the fixed channels alone are enabled; the fallback duties are
100 %, the critical threshold is 95 °C and the tick period 2 half-microseconds. -/
def Obligations.ResetState : Prop :=
  MemWf State.reset ∧ (∀ (f : Fld) (i : Nat), State.reset.rd f i = f.dfltAt i) ∧ State.reset.pending = [] ∧ State.reset.tick = 0 ∧
  (∀ n, (State.reset.engine n).state = .idle ∧ (∀ r, (State.reset.engine n).reg r = 0) ∧ (∀ t, (State.reset.engine n).timer t = 0) ∧
    State.reset.budget n = 200 * SETT_CTL.period.dfltAt n) ∧
  (∀ k, State.reset.shWord k = 0) ∧ State.reset.setts.mailbox = [] ∧ (∀ g, State.reset.gstate g = 4) ∧ (∀ p, State.reset.pstate p = 0) ∧
  (∀ r, State.reset.rd RING_STAT.state r = 0) ∧ State.reset.rd FAN_CRIT.threshold 0 = 95 ∧ (∀ z, State.reset.rd FAN_ZPT.duty z = 100) ∧
  (∀ w, (State.reset.ward w).state = 0) ∧ (∀ k, State.reset.rd SETT_CTL.period k = 2) ∧
  ∀ c < 304, State.reset.rd SNS_CHCFG.enable c = if fixedChannels.contains c then 1 else 0
/-- Every command completes on every state and every operand, but PORST_RELEASE with TESTEN high while PORST# is low, which stops (R29): the
T840 has no exception, and what does not fit its state has no effect. So complete XTAL_LOSS, XTAL32K_LOSS, VCORE_LOSS, VSETT_LOSS,
CXL_PERST_ASSERT, CXL_LINK_DOWN, LINK_L0 and all the other forms, whose own effects the statements of their families give. No command touches
the queue: what waits behind a command is what waited before it. Where no records wait for the end of a cycle none wait after a command, and
none wait after reset (the queue and the waiting records are the model's, log entries 1 and 93). -/
def Obligations.QueueUntouched : Prop :=
  (∀ (c : Instr) (s : State), (∀ tcrit tchan role hold fandef xspi, c = .porstRelease tcrit tchan role hold fandef xspi true → s.part.held = false) →
    ∃ t, exec c s = .next t ∧ t.pending = s.pending ∧ (s.burrow.batch = none → t.burrow.batch = none)) ∧
  (∀ (s : State) (tcrit : BitVec 3) (tchan role : BitVec 2) (hold : Bool) (fandef : BitVec 2) (xspi : Bool), s.part.held = true →
    exec (.porstRelease tcrit tchan role hold fandef xspi true) s = .fault .productionTest) ∧
  State.reset.burrow.batch = none
/-- Every step keeps the memories' canonical form: shared memory and in-package memory list addresses strictly rising and no zero, and the
register bank lists its fields strictly rising. -/
def Obligations.MemoryInvariant : Prop :=
  ∀ s t : State, MemWf s → step s = .next t → MemWf t
/-- Every loop-engine instruction is what its word decodes to, with every operand at every value; and a word that decodes to an instruction is that
instruction's word, but in the fields of WPR, JAL, JR, JMP, BTX and BST that the tables neither use nor reserve, so no reserved bit is dropped (R138,
R139, Tables 6-3 and 6-4; that those fields may hold anything is the model's reading, log entry 5). -/
def Obligations.EngineEncoding : Prop :=
  (∀ i : EngOp, decodeOp (encodeOp i) = some i) ∧ ∀ (w : Word) (i : EngOp), decodeOp w = some i → encodeOp i = w &&& i.used
/-- Words written out from Tables 6-3 and 6-4: addi g1, g0, 1; ldh g1, 0xFFFE; ori g1, g1, 0x8000; flt g4, g2, g6; rd g2, s2, 1; wr s4, g11;
tseti tm0, 100; btx tm2, 36; evt 0x01F0, g1, g4; yld. The opcode 0x15 is reserved, and so is bit 13 of an ADD. -/
def Obligations.EngineWords : Prop :=
  decodeOp 0b011000_0001_0000_000000000000000001#32 = some (.addi 1 0 1) ∧
  decodeOp 0b011111_0001_0000_001111111111111110#32 = some (.ldh 1 0xFFFE) ∧
  decodeOp 0b011010_0001_0001_001000000000000000#32 = some (.ori 1 1 0x8000) ∧
  decodeOp 0b001101_0100_0010_0110_00000000000000#32 = some (.flt 4 2 6) ∧
  decodeOp 0b101000_0010_0000_0010_0001_0000000000#32 = some (.rd 2 2 1) ∧
  decodeOp 0b101001_0000_1011_0100_0000_0000000000#32 = some (.wr 4 11) ∧
  decodeOp 0b110001_0000_0000_000000000001100100#32 = some (.tseti 0 100) ∧
  decodeOp 0b111101_0010_0000_00000000_0000100100#32 = some (.btx 2 36) ∧
  decodeOp 0b101011_0001_0100_00_0000000111110000#32 = some (.evt 0x01F0 1 4) ∧
  decodeOp 0b111111_00000000000000000000000000#32 = some .yld ∧
  decodeOp 0b010101_00000000000000000000000000#32 = none ∧
  decodeOp 0b000001_0001_0010_0011_10000000000000#32 = none
/-- Faults of a loop engine (R111, R138, R139, R147, R148). A reserved word, bad parity of the fetch or a fetch beyond the code faults whatever
the command names, with cause 3, or 2 for parity; so does a read of a register with bad parity, with cause 2. A fault stops the engine, restores
the registers and private words of the start of the tick, discards queue and buffer, and ENG_FAULT tells engine, object and cause. A command that
names another instruction than the engine's next has no effect (the model's choice, log entry 4). -/
def Obligations.EngineFaults : Prop :=
  (∀ (s : State) (n : Fin 1280) (op : EngOp), s.ticking n = true → (s.engine n).used < s.budget (n / 32) →
    ((s.engine n).fetch.1 = none → Does (op.command n) s (· = s.engFault n (s.engine n).fetch.2) ∧
      (s.engine n).fetch.2 = if (s.engine n).pc < (s.engine n).codeEnd ∧ (s.engine n).badWords.contains (s.engine n).pc = true then 2 else 3) ∧
    ((s.engine n).fetch.1 = some op → (s.engine n).used + op.cycles ≤ s.budget (n / 32) → op.reads.any (s.engine n).badRegs.contains = true →
      Does (op.command n) s (· = s.engFault n 2)) ∧
    (∀ i, (s.engine n).fetch.1 = some i → i ≠ op → Does (op.command n) s (· = s))) ∧
  (∀ (s : State) (n : Fin 1280) (cause : Nat), ∃ u, s.engFault n cause = u.record Ev.ENG_FAULT (s.engine n).obj [n.val, (s.engine n).obj, cause] ∧
    Touches [.engines, .sharedMemory, .settRest] [] s u ∧ (u.engine n).state = .faulted ∧ (u.engine n).cause = cause ∧
    (u.engine n).regs = (s.engine n).start ∧ (u.engine n).queue = [] ∧ (u.engine n).stores = [] ∧ (u.engine n).inTick = false ∧
    (∀ m, m ≠ n.val → u.engine m = s.engine m) ∧
    (∀ e ∈ (s.engine n).undo, (∀ d ∈ (s.engine n).undo, d.1 = e.1 → d.2 = e.2) → u.shWord e.1 = e.2) ∧
    ∀ k, (∀ e ∈ (s.engine n).undo, e.1 ≠ k) → u.shWord k = s.shWord k)
/-- An engine's instruction leaves every other engine and everything outside its private area alone (the introduction of chapter 6, R130, R137,
R147). Of an instruction other than YLD, whatever becomes of it: no other engine changes, no word of shared memory outside its private area, and
nothing of the T840 but the records and the error registers of an uncorrectable word. -/
def Obligations.EngineIsolation : Prop :=
  ∀ (s t : State) (n : Fin 1280) (op : EngOp), op ≠ .yld → (∀ e ∈ (s.engine n).undo, inPrivate n e.1) →
    exec (op.command n) s = .next t →
    Touches [.engines, .sharedMemory, .settRest, .msix, .burrow]
      ([MEM_ECC.uncorr, MEM_UNCA.address, MEM_UNCA.scrub, MEM_UNCA.src, MEM_UNCA.valid] ++ recBits) s t ∧
    (∀ m, m ≠ n.val → t.engine m = s.engine m) ∧ (∀ k, ¬ inPrivate n k → t.shWord k = s.shWord k) ∧
    (t.engine n).imem = (s.engine n).imem ∧ (t.engine n).binds = (s.engine n).binds ∧ (t.engine n).obj = (s.engine n).obj ∧
    (∀ e ∈ (t.engine n).undo, inPrivate n e.1)
/-- What a sett refuses to change (R102, R118): its period while one of its engines is RUNNING, FAULTED or MIGRATING; a second migration while
one is busy, which only sets the lost bit and leaves the migration under way as it was. -/
def Obligations.SettGuards : Prop :=
  (∀ (s : State) (k : Fin 40) (v : BitVec 8) (n : Nat), n / 32 = k.val → (s.engine n).state ∈ [EngState.running, .faulted, .migrating] →
    Does (.periodWrite k v) s (· = s)) ∧
  (∀ (s : State) (src dst : BitVec 11), s.settUp = true → s.bit SETT_MIGSTAT.busy 0 = true → Does (.migrationGo src dst) s fun t =>
    Frame [] [(SETT_MIGCMD.src, 0), (SETT_MIGCMD.dst, 0), (SETT_MIGSTAT.lost, 0)] s t ∧ t.rd SETT_MIGSTAT.lost 0 = 1 ∧ t.setts = s.setts)
end

