-- ==== Sys2Proof/Laws/Tab.lean ====
section
/-!
SUPPORT. The laws of sparse tables: a read after a write, and the canonical form that every write keeps.
-/
namespace Sys2Proof.Machine

@[simp] theorem Tab.get_del_same {α : Type} (d : α) (t : Tab α) (k : Nat) : Tab.get d (Tab.del t k) k = d := by
  induction t with
  | nil => rfl
  | cons e t ih =>
    by_cases h : e.1 = k
    · simp [Tab.del, h, ih]
    · simp [Tab.del, Tab.get, h, ih]

theorem Tab.get_del_ne {α : Type} (d : α) (t : Tab α) {j k : Nat} (h : j ≠ k) : Tab.get d (Tab.del t j) k = Tab.get d t k := by
  induction t with
  | nil => rfl
  | cons e t ih =>
    by_cases hj : e.1 = j
    · have : e.1 ≠ k := fun hk => h (hj.symm.trans hk)
      simp [Tab.del, Tab.get, hj, ih, h]
    · simp [Tab.del, Tab.get, hj, ih]

theorem Tab.get_ins_ne {α : Type} (d v : α) (t : Tab α) {j k : Nat} (h : j ≠ k) : Tab.get d (Tab.ins t j v) k = Tab.get d t k := by
  induction t with
  | nil => simp [Tab.ins, Tab.get, h]
  | cons e t ih =>
    by_cases hj : j < e.1
    · simp [Tab.ins, Tab.get, hj, h]
    · simp [Tab.ins, Tab.get, hj, ih]

theorem Tab.get_ins_del {α : Type} (d v : α) (t : Tab α) (k : Nat) : Tab.get d (Tab.ins (Tab.del t k) k v) k = v := by
  induction t with
  | nil => simp [Tab.del, Tab.ins, Tab.get]
  | cons e t ih =>
    by_cases h : e.1 = k
    · simpa [Tab.del, h] using ih
    · by_cases hj : k < e.1
      · simp [Tab.del, h, Tab.ins, Tab.get, hj]
      · simp [Tab.del, h, Tab.ins, Tab.get, hj, ih]

/-- A read gives the value last written. -/
@[simp] theorem Tab.get_set_same {α : Type} [DecidableEq α] (d : α) (t : Tab α) (k : Nat) (v : α) :
    Tab.get d (Tab.set d t k v) k = v := by
  unfold Tab.set
  split
  · simp [*]
  · exact Tab.get_ins_del d v t k

/-- A write leaves every other number alone, whatever default it is read with. -/
theorem Tab.get_set_ne {α : Type} [DecidableEq α] (d d' : α) (t : Tab α) {j k : Nat} (v : α) (h : j ≠ k) :
    Tab.get d (Tab.set d' t j v) k = Tab.get d t k := by
  unfold Tab.set
  split
  · exact Tab.get_del_ne d t h
  · rw [Tab.get_ins_ne d v _ h, Tab.get_del_ne d t h]

/-- A read after a write, by cases on the number. -/
theorem Tab.get_set {α : Type} [DecidableEq α] (d : α) (t : Tab α) (j k : Nat) (v : α) :
    Tab.get d (Tab.set d t j v) k = if j = k then v else Tab.get d t k := by
  split
  · rename_i h; subst h; simp
  · rename_i h; exact Tab.get_set_ne d d t v h

@[simp] theorem Tab.get_upd_same {α : Type} [DecidableEq α] (d : α) (t : Tab α) (k : Nat) (f : α → α) :
    Tab.get d (Tab.upd d t k f) k = f (Tab.get d t k) := Tab.get_set_same d t k _

theorem Tab.get_upd_ne {α : Type} [DecidableEq α] (d : α) (t : Tab α) {j k : Nat} (f : α → α) (h : j ≠ k) :
    Tab.get d (Tab.upd d t j f) k = Tab.get d t k := Tab.get_set_ne d d t _ h

theorem Tab.sortedFrom_mono {α : Type} (t : Tab α) {a b : Nat} (h : a ≤ b) (ht : Tab.sortedFrom t b = true) : Tab.sortedFrom t a = true := by
  cases t with
  | nil => rfl
  | cons e t => simp only [Tab.sortedFrom, Bool.and_eq_true, decide_eq_true_eq] at ht ⊢; exact ⟨Nat.le_trans h ht.1, ht.2⟩

theorem Tab.sortedFrom_del {α : Type} (t : Tab α) (k : Nat) {a : Nat} (h : Tab.sortedFrom t a = true) : Tab.sortedFrom (Tab.del t k) a = true := by
  induction t generalizing a with
  | nil => rfl
  | cons e t ih =>
    simp only [Tab.sortedFrom, Bool.and_eq_true, decide_eq_true_eq] at h
    by_cases hk : e.1 = k
    · simp only [Tab.del, hk, ↓reduceIte]
      exact ih (Tab.sortedFrom_mono t (by omega) h.2)
    · simp only [Tab.del, hk, ↓reduceIte, Tab.sortedFrom, Bool.and_eq_true, decide_eq_true_eq]
      exact ⟨h.1, ih h.2⟩

theorem Tab.sortedFrom_ins_del {α : Type} (t : Tab α) (k : Nat) (v : α) {a : Nat} (hk : a ≤ k) (h : Tab.sortedFrom t a = true) :
    Tab.sortedFrom (Tab.ins (Tab.del t k) k v) a = true := by
  induction t generalizing a with
  | nil => simp [Tab.del, Tab.ins, Tab.sortedFrom, hk]
  | cons e t ih =>
    simp only [Tab.sortedFrom, Bool.and_eq_true, decide_eq_true_eq] at h
    by_cases he : e.1 = k
    · simp only [Tab.del, he, ↓reduceIte]
      exact ih hk (Tab.sortedFrom_mono t (by omega) h.2)
    · simp only [Tab.del, he, ↓reduceIte]
      by_cases hl : k < e.1
      · simp only [Tab.ins, hl, ↓reduceIte, Tab.sortedFrom, Bool.and_eq_true, decide_eq_true_eq]
        exact ⟨hk, by omega, Tab.sortedFrom_del t k h.2⟩
      · simp only [Tab.ins, hl, ↓reduceIte, Tab.sortedFrom, Bool.and_eq_true, decide_eq_true_eq]
        exact ⟨h.1, ih (by omega) h.2⟩

theorem Tab.all_del {α : Type} (p : Nat × α → Bool) (t : Tab α) (k : Nat) (h : t.all p = true) : (Tab.del t k).all p = true := by
  induction t with
  | nil => rfl
  | cons e t ih =>
    simp only [List.all_cons, Bool.and_eq_true] at h
    by_cases he : e.1 = k
    · simpa [Tab.del, he] using ih h.2
    · simp only [Tab.del, he, ↓reduceIte, List.all_cons, Bool.and_eq_true]; exact ⟨h.1, ih h.2⟩

theorem Tab.all_ins {α : Type} (p : Nat × α → Bool) (t : Tab α) (k : Nat) (v : α) (hv : p (k, v) = true) (h : t.all p = true) :
    (Tab.ins t k v).all p = true := by
  induction t with
  | nil => simp [Tab.ins, hv]
  | cons e t ih =>
    simp only [List.all_cons, Bool.and_eq_true] at h
    by_cases he : k < e.1
    · simp [Tab.ins, he, hv, h.1, h.2]
    · simp only [Tab.ins, he, ↓reduceIte, List.all_cons, Bool.and_eq_true]; exact ⟨h.1, ih h.2⟩

/-- Every write keeps the canonical form. -/
theorem Tab.wf_set {α : Type} [DecidableEq α] (d : α) (t : Tab α) (k : Nat) (v : α) (h : Tab.wf d t = true) :
    Tab.wf d (Tab.set d t k v) = true := by
  simp only [Tab.wf, Bool.and_eq_true] at h ⊢
  unfold Tab.set
  split
  · exact ⟨Tab.sortedFrom_del t k h.1, Tab.all_del _ t k h.2⟩
  · rename_i hv
    exact ⟨Tab.sortedFrom_ins_del t k v (Nat.zero_le k) h.1, Tab.all_ins _ _ k v (by simp [hv]) (Tab.all_del _ t k h.2)⟩

theorem Tab.wf_upd {α : Type} [DecidableEq α] (d : α) (t : Tab α) (k : Nat) (f : α → α) (h : Tab.wf d t = true) :
    Tab.wf d (Tab.upd d t k f) = true := Tab.wf_set d t k _ h

end Sys2Proof.Machine
end

