-- ==== Sys2Proof/Laws/State.lean ====
section
/-!
SUPPORT. What each update of the state does to each of its fields: the register bank's writes touch the bank alone, a record the burrow, the
MSI-X messages and five fields of the bank.
-/
namespace Sys2Proof.Machine
set_option Elab.async false

variable (s : State) (f g : Fld) (i j v : Nat)

@[simp] theorem State.wr_pending : (s.wr f i v).pending = s.pending := rfl
@[simp] theorem State.wr_tick : (s.wr f i v).tick = s.tick := rfl
@[simp] theorem State.wr_bootUs : (s.wr f i v).bootUs = s.bootUs := rfl
@[simp] theorem State.wr_part : (s.wr f i v).part = s.part := rfl
@[simp] theorem State.wr_sense : (s.wr f i v).sense = s.sense := rfl
@[simp] theorem State.wr_setts : (s.wr f i v).setts = s.setts := rfl
@[simp] theorem State.wr_zither : (s.wr f i v).zither = s.zither := rfl
@[simp] theorem State.wr_feed : (s.wr f i v).feed = s.feed := rfl
@[simp] theorem State.wr_harps : (s.wr f i v).harps = s.harps := rfl
@[simp] theorem State.wr_marten : (s.wr f i v).marten = s.marten := rfl
@[simp] theorem State.wr_cooling : (s.wr f i v).cooling = s.cooling := rfl
@[simp] theorem State.wr_host : (s.wr f i v).host = s.host := rfl
@[simp] theorem State.wr_ports : (s.wr f i v).ports = s.ports := rfl
@[simp] theorem State.wr_lasers : (s.wr f i v).lasers = s.lasers := rfl
@[simp] theorem State.wr_wards : (s.wr f i v).wards = s.wards := rfl
@[simp] theorem State.wr_recorder : (s.wr f i v).recorder = s.recorder := rfl
@[simp] theorem State.wr_secure : (s.wr f i v).secure = s.secure := rfl
@[simp] theorem State.wr_burrow : (s.wr f i v).burrow = s.burrow := rfl
@[simp] theorem State.wr_twin : (s.wr f i v).twin = s.twin := rfl

section
variable (b : Bool)
@[simp] theorem State.wrBit_pending : (s.wrBit f i b).pending = s.pending := rfl
@[simp] theorem State.wrBit_tick : (s.wrBit f i b).tick = s.tick := rfl
@[simp] theorem State.wrBit_bootUs : (s.wrBit f i b).bootUs = s.bootUs := rfl
@[simp] theorem State.wrBit_part : (s.wrBit f i b).part = s.part := rfl
@[simp] theorem State.wrBit_sense : (s.wrBit f i b).sense = s.sense := rfl
@[simp] theorem State.wrBit_setts : (s.wrBit f i b).setts = s.setts := rfl
@[simp] theorem State.wrBit_zither : (s.wrBit f i b).zither = s.zither := rfl
@[simp] theorem State.wrBit_feed : (s.wrBit f i b).feed = s.feed := rfl
@[simp] theorem State.wrBit_harps : (s.wrBit f i b).harps = s.harps := rfl
@[simp] theorem State.wrBit_marten : (s.wrBit f i b).marten = s.marten := rfl
@[simp] theorem State.wrBit_cooling : (s.wrBit f i b).cooling = s.cooling := rfl
@[simp] theorem State.wrBit_host : (s.wrBit f i b).host = s.host := rfl
@[simp] theorem State.wrBit_ports : (s.wrBit f i b).ports = s.ports := rfl
@[simp] theorem State.wrBit_lasers : (s.wrBit f i b).lasers = s.lasers := rfl
@[simp] theorem State.wrBit_wards : (s.wrBit f i b).wards = s.wards := rfl
@[simp] theorem State.wrBit_recorder : (s.wrBit f i b).recorder = s.recorder := rfl
@[simp] theorem State.wrBit_secure : (s.wrBit f i b).secure = s.secure := rfl
@[simp] theorem State.wrBit_burrow : (s.wrBit f i b).burrow = s.burrow := rfl
@[simp] theorem State.wrBit_twin : (s.wrBit f i b).twin = s.twin := rfl
end

@[simp] theorem State.addSat_pending : (s.addSat f i v).pending = s.pending := rfl
@[simp] theorem State.addSat_tick : (s.addSat f i v).tick = s.tick := rfl
@[simp] theorem State.addSat_bootUs : (s.addSat f i v).bootUs = s.bootUs := rfl
@[simp] theorem State.addSat_part : (s.addSat f i v).part = s.part := rfl
@[simp] theorem State.addSat_sense : (s.addSat f i v).sense = s.sense := rfl
@[simp] theorem State.addSat_setts : (s.addSat f i v).setts = s.setts := rfl
@[simp] theorem State.addSat_zither : (s.addSat f i v).zither = s.zither := rfl
@[simp] theorem State.addSat_feed : (s.addSat f i v).feed = s.feed := rfl
@[simp] theorem State.addSat_harps : (s.addSat f i v).harps = s.harps := rfl
@[simp] theorem State.addSat_marten : (s.addSat f i v).marten = s.marten := rfl
@[simp] theorem State.addSat_cooling : (s.addSat f i v).cooling = s.cooling := rfl
@[simp] theorem State.addSat_host : (s.addSat f i v).host = s.host := rfl
@[simp] theorem State.addSat_ports : (s.addSat f i v).ports = s.ports := rfl
@[simp] theorem State.addSat_lasers : (s.addSat f i v).lasers = s.lasers := rfl
@[simp] theorem State.addSat_wards : (s.addSat f i v).wards = s.wards := rfl
@[simp] theorem State.addSat_recorder : (s.addSat f i v).recorder = s.recorder := rfl
@[simp] theorem State.addSat_secure : (s.addSat f i v).secure = s.secure := rfl
@[simp] theorem State.addSat_burrow : (s.addSat f i v).burrow = s.burrow := rfl
@[simp] theorem State.addSat_twin : (s.addSat f i v).twin = s.twin := rfl

@[simp] theorem State.addWrap_pending : (s.addWrap f i v).pending = s.pending := rfl
@[simp] theorem State.addWrap_tick : (s.addWrap f i v).tick = s.tick := rfl
@[simp] theorem State.addWrap_bootUs : (s.addWrap f i v).bootUs = s.bootUs := rfl
@[simp] theorem State.addWrap_part : (s.addWrap f i v).part = s.part := rfl
@[simp] theorem State.addWrap_sense : (s.addWrap f i v).sense = s.sense := rfl
@[simp] theorem State.addWrap_setts : (s.addWrap f i v).setts = s.setts := rfl
@[simp] theorem State.addWrap_zither : (s.addWrap f i v).zither = s.zither := rfl
@[simp] theorem State.addWrap_feed : (s.addWrap f i v).feed = s.feed := rfl
@[simp] theorem State.addWrap_harps : (s.addWrap f i v).harps = s.harps := rfl
@[simp] theorem State.addWrap_marten : (s.addWrap f i v).marten = s.marten := rfl
@[simp] theorem State.addWrap_cooling : (s.addWrap f i v).cooling = s.cooling := rfl
@[simp] theorem State.addWrap_host : (s.addWrap f i v).host = s.host := rfl
@[simp] theorem State.addWrap_ports : (s.addWrap f i v).ports = s.ports := rfl
@[simp] theorem State.addWrap_lasers : (s.addWrap f i v).lasers = s.lasers := rfl
@[simp] theorem State.addWrap_wards : (s.addWrap f i v).wards = s.wards := rfl
@[simp] theorem State.addWrap_recorder : (s.addWrap f i v).recorder = s.recorder := rfl
@[simp] theorem State.addWrap_secure : (s.addWrap f i v).secure = s.secure := rfl
@[simp] theorem State.addWrap_burrow : (s.addWrap f i v).burrow = s.burrow := rfl
@[simp] theorem State.addWrap_twin : (s.addWrap f i v).twin = s.twin := rfl

/-- A field reads what was written to it, cut to its width. -/
@[simp] theorem State.rd_wr_same : (s.wr f i v).rd f i = v % 2 ^ f.width := by
  simp [State.wr, State.rd]

/-- A write leaves every field with another key alone. -/
theorem State.rd_wr_key (h : f.key i ≠ g.key j) : (s.wr f i v).rd g j = s.rd g j := by
  simp only [State.wr, State.rd]
  exact Tab.get_set_ne _ _ _ _ h

theorem Fld.key_ne (h : f.code ≠ g.code) (hf : f.code < 16384) (hg : g.code < 16384) : f.key i ≠ g.key j := by
  simp only [Fld.key]; omega

/-- A write leaves the fields of other numbers alone, whatever their instance. -/
theorem State.rd_wr_code (h : f.code ≠ g.code) (hf : f.code < 16384) (hg : g.code < 16384) : (s.wr f i v).rd g j = s.rd g j :=
  s.rd_wr_key f g i j v (Fld.key_ne f g i j h hf hg)

/-- A write leaves the other instances of its field alone. -/
theorem State.rd_wr_inst (h : i ≠ j) : (s.wr f i v).rd f j = s.rd f j :=
  s.rd_wr_key f f i j v (by simp only [Fld.key]; omega)

/-- A field of a state reads what the register bank holds of it. -/
theorem State.rd_regs {s t : State} (h : t.regs = s.regs) : t.rd f i = s.rd f i := by
  simp only [State.rd, h]

/-! ## Frames -/

theorem Frame.refl (bs : List Block) (fs : List (Fld × Nat)) : Frame bs fs s s :=
  ⟨fun b _ => by cases b <;> simp [Block.same], fun _ _ _ => rfl⟩

theorem Block.same_trans {s t u : State} {b : Block} (h : b.same s t) (h' : b.same t u) : b.same s u := by
  cases b
  case settRest =>
    simp only [Block.same] at *
    rw [← h, ← h']
  case hostRest =>
    simp only [Block.same] at *
    rw [← h, ← h']
  case recorderRest =>
    simp only [Block.same] at *
    rw [← h, ← h']
  all_goals exact Eq.trans h' h

/-- Frames compose. -/
theorem Frame.trans {bs : List Block} {fs : List (Fld × Nat)} {s t u : State} (h : Frame bs fs s t) (h' : Frame bs fs t u) : Frame bs fs s u :=
  ⟨fun b hb => Block.same_trans (h.1 b hb) (h'.1 b hb), fun f i hf => (h'.2 f i hf).trans (h.2 f i hf)⟩

/-- A frame may name more than it needs. -/
theorem Frame.mono {bs bs' : List Block} {fs fs' : List (Fld × Nat)} {s t : State} (h : Frame bs fs s t) (hb : ∀ b ∈ bs, b ∈ bs')
    (hf : ∀ e ∈ fs, e ∈ fs') : Frame bs' fs' s t :=
  ⟨fun b hn => h.1 b (fun hm => hn (hb b hm)), fun f i hn => h.2 f i (fun e he => hn e (hf e he))⟩

/-- States that differ in the register bank alone agree on every part. -/
theorem Block.same_regs (r : Tab Nat) (b : Block) : b.same s { s with regs := r } := by
  cases b
  all_goals rfl

/-- A write of a named field stays within the frame. -/
theorem Frame.wr {bs : List Block} {fs : List (Fld × Nat)} {s t : State} (h : Frame bs fs s t) (hf : (f, i) ∈ fs) :
    Frame bs fs s (t.wr f i v) := by
  refine h.trans ⟨fun b _ => ?_, fun g j hg => ?_⟩
  · exact Block.same_regs t (Tab.set (f.dfltAt i) t.regs (f.key i) (v % 2 ^ f.width)) b
  · exact State.rd_wr_key t f g i j v (hg (f, i) hf)

theorem Frame.wrBit {bs : List Block} {fs : List (Fld × Nat)} {s t : State} (b : Bool) (h : Frame bs fs s t) (hf : (f, i) ∈ fs) :
    Frame bs fs s (t.wrBit f i b) := h.wr f i b.toNat hf

theorem Frame.addSat {bs : List Block} {fs : List (Fld × Nat)} {s t : State} (h : Frame bs fs s t) (hf : (f, i) ∈ fs) :
    Frame bs fs s (t.addSat f i v) := h.wr f i _ hf

theorem Frame.addWrap {bs : List Block} {fs : List (Fld × Nat)} {s t : State} (h : Frame bs fs s t) (hf : (f, i) ∈ fs) :
    Frame bs fs s (t.addWrap f i v) := h.wr f i _ hf

/-- An update that leaves the register bank alone stays within a frame that names the parts it touches. -/
theorem Frame.upd {bs : List Block} {fs : List (Fld × Nat)} {s t u : State} (h : Frame bs fs s t) (hb : ∀ b, b ∉ bs → b.same t u)
    (hr : u.regs = t.regs) : Frame bs fs s u :=
  h.trans ⟨hb, fun _ _ _ => State.rd_regs _ _ hr⟩

/-! ## Records -/

/-- Offering a record to the flash path touches the burrow and BRW_COALF. -/
theorem State.offerFlash_frame (r : Rec) : Frame [.burrow] [(BRW_COALF.count, 0)] s (s.offerFlash r) := by
  have h := Frame.refl s [.burrow] [(BRW_COALF.count, 0)]
  unfold State.offerFlash
  dsimp only
  repeat' split
  all_goals first
    | (refine Frame.addSat _ _ _ ?_ (by simp)
       exact h.upd (by intro b hb; cases b <;> simp_all [Block.same]) rfl)
    | exact h.upd (by intro b hb; cases b <;> simp_all [Block.same]) rfl

/-- Offering a record to the mirror touches the burrow, BRW_COALM, BRW_LOST and BRW_MSEQ. -/
theorem State.offerMirror_frame (r : Rec) :
    Frame [.burrow] [(BRW_COALM.count, 0), (BRW_LOST.mirror_lost, 0), (BRW_MSEQ.seq, 0)] s (s.offerMirror r) := by
  have h := Frame.refl s [.burrow] [(BRW_COALM.count, 0), (BRW_LOST.mirror_lost, 0), (BRW_MSEQ.seq, 0)]
  unfold State.offerMirror
  dsimp only
  split
  · exact h.addSat _ _ _ (by simp)
  · split
    · refine Frame.addSat _ _ _ ?_ (by simp)
      exact h.upd (by intro b hb; cases b <;> simp_all [Block.same]) rfl
    · refine Frame.addWrap _ _ _ ?_ (by simp)
      exact h.upd (by intro b hb; cases b <;> simp_all [Block.same]) rfl

/-- Sending an MSI-X message touches the count of its vector. -/
theorem State.sendMsi_frame : Frame [.msix] [] s (s.sendMsi v) :=
  (Frame.refl s _ _).upd (by intro b hb; cases b <;> simp_all [Block.same, State.sendMsi]) rfl

/-- Raising a cause touches its bit and the MSI-X messages. -/
theorem State.raiseInt_frame (c m : Fld) : Frame [.msix] [(c, 0)] s (s.raiseInt c m) := by
  unfold State.raiseInt
  dsimp only
  split
  · exact Frame.refl s _ _
  · split
    · exact (Frame.refl s _ _).wr _ _ _ (by simp)
    · exact ((Frame.refl s _ _).wr c 0 1 (by simp)).trans ((State.sendMsi_frame _ _).mono (by simp) (by simp))

/-- What holds of both branches holds of the choice. -/
theorem if_cases {α : Sort _} {P : α → Prop} {c : Prop} [Decidable c] {a b : α} (ha : c → P a) (hb : ¬ c → P b) : P (if c then a else b) := by
  split
  · exact ha ‹_›
  · exact hb ‹_›

theorem State.eventInt_frame : Frame [.burrow, .msix] [(INT_CAUSE.event, 0)] s s.eventInt := by
  have h := Frame.refl s [.burrow, .msix] [(INT_CAUSE.event, 0)]
  unfold State.eventInt
  dsimp only
  split
  · exact h
  · refine if_cases (P := Frame _ _ s) ?_ ?_
    · intro _; exact h.upd (by intro b hb; cases b <;> simp_all [Block.same]) rfl
    · intro _
      refine Frame.trans (h.upd (u := { s with burrow := { s.burrow with lastEventInt := some s.bootUs, eventDue := false } }) ?_ rfl)
        ((State.raiseInt_frame _ _ _).mono (by simp) (by simp))
      intro b hb; cases b <;> simp_all [Block.same]

/-- Recording an event touches the burrow, the MSI-X messages and five fields of the register bank, nothing else. -/
theorem State.record_frame (code source : Nat) (data : List Nat) : Frame recBlocks recFlds s (s.record code source data) := by
  unfold State.record
  split
  · exact (Frame.refl s _ _).upd (by intro b hb; cases b <;> simp_all [Block.same, recBlocks]) rfl
  unfold State.offer
  refine Frame.trans (Frame.trans ((State.offerFlash_frame s _).mono ?_ ?_) ((State.offerMirror_frame _ _).mono ?_ ?_))
    ((State.eventInt_frame _).mono ?_ ?_) <;> simp [recBlocks, recFlds]

@[simp] theorem State.record_pending (code source : Nat) (data : List Nat) : (s.record code source data).pending = s.pending :=
  (State.record_frame s code source data).1 .pending (by decide)
@[simp] theorem State.record_tick (code source : Nat) (data : List Nat) : (s.record code source data).tick = s.tick :=
  (State.record_frame s code source data).1 .tick (by decide)
@[simp] theorem State.record_bootUs (code source : Nat) (data : List Nat) : (s.record code source data).bootUs = s.bootUs :=
  (State.record_frame s code source data).1 .bootUs (by decide)
@[simp] theorem State.record_part (code source : Nat) (data : List Nat) : (s.record code source data).part = s.part :=
  (State.record_frame s code source data).1 .part (by decide)
@[simp] theorem State.record_sense (code source : Nat) (data : List Nat) : (s.record code source data).sense = s.sense :=
  (State.record_frame s code source data).1 .sense (by decide)
@[simp] theorem State.record_setts (code source : Nat) (data : List Nat) : (s.record code source data).setts = s.setts := by
  have h := (State.record_frame s code source data).1
  have h1 : (s.record code source data).setts.engines = s.setts.engines := h .engines (by decide)
  have h2 : (s.record code source data).setts.shmem = s.setts.shmem := h .sharedMemory (by decide)
  have h3 := h .settRest (by decide)
  simp only [Block.same, ← h1, ← h2] at h3
  exact h3
@[simp] theorem State.record_zither (code source : Nat) (data : List Nat) : (s.record code source data).zither = s.zither :=
  (State.record_frame s code source data).1 .zither (by decide)
@[simp] theorem State.record_feed (code source : Nat) (data : List Nat) : (s.record code source data).feed = s.feed :=
  (State.record_frame s code source data).1 .feed (by decide)
@[simp] theorem State.record_harps (code source : Nat) (data : List Nat) : (s.record code source data).harps = s.harps :=
  (State.record_frame s code source data).1 .harps (by decide)
@[simp] theorem State.record_marten (code source : Nat) (data : List Nat) : (s.record code source data).marten = s.marten :=
  (State.record_frame s code source data).1 .marten (by decide)
@[simp] theorem State.record_cooling (code source : Nat) (data : List Nat) : (s.record code source data).cooling = s.cooling :=
  (State.record_frame s code source data).1 .cooling (by decide)
@[simp] theorem State.record_ports (code source : Nat) (data : List Nat) : (s.record code source data).ports = s.ports :=
  (State.record_frame s code source data).1 .ports (by decide)
@[simp] theorem State.record_lasers (code source : Nat) (data : List Nat) : (s.record code source data).lasers = s.lasers :=
  (State.record_frame s code source data).1 .lasers (by decide)
@[simp] theorem State.record_wards (code source : Nat) (data : List Nat) : (s.record code source data).wards = s.wards :=
  (State.record_frame s code source data).1 .wards (by decide)
@[simp] theorem State.record_recorder (code source : Nat) (data : List Nat) : (s.record code source data).recorder = s.recorder := by
  have h := (State.record_frame s code source data).1
  have h1 : (s.record code source data).recorder.hbm = s.recorder.hbm := h .hbm (by decide)
  have h3 := h .recorderRest (by decide)
  simp only [Block.same, ← h1] at h3
  exact h3
@[simp] theorem State.record_secure (code source : Nat) (data : List Nat) : (s.record code source data).secure = s.secure :=
  (State.record_frame s code source data).1 .secure (by decide)
@[simp] theorem State.record_twin (code source : Nat) (data : List Nat) : (s.record code source data).twin = s.twin :=
  (State.record_frame s code source data).1 .twin (by decide)

/-- A field that recording an event does not touch reads as before. -/
theorem State.rd_record (code source : Nat) (data : List Nat) (h : ∀ e ∈ recFlds, e.1.code ≠ f.code) (hf : f.code < 16384) :
    (s.record code source data).rd f i = s.rd f i :=
  (State.record_frame s code source data).2 f i fun e he => Fld.key_ne _ _ _ _ (h e he)
    (by simp only [recFlds, List.mem_cons, List.not_mem_nil, or_false] at he
        rcases he with rfl | rfl | rfl | rfl | rfl <;> decide) hf

/-- Within a frame that records are allowed in, a record stays. -/
theorem Frame.record {bs : List Block} {fs : List (Fld × Nat)} {s t : State} (code source : Nat) (data : List Nat) (h : Frame bs fs s t)
    (hb : ∀ b ∈ recBlocks, b ∈ bs) (hf : ∀ e ∈ recFlds, e ∈ fs) : Frame bs fs s (t.record code source data) :=
  h.trans ((State.record_frame t code source data).mono hb hf)

end Sys2Proof.Machine
end

