-- ==== Sys2Proof/Laws/Access.lean ====
section
/-!
SUPPORT. The numbered parts of the state: what a write of one does to a read of it, to the others of its part, to the rest of the state and to
the register bank; and that register writes and records leave them all as they are.
-/
namespace Sys2Proof.Machine
set_option Elab.async false

variable (s : State) (f : Fld) (i j k v : Nat)

section
variable (x : Channel)
@[simp] theorem State.setChan_chan : (s.setChan k x).chan j = if k = j then x else s.chan j := Tab.get_set _ _ _ _ _
@[simp] theorem State.setChan_win : (s.setChan k x).win j = s.win j := rfl
@[simp] theorem State.setChan_meter : (s.setChan k x).meter j = s.meter j := rfl
@[simp] theorem State.setChan_rd : (s.setChan k x).rd f i = s.rd f i := rfl
@[simp] theorem State.setChan_pending : (s.setChan k x).pending = s.pending := rfl
@[simp] theorem State.setChan_regs : (s.setChan k x).regs = s.regs := rfl
@[simp] theorem State.setChan_tick : (s.setChan k x).tick = s.tick := rfl
@[simp] theorem State.setChan_bootUs : (s.setChan k x).bootUs = s.bootUs := rfl
@[simp] theorem State.setChan_part : (s.setChan k x).part = s.part := rfl
@[simp] theorem State.setChan_setts : (s.setChan k x).setts = s.setts := rfl
@[simp] theorem State.setChan_zither : (s.setChan k x).zither = s.zither := rfl
@[simp] theorem State.setChan_feed : (s.setChan k x).feed = s.feed := rfl
@[simp] theorem State.setChan_harps : (s.setChan k x).harps = s.harps := rfl
@[simp] theorem State.setChan_marten : (s.setChan k x).marten = s.marten := rfl
@[simp] theorem State.setChan_cooling : (s.setChan k x).cooling = s.cooling := rfl
@[simp] theorem State.setChan_host : (s.setChan k x).host = s.host := rfl
@[simp] theorem State.setChan_ports : (s.setChan k x).ports = s.ports := rfl
@[simp] theorem State.setChan_lasers : (s.setChan k x).lasers = s.lasers := rfl
@[simp] theorem State.setChan_wards : (s.setChan k x).wards = s.wards := rfl
@[simp] theorem State.setChan_recorder : (s.setChan k x).recorder = s.recorder := rfl
@[simp] theorem State.setChan_secure : (s.setChan k x).secure = s.secure := rfl
@[simp] theorem State.setChan_burrow : (s.setChan k x).burrow = s.burrow := rfl
@[simp] theorem State.setChan_twin : (s.setChan k x).twin = s.twin := rfl
end

section
variable (x : Window)
@[simp] theorem State.setWin_win : (s.setWin k x).win j = if k = j then x else s.win j := Tab.get_set _ _ _ _ _
@[simp] theorem State.setWin_chan : (s.setWin k x).chan j = s.chan j := rfl
@[simp] theorem State.setWin_meter : (s.setWin k x).meter j = s.meter j := rfl
@[simp] theorem State.setWin_rd : (s.setWin k x).rd f i = s.rd f i := rfl
@[simp] theorem State.setWin_pending : (s.setWin k x).pending = s.pending := rfl
@[simp] theorem State.setWin_regs : (s.setWin k x).regs = s.regs := rfl
@[simp] theorem State.setWin_tick : (s.setWin k x).tick = s.tick := rfl
@[simp] theorem State.setWin_bootUs : (s.setWin k x).bootUs = s.bootUs := rfl
@[simp] theorem State.setWin_part : (s.setWin k x).part = s.part := rfl
@[simp] theorem State.setWin_setts : (s.setWin k x).setts = s.setts := rfl
@[simp] theorem State.setWin_zither : (s.setWin k x).zither = s.zither := rfl
@[simp] theorem State.setWin_feed : (s.setWin k x).feed = s.feed := rfl
@[simp] theorem State.setWin_harps : (s.setWin k x).harps = s.harps := rfl
@[simp] theorem State.setWin_marten : (s.setWin k x).marten = s.marten := rfl
@[simp] theorem State.setWin_cooling : (s.setWin k x).cooling = s.cooling := rfl
@[simp] theorem State.setWin_host : (s.setWin k x).host = s.host := rfl
@[simp] theorem State.setWin_ports : (s.setWin k x).ports = s.ports := rfl
@[simp] theorem State.setWin_lasers : (s.setWin k x).lasers = s.lasers := rfl
@[simp] theorem State.setWin_wards : (s.setWin k x).wards = s.wards := rfl
@[simp] theorem State.setWin_recorder : (s.setWin k x).recorder = s.recorder := rfl
@[simp] theorem State.setWin_secure : (s.setWin k x).secure = s.secure := rfl
@[simp] theorem State.setWin_burrow : (s.setWin k x).burrow = s.burrow := rfl
@[simp] theorem State.setWin_twin : (s.setWin k x).twin = s.twin := rfl
end

section
variable (x : Meter)
@[simp] theorem State.setMeter_meter : (s.setMeter k x).meter j = if k = j then x else s.meter j := Tab.get_set _ _ _ _ _
@[simp] theorem State.setMeter_chan : (s.setMeter k x).chan j = s.chan j := rfl
@[simp] theorem State.setMeter_win : (s.setMeter k x).win j = s.win j := rfl
@[simp] theorem State.setMeter_rd : (s.setMeter k x).rd f i = s.rd f i := rfl
@[simp] theorem State.setMeter_pending : (s.setMeter k x).pending = s.pending := rfl
@[simp] theorem State.setMeter_regs : (s.setMeter k x).regs = s.regs := rfl
@[simp] theorem State.setMeter_tick : (s.setMeter k x).tick = s.tick := rfl
@[simp] theorem State.setMeter_bootUs : (s.setMeter k x).bootUs = s.bootUs := rfl
@[simp] theorem State.setMeter_part : (s.setMeter k x).part = s.part := rfl
@[simp] theorem State.setMeter_setts : (s.setMeter k x).setts = s.setts := rfl
@[simp] theorem State.setMeter_zither : (s.setMeter k x).zither = s.zither := rfl
@[simp] theorem State.setMeter_feed : (s.setMeter k x).feed = s.feed := rfl
@[simp] theorem State.setMeter_harps : (s.setMeter k x).harps = s.harps := rfl
@[simp] theorem State.setMeter_marten : (s.setMeter k x).marten = s.marten := rfl
@[simp] theorem State.setMeter_cooling : (s.setMeter k x).cooling = s.cooling := rfl
@[simp] theorem State.setMeter_host : (s.setMeter k x).host = s.host := rfl
@[simp] theorem State.setMeter_ports : (s.setMeter k x).ports = s.ports := rfl
@[simp] theorem State.setMeter_lasers : (s.setMeter k x).lasers = s.lasers := rfl
@[simp] theorem State.setMeter_wards : (s.setMeter k x).wards = s.wards := rfl
@[simp] theorem State.setMeter_recorder : (s.setMeter k x).recorder = s.recorder := rfl
@[simp] theorem State.setMeter_secure : (s.setMeter k x).secure = s.secure := rfl
@[simp] theorem State.setMeter_burrow : (s.setMeter k x).burrow = s.burrow := rfl
@[simp] theorem State.setMeter_twin : (s.setMeter k x).twin = s.twin := rfl
end

section
variable (x : Engine)
@[simp] theorem State.setEngine_engine : (s.setEngine k x).engine j = if k = j then x else s.engine j := Tab.get_set _ _ _ _ _
@[simp] theorem State.setEngine_rd : (s.setEngine k x).rd f i = s.rd f i := rfl
@[simp] theorem State.setEngine_pending : (s.setEngine k x).pending = s.pending := rfl
@[simp] theorem State.setEngine_regs : (s.setEngine k x).regs = s.regs := rfl
@[simp] theorem State.setEngine_tick : (s.setEngine k x).tick = s.tick := rfl
@[simp] theorem State.setEngine_bootUs : (s.setEngine k x).bootUs = s.bootUs := rfl
@[simp] theorem State.setEngine_part : (s.setEngine k x).part = s.part := rfl
@[simp] theorem State.setEngine_sense : (s.setEngine k x).sense = s.sense := rfl
@[simp] theorem State.setEngine_zither : (s.setEngine k x).zither = s.zither := rfl
@[simp] theorem State.setEngine_feed : (s.setEngine k x).feed = s.feed := rfl
@[simp] theorem State.setEngine_harps : (s.setEngine k x).harps = s.harps := rfl
@[simp] theorem State.setEngine_marten : (s.setEngine k x).marten = s.marten := rfl
@[simp] theorem State.setEngine_cooling : (s.setEngine k x).cooling = s.cooling := rfl
@[simp] theorem State.setEngine_host : (s.setEngine k x).host = s.host := rfl
@[simp] theorem State.setEngine_ports : (s.setEngine k x).ports = s.ports := rfl
@[simp] theorem State.setEngine_lasers : (s.setEngine k x).lasers = s.lasers := rfl
@[simp] theorem State.setEngine_wards : (s.setEngine k x).wards = s.wards := rfl
@[simp] theorem State.setEngine_recorder : (s.setEngine k x).recorder = s.recorder := rfl
@[simp] theorem State.setEngine_secure : (s.setEngine k x).secure = s.secure := rfl
@[simp] theorem State.setEngine_burrow : (s.setEngine k x).burrow = s.burrow := rfl
@[simp] theorem State.setEngine_twin : (s.setEngine k x).twin = s.twin := rfl
end

section
variable (x : ZEntry)
@[simp] theorem State.setZent_zent : (s.setZent k x).zent j = if k = j then x else s.zent j := Tab.get_set _ _ _ _ _
@[simp] theorem State.setZent_zgrp : (s.setZent k x).zgrp j = s.zgrp j := rfl
@[simp] theorem State.setZent_rd : (s.setZent k x).rd f i = s.rd f i := rfl
@[simp] theorem State.setZent_pending : (s.setZent k x).pending = s.pending := rfl
@[simp] theorem State.setZent_regs : (s.setZent k x).regs = s.regs := rfl
@[simp] theorem State.setZent_tick : (s.setZent k x).tick = s.tick := rfl
@[simp] theorem State.setZent_bootUs : (s.setZent k x).bootUs = s.bootUs := rfl
@[simp] theorem State.setZent_part : (s.setZent k x).part = s.part := rfl
@[simp] theorem State.setZent_sense : (s.setZent k x).sense = s.sense := rfl
@[simp] theorem State.setZent_setts : (s.setZent k x).setts = s.setts := rfl
@[simp] theorem State.setZent_feed : (s.setZent k x).feed = s.feed := rfl
@[simp] theorem State.setZent_harps : (s.setZent k x).harps = s.harps := rfl
@[simp] theorem State.setZent_marten : (s.setZent k x).marten = s.marten := rfl
@[simp] theorem State.setZent_cooling : (s.setZent k x).cooling = s.cooling := rfl
@[simp] theorem State.setZent_host : (s.setZent k x).host = s.host := rfl
@[simp] theorem State.setZent_ports : (s.setZent k x).ports = s.ports := rfl
@[simp] theorem State.setZent_lasers : (s.setZent k x).lasers = s.lasers := rfl
@[simp] theorem State.setZent_wards : (s.setZent k x).wards = s.wards := rfl
@[simp] theorem State.setZent_recorder : (s.setZent k x).recorder = s.recorder := rfl
@[simp] theorem State.setZent_secure : (s.setZent k x).secure = s.secure := rfl
@[simp] theorem State.setZent_burrow : (s.setZent k x).burrow = s.burrow := rfl
@[simp] theorem State.setZent_twin : (s.setZent k x).twin = s.twin := rfl
end

section
variable (x : ZGroup)
@[simp] theorem State.setZgrp_zgrp : (s.setZgrp k x).zgrp j = if k = j then x else s.zgrp j := Tab.get_set _ _ _ _ _
@[simp] theorem State.setZgrp_zent : (s.setZgrp k x).zent j = s.zent j := rfl
@[simp] theorem State.setZgrp_rd : (s.setZgrp k x).rd f i = s.rd f i := rfl
@[simp] theorem State.setZgrp_pending : (s.setZgrp k x).pending = s.pending := rfl
@[simp] theorem State.setZgrp_regs : (s.setZgrp k x).regs = s.regs := rfl
@[simp] theorem State.setZgrp_tick : (s.setZgrp k x).tick = s.tick := rfl
@[simp] theorem State.setZgrp_bootUs : (s.setZgrp k x).bootUs = s.bootUs := rfl
@[simp] theorem State.setZgrp_part : (s.setZgrp k x).part = s.part := rfl
@[simp] theorem State.setZgrp_sense : (s.setZgrp k x).sense = s.sense := rfl
@[simp] theorem State.setZgrp_setts : (s.setZgrp k x).setts = s.setts := rfl
@[simp] theorem State.setZgrp_feed : (s.setZgrp k x).feed = s.feed := rfl
@[simp] theorem State.setZgrp_harps : (s.setZgrp k x).harps = s.harps := rfl
@[simp] theorem State.setZgrp_marten : (s.setZgrp k x).marten = s.marten := rfl
@[simp] theorem State.setZgrp_cooling : (s.setZgrp k x).cooling = s.cooling := rfl
@[simp] theorem State.setZgrp_host : (s.setZgrp k x).host = s.host := rfl
@[simp] theorem State.setZgrp_ports : (s.setZgrp k x).ports = s.ports := rfl
@[simp] theorem State.setZgrp_lasers : (s.setZgrp k x).lasers = s.lasers := rfl
@[simp] theorem State.setZgrp_wards : (s.setZgrp k x).wards = s.wards := rfl
@[simp] theorem State.setZgrp_recorder : (s.setZgrp k x).recorder = s.recorder := rfl
@[simp] theorem State.setZgrp_secure : (s.setZgrp k x).secure = s.secure := rfl
@[simp] theorem State.setZgrp_burrow : (s.setZgrp k x).burrow = s.burrow := rfl
@[simp] theorem State.setZgrp_twin : (s.setZgrp k x).twin = s.twin := rfl
end

section
variable (x : Harp)
@[simp] theorem State.setHarp_harp : (s.setHarp k x).harp j = if k = j then x else s.harp j := Tab.get_set _ _ _ _ _
@[simp] theorem State.setHarp_rd : (s.setHarp k x).rd f i = s.rd f i := rfl
@[simp] theorem State.setHarp_pending : (s.setHarp k x).pending = s.pending := rfl
@[simp] theorem State.setHarp_regs : (s.setHarp k x).regs = s.regs := rfl
@[simp] theorem State.setHarp_tick : (s.setHarp k x).tick = s.tick := rfl
@[simp] theorem State.setHarp_bootUs : (s.setHarp k x).bootUs = s.bootUs := rfl
@[simp] theorem State.setHarp_part : (s.setHarp k x).part = s.part := rfl
@[simp] theorem State.setHarp_sense : (s.setHarp k x).sense = s.sense := rfl
@[simp] theorem State.setHarp_setts : (s.setHarp k x).setts = s.setts := rfl
@[simp] theorem State.setHarp_zither : (s.setHarp k x).zither = s.zither := rfl
@[simp] theorem State.setHarp_feed : (s.setHarp k x).feed = s.feed := rfl
@[simp] theorem State.setHarp_marten : (s.setHarp k x).marten = s.marten := rfl
@[simp] theorem State.setHarp_cooling : (s.setHarp k x).cooling = s.cooling := rfl
@[simp] theorem State.setHarp_host : (s.setHarp k x).host = s.host := rfl
@[simp] theorem State.setHarp_ports : (s.setHarp k x).ports = s.ports := rfl
@[simp] theorem State.setHarp_lasers : (s.setHarp k x).lasers = s.lasers := rfl
@[simp] theorem State.setHarp_wards : (s.setHarp k x).wards = s.wards := rfl
@[simp] theorem State.setHarp_recorder : (s.setHarp k x).recorder = s.recorder := rfl
@[simp] theorem State.setHarp_secure : (s.setHarp k x).secure = s.secure := rfl
@[simp] theorem State.setHarp_burrow : (s.setHarp k x).burrow = s.burrow := rfl
@[simp] theorem State.setHarp_twin : (s.setHarp k x).twin = s.twin := rfl
end

section
variable (x : Tile)
@[simp] theorem State.setTile_tile : (s.setTile k x).tile j = if k = j then x else s.tile j := Tab.get_set _ _ _ _ _
@[simp] theorem State.setTile_rd : (s.setTile k x).rd f i = s.rd f i := rfl
@[simp] theorem State.setTile_pending : (s.setTile k x).pending = s.pending := rfl
@[simp] theorem State.setTile_regs : (s.setTile k x).regs = s.regs := rfl
@[simp] theorem State.setTile_tick : (s.setTile k x).tick = s.tick := rfl
@[simp] theorem State.setTile_bootUs : (s.setTile k x).bootUs = s.bootUs := rfl
@[simp] theorem State.setTile_part : (s.setTile k x).part = s.part := rfl
@[simp] theorem State.setTile_sense : (s.setTile k x).sense = s.sense := rfl
@[simp] theorem State.setTile_setts : (s.setTile k x).setts = s.setts := rfl
@[simp] theorem State.setTile_zither : (s.setTile k x).zither = s.zither := rfl
@[simp] theorem State.setTile_feed : (s.setTile k x).feed = s.feed := rfl
@[simp] theorem State.setTile_harps : (s.setTile k x).harps = s.harps := rfl
@[simp] theorem State.setTile_cooling : (s.setTile k x).cooling = s.cooling := rfl
@[simp] theorem State.setTile_host : (s.setTile k x).host = s.host := rfl
@[simp] theorem State.setTile_ports : (s.setTile k x).ports = s.ports := rfl
@[simp] theorem State.setTile_lasers : (s.setTile k x).lasers = s.lasers := rfl
@[simp] theorem State.setTile_wards : (s.setTile k x).wards = s.wards := rfl
@[simp] theorem State.setTile_recorder : (s.setTile k x).recorder = s.recorder := rfl
@[simp] theorem State.setTile_secure : (s.setTile k x).secure = s.secure := rfl
@[simp] theorem State.setTile_burrow : (s.setTile k x).burrow = s.burrow := rfl
@[simp] theorem State.setTile_twin : (s.setTile k x).twin = s.twin := rfl
end

section
variable (x : FanOut)
@[simp] theorem State.setFan_fan : (s.setFan k x).fan j = if k = j then x else s.fan j := Tab.get_set _ _ _ _ _
@[simp] theorem State.setFan_flowOf : (s.setFan k x).flowOf j = s.flowOf j := rfl
@[simp] theorem State.setFan_rd : (s.setFan k x).rd f i = s.rd f i := rfl
@[simp] theorem State.setFan_pending : (s.setFan k x).pending = s.pending := rfl
@[simp] theorem State.setFan_regs : (s.setFan k x).regs = s.regs := rfl
@[simp] theorem State.setFan_tick : (s.setFan k x).tick = s.tick := rfl
@[simp] theorem State.setFan_bootUs : (s.setFan k x).bootUs = s.bootUs := rfl
@[simp] theorem State.setFan_part : (s.setFan k x).part = s.part := rfl
@[simp] theorem State.setFan_sense : (s.setFan k x).sense = s.sense := rfl
@[simp] theorem State.setFan_setts : (s.setFan k x).setts = s.setts := rfl
@[simp] theorem State.setFan_zither : (s.setFan k x).zither = s.zither := rfl
@[simp] theorem State.setFan_feed : (s.setFan k x).feed = s.feed := rfl
@[simp] theorem State.setFan_harps : (s.setFan k x).harps = s.harps := rfl
@[simp] theorem State.setFan_marten : (s.setFan k x).marten = s.marten := rfl
@[simp] theorem State.setFan_host : (s.setFan k x).host = s.host := rfl
@[simp] theorem State.setFan_ports : (s.setFan k x).ports = s.ports := rfl
@[simp] theorem State.setFan_lasers : (s.setFan k x).lasers = s.lasers := rfl
@[simp] theorem State.setFan_wards : (s.setFan k x).wards = s.wards := rfl
@[simp] theorem State.setFan_recorder : (s.setFan k x).recorder = s.recorder := rfl
@[simp] theorem State.setFan_secure : (s.setFan k x).secure = s.secure := rfl
@[simp] theorem State.setFan_burrow : (s.setFan k x).burrow = s.burrow := rfl
@[simp] theorem State.setFan_twin : (s.setFan k x).twin = s.twin := rfl
end

section
variable (x : Flow)
@[simp] theorem State.setFlow_flowOf : (s.setFlow k x).flowOf j = if k = j then x else s.flowOf j := Tab.get_set _ _ _ _ _
@[simp] theorem State.setFlow_fan : (s.setFlow k x).fan j = s.fan j := rfl
@[simp] theorem State.setFlow_rd : (s.setFlow k x).rd f i = s.rd f i := rfl
@[simp] theorem State.setFlow_pending : (s.setFlow k x).pending = s.pending := rfl
@[simp] theorem State.setFlow_regs : (s.setFlow k x).regs = s.regs := rfl
@[simp] theorem State.setFlow_tick : (s.setFlow k x).tick = s.tick := rfl
@[simp] theorem State.setFlow_bootUs : (s.setFlow k x).bootUs = s.bootUs := rfl
@[simp] theorem State.setFlow_part : (s.setFlow k x).part = s.part := rfl
@[simp] theorem State.setFlow_sense : (s.setFlow k x).sense = s.sense := rfl
@[simp] theorem State.setFlow_setts : (s.setFlow k x).setts = s.setts := rfl
@[simp] theorem State.setFlow_zither : (s.setFlow k x).zither = s.zither := rfl
@[simp] theorem State.setFlow_feed : (s.setFlow k x).feed = s.feed := rfl
@[simp] theorem State.setFlow_harps : (s.setFlow k x).harps = s.harps := rfl
@[simp] theorem State.setFlow_marten : (s.setFlow k x).marten = s.marten := rfl
@[simp] theorem State.setFlow_host : (s.setFlow k x).host = s.host := rfl
@[simp] theorem State.setFlow_ports : (s.setFlow k x).ports = s.ports := rfl
@[simp] theorem State.setFlow_lasers : (s.setFlow k x).lasers = s.lasers := rfl
@[simp] theorem State.setFlow_wards : (s.setFlow k x).wards = s.wards := rfl
@[simp] theorem State.setFlow_recorder : (s.setFlow k x).recorder = s.recorder := rfl
@[simp] theorem State.setFlow_secure : (s.setFlow k x).secure = s.secure := rfl
@[simp] theorem State.setFlow_burrow : (s.setFlow k x).burrow = s.burrow := rfl
@[simp] theorem State.setFlow_twin : (s.setFlow k x).twin = s.twin := rfl
end

section
variable (x : Pair)
@[simp] theorem State.setPair_pair : (s.setPair k x).pair j = if k = j then x else s.pair j := Tab.get_set _ _ _ _ _
@[simp] theorem State.setPair_rd : (s.setPair k x).rd f i = s.rd f i := rfl
@[simp] theorem State.setPair_pending : (s.setPair k x).pending = s.pending := rfl
@[simp] theorem State.setPair_regs : (s.setPair k x).regs = s.regs := rfl
@[simp] theorem State.setPair_tick : (s.setPair k x).tick = s.tick := rfl
@[simp] theorem State.setPair_bootUs : (s.setPair k x).bootUs = s.bootUs := rfl
@[simp] theorem State.setPair_part : (s.setPair k x).part = s.part := rfl
@[simp] theorem State.setPair_sense : (s.setPair k x).sense = s.sense := rfl
@[simp] theorem State.setPair_setts : (s.setPair k x).setts = s.setts := rfl
@[simp] theorem State.setPair_zither : (s.setPair k x).zither = s.zither := rfl
@[simp] theorem State.setPair_feed : (s.setPair k x).feed = s.feed := rfl
@[simp] theorem State.setPair_harps : (s.setPair k x).harps = s.harps := rfl
@[simp] theorem State.setPair_marten : (s.setPair k x).marten = s.marten := rfl
@[simp] theorem State.setPair_cooling : (s.setPair k x).cooling = s.cooling := rfl
@[simp] theorem State.setPair_ports : (s.setPair k x).ports = s.ports := rfl
@[simp] theorem State.setPair_lasers : (s.setPair k x).lasers = s.lasers := rfl
@[simp] theorem State.setPair_wards : (s.setPair k x).wards = s.wards := rfl
@[simp] theorem State.setPair_recorder : (s.setPair k x).recorder = s.recorder := rfl
@[simp] theorem State.setPair_secure : (s.setPair k x).secure = s.secure := rfl
@[simp] theorem State.setPair_burrow : (s.setPair k x).burrow = s.burrow := rfl
@[simp] theorem State.setPair_twin : (s.setPair k x).twin = s.twin := rfl
end

section
variable (x : Port)
@[simp] theorem State.setPort_port : (s.setPort k x).port j = if k = j then x else s.port j := Tab.get_set _ _ _ _ _
@[simp] theorem State.setPort_rd : (s.setPort k x).rd f i = s.rd f i := rfl
@[simp] theorem State.setPort_pending : (s.setPort k x).pending = s.pending := rfl
@[simp] theorem State.setPort_regs : (s.setPort k x).regs = s.regs := rfl
@[simp] theorem State.setPort_tick : (s.setPort k x).tick = s.tick := rfl
@[simp] theorem State.setPort_bootUs : (s.setPort k x).bootUs = s.bootUs := rfl
@[simp] theorem State.setPort_part : (s.setPort k x).part = s.part := rfl
@[simp] theorem State.setPort_sense : (s.setPort k x).sense = s.sense := rfl
@[simp] theorem State.setPort_setts : (s.setPort k x).setts = s.setts := rfl
@[simp] theorem State.setPort_zither : (s.setPort k x).zither = s.zither := rfl
@[simp] theorem State.setPort_feed : (s.setPort k x).feed = s.feed := rfl
@[simp] theorem State.setPort_harps : (s.setPort k x).harps = s.harps := rfl
@[simp] theorem State.setPort_marten : (s.setPort k x).marten = s.marten := rfl
@[simp] theorem State.setPort_cooling : (s.setPort k x).cooling = s.cooling := rfl
@[simp] theorem State.setPort_host : (s.setPort k x).host = s.host := rfl
@[simp] theorem State.setPort_lasers : (s.setPort k x).lasers = s.lasers := rfl
@[simp] theorem State.setPort_wards : (s.setPort k x).wards = s.wards := rfl
@[simp] theorem State.setPort_recorder : (s.setPort k x).recorder = s.recorder := rfl
@[simp] theorem State.setPort_secure : (s.setPort k x).secure = s.secure := rfl
@[simp] theorem State.setPort_burrow : (s.setPort k x).burrow = s.burrow := rfl
@[simp] theorem State.setPort_twin : (s.setPort k x).twin = s.twin := rfl
end

section
variable (x : Laser)
@[simp] theorem State.setLaser_laser : (s.setLaser k x).laser j = if k = j then x else s.laser j := Tab.get_set _ _ _ _ _
@[simp] theorem State.setLaser_rd : (s.setLaser k x).rd f i = s.rd f i := rfl
@[simp] theorem State.setLaser_pending : (s.setLaser k x).pending = s.pending := rfl
@[simp] theorem State.setLaser_regs : (s.setLaser k x).regs = s.regs := rfl
@[simp] theorem State.setLaser_tick : (s.setLaser k x).tick = s.tick := rfl
@[simp] theorem State.setLaser_bootUs : (s.setLaser k x).bootUs = s.bootUs := rfl
@[simp] theorem State.setLaser_part : (s.setLaser k x).part = s.part := rfl
@[simp] theorem State.setLaser_sense : (s.setLaser k x).sense = s.sense := rfl
@[simp] theorem State.setLaser_setts : (s.setLaser k x).setts = s.setts := rfl
@[simp] theorem State.setLaser_zither : (s.setLaser k x).zither = s.zither := rfl
@[simp] theorem State.setLaser_feed : (s.setLaser k x).feed = s.feed := rfl
@[simp] theorem State.setLaser_harps : (s.setLaser k x).harps = s.harps := rfl
@[simp] theorem State.setLaser_marten : (s.setLaser k x).marten = s.marten := rfl
@[simp] theorem State.setLaser_cooling : (s.setLaser k x).cooling = s.cooling := rfl
@[simp] theorem State.setLaser_host : (s.setLaser k x).host = s.host := rfl
@[simp] theorem State.setLaser_ports : (s.setLaser k x).ports = s.ports := rfl
@[simp] theorem State.setLaser_wards : (s.setLaser k x).wards = s.wards := rfl
@[simp] theorem State.setLaser_recorder : (s.setLaser k x).recorder = s.recorder := rfl
@[simp] theorem State.setLaser_secure : (s.setLaser k x).secure = s.secure := rfl
@[simp] theorem State.setLaser_burrow : (s.setLaser k x).burrow = s.burrow := rfl
@[simp] theorem State.setLaser_twin : (s.setLaser k x).twin = s.twin := rfl
end

section
variable (x : Ward)
@[simp] theorem State.setWard_ward : (s.setWard k x).ward j = if k = j then x else s.ward j := Tab.get_set _ _ _ _ _
@[simp] theorem State.setWard_rd : (s.setWard k x).rd f i = s.rd f i := rfl
@[simp] theorem State.setWard_pending : (s.setWard k x).pending = s.pending := rfl
@[simp] theorem State.setWard_regs : (s.setWard k x).regs = s.regs := rfl
@[simp] theorem State.setWard_tick : (s.setWard k x).tick = s.tick := rfl
@[simp] theorem State.setWard_bootUs : (s.setWard k x).bootUs = s.bootUs := rfl
@[simp] theorem State.setWard_part : (s.setWard k x).part = s.part := rfl
@[simp] theorem State.setWard_sense : (s.setWard k x).sense = s.sense := rfl
@[simp] theorem State.setWard_setts : (s.setWard k x).setts = s.setts := rfl
@[simp] theorem State.setWard_zither : (s.setWard k x).zither = s.zither := rfl
@[simp] theorem State.setWard_feed : (s.setWard k x).feed = s.feed := rfl
@[simp] theorem State.setWard_harps : (s.setWard k x).harps = s.harps := rfl
@[simp] theorem State.setWard_marten : (s.setWard k x).marten = s.marten := rfl
@[simp] theorem State.setWard_cooling : (s.setWard k x).cooling = s.cooling := rfl
@[simp] theorem State.setWard_host : (s.setWard k x).host = s.host := rfl
@[simp] theorem State.setWard_ports : (s.setWard k x).ports = s.ports := rfl
@[simp] theorem State.setWard_lasers : (s.setWard k x).lasers = s.lasers := rfl
@[simp] theorem State.setWard_recorder : (s.setWard k x).recorder = s.recorder := rfl
@[simp] theorem State.setWard_secure : (s.setWard k x).secure = s.secure := rfl
@[simp] theorem State.setWard_burrow : (s.setWard k x).burrow = s.burrow := rfl
@[simp] theorem State.setWard_twin : (s.setWard k x).twin = s.twin := rfl
end

@[simp] theorem State.wr_chan : (s.wr f i v).chan j = s.chan j := rfl
@[simp] theorem State.wr_win : (s.wr f i v).win j = s.win j := rfl
@[simp] theorem State.wr_meter : (s.wr f i v).meter j = s.meter j := rfl
@[simp] theorem State.wr_engine : (s.wr f i v).engine j = s.engine j := rfl
@[simp] theorem State.wr_zent : (s.wr f i v).zent j = s.zent j := rfl
@[simp] theorem State.wr_zgrp : (s.wr f i v).zgrp j = s.zgrp j := rfl
@[simp] theorem State.wr_harp : (s.wr f i v).harp j = s.harp j := rfl
@[simp] theorem State.wr_tile : (s.wr f i v).tile j = s.tile j := rfl
@[simp] theorem State.wr_fan : (s.wr f i v).fan j = s.fan j := rfl
@[simp] theorem State.wr_flowOf : (s.wr f i v).flowOf j = s.flowOf j := rfl
@[simp] theorem State.wr_pair : (s.wr f i v).pair j = s.pair j := rfl
@[simp] theorem State.wr_port : (s.wr f i v).port j = s.port j := rfl
@[simp] theorem State.wr_laser : (s.wr f i v).laser j = s.laser j := rfl
@[simp] theorem State.wr_ward : (s.wr f i v).ward j = s.ward j := rfl

@[simp] theorem State.record_chan (code source : Nat) (data : List Nat) : (s.record code source data).chan j = s.chan j := by simp [State.chan]
@[simp] theorem State.record_win (code source : Nat) (data : List Nat) : (s.record code source data).win j = s.win j := by simp [State.win]
@[simp] theorem State.record_meter (code source : Nat) (data : List Nat) : (s.record code source data).meter j = s.meter j := by simp [State.meter]
@[simp] theorem State.record_engine (code source : Nat) (data : List Nat) : (s.record code source data).engine j = s.engine j := by simp [State.engine]
@[simp] theorem State.record_zent (code source : Nat) (data : List Nat) : (s.record code source data).zent j = s.zent j := by simp [State.zent]
@[simp] theorem State.record_zgrp (code source : Nat) (data : List Nat) : (s.record code source data).zgrp j = s.zgrp j := by simp [State.zgrp]
@[simp] theorem State.record_harp (code source : Nat) (data : List Nat) : (s.record code source data).harp j = s.harp j := by simp [State.harp]
@[simp] theorem State.record_tile (code source : Nat) (data : List Nat) : (s.record code source data).tile j = s.tile j := by simp [State.tile]
@[simp] theorem State.record_fan (code source : Nat) (data : List Nat) : (s.record code source data).fan j = s.fan j := by simp [State.fan]
@[simp] theorem State.record_flowOf (code source : Nat) (data : List Nat) : (s.record code source data).flowOf j = s.flowOf j := by simp [State.flowOf]
@[simp] theorem State.record_port (code source : Nat) (data : List Nat) : (s.record code source data).port j = s.port j := by simp [State.port]
@[simp] theorem State.record_laser (code source : Nat) (data : List Nat) : (s.record code source data).laser j = s.laser j := by simp [State.laser]
@[simp] theorem State.record_ward (code source : Nat) (data : List Nat) : (s.record code source data).ward j = s.ward j := by simp [State.ward]

end Sys2Proof.Machine
end

