-- ==== Sys2Proof/Laws/Within.lean ====
section
/-!
SUPPORT. The frame by field numbers: from one state to the next nothing changes but the named parts and the register fields of the named
numbers, in whatever instance, and memory keeps its canonical form. Every operation of the model has one lemma of this kind (Laws/Ops.lean), so
that no proof about a command unfolds what it calls.
-/
namespace Sys2Proof.Machine
set_option Elab.async false

/-- Nothing changes from `s` to `t` but the parts `bs` and the fields numbered in `cs`, canonical memory stays canonical, and where no records
wait for the end of a cycle none wait after. -/
def Within (bs : List Block) (cs : List Nat) (s t : State) : Prop :=
  (∀ b, b ∉ bs → b.same s t) ∧ (∀ (f : Fld) (i : Nat), f.code ∉ cs → f.code < 16384 → t.rd f i = s.rd f i) ∧ (MemWf s → MemWf t) ∧
    (s.burrow.batch = none → t.burrow.batch = none)

/-- A field whose number is below the span of an instance: every field of the T840 is. -/
def Fld.ok (f : Fld) : Bool := decide (f.code < 16384)

variable {bs bs' : List Block} {cs cs' : List Nat} {s t u : State}

theorem Within.refl (bs : List Block) (cs : List Nat) (s : State) : Within bs cs s s :=
  ⟨(Frame.refl s bs []).1, fun _ _ _ _ => rfl, id, id⟩

/-- The lists of a smaller frame are contained in those of a larger. -/
def covers (bs bs' : List Block) (cs cs' : List Nat) : Bool := bs'.all (fun b => bs.contains b) && cs'.all (fun c => cs.contains c)

theorem Within.step (h : Within bs cs s t) (h' : Within bs' cs' t u) (hc : covers bs bs' cs cs' = true) : Within bs cs s u := by
  simp only [covers, Bool.and_eq_true, List.all_eq_true, List.contains_iff_mem] at hc
  exact ⟨fun b hb => Block.same_trans (h.1 b hb) (h'.1 b (fun hm => hb (hc.1 b hm))),
    fun f i hf hl => (h'.2.1 f i (fun hm => hf (hc.2 _ hm)) hl).trans (h.2.1 f i hf hl), fun hm => h'.2.2.1 (h.2.2.1 hm),
    fun hq => h'.2.2.2 (h.2.2.2 hq)⟩

theorem Within.trans (h : Within bs cs s t) (h' : Within bs cs t u) : Within bs cs s u :=
  ⟨fun b hb => Block.same_trans (h.1 b hb) (h'.1 b hb), fun f i hf hl => (h'.2.1 f i hf hl).trans (h.2.1 f i hf hl),
    fun hm => h'.2.2.1 (h.2.2.1 hm), fun hq => h'.2.2.2 (h.2.2.2 hq)⟩

/-- The write of a register keeps the bank in order. -/
theorem MemWf.wr (f : Fld) (i v : Nat) (h : MemWf s) : MemWf (s.wr f i v) := by
  refine ⟨h.1, h.2.1, ?_⟩
  simp only [State.wr, Tab.set]
  split
  · exact Tab.sortedFrom_del _ _ h.2.2
  · exact Tab.sortedFrom_ins_del _ _ _ (Nat.zero_le _) h.2.2

theorem Within.wr (f : Fld) (i v : Nat) (h : Within bs cs s t) (hf : cs.contains f.code && f.ok) : Within bs cs s (t.wr f i v) := by
  simp only [Bool.and_eq_true, List.contains_iff_mem, Fld.ok, decide_eq_true_eq] at hf
  refine ⟨fun b hb => Block.same_trans (h.1 b hb) ?_, fun g j hg hl => ?_, fun hm => (h.2.2.1 hm).wr f i v, h.2.2.2⟩
  · exact Block.same_regs t (Tab.set (f.dfltAt i) t.regs (f.key i) (v % 2 ^ f.width)) b
  · exact (State.rd_wr_code t f g i j v (fun he => hg (he ▸ hf.1)) hf.2 hl).trans (h.2.1 g j hg hl)

theorem Within.wrBit (f : Fld) (i : Nat) (b : Bool) (h : Within bs cs s t) (hf : cs.contains f.code && f.ok) :
    Within bs cs s (t.wrBit f i b) := h.wr f i _ hf

theorem Within.addSat (f : Fld) (i v : Nat) (h : Within bs cs s t) (hf : cs.contains f.code && f.ok) :
    Within bs cs s (t.addSat f i v) := h.wr f i _ hf

theorem Within.addWrap (f : Fld) (i v : Nat) (h : Within bs cs s t) (hf : cs.contains f.code && f.ok) :
    Within bs cs s (t.addWrap f i v) := h.wr f i _ hf

theorem Within.writeFld (f : Fld) (i v : Nat) (h : Within bs cs s t) (hf : cs.contains f.code && f.ok) :
    Within bs cs s (t.writeFld f i v) := by
  unfold State.writeFld
  repeat' split
  all_goals first | exact h | exact h.wr _ _ _ hf

theorem Within.each {ι : Type} (l : List ι) (g : ι → State → State) (h : Within bs cs s t)
    (hg : ∀ i ∈ l, ∀ u, Within bs cs s u → Within bs cs s (g i u)) : Within bs cs s (each l g t) := by
  induction l generalizing t with
  | nil => exact h
  | cons i l ih => exact ih (hg i (List.mem_cons_self) t h) (fun j hj => hg j (List.mem_cons_of_mem _ hj))

theorem Within.upTo (n : Nat) (g : Nat → State → State) (h : Within bs cs s t)
    (hg : ∀ i u, Within bs cs s u → Within bs cs s (g i u)) : Within bs cs s (upTo n g t) := by
  induction n with
  | zero => exact h
  | succ n ih => exact hg n _ ih

theorem Within.writeFlds (fs : List Fld) (i v : Nat) (h : Within bs cs s t) (hf : fs.all (fun f => cs.contains f.code && f.ok) = true) :
    Within bs cs s (t.writeFlds fs i v) := by
  simp only [List.all_eq_true] at hf
  exact Within.each fs _ h fun f hm u hu => hu.writeFld f i _ (hf f hm)

theorem Within.ite {c : Prop} [Decidable c] {a b : State} (ha : Within bs cs s a) (hb : Within bs cs s b) :
    Within bs cs s (if c then a else b) := by
  split
  · exact ha
  · exact hb

theorem Within.when (g : Bool) (f : State → State) (h : Within bs cs s t) (hf : Within bs cs s (f t)) : Within bs cs s (t.when g f) := by
  unfold State.when
  exact Within.ite hf h

/-- An update that leaves the register bank alone. -/
theorem Within.upd (h : Within bs cs s t) (hr : u.regs = t.regs) (hb : ∀ b, b ∉ bs → b.same t u)
    (hm : Tab.wf 0 t.setts.shmem = true ∧ Tab.wf 0 t.recorder.hbm = true →
      Tab.wf 0 u.setts.shmem = true ∧ Tab.wf 0 u.recorder.hbm = true)
    (hq : t.burrow.batch = none → u.burrow.batch = none := by exact id) : Within bs cs s u :=
  ⟨fun b hn => Block.same_trans (h.1 b hn) (hb b hn), fun f i hf hl => (State.rd_regs f i hr).trans (h.2.1 f i hf hl),
    fun hs => have ha := h.2.2.1 hs; ⟨(hm ⟨ha.1, ha.2.1⟩).1, (hm ⟨ha.1, ha.2.1⟩).2, hr ▸ ha.2.2⟩, fun hb => hq (h.2.2.2 hb)⟩

theorem Within.raiseInt (c m : Fld) (h : Within bs cs s t) (hb : bs.contains .msix = true) (hf : cs.contains c.code && c.ok) :
    Within bs cs s (t.raiseInt c m) := by
  have hw := h.wr c 0 1 hf
  unfold State.raiseInt
  refine Within.ite h ?_
  refine Within.ite hw (Within.upd (t := t.wr c 0 1) hw rfl (fun b hn => ?_) id)
  cases b <;> first | rfl | exact absurd (List.contains_iff_mem.mp hb) hn

/-! ## One part replaced -/

theorem Within.set_pending (z) (h : Within bs cs s t) (hb : bs.contains .pending = true) : Within bs cs s { t with pending := z } :=
  h.upd rfl (fun b hn => by
    cases b <;> first | exact absurd (List.contains_iff_mem.mp hb) hn | rfl) id

theorem Within.set_tick (z) (h : Within bs cs s t) (hb : bs.contains .tick = true) : Within bs cs s { t with tick := z } :=
  h.upd rfl (fun b hn => by
    cases b <;> first | exact absurd (List.contains_iff_mem.mp hb) hn | rfl) id

theorem Within.set_bootUs (z) (h : Within bs cs s t) (hb : bs.contains .bootUs = true) : Within bs cs s { t with bootUs := z } :=
  h.upd rfl (fun b hn => by
    cases b <;> first | exact absurd (List.contains_iff_mem.mp hb) hn | rfl) id

theorem Within.set_part (z) (h : Within bs cs s t) (hb : bs.contains .part = true) : Within bs cs s { t with part := z } :=
  h.upd rfl (fun b hn => by
    cases b <;> first | exact absurd (List.contains_iff_mem.mp hb) hn | rfl) id

theorem Within.set_sense (z) (h : Within bs cs s t) (hb : bs.contains .sense = true) : Within bs cs s { t with sense := z } :=
  h.upd rfl (fun b hn => by
    cases b <;> first | exact absurd (List.contains_iff_mem.mp hb) hn | rfl) id

theorem Within.set_zither (z) (h : Within bs cs s t) (hb : bs.contains .zither = true) : Within bs cs s { t with zither := z } :=
  h.upd rfl (fun b hn => by
    cases b <;> first | exact absurd (List.contains_iff_mem.mp hb) hn | rfl) id

theorem Within.set_feed (z) (h : Within bs cs s t) (hb : bs.contains .feed = true) : Within bs cs s { t with feed := z } :=
  h.upd rfl (fun b hn => by
    cases b <;> first | exact absurd (List.contains_iff_mem.mp hb) hn | rfl) id

theorem Within.set_harps (z) (h : Within bs cs s t) (hb : bs.contains .harps = true) : Within bs cs s { t with harps := z } :=
  h.upd rfl (fun b hn => by
    cases b <;> first | exact absurd (List.contains_iff_mem.mp hb) hn | rfl) id

theorem Within.set_marten (z) (h : Within bs cs s t) (hb : bs.contains .marten = true) : Within bs cs s { t with marten := z } :=
  h.upd rfl (fun b hn => by
    cases b <;> first | exact absurd (List.contains_iff_mem.mp hb) hn | rfl) id

theorem Within.set_cooling (z) (h : Within bs cs s t) (hb : bs.contains .cooling = true) : Within bs cs s { t with cooling := z } :=
  h.upd rfl (fun b hn => by
    cases b <;> first | exact absurd (List.contains_iff_mem.mp hb) hn | rfl) id

theorem Within.set_ports (z) (h : Within bs cs s t) (hb : bs.contains .ports = true) : Within bs cs s { t with ports := z } :=
  h.upd rfl (fun b hn => by
    cases b <;> first | exact absurd (List.contains_iff_mem.mp hb) hn | rfl) id

theorem Within.set_lasers (z) (h : Within bs cs s t) (hb : bs.contains .lasers = true) : Within bs cs s { t with lasers := z } :=
  h.upd rfl (fun b hn => by
    cases b <;> first | exact absurd (List.contains_iff_mem.mp hb) hn | rfl) id

theorem Within.set_wards (z) (h : Within bs cs s t) (hb : bs.contains .wards = true) : Within bs cs s { t with wards := z } :=
  h.upd rfl (fun b hn => by
    cases b <;> first | exact absurd (List.contains_iff_mem.mp hb) hn | rfl) id

theorem Within.set_secure (z) (h : Within bs cs s t) (hb : bs.contains .secure = true) : Within bs cs s { t with secure := z } :=
  h.upd rfl (fun b hn => by
    cases b <;> first | exact absurd (List.contains_iff_mem.mp hb) hn | rfl) id

theorem Within.set_burrow (z) (h : Within bs cs s t) (hb : bs.contains .burrow = true) (hq : t.burrow.batch = none → z.batch = none) :
    Within bs cs s { t with burrow := z } :=
  h.upd rfl (fun b hn => by
    cases b <;> first | exact absurd (List.contains_iff_mem.mp hb) hn | rfl) id hq

theorem Within.set_twin (z) (h : Within bs cs s t) (hb : bs.contains .twin = true) : Within bs cs s { t with twin := z } :=
  h.upd rfl (fun b hn => by
    cases b <;> first | exact absurd (List.contains_iff_mem.mp hb) hn | rfl) id

/-- Several parts replaced at once. -/
theorem Within.lit (t : State) {pending : List Instr} {regs : Tab Nat} {tick bootUs : Nat} {part : Part} {sense : Sense} {setts : Setts}
    {zither : Zither} {feed : Feed} {harps : Tab Harp} {marten : Marten} {cooling : Cooling} {host : HostIf} {ports : Tab Port}
    {lasers : Lasers} {wards : Wards} {recorder : Recorder} {secure : Secure} {burrow : Burrow} {twin : Twin}
    (h : Within bs cs s t) (hr : regs = t.regs)
    (hb : ∀ b, b ∉ bs → b.same t ⟨pending, regs, tick, bootUs, part, sense, setts, zither, feed, harps, marten, cooling, host, ports, lasers, wards,
      recorder, secure, burrow, twin⟩)
    (hm : Tab.wf 0 t.setts.shmem = true ∧ Tab.wf 0 t.recorder.hbm = true → Tab.wf 0 setts.shmem = true ∧ Tab.wf 0 recorder.hbm = true)
    (hq : t.burrow.batch = none → burrow.batch = none) :
    Within bs cs s ⟨pending, regs, tick, bootUs, part, sense, setts, zither, feed, harps, marten, cooling, host, ports, lasers, wards,
      recorder, secure, burrow, twin⟩ := h.upd hr hb hm hq

theorem Within.set_engines (z) (h : Within bs cs s t) (hengines : bs.contains .engines = true) (he : z.shmem = t.setts.shmem) (h2 : { z with engines := t.setts.engines, shmem := t.setts.shmem } = t.setts) : Within bs cs s { t with setts := z } :=
  h.upd rfl (fun b hn => by
    cases b <;> first | exact absurd (List.contains_iff_mem.mp hengines) hn | rfl | assumption) (fun h => ⟨he ▸ h.1, h.2⟩)

theorem Within.set_settRest (z) (h : Within bs cs s t) (hsettRest : bs.contains .settRest = true) (h2 : z.engines = t.setts.engines) (he : z.shmem = t.setts.shmem) : Within bs cs s { t with setts := z } :=
  h.upd rfl (fun b hn => by
    cases b <;> first | exact absurd (List.contains_iff_mem.mp hsettRest) hn | rfl | assumption) (fun h => ⟨he ▸ h.1, h.2⟩)

theorem Within.set_engRest (z) (h : Within bs cs s t) (hengines : bs.contains .engines = true) (hsettRest : bs.contains .settRest = true) (he : z.shmem = t.setts.shmem) : Within bs cs s { t with setts := z } :=
  h.upd rfl (fun b hn => by
    cases b <;> first | exact absurd (List.contains_iff_mem.mp hengines) hn | exact absurd (List.contains_iff_mem.mp hsettRest) hn | rfl | assumption) (fun h => ⟨he ▸ h.1, h.2⟩)

theorem Within.set_shRest (z) (h : Within bs cs s t) (hsharedMemory : bs.contains .sharedMemory = true) (hsettRest : bs.contains .settRest = true) (h2 : z.engines = t.setts.engines) (hw : Tab.wf 0 t.setts.shmem = true → Tab.wf 0 z.shmem = true) : Within bs cs s { t with setts := z } :=
  h.upd rfl (fun b hn => by
    cases b <;> first | exact absurd (List.contains_iff_mem.mp hsharedMemory) hn | exact absurd (List.contains_iff_mem.mp hsettRest) hn | rfl | assumption) (fun h => ⟨hw h.1, h.2⟩)

theorem Within.set_setts (z) (h : Within bs cs s t) (hengines : bs.contains .engines = true) (hsharedMemory : bs.contains .sharedMemory = true) (hsettRest : bs.contains .settRest = true) (hw : Tab.wf 0 t.setts.shmem = true → Tab.wf 0 z.shmem = true) : Within bs cs s { t with setts := z } :=
  h.upd rfl (fun b hn => by
    cases b <;> first | exact absurd (List.contains_iff_mem.mp hengines) hn | exact absurd (List.contains_iff_mem.mp hsharedMemory) hn | exact absurd (List.contains_iff_mem.mp hsettRest) hn | rfl | assumption) (fun h => ⟨hw h.1, h.2⟩)

theorem Within.set_msix (z) (h : Within bs cs s t) (hmsix : bs.contains .msix = true) (h2 : { z with msix := t.host.msix } = t.host) : Within bs cs s { t with host := z } :=
  h.upd rfl (fun b hn => by
    cases b <;> first | exact absurd (List.contains_iff_mem.mp hmsix) hn | rfl | assumption) id

theorem Within.set_hostRest (z) (h : Within bs cs s t) (hhostRest : bs.contains .hostRest = true) (h2 : z.msix = t.host.msix) : Within bs cs s { t with host := z } :=
  h.upd rfl (fun b hn => by
    cases b <;> first | exact absurd (List.contains_iff_mem.mp hhostRest) hn | rfl | assumption) id

theorem Within.set_host (z) (h : Within bs cs s t) (hmsix : bs.contains .msix = true) (hhostRest : bs.contains .hostRest = true)  : Within bs cs s { t with host := z } :=
  h.upd rfl (fun b hn => by
    cases b <;> first | exact absurd (List.contains_iff_mem.mp hmsix) hn | exact absurd (List.contains_iff_mem.mp hhostRest) hn | rfl | assumption) id

theorem Within.set_recRest (z) (h : Within bs cs s t) (hrecorderRest : bs.contains .recorderRest = true) (he : z.hbm = t.recorder.hbm) : Within bs cs s { t with recorder := z } :=
  h.upd rfl (fun b hn => by
    cases b <;> first | exact absurd (List.contains_iff_mem.mp hrecorderRest) hn | rfl | assumption) (fun h => ⟨h.1, he ▸ h.2⟩)

theorem Within.set_hbm (z) (h : Within bs cs s t) (hhbm : bs.contains .hbm = true) (h2 : { z with hbm := t.recorder.hbm } = t.recorder) (hw : Tab.wf 0 t.recorder.hbm = true → Tab.wf 0 z.hbm = true) : Within bs cs s { t with recorder := z } :=
  h.upd rfl (fun b hn => by
    cases b <;> first | exact absurd (List.contains_iff_mem.mp hhbm) hn | rfl | assumption) (fun h => ⟨h.1, hw h.2⟩)

theorem Within.set_recorder (z) (h : Within bs cs s t) (hhbm : bs.contains .hbm = true) (hrecorderRest : bs.contains .recorderRest = true) (hw : Tab.wf 0 t.recorder.hbm = true → Tab.wf 0 z.hbm = true) : Within bs cs s { t with recorder := z } :=
  h.upd rfl (fun b hn => by
    cases b <;> first | exact absurd (List.contains_iff_mem.mp hhbm) hn | exact absurd (List.contains_iff_mem.mp hrecorderRest) hn | rfl | assumption) (fun h => ⟨h.1, hw h.2⟩)

/-- A field whose number the frame does not name reads as before. -/
theorem Within.rd (h : Within bs cs s t) (f : Fld) (i : Nat) (hf : (!cs.contains f.code && f.ok) = true) : t.rd f i = s.rd f i := by
  simp only [Bool.and_eq_true, Bool.not_eq_true', Fld.ok, decide_eq_true_eq] at hf
  exact h.2.1 f i (fun hm => by rw [List.contains_iff_mem.mpr hm] at hf; cases hf.1) hf.2

theorem Within.bit (h : Within bs cs s t) (f : Fld) (i : Nat) (hf : (!cs.contains f.code && f.ok) = true) : t.bit f i = s.bit f i := by
  simp only [State.bit, h.rd f i hf]

/-- A part that the frame does not name is as before. -/
theorem Within.block (h : Within bs cs s t) (b : Block) (hb : bs.contains b = false) : b.same s t :=
  h.1 b fun hm => by rw [List.contains_iff_mem.mpr hm] at hb; cases hb

/-- A frame by numbers is one by fields. -/
theorem Within.touches {fs : List Fld} (h : Within bs cs s t) (hb : bs.all (fun b => bs'.contains b) = true)
    (hc : cs.all (fun c => (fs.map (·.code)).contains c) = true) : Touches bs' fs s t := by
  simp only [List.all_eq_true, List.contains_iff_mem] at hb hc
  refine ⟨fun b hn => h.1 b (fun hm => hn (hb b hm)), fun f i hl hf => h.2.1 f i (fun hm => ?_) hl⟩
  obtain ⟨g, hg, he⟩ := List.mem_map.mp (hc _ hm)
  exact hf g hg he

/-- Whatever next state an outcome answers, nothing changes from `s` to it but the named parts and fields. -/
def OutWithin (bs : List Block) (cs : List Nat) (s : State) (o : Out) : Prop := ∀ u, o = .next u → Within bs cs s u

theorem OutWithin.next (h : Within bs cs s t) : OutWithin bs cs s (.next t) := fun u hu => by cases hu; exact h

theorem OutWithin.fault (r : Fault) : OutWithin bs cs s (.fault r) := fun u hu => by cases hu

theorem OutWithin.doIf {g : Bool} (h : Within bs cs s t) : OutWithin bs cs s (Sys2Proof.Machine.doIf g s t) :=
  OutWithin.next (Within.ite h (Within.refl _ _ s))

theorem OutWithin.ite {c : Prop} [Decidable c] {a b : Out} (ha : OutWithin bs cs s a) (hb : OutWithin bs cs s b) :
    OutWithin bs cs s (if c then a else b) := by
  split
  · exact ha
  · exact hb

theorem OutWithin.mono {o : Out} (h : OutWithin bs' cs' s o) (hc : covers bs bs' cs cs' = true) : OutWithin bs cs s o :=
  fun u hu => (Within.refl _ _ s).step (h u hu) hc

/-- Fields of one instance written one after another. -/
theorem Within.eachWr (l : List Fld) (i : Nat) (v : Fld → Nat) (h : Within bs cs s t)
    (hf : l.all (fun f => cs.contains f.code && f.ok) = true) : Within bs cs s (Sys2Proof.Machine.each l (fun f s => s.wr f i (v f)) t) := by
  simp only [List.all_eq_true] at hf
  exact Within.each l _ h fun f hm u hu => hu.wr f i _ (hf f hm)

theorem Tab.get_filter {α : Type} (d : α) (p : Nat × α → Bool) (l : Tab α) (k : Nat) (h : ∀ v, p (k, v) = true) :
    Tab.get d (l.filter p) k = Tab.get d l k := by
  induction l with
  | nil => rfl
  | cons e l ih =>
    by_cases hk : e.1 = k
    · have : p e = true := by rw [show e = (k, e.2) by rw [← hk]]; exact h _
      simp [List.filter, this, Tab.get, hk]
    · by_cases hp : p e = true
      · simp [List.filter, hp, Tab.get, hk, ih]
      · simp [List.filter, hp, Tab.get, hk, ih]

theorem Tab.sortedFrom_filter {α : Type} (p : Nat × α → Bool) (l : Tab α) {a : Nat} (h : Tab.sortedFrom l a = true) :
    Tab.sortedFrom (l.filter p) a = true := by
  induction l generalizing a with
  | nil => rfl
  | cons e l ih =>
    simp only [Tab.sortedFrom, Bool.and_eq_true, decide_eq_true_eq] at h
    by_cases hp : p e = true
    · simp only [List.filter, hp, Tab.sortedFrom, Bool.and_eq_true, decide_eq_true_eq]; exact ⟨h.1, ih h.2⟩
    · simp only [List.filter, hp]; exact ih (Tab.sortedFrom_mono l (by omega) h.2)

/-- Entries taken out leave a canonical table. -/
theorem Tab.wf_filter {α : Type} [DecidableEq α] (d : α) (p : Nat × α → Bool) (l : Tab α) (h : Tab.wf d l = true) :
    Tab.wf d (l.filter p) = true := by
  simp only [Tab.wf, Bool.and_eq_true] at h ⊢
  exact ⟨Tab.sortedFrom_filter p l h.1, by
    simp only [List.all_eq_true] at *; exact fun e he => h.2 e (List.mem_filter.mp he).1⟩

/-- Fields put back to their reset values in every instance. -/
theorem Within.clearFlds (fs : List Fld) (h : Within bs cs s t) (hf : fs.all (fun f => cs.contains f.code && f.ok) = true) :
    Within bs cs s (t.clearFlds fs) := by
  refine ⟨fun b hb => Block.same_trans (h.1 b hb) (Block.same_regs t _ b), fun g i hg hl => ?_,
    fun hm => ⟨(h.2.2.1 hm).1, (h.2.2.1 hm).2.1, Tab.sortedFrom_filter _ _ (h.2.2.1 hm).2.2⟩, h.2.2.2⟩
  · rw [← h.2.1 g i hg hl]
    simp only [State.rd, State.clearFlds]
    refine Tab.get_filter _ _ _ _ fun v => ?_
    simp only [Bool.not_eq_true', List.any_eq_false, beq_iff_eq]
    intro f hm he
    have hk : g.key i % 16384 = g.code := by simp only [Fld.key]; omega
    have := List.all_eq_true.mp hf f hm
    simp only [Bool.and_eq_true, List.contains_iff_mem] at this
    exact hg (hk ▸ he ▸ this.1)

/-- A frame of fields of the register bank is one of their numbers. -/
theorem Frame.within {fs : List (Fld × Nat)} (h : Frame bs fs s t) (hm : MemWf s → MemWf t)
    (hq : s.burrow.batch = none → t.burrow.batch = none) (hf : fs.all (fun e => e.1.ok) = true) :
    Within bs (fs.map fun e => e.1.code) s t :=
  ⟨h.1, fun f i hn hl => h.2 f i fun e he => Fld.key_ne _ _ _ _ (fun hc => hn (by rw [← hc]; exact List.mem_map_of_mem he))
    (by have := List.all_eq_true.mp hf e he; simpa [Fld.ok] using this) hl, hm, hq⟩

end Sys2Proof.Machine
end

