-- ==== Sys2Proof/Laws/Ops.lean ====
section
/-!
SUPPORT. One lemma for each operation of the model that gives a state: the parts and the register fields that it may change. Every proof about
a command cites these and unfolds no operation.
-/
set_option linter.unusedVariables false
namespace Sys2Proof.Machine
set_option Elab.async false

theorem State.memCorr_within (s : State) (m : Nat) :
    Within [] [8192] s (State.memCorr s m) := by
  unfold State.memCorr
  try dsimp only
  repeat' first
    | with_reducible apply Within.refl
    | with_reducible assumption
    | with_reducible apply Within.ite ?_ ?_
    | ((with_reducible apply Within.addSat _ _ _ ?_ ?h1); (case h1 => rfl))

theorem State.memUncorr_within (s : State) (m : Nat) (scrub : Bool) (a : Nat) :
    Within [] [8208, 8384, 8443, 8444, 8447] s (State.memUncorr s m scrub a) := by
  unfold State.memUncorr
  try dsimp only
  repeat' first
    | with_reducible apply Within.refl
    | with_reducible assumption
    | with_reducible apply Within.ite ?_ ?_
    | ((with_reducible apply Within.wr _ _ _ ?_ ?h1); (case h1 => rfl))
    | ((with_reducible apply Within.wrBit _ _ _ ?_ ?h1); (case h1 => rfl))
    | ((with_reducible apply Within.addSat _ _ _ ?_ ?h1); (case h1 => rfl))

theorem State.offerFlash_within (s : State) (r : Rec) :
    Within [.burrow] [9344] s (State.offerFlash s r) := by
  unfold State.offerFlash
  try dsimp only
  repeat' first
    | with_reducible apply Within.refl
    | with_reducible assumption
    | with_reducible apply Within.ite ?_ ?_
    | ((with_reducible apply Within.addSat _ _ _ ?_ ?h1); (case h1 => rfl))
    | ((with_reducible apply Within.set_burrow _ ?_ ?h1 ?h2); (case h1 => rfl); (case h2 => intro hb; first | exact hb | rfl))

theorem State.offerMirror_within (s : State) (r : Rec) :
    Within [.burrow] [9152, 9280, 9408] s (State.offerMirror s r) := by
  unfold State.offerMirror
  try dsimp only
  repeat' first
    | with_reducible apply Within.refl
    | with_reducible assumption
    | with_reducible apply Within.ite ?_ ?_
    | ((with_reducible apply Within.addSat _ _ _ ?_ ?h1); (case h1 => rfl))
    | ((with_reducible apply Within.addWrap _ _ _ ?_ ?h1); (case h1 => rfl))
    | ((with_reducible apply Within.set_burrow _ ?_ ?h1 ?h2); (case h1 => rfl); (case h2 => intro hb; first | exact hb | rfl))

theorem State.sendMsi_within (s : State) (v : Nat) :
    Within [.msix] [] s (State.sendMsi s v) := by
  unfold State.sendMsi
  try dsimp only
  repeat' first
    | with_reducible apply Within.refl
    | with_reducible assumption
    | with_reducible apply Within.ite ?_ ?_
    | ((with_reducible apply Within.set_msix _ ?_ ?h1 ?h2); (case h1 => rfl); (case h2 => with_reducible rfl))

theorem State.eventInt_within (s : State) :
    Within [.msix, .burrow] [6914] s (State.eventInt s) := by
  unfold State.eventInt
  try dsimp only
  repeat' first
    | with_reducible apply Within.refl
    | with_reducible assumption
    | with_reducible apply Within.ite ?_ ?_
    | ((with_reducible apply Within.raiseInt _ _ ?_ ?h1 ?h2); (case h1 => rfl); (case h2 => rfl))
    | split
    | ((with_reducible apply Within.set_burrow _ ?_ ?h1 ?h2); (case h1 => rfl); (case h2 => intro hb; first | exact hb | rfl))

theorem State.offer_within (s : State) (r : Rec) :
    Within [.msix, .burrow] [6914, 9152, 9280, 9344, 9408] s (State.offer s r) := by
  unfold State.offer
  try dsimp only
  repeat' first
    | with_reducible apply Within.refl
    | with_reducible assumption
    | with_reducible apply Within.ite ?_ ?_
    | ((with_reducible apply Within.step ?_ (State.eventInt_within _) ?h1); (case h1 => rfl))
    | ((with_reducible apply Within.step ?_ (State.offerFlash_within _ _) ?h1); (case h1 => rfl))
    | ((with_reducible apply Within.step ?_ (State.offerMirror_within _ _) ?h1); (case h1 => rfl))

theorem State.record_within (s : State) (code source : Nat) (data : List Nat) : Within [.msix, .burrow] [6914, 9152, 9280, 9344, 9408] s (State.record s code source data) := by
  unfold State.record
  split
  · rename_i h
    exact Within.set_burrow _ (Within.refl _ _ s) rfl (fun hq => by rw [h] at hq; cases hq)
  · exact Within.step (Within.refl _ _ s) (State.offer_within s _) rfl

/-- What a cycle decides stays within a frame that holds what it does and what records touch. -/
theorem State.inOneCycle_within {bs : List Block} {cs : List Nat} {s t : State} {f : State → State} (h : Within bs cs s t)
    (hc : covers bs [.msix, .burrow] cs [6914, 9152, 9280, 9344, 9408] = true) (hf : ∀ r u, Within bs cs r u → Within bs cs r (f u)) : Within bs cs s (t.inOneCycle f) := by
  have hb : bs.contains .burrow = true := by
    simp only [covers, Bool.and_eq_true, List.all_cons] at hc
    exact hc.1.2.1
  have hl : ∀ (l : List Rec) (u : State), Within bs cs s u → Within bs cs s (l.foldl State.offer u) := by
    intro l
    induction l with
    | nil => exact fun u hu => hu
    | cons r l ih => exact fun u hu => ih _ (hu.step (State.offer_within u r) hc)
  have same : ∀ (u : State) (z : Burrow) (b : Block), b ∉ bs → b.same u { u with burrow := z } := fun u z b hn => by
    cases b <;> first | exact absurd (List.contains_iff_mem.mp hb) hn | rfl
  unfold State.inOneCycle
  refine Within.ite (h.trans (hf _ _ (Within.refl _ _ t))) (hl _ _ ?_)
  have hr := hf _ _ (Within.refl bs cs { t with burrow := { t.burrow with batch := some [] } })
  exact ⟨fun b hn => Block.same_trans (Block.same_trans (h.1 b hn) (same t _ b hn)) (Block.same_trans (hr.1 b hn) (same _ _ b hn)),
    fun g i hg hi => (hr.2.1 g i hg hi).trans (h.2.1 g i hg hi), fun hm => hr.2.2.1 (h.2.2.1 hm), fun _ => rfl⟩

theorem State.tellTwin_within (s : State) (c : TwinCmd) :
    Within [.twin] [] s (State.tellTwin s c) := by
  unfold State.tellTwin
  try dsimp only
  repeat' first
    | with_reducible apply Within.refl
    | with_reducible assumption
    | with_reducible apply Within.ite ?_ ?_
    | ((with_reducible apply Within.set_twin _ ?_ ?h1); (case h1 => rfl))

theorem State.judgeMatch_within (s : State) (join : Bool) :
    Within [.msix, .burrow] [6914, 9152, 9280, 9344, 9408, 9562] s (State.judgeMatch s join) := by
  unfold State.judgeMatch
  try dsimp only
  repeat' first
    | with_reducible apply Within.refl
    | with_reducible assumption
    | with_reducible apply Within.ite ?_ ?_
    | ((with_reducible apply Within.wrBit _ _ _ ?_ ?h1); (case h1 => rfl))
    | ((with_reducible apply Within.step ?_ (State.record_within _ _ _ _) ?h1); (case h1 => rfl))
    | split

theorem State.setIns_within (s : State) (v : Nat) :
    Within [.twin] [3357] s (State.setIns s v) := by
  unfold State.setIns
  try dsimp only
  repeat' first
    | with_reducible apply Within.refl
    | with_reducible assumption
    | with_reducible apply Within.ite ?_ ?_
    | ((with_reducible apply Within.wr _ _ _ ?_ ?h1); (case h1 => rfl))
    | ((with_reducible apply Within.step ?_ (State.tellTwin_within _ _) ?h1); (case h1 => rfl))

theorem State.setChan_within (s : State) (c : Nat) (v : Channel) :
    Within [.sense] [] s (State.setChan s c v) := by
  unfold State.setChan
  try dsimp only
  repeat' first
    | with_reducible apply Within.refl
    | with_reducible assumption
    | with_reducible apply Within.ite ?_ ?_
    | ((with_reducible apply Within.set_sense _ ?_ ?h1); (case h1 => rfl))

theorem State.setWin_within (s : State) (x : Nat) (v : Window) :
    Within [.sense] [] s (State.setWin s x v) := by
  unfold State.setWin
  try dsimp only
  repeat' first
    | with_reducible apply Within.refl
    | with_reducible assumption
    | with_reducible apply Within.ite ?_ ?_
    | ((with_reducible apply Within.set_sense _ ?_ ?h1); (case h1 => rfl))

theorem State.setMeter_within (s : State) (m : Nat) (v : Meter) :
    Within [.sense] [] s (State.setMeter s m v) := by
  unfold State.setMeter
  try dsimp only
  repeat' first
    | with_reducible apply Within.refl
    | with_reducible assumption
    | with_reducible apply Within.ite ?_ ?_
    | ((with_reducible apply Within.set_sense _ ?_ ?h1); (case h1 => rfl))

theorem State.setPort_within (s : State) (p : Nat) (v : Port) :
    Within [.ports] [] s (State.setPort s p v) := by
  unfold State.setPort
  try dsimp only
  repeat' first
    | with_reducible apply Within.refl
    | with_reducible assumption
    | with_reducible apply Within.ite ?_ ?_
    | ((with_reducible apply Within.set_ports _ ?_ ?h1); (case h1 => rfl))

theorem State.setEngine_within (s : State) (n : Nat) (e : Engine) :
    Within [.engines] [] s (State.setEngine s n e) := by
  unfold State.setEngine
  try dsimp only
  repeat' first
    | with_reducible apply Within.refl
    | with_reducible assumption
    | with_reducible apply Within.ite ?_ ?_
    | ((with_reducible apply Within.set_engines _ ?_ ?h1 ?h2 ?h3); (case h1 => rfl); (case h2 => with_reducible rfl); (case h3 => with_reducible rfl))

theorem State.setSh_within (s : State) (k : Nat) (v : Word) :
    Within [.sharedMemory, .settRest] [] s (State.setSh s k v) := by
  unfold State.setSh
  try dsimp only
  repeat' first
    | with_reducible apply Within.refl
    | with_reducible assumption
    | with_reducible apply Within.ite ?_ ?_
    | ((with_reducible apply Within.set_settRest _ ?_ ?h1 ?h2 ?h3); (case h1 => rfl); (case h2 => with_reducible rfl); (case h3 => with_reducible rfl))
    | ((with_reducible apply Within.set_shRest _ ?_ ?h1 ?h2 ?h3 ?h4); (case h1 => rfl); (case h2 => rfl); (case h3 => with_reducible rfl); (case h4 => intro hw; first | exact hw | exact Tab.wf_set _ _ _ _ hw | exact Tab.wf_filter _ _ _ hw | rfl))

theorem State.noteRead_within (s : State) (k : Nat) :
    Within [] [8192] s (State.noteRead s k) := by
  unfold State.noteRead
  try dsimp only
  repeat' first
    | with_reducible apply Within.refl
    | with_reducible assumption
    | with_reducible apply Within.ite ?_ ?_
    | ((with_reducible apply Within.step ?_ (State.memCorr_within _ _) ?h1); (case h1 => rfl))

theorem State.commitStore_within (s : State) (x : Commit) :
    Within [.sharedMemory, .settRest] [] s (State.commitStore s x) := by
  unfold State.commitStore
  try dsimp only
  repeat' first
    | with_reducible apply Within.refl
    | with_reducible assumption
    | with_reducible apply Within.ite ?_ ?_
    | ((with_reducible apply Within.step ?_ (State.setSh_within _ _ _) ?h1); (case h1 => rfl))
    | split
    | ((with_reducible apply Within.set_settRest _ ?_ ?h1 ?h2 ?h3); (case h1 => rfl); (case h2 => with_reducible rfl); (case h3 => with_reducible rfl))

theorem State.clearPriv_within (s : State) (n : Nat) :
    Within [.sharedMemory, .settRest] [] s (State.clearPriv s n) := by
  unfold State.clearPriv
  try dsimp only
  repeat' first
    | with_reducible apply Within.refl
    | with_reducible assumption
    | with_reducible apply Within.ite ?_ ?_
    | ((with_reducible apply Within.step ?_ (State.setSh_within _ _ _) ?h1); (case h1 => rfl))
    | with_reducible apply Within.upTo _ _ ?_ (fun _ _ _ => ?_)

theorem State.undoTick_within (s : State) (n : Nat) :
    Within [.engines, .sharedMemory, .settRest] [] s (State.undoTick s n) := by
  unfold State.undoTick
  try dsimp only
  repeat' first
    | with_reducible apply Within.refl
    | with_reducible assumption
    | with_reducible apply Within.ite ?_ ?_
    | ((with_reducible apply Within.step ?_ (State.setEngine_within _ _ _) ?h1); (case h1 => rfl))
    | ((with_reducible apply Within.step ?_ (State.setSh_within _ _ _) ?h1); (case h1 => rfl))
    | with_reducible apply Within.each _ _ ?_ (fun _ _ _ _ => ?_)

theorem State.engFault_within (s : State) (n cause : Nat) :
    Within [.engines, .sharedMemory, .settRest, .msix, .burrow] [6914, 9152, 9280, 9344, 9408] s (State.engFault s n cause) := by
  unfold State.engFault
  try dsimp only
  repeat' first
    | with_reducible apply Within.refl
    | with_reducible assumption
    | with_reducible apply Within.ite ?_ ?_
    | ((with_reducible apply Within.step ?_ (State.record_within _ _ _ _) ?h1); (case h1 => rfl))
    | ((with_reducible apply Within.step ?_ (State.setEngine_within _ _ _) ?h1); (case h1 => rfl))
    | ((with_reducible apply Within.step ?_ (State.undoTick_within _ _) ?h1); (case h1 => rfl))

theorem State.engUncorr_within (s : State) (n k : Nat) :
    Within [.engines, .sharedMemory, .settRest, .msix, .burrow] [6914, 8208, 8384, 8443, 8444, 8447, 9152, 9280, 9344, 9408] s (State.engUncorr s n k) := by
  unfold State.engUncorr
  try dsimp only
  repeat' first
    | with_reducible apply Within.refl
    | with_reducible assumption
    | with_reducible apply Within.ite ?_ ?_
    | ((with_reducible apply Within.step ?_ (State.engFault_within _ _ _) ?h1); (case h1 => rfl))
    | ((with_reducible apply Within.step ?_ (State.memUncorr_within _ _ _ _) ?h1); (case h1 => rfl))
    | ((with_reducible apply Within.step ?_ (State.record_within _ _ _ _) ?h1); (case h1 => rfl))

theorem State.overrun_within (s : State) (n : Nat) :
    Within [.engines, .sharedMemory, .settRest, .msix, .burrow] [6914, 9152, 9280, 9344, 9408] s (State.overrun s n) := by
  unfold State.overrun
  try dsimp only
  repeat' first
    | with_reducible apply Within.refl
    | with_reducible assumption
    | with_reducible apply Within.ite ?_ ?_
    | ((with_reducible apply Within.step ?_ (State.record_within _ _ _ _) ?h1); (case h1 => rfl))
    | ((with_reducible apply Within.step ?_ (State.setEngine_within _ _ _) ?h1); (case h1 => rfl))
    | ((with_reducible apply Within.step ?_ (State.undoTick_within _ _) ?h1); (case h1 => rfl))

theorem State.settle_within (s : State) (k : Nat) :
    Within [.settRest] [] s (State.settle s k) := by
  unfold State.settle
  try dsimp only
  repeat' first
    | with_reducible apply Within.refl
    | with_reducible assumption
    | with_reducible apply Within.ite ?_ ?_
    | split
    | ((with_reducible apply Within.set_settRest _ ?_ ?h1 ?h2 ?h3); (case h1 => rfl); (case h2 => with_reducible rfl); (case h3 => with_reducible rfl))

theorem State.settOff_within (s : State) (k : Nat) :
    Within [.engines, .sharedMemory, .settRest] [1280] s (State.settOff s k) := by
  unfold State.settOff
  try dsimp only
  repeat' first
    | with_reducible apply Within.refl
    | with_reducible assumption
    | with_reducible apply Within.ite ?_ ?_
    | ((with_reducible apply Within.wr _ _ _ ?_ ?h1); (case h1 => rfl))
    | ((with_reducible apply Within.step ?_ (State.setEngine_within _ _ _) ?h1); (case h1 => rfl))
    | ((with_reducible apply Within.step ?_ (State.settle_within _ _) ?h1); (case h1 => rfl))
    | with_reducible apply Within.each _ _ ?_ (fun _ _ _ _ => ?_)
    | split
    | dsimp only
    | ((with_reducible apply Within.set_engines _ ?_ ?h1 ?h2 ?h3); (case h1 => rfl); (case h2 => with_reducible rfl); (case h3 => with_reducible rfl))
    | ((with_reducible apply Within.set_settRest _ ?_ ?h1 ?h2 ?h3); (case h1 => rfl); (case h2 => with_reducible rfl); (case h3 => with_reducible rfl))
    | ((with_reducible apply Within.set_engRest _ ?_ ?h1 ?h2 ?h3); (case h1 => rfl); (case h2 => rfl); (case h3 => with_reducible rfl))
    | ((with_reducible apply Within.set_shRest _ ?_ ?h1 ?h2 ?h3 ?h4); (case h1 => rfl); (case h2 => rfl); (case h3 => with_reducible rfl); (case h4 => intro hw; first | exact hw | exact Tab.wf_set _ _ _ _ hw | exact Tab.wf_filter _ _ _ hw | rfl))

theorem State.bind_within (s : State) (n : Nat) (e : Engine) :
    Within [.engines] [] s (State.bind s n e).1 := by
  unfold State.bind
  try dsimp only
  repeat' first
    | with_reducible apply Within.refl
    | with_reducible assumption
    | with_reducible apply Within.ite ?_ ?_
    | ((with_reducible apply Within.step ?_ (State.setEngine_within _ _ _) ?h1); (case h1 => rfl))
    | split

theorem State.start_within (s : State) (n : Nat) (e : Engine) :
    Within [.engines] [] s (State.start s n e).1 := by
  unfold State.start
  try dsimp only
  repeat' first
    | with_reducible apply Within.refl
    | with_reducible assumption
    | with_reducible apply Within.ite ?_ ?_
    | ((with_reducible apply Within.step ?_ (State.setEngine_within _ _ _) ?h1); (case h1 => rfl))
    | split

theorem State.stop_within (s : State) (n : Nat) (e : Engine) :
    Within [.engines] [] s (State.stop s n e).1 := by
  unfold State.stop
  try dsimp only
  repeat' first
    | with_reducible apply Within.refl
    | with_reducible assumption
    | with_reducible apply Within.ite ?_ ?_
    | ((with_reducible apply Within.step ?_ (State.setEngine_within _ _ _) ?h1); (case h1 => rfl))
    | split

theorem State.unbind_within (s : State) (n : Nat) (e : Engine) :
    Within [.engines, .sharedMemory, .settRest] [] s (State.unbind s n e).1 := by
  unfold State.unbind
  try dsimp only
  repeat' first
    | with_reducible apply Within.refl
    | with_reducible assumption
    | with_reducible apply Within.ite ?_ ?_
    | ((with_reducible apply Within.step ?_ (State.clearPriv_within _ _) ?h1); (case h1 => rfl))
    | ((with_reducible apply Within.step ?_ (State.setEngine_within _ _ _) ?h1); (case h1 => rfl))
    | split
    | dsimp only
    | ((with_reducible apply Within.set_engines _ ?_ ?h1 ?h2 ?h3); (case h1 => rfl); (case h2 => with_reducible rfl); (case h3 => with_reducible rfl))
    | ((with_reducible apply Within.set_settRest _ ?_ ?h1 ?h2 ?h3); (case h1 => rfl); (case h2 => with_reducible rfl); (case h3 => with_reducible rfl))

theorem State.engCommand_within (s : State) (n : Nat) :
    Within [.engines, .sharedMemory, .settRest] [] s (State.engCommand s n) := by
  unfold State.engCommand
  try dsimp only
  repeat' first
    | with_reducible apply Within.refl
    | with_reducible assumption
    | with_reducible apply Within.ite ?_ ?_
    | ((with_reducible apply Within.step ?_ (State.bind_within _ _ _) ?h1); (case h1 => rfl))
    | ((with_reducible apply Within.step ?_ (State.setEngine_within _ _ _) ?h1); (case h1 => rfl))
    | ((with_reducible apply Within.step ?_ (State.start_within _ _ _) ?h1); (case h1 => rfl))
    | ((with_reducible apply Within.step ?_ (State.stop_within _ _ _) ?h1); (case h1 => rfl))
    | ((with_reducible apply Within.step ?_ (State.unbind_within _ _ _) ?h1); (case h1 => rfl))
    | split

theorem State.engCtl_within (s : State) (n cmd obj : Nat) :
    Within [.engines] [1280] s (State.engCtl s n cmd obj) := by
  unfold State.engCtl
  try dsimp only
  repeat' first
    | with_reducible apply Within.refl
    | with_reducible assumption
    | with_reducible apply Within.ite ?_ ?_
    | ((with_reducible apply Within.writeFld _ _ _ ?_ ?h1); (case h1 => rfl))
    | ((with_reducible apply Within.step ?_ (State.setEngine_within _ _ _) ?h1); (case h1 => rfl))

theorem State.migCopy_within (s : State) (h : Nat) :
    Within [.engines, .sharedMemory, .settRest, .msix, .burrow] [6914, 9152, 9280, 9344, 9408] s (State.migCopy s h) := by
  unfold State.migCopy
  try dsimp only
  repeat' first
    | with_reducible apply Within.refl
    | with_reducible assumption
    | with_reducible apply Within.ite ?_ ?_
    | ((with_reducible apply Within.step ?_ (State.overrun_within _ _) ?h1); (case h1 => rfl))
    | ((with_reducible apply Within.step ?_ (State.setEngine_within _ _ _) ?h1); (case h1 => rfl))
    | ((with_reducible apply Within.step ?_ (State.setSh_within _ _ _) ?h1); (case h1 => rfl))
    | with_reducible apply Within.upTo _ _ ?_ (fun _ _ _ => ?_)
    | ((with_reducible apply Within.set_engines _ ?_ ?h1 ?h2 ?h3); (case h1 => rfl); (case h2 => with_reducible rfl); (case h3 => with_reducible rfl))
    | ((with_reducible apply Within.set_settRest _ ?_ ?h1 ?h2 ?h3); (case h1 => rfl); (case h2 => with_reducible rfl); (case h3 => with_reducible rfl))

theorem State.migHandover_within (s : State) :
    Within [.engines, .sharedMemory, .settRest, .msix, .burrow] [1920, 1936, 1951, 6914, 9152, 9280, 9344, 9408] s (State.migHandover s) := by
  unfold State.migHandover
  try dsimp only
  repeat' first
    | with_reducible apply Within.refl
    | with_reducible assumption
    | with_reducible apply Within.ite ?_ ?_
    | ((with_reducible apply Within.wr _ _ _ ?_ ?h1); (case h1 => rfl))
    | ((with_reducible apply Within.addSat _ _ _ ?_ ?h1); (case h1 => rfl))
    | ((with_reducible apply Within.step ?_ (State.clearPriv_within _ _) ?h1); (case h1 => rfl))
    | ((with_reducible apply Within.step ?_ (State.record_within _ _ _ _) ?h1); (case h1 => rfl))
    | ((with_reducible apply Within.step ?_ (State.setEngine_within _ _ _) ?h1); (case h1 => rfl))
    | ((with_reducible apply Within.set_engines _ ?_ ?h1 ?h2 ?h3); (case h1 => rfl); (case h2 => with_reducible rfl); (case h3 => with_reducible rfl))
    | ((with_reducible apply Within.set_settRest _ ?_ ?h1 ?h2 ?h3); (case h1 => rfl); (case h2 => with_reducible rfl); (case h3 => with_reducible rfl))

theorem State.releaseRule_within (s : State) (r : Nat) :
    Within [.settRest] [] s (State.releaseRule s r) := by
  unfold State.releaseRule
  try dsimp only
  repeat' first
    | with_reducible apply Within.refl
    | with_reducible assumption
    | with_reducible apply Within.ite ?_ ?_
    | ((with_reducible apply Within.set_settRest _ ?_ ?h1 ?h2 ?h3); (case h1 => rfl); (case h2 => with_reducible rfl); (case h3 => with_reducible rfl))

theorem State.post_within (s : State) (m : Mail) :
    Within [.settRest] [2257] s (State.post s m) := by
  unfold State.post
  try dsimp only
  repeat' first
    | with_reducible apply Within.refl
    | with_reducible assumption
    | with_reducible apply Within.ite ?_ ?_
    | ((with_reducible apply Within.addSat _ _ _ ?_ ?h1); (case h1 => rfl))
    | ((with_reducible apply Within.set_settRest _ ?_ ?h1 ?h2 ?h3); (case h1 => rfl); (case h2 => with_reducible rfl); (case h3 => with_reducible rfl))

theorem State.setPair_within (s : State) (r : Nat) (p : Pair) :
    Within [.hostRest] [] s (State.setPair s r p) := by
  unfold State.setPair
  try dsimp only
  repeat' first
    | with_reducible apply Within.refl
    | with_reducible assumption
    | with_reducible apply Within.ite ?_ ?_
    | ((with_reducible apply Within.set_hostRest _ ?_ ?h1 ?h2); (case h1 => rfl); (case h2 => with_reducible rfl))

theorem State.signal__within (s : State) (r : Nat) :
    Within [.msix, .hostRest] [] s (State.signal_ s r) := by
  unfold State.signal_
  try dsimp only
  repeat' first
    | with_reducible apply Within.refl
    | with_reducible assumption
    | with_reducible apply Within.ite ?_ ?_
    | ((with_reducible apply Within.step ?_ (State.sendMsi_within _ _) ?h1); (case h1 => rfl))
    | ((with_reducible apply Within.step ?_ (State.setPair_within _ _ _) ?h1); (case h1 => rfl))

theorem State.coalesce_within (s : State) (r : Nat) :
    Within [.msix, .hostRest] [] s (State.coalesce s r) := by
  unfold State.coalesce
  try dsimp only
  repeat' first
    | with_reducible apply Within.refl
    | with_reducible assumption
    | with_reducible apply Within.ite ?_ ?_
    | ((with_reducible apply Within.step ?_ (State.setPair_within _ _ _) ?h1); (case h1 => rfl))
    | ((with_reducible apply Within.step ?_ (State.signal__within _ _) ?h1); (case h1 => rfl))

theorem State.putCompletion_within (s : State) (r : Nat) (quiet : Bool) (c : Completion) :
    Within [.msix, .hostRest] [7744] s (State.putCompletion s r quiet c) := by
  unfold State.putCompletion
  try dsimp only
  repeat' first
    | with_reducible apply Within.refl
    | with_reducible assumption
    | with_reducible apply Within.ite ?_ ?_
    | ((with_reducible apply Within.wr _ _ _ ?_ ?h1); (case h1 => rfl))
    | ((with_reducible apply Within.step ?_ (State.coalesce_within _ _) ?h1); (case h1 => rfl))
    | ((with_reducible apply Within.step ?_ (State.setPair_within _ _ _) ?h1); (case h1 => rfl))
    | ((with_reducible apply Within.set_msix _ ?_ ?h1 ?h2); (case h1 => rfl); (case h2 => with_reducible rfl))
    | ((with_reducible apply Within.set_hostRest _ ?_ ?h1 ?h2); (case h1 => rfl); (case h2 => with_reducible rfl))

theorem State.complete_within (s : State) (r slot status detail result : Nat) (valid : Bool) :
    Within [.msix, .hostRest] [7048, 7744, 7808] s (State.complete s r slot status detail result valid) := by
  unfold State.complete
  try dsimp only
  repeat' first
    | with_reducible apply Within.refl
    | with_reducible assumption
    | with_reducible apply Within.ite ?_ ?_
    | ((with_reducible apply Within.wr _ _ _ ?_ ?h1); (case h1 => rfl))
    | ((with_reducible apply Within.addSat _ _ _ ?_ ?h1); (case h1 => rfl))
    | ((with_reducible apply Within.step ?_ (State.putCompletion_within _ _ _ _) ?h1); (case h1 => rfl))
    | ((with_reducible apply Within.step ?_ (State.setPair_within _ _ _) ?h1); (case h1 => rfl))
    | split

theorem State.finish_within (s : State) (v : Via) (status : Nat) (detail : Nat) (result : Nat) (valid : Bool) :
    Within [.msix, .hostRest] [7048, 7744, 7808] s (State.finish s v status detail result valid) := by
  unfold State.finish
  try dsimp only
  repeat' first
    | with_reducible apply Within.refl
    | with_reducible assumption
    | with_reducible apply Within.ite ?_ ?_
    | ((with_reducible apply Within.step ?_ (State.complete_within _ _ _ _ _ _ _) ?h1); (case h1 => rfl))
    | split

theorem State.begin__within (s : State) (v : Via) :
    Within [.hostRest] [] s (State.begin_ s v) := by
  unfold State.begin_
  try dsimp only
  repeat' first
    | with_reducible apply Within.refl
    | with_reducible assumption
    | with_reducible apply Within.ite ?_ ?_
    | ((with_reducible apply Within.step ?_ (State.setPair_within _ _ _) ?h1); (case h1 => rfl))
    | split

theorem State.subRecord_within (s : State) (k : Nat) (x : Sub) :
    Within [.msix, .burrow] [6914, 9152, 9280, 9344, 9408] s (State.subRecord s k x) := by
  unfold State.subRecord
  try dsimp only
  repeat' first
    | with_reducible apply Within.refl
    | with_reducible assumption
    | with_reducible apply Within.ite ?_ ?_
    | ((with_reducible apply Within.step ?_ (State.record_within _ _ _ _) ?h1); (case h1 => rfl))

theorem State.countSubs_within (s : State) (r : Nat) :
    Within [] [7040] s (State.countSubs s r) := by
  unfold State.countSubs
  try dsimp only
  repeat' first
    | with_reducible apply Within.refl
    | with_reducible assumption
    | with_reducible apply Within.ite ?_ ?_
    | ((with_reducible apply Within.wr _ _ _ ?_ ?h1); (case h1 => rfl))

theorem State.endSubs_within (s : State) (p : Nat × Sub → Bool) :
    Within [.msix, .hostRest, .burrow] [6914, 9152, 9280, 9344, 9408] s (State.endSubs s p) := by
  unfold State.endSubs
  try dsimp only
  repeat' first
    | with_reducible apply Within.refl
    | with_reducible assumption
    | with_reducible apply Within.ite ?_ ?_
    | ((with_reducible apply Within.step ?_ (State.subRecord_within _ _ _) ?h1); (case h1 => rfl))
    | with_reducible apply Within.each _ _ ?_ (fun _ _ _ _ => ?_)
    | split
    | ((with_reducible apply Within.set_msix _ ?_ ?h1 ?h2); (case h1 => rfl); (case h2 => with_reducible rfl))
    | ((with_reducible apply Within.set_hostRest _ ?_ ?h1 ?h2); (case h1 => rfl); (case h2 => with_reducible rfl))

theorem State.forgetPair_within (s : State) (r : Nat) :
    Within [.ports, .wards, .recorderRest, .secure] [] s (State.forgetPair s r) := by
  unfold State.forgetPair
  try dsimp only
  repeat' first
    | with_reducible apply Within.refl
    | with_reducible assumption
    | with_reducible apply Within.ite ?_ ?_
    | split
    | ((with_reducible apply Within.lit ?tt ?_ ?h1 ?h2 ?h3 ?h4); (case h1 => with_reducible rfl); (case h2 => intro b hb; cases b <;> first | exact absurd (by decide) hb | rfl); (case h3 => exact id); (case h4 => intro hb; first | exact hb | rfl))

theorem State.disablePair_within (s : State) (r : Nat) :
    Within [.msix, .hostRest, .ports, .wards, .recorderRest, .secure, .burrow] [6914, 7007, 7040, 7048, 7070, 7744, 7808, 9152, 9280, 9344, 9408] s (State.disablePair s r) := by
  unfold State.disablePair
  try dsimp only
  repeat' first
    | with_reducible apply Within.refl
    | with_reducible assumption
    | with_reducible apply Within.ite ?_ ?_
    | ((with_reducible apply Within.wr _ _ _ ?_ ?h1); (case h1 => rfl))
    | ((with_reducible apply Within.step ?_ (State.complete_within _ _ _ _ _ _ _) ?h1); (case h1 => rfl))
    | ((with_reducible apply Within.step ?_ (State.endSubs_within _ _) ?h1); (case h1 => rfl))
    | ((with_reducible apply Within.step ?_ (State.forgetPair_within _ _) ?h1); (case h1 => rfl))
    | ((with_reducible apply Within.step ?_ (State.record_within _ _ _ _) ?h1); (case h1 => rfl))
    | with_reducible apply Within.each _ _ ?_ (fun _ _ _ _ => ?_)

theorem State.clearPair_within (s : State) (r : Nat) : Within [.msix, .hostRest, .ports, .wards, .recorderRest, .secure, .burrow] ([6914, 7007, 7040, 7048, 7056, 7070, 7680, 7744, 7808, 7816, 7824, 7872] ++ [7936, 9152, 9280, 9344, 9408]) s (State.clearPair s r) := by
  unfold State.clearPair
  extract_lets s1 s2
  have h1 : Within [.msix, .hostRest, .ports, .wards, .recorderRest, .secure, .burrow] ([6914, 7007, 7040, 7048, 7056, 7070, 7680, 7744, 7808, 7816, 7824, 7872] ++ [7936, 9152, 9280, 9344, 9408]) s s1 := Within.step (Within.step (Within.refl _ _ _) (State.setPair_within s r {}) rfl) (State.forgetPair_within _ r) rfl
  have h2 : Within [.msix, .hostRest, .ports, .wards, .recorderRest, .secure, .burrow] ([6914, 7007, 7040, 7048, 7056, 7070, 7680, 7744, 7808, 7816, 7824, 7872] ++ [7936, 9152, 9280, 9344, 9408]) s s2 := Within.step h1 (State.endSubs_within s1 _) rfl
  exact h2.eachWr _ r _ rfl

theorem State.setPstate_within (s : State) (p v : Nat) :
    Within [.ports] [6045] s (State.setPstate s p v) := by
  unfold State.setPstate
  try dsimp only
  repeat' first
    | with_reducible apply Within.refl
    | with_reducible assumption
    | with_reducible apply Within.ite ?_ ?_
    | ((with_reducible apply Within.wr _ _ _ ?_ ?h1); (case h1 => rfl))
    | ((with_reducible apply Within.step ?_ (State.setPort_within _ _ _) ?h1); (case h1 => rfl))

theorem State.setLanes_within (s : State) (p : Nat) (l : List Nat) :
    Within [.ports] [6043] s (State.setLanes s p l) := by
  unfold State.setLanes
  try dsimp only
  repeat' first
    | with_reducible apply Within.refl
    | with_reducible assumption
    | with_reducible apply Within.ite ?_ ?_
    | ((with_reducible apply Within.wr _ _ _ ?_ ?h1); (case h1 => rfl))
    | ((with_reducible apply Within.step ?_ (State.setPort_within _ _ _) ?h1); (case h1 => rfl))

theorem State.setWard_within (s : State) (w : Nat) (x : Ward) :
    Within [.wards] [] s (State.setWard s w x) := by
  unfold State.setWard
  try dsimp only
  repeat' first
    | with_reducible apply Within.refl
    | with_reducible assumption
    | with_reducible apply Within.ite ?_ ?_
    | ((with_reducible apply Within.set_wards _ ?_ ?h1); (case h1 => rfl))

theorem State.endEngine_within (s : State) (obj slot status : Nat) (data : List Word) :
    Within [.engines] [] s (State.endEngine s obj slot status data) := by
  unfold State.endEngine
  try dsimp only
  repeat' first
    | with_reducible apply Within.refl
    | with_reducible assumption
    | with_reducible apply Within.ite ?_ ?_
    | ((with_reducible apply Within.step ?_ (State.setEngine_within _ _ _) ?h1); (case h1 => rfl))
    | split

theorem State.endReq_within (s : State) (p : Nat) (o : Owner) (status : Nat) (data : List Word) :
    Within [.engines, .msix, .hostRest, .wards] [7048, 7744, 7808] s (State.endReq s p o status data) := by
  unfold State.endReq
  try dsimp only
  repeat' first
    | with_reducible apply Within.refl
    | with_reducible assumption
    | with_reducible apply Within.ite ?_ ?_
    | ((with_reducible apply Within.step ?_ (State.complete_within _ _ _ _ _ _ _) ?h1); (case h1 => rfl))
    | ((with_reducible apply Within.step ?_ (State.endEngine_within _ _ _ _ _) ?h1); (case h1 => rfl))
    | ((with_reducible apply Within.step ?_ (State.setWard_within _ _ _) ?h1); (case h1 => rfl))
    | split
    | ((with_reducible apply Within.set_msix _ ?_ ?h1 ?h2); (case h1 => rfl); (case h2 => with_reducible rfl))
    | ((with_reducible apply Within.set_hostRest _ ?_ ?h1 ?h2); (case h1 => rfl); (case h2 => with_reducible rfl))

theorem State.countReqs_within (s : State) (p : Nat) :
    Within [] [6016] s (State.countReqs s p) := by
  unfold State.countReqs
  try dsimp only
  repeat' first
    | with_reducible apply Within.refl
    | with_reducible assumption
    | with_reducible apply Within.ite ?_ ?_
    | ((with_reducible apply Within.wr _ _ _ ?_ ?h1); (case h1 => rfl))

theorem State.drainTx_within (s : State) :
    Within [.ports] [] s (State.drainTx s) := by
  unfold State.drainTx
  try dsimp only
  repeat' first
    | with_reducible apply Within.refl
    | with_reducible assumption
    | with_reducible apply Within.ite ?_ ?_
    | ((with_reducible apply Within.step ?_ (State.setPort_within _ _ _) ?h1); (case h1 => rfl))
    | with_reducible apply Within.each _ _ ?_ (fun _ _ _ _ => ?_)

theorem State.openOut_within (s : State) (p stream len : Nat) :
    Within [.ports] [] s (State.openOut s p stream len) := by
  unfold State.openOut
  try dsimp only
  repeat' first
    | with_reducible apply Within.refl
    | with_reducible assumption
    | with_reducible apply Within.ite ?_ ?_
    | ((with_reducible apply Within.step ?_ (State.setPort_within _ _ _) ?h1); (case h1 => rfl))

theorem State.sendReq_within (s : State) (p : Nat) (r : Req) :
    Within [.ports] [6016] s (State.sendReq s p r) := by
  unfold State.sendReq
  try dsimp only
  repeat' first
    | with_reducible apply Within.refl
    | with_reducible assumption
    | with_reducible apply Within.ite ?_ ?_
    | ((with_reducible apply Within.step ?_ (State.countReqs_within _ _) ?h1); (case h1 => rfl))
    | ((with_reducible apply Within.step ?_ (State.setPort_within _ _ _) ?h1); (case h1 => rfl))

theorem State.sendWaiting_within (s : State) (p : Nat) :
    Within [.ports] [6016] s (State.sendWaiting s p) := by
  unfold State.sendWaiting
  try dsimp only
  repeat' first
    | with_reducible apply Within.refl
    | with_reducible assumption
    | with_reducible apply Within.ite ?_ ?_
    | ((with_reducible apply Within.step ?_ (State.sendReq_within _ _ _) ?h1); (case h1 => rfl))
    | ((with_reducible apply Within.step ?_ (State.setPort_within _ _ _) ?h1); (case h1 => rfl))
    | split

theorem State.finishReq_within (s : State) (p : Nat) (r : Req) (status : Nat) (data : List Word) :
    Within [.engines, .msix, .hostRest, .ports, .wards] [6016, 6144, 7048, 7744, 7808] s (State.finishReq s p r status data) := by
  unfold State.finishReq
  try dsimp only
  repeat' first
    | with_reducible apply Within.refl
    | with_reducible assumption
    | with_reducible apply Within.ite ?_ ?_
    | ((with_reducible apply Within.addSat _ _ _ ?_ ?h1); (case h1 => rfl))
    | ((with_reducible apply Within.step ?_ (State.countReqs_within _ _) ?h1); (case h1 => rfl))
    | ((with_reducible apply Within.step ?_ (State.endReq_within _ _ _ _ _) ?h1); (case h1 => rfl))
    | ((with_reducible apply Within.step ?_ (State.sendWaiting_within _ _) ?h1); (case h1 => rfl))
    | ((with_reducible apply Within.step ?_ (State.setPort_within _ _ _) ?h1); (case h1 => rfl))

theorem State.request_within (s : State) (p : Nat) (r : Req) :
    Within [.engines, .msix, .hostRest, .ports, .wards] [6016, 7048, 7744, 7808] s (State.request s p r) := by
  unfold State.request
  try dsimp only
  repeat' first
    | with_reducible apply Within.refl
    | with_reducible assumption
    | with_reducible apply Within.ite ?_ ?_
    | ((with_reducible apply Within.step ?_ (State.endReq_within _ _ _ _ _) ?h1); (case h1 => rfl))
    | ((with_reducible apply Within.step ?_ (State.sendReq_within _ _ _) ?h1); (case h1 => rfl))

theorem State.fwRead_within (s : State) (p fuel a n d : Nat) :
    Within [.engines, .msix, .hostRest, .ports, .wards] [6016, 7048, 7744, 7808] s (State.fwRead s p fuel a n d) := by
  induction fuel generalizing s a n d with
  | zero => exact Within.refl _ _ _
  | succ k ih =>
    unfold State.fwRead
    exact Within.ite (Within.refl _ _ _) (Within.step (State.request_within _ _ _) (ih _ _ _ _) (by rfl))

theorem State.fwWrite_within (s : State) (p fuel a : Nat) (l : List Word) :
    Within [.engines, .msix, .hostRest, .ports, .wards] [6016, 7048, 7744, 7808] s (State.fwWrite s p fuel a l) := by
  induction fuel generalizing s a l with
  | zero => exact Within.refl _ _ _
  | succ n ih =>
    unfold State.fwWrite
    exact Within.ite (Within.refl _ _ _) (Within.step (State.request_within _ _ _) (ih _ _ _) (by rfl))

theorem State.sendCtrl_within (s : State) (p code arg : Nat) (o : Owner) :
    Within [.ports] [] s (State.sendCtrl s p code arg o) := by
  unfold State.sendCtrl
  try dsimp only
  repeat' first
    | with_reducible apply Within.refl
    | with_reducible assumption
    | with_reducible apply Within.ite ?_ ?_
    | ((with_reducible apply Within.step ?_ (State.setPort_within _ _ _) ?h1); (case h1 => rfl))

theorem State.endCtrl_within (s : State) (p : Nat) (c : Ctrl) (status : Nat) :
    Within [.engines, .ports] [6144] s (State.endCtrl s p c status) := by
  unfold State.endCtrl
  try dsimp only
  repeat' first
    | with_reducible apply Within.refl
    | with_reducible assumption
    | with_reducible apply Within.ite ?_ ?_
    | ((with_reducible apply Within.addSat _ _ _ ?_ ?h1); (case h1 => rfl))
    | ((with_reducible apply Within.step ?_ (State.endEngine_within _ _ _ _ _) ?h1); (case h1 => rfl))
    | ((with_reducible apply Within.step ?_ (State.setPort_within _ _ _) ?h1); (case h1 => rfl))
    | split

theorem State.portRequest_within (s : State) (obj slot p : Nat) (w0 w1 w2 w3 : Word) :
    Within [.engines, .msix, .hostRest, .ports, .wards] [6016, 7048, 7744, 7808] s (State.portRequest s obj slot p w0 w1 w2 w3) := by
  unfold State.portRequest
  try dsimp only
  repeat' first
    | with_reducible apply Within.refl
    | with_reducible assumption
    | with_reducible apply Within.ite ?_ ?_
    | ((with_reducible apply Within.step ?_ (State.endEngine_within _ _ _ _ _) ?h1); (case h1 => rfl))
    | ((with_reducible apply Within.step ?_ (State.request_within _ _ _) ?h1); (case h1 => rfl))
    | ((with_reducible apply Within.step ?_ (State.sendCtrl_within _ _ _ _ _) ?h1); (case h1 => rfl))
    | ((with_reducible apply Within.step ?_ (State.setEngine_within _ _ _) ?h1); (case h1 => rfl))
    | split

theorem State.secDown_within (s : State) (p : Nat) :
    Within [.ports, .wards] [6042] s (State.secDown s p) := by
  unfold State.secDown
  try dsimp only
  repeat' first
    | with_reducible apply Within.refl
    | with_reducible assumption
    | with_reducible apply Within.ite ?_ ?_
    | ((with_reducible apply Within.wr _ _ _ ?_ ?h1); (case h1 => rfl))
    | ((with_reducible apply Within.step ?_ (State.setPort_within _ _ _) ?h1); (case h1 => rfl))
    | ((with_reducible apply Within.set_wards _ ?_ ?h1); (case h1 => rfl))

theorem State.islandNext_within (s : State) :
    Within [.ports, .wards] [] s (State.islandNext s) := by
  unfold State.islandNext
  try dsimp only
  repeat' first
    | with_reducible apply Within.refl
    | with_reducible assumption
    | with_reducible apply Within.ite ?_ ?_
    | ((with_reducible apply Within.step ?_ (State.setPort_within _ _ _) ?h1); (case h1 => rfl))
    | split
    | ((with_reducible apply Within.set_wards _ ?_ ?h1); (case h1 => rfl))

theorem State.secStart_within (s : State) (p : Nat) :
    Within [.ports, .wards] [] s (State.secStart s p) := by
  unfold State.secStart
  try dsimp only
  repeat' first
    | with_reducible apply Within.refl
    | with_reducible assumption
    | with_reducible apply Within.ite ?_ ?_
    | ((with_reducible apply Within.step ?_ (State.islandNext_within _) ?h1); (case h1 => rfl))
    | ((with_reducible apply Within.step ?_ (State.setPort_within _ _ _) ?h1); (case h1 => rfl))

theorem State.endAll_within (s : State) (p status : Nat) :
    Within [.engines, .msix, .hostRest, .ports, .wards] [6016, 6144, 7048, 7744, 7808] s (State.endAll s p status) := by
  unfold State.endAll
  try dsimp only
  repeat' first
    | with_reducible apply Within.refl
    | with_reducible assumption
    | with_reducible apply Within.ite ?_ ?_
    | ((with_reducible apply Within.addSat _ _ _ ?_ ?h1); (case h1 => rfl))
    | ((with_reducible apply Within.step ?_ (State.countReqs_within _ _) ?h1); (case h1 => rfl))
    | ((with_reducible apply Within.step ?_ (State.endEngine_within _ _ _ _ _) ?h1); (case h1 => rfl))
    | ((with_reducible apply Within.step ?_ (State.endReq_within _ _ _ _ _) ?h1); (case h1 => rfl))
    | ((with_reducible apply Within.step ?_ (State.setPort_within _ _ _) ?h1); (case h1 => rfl))
    | with_reducible apply Within.each _ _ ?_ (fun _ _ _ _ => ?_)
    | split

theorem State.noteUnlinked_within (s : State) (p : Nat) :
    Within [.wards] [] s (State.noteUnlinked s p) := by
  unfold State.noteUnlinked
  try dsimp only
  repeat' first
    | with_reducible apply Within.refl
    | with_reducible assumption
    | with_reducible apply Within.ite ?_ ?_
    | ((with_reducible apply Within.step ?_ (State.setWard_within _ _ _) ?h1); (case h1 => rfl))

theorem State.portFault_within (s : State) (p : Nat) :
    Within [.engines, .msix, .hostRest, .ports, .wards] [6016, 6042, 6043, 6045, 6144, 7048, 7744, 7808] s (State.portFault s p) := by
  unfold State.portFault
  try dsimp only
  repeat' first
    | with_reducible apply Within.refl
    | with_reducible assumption
    | with_reducible apply Within.ite ?_ ?_
    | ((with_reducible apply Within.step ?_ (State.endAll_within _ _ _) ?h1); (case h1 => rfl))
    | ((with_reducible apply Within.step ?_ (State.noteUnlinked_within _ _) ?h1); (case h1 => rfl))
    | ((with_reducible apply Within.step ?_ (State.secDown_within _ _) ?h1); (case h1 => rfl))
    | ((with_reducible apply Within.step ?_ (State.setLanes_within _ _ _) ?h1); (case h1 => rfl))
    | ((with_reducible apply Within.step ?_ (State.setPort_within _ _ _) ?h1); (case h1 => rfl))
    | ((with_reducible apply Within.step ?_ (State.setPstate_within _ _ _) ?h1); (case h1 => rfl))

theorem State.portOff_within (s : State) (p : Nat) :
    Within [.engines, .msix, .hostRest, .ports, .wards] [5952, 6016, 6040, 6041, 6042, 6043, 6045, 6144, 7048, 7744, 7808] s (State.portOff s p) := by
  unfold State.portOff
  try dsimp only
  repeat' first
    | with_reducible apply Within.refl
    | with_reducible assumption
    | with_reducible apply Within.ite ?_ ?_
    | ((with_reducible apply Within.wr _ _ _ ?_ ?h1); (case h1 => rfl))
    | ((with_reducible apply Within.step ?_ (State.endAll_within _ _ _) ?h1); (case h1 => rfl))
    | ((with_reducible apply Within.step ?_ (State.noteUnlinked_within _ _) ?h1); (case h1 => rfl))
    | ((with_reducible apply Within.step ?_ (State.secDown_within _ _) ?h1); (case h1 => rfl))
    | ((with_reducible apply Within.step ?_ (State.setLanes_within _ _ _) ?h1); (case h1 => rfl))
    | ((with_reducible apply Within.step ?_ (State.setPort_within _ _ _) ?h1); (case h1 => rfl))
    | ((with_reducible apply Within.step ?_ (State.setPstate_within _ _ _) ?h1); (case h1 => rfl))

theorem State.setLaser_within (s : State) (k : Nat) (v : Laser) :
    Within [.lasers] [] s (State.setLaser s k v) := by
  unfold State.setLaser
  try dsimp only
  repeat' first
    | with_reducible apply Within.refl
    | with_reducible assumption
    | with_reducible apply Within.ite ?_ ?_
    | ((with_reducible apply Within.set_lasers _ ?_ ?h1); (case h1 => rfl))

theorem State.laserLimit_within (s : State) (k : Nat) :
    Within [] [6300] s (State.laserLimit s k) := by
  unfold State.laserLimit
  try dsimp only
  repeat' first
    | with_reducible apply Within.refl
    | with_reducible assumption
    | with_reducible apply Within.ite ?_ ?_
    | ((with_reducible apply Within.wr _ _ _ ?_ ?h1); (case h1 => rfl))

theorem State.laserShow_within (s : State) (k : Nat) :
    Within [] [6300, 6301] s (State.laserShow s k) := by
  unfold State.laserShow
  try dsimp only
  repeat' first
    | with_reducible apply Within.refl
    | with_reducible assumption
    | with_reducible apply Within.ite ?_ ?_
    | ((with_reducible apply Within.wr _ _ _ ?_ ?h1); (case h1 => rfl))
    | ((with_reducible apply Within.step ?_ (State.laserLimit_within _ _) ?h1); (case h1 => rfl))

theorem State.laserCommit_within (s : State) (k v : Nat) :
    Within [.lasers] [6299, 6300, 6301] s (State.laserCommit s k v) := by
  unfold State.laserCommit
  try dsimp only
  repeat' first
    | with_reducible apply Within.refl
    | with_reducible assumption
    | with_reducible apply Within.ite ?_ ?_
    | ((with_reducible apply Within.wr _ _ _ ?_ ?h1); (case h1 => rfl))
    | ((with_reducible apply Within.step ?_ (State.laserShow_within _ _) ?h1); (case h1 => rfl))
    | ((with_reducible apply Within.step ?_ (State.setLaser_within _ _ _) ?h1); (case h1 => rfl))

theorem State.laserFault_within (s : State) (k stat : Nat) :
    Within [.msix, .lasers, .burrow] [6301, 6914, 9152, 9280, 9344, 9408] s (State.laserFault s k stat) := by
  unfold State.laserFault
  try dsimp only
  repeat' first
    | with_reducible apply Within.refl
    | with_reducible assumption
    | with_reducible apply Within.ite ?_ ?_
    | ((with_reducible apply Within.wr _ _ _ ?_ ?h1); (case h1 => rfl))
    | ((with_reducible apply Within.step ?_ (State.record_within _ _ _ _) ?h1); (case h1 => rfl))
    | ((with_reducible apply Within.step ?_ (State.setLaser_within _ _ _) ?h1); (case h1 => rfl))

theorem State.busShut_within (s : State) (k : Nat) :
    Within [.msix, .lasers, .burrow] [6301, 6914, 9152, 9280, 9344, 9408] s (State.busShut s k) := by
  unfold State.busShut
  try dsimp only
  repeat' first
    | with_reducible apply Within.refl
    | with_reducible assumption
    | with_reducible apply Within.ite ?_ ?_
    | ((with_reducible apply Within.wr _ _ _ ?_ ?h1); (case h1 => rfl))
    | ((with_reducible apply Within.step ?_ (State.record_within _ _ _ _) ?h1); (case h1 => rfl))
    | ((with_reducible apply Within.step ?_ (State.setLaser_within _ _ _) ?h1); (case h1 => rfl))
    | with_reducible apply Within.each _ _ ?_ (fun _ _ _ _ => ?_)
    | ((with_reducible apply Within.set_lasers _ ?_ ?h1); (case h1 => rfl))

theorem State.setZent_within (s : State) (k : Nat) (e : ZEntry) :
    Within [.zither] [] s (State.setZent s k e) := by
  unfold State.setZent
  try dsimp only
  repeat' first
    | with_reducible apply Within.refl
    | with_reducible assumption
    | with_reducible apply Within.ite ?_ ?_
    | ((with_reducible apply Within.set_zither _ ?_ ?h1); (case h1 => rfl))

theorem State.setZgrp_within (s : State) (g : Nat) (v : ZGroup) :
    Within [.zither] [] s (State.setZgrp s g v) := by
  unfold State.setZgrp
  try dsimp only
  repeat' first
    | with_reducible apply Within.refl
    | with_reducible assumption
    | with_reducible apply Within.ite ?_ ?_
    | ((with_reducible apply Within.set_zither _ ?_ ?h1); (case h1 => rfl))

theorem State.judgeEntry_within (s : State) (k : Nat) :
    Within [.zither] [] s (State.judgeEntry s k) := by
  unfold State.judgeEntry
  try dsimp only
  repeat' first
    | with_reducible apply Within.refl
    | with_reducible assumption
    | with_reducible apply Within.ite ?_ ?_
    | ((with_reducible apply Within.step ?_ (State.setZent_within _ _ _) ?h1); (case h1 => rfl))

theorem State.judgeEntries_within (s : State) :
    Within [.zither] [] s (State.judgeEntries s) := by
  unfold State.judgeEntries
  try dsimp only
  repeat' first
    | with_reducible apply Within.refl
    | with_reducible assumption
    | with_reducible apply Within.ite ?_ ?_
    | ((with_reducible apply Within.step ?_ (State.judgeEntry_within _ _) ?h1); (case h1 => rfl))
    | with_reducible apply Within.each _ _ ?_ (fun _ _ _ _ => ?_)

theorem State.startAt_within (s : State) (g t : Nat) :
    Within [.zither] [2944] s (State.startAt s g t) := by
  unfold State.startAt
  try dsimp only
  repeat' first
    | with_reducible apply Within.refl
    | with_reducible assumption
    | with_reducible apply Within.ite ?_ ?_
    | ((with_reducible apply Within.wr _ _ _ ?_ ?h1); (case h1 => rfl))
    | ((with_reducible apply Within.step ?_ (State.setZgrp_within _ _ _) ?h1); (case h1 => rfl))

theorem State.setStart_within (s : State) (g : Nat) :
    Within [.zither] [2944] s (State.setStart s g) := by
  unfold State.setStart
  try dsimp only
  repeat' first
    | with_reducible apply Within.refl
    | with_reducible assumption
    | with_reducible apply Within.ite ?_ ?_
    | ((with_reducible apply Within.step ?_ (State.startAt_within _ _ _) ?h1); (case h1 => rfl))

theorem State.setStartCmd_within (s : State) (g : Nat) (up : Bool) :
    Within [.zither, .twin] [2944] s (State.setStartCmd s g up) := by
  unfold State.setStartCmd
  try dsimp only
  repeat' first
    | with_reducible apply Within.refl
    | with_reducible assumption
    | with_reducible apply Within.ite ?_ ?_
    | ((with_reducible apply Within.step ?_ (State.setStart_within _ _) ?h1); (case h1 => rfl))
    | ((with_reducible apply Within.step ?_ (State.startAt_within _ _ _) ?h1); (case h1 => rfl))
    | ((with_reducible apply Within.step ?_ (State.tellTwin_within _ _) ?h1); (case h1 => rfl))

theorem State.startUp_within (s : State) (g : Nat) :
    Within [.zither, .msix, .burrow, .twin] [2755, 2768, 2781, 2828, 2832, 2944, 6914, 9152, 9280, 9344, 9408] s (State.startUp s g) := by
  unfold State.startUp
  try dsimp only
  repeat' first
    | with_reducible apply Within.refl
    | with_reducible assumption
    | with_reducible apply Within.ite ?_ ?_
    | ((with_reducible apply Within.wr _ _ _ ?_ ?h1); (case h1 => rfl))
    | ((with_reducible apply Within.step ?_ (State.record_within _ _ _ _) ?h1); (case h1 => rfl))
    | ((with_reducible apply Within.step ?_ (State.setStartCmd_within _ _ _) ?h1); (case h1 => rfl))
    | ((with_reducible apply Within.step ?_ (State.setZent_within _ _ _) ?h1); (case h1 => rfl))
    | ((with_reducible apply Within.step ?_ (State.setZgrp_within _ _ _) ?h1); (case h1 => rfl))
    | with_reducible apply Within.each _ _ ?_ (fun _ _ _ _ => ?_)
    | split

theorem State.upOrPend_within (s : State) (g : Nat) :
    Within [.zither, .msix, .burrow, .twin] [2755, 2768, 2781, 2828, 2832, 2944, 6914, 9152, 9280, 9344, 9408] s (State.upOrPend s g) := by
  unfold State.upOrPend
  try dsimp only
  repeat' first
    | with_reducible apply Within.refl
    | with_reducible assumption
    | with_reducible apply Within.ite ?_ ?_
    | ((with_reducible apply Within.wr _ _ _ ?_ ?h1); (case h1 => rfl))
    | ((with_reducible apply Within.step ?_ (State.startUp_within _ _) ?h1); (case h1 => rfl))

theorem State.checkOff_within (s : State) (g : Nat) :
    Within [.zither, .msix, .burrow] [2781, 6914, 9152, 9280, 9344, 9408] s (State.checkOff s g) := by
  unfold State.checkOff
  try dsimp only
  repeat' first
    | with_reducible apply Within.refl
    | with_reducible assumption
    | with_reducible apply Within.ite ?_ ?_
    | ((with_reducible apply Within.wr _ _ _ ?_ ?h1); (case h1 => rfl))
    | ((with_reducible apply Within.step ?_ (State.record_within _ _ _ _) ?h1); (case h1 => rfl))
    | ((with_reducible apply Within.step ?_ (State.setZgrp_within _ _ _) ?h1); (case h1 => rfl))

theorem State.goDown_within (s : State) (g cause : Nat) :
    Within [.zither, .msix, .burrow, .twin] [2764, 2781, 2944, 6914, 9152, 9280, 9344, 9408] s (State.goDown s g cause) := by
  unfold State.goDown
  try dsimp only
  repeat' first
    | with_reducible apply Within.refl
    | with_reducible assumption
    | with_reducible apply Within.ite ?_ ?_
    | ((with_reducible apply Within.wr _ _ _ ?_ ?h1); (case h1 => rfl))
    | ((with_reducible apply Within.step ?_ (State.checkOff_within _ _) ?h1); (case h1 => rfl))
    | ((with_reducible apply Within.step ?_ (State.setStart_within _ _) ?h1); (case h1 => rfl))
    | ((with_reducible apply Within.step ?_ (State.setStartCmd_within _ _ _) ?h1); (case h1 => rfl))
    | ((with_reducible apply Within.step ?_ (State.setZent_within _ _ _) ?h1); (case h1 => rfl))
    | with_reducible apply Within.each _ _ ?_ (fun _ _ _ _ => ?_)

theorem State.nameAbort_within (s : State) (g cause k : Nat) :
    Within [.zither] [2756] s (State.nameAbort s g cause k) := by
  unfold State.nameAbort
  try dsimp only
  repeat' first
    | with_reducible apply Within.refl
    | with_reducible assumption
    | with_reducible apply Within.ite ?_ ?_
    | ((with_reducible apply Within.wr _ _ _ ?_ ?h1); (case h1 => rfl))
    | ((with_reducible apply Within.step ?_ (State.setZent_within _ _ _) ?h1); (case h1 => rfl))
    | ((with_reducible apply Within.step ?_ (State.setZgrp_within _ _ _) ?h1); (case h1 => rfl))

theorem State.abort_within (s : State) (g cause k : Nat) :
    Within [.zither, .msix, .burrow, .twin] [2756, 2764, 2781, 2944, 6914, 9152, 9280, 9344, 9408] s (State.abort s g cause k) := by
  unfold State.abort
  try dsimp only
  repeat' first
    | with_reducible apply Within.refl
    | with_reducible assumption
    | with_reducible apply Within.ite ?_ ?_
    | ((with_reducible apply Within.wr _ _ _ ?_ ?h1); (case h1 => rfl))
    | ((with_reducible apply Within.step ?_ (State.goDown_within _ _ _) ?h1); (case h1 => rfl))
    | ((with_reducible apply Within.step ?_ (State.nameAbort_within _ _ _ _) ?h1); (case h1 => rfl))
    | ((with_reducible apply Within.step ?_ (State.setZent_within _ _ _) ?h1); (case h1 => rfl))
    | ((with_reducible apply Within.step ?_ (State.tellTwin_within _ _) ?h1); (case h1 => rfl))

theorem State.powerUp_within (s : State) (g : Nat) :
    Within [.zither, .msix, .burrow, .twin] [2755, 2768, 2781, 2828, 2832, 2944, 6914, 9152, 9280, 9344, 9408] s (State.powerUp s g) := by
  unfold State.powerUp
  try dsimp only
  repeat' first
    | with_reducible apply Within.refl
    | with_reducible assumption
    | with_reducible apply Within.ite ?_ ?_
    | ((with_reducible apply Within.wr _ _ _ ?_ ?h1); (case h1 => rfl))
    | ((with_reducible apply Within.step ?_ (State.startUp_within _ _) ?h1); (case h1 => rfl))
    | split

theorem State.powerDown_within (s : State) (g : Nat) :
    Within [.zither, .msix, .burrow, .twin] [2755, 2764, 2768, 2781, 2944, 6914, 9152, 9280, 9344, 9408] s (State.powerDown s g) := by
  unfold State.powerDown
  try dsimp only
  repeat' first
    | with_reducible apply Within.refl
    | with_reducible assumption
    | with_reducible apply Within.ite ?_ ?_
    | ((with_reducible apply Within.wr _ _ _ ?_ ?h1); (case h1 => rfl))
    | ((with_reducible apply Within.step ?_ (State.goDown_within _ _ _) ?h1); (case h1 => rfl))
    | split

theorem State.releasePads_within (s : State) :
    Within [.zither] [2764, 2781] s (State.releasePads s) := by
  unfold State.releasePads
  try dsimp only
  repeat' first
    | with_reducible apply Within.refl
    | with_reducible assumption
    | with_reducible apply Within.ite ?_ ?_
    | ((with_reducible apply Within.wr _ _ _ ?_ ?h1); (case h1 => rfl))
    | ((with_reducible apply Within.step ?_ (State.setZent_within _ _ _) ?h1); (case h1 => rfl))
    | ((with_reducible apply Within.step ?_ (State.setZgrp_within _ _ _) ?h1); (case h1 => rfl))
    | with_reducible apply Within.each _ _ ?_ (fun _ _ _ _ => ?_)
    | split
    | ((with_reducible apply Within.set_zither _ ?_ ?h1); (case h1 => rfl))

theorem State.judgeDrops_within (s : State) :
    Within [.zither, .msix, .burrow, .twin] [2756, 2764, 2781, 2944, 6914, 9152, 9280, 9344, 9408] s (State.judgeDrops s) := by
  unfold State.judgeDrops
  try dsimp only
  repeat' first
    | with_reducible apply Within.refl
    | with_reducible assumption
    | with_reducible apply Within.ite ?_ ?_
    | ((with_reducible apply Within.step ?_ (State.abort_within _ _ _ _) ?h1); (case h1 => rfl))
    | ((with_reducible apply Within.step ?_ (State.record_within _ _ _ _) ?h1); (case h1 => rfl))
    | ((with_reducible apply Within.step ?_ (State.setZent_within _ _ _) ?h1); (case h1 => rfl))
    | with_reducible apply Within.each _ _ ?_ (fun _ _ _ _ => ?_)

theorem State.putPriv_within (s : State) (n off : Nat) (l : List Word) : Within [.sharedMemory, .settRest] [] s (State.putPriv s n off l) := by
  induction l generalizing s off with
  | nil => exact Within.refl _ _ _
  | cons v l ih =>
    unfold State.putPriv
    exact Within.step (Within.step (Within.refl _ _ s) (State.setSh_within s _ _) rfl) (ih _ _) rfl

theorem State.objectBound_within (s : State) (n : Nat) :
    Within [.settRest] [] s (State.objectBound s n) := by
  unfold State.objectBound
  try dsimp only
  repeat' first
    | with_reducible apply Within.refl
    | with_reducible assumption
    | with_reducible apply Within.ite ?_ ?_
    | split
    | ((with_reducible apply Within.set_settRest _ ?_ ?h1 ?h2 ?h3); (case h1 => rfl); (case h2 => with_reducible rfl); (case h3 => with_reducible rfl))

theorem State.clearBranch_within (s : State) (b : Nat) :
    Within [.settRest] [] s (State.clearBranch s b) := by
  unfold State.clearBranch
  try dsimp only
  repeat' first
    | with_reducible apply Within.refl
    | with_reducible assumption
    | with_reducible apply Within.ite ?_ ?_
    | split
    | ((with_reducible apply Within.set_settRest _ ?_ ?h1 ?h2 ?h3); (case h1 => rfl); (case h2 => with_reducible rfl); (case h3 => with_reducible rfl))

theorem State.governorUp_within (s : State) (w : Nat) :
    Within [.engines, .settRest] [1280] s (State.governorUp s w) := by
  unfold State.governorUp
  try dsimp only
  repeat' first
    | with_reducible apply Within.refl
    | with_reducible assumption
    | with_reducible apply Within.ite ?_ ?_
    | ((with_reducible apply Within.step ?_ (State.engCtl_within _ _ _ _) ?h1); (case h1 => rfl))
    | split
    | ((with_reducible apply Within.set_engines _ ?_ ?h1 ?h2 ?h3); (case h1 => rfl); (case h2 => with_reducible rfl); (case h3 => with_reducible rfl))
    | ((with_reducible apply Within.set_settRest _ ?_ ?h1 ?h2 ?h3); (case h1 => rfl); (case h2 => with_reducible rfl); (case h3 => with_reducible rfl))

theorem State.startBound_within (s : State) (k : Nat) :
    Within [.engines, .settRest] [1280] s (State.startBound s k) := by
  unfold State.startBound
  try dsimp only
  repeat' first
    | with_reducible apply Within.refl
    | with_reducible assumption
    | with_reducible apply Within.ite ?_ ?_
    | ((with_reducible apply Within.step ?_ (State.engCtl_within _ _ _ _) ?h1); (case h1 => rfl))
    | with_reducible apply Within.each _ _ ?_ (fun _ _ _ _ => ?_)
    | ((with_reducible apply Within.set_engines _ ?_ ?h1 ?h2 ?h3); (case h1 => rfl); (case h2 => with_reducible rfl); (case h3 => with_reducible rfl))
    | ((with_reducible apply Within.set_settRest _ ?_ ?h1 ?h2 ?h3); (case h1 => rfl); (case h2 => with_reducible rfl); (case h3 => with_reducible rfl))

theorem State.setSide_within (s : State) (b : Bool) (v : FeedSide) :
    Within [.feed] [] s (State.setSide s b v) := by
  unfold State.setSide
  try dsimp only
  repeat' first
    | with_reducible apply Within.refl
    | with_reducible assumption
    | with_reducible apply Within.ite ?_ ?_
    | ((with_reducible apply Within.set_feed _ ?_ ?h1); (case h1 => rfl))

theorem State.judgeDisch_within (s : State) :
    Within [.feed] [] s (State.judgeDisch s) := by
  unfold State.judgeDisch
  try dsimp only
  repeat' first
    | with_reducible apply Within.refl
    | with_reducible assumption
    | with_reducible apply Within.ite ?_ ?_
    | ((with_reducible apply Within.set_feed _ ?_ ?h1); (case h1 => rfl))

theorem State.ghsLow_within (s : State) :
    Within [.feed] [] s (State.ghsLow s) := by
  unfold State.ghsLow
  try dsimp only
  repeat' first
    | with_reducible apply Within.refl
    | with_reducible assumption
    | with_reducible apply Within.ite ?_ ?_
    | ((with_reducible apply Within.step ?_ (State.judgeDisch_within _) ?h1); (case h1 => rfl))
    | ((with_reducible apply Within.set_feed _ ?_ ?h1); (case h1 => rfl))

theorem State.trip_within (s : State) (why : List (Nat × Nat × List Nat)) : Within [.zither, .feed, .msix, .burrow, .twin] [2764, 2781, 3339, 3352, 3357, 6914, 9152, 9280, 9344, 9408] s (State.trip s why) := by
  unfold State.trip
  split
  · exact Within.refl _ _ _
  · rename_i ca ev da l
    refine Within.ite ?_ (Within.refl _ _ _)
    extract_lets s1 retry latched mask s2 z1 f1 s3 s4 s5
    have h1 : Within [.zither, .feed, .msix, .burrow, .twin] [2764, 2781, 3339, 3352, 3357, 6914, 9152, 9280, 9344, 9408] s s1 := Within.step (Within.refl _ _ _) (State.ghsLow_within s) rfl
    clear_value s1
    have h2 : Within [.zither, .feed, .msix, .burrow, .twin] [2764, 2781, 3339, 3352, 3357, 6914, 9152, 9280, 9344, 9408] s s2 := Within.step h1 (State.releasePads_within s1) rfl
    clear_value s2
    have h3 : Within [.zither, .feed, .msix, .burrow, .twin] [2764, 2781, 3339, 3352, 3357, 6914, 9152, 9280, 9344, 9408] s s3 := Within.upd (t := s2) h2 rfl (by intro b hb; cases b <;> first | exact absurd (by decide) hb | rfl) id
    clear_value s3
    have h4 : Within [.zither, .feed, .msix, .burrow, .twin] [2764, 2781, 3339, 3352, 3357, 6914, 9152, 9280, 9344, 9408] s s4 := Within.step ((h3.wr _ _ _ rfl).wr _ _ _ rfl) (State.setIns_within _ _) rfl
    clear_value s4
    have h5 : Within [.zither, .feed, .msix, .burrow, .twin] [2764, 2781, 3339, 3352, 3357, 6914, 9152, 9280, 9344, 9408] s s5 := State.inOneCycle_within h4 rfl fun r v hv => by
      have hw := Within.each ((ca, ev, da) :: l) (fun (w : Nat × Nat × List Nat) s => s.record w.2.1 Src.feed (w.2.2 ++ [retry])) hv
        fun _ _ u hu => Within.step hu (State.record_within _ _ _ _) rfl
      exact Within.step (Within.ite (Within.step hw (State.record_within _ _ _ _) rfl) hw) (State.record_within _ _ _ _) rfl
    exact Within.step h5 (State.tellTwin_within _ _) rfl

theorem State.tripTold_within (s : State) (cause retry : Nat) : Within [.zither, .feed, .msix, .burrow] [2764, 2781, 3339, 3352, 3357, 6914, 9152, 9280, 9344, 9408] s (State.tripTold s cause retry) := by
  unfold State.tripTold
  refine Within.ite ?_ ((Within.refl _ _ _).wr _ _ _ rfl)
  extract_lets s1 mask s2 z1 f1 s3 s4 s5
  have h1 : Within [.zither, .feed, .msix, .burrow] [2764, 2781, 3339, 3352, 3357, 6914, 9152, 9280, 9344, 9408] s s1 := Within.step (Within.refl _ _ _) (State.ghsLow_within s) rfl
  clear_value s1
  have h2 : Within [.zither, .feed, .msix, .burrow] [2764, 2781, 3339, 3352, 3357, 6914, 9152, 9280, 9344, 9408] s s2 := Within.step h1 (State.releasePads_within s1) rfl
  clear_value s2
  have h3 : Within [.zither, .feed, .msix, .burrow] [2764, 2781, 3339, 3352, 3357, 6914, 9152, 9280, 9344, 9408] s s3 := Within.upd (t := s2) h2 rfl (by intro b hb; cases b <;> first | exact absurd (by decide) hb | rfl) id
  clear_value s3
  have h4 : Within [.zither, .feed, .msix, .burrow] [2764, 2781, 3339, 3352, 3357, 6914, 9152, 9280, 9344, 9408] s s4 := ((h3.wr _ _ _ rfl).wr _ _ _ rfl).wr _ _ _ rfl
  clear_value s4
  exact Within.step (Within.ite (Within.step h4 (State.record_within _ _ _ _) rfl) h4) (State.record_within _ _ _ _) rfl

theorem State.reverseRecord_within (s : State) (b : Bool) :
    Within [.feed, .msix, .burrow] [6914, 9152, 9280, 9344, 9408] s (State.reverseRecord s b) := by
  unfold State.reverseRecord
  try dsimp only
  repeat' first
    | with_reducible apply Within.refl
    | with_reducible assumption
    | with_reducible apply Within.ite ?_ ?_
    | ((with_reducible apply Within.step ?_ (State.record_within _ _ _ _) ?h1); (case h1 => rfl))
    | ((with_reducible apply Within.step ?_ (State.setSide_within _ _ _) ?h1); (case h1 => rfl))

theorem State.closeEpisode_within (s : State) (b : Bool) :
    Within [.feed, .msix, .burrow] [6914, 9152, 9280, 9344, 9408] s (State.closeEpisode s b) := by
  unfold State.closeEpisode
  try dsimp only
  repeat' first
    | with_reducible apply Within.refl
    | with_reducible assumption
    | with_reducible apply Within.ite ?_ ?_
    | ((with_reducible apply Within.step ?_ (State.reverseRecord_within _ _) ?h1); (case h1 => rfl))
    | ((with_reducible apply Within.step ?_ (State.setSide_within _ _ _) ?h1); (case h1 => rfl))
    | split

theorem State.setGate_within (s : State) (b : Bool) (v : Nat) :
    Within [.feed, .msix, .burrow] [3335, 3337, 6914, 9152, 9280, 9344, 9408] s (State.setGate s b v) := by
  unfold State.setGate
  try dsimp only
  repeat' first
    | with_reducible apply Within.refl
    | with_reducible assumption
    | with_reducible apply Within.ite ?_ ?_
    | ((with_reducible apply Within.wr _ _ _ ?_ ?h1); (case h1 => first | rfl | ((simp only [gateFld]; repeat' split) <;> rfl)))
    | ((with_reducible apply Within.step ?_ (State.closeEpisode_within _ _) ?h1); (case h1 => rfl))

theorem State.judgeGate_within (s : State) (b : Bool) :
    Within [.feed, .msix, .burrow] [3335, 3337, 6914, 9152, 9280, 9344, 9408] s (State.judgeGate s b) := by
  unfold State.judgeGate
  try dsimp only
  repeat' first
    | with_reducible apply Within.refl
    | with_reducible assumption
    | with_reducible apply Within.ite ?_ ?_
    | ((with_reducible apply Within.step ?_ (State.setGate_within _ _ _) ?h1); (case h1 => rfl))
    | ((with_reducible apply Within.step ?_ (State.setSide_within _ _ _) ?h1); (case h1 => rfl))

theorem State.judgeSpans_within (s : State) :
    Within [.feed] [] s (State.judgeSpans s) := by
  unfold State.judgeSpans
  try dsimp only
  repeat' first
    | with_reducible apply Within.refl
    | with_reducible assumption
    | with_reducible apply Within.ite ?_ ?_
    | ((with_reducible apply Within.set_feed _ ?_ ?h1); (case h1 => rfl))

theorem State.judgePulls_within (s : State) (pull : Option (Nat × Nat)) :
    Within [.zither, .feed, .msix, .burrow, .twin] [2764, 2781, 3335, 3337, 3339, 3352, 3357, 6914, 9152, 9280, 9344, 9408] s (State.judgePulls s pull) := by
  unfold State.judgePulls
  try dsimp only
  repeat' first
    | with_reducible apply Within.refl
    | with_reducible assumption
    | with_reducible apply Within.ite ?_ ?_
    | ((with_reducible apply Within.step ?_ (State.judgeGate_within _ _) ?h1); (case h1 => rfl))
    | ((with_reducible apply Within.step ?_ (State.judgeSpans_within _) ?h1); (case h1 => rfl))
    | ((with_reducible apply Within.step ?_ (State.trip_within _ _) ?h1); (case h1 => rfl))

theorem State.damage_within (s : State) (g : Nat) :
    Within [.zither, .feed, .msix, .burrow, .twin] [2764, 2781, 3335, 3337, 3339, 3352, 3357, 6914, 9152, 9280, 9344, 9408] s (State.damage s g) := by
  unfold State.damage
  try dsimp only
  repeat' first
    | with_reducible apply Within.refl
    | with_reducible assumption
    | with_reducible apply Within.ite ?_ ?_
    | ((with_reducible apply Within.step ?_ (State.ghsLow_within _) ?h1); (case h1 => rfl))
    | ((with_reducible apply Within.step ?_ (State.record_within _ _ _ _) ?h1); (case h1 => rfl))
    | ((with_reducible apply Within.step ?_ (State.setGate_within _ _ _) ?h1); (case h1 => rfl))
    | ((with_reducible apply Within.step ?_ (State.setIns_within _ _) ?h1); (case h1 => rfl))
    | ((with_reducible apply Within.step ?_ (State.trip_within _ _) ?h1); (case h1 => rfl))

theorem State.confirmGhs_within (s : State) :
    Within [.feed, .msix, .burrow, .twin] [3357, 6914, 9152, 9280, 9344, 9408] s (State.confirmGhs s) := by
  unfold State.confirmGhs
  try dsimp only
  repeat' first
    | with_reducible apply Within.refl
    | with_reducible assumption
    | with_reducible apply Within.ite ?_ ?_
    | ((with_reducible apply Within.step ?_ (State.record_within _ _ _ _) ?h1); (case h1 => rfl))
    | ((with_reducible apply Within.step ?_ (State.setIns_within _ _) ?h1); (case h1 => rfl))
    | ((with_reducible apply Within.set_feed _ ?_ ?h1); (case h1 => rfl))

theorem State.judgeMonitor_within (s : State) (g : Nat) :
    Within [.zither, .feed, .msix, .burrow, .twin] [2764, 2781, 3335, 3337, 3339, 3352, 3357, 6914, 9152, 9280, 9344, 9408] s (State.judgeMonitor s g) := by
  unfold State.judgeMonitor
  try dsimp only
  repeat' first
    | with_reducible apply Within.refl
    | with_reducible assumption
    | with_reducible apply Within.ite ?_ ?_
    | ((with_reducible apply Within.step ?_ (State.confirmGhs_within _) ?h1); (case h1 => rfl))
    | ((with_reducible apply Within.step ?_ (State.damage_within _ _) ?h1); (case h1 => rfl))
    | ((with_reducible apply Within.step ?_ (State.setSide_within _ _ _) ?h1); (case h1 => rfl))

theorem State.judgeCollapse_within (s : State) :
    Within [.zither] [] s (State.judgeCollapse s) := by
  unfold State.judgeCollapse
  try dsimp only
  repeat' first
    | with_reducible apply Within.refl
    | with_reducible assumption
    | with_reducible apply Within.ite ?_ ?_
    | ((with_reducible apply Within.set_zither _ ?_ ?h1); (case h1 => rfl))

theorem State.rampStart_within (s : State) :
    Within [.feed] [3392] s (State.rampStart s) := by
  unfold State.rampStart
  try dsimp only
  repeat' first
    | with_reducible apply Within.refl
    | with_reducible assumption
    | with_reducible apply Within.ite ?_ ?_
    | ((with_reducible apply Within.wr _ _ _ ?_ ?h1); (case h1 => rfl))
    | ((with_reducible apply Within.set_feed _ ?_ ?h1); (case h1 => rfl))

theorem State.rampLoop_within (s : State) (ap : Nat) :
    Within [.feed] [] s (State.rampLoop s ap) := by
  unfold State.rampLoop
  try dsimp only
  repeat' first
    | with_reducible apply Within.refl
    | with_reducible assumption
    | with_reducible apply Within.ite ?_ ?_
    | ((with_reducible apply Within.set_feed _ ?_ ?h1); (case h1 => rfl))

theorem State.judgeSag_within (s : State) (ap : Nat) :
    Within [.feed] [] s (State.judgeSag s ap) := by
  unfold State.judgeSag
  try dsimp only
  repeat' first
    | with_reducible apply Within.refl
    | with_reducible assumption
    | with_reducible apply Within.ite ?_ ?_
    | ((with_reducible apply Within.step ?_ (State.setSide_within _ _ _) ?h1); (case h1 => rfl))
    | ((with_reducible apply Within.set_feed _ ?_ ?h1); (case h1 => rfl))

theorem State.addEnergy_within (s : State) (ap : Nat) :
    Within [.feed] [3392] s (State.addEnergy s ap) := by
  unfold State.addEnergy
  try dsimp only
  repeat' first
    | with_reducible apply Within.refl
    | with_reducible assumption
    | with_reducible apply Within.ite ?_ ?_
    | ((with_reducible apply Within.wr _ _ _ ?_ ?h1); (case h1 => rfl))
    | ((with_reducible apply Within.step ?_ (State.rampLoop_within _ _) ?h1); (case h1 => rfl))
    | ((with_reducible apply Within.set_feed _ ?_ ?h1); (case h1 => rfl))

theorem State.judgeFuses_within (s : State) (oc wh lost : Bool) :
    Within [.zither, .feed, .msix, .burrow, .twin] [2764, 2781, 3335, 3337, 3339, 3352, 3357, 6914, 9152, 9280, 9344, 9408] s (State.judgeFuses s oc wh lost) := by
  unfold State.judgeFuses
  try dsimp only
  repeat' first
    | with_reducible apply Within.refl
    | with_reducible assumption
    | with_reducible apply Within.ite ?_ ?_
    | ((with_reducible apply Within.step ?_ (State.judgeGate_within _ _) ?h1); (case h1 => rfl))
    | ((with_reducible apply Within.step ?_ (State.trip_within _ _) ?h1); (case h1 => rfl))
    | ((with_reducible apply Within.set_feed _ ?_ ?h1); (case h1 => rfl))

theorem State.feedSample_within (s : State) (c ap : Nat) (was : Bool × Bool × Bool) :
    Within [.zither, .feed, .msix, .burrow, .twin] ([2764, 2781, 3335, 3337, 3339, 3352, 3357, 3392, 6914, 9152, 9280, 9344] ++ [9408]) s (State.feedSample s c ap was) := by
  unfold State.feedSample
  try dsimp only
  repeat' first
    | with_reducible apply Within.refl
    | with_reducible assumption
    | with_reducible apply Within.ite ?_ ?_
    | ((with_reducible apply Within.step ?_ (State.addEnergy_within _ _) ?h1); (case h1 => rfl))
    | ((with_reducible apply Within.step ?_ (State.judgeCollapse_within _) ?h1); (case h1 => rfl))
    | ((with_reducible apply Within.step ?_ (State.judgeDisch_within _) ?h1); (case h1 => rfl))
    | ((with_reducible apply Within.step ?_ (State.judgeFuses_within _ _ _ _) ?h1); (case h1 => rfl))
    | ((with_reducible apply Within.step ?_ (State.judgeMonitor_within _ _) ?h1); (case h1 => rfl))
    | ((with_reducible apply Within.step ?_ (State.judgeSag_within _ _) ?h1); (case h1 => rfl))
    | ((with_reducible apply Within.step ?_ (State.judgeSpans_within _) ?h1); (case h1 => rfl))
    | ((with_reducible apply Within.step ?_ (State.setSide_within _ _ _) ?h1); (case h1 => rfl))
    | split
    | ((with_reducible apply Within.set_feed _ ?_ ?h1); (case h1 => rfl))

theorem State.feedClear_within (s t : State) (by_ : Nat) (h : s.feedClear by_ = some t) : Within [.msix, .burrow, .twin] [3335, 3337, 3339, 3357, 6914, 9152, 9280, 9344, 9408] s t := by
  unfold State.feedClear at h
  extract_lets ins a b t1 t2 t3 at h
  have h1 : Within [.msix, .burrow, .twin] [3335, 3337, 3339, 3357, 6914, 9152, 9280, 9344, 9408] s t1 := Within.ite (Within.step (Within.refl _ _ _) (State.setIns_within s 0) rfl) (Within.refl _ _ _)
  clear_value t1
  have h2 : Within [.msix, .burrow, .twin] [3335, 3337, 3339, 3357, 6914, 9152, 9280, 9344, 9408] s t2 := Within.ite (h1.wr _ _ _ rfl) h1
  clear_value t2
  have h3 : Within [.msix, .burrow, .twin] [3335, 3337, 3339, 3357, 6914, 9152, 9280, 9344, 9408] s t3 := Within.ite (h2.wr _ _ _ rfl) h2
  clear_value t3
  split at h
  · cases h; exact Within.step (h3.wr _ _ _ rfl) (State.record_within _ _ _ _) rfl
  · cases h

theorem State.setFan_within (s : State) (o : Nat) (v : FanOut) :
    Within [.cooling] [] s (State.setFan s o v) := by
  unfold State.setFan
  try dsimp only
  repeat' first
    | with_reducible apply Within.refl
    | with_reducible assumption
    | with_reducible apply Within.ite ?_ ?_
    | ((with_reducible apply Within.set_cooling _ ?_ ?h1); (case h1 => rfl))

theorem State.setFlow_within (s : State) (f : Nat) (v : Flow) :
    Within [.cooling] [] s (State.setFlow s f v) := by
  unfold State.setFlow
  try dsimp only
  repeat' first
    | with_reducible apply Within.refl
    | with_reducible assumption
    | with_reducible apply Within.ite ?_ ?_
    | ((with_reducible apply Within.set_cooling _ ?_ ?h1); (case h1 => rfl))

theorem State.refresh_within (s : State) (o : Nat) :
    Within [.cooling] [] s (State.refresh s o) := by
  unfold State.refresh
  try dsimp only
  repeat' first
    | with_reducible apply Within.refl
    | with_reducible assumption
    | with_reducible apply Within.ite ?_ ?_
    | ((with_reducible apply Within.step ?_ (State.setFan_within _ _ _) ?h1); (case h1 => rfl))

theorem State.judgeZone_within (s : State) (z : Nat) :
    Within [.cooling] [5253, 5264, 5274, 5275] s (State.judgeZone s z) := by
  unfold State.judgeZone
  try dsimp only
  repeat' first
    | with_reducible apply Within.refl
    | with_reducible assumption
    | with_reducible apply Within.ite ?_ ?_
    | ((with_reducible apply Within.wr _ _ _ ?_ ?h1); (case h1 => rfl))
    | ((with_reducible apply Within.wrBit _ _ _ ?_ ?h1); (case h1 => rfl))
    | split
    | ((with_reducible apply Within.set_cooling _ ?_ ?h1); (case h1 => rfl))

theorem State.startCheck_within (s : State) (o retry : Nat) :
    Within [.cooling] [5147, 5149] s (State.startCheck s o retry) := by
  unfold State.startCheck
  try dsimp only
  repeat' first
    | with_reducible apply Within.refl
    | with_reducible assumption
    | with_reducible apply Within.ite ?_ ?_
    | ((with_reducible apply Within.wr _ _ _ ?_ ?h1); (case h1 => rfl))
    | ((with_reducible apply Within.step ?_ (State.setFan_within _ _ _) ?h1); (case h1 => rfl))

theorem State.judgeFull_within (s : State) :
    Within [.cooling, .msix, .burrow] [5271, 6914, 9152, 9280, 9344, 9408] s (State.judgeFull s) := by
  unfold State.judgeFull
  try dsimp only
  repeat' first
    | with_reducible apply Within.refl
    | with_reducible assumption
    | with_reducible apply Within.ite ?_ ?_
    | ((with_reducible apply Within.wr _ _ _ ?_ ?h1); (case h1 => rfl))
    | ((with_reducible apply Within.step ?_ (State.record_within _ _ _ _) ?h1); (case h1 => rfl))
    | with_reducible apply Within.each _ _ ?_ (fun _ _ _ _ => ?_)
    | ((with_reducible apply Within.set_cooling _ ?_ ?h1); (case h1 => rfl))

theorem State.judgeFlows_within (s : State) :
    Within [.cooling] [] s (State.judgeFlows s) := by
  unfold State.judgeFlows
  try dsimp only
  repeat' first
    | with_reducible apply Within.refl
    | with_reducible assumption
    | with_reducible apply Within.ite ?_ ?_
    | ((with_reducible apply Within.step ?_ (State.setFlow_within _ _ _) ?h1); (case h1 => rfl))
    | with_reducible apply Within.each _ _ ?_ (fun _ _ _ _ => ?_)

theorem State.driveAll_within (s : State) :
    Within [.cooling, .msix, .burrow] [5136, 5147, 5149, 5271, 6914, 9152, 9280, 9344, 9408] s (State.driveAll s) := by
  unfold State.driveAll
  try dsimp only
  repeat' first
    | with_reducible apply Within.refl
    | with_reducible assumption
    | with_reducible apply Within.ite ?_ ?_
    | ((with_reducible apply Within.wr _ _ _ ?_ ?h1); (case h1 => rfl))
    | ((with_reducible apply Within.step ?_ (State.judgeFlows_within _) ?h1); (case h1 => rfl))
    | ((with_reducible apply Within.step ?_ (State.judgeFull_within _) ?h1); (case h1 => rfl))
    | ((with_reducible apply Within.step ?_ (State.setFan_within _ _ _) ?h1); (case h1 => rfl))
    | ((with_reducible apply Within.step ?_ (State.startCheck_within _ _ _) ?h1); (case h1 => rfl))
    | with_reducible apply Within.each _ _ ?_ (fun _ _ _ _ => ?_)

theorem State.flowSet_within (s : State) (f : Nat) :
    Within [.cooling, .msix, .burrow] [5136, 5147, 5149, 5271, 5599, 6914, 9152, 9280, 9344, 9408] s (State.flowSet s f) := by
  unfold State.flowSet
  try dsimp only
  repeat' first
    | with_reducible apply Within.refl
    | with_reducible assumption
    | with_reducible apply Within.ite ?_ ?_
    | ((with_reducible apply Within.wr _ _ _ ?_ ?h1); (case h1 => rfl))
    | ((with_reducible apply Within.step ?_ (State.driveAll_within _) ?h1); (case h1 => rfl))
    | ((with_reducible apply Within.step ?_ (State.judgeFlows_within _) ?h1); (case h1 => rfl))
    | ((with_reducible apply Within.step ?_ (State.setFlow_within _ _ _) ?h1); (case h1 => rfl))

theorem State.putFallback_within (s : State) (z cause : Nat) :
    Within [.msix, .burrow] [5276, 5279, 6914, 9152, 9280, 9344, 9408] s (State.putFallback s z cause) := by
  unfold State.putFallback
  try dsimp only
  repeat' first
    | with_reducible apply Within.refl
    | with_reducible assumption
    | with_reducible apply Within.ite ?_ ?_
    | ((with_reducible apply Within.wr _ _ _ ?_ ?h1); (case h1 => rfl))
    | ((with_reducible apply Within.step ?_ (State.record_within _ _ _ _) ?h1); (case h1 => rfl))

theorem State.zoneFallback_within (s : State) (z cause : Nat) :
    Within [.cooling, .msix, .burrow] [5136, 5147, 5149, 5271, 5276, 5279, 6914, 9152, 9280, 9344, 9408] s (State.zoneFallback s z cause) := by
  unfold State.zoneFallback
  try dsimp only
  repeat' first
    | with_reducible apply Within.refl
    | with_reducible assumption
    | with_reducible apply Within.ite ?_ ?_
    | ((with_reducible apply Within.step ?_ (State.driveAll_within _) ?h1); (case h1 => rfl))
    | ((with_reducible apply Within.step ?_ (State.putFallback_within _ _ _) ?h1); (case h1 => rfl))

theorem State.zonesFallback_within (s : State) (cause : Nat) :
    Within [.cooling, .msix, .burrow] [5136, 5147, 5149, 5271, 5276, 5279, 6914, 9152, 9280, 9344, 9408] s (State.zonesFallback s cause) := by
  unfold State.zonesFallback
  try dsimp only
  repeat' first
    | with_reducible apply Within.refl
    | with_reducible assumption
    | with_reducible apply Within.ite ?_ ?_
    | ((with_reducible apply Within.step ?_ (State.driveAll_within _) ?h1); (case h1 => rfl))
    | ((with_reducible apply Within.step ?_ (State.putFallback_within _ _ _) ?h1); (case h1 => rfl))
    | with_reducible apply Within.each _ _ ?_ (fun _ _ _ _ => ?_)

theorem State.noteCurrent_within (s : State) (c word : Nat) :
    Within [.cooling] [] s (State.noteCurrent s c word) := by
  unfold State.noteCurrent
  try dsimp only
  repeat' first
    | with_reducible apply Within.refl
    | with_reducible assumption
    | with_reducible apply Within.ite ?_ ?_
    | ((with_reducible apply Within.set_cooling _ ?_ ?h1); (case h1 => rfl))

theorem State.judgeLost_within (s : State) (o : Nat) (found : Bool) :
    Within [.cooling, .msix, .burrow] [5147, 5149, 6914, 9152, 9280, 9344, 9408] s (State.judgeLost s o found) := by
  unfold State.judgeLost
  try dsimp only
  repeat' first
    | with_reducible apply Within.refl
    | with_reducible assumption
    | with_reducible apply Within.ite ?_ ?_
    | ((with_reducible apply Within.wr _ _ _ ?_ ?h1); (case h1 => rfl))
    | ((with_reducible apply Within.step ?_ (State.record_within _ _ _ _) ?h1); (case h1 => rfl))
    | ((with_reducible apply Within.step ?_ (State.setFan_within _ _ _) ?h1); (case h1 => rfl))
    | split

theorem State.judgeEdge_within (s : State) (o : Nat) :
    Within [.cooling, .msix, .burrow] [5136, 5147, 5149, 5271, 6914, 9152, 9280, 9344, 9408] s (State.judgeEdge s o) := by
  unfold State.judgeEdge
  try dsimp only
  repeat' first
    | with_reducible apply Within.refl
    | with_reducible assumption
    | with_reducible apply Within.ite ?_ ?_
    | ((with_reducible apply Within.wr _ _ _ ?_ ?h1); (case h1 => rfl))
    | ((with_reducible apply Within.step ?_ (State.driveAll_within _) ?h1); (case h1 => rfl))
    | ((with_reducible apply Within.step ?_ (State.record_within _ _ _ _) ?h1); (case h1 => rfl))
    | ((with_reducible apply Within.step ?_ (State.setFan_within _ _ _) ?h1); (case h1 => rfl))

theorem State.setCrit_within (s : State) (on : Bool) :
    Within [.cooling, .msix, .burrow] [5136, 5147, 5149, 5271, 5855, 6914, 9152, 9280, 9344, 9408] s (State.setCrit s on) := by
  unfold State.setCrit
  try dsimp only
  repeat' first
    | with_reducible apply Within.refl
    | with_reducible assumption
    | with_reducible apply Within.ite ?_ ?_
    | ((with_reducible apply Within.wrBit _ _ _ ?_ ?h1); (case h1 => rfl))
    | ((with_reducible apply Within.step ?_ (State.driveAll_within _) ?h1); (case h1 => rfl))
    | ((with_reducible apply Within.step ?_ (State.record_within _ _ _ _) ?h1); (case h1 => rfl))

theorem State.noteLeak_within (s : State) (r word : Nat) :
    Within [] [5888, 5916, 5918] s (State.noteLeak s r word) := by
  unfold State.noteLeak
  try dsimp only
  repeat' first
    | with_reducible apply Within.refl
    | with_reducible assumption
    | with_reducible apply Within.ite ?_ ?_
    | ((with_reducible apply Within.wr _ _ _ ?_ ?h1); (case h1 => rfl))

theorem State.setHarp_within (s : State) (w : Nat) (h : Harp) :
    Within [.harps] [] s (State.setHarp s w h) := by
  unfold State.setHarp
  try dsimp only
  repeat' first
    | with_reducible apply Within.refl
    | with_reducible assumption
    | with_reducible apply Within.ite ?_ ?_
    | ((with_reducible apply Within.set_harps _ ?_ ?h1); (case h1 => rfl))

theorem State.harpRaise_within (s : State) (w : Nat) :
    Within [.harps, .msix, .burrow] [3742, 3776, 6914, 9152, 9280, 9344, 9408] s (State.harpRaise s w) := by
  unfold State.harpRaise
  try dsimp only
  repeat' first
    | with_reducible apply Within.refl
    | with_reducible assumption
    | with_reducible apply Within.ite ?_ ?_
    | ((with_reducible apply Within.wr _ _ _ ?_ ?h1); (case h1 => rfl))
    | ((with_reducible apply Within.addSat _ _ _ ?_ ?h1); (case h1 => rfl))
    | ((with_reducible apply Within.step ?_ (State.record_within _ _ _ _) ?h1); (case h1 => rfl))
    | ((with_reducible apply Within.step ?_ (State.setHarp_within _ _ _) ?h1); (case h1 => rfl))

theorem State.harpJudge_within (s : State) :
    Within [.harps, .msix, .burrow] [3742, 3776, 6914, 9152, 9280, 9344, 9408] s (State.harpJudge s) := by
  unfold State.harpJudge
  try dsimp only
  repeat' first
    | with_reducible apply Within.refl
    | with_reducible assumption
    | with_reducible apply Within.ite ?_ ?_
    | ((with_reducible apply Within.step ?_ (State.harpRaise_within _ _) ?h1); (case h1 => rfl))
    | with_reducible apply Within.each _ _ ?_ (fun _ _ _ _ => ?_)
    | with_reducible apply Within.when _ _ ?_ ?_

theorem State.avsStart_within (s : State) (w : Nat) (f : AvsFrame) :
    Within [.harps] [3911] s (State.avsStart s w f) := by
  unfold State.avsStart
  try dsimp only
  repeat' first
    | with_reducible apply Within.refl
    | with_reducible assumption
    | with_reducible apply Within.ite ?_ ?_
    | ((with_reducible apply Within.wr _ _ _ ?_ ?h1); (case h1 => rfl))
    | ((with_reducible apply Within.step ?_ (State.setHarp_within _ _ _) ?h1); (case h1 => rfl))

theorem State.avsCommit_within (s : State) (w : Nat) (mv : Nat) :
    Within [.harps] [3909, 3911] s (State.avsCommit s w mv) := by
  unfold State.avsCommit
  try dsimp only
  repeat' first
    | with_reducible apply Within.refl
    | with_reducible assumption
    | with_reducible apply Within.ite ?_ ?_
    | ((with_reducible apply Within.wr _ _ _ ?_ ?h1); (case h1 => rfl))
    | ((with_reducible apply Within.step ?_ (State.avsStart_within _ _ _) ?h1); (case h1 => rfl))
    | ((with_reducible apply Within.step ?_ (State.setHarp_within _ _ _) ?h1); (case h1 => rfl))

theorem State.avsNext_within (s : State) (w : Nat) :
    Within [.harps] [3911] s (State.avsNext s w) := by
  unfold State.avsNext
  try dsimp only
  repeat' first
    | with_reducible apply Within.refl
    | with_reducible assumption
    | with_reducible apply Within.ite ?_ ?_
    | ((with_reducible apply Within.wr _ _ _ ?_ ?h1); (case h1 => rfl))
    | ((with_reducible apply Within.step ?_ (State.avsStart_within _ _ _) ?h1); (case h1 => rfl))
    | ((with_reducible apply Within.step ?_ (State.setHarp_within _ _ _) ?h1); (case h1 => rfl))
    | split

theorem State.outEffect_within (s : State) (kind index : Nat) (v : Word) :
    Within [.harps, .cooling, .msix, .lasers, .burrow] [3742, 3776, 3909, 3911, 6299, 6300, 6301, 6914, 9152, 9280, 9344, 9408] s (State.outEffect s kind index v) := by
  unfold State.outEffect
  try dsimp only
  repeat' first
    | with_reducible apply Within.refl
    | with_reducible assumption
    | with_reducible apply Within.ite ?_ ?_
    | ((with_reducible apply Within.step ?_ (State.avsCommit_within _ _ _) ?h1); (case h1 => rfl))
    | ((with_reducible apply Within.step ?_ (State.harpJudge_within _) ?h1); (case h1 => rfl))
    | ((with_reducible apply Within.step ?_ (State.judgeFlows_within _) ?h1); (case h1 => rfl))
    | ((with_reducible apply Within.step ?_ (State.laserCommit_within _ _ _) ?h1); (case h1 => rfl))
    | ((with_reducible apply Within.step ?_ (State.refresh_within _ _) ?h1); (case h1 => rfl))
    | split

theorem State.leakAnswer_within (s : State) (branch status : Nat) :
    Within [.msix, .hostRest] [7048, 7744, 7808] s (State.leakAnswer s branch status) := by
  unfold State.leakAnswer
  try dsimp only
  repeat' first
    | with_reducible apply Within.refl
    | with_reducible assumption
    | with_reducible apply Within.ite ?_ ?_
    | ((with_reducible apply Within.step ?_ (State.complete_within _ _ _ _ _ _ _) ?h1); (case h1 => rfl))
    | with_reducible apply Within.each _ _ ?_ (fun _ _ _ _ => ?_)
    | split

theorem State.objEvent_within (s : State) (obj code : Nat) (hi lo : Word) :
    Within [.msix, .hostRest, .burrow] [6914, 7048, 7744, 7808, 9152, 9280, 9344, 9408] s (State.objEvent s obj code hi lo) := by
  unfold State.objEvent
  try dsimp only
  repeat' first
    | with_reducible apply Within.refl
    | with_reducible assumption
    | with_reducible apply Within.ite ?_ ?_
    | ((with_reducible apply Within.step ?_ (State.leakAnswer_within _ _ _) ?h1); (case h1 => rfl))
    | ((with_reducible apply Within.step ?_ (State.offer_within _ _) ?h1); (case h1 => rfl))

theorem State.commitEntry_within (s : State) (n obj c : Nat) (q : OutEntry) :
    Within [.engines, .settRest, .harps, .cooling, .msix, .hostRest, .ports, .lasers, .wards, .burrow] ([2257, 3742, 3776, 3909, 3911, 6016, 6299, 6300, 6301, 6914, 7048, 7744] ++ [7808, 9152, 9280, 9344, 9408]) s (State.commitEntry s n obj c q) := by
  unfold State.commitEntry
  try dsimp only
  repeat' first
    | with_reducible apply Within.refl
    | with_reducible assumption
    | with_reducible apply Within.ite ?_ ?_
    | ((with_reducible apply Within.step ?_ (State.objEvent_within _ _ _ _ _) ?h1); (case h1 => rfl))
    | ((with_reducible apply Within.step ?_ (State.outEffect_within _ _ _ _) ?h1); (case h1 => rfl))
    | ((with_reducible apply Within.step ?_ (State.portRequest_within _ _ _ _ _ _ _ _) ?h1); (case h1 => rfl))
    | ((with_reducible apply Within.step ?_ (State.post_within _ _) ?h1); (case h1 => rfl))
    | split
    | ((with_reducible apply Within.set_engines _ ?_ ?h1 ?h2 ?h3); (case h1 => rfl); (case h2 => with_reducible rfl); (case h3 => with_reducible rfl))
    | ((with_reducible apply Within.set_settRest _ ?_ ?h1 ?h2 ?h3); (case h1 => rfl); (case h2 => with_reducible rfl); (case h3 => with_reducible rfl))

theorem State.commitQueue_within (s : State) (n obj c : Nat) (l : List OutEntry) :
    Within [.engines, .settRest, .zither, .feed, .harps, .cooling, .msix, .hostRest, .ports, .lasers, .wards, .burrow, .twin] ([2257, 2764, 2781, 3335, 3337, 3339, 3352, 3357, 3742, 3776, 3909, 3911] ++ [6016, 6299, 6300, 6301, 6914, 7048, 7744, 7808, 9152, 9280, 9344, 9408]) s (State.commitQueue s n obj c l) := by
  unfold State.commitQueue
  try dsimp only
  repeat' first
    | with_reducible apply Within.refl
    | with_reducible assumption
    | with_reducible apply Within.ite ?_ ?_
    | ((with_reducible apply Within.step ?_ (State.commitEntry_within _ _ _ _ _) ?h1); (case h1 => rfl))
    | ((with_reducible apply Within.step ?_ (State.judgePulls_within _ _) ?h1); (case h1 => rfl))
    | with_reducible apply Within.each _ _ ?_ (fun _ _ _ _ => ?_)
    | with_reducible apply Within.when _ _ ?_ ?_

theorem State.objectTick_within (s : State) (n cycles : Nat) (keep : List Word) (out : List OutEntry) :
    Within [.engines, .sharedMemory, .settRest, .zither, .feed, .harps, .cooling, .msix, .hostRest, .ports, .lasers, .wards, .burrow, .twin] ([2257, 2764, 2781, 3335, 3337, 3339, 3352, 3357, 3742, 3776, 3909, 3911] ++ [6016, 6299, 6300, 6301, 6914, 7048, 7744, 7808, 9152, 9280, 9344, 9408]) s (State.objectTick s n cycles keep out) := by
  unfold State.objectTick
  extract_lets e s1
  have h1 : Within [.engines, .sharedMemory, .settRest, .zither, .feed, .harps, .cooling, .msix, .hostRest, .ports, .lasers, .wards, .burrow, .twin] ([2257, 2764, 2781, 3335, 3337, 3339, 3352, 3357, 3742, 3776, 3909, 3911] ++ [6016, 6299, 6300, 6301, 6914, 7048, 7744, 7808, 9152, 9280, 9344, 9408]) s s1 := Within.step (Within.refl _ _ s) (State.putPriv_within s n 0 keep) rfl
  clear_value s1
  exact Within.step (Within.step h1 (State.setEngine_within s1 n _) rfl) (State.commitQueue_within _ n _ _ out) rfl

theorem State.objectReads_within {bs : List Block} {cs : List Nat} {r s t : State} (n : Nat) (offs : List Nat) (ok : Bool)
    (hs : Within bs cs r s) (ht : Within bs cs r t) (hc : covers bs [.engines, .sharedMemory, .settRest, .msix, .burrow] cs [6914, 8192, 8208, 8384, 8443, 8444, 8447, 9152, 9280, 9344, 9408] = true) : Within bs cs r (s.objectReads n offs ok t) := by
  have up : ∀ u, Within [.engines, .sharedMemory, .settRest, .msix, .burrow] [6914, 8192, 8208, 8384, 8443, 8444, 8447, 9152, 9280, 9344, 9408] s u → Within bs cs r u := fun u hu => hs.step hu hc
  unfold State.objectReads
  split
  · exact up _ (Within.step (Within.refl _ _ _) (State.engUncorr_within s n _) rfl)
  · refine Within.ite (Within.each _ _ ht fun _ _ u hu => ?_) (up _ (Within.step (Within.refl _ _ _) (State.engFault_within s n 3) rfl))
    exact hu.step (Within.step (Within.refl [.engines, .sharedMemory, .settRest, .msix, .burrow] [6914, 8192, 8208, 8384, 8443, 8444, 8447, 9152, 9280, 9344, 9408] u) (State.memCorr_within u 5) rfl) hc

theorem State.wardGovTick_within (s : State) (n : Nat) :
    Within [.engines, .sharedMemory, .settRest, .zither, .feed, .harps, .cooling, .msix, .hostRest, .ports, .lasers, .wards, .burrow, .twin] ([2257, 2764, 2781, 3335, 3337, 3339, 3352, 3357, 3742, 3776, 3909, 3911] ++ [6016, 6299, 6300, 6301, 6914, 7048, 7744, 7808, 8192, 8208, 8384, 8443] ++ [8444, 8447, 9152, 9280, 9344, 9408]) s (State.wardGovTick s n) := by
  unfold State.wardGovTick
  try dsimp only
  repeat' first
    | with_reducible apply Within.refl
    | with_reducible assumption
    | with_reducible apply Within.ite ?_ ?_
    | ((with_reducible apply State.objectReads_within _ _ _ ?_ ?_ ?h1); (case h1 => rfl))
    | ((with_reducible apply Within.step ?_ (State.objectTick_within _ _ _ _ _) ?h1); (case h1 => rfl))

theorem State.trayGovTick_within (s : State) (n : Nat) :
    Within [.engines, .sharedMemory, .settRest, .zither, .feed, .harps, .cooling, .msix, .hostRest, .ports, .lasers, .wards, .burrow, .twin] ([2257, 2764, 2781, 3335, 3337, 3339, 3352, 3357, 3742, 3776, 3909, 3911] ++ [6016, 6299, 6300, 6301, 6914, 7048, 7744, 7808, 8192, 8208, 8384, 8443] ++ [8444, 8447, 9152, 9280, 9344, 9408]) s (State.trayGovTick s n) := by
  unfold State.trayGovTick
  try dsimp only
  repeat' first
    | with_reducible apply Within.refl
    | with_reducible assumption
    | with_reducible apply Within.ite ?_ ?_
    | ((with_reducible apply State.objectReads_within _ _ _ ?_ ?_ ?h1); (case h1 => rfl))
    | ((with_reducible apply Within.step ?_ (State.objectTick_within _ _ _ _ _) ?h1); (case h1 => rfl))

theorem State.branchTick_within (s : State) (n : Nat) :
    Within [.engines, .sharedMemory, .settRest, .zither, .feed, .harps, .cooling, .msix, .hostRest, .ports, .lasers, .wards, .burrow, .twin] ([2257, 2764, 2781, 3335, 3337, 3339, 3352, 3357, 3742, 3776, 3909, 3911] ++ [6016, 6299, 6300, 6301, 6914, 7048, 7744, 7808, 8192, 8208, 8384, 8443] ++ [8444, 8447, 9152, 9280, 9344, 9408]) s (State.branchTick s n) := by
  unfold State.branchTick
  try dsimp only
  repeat' first
    | with_reducible apply Within.refl
    | with_reducible assumption
    | with_reducible apply Within.ite ?_ ?_
    | ((with_reducible apply State.objectReads_within _ _ _ ?_ ?_ ?h1); (case h1 => rfl))
    | ((with_reducible apply Within.step ?_ (State.objectTick_within _ _ _ _ _) ?h1); (case h1 => rfl))

theorem State.judgeThreshold_within (s : State) (x : Nat) (v : Int) (k : Nat) :
    Within [.sense] [576, 577, 578, 579] s (State.judgeThreshold s x v k) := by
  unfold State.judgeThreshold
  try dsimp only
  repeat' first
    | with_reducible apply Within.refl
    | with_reducible assumption
    | with_reducible apply Within.ite ?_ ?_
    | ((with_reducible apply Within.wrBit _ _ _ ?_ ?h1); (case h1 => first | rfl | ((simp only [levelFld]; repeat' split) <;> rfl)))
    | ((with_reducible apply Within.step ?_ (State.setWin_within _ _ _) ?h1); (case h1 => rfl))

theorem State.judgeWindow_within (s : State) (x : Nat) (v : Int) :
    Within [.sense] [576, 577, 578, 579] s (State.judgeWindow s x v) := by
  unfold State.judgeWindow
  try dsimp only
  repeat' first
    | with_reducible apply Within.refl
    | with_reducible assumption
    | with_reducible apply Within.ite ?_ ?_
    | ((with_reducible apply Within.step ?_ (State.judgeThreshold_within _ _ _ _) ?h1); (case h1 => rfl))
    | ((with_reducible apply Within.step ?_ (State.setWin_within _ _ _) ?h1); (case h1 => rfl))
    | with_reducible apply Within.each _ _ ?_ (fun _ _ _ _ => ?_)
    | ((with_reducible apply Within.set_sense _ ?_ ?h1); (case h1 => rfl))

theorem State.freezeWindow_within (s : State) (x : Nat) :
    Within [.sense] [] s (State.freezeWindow s x) := by
  unfold State.freezeWindow
  try dsimp only
  repeat' first
    | with_reducible apply Within.refl
    | with_reducible assumption
    | with_reducible apply Within.ite ?_ ?_
    | ((with_reducible apply Within.step ?_ (State.setWin_within _ _ _) ?h1); (case h1 => rfl))

theorem State.clearLevels_within (s : State) (x : Nat) :
    Within [.sense] [576, 577, 578, 579] s (State.clearLevels s x) := by
  unfold State.clearLevels
  try dsimp only
  repeat' first
    | with_reducible apply Within.refl
    | with_reducible assumption
    | with_reducible apply Within.ite ?_ ?_
    | ((with_reducible apply Within.wr _ _ _ ?_ ?h1); (case h1 => first | rfl | ((simp only [levelFld]; repeat' split) <;> rfl)))
    | ((with_reducible apply Within.step ?_ (State.setWin_within _ _ _) ?h1); (case h1 => rfl))
    | with_reducible apply Within.each _ _ ?_ (fun _ _ _ _ => ?_)

theorem State.applyWindow_within (s : State) (x : Nat) :
    Within [.sense] [576, 577, 578, 579, 581] s (State.applyWindow s x) := by
  unfold State.applyWindow
  try dsimp only
  repeat' first
    | with_reducible apply Within.refl
    | with_reducible assumption
    | with_reducible apply Within.ite ?_ ?_
    | ((with_reducible apply Within.wr _ _ _ ?_ ?h1); (case h1 => first | rfl | ((simp only [levelFld]; repeat' split) <;> rfl)))
    | ((with_reducible apply Within.step ?_ (State.clearLevels_within _ _) ?h1); (case h1 => rfl))
    | ((with_reducible apply Within.step ?_ (State.setWin_within _ _ _) ?h1); (case h1 => rfl))
    | with_reducible apply Within.each _ _ ?_ (fun _ _ _ _ => ?_)

theorem State.collectEdges_within (s : State) (c : Nat) :
    Within [.engines] [] s (State.collectEdges s c) := by
  unfold State.collectEdges
  try dsimp only
  repeat' first
    | with_reducible apply Within.refl
    | with_reducible assumption
    | with_reducible apply Within.ite ?_ ?_
    | split
    | ((with_reducible apply Within.set_engines _ ?_ ?h1 ?h2 ?h3); (case h1 => rfl); (case h2 => with_reducible rfl); (case h3 => with_reducible rfl))

theorem State.meterStep_within (s : State) (m : Nat) (p : Int) (dt : Nat) :
    Within [.sense] [832, 833, 896, 1024, 1088] s (State.meterStep s m p dt) := by
  unfold State.meterStep
  try dsimp only
  repeat' first
    | with_reducible apply Within.refl
    | with_reducible assumption
    | with_reducible apply Within.ite ?_ ?_
    | ((with_reducible apply Within.wr _ _ _ ?_ ?h1); (case h1 => rfl))
    | ((with_reducible apply Within.step ?_ (State.setMeter_within _ _ _) ?h1); (case h1 => rfl))

theorem State.meterSample_within (s : State) (c ap word : Nat) (m : Nat) :
    Within [.sense] [832, 833, 896, 1024, 1088] s (State.meterSample s c ap word m) := by
  unfold State.meterSample
  try dsimp only
  repeat' first
    | with_reducible apply Within.refl
    | with_reducible assumption
    | with_reducible apply Within.ite ?_ ?_
    | ((with_reducible apply Within.step ?_ (State.meterStep_within _ _ _ _) ?h1); (case h1 => rfl))
    | ((with_reducible apply Within.step ?_ (State.setMeter_within _ _ _) ?h1); (case h1 => rfl))
    | split

theorem State.calStart_within (s : State) (ap c : Nat) :
    Within [.sense] [205] s (State.calStart s ap c) := by
  unfold State.calStart
  try dsimp only
  repeat' first
    | with_reducible apply Within.refl
    | with_reducible assumption
    | with_reducible apply Within.ite ?_ ?_
    | ((with_reducible apply Within.wr _ _ _ ?_ ?h1); (case h1 => rfl))
    | ((with_reducible apply Within.step ?_ (State.setChan_within _ _ _) ?h1); (case h1 => rfl))
    | ((with_reducible apply Within.set_sense _ ?_ ?h1); (case h1 => rfl))

theorem State.calNext_within (s : State) (ap : Nat) (quick : Bool) :
    Within [.sense] [205] s (State.calNext s ap quick) := by
  unfold State.calNext
  try dsimp only
  repeat' first
    | with_reducible apply Within.refl
    | with_reducible assumption
    | with_reducible apply Within.ite ?_ ?_
    | ((with_reducible apply Within.step ?_ (State.calStart_within _ _ _) ?h1); (case h1 => rfl))
    | split

theorem State.calExhausted_within (s : State) (quick : Bool) :
    Within [.sense, .msix, .burrow] [6914, 9152, 9280, 9344, 9408] s (State.calExhausted s quick) := by
  unfold State.calExhausted
  try dsimp only
  repeat' first
    | with_reducible apply Within.refl
    | with_reducible assumption
    | with_reducible apply Within.ite ?_ ?_
    | ((with_reducible apply Within.step ?_ (State.record_within _ _ _ _) ?h1); (case h1 => rfl))
    | ((with_reducible apply Within.set_sense _ ?_ ?h1); (case h1 => rfl))

theorem State.calIdle_within (s : State) :
    Within [] [720] s (State.calIdle s) := by
  unfold State.calIdle
  try dsimp only
  repeat' first
    | with_reducible apply Within.refl
    | with_reducible assumption
    | with_reducible apply Within.ite ?_ ?_
    | ((with_reducible apply Within.wr _ _ _ ?_ ?h1); (case h1 => rfl))

theorem State.calRun_within (s : State) (ap : Nat) :
    Within [.sense, .msix, .burrow] [205, 720, 6914, 9152, 9280, 9344, 9408] s (State.calRun s ap) := by
  unfold State.calRun
  try dsimp only
  repeat' first
    | with_reducible apply Within.refl
    | with_reducible assumption
    | with_reducible apply Within.ite ?_ ?_
    | ((with_reducible apply Within.step ?_ (State.calExhausted_within _ _) ?h1); (case h1 => rfl))
    | ((with_reducible apply Within.step ?_ (State.calIdle_within _) ?h1); (case h1 => rfl))
    | ((with_reducible apply Within.step ?_ (State.calNext_within _ _ _) ?h1); (case h1 => rfl))
    | with_reducible apply Within.upTo _ _ ?_ (fun _ _ _ => ?_)

theorem State.calPass_within (s : State) :
    Within [.sense, .msix, .burrow] [205, 720, 6914, 9152, 9280, 9344, 9408] s (State.calPass s) := by
  unfold State.calPass
  try dsimp only
  repeat' first
    | with_reducible apply Within.refl
    | with_reducible assumption
    | with_reducible apply Within.ite ?_ ?_
    | ((with_reducible apply Within.wr _ _ _ ?_ ?h1); (case h1 => rfl))
    | ((with_reducible apply Within.step ?_ (State.calRun_within _ _) ?h1); (case h1 => rfl))
    | ((with_reducible apply Within.set_sense _ ?_ ?h1); (case h1 => rfl))

theorem State.calDone_within (s : State) (c : Nat) :
    Within [.sense] [205] s (State.calDone s c) := by
  unfold State.calDone
  try dsimp only
  repeat' first
    | with_reducible apply Within.refl
    | with_reducible assumption
    | with_reducible apply Within.ite ?_ ?_
    | ((with_reducible apply Within.wr _ _ _ ?_ ?h1); (case h1 => rfl))
    | ((with_reducible apply Within.step ?_ (State.setChan_within _ _ _) ?h1); (case h1 => rfl))

theorem State.calSpared_within (s : State) (c : Nat) :
    Within [.sense, .msix, .burrow] [205, 206, 207, 704, 712, 6914, 9152, 9280, 9344, 9408] s (State.calSpared s c) := by
  unfold State.calSpared
  try dsimp only
  repeat' first
    | with_reducible apply Within.refl
    | with_reducible assumption
    | with_reducible apply Within.ite ?_ ?_
    | ((with_reducible apply Within.wr _ _ _ ?_ ?h1); (case h1 => first | rfl | ((simp only [spareFld]; repeat' split) <;> rfl)))
    | ((with_reducible apply Within.step ?_ (State.record_within _ _ _ _) ?h1); (case h1 => rfl))
    | ((with_reducible apply Within.step ?_ (State.setChan_within _ _ _) ?h1); (case h1 => rfl))

theorem State.domainOff_within (s : State) (d : Nat) : Within [.sense] [201, 202, 204, 205, 206, 207, 320, 336] s (State.domainOff s d) := by
  unfold State.domainOff
  exact Within.each _ _ (Within.set_sense _ (Within.refl _ _ s) rfl) fun c _ u hu =>
    Within.eachWr _ _ _ (Within.wr _ _ _ (Within.step hu (State.setChan_within u c {}) rfl) rfl) rfl

theorem State.domainFollow_within (s : State) (c : Nat) :
    Within [.sense] [201, 202, 204, 205, 206, 207, 320, 336] s (State.domainFollow s c) := by
  unfold State.domainFollow
  try dsimp only
  repeat' first
    | with_reducible apply Within.refl
    | with_reducible assumption
    | with_reducible apply Within.ite ?_ ?_
    | ((with_reducible apply Within.step ?_ (State.domainOff_within _ _) ?h1); (case h1 => rfl))
    | ((with_reducible apply Within.set_sense _ ?_ ?h1); (case h1 => rfl))

theorem State.bufferRead_within {bs : List Block} {cs : List Nat} {s t : State} {lost : State → State} (a : Nat) (bad : CodeWord)
    (h : Within bs cs s t) (hc : covers bs [] cs [8192, 8208, 8384, 8443, 8444, 8447] = true) (hf : ∀ u, Within bs cs s u → Within bs cs s (lost u)) :
    Within bs cs s (t.bufferRead a bad lost) := by
  have up : ∀ u, Within [] [8192, 8208, 8384, 8443, 8444, 8447] t u → Within bs cs s u := fun u hu => h.step hu hc
  unfold State.bufferRead
  split
  · exact h
  · exact up _ (Within.step (Within.refl _ _ _) (State.memCorr_within t 6) rfl)
  · exact hf _ (up _ (Within.step (Within.refl _ _ _) (State.memUncorr_within t 6 false a) rfl))

theorem State.upset_within (s : State) (u : Upset) :
    Within [.engines, .settRest, .msix, .hostRest] [2257, 7048, 7744, 7808, 8192, 8208, 8384, 8443, 8444, 8447] s (State.upset s u) := by
  unfold State.upset
  try dsimp only
  repeat' first
    | with_reducible apply Within.refl
    | with_reducible assumption
    | with_reducible apply Within.ite ?_ ?_
    | ((with_reducible apply Within.addSat _ _ _ ?_ ?h1); (case h1 => rfl))
    | ((with_reducible apply State.bufferRead_within _ _ ?_ ?h1 (fun _ _ => ?_)); (case h1 => rfl))
    | ((with_reducible apply Within.step ?_ (State.complete_within _ _ _ _ _ _ _) ?h1); (case h1 => rfl))
    | ((with_reducible apply Within.step ?_ (State.setEngine_within _ _ _) ?h1); (case h1 => rfl))
    | split
    | ((with_reducible apply Within.set_engines _ ?_ ?h1 ?h2 ?h3); (case h1 => rfl); (case h2 => with_reducible rfl); (case h3 => with_reducible rfl))
    | ((with_reducible apply Within.set_settRest _ ?_ ?h1 ?h2 ?h3); (case h1 => rfl); (case h2 => with_reducible rfl); (case h3 => with_reducible rfl))

theorem State.stopSett_within (s : State) (k : Nat) :
    Within [.engines, .settRest] [] s (State.stopSett s k) := by
  unfold State.stopSett
  try dsimp only
  repeat' first
    | with_reducible apply Within.refl
    | with_reducible assumption
    | with_reducible apply Within.ite ?_ ?_
    | ((with_reducible apply Within.step ?_ (State.setEngine_within _ _ _) ?h1); (case h1 => rfl))
    | with_reducible apply Within.each _ _ ?_ (fun _ _ _ _ => ?_)
    | ((with_reducible apply Within.set_engines _ ?_ ?h1 ?h2 ?h3); (case h1 => rfl); (case h2 => with_reducible rfl); (case h3 => with_reducible rfl))
    | ((with_reducible apply Within.set_settRest _ ?_ ?h1 ?h2 ?h3); (case h1 => rfl); (case h2 => with_reducible rfl); (case h3 => with_reducible rfl))

theorem State.applyFirmware_within (s : State) (k : Nat) :
    Within [.sharedMemory, .settRest] [] s (State.applyFirmware s k) := by
  unfold State.applyFirmware
  try dsimp only
  repeat' first
    | with_reducible apply Within.refl
    | with_reducible assumption
    | with_reducible apply Within.ite ?_ ?_
    | ((with_reducible apply Within.step ?_ (State.setSh_within _ _ _) ?h1); (case h1 => rfl))
    | with_reducible apply Within.each _ _ ?_ (fun _ _ _ _ => ?_)
    | split
    | dsimp only
    | ((with_reducible apply Within.set_settRest _ ?_ ?h1 ?h2 ?h3); (case h1 => rfl); (case h2 => with_reducible rfl); (case h3 => with_reducible rfl))

theorem State.applyCheckpoint_within (s : State) (n : Nat) (c : Checkpoint) :
    Within [.engines, .sharedMemory, .settRest] [9544] s (State.applyCheckpoint s n c) := by
  unfold State.applyCheckpoint
  try dsimp only
  repeat' first
    | with_reducible apply Within.refl
    | with_reducible assumption
    | with_reducible apply Within.ite ?_ ?_
    | ((with_reducible apply Within.wr _ _ _ ?_ ?h1); (case h1 => rfl))
    | ((with_reducible apply Within.step ?_ (State.setEngine_within _ _ _) ?h1); (case h1 => rfl))
    | ((with_reducible apply Within.step ?_ (State.setSh_within _ _ _) ?h1); (case h1 => rfl))
    | with_reducible apply Within.each _ _ ?_ (fun _ _ _ _ => ?_)

theorem State.applyMirrors_within (s : State) (k : Nat) :
    Within [.engines, .sharedMemory, .settRest, .twin] [9544] s (State.applyMirrors s k) := by
  unfold State.applyMirrors
  try dsimp only
  repeat' first
    | with_reducible apply Within.refl
    | with_reducible assumption
    | with_reducible apply Within.ite ?_ ?_
    | ((with_reducible apply Within.step ?_ (State.applyCheckpoint_within _ _ _) ?h1); (case h1 => rfl))
    | with_reducible apply Within.each _ _ ?_ (fun _ _ _ _ => ?_)
    | split
    | ((with_reducible apply Within.set_twin _ ?_ ?h1); (case h1 => rfl))

theorem State.reportEntry_within (s : State) (n : Nat) :
    Within [.sharedMemory, .settRest] [] s (State.reportEntry s n) := by
  unfold State.reportEntry
  try dsimp only
  repeat' first
    | with_reducible apply Within.refl
    | with_reducible assumption
    | with_reducible apply Within.ite ?_ ?_
    | ((with_reducible apply Within.step ?_ (State.setSh_within _ _ _) ?h1); (case h1 => rfl))
    | split

theorem State.runObject_within (s : State) (n : Nat) :
    Within [.engines, .sharedMemory, .settRest, .zither, .feed, .harps, .cooling, .msix, .hostRest, .ports, .lasers, .wards, .burrow, .twin] ([2257, 2764, 2781, 3335, 3337, 3339, 3352, 3357, 3742, 3776, 3909, 3911] ++ [6016, 6299, 6300, 6301, 6914, 7048, 7744, 7808, 8192, 8208, 8384, 8443] ++ [8444, 8447, 9152, 9280, 9344, 9408]) s (State.runObject s n) := by
  unfold State.runObject
  try dsimp only
  repeat' first
    | with_reducible apply Within.refl
    | with_reducible assumption
    | with_reducible apply Within.ite ?_ ?_
    | ((with_reducible apply Within.step ?_ (State.branchTick_within _ _) ?h1); (case h1 => rfl))
    | ((with_reducible apply Within.step ?_ (State.trayGovTick_within _ _) ?h1); (case h1 => rfl))
    | ((with_reducible apply Within.step ?_ (State.wardGovTick_within _ _) ?h1); (case h1 => rfl))
    | split

theorem State.startTick_within (s : State) (h n : Nat) :
    Within [.engines, .sharedMemory, .settRest, .zither, .feed, .harps, .cooling, .msix, .hostRest, .ports, .lasers, .wards, .burrow, .twin] ([2257, 2764, 2781, 3335, 3337, 3339, 3352, 3357, 3742, 3776, 3909, 3911] ++ [6016, 6299, 6300, 6301, 6914, 7048, 7744, 7808, 8192, 8208, 8384, 8443] ++ [8444, 8447, 9152, 9280, 9344, 9408]) s (State.startTick s h n) := by
  unfold State.startTick
  try dsimp only
  repeat' first
    | with_reducible apply Within.refl
    | with_reducible assumption
    | with_reducible apply Within.ite ?_ ?_
    | ((with_reducible apply Within.step ?_ (State.engFault_within _ _ _) ?h1); (case h1 => rfl))
    | ((with_reducible apply Within.step ?_ (State.reportEntry_within _ _) ?h1); (case h1 => rfl))
    | ((with_reducible apply Within.step ?_ (State.runObject_within _ _) ?h1); (case h1 => rfl))
    | ((with_reducible apply Within.step ?_ (State.setEngine_within _ _ _) ?h1); (case h1 => rfl))

theorem State.overrunAll_within (s : State) (k : Nat) :
    Within [.engines, .sharedMemory, .settRest, .msix, .burrow] [6914, 9152, 9280, 9344, 9408] s (State.overrunAll s k) := by
  unfold State.overrunAll
  try dsimp only
  repeat' first
    | with_reducible apply Within.refl
    | with_reducible assumption
    | with_reducible apply Within.ite ?_ ?_
    | ((with_reducible apply Within.step ?_ (State.overrun_within _ _) ?h1); (case h1 => rfl))
    | with_reducible apply Within.each _ _ ?_ (fun _ _ _ _ => ?_)

theorem State.clearEdges_within (s : State) (k : Nat) :
    Within [.engines] [] s (State.clearEdges s k) := by
  unfold State.clearEdges
  try dsimp only
  repeat' first
    | with_reducible apply Within.refl
    | with_reducible assumption
    | with_reducible apply Within.ite ?_ ?_
    | ((with_reducible apply Within.step ?_ (State.setEngine_within _ _ _) ?h1); (case h1 => rfl))
    | with_reducible apply Within.each _ _ ?_ (fun _ _ _ _ => ?_)

theorem State.engineCommand_within (s : State) (n : Nat) :
    Within [.engines, .sharedMemory, .settRest] [] s (State.engineCommand s n) := by
  unfold State.engineCommand
  try dsimp only
  repeat' first
    | with_reducible apply Within.refl
    | with_reducible assumption
    | with_reducible apply Within.ite ?_ ?_
    | ((with_reducible apply Within.step ?_ (State.engCommand_within _ _) ?h1); (case h1 => rfl))
    | ((with_reducible apply Within.step ?_ (State.objectBound_within _ _) ?h1); (case h1 => rfl))

theorem State.settBoundary_within (s : State) (k h : Nat) :
    Within [.engines, .sharedMemory, .settRest, .zither, .feed, .harps, .cooling, .msix, .hostRest, .ports, .lasers, .wards, .burrow, .twin] ([1280, 2257, 2764, 2781, 3335, 3337, 3339, 3352, 3357, 3742, 3776, 3909] ++ [3911, 6016, 6299, 6300, 6301, 6914, 7048, 7744, 7808, 8192, 8208, 8384] ++ [8443, 8444, 8447, 9152, 9280, 9344, 9408, 9544]) s (State.settBoundary s k h) := by
  unfold State.settBoundary
  try dsimp only
  repeat' first
    | with_reducible apply Within.refl
    | with_reducible assumption
    | with_reducible apply Within.ite ?_ ?_
    | ((with_reducible apply Within.step ?_ (State.applyFirmware_within _ _) ?h1); (case h1 => rfl))
    | ((with_reducible apply Within.step ?_ (State.applyMirrors_within _ _) ?h1); (case h1 => rfl))
    | ((with_reducible apply Within.step ?_ (State.clearEdges_within _ _) ?h1); (case h1 => rfl))
    | ((with_reducible apply Within.step ?_ (State.engineCommand_within _ _) ?h1); (case h1 => rfl))
    | ((with_reducible apply Within.step ?_ (State.overrunAll_within _ _) ?h1); (case h1 => rfl))
    | ((with_reducible apply Within.step ?_ (State.settOff_within _ _) ?h1); (case h1 => rfl))
    | ((with_reducible apply Within.step ?_ (State.settle_within _ _) ?h1); (case h1 => rfl))
    | ((with_reducible apply Within.step ?_ (State.startBound_within _ _) ?h1); (case h1 => rfl))
    | ((with_reducible apply Within.step ?_ (State.startTick_within _ _ _) ?h1); (case h1 => rfl))
    | ((with_reducible apply Within.step ?_ (State.stopSett_within _ _) ?h1); (case h1 => rfl))
    | with_reducible apply Within.each _ _ ?_ (fun _ _ _ _ => ?_)
    | ((with_reducible apply Within.set_engines _ ?_ ?h1 ?h2 ?h3); (case h1 => rfl); (case h2 => with_reducible rfl); (case h3 => with_reducible rfl))
    | ((with_reducible apply Within.set_settRest _ ?_ ?h1 ?h2 ?h3); (case h1 => rfl); (case h2 => with_reducible rfl); (case h3 => with_reducible rfl))

theorem State.setPath_within (s : State) (m : Bool) (p : CoalPath) :
    Within [.burrow] [] s (State.setPath s m p) := by
  unfold State.setPath
  try dsimp only
  repeat' first
    | with_reducible apply Within.refl
    | with_reducible assumption
    | with_reducible apply Within.ite ?_ ?_
    | ((with_reducible apply Within.set_burrow _ ?_ ?h1 ?h2); (case h1 => rfl); (case h2 => intro hb; first | exact hb | rfl))
    | ((with_reducible apply Within.lit ?tt ?_ ?h1 ?h2 ?h3 ?h4); (case h1 => with_reducible rfl); (case h2 => intro b hb; cases b <;> first | exact absurd (by decide) hb | rfl); (case h3 => exact id); (case h4 => intro hb; first | exact hb | rfl))
    | split

theorem State.commitCount_within (s : State) (mirror : Bool) (e : Coal) :
    Within [.burrow] [9280] s (State.commitCount s mirror e) := by
  unfold State.commitCount
  try dsimp only
  repeat' first
    | with_reducible apply Within.refl
    | with_reducible assumption
    | with_reducible apply Within.ite ?_ ?_
    | ((with_reducible apply Within.addWrap _ _ _ ?_ ?h1); (case h1 => rfl))
    | ((with_reducible apply Within.step ?_ (State.setPath_within _ _ _) ?h1); (case h1 => rfl))
    | ((with_reducible apply Within.set_burrow _ ?_ ?h1 ?h2); (case h1 => rfl); (case h2 => intro hb; first | exact hb | rfl))

theorem State.critFail_within (s : State) (k : Nat) (r : CritRead) :
    Within [.cooling, .msix, .burrow] [5854, 6914, 9152, 9280, 9344, 9408] s (State.critFail s k r) := by
  unfold State.critFail
  try dsimp only
  repeat' first
    | with_reducible apply Within.refl
    | with_reducible assumption
    | with_reducible apply Within.ite ?_ ?_
    | ((with_reducible apply Within.wr _ _ _ ?_ ?h1); (case h1 => rfl))
    | ((with_reducible apply Within.step ?_ (State.record_within _ _ _ _) ?h1); (case h1 => rfl))
    | split
    | ((with_reducible apply Within.set_cooling _ ?_ ?h1); (case h1 => rfl))

theorem State.replayIns_within (s : State) (l : List Rec) :
    Within [.feed, .msix, .burrow, .twin] [3339, 3357, 6914, 9152, 9280, 9344, 9408] s (State.replayIns s l) := by
  unfold State.replayIns
  try dsimp only
  repeat' first
    | with_reducible apply Within.refl
    | with_reducible assumption
    | with_reducible apply Within.ite ?_ ?_
    | ((with_reducible apply Within.wr _ _ _ ?_ ?h1); (case h1 => rfl))
    | ((with_reducible apply Within.step ?_ (State.record_within _ _ _ _) ?h1); (case h1 => rfl))
    | ((with_reducible apply Within.step ?_ (State.setIns_within _ _) ?h1); (case h1 => rfl))
    | split
    | ((with_reducible apply Within.set_feed _ ?_ ?h1); (case h1 => rfl))

theorem putBytes_wf (t : Tab Byte) (a : Nat) (l : List Byte) (h : Tab.wf 0 t = true) : Tab.wf 0 (putBytes t a l) = true := by
  induction l generalizing t a with
  | nil => exact h
  | cons b l ih => exact ih _ _ (Tab.wf_set 0 t a b h)

theorem State.setHbm_within (s : State) (a : Nat) (l : List Byte) : Within [.hbm, .recorderRest] [] s (State.setHbm s a l) :=
  Within.upd (Within.refl _ _ s) rfl (by intro b hb; cases b <;> first | exact absurd (by decide) hb | rfl)
    (fun h => ⟨h.1, putBytes_wf _ a l h.2⟩)

theorem State.recMark_within (s : State) (c : Nat) :
    Within [.recorderRest] [] s (State.recMark s c) := by
  unfold State.recMark
  try dsimp only
  repeat' first
    | with_reducible apply Within.refl
    | with_reducible assumption
    | with_reducible apply Within.ite ?_ ?_
    | ((with_reducible apply Within.set_recRest _ ?_ ?h1 ?h2); (case h1 => rfl); (case h2 => with_reducible rfl))

theorem State.segBegin_within (s : State) (t : Nat) :
    Within [.hbm, .recorderRest] [] s (State.segBegin s t) := by
  unfold State.segBegin
  try dsimp only
  repeat' first
    | with_reducible apply Within.refl
    | with_reducible assumption
    | with_reducible apply Within.ite ?_ ?_
    | split
    | ((with_reducible apply Within.set_recRest _ ?_ ?h1 ?h2); (case h1 => rfl); (case h2 => with_reducible rfl))
    | ((with_reducible apply Within.set_hbm _ ?_ ?h1 ?h2 ?h3); (case h1 => rfl); (case h2 => with_reducible rfl); (case h3 => intro hw; first | exact hw | exact Tab.wf_set _ _ _ _ hw | exact Tab.wf_filter _ _ _ hw | rfl))
    | ((with_reducible apply Within.set_recorder _ ?_ ?h1 ?h2 ?h3); (case h1 => rfl); (case h2 => rfl); (case h3 => intro hw; first | exact hw | exact Tab.wf_set _ _ _ _ hw | exact Tab.wf_filter _ _ _ hw | rfl))

theorem State.segEnd_within (s : State) :
    Within [.hbm, .recorderRest] [] s (State.segEnd s) := by
  unfold State.segEnd
  try dsimp only
  repeat' first
    | with_reducible apply Within.refl
    | with_reducible assumption
    | with_reducible apply Within.ite ?_ ?_
    | ((with_reducible apply Within.step ?_ (State.setHbm_within _ _ _) ?h1); (case h1 => rfl))
    | ((with_reducible apply Within.set_recRest _ ?_ ?h1 ?h2); (case h1 => rfl); (case h2 => with_reducible rfl))

theorem State.recSample_within (s : State) (c a word : Nat) :
    Within [.hbm, .recorderRest] [] s (State.recSample s c a word) := by
  unfold State.recSample
  try dsimp only
  repeat' first
    | with_reducible apply Within.refl
    | with_reducible assumption
    | with_reducible apply Within.ite ?_ ?_
    | ((with_reducible apply Within.step ?_ (State.recMark_within _ _) ?h1); (case h1 => rfl))
    | ((with_reducible apply Within.step ?_ (State.setHbm_within _ _ _) ?h1); (case h1 => rfl))
    | ((with_reducible apply Within.set_recRest _ ?_ ?h1 ?h2); (case h1 => rfl); (case h2 => with_reducible rfl))

theorem State.recTelem_within (s : State) (w : Nat) (frame : List Word) :
    Within [.hbm, .recorderRest] [] s (State.recTelem s w frame) := by
  unfold State.recTelem
  try dsimp only
  repeat' first
    | with_reducible apply Within.refl
    | with_reducible assumption
    | with_reducible apply Within.ite ?_ ?_
    | ((with_reducible apply Within.step ?_ (State.setHbm_within _ _ _) ?h1); (case h1 => rfl))

theorem State.recTrigger_within (s : State) (src rule post : Nat) :
    Within [.msix, .recorderRest, .burrow] [6914, 8064, 8084, 8092, 8094, 8256, 9152, 9280, 9344, 9408] s (State.recTrigger s src rule post) := by
  unfold State.recTrigger
  try dsimp only
  repeat' first
    | with_reducible apply Within.refl
    | with_reducible assumption
    | with_reducible apply Within.ite ?_ ?_
    | ((with_reducible apply Within.wr _ _ _ ?_ ?h1); (case h1 => rfl))
    | ((with_reducible apply Within.addSat _ _ _ ?_ ?h1); (case h1 => rfl))
    | ((with_reducible apply Within.step ?_ (State.record_within _ _ _ _) ?h1); (case h1 => rfl))
    | split
    | ((with_reducible apply Within.set_recRest _ ?_ ?h1 ?h2); (case h1 => rfl); (case h2 => with_reducible rfl))

theorem State.recStart_within (s : State) : Within [.hbm, .recorderRest, .burrow] [8064, 8084, 8092, 8094, 8256, 8320, 9280] s (State.recStart s) := by
  unfold State.recStart
  extract_lets s1 b1 r1 s2 top r2 s3
  have h1 : Within [.hbm, .recorderRest, .burrow] [8064, 8084, 8092, 8094, 8256, 8320, 9280] s s1 :=
    (((((((Within.refl _ _ s).wr _ _ _ rfl).wr _ _ _ rfl).wr _ _ _ rfl).wr _ _ _ rfl).wr _ _ _ rfl).wr _ _ _ rfl).wr _ _ _ rfl
  clear_value s1
  have h2 : Within [.hbm, .recorderRest, .burrow] [8064, 8084, 8092, 8094, 8256, 8320, 9280] s s2 := Within.upd (t := s1) h1 rfl (by intro b hb; cases b <;> first | exact absurd (by decide) hb | rfl) id
  clear_value s2 top
  have h3 : Within [.hbm, .recorderRest, .burrow] [8064, 8084, 8092, 8094, 8256, 8320, 9280] s s3 := Within.upd (t := s2) h2 rfl (by intro b hb; cases b <;> first | exact absurd (by decide) hb | rfl)
    (fun h => ⟨h.1, Tab.wf_filter _ _ _ h.2⟩)
  exact Within.step h3 (State.segBegin_within _ _) rfl

theorem State.setSub_within (s : State) (k : Nat) (v : Sub) :
    Within [.hostRest] [] s (State.setSub s k v) := by
  unfold State.setSub
  try dsimp only
  repeat' first
    | with_reducible apply Within.refl
    | with_reducible assumption
    | with_reducible apply Within.ite ?_ ?_
    | ((with_reducible apply Within.set_hostRest _ ?_ ?h1 ?h2); (case h1 => rfl); (case h2 => with_reducible rfl))

theorem State.feedSubs_within (s : State) (kind index pos : Nat) (v : Int) :
    Within [.hostRest] [] s (State.feedSubs s kind index pos v) := by
  unfold State.feedSubs
  try dsimp only
  repeat' first
    | with_reducible apply Within.refl
    | with_reducible assumption
    | with_reducible apply Within.ite ?_ ?_
    | split
    | ((with_reducible apply Within.set_hostRest _ ?_ ?h1 ?h2); (case h1 => rfl); (case h2 => with_reducible rfl))

theorem State.hbmUpset_within (s : State) (a : Nat) (bad : CodeWord) :
    Within [.recorderRest] [] s (State.hbmUpset s a bad) := by
  unfold State.hbmUpset
  try dsimp only
  repeat' first
    | with_reducible apply Within.refl
    | with_reducible assumption
    | with_reducible apply Within.ite ?_ ?_
    | ((with_reducible apply Within.set_recRest _ ?_ ?h1 ?h2); (case h1 => rfl); (case h2 => with_reducible rfl))

theorem State.hbmMend_within (s : State) (a : Nat) :
    Within [.hbm, .recorderRest] [] s (State.hbmMend s a) := by
  unfold State.hbmMend
  try dsimp only
  repeat' first
    | with_reducible apply Within.refl
    | with_reducible assumption
    | with_reducible apply Within.ite ?_ ?_
    | ((with_reducible apply Within.step ?_ (State.setHbm_within _ _ _) ?h1); (case h1 => rfl))
    | ((with_reducible apply Within.set_recRest _ ?_ ?h1 ?h2); (case h1 => rfl); (case h2 => with_reducible rfl))

theorem State.hbmUncorr_within (s : State) (a finder : Nat) :
    Within [.msix, .burrow] [6914, 8208, 8384, 8443, 8444, 8447, 9152, 9280, 9344, 9408] s (State.hbmUncorr s a finder) := by
  unfold State.hbmUncorr
  try dsimp only
  repeat' first
    | with_reducible apply Within.refl
    | with_reducible assumption
    | with_reducible apply Within.ite ?_ ?_
    | ((with_reducible apply Within.step ?_ (State.memUncorr_within _ _ _ _) ?h1); (case h1 => rfl))
    | ((with_reducible apply Within.step ?_ (State.record_within _ _ _ _) ?h1); (case h1 => rfl))

theorem State.hbmCorr_within (s : State) (a : Nat) :
    Within [.recorderRest] [8192] s (State.hbmCorr s a) := by
  unfold State.hbmCorr
  try dsimp only
  repeat' first
    | with_reducible apply Within.refl
    | with_reducible assumption
    | with_reducible apply Within.ite ?_ ?_
    | ((with_reducible apply Within.step ?_ (State.memCorr_within _ _) ?h1); (case h1 => rfl))
    | ((with_reducible apply Within.set_recRest _ ?_ ?h1 ?h2); (case h1 => rfl); (case h2 => with_reducible rfl))

theorem State.setTile_within (s : State) (t : Nat) (v : Tile) :
    Within [.marten] [] s (State.setTile s t v) := by
  unfold State.setTile
  try dsimp only
  repeat' first
    | with_reducible apply Within.refl
    | with_reducible assumption
    | with_reducible apply Within.ite ?_ ?_
    | ((with_reducible apply Within.set_marten _ ?_ ?h1); (case h1 => rfl))

theorem State.dropSlots_within (s : State) (l : List Nat) :
    Within [.marten] [] s (State.dropSlots s l) := by
  unfold State.dropSlots
  try dsimp only
  repeat' first
    | with_reducible apply Within.refl
    | with_reducible assumption
    | with_reducible apply Within.ite ?_ ?_
    | split
    | ((with_reducible apply Within.set_marten _ ?_ ?h1); (case h1 => rfl))

theorem State.commitSlot_within (s : State) (k : Nat) (v : Word) (h : Nat) (warm : Bool) :
    Within [.marten] [4748, 4767] s (State.commitSlot s k v h warm) := by
  unfold State.commitSlot
  try dsimp only
  repeat' first
    | with_reducible apply Within.refl
    | with_reducible assumption
    | with_reducible apply Within.ite ?_ ?_
    | ((with_reducible apply Within.wr _ _ _ ?_ ?h1); (case h1 => rfl))
    | ((with_reducible apply Within.set_marten _ ?_ ?h1); (case h1 => rfl))

theorem State.judgeWarm_within (s : State) (t j : Nat) :
    Within [.msix, .burrow] [4942, 6914, 9152, 9280, 9344, 9408] s (State.judgeWarm s t j) := by
  unfold State.judgeWarm
  try dsimp only
  repeat' first
    | with_reducible apply Within.refl
    | with_reducible assumption
    | with_reducible apply Within.ite ?_ ?_
    | ((with_reducible apply Within.wr _ _ _ ?_ ?h1); (case h1 => rfl))
    | ((with_reducible apply Within.step ?_ (State.record_within _ _ _ _) ?h1); (case h1 => rfl))

theorem State.chill_within (s : State) (t j i : Nat) :
    Within [.msix, .burrow] [4928, 4942, 6914, 9152, 9280, 9344, 9408] s (State.chill s t j i) := by
  unfold State.chill
  try dsimp only
  repeat' first
    | with_reducible apply Within.refl
    | with_reducible assumption
    | with_reducible apply Within.ite ?_ ?_
    | ((with_reducible apply Within.wr _ _ _ ?_ ?h1); (case h1 => rfl))
    | ((with_reducible apply Within.step ?_ (State.record_within _ _ _ _) ?h1); (case h1 => rfl))

theorem State.judgeWarmAll_within (s : State) :
    Within [.msix, .burrow] [4942, 6914, 9152, 9280, 9344, 9408] s (State.judgeWarmAll s) := by
  unfold State.judgeWarmAll
  try dsimp only
  repeat' first
    | with_reducible apply Within.refl
    | with_reducible assumption
    | with_reducible apply Within.ite ?_ ?_
    | ((with_reducible apply Within.step ?_ (State.judgeWarm_within _ _ _) ?h1); (case h1 => rfl))
    | with_reducible apply Within.each _ _ ?_ (fun _ _ _ _ => ?_)

theorem State.dispatch_within (s : State) (t : Nat) :
    Within [.marten] [] s (State.dispatch s t) := by
  unfold State.dispatch
  try dsimp only
  repeat' first
    | with_reducible apply Within.refl
    | with_reducible assumption
    | with_reducible apply Within.ite ?_ ?_
    | ((with_reducible apply Within.step ?_ (State.setTile_within _ _ _) ?h1); (case h1 => rfl))

theorem State.unshadow_within (s : State) (u v : Nat) :
    Within [.msix, .burrow] [4672, 6914, 9152, 9280, 9344, 9408] s (State.unshadow s u v) := by
  unfold State.unshadow
  try dsimp only
  repeat' first
    | with_reducible apply Within.refl
    | with_reducible assumption
    | with_reducible apply Within.ite ?_ ?_
    | ((with_reducible apply Within.wr _ _ _ ?_ ?h1); (case h1 => rfl))
    | ((with_reducible apply Within.step ?_ (State.record_within _ _ _ _) ?h1); (case h1 => rfl))

theorem State.leaveShadow_within (s : State) (t : Nat) :
    Within [.msix, .burrow] [4672, 6914, 9152, 9280, 9344, 9408] s (State.leaveShadow s t) := by
  unfold State.leaveShadow
  try dsimp only
  repeat' first
    | with_reducible apply Within.refl
    | with_reducible assumption
    | with_reducible apply Within.ite ?_ ?_
    | ((with_reducible apply Within.step ?_ (State.unshadow_within _ _ _) ?h1); (case h1 => rfl))
    | with_reducible apply Within.each _ _ ?_ (fun _ _ _ _ => ?_)

theorem State.invalidate_within (s : State) (t : Nat) (l : List Nat) :
    Within [.marten] [4224] s (State.invalidate s t l) := by
  unfold State.invalidate
  try dsimp only
  repeat' first
    | with_reducible apply Within.refl
    | with_reducible assumption
    | with_reducible apply Within.ite ?_ ?_
    | ((with_reducible apply Within.wr _ _ _ ?_ ?h1); (case h1 => rfl))
    | ((with_reducible apply Within.step ?_ (State.dropSlots_within _ _) ?h1); (case h1 => rfl))

theorem State.leaveDrain_within (s : State) (t : Nat) :
    Within [.marten, .msix, .burrow] [4224, 4253, 4672, 6914, 9152, 9280, 9344, 9408] s (State.leaveDrain s t) := by
  unfold State.leaveDrain
  try dsimp only
  repeat' first
    | with_reducible apply Within.refl
    | with_reducible assumption
    | with_reducible apply Within.ite ?_ ?_
    | ((with_reducible apply Within.wr _ _ _ ?_ ?h1); (case h1 => rfl))
    | ((with_reducible apply Within.step ?_ (State.invalidate_within _ _ _) ?h1); (case h1 => rfl))
    | ((with_reducible apply Within.step ?_ (State.record_within _ _ _ _) ?h1); (case h1 => rfl))
    | ((with_reducible apply Within.step ?_ (State.setTile_within _ _ _) ?h1); (case h1 => rfl))
    | ((with_reducible apply Within.step ?_ (State.unshadow_within _ _ _) ?h1); (case h1 => rfl))

theorem State.endJob_within (s : State) (t j status : Nat) :
    Within [.marten, .msix, .burrow] ([4224, 4288, 4312, 4352, 4928, 4942, 4944, 4952, 6914, 9152, 9280, 9344] ++ [9408]) s (State.endJob s t j status) := by
  unfold State.endJob
  try dsimp only
  repeat' first
    | with_reducible apply Within.refl
    | with_reducible assumption
    | with_reducible apply Within.ite ?_ ?_
    | ((with_reducible apply Within.wr _ _ _ ?_ ?h1); (case h1 => rfl))
    | ((with_reducible apply Within.addSat _ _ _ ?_ ?h1); (case h1 => rfl))
    | ((with_reducible apply Within.step ?_ (State.invalidate_within _ _ _) ?h1); (case h1 => rfl))
    | ((with_reducible apply Within.step ?_ (State.record_within _ _ _ _) ?h1); (case h1 => rfl))
    | ((with_reducible apply Within.step ?_ (State.setTile_within _ _ _) ?h1); (case h1 => rfl))

theorem State.finishJob_within (s : State) (t j status : Nat) :
    Within [.marten, .msix, .burrow] ([4224, 4253, 4288, 4312, 4352, 4672, 4928, 4942, 4944, 4952, 6914, 9152] ++ [9280, 9344, 9408]) s (State.finishJob s t j status) := by
  unfold State.finishJob
  try dsimp only
  repeat' first
    | with_reducible apply Within.refl
    | with_reducible assumption
    | with_reducible apply Within.ite ?_ ?_
    | ((with_reducible apply Within.step ?_ (State.dispatch_within _ _) ?h1); (case h1 => rfl))
    | ((with_reducible apply Within.step ?_ (State.endJob_within _ _ _ _) ?h1); (case h1 => rfl))
    | ((with_reducible apply Within.step ?_ (State.leaveDrain_within _ _) ?h1); (case h1 => rfl))

theorem State.enterDrain_within (s : State) (t : Nat) (off : Bool) :
    Within [.marten, .msix, .burrow] ([4224, 4253, 4288, 4312, 4352, 4672, 4928, 4942, 4944, 4952, 6914, 9152] ++ [9280, 9344, 9408]) s (State.enterDrain s t off) := by
  unfold State.enterDrain
  try dsimp only
  repeat' first
    | with_reducible apply Within.refl
    | with_reducible assumption
    | with_reducible apply Within.ite ?_ ?_
    | ((with_reducible apply Within.wr _ _ _ ?_ ?h1); (case h1 => rfl))
    | ((with_reducible apply Within.step ?_ (State.dispatch_within _ _) ?h1); (case h1 => rfl))
    | ((with_reducible apply Within.step ?_ (State.endJob_within _ _ _ _) ?h1); (case h1 => rfl))
    | ((with_reducible apply Within.step ?_ (State.leaveDrain_within _ _) ?h1); (case h1 => rfl))
    | ((with_reducible apply Within.step ?_ (State.leaveShadow_within _ _) ?h1); (case h1 => rfl))
    | ((with_reducible apply Within.step ?_ (State.setTile_within _ _ _) ?h1); (case h1 => rfl))
    | with_reducible apply Within.each _ _ ?_ (fun _ _ _ _ => ?_)

theorem State.setBlock_within (s : State) (c : Nat) (b : Collect) :
    Within [.marten] [] s (State.setBlock s c b) := by
  unfold State.setBlock
  try dsimp only
  repeat' first
    | with_reducible apply Within.refl
    | with_reducible assumption
    | with_reducible apply Within.ite ?_ ?_
    | ((with_reducible apply Within.set_marten _ ?_ ?h1); (case h1 => rfl))

theorem State.openBlock_within (s : State) (c pos : Nat) :
    Within [.marten] [] s (State.openBlock s c pos) := by
  unfold State.openBlock
  try dsimp only
  repeat' first
    | with_reducible apply Within.refl
    | with_reducible assumption
    | with_reducible apply Within.ite ?_ ?_
    | ((with_reducible apply Within.step ?_ (State.setBlock_within _ _ _) ?h1); (case h1 => rfl))

theorem State.enterRun_within (s : State) (t : Nat) :
    Within [.marten, .msix, .burrow] [4253, 4624, 4672, 4928, 4942, 4944, 4952, 6914, 9152, 9280, 9344, 9408] s (State.enterRun s t) := by
  unfold State.enterRun
  try dsimp only
  repeat' first
    | with_reducible apply Within.refl
    | with_reducible assumption
    | with_reducible apply Within.ite ?_ ?_
    | ((with_reducible apply Within.wr _ _ _ ?_ ?h1); (case h1 => rfl))
    | ((with_reducible apply Within.step ?_ (State.openBlock_within _ _ _) ?h1); (case h1 => rfl))
    | ((with_reducible apply Within.step ?_ (State.record_within _ _ _ _) ?h1); (case h1 => rfl))
    | ((with_reducible apply Within.step ?_ (State.setTile_within _ _ _) ?h1); (case h1 => rfl))
    | with_reducible apply Within.each _ _ ?_ (fun _ _ _ _ => ?_)
    | split

theorem State.releaseJob_within (s : State) (t j : Nat) :
    Within [.marten] [] s (State.releaseJob s t j) := by
  unfold State.releaseJob
  try dsimp only
  repeat' first
    | with_reducible apply Within.refl
    | with_reducible assumption
    | with_reducible apply Within.ite ?_ ?_
    | ((with_reducible apply Within.step ?_ (State.setTile_within _ _ _) ?h1); (case h1 => rfl))

theorem State.tileUncorr_within (s : State) (t word : Nat) (scrub : Bool) :
    Within [.msix, .burrow] [4225, 4432, 4480, 4510, 4511, 6914, 9152, 9280, 9344, 9408] s (State.tileUncorr s t word scrub) := by
  unfold State.tileUncorr
  try dsimp only
  repeat' first
    | with_reducible apply Within.refl
    | with_reducible assumption
    | with_reducible apply Within.ite ?_ ?_
    | ((with_reducible apply Within.wr _ _ _ ?_ ?h1); (case h1 => rfl))
    | ((with_reducible apply Within.wrBit _ _ _ ?_ ?h1); (case h1 => rfl))
    | ((with_reducible apply Within.addSat _ _ _ ?_ ?h1); (case h1 => rfl))
    | ((with_reducible apply Within.step ?_ (State.record_within _ _ _ _) ?h1); (case h1 => rfl))

theorem State.tileUpsets_within (s : State) (t : Nat) (l : List TileUpset) :
    Within [.engines, .settRest, .marten, .msix, .hostRest] [2257, 7048, 7744, 7808, 8192, 8208, 8384, 8443, 8444, 8447] s (State.tileUpsets s t l) := by
  unfold State.tileUpsets
  try dsimp only
  repeat' first
    | with_reducible apply Within.refl
    | with_reducible assumption
    | with_reducible apply Within.ite ?_ ?_
    | ((with_reducible apply Within.step ?_ (State.setTile_within _ _ _) ?h1); (case h1 => rfl))

theorem State.runTo_within (s : State) (t j n : Nat) :
    Within [.marten, .msix, .burrow] ([4225, 4226, 4227, 4416, 4432, 4480, 4510, 4511, 6914, 9152, 9280, 9344] ++ [9408]) s (State.runTo s t j n).1 := by
  unfold State.runTo
  try dsimp only
  repeat' first
    | with_reducible apply Within.refl
    | with_reducible assumption
    | with_reducible apply Within.ite ?_ ?_
    | ((with_reducible apply Within.wr _ _ _ ?_ ?h1); (case h1 => rfl))
    | ((with_reducible apply Within.addSat _ _ _ ?_ ?h1); (case h1 => rfl))
    | ((with_reducible apply Within.step ?_ (State.setTile_within _ _ _) ?h1); (case h1 => rfl))
    | ((with_reducible apply Within.step ?_ (State.tileUncorr_within _ _ _ _) ?h1); (case h1 => rfl))
    | with_reducible apply Within.each _ _ ?_ (fun _ _ _ _ => ?_)
    | split

theorem State.stopJob_within (s : State) (t j n : Nat) :
    Within [.marten, .msix, .burrow] ([4224, 4225, 4226, 4227, 4288, 4312, 4352, 4416, 4432, 4480, 4510, 4511] ++ [4928, 4942, 4944, 4952, 6914, 9152, 9280, 9344, 9408]) s (State.stopJob s t j n) := by
  unfold State.stopJob
  try dsimp only
  repeat' first
    | with_reducible apply Within.refl
    | with_reducible assumption
    | with_reducible apply Within.ite ?_ ?_
    | ((with_reducible apply Within.step ?_ (State.endJob_within _ _ _ _) ?h1); (case h1 => rfl))
    | ((with_reducible apply Within.step ?_ (State.runTo_within _ _ _ _) ?h1); (case h1 => rfl))

theorem State.eachStream_within (s : State) (kind source : Nat) (f : Nat → Tile → Tile) :
    Within [.marten] [] s (State.eachStream s kind source f) := by
  unfold State.eachStream
  try dsimp only
  repeat' first
    | with_reducible apply Within.refl
    | with_reducible assumption
    | with_reducible apply Within.ite ?_ ?_
    | ((with_reducible apply Within.step ?_ (State.setTile_within _ _ _) ?h1); (case h1 => rfl))
    | with_reducible apply Within.each _ _ ?_ (fun _ _ _ _ => ?_)

theorem State.ringPutAll_within (s : State) (kind source : Nat) (ws : List Word) :
    Within [.marten] [] s (State.ringPutAll s kind source ws) := by
  unfold State.ringPutAll
  try dsimp only
  repeat' first
    | with_reducible apply Within.refl
    | with_reducible assumption
    | with_reducible apply Within.ite ?_ ?_
    | ((with_reducible apply Within.step ?_ (State.eachStream_within _ _ _ _) ?h1); (case h1 => rfl))

theorem State.ingest_within (s : State) (c ap pos word : Nat) :
    Within [.marten, .msix, .burrow] [4831, 4864, 6914, 9152, 9280, 9344, 9408] s (State.ingest s c ap pos word) := by
  unfold State.ingest
  try dsimp only
  repeat' first
    | with_reducible apply Within.refl
    | with_reducible assumption
    | with_reducible apply Within.ite ?_ ?_
    | ((with_reducible apply Within.wr _ _ _ ?_ ?h1); (case h1 => rfl))
    | ((with_reducible apply Within.addSat _ _ _ ?_ ?h1); (case h1 => rfl))
    | ((with_reducible apply Within.step ?_ (State.eachStream_within _ _ _ _) ?h1); (case h1 => rfl))
    | ((with_reducible apply Within.step ?_ (State.openBlock_within _ _ _) ?h1); (case h1 => rfl))
    | ((with_reducible apply Within.step ?_ (State.record_within _ _ _ _) ?h1); (case h1 => rfl))
    | ((with_reducible apply Within.step ?_ (State.setBlock_within _ _ _) ?h1); (case h1 => rfl))
    | split
    | ((with_reducible apply Within.set_marten _ ?_ ?h1); (case h1 => rfl))

theorem State.ingestFrame_within (s : State) (w : Nat) (words : List Word) :
    Within [.marten] [] s (State.ingestFrame s w words) := by
  unfold State.ingestFrame
  try dsimp only
  repeat' first
    | with_reducible apply Within.refl
    | with_reducible assumption
    | with_reducible apply Within.ite ?_ ?_
    | ((with_reducible apply Within.step ?_ (State.eachStream_within _ _ _ _) ?h1); (case h1 => rfl))
    | with_reducible apply Within.each _ _ ?_ (fun _ _ _ _ => ?_)
    | ((with_reducible apply Within.set_marten _ ?_ ?h1); (case h1 => rfl))

theorem State.setFloor_within (s : State) (w code : Nat) :
    Within [.harps, .msix, .burrow, .twin] [3656, 3742, 3776, 6914, 9152, 9280, 9344, 9408] s (State.setFloor s w code) := by
  unfold State.setFloor
  try dsimp only
  repeat' first
    | with_reducible apply Within.refl
    | with_reducible assumption
    | with_reducible apply Within.ite ?_ ?_
    | ((with_reducible apply Within.wr _ _ _ ?_ ?h1); (case h1 => rfl))
    | ((with_reducible apply Within.step ?_ (State.harpJudge_within _) ?h1); (case h1 => rfl))
    | ((with_reducible apply Within.step ?_ (State.tellTwin_within _ _) ?h1); (case h1 => rfl))

theorem State.wardEnter_within (s : State) (w st : Nat) :
    Within [.harps, .msix, .wards, .burrow, .twin] [3656, 3742, 3776, 6914, 9152, 9280, 9344, 9408] s (State.wardEnter s w st) := by
  unfold State.wardEnter
  try dsimp only
  repeat' first
    | with_reducible apply Within.refl
    | with_reducible assumption
    | with_reducible apply Within.ite ?_ ?_
    | ((with_reducible apply Within.step ?_ (State.record_within _ _ _ _) ?h1); (case h1 => rfl))
    | ((with_reducible apply Within.step ?_ (State.setFloor_within _ _ _) ?h1); (case h1 => rfl))
    | ((with_reducible apply Within.step ?_ (State.setWard_within _ _ _) ?h1); (case h1 => rfl))
    | ((with_reducible apply Within.step ?_ (State.tellTwin_within _ _) ?h1); (case h1 => rfl))

theorem State.fenceAt_within (s : State) (v w lift : Nat) :
    Within [.ports, .wards] [] s (State.fenceAt s v w lift) := by
  unfold State.fenceAt
  try dsimp only
  repeat' first
    | with_reducible apply Within.refl
    | with_reducible assumption
    | with_reducible apply Within.ite ?_ ?_
    | ((with_reducible apply Within.step ?_ (State.sendCtrl_within _ _ _ _ _) ?h1); (case h1 => rfl))
    | ((with_reducible apply Within.step ?_ (State.setWard_within _ _ _) ?h1); (case h1 => rfl))

theorem State.fencePeers_within (s : State) (w lift : Nat) :
    Within [.ports, .wards] [] s (State.fencePeers s w lift).1 := by
  unfold State.fencePeers
  try dsimp only
  repeat' first
    | with_reducible apply Within.refl
    | with_reducible assumption
    | with_reducible apply Within.ite ?_ ?_
    | ((with_reducible apply Within.step ?_ (State.fenceAt_within _ _ _ _) ?h1); (case h1 => rfl))
    | with_reducible apply Within.each _ _ ?_ (fun _ _ _ _ => ?_)

theorem State.abortSeq_within (s : State) (w : Nat) :
    Within [.msix, .hostRest, .wards] [7048, 7744, 7808] s (State.abortSeq s w) := by
  unfold State.abortSeq
  try dsimp only
  repeat' first
    | with_reducible apply Within.refl
    | with_reducible assumption
    | with_reducible apply Within.ite ?_ ?_
    | ((with_reducible apply Within.step ?_ (State.finish_within _ _ _ _ _ _) ?h1); (case h1 => rfl))
    | ((with_reducible apply Within.step ?_ (State.setWard_within _ _ _) ?h1); (case h1 => rfl))
    | split

theorem State.wardCut_within (s : State) (w : Nat) :
    Within [.engines, .zither, .harps, .msix, .hostRest, .ports, .wards, .burrow, .twin] ([2755, 2764, 2768, 2781, 2944, 3656, 3742, 3776, 6016, 6144, 6914, 7048] ++ [7744, 7808, 9152, 9280, 9344, 9408]) s (State.wardCut s w) := by
  unfold State.wardCut
  try dsimp only
  repeat' first
    | with_reducible apply Within.refl
    | with_reducible assumption
    | with_reducible apply Within.ite ?_ ?_
    | ((with_reducible apply Within.wr _ _ _ ?_ ?h1); (case h1 => rfl))
    | ((with_reducible apply Within.step ?_ (State.abortSeq_within _ _) ?h1); (case h1 => rfl))
    | ((with_reducible apply Within.step ?_ (State.endAll_within _ _ _) ?h1); (case h1 => rfl))
    | ((with_reducible apply Within.step ?_ (State.fencePeers_within _ _ _) ?h1); (case h1 => rfl))
    | ((with_reducible apply Within.step ?_ (State.powerDown_within _ _) ?h1); (case h1 => rfl))
    | ((with_reducible apply Within.step ?_ (State.setFloor_within _ _ _) ?h1); (case h1 => rfl))

theorem State.portEnable_within (s : State) (p : Nat) :
    Within [.ports] [5952, 6024, 6032, 6045] s (State.portEnable s p) := by
  unfold State.portEnable
  try dsimp only
  repeat' first
    | with_reducible apply Within.refl
    | with_reducible assumption
    | with_reducible apply Within.ite ?_ ?_
    | ((with_reducible apply Within.wr _ _ _ ?_ ?h1); (case h1 => rfl))
    | ((with_reducible apply Within.step ?_ (State.setPort_within _ _ _) ?h1); (case h1 => rfl))
    | ((with_reducible apply Within.step ?_ (State.setPstate_within _ _ _) ?h1); (case h1 => rfl))

theorem State.laserEnable_within (s : State) (k : Nat) :
    Within [] [6238, 6300, 6301] s (State.laserEnable s k) := by
  unfold State.laserEnable
  try dsimp only
  repeat' first
    | with_reducible apply Within.refl
    | with_reducible assumption
    | with_reducible apply Within.ite ?_ ?_
    | ((with_reducible apply Within.wr _ _ _ ?_ ?h1); (case h1 => rfl))
    | ((with_reducible apply Within.step ?_ (State.laserShow_within _ _) ?h1); (case h1 => rfl))

theorem State.wardPower_within (s : State) (w : Nat) (retry : Bool) :
    Within [.engines, .settRest, .zither, .harps, .msix, .ports, .wards, .burrow, .twin] ([1280, 2755, 2768, 2781, 2828, 2832, 2944, 3656, 3742, 3776, 5952, 6024] ++ [6032, 6045, 6238, 6300, 6301, 6914, 9152, 9280, 9344, 9408]) s (State.wardPower s w retry) := by
  unfold State.wardPower
  try dsimp only
  repeat' first
    | with_reducible apply Within.refl
    | with_reducible assumption
    | with_reducible apply Within.ite ?_ ?_
    | ((with_reducible apply Within.step ?_ (State.governorUp_within _ _) ?h1); (case h1 => rfl))
    | ((with_reducible apply Within.step ?_ (State.laserEnable_within _ _) ?h1); (case h1 => rfl))
    | ((with_reducible apply Within.step ?_ (State.portEnable_within _ _) ?h1); (case h1 => rfl))
    | ((with_reducible apply Within.step ?_ (State.powerUp_within _ _) ?h1); (case h1 => rfl))
    | ((with_reducible apply Within.step ?_ (State.setWard_within _ _ _) ?h1); (case h1 => rfl))
    | ((with_reducible apply Within.step ?_ (State.wardEnter_within _ _ _) ?h1); (case h1 => rfl))

theorem State.wardFail_within (s : State) (w cause : Nat) :
    Within [.engines, .settRest, .zither, .harps, .msix, .hostRest, .ports, .wards, .burrow, .twin] ([1280, 2755, 2764, 2768, 2781, 2828, 2832, 2944, 3656, 3742, 3776, 5952] ++ [6016, 6024, 6032, 6045, 6144, 6238, 6300, 6301, 6914, 7048, 7744, 7808] ++ [9152, 9280, 9344, 9408]) s (State.wardFail s w cause) := by
  unfold State.wardFail
  try dsimp only
  repeat' first
    | with_reducible apply Within.refl
    | with_reducible assumption
    | with_reducible apply Within.ite ?_ ?_
    | ((with_reducible apply Within.step ?_ (State.record_within _ _ _ _) ?h1); (case h1 => rfl))
    | ((with_reducible apply Within.step ?_ (State.setWard_within _ _ _) ?h1); (case h1 => rfl))
    | ((with_reducible apply Within.step ?_ (State.wardCut_within _ _) ?h1); (case h1 => rfl))
    | ((with_reducible apply Within.step ?_ (State.wardEnter_within _ _ _) ?h1); (case h1 => rfl))
    | ((with_reducible apply Within.step ?_ (State.wardPower_within _ _ _) ?h1); (case h1 => rfl))

theorem State.wardWrite_within (s : State) (w a : Nat) (v : Word) :
    Within [.engines, .msix, .hostRest, .ports, .wards] [6016, 7048, 7744, 7808] s (State.wardWrite s w a v) := by
  unfold State.wardWrite
  try dsimp only
  repeat' first
    | with_reducible apply Within.refl
    | with_reducible assumption
    | with_reducible apply Within.ite ?_ ?_
    | ((with_reducible apply Within.step ?_ (State.fwWrite_within _ _ _ _ _) ?h1); (case h1 => rfl))

theorem State.wardOp_within (s : State) (w op arg : Nat) :
    Within [.engines, .msix, .hostRest, .ports, .wards] [6016, 7048, 7744, 7808] s (State.wardOp s w op arg) := by
  unfold State.wardOp
  try dsimp only
  repeat' first
    | with_reducible apply Within.refl
    | with_reducible assumption
    | with_reducible apply Within.ite ?_ ?_
    | ((with_reducible apply Within.step ?_ (State.setWard_within _ _ _) ?h1); (case h1 => rfl))
    | ((with_reducible apply Within.step ?_ (State.wardWrite_within _ _ _ _) ?h1); (case h1 => rfl))

theorem State.identify_within (s : State) (w : Nat) :
    Within [.engines, .msix, .hostRest, .ports, .wards] [6016, 7048, 7744, 7808] s (State.identify s w) := by
  unfold State.identify
  try dsimp only
  repeat' first
    | with_reducible apply Within.refl
    | with_reducible assumption
    | with_reducible apply Within.ite ?_ ?_
    | ((with_reducible apply Within.step ?_ (State.fenceAt_within _ _ _ _) ?h1); (case h1 => rfl))
    | ((with_reducible apply Within.step ?_ (State.fwRead_within _ _ _ _ _ _) ?h1); (case h1 => rfl))
    | ((with_reducible apply Within.step ?_ (State.setWard_within _ _ _) ?h1); (case h1 => rfl))
    | with_reducible apply Within.each _ _ ?_ (fun _ _ _ _ => ?_)

theorem State.testStart_within (s : State) (w : Nat) :
    Within [.engines, .msix, .hostRest, .ports, .wards] [6016, 7048, 7744, 7808] s (State.testStart s w) := by
  unfold State.testStart
  try dsimp only
  repeat' first
    | with_reducible apply Within.refl
    | with_reducible assumption
    | with_reducible apply Within.ite ?_ ?_
    | ((with_reducible apply Within.step ?_ (State.openOut_within _ _ _ _) ?h1); (case h1 => rfl))
    | ((with_reducible apply Within.step ?_ (State.setPort_within _ _ _) ?h1); (case h1 => rfl))
    | ((with_reducible apply Within.step ?_ (State.setWard_within _ _ _) ?h1); (case h1 => rfl))
    | ((with_reducible apply Within.step ?_ (State.wardOp_within _ _ _ _) ?h1); (case h1 => rfl))
    | split

theorem State.beginTest_within (s : State) (w : Nat) :
    Within [.engines, .msix, .hostRest, .ports, .wards] [6016, 7048, 7744, 7808] s (State.beginTest s w) := by
  unfold State.beginTest
  try dsimp only
  repeat' first
    | with_reducible apply Within.refl
    | with_reducible assumption
    | with_reducible apply Within.ite ?_ ?_
    | ((with_reducible apply Within.step ?_ (State.fwRead_within _ _ _ _ _ _) ?h1); (case h1 => rfl))
    | ((with_reducible apply Within.step ?_ (State.setWard_within _ _ _) ?h1); (case h1 => rfl))
    | split

theorem State.beginLoad_within (s : State) (w : Nat) :
    Within [.engines, .ports, .wards] [] s (State.beginLoad s w) := by
  unfold State.beginLoad
  try dsimp only
  repeat' first
    | with_reducible apply Within.refl
    | with_reducible assumption
    | with_reducible apply Within.ite ?_ ?_
    | ((with_reducible apply Within.step ?_ (State.openOut_within _ _ _ _) ?h1); (case h1 => rfl))
    | ((with_reducible apply Within.step ?_ (State.setWard_within _ _ _) ?h1); (case h1 => rfl))
    | split

theorem State.beginLicence_within (s : State) (w : Nat) :
    Within [.engines, .settRest, .zither, .harps, .msix, .hostRest, .ports, .wards, .burrow, .twin] ([1280, 2755, 2764, 2768, 2781, 2828, 2832, 2944, 3656, 3742, 3776, 5952] ++ [6016, 6024, 6032, 6045, 6144, 6238, 6300, 6301, 6914, 7048, 7744, 7808] ++ [9152, 9280, 9344, 9408]) s (State.beginLicence s w) := by
  unfold State.beginLicence
  try dsimp only
  repeat' first
    | with_reducible apply Within.refl
    | with_reducible assumption
    | with_reducible apply Within.ite ?_ ?_
    | ((with_reducible apply Within.step ?_ (State.fwWrite_within _ _ _ _ _) ?h1); (case h1 => rfl))
    | ((with_reducible apply Within.step ?_ (State.record_within _ _ _ _) ?h1); (case h1 => rfl))
    | ((with_reducible apply Within.step ?_ (State.setWard_within _ _ _) ?h1); (case h1 => rfl))
    | ((with_reducible apply Within.step ?_ (State.wardFail_within _ _ _) ?h1); (case h1 => rfl))
    | ((with_reducible apply Within.step ?_ (State.wardOp_within _ _ _ _) ?h1); (case h1 => rfl))
    | split

theorem State.beginStep_within (s : State) (w : Nat) :
    Within [.engines, .settRest, .zither, .harps, .msix, .hostRest, .ports, .wards, .burrow, .twin] ([1280, 2755, 2764, 2768, 2781, 2828, 2832, 2944, 3656, 3742, 3776, 5952] ++ [6016, 6024, 6032, 6045, 6144, 6238, 6300, 6301, 6914, 7048, 7744, 7808] ++ [9152, 9280, 9344, 9408]) s (State.beginStep s w) := by
  unfold State.beginStep
  try dsimp only
  repeat' first
    | with_reducible apply Within.refl
    | with_reducible assumption
    | with_reducible apply Within.ite ?_ ?_
    | ((with_reducible apply Within.step ?_ (State.beginLicence_within _ _) ?h1); (case h1 => rfl))
    | ((with_reducible apply Within.step ?_ (State.beginLoad_within _ _) ?h1); (case h1 => rfl))
    | ((with_reducible apply Within.step ?_ (State.beginTest_within _ _) ?h1); (case h1 => rfl))
    | ((with_reducible apply Within.step ?_ (State.fwRead_within _ _ _ _ _ _) ?h1); (case h1 => rfl))
    | ((with_reducible apply Within.step ?_ (State.identify_within _ _) ?h1); (case h1 => rfl))
    | ((with_reducible apply Within.step ?_ (State.setWard_within _ _ _) ?h1); (case h1 => rfl))
    | ((with_reducible apply Within.step ?_ (State.wardOp_within _ _ _ _) ?h1); (case h1 => rfl))
    | split

theorem State.wardNext_within (s : State) (w st : Nat) :
    Within [.engines, .settRest, .zither, .harps, .msix, .hostRest, .ports, .wards, .burrow, .twin] ([1280, 2755, 2764, 2768, 2781, 2828, 2832, 2944, 3656, 3742, 3776, 5952] ++ [6016, 6024, 6032, 6045, 6144, 6238, 6300, 6301, 6914, 7048, 7744, 7808] ++ [9152, 9280, 9344, 9408]) s (State.wardNext s w st) := by
  unfold State.wardNext
  try dsimp only
  repeat' first
    | with_reducible apply Within.refl
    | with_reducible assumption
    | with_reducible apply Within.ite ?_ ?_
    | ((with_reducible apply Within.step ?_ (State.beginStep_within _ _) ?h1); (case h1 => rfl))
    | ((with_reducible apply Within.step ?_ (State.record_within _ _ _ _) ?h1); (case h1 => rfl))
    | ((with_reducible apply Within.step ?_ (State.setWard_within _ _ _) ?h1); (case h1 => rfl))
    | ((with_reducible apply Within.step ?_ (State.wardEnter_within _ _ _) ?h1); (case h1 => rfl))

theorem State.wardServe_within (s : State) (w : Nat) :
    Within [.engines, .settRest, .zither, .harps, .msix, .hostRest, .ports, .wards, .burrow, .twin] ([1280, 2755, 2764, 2768, 2781, 2828, 2832, 2944, 3656, 3742, 3776, 5952] ++ [6016, 6024, 6032, 6045, 6144, 6238, 6300, 6301, 6914, 7048, 7744, 7808] ++ [9152, 9280, 9344, 9408]) s (State.wardServe s w) := by
  unfold State.wardServe
  try dsimp only
  repeat' first
    | with_reducible apply Within.refl
    | with_reducible assumption
    | with_reducible apply Within.ite ?_ ?_
    | ((with_reducible apply Within.step ?_ (State.fencePeers_within _ _ _) ?h1); (case h1 => rfl))
    | ((with_reducible apply Within.step ?_ (State.record_within _ _ _ _) ?h1); (case h1 => rfl))
    | ((with_reducible apply Within.step ?_ (State.setWard_within _ _ _) ?h1); (case h1 => rfl))
    | ((with_reducible apply Within.step ?_ (State.wardEnter_within _ _ _) ?h1); (case h1 => rfl))
    | ((with_reducible apply Within.step ?_ (State.wardNext_within _ _ _) ?h1); (case h1 => rfl))

theorem State.softAppend_within (s : State) (r : SoftRec) :
    Within [.wards] [] s (State.softAppend s r) := by
  unfold State.softAppend
  try dsimp only
  repeat' first
    | with_reducible apply Within.refl
    | with_reducible assumption
    | with_reducible apply Within.ite ?_ ?_
    | ((with_reducible apply Within.set_wards _ ?_ ?h1); (case h1 => rfl))

theorem State.defRecord_within (s : State) (code w : Nat) (l : List Nat) :
    Within [.msix, .burrow] [6914, 9152, 9280, 9344, 9408] s (State.defRecord s code w l) := by
  unfold State.defRecord
  try dsimp only
  repeat' first
    | with_reducible apply Within.refl
    | with_reducible assumption
    | with_reducible apply Within.ite ?_ ?_
    | ((with_reducible apply Within.step ?_ (State.record_within _ _ _ _) ?h1); (case h1 => rfl))
    | split

theorem State.formMap_within (s : State) (w : Nat) (fails : Bool) :
    Within [.engines, .msix, .hostRest, .ports, .wards, .burrow] [6016, 6914, 7048, 7744, 7808, 9152, 9280, 9344, 9408] s (State.formMap s w fails) := by
  unfold State.formMap
  try dsimp only
  repeat' first
    | with_reducible apply Within.refl
    | with_reducible assumption
    | with_reducible apply Within.ite ?_ ?_
    | ((with_reducible apply Within.step ?_ (State.defRecord_within _ _ _ _) ?h1); (case h1 => rfl))
    | ((with_reducible apply Within.step ?_ (State.fwWrite_within _ _ _ _ _) ?h1); (case h1 => rfl))
    | ((with_reducible apply Within.step ?_ (State.record_within _ _ _ _) ?h1); (case h1 => rfl))
    | ((with_reducible apply Within.step ?_ (State.setWard_within _ _ _) ?h1); (case h1 => rfl))
    | ((with_reducible apply Within.step ?_ (State.softAppend_within _ _) ?h1); (case h1 => rfl))
    | ((with_reducible apply Within.step ?_ (State.wardOp_within _ _ _ _) ?h1); (case h1 => rfl))

theorem State.judgeTest_within (s : State) (w : Nat) :
    Within [.engines, .settRest, .zither, .harps, .msix, .hostRest, .ports, .wards, .burrow, .twin] ([1280, 2755, 2764, 2768, 2781, 2828, 2832, 2944, 3656, 3742, 3776, 5952] ++ [6016, 6024, 6032, 6045, 6144, 6238, 6300, 6301, 6914, 7048, 7744, 7808] ++ [9152, 9280, 9344, 9408]) s (State.judgeTest s w) := by
  unfold State.judgeTest
  try dsimp only
  repeat' first
    | with_reducible apply Within.refl
    | with_reducible assumption
    | with_reducible apply Within.ite ?_ ?_
    | ((with_reducible apply Within.step ?_ (State.record_within _ _ _ _) ?h1); (case h1 => rfl))
    | ((with_reducible apply Within.step ?_ (State.setWard_within _ _ _) ?h1); (case h1 => rfl))
    | ((with_reducible apply Within.step ?_ (State.wardNext_within _ _ _) ?h1); (case h1 => rfl))

theorem State.judgeMap_within (s : State) (w : Nat) :
    Within [.engines, .settRest, .zither, .harps, .msix, .hostRest, .ports, .wards, .burrow, .twin] ([1280, 2755, 2764, 2768, 2781, 2828, 2832, 2944, 3656, 3742, 3776, 5952] ++ [6016, 6024, 6032, 6045, 6144, 6238, 6300, 6301, 6914, 7048, 7744, 7808] ++ [9152, 9280, 9344, 9408]) s (State.judgeMap s w) := by
  unfold State.judgeMap
  try dsimp only
  repeat' first
    | with_reducible apply Within.refl
    | with_reducible assumption
    | with_reducible apply Within.ite ?_ ?_
    | ((with_reducible apply Within.step ?_ (State.record_within _ _ _ _) ?h1); (case h1 => rfl))
    | ((with_reducible apply Within.step ?_ (State.setWard_within _ _ _) ?h1); (case h1 => rfl))
    | ((with_reducible apply Within.step ?_ (State.wardFail_within _ _ _) ?h1); (case h1 => rfl))
    | ((with_reducible apply Within.step ?_ (State.wardNext_within _ _ _) ?h1); (case h1 => rfl))

theorem State.judgeTopology_within (s : State) (w : Nat) : Within [.engines, .settRest, .zither, .harps, .msix, .hostRest, .ports, .wards, .burrow, .twin] ([1280, 2755, 2764, 2768, 2781, 2828, 2832, 2944, 3656, 3742, 3776, 5952] ++ [6016, 6024, 6032, 6045, 6144, 6238, 6300, 6301, 6914, 7048, 7744, 7808] ++ [9152, 9280, 9344, 9408]) s (State.judgeTopology s w) := by
  unfold State.judgeTopology
  cases s.topologyDiff w with
  | none => exact Within.step (Within.refl _ _ _) (State.wardNext_within s w 8) rfl
  | some d => exact Within.step (Within.step (Within.refl _ _ _) (State.record_within s _ _ _) rfl) (State.wardFail_within _ w 11) rfl

theorem State.judgeCapability_within (s : State) (w : Nat) :
    Within [.engines, .settRest, .zither, .harps, .msix, .hostRest, .ports, .wards, .burrow, .twin] ([1280, 2755, 2764, 2768, 2781, 2828, 2832, 2944, 3656, 3742, 3776, 5952] ++ [6016, 6024, 6032, 6045, 6144, 6238, 6300, 6301, 6914, 7048, 7744, 7808] ++ [9152, 9280, 9344, 9408]) s (State.judgeCapability s w) := by
  unfold State.judgeCapability
  try dsimp only
  repeat' first
    | with_reducible apply Within.refl
    | with_reducible assumption
    | with_reducible apply Within.ite ?_ ?_
    | ((with_reducible apply Within.step ?_ (State.record_within _ _ _ _) ?h1); (case h1 => rfl))
    | ((with_reducible apply Within.step ?_ (State.setWard_within _ _ _) ?h1); (case h1 => rfl))
    | ((with_reducible apply Within.step ?_ (State.wardFail_within _ _ _) ?h1); (case h1 => rfl))
    | split

theorem State.readCertificate_within (s : State) (w : Nat) :
    Within [.engines, .msix, .hostRest, .ports, .wards] [6016, 6042, 7048, 7744, 7808] s (State.readCertificate s w) := by
  unfold State.readCertificate
  try dsimp only
  repeat' first
    | with_reducible apply Within.refl
    | with_reducible assumption
    | with_reducible apply Within.ite ?_ ?_
    | ((with_reducible apply Within.step ?_ (State.fwRead_within _ _ _ _ _ _) ?h1); (case h1 => rfl))
    | ((with_reducible apply Within.step ?_ (State.secDown_within _ _) ?h1); (case h1 => rfl))
    | ((with_reducible apply Within.step ?_ (State.secStart_within _ _) ?h1); (case h1 => rfl))
    | ((with_reducible apply Within.step ?_ (State.setWard_within _ _ _) ?h1); (case h1 => rfl))

theorem State.wardStep_within (s : State) (w : Nat) (fails : Bool) :
    Within [.engines, .settRest, .zither, .harps, .msix, .hostRest, .ports, .wards, .burrow, .twin] ([1280, 2755, 2764, 2768, 2781, 2828, 2832, 2944, 3656, 3742, 3776, 5952] ++ [6016, 6024, 6032, 6042, 6045, 6144, 6238, 6300, 6301, 6914, 7048, 7744] ++ [7808, 9152, 9280, 9344, 9408]) s (State.wardStep s w fails) := by
  unfold State.wardStep
  try dsimp only
  repeat' first
    | with_reducible apply Within.refl
    | with_reducible assumption
    | with_reducible apply Within.ite ?_ ?_
    | ((with_reducible apply Within.step ?_ (State.formMap_within _ _ _) ?h1); (case h1 => rfl))
    | ((with_reducible apply Within.step ?_ (State.judgeCapability_within _ _) ?h1); (case h1 => rfl))
    | ((with_reducible apply Within.step ?_ (State.judgeMap_within _ _) ?h1); (case h1 => rfl))
    | ((with_reducible apply Within.step ?_ (State.judgeTest_within _ _) ?h1); (case h1 => rfl))
    | ((with_reducible apply Within.step ?_ (State.judgeTopology_within _ _) ?h1); (case h1 => rfl))
    | ((with_reducible apply Within.step ?_ (State.readCertificate_within _ _) ?h1); (case h1 => rfl))
    | ((with_reducible apply Within.step ?_ (State.setWard_within _ _ _) ?h1); (case h1 => rfl))
    | ((with_reducible apply Within.step ?_ (State.testStart_within _ _) ?h1); (case h1 => rfl))
    | split

theorem State.wardSecured_within (s : State) (w : Nat) :
    Within [.engines, .settRest, .zither, .harps, .msix, .hostRest, .ports, .wards, .burrow, .twin] ([1280, 2755, 2764, 2768, 2781, 2828, 2832, 2944, 3656, 3742, 3776, 5952] ++ [6016, 6024, 6032, 6045, 6144, 6238, 6300, 6301, 6914, 7048, 7744, 7808] ++ [9152, 9280, 9344, 9408]) s (State.wardSecured s w) := by
  unfold State.wardSecured
  try dsimp only
  repeat' first
    | with_reducible apply Within.refl
    | with_reducible assumption
    | with_reducible apply Within.ite ?_ ?_
    | ((with_reducible apply Within.step ?_ (State.beginStep_within _ _) ?h1); (case h1 => rfl))
    | ((with_reducible apply Within.step ?_ (State.setWard_within _ _ _) ?h1); (case h1 => rfl))
    | ((with_reducible apply Within.step ?_ (State.wardEnter_within _ _ _) ?h1); (case h1 => rfl))
    | ((with_reducible apply Within.step ?_ (State.wardNext_within _ _ _) ?h1); (case h1 => rfl))

theorem State.opEnded_within (s : State) (w status : Nat) :
    Within [.engines, .settRest, .zither, .harps, .msix, .hostRest, .ports, .wards, .burrow, .twin] ([1280, 2755, 2764, 2768, 2781, 2828, 2832, 2944, 3656, 3742, 3776, 5952] ++ [6016, 6024, 6032, 6045, 6144, 6238, 6300, 6301, 6914, 7048, 7744, 7808] ++ [9152, 9280, 9344, 9408]) s (State.opEnded s w status) := by
  unfold State.opEnded
  try dsimp only
  repeat' first
    | with_reducible apply Within.refl
    | with_reducible assumption
    | with_reducible apply Within.ite ?_ ?_
    | ((with_reducible apply Within.step ?_ (State.fwRead_within _ _ _ _ _ _) ?h1); (case h1 => rfl))
    | ((with_reducible apply Within.step ?_ (State.setWard_within _ _ _) ?h1); (case h1 => rfl))
    | ((with_reducible apply Within.step ?_ (State.wardFail_within _ _ _) ?h1); (case h1 => rfl))
    | ((with_reducible apply Within.step ?_ (State.wardNext_within _ _ _) ?h1); (case h1 => rfl))
    | split

theorem State.wardWatch_within (s : State) (w : Nat) :
    Within [.engines, .settRest, .zither, .harps, .msix, .hostRest, .ports, .wards, .burrow, .twin] ([1280, 2755, 2764, 2768, 2781, 2828, 2832, 2944, 3656, 3742, 3776, 5952] ++ [6016, 6024, 6032, 6045, 6144, 6238, 6300, 6301, 6914, 7048, 7744, 7808] ++ [9152, 9280, 9344, 9408]) s (State.wardWatch s w) := by
  unfold State.wardWatch
  try dsimp only
  repeat' first
    | with_reducible apply Within.refl
    | with_reducible assumption
    | with_reducible apply Within.ite ?_ ?_
    | ((with_reducible apply Within.step ?_ (State.identify_within _ _) ?h1); (case h1 => rfl))
    | ((with_reducible apply Within.step ?_ (State.setWard_within _ _ _) ?h1); (case h1 => rfl))
    | ((with_reducible apply Within.step ?_ (State.wardEnter_within _ _ _) ?h1); (case h1 => rfl))
    | ((with_reducible apply Within.step ?_ (State.wardFail_within _ _ _) ?h1); (case h1 => rfl))
    | ((with_reducible apply Within.step ?_ (State.wardNext_within _ _ _) ?h1); (case h1 => rfl))
    | split

theorem State.watchWards_within (s : State) :
    Within [.engines, .settRest, .zither, .harps, .msix, .hostRest, .ports, .wards, .burrow, .twin] ([1280, 2755, 2764, 2768, 2781, 2828, 2832, 2944, 3656, 3742, 3776, 5952] ++ [6016, 6024, 6032, 6045, 6144, 6238, 6300, 6301, 6914, 7048, 7744, 7808] ++ [9152, 9280, 9344, 9408]) s (State.watchWards s) := by
  unfold State.watchWards
  try dsimp only
  repeat' first
    | with_reducible apply Within.refl
    | with_reducible assumption
    | with_reducible apply Within.ite ?_ ?_
    | ((with_reducible apply Within.step ?_ (State.wardWatch_within _ _) ?h1); (case h1 => rfl))
    | with_reducible apply Within.each _ _ ?_ (fun _ _ _ _ => ?_)

theorem State.resetOp_within (s : State) (w : Nat) (q : ResetSeq) (op : Nat) :
    Within [.engines, .msix, .hostRest, .ports, .wards] [6016, 7048, 7744, 7808] s (State.resetOp s w q op) := by
  unfold State.resetOp
  try dsimp only
  repeat' first
    | with_reducible apply Within.refl
    | with_reducible assumption
    | with_reducible apply Within.ite ?_ ?_
    | ((with_reducible apply Within.step ?_ (State.setWard_within _ _ _) ?h1); (case h1 => rfl))
    | ((with_reducible apply Within.step ?_ (State.wardWrite_within _ _ _ _) ?h1); (case h1 => rfl))

theorem State.seqRelease_within (s : State) (w : Nat) (q : ResetSeq) :
    Within [.ports, .wards] [] s (State.seqRelease s w q) := by
  unfold State.seqRelease
  try dsimp only
  repeat' first
    | with_reducible apply Within.refl
    | with_reducible assumption
    | with_reducible apply Within.ite ?_ ?_
    | ((with_reducible apply Within.step ?_ (State.sendCtrl_within _ _ _ _ _) ?h1); (case h1 => rfl))
    | ((with_reducible apply Within.step ?_ (State.setWard_within _ _ _) ?h1); (case h1 => rfl))

theorem State.seqDone_within (s : State) (w : Nat) (q : ResetSeq) :
    Within [.msix, .hostRest, .ports, .wards, .burrow] [6914, 7048, 7744, 7808, 9152, 9280, 9344, 9408] s (State.seqDone s w q) := by
  unfold State.seqDone
  try dsimp only
  repeat' first
    | with_reducible apply Within.refl
    | with_reducible assumption
    | with_reducible apply Within.ite ?_ ?_
    | ((with_reducible apply Within.step ?_ (State.fenceAt_within _ _ _ _) ?h1); (case h1 => rfl))
    | ((with_reducible apply Within.step ?_ (State.finish_within _ _ _ _ _ _) ?h1); (case h1 => rfl))
    | ((with_reducible apply Within.step ?_ (State.record_within _ _ _ _) ?h1); (case h1 => rfl))
    | ((with_reducible apply Within.step ?_ (State.setWard_within _ _ _) ?h1); (case h1 => rfl))
    | with_reducible apply Within.each _ _ ?_ (fun _ _ _ _ => ?_)
    | split

theorem State.seqOpEnded_within (s : State) (w : Nat) (q : ResetSeq) (status : Nat) :
    Within [.engines, .settRest, .zither, .harps, .msix, .hostRest, .ports, .wards, .burrow, .twin] ([1280, 2755, 2764, 2768, 2781, 2828, 2832, 2944, 3656, 3742, 3776, 5952] ++ [6016, 6024, 6032, 6045, 6144, 6238, 6300, 6301, 6914, 7048, 7744, 7808] ++ [9152, 9280, 9344, 9408]) s (State.seqOpEnded s w q status) := by
  unfold State.seqOpEnded
  try dsimp only
  repeat' first
    | with_reducible apply Within.refl
    | with_reducible assumption
    | with_reducible apply Within.ite ?_ ?_
    | ((with_reducible apply Within.step ?_ (State.resetOp_within _ _ _ _) ?h1); (case h1 => rfl))
    | ((with_reducible apply Within.step ?_ (State.seqDone_within _ _ _) ?h1); (case h1 => rfl))
    | ((with_reducible apply Within.step ?_ (State.seqRelease_within _ _ _) ?h1); (case h1 => rfl))
    | ((with_reducible apply Within.step ?_ (State.wardFail_within _ _ _) ?h1); (case h1 => rfl))

theorem State.seqDrained_within (s : State) (w part : Nat) :
    Within [.engines, .msix, .hostRest, .ports, .wards] [6016, 7048, 7744, 7808] s (State.seqDrained s w part) := by
  unfold State.seqDrained
  try dsimp only
  repeat' first
    | with_reducible apply Within.refl
    | with_reducible assumption
    | with_reducible apply Within.ite ?_ ?_
    | ((with_reducible apply Within.step ?_ (State.resetOp_within _ _ _ _) ?h1); (case h1 => rfl))
    | split

theorem State.seqEscalate_within (s : State) (w part : Nat) :
    Within [.engines, .msix, .hostRest, .ports, .wards, .burrow] [6016, 6914, 7048, 7744, 7808, 9152, 9280, 9344, 9408] s (State.seqEscalate s w part) := by
  unfold State.seqEscalate
  try dsimp only
  repeat' first
    | with_reducible apply Within.refl
    | with_reducible assumption
    | with_reducible apply Within.ite ?_ ?_
    | ((with_reducible apply Within.step ?_ (State.fencePeers_within _ _ _) ?h1); (case h1 => rfl))
    | ((with_reducible apply Within.step ?_ (State.record_within _ _ _ _) ?h1); (case h1 => rfl))
    | ((with_reducible apply Within.step ?_ (State.resetOp_within _ _ _ _) ?h1); (case h1 => rfl))
    | ((with_reducible apply Within.step ?_ (State.setWard_within _ _ _) ?h1); (case h1 => rfl))
    | split

theorem State.seqFenced_within (s : State) (w p : Nat) :
    Within [.engines, .msix, .hostRest, .ports, .wards] [6016, 7048, 7744, 7808] s (State.seqFenced s w p) := by
  unfold State.seqFenced
  try dsimp only
  repeat' first
    | with_reducible apply Within.refl
    | with_reducible assumption
    | with_reducible apply Within.ite ?_ ?_
    | ((with_reducible apply Within.step ?_ (State.resetOp_within _ _ _ _) ?h1); (case h1 => rfl))
    | ((with_reducible apply Within.step ?_ (State.setWard_within _ _ _) ?h1); (case h1 => rfl))
    | split

theorem State.seqReleased_within (s : State) (w part : Nat) :
    Within [.msix, .hostRest, .ports, .wards, .burrow] [6914, 7048, 7744, 7808, 9152, 9280, 9344, 9408] s (State.seqReleased s w part) := by
  unfold State.seqReleased
  try dsimp only
  repeat' first
    | with_reducible apply Within.refl
    | with_reducible assumption
    | with_reducible apply Within.ite ?_ ?_
    | ((with_reducible apply Within.step ?_ (State.seqDone_within _ _ _) ?h1); (case h1 => rfl))
    | split

theorem State.seqLate_within (s : State) (w : Nat) (p : Option Nat) :
    Within [.engines, .settRest, .zither, .harps, .msix, .hostRest, .ports, .wards, .burrow, .twin] ([1280, 2755, 2764, 2768, 2781, 2828, 2832, 2944, 3656, 3742, 3776, 5952] ++ [6016, 6024, 6032, 6045, 6144, 6238, 6300, 6301, 6914, 7048, 7744, 7808] ++ [9152, 9280, 9344, 9408]) s (State.seqLate s w p) := by
  unfold State.seqLate
  try dsimp only
  repeat' first
    | with_reducible apply Within.refl
    | with_reducible assumption
    | with_reducible apply Within.ite ?_ ?_
    | ((with_reducible apply Within.step ?_ (State.wardFail_within _ _ _) ?h1); (case h1 => rfl))
    | split

theorem State.seqRecover_within (s : State) (w : Nat) :
    Within [.engines, .msix, .hostRest, .ports, .wards] [6016, 7048, 7744, 7808] s (State.seqRecover s w) := by
  unfold State.seqRecover
  try dsimp only
  repeat' first
    | with_reducible apply Within.refl
    | with_reducible assumption
    | with_reducible apply Within.ite ?_ ?_
    | ((with_reducible apply Within.step ?_ (State.resetOp_within _ _ _ _) ?h1); (case h1 => rfl))
    | ((with_reducible apply Within.step ?_ (State.seqRelease_within _ _ _) ?h1); (case h1 => rfl))
    | ((with_reducible apply Within.step ?_ (State.setWard_within _ _ _) ?h1); (case h1 => rfl))
    | split

theorem State.useCrypto_within {bs : List Block} {cs : List Nat} {s t : State} {f : State → State} (h : Within bs cs s t)
    (hb : bs.contains .secure = true) (hf : ∀ u, Within bs cs s u → Within bs cs s (f u)) : Within bs cs s (t.useCrypto f) :=
  hf _ (Within.set_secure _ h hb)

theorem State.setSlot_within (s : State) (b : Bool) (v : Slot) :
    Within [.secure] [] s (State.setSlot s b v) := by
  unfold State.setSlot
  try dsimp only
  repeat' first
    | with_reducible apply Within.refl
    | with_reducible assumption
    | with_reducible apply Within.ite ?_ ?_
    | ((with_reducible apply Within.set_secure _ ?_ ?h1); (case h1 => rfl))

theorem State.applyStraps_within (s : State) :
    Within [] [128, 4096, 5312, 5328, 5440, 5832, 6874, 9566] s (State.applyStraps s) := by
  unfold State.applyStraps
  try dsimp only
  repeat' first
    | with_reducible apply Within.refl
    | with_reducible assumption
    | with_reducible apply Within.ite ?_ ?_
    | ((with_reducible apply Within.wr _ _ _ ?_ ?h1); (case h1 => rfl))
    | ((with_reducible apply Within.wrBit _ _ _ ?_ ?h1); (case h1 => rfl))
    | with_reducible apply Within.each _ _ ?_ (fun _ _ _ _ => ?_)

theorem State.boot_within (s : State) (cause : Nat) :
    Within [.part, .sense, .zither, .cooling, .msix, .burrow] ([0, 128, 205, 720, 4096, 5136, 5147, 5149, 5253, 5264, 5271, 5274] ++ [5275, 5312, 5328, 5440, 5832, 6874, 6914, 9152, 9280, 9344, 9408, 9566]) s (State.boot s cause) := by
  unfold State.boot
  try dsimp only
  repeat' first
    | with_reducible apply Within.refl
    | with_reducible assumption
    | with_reducible apply Within.ite ?_ ?_
    | ((with_reducible apply Within.wr _ _ _ ?_ ?h1); (case h1 => rfl))
    | ((with_reducible apply Within.step ?_ (State.applyStraps_within _) ?h1); (case h1 => rfl))
    | ((with_reducible apply Within.step ?_ (State.calPass_within _) ?h1); (case h1 => rfl))
    | ((with_reducible apply Within.step ?_ (State.driveAll_within _) ?h1); (case h1 => rfl))
    | ((with_reducible apply Within.step ?_ (State.judgeZone_within _ _) ?h1); (case h1 => rfl))
    | ((with_reducible apply Within.step ?_ (State.record_within _ _ _ _) ?h1); (case h1 => rfl))
    | ((with_reducible apply Within.step ?_ (State.setZgrp_within _ _ _) ?h1); (case h1 => rfl))
    | with_reducible apply Within.each _ _ ?_ (fun _ _ _ _ => ?_)
    | ((with_reducible apply Within.lit ?tt ?_ ?h1 ?h2 ?h3 ?h4); (case h1 => with_reducible rfl); (case h2 => intro b hb; cases b <;> first | exact absurd (by decide) hb | rfl); (case h3 => exact id); (case h4 => intro hb; first | exact hb | rfl))

theorem State.pendReset_within (s : State) (cause : Nat) :
    Within [.part, .zither, .msix, .burrow, .twin] [2764, 2781, 2944, 6914, 9152, 9280, 9344, 9408] s (State.pendReset s cause) := by
  unfold State.pendReset
  try dsimp only
  repeat' first
    | with_reducible apply Within.refl
    | with_reducible assumption
    | with_reducible apply Within.ite ?_ ?_
    | ((with_reducible apply Within.step ?_ (State.goDown_within _ _ _) ?h1); (case h1 => rfl))
    | with_reducible apply Within.each _ _ ?_ (fun _ _ _ _ => ?_)
    | ((with_reducible apply Within.set_part _ ?_ ?h1); (case h1 => rfl))

theorem State.clearRings_within (s : State) :
    Within [.msix, .hostRest, .ports, .wards, .recorderRest, .secure, .burrow] ([6914, 7007, 7040, 7048, 7056, 7070, 7680, 7744, 7808, 7816, 7824, 7872] ++ [7936, 9152, 9280, 9344, 9408]) s (State.clearRings s) := by
  unfold State.clearRings
  try dsimp only
  repeat' first
    | with_reducible apply Within.refl
    | with_reducible assumption
    | with_reducible apply Within.ite ?_ ?_
    | ((with_reducible apply Within.step ?_ (State.clearPair_within _ _) ?h1); (case h1 => rfl))
    | with_reducible apply Within.each _ _ ?_ (fun _ _ _ _ => ?_)

theorem State.appReset_within (s : State) (cause : Nat) : Within [.part, .marten, .msix, .hostRest, .ports, .wards, .recorderRest, .secure, .burrow] ([0, 16, 4736, 4748, 4767, 6877, 6913, 6914, 7007, 7040, 7048, 7056] ++ [7070, 7168, 7184, 7192, 7680, 7744, 7808, 7816, 7824, 7872, 7936, 9152] ++ [9280, 9344, 9408]) s (State.appReset s cause) := by
  unfold State.appReset
  extract_lets s1 s2 s3 s4 s5 p1 m1 c1 s6
  have h1 : Within [.part, .marten, .msix, .hostRest, .ports, .wards, .recorderRest, .secure, .burrow] ([0, 16, 4736, 4748, 4767, 6877, 6913, 6914, 7007, 7040, 7048, 7056] ++ [7070, 7168, 7184, 7192, 7680, 7744, 7808, 7816, 7824, 7872, 7936, 9152] ++ [9280, 9344, 9408]) s s1 :=
    Within.ite (Within.each _ _ (Within.refl _ _ _) fun _ _ u hu => Within.step hu (State.disablePair_within _ _) rfl) (Within.refl _ _ _)
  clear_value s1
  have h2 : Within [.part, .marten, .msix, .hostRest, .ports, .wards, .recorderRest, .secure, .burrow] ([0, 16, 4736, 4748, 4767, 6877, 6913, 6914, 7007, 7040, 7048, 7056] ++ [7070, 7168, 7184, 7192, 7680, 7744, 7808, 7816, 7824, 7872, 7936, 9152] ++ [9280, 9344, 9408]) s s2 := Within.step h1 (State.clearRings_within s1) rfl
  clear_value s2
  have h3 : Within [.part, .marten, .msix, .hostRest, .ports, .wards, .recorderRest, .secure, .burrow] ([0, 16, 4736, 4748, 4767, 6877, 6913, 6914, 7007, 7040, 7048, 7056] ++ [7070, 7168, 7184, 7192, 7680, 7744, 7808, 7816, 7824, 7872, 7936, 9152] ++ [9280, 9344, 9408]) s s3 := (h2.wr _ _ _ rfl).raiseInt _ _ rfl rfl
  clear_value s3
  have h4 : Within [.part, .marten, .msix, .hostRest, .ports, .wards, .recorderRest, .secure, .burrow] ([0, 16, 4736, 4748, 4767, 6877, 6913, 6914, 7007, 7040, 7048, 7056] ++ [7070, 7168, 7184, 7192, 7680, 7744, 7808, 7816, 7824, 7872, 7936, 9152] ++ [9280, 9344, 9408]) s s4 := h3.clearFlds _ rfl
  clear_value s4
  have h5 : Within [.part, .marten, .msix, .hostRest, .ports, .wards, .recorderRest, .secure, .burrow] ([0, 16, 4736, 4748, 4767, 6877, 6913, 6914, 7007, 7040, 7048, 7056] ++ [7070, 7168, 7184, 7192, 7680, 7744, 7808, 7816, 7824, 7872, 7936, 9152] ++ [9280, 9344, 9408]) s s5 := (h4.addSat _ _ _ rfl).wr _ _ _ rfl
  clear_value s5
  have h6 : Within [.part, .marten, .msix, .hostRest, .ports, .wards, .recorderRest, .secure, .burrow] ([0, 16, 4736, 4748, 4767, 6877, 6913, 6914, 7007, 7040, 7048, 7056] ++ [7070, 7168, 7184, 7192, 7680, 7744, 7808, 7816, 7824, 7872, 7936, 9152] ++ [9280, 9344, 9408]) s s6 := Within.upd (t := s5) h5 rfl (by intro b hb; cases b <;> first | exact absurd (by decide) hb | rfl) id
  exact Within.step h6 (State.record_within _ _ _ _) rfl

theorem State.cxlReset_within (s : State) (cause : Nat) :
    Within [.msix, .hostRest, .ports, .wards, .recorderRest, .secure, .burrow] ([6914, 7007, 7040, 7048, 7056, 7070, 7680, 7744, 7808, 7816, 7824, 7872] ++ [7936, 9152, 9280, 9344, 9408]) s (State.cxlReset s cause) := by
  unfold State.cxlReset
  try dsimp only
  repeat' first
    | with_reducible apply Within.refl
    | with_reducible assumption
    | with_reducible apply Within.ite ?_ ?_
    | ((with_reducible apply Within.step ?_ (State.clearRings_within _) ?h1); (case h1 => rfl))
    | ((with_reducible apply Within.step ?_ (State.record_within _ _ _ _) ?h1); (case h1 => rfl))
    | ((with_reducible apply Within.set_msix _ ?_ ?h1 ?h2); (case h1 => rfl); (case h2 => with_reducible rfl))
    | ((with_reducible apply Within.set_hostRest _ ?_ ?h1 ?h2); (case h1 => rfl); (case h2 => with_reducible rfl))

theorem State.vcoreOff_within (s : State) : Within [.part, .engines, .marten, .msix, .hostRest, .ports, .wards, .hbm, .recorderRest, .secure, .burrow] ([4176, 4177, 4224, 4225, 4226, 4227, 4228, 4232, 4240, 4253, 4544, 4548] ++ [4672, 4736, 4748, 4767, 4800, 4816, 4831, 4928, 4942, 4944, 4952, 5952] ++ [6016, 6040, 6041, 6042, 6043, 6045, 6144, 6876, 6914, 7007, 7040, 7048] ++ [7056, 7070, 7680, 7744, 7808, 7816, 7824, 7872, 7936, 8094, 9152, 9280] ++ [9344, 9408]) s (State.vcoreOff s) := by
  unfold State.vcoreOff
  extract_lets s1 s2 mrt on s3 s4
  have h1 : Within [.part, .engines, .marten, .msix, .hostRest, .ports, .wards, .hbm, .recorderRest, .secure, .burrow] ([4176, 4177, 4224, 4225, 4226, 4227, 4228, 4232, 4240, 4253, 4544, 4548] ++ [4672, 4736, 4748, 4767, 4800, 4816, 4831, 4928, 4942, 4944, 4952, 5952] ++ [6016, 6040, 6041, 6042, 6043, 6045, 6144, 6876, 6914, 7007, 7040, 7048] ++ [7056, 7070, 7680, 7744, 7808, 7816, 7824, 7872, 7936, 8094, 9152, 9280] ++ [9344, 9408]) s s1 :=
    Within.each _ _ (Within.refl _ _ _) fun _ _ u hu => Within.ite hu (Within.step hu (State.portOff_within _ _) rfl)
  clear_value s1
  have h2 : Within [.part, .engines, .marten, .msix, .hostRest, .ports, .wards, .hbm, .recorderRest, .secure, .burrow] ([4176, 4177, 4224, 4225, 4226, 4227, 4228, 4232, 4240, 4253, 4544, 4548] ++ [4672, 4736, 4748, 4767, 4800, 4816, 4831, 4928, 4942, 4944, 4952, 5952] ++ [6016, 6040, 6041, 6042, 6043, 6045, 6144, 6876, 6914, 7007, 7040, 7048] ++ [7056, 7070, 7680, 7744, 7808, 7816, 7824, 7872, 7936, 8094, 9152, 9280] ++ [9344, 9408]) s s2 := ((Within.step h1 (State.clearRings_within s1) rfl).wr _ _ _ rfl).wr _ _ _ rfl
  clear_value s2
  have h3 : Within [.part, .engines, .marten, .msix, .hostRest, .ports, .wards, .hbm, .recorderRest, .secure, .burrow] ([4176, 4177, 4224, 4225, 4226, 4227, 4228, 4232, 4240, 4253, 4544, 4548] ++ [4672, 4736, 4748, 4767, 4800, 4816, 4831, 4928, 4942, 4944, 4952, 5952] ++ [6016, 6040, 6041, 6042, 6043, 6045, 6144, 6876, 6914, 7007, 7040, 7048] ++ [7056, 7070, 7680, 7744, 7808, 7816, 7824, 7872, 7936, 8094, 9152, 9280] ++ [9344, 9408]) s s3 := h2.clearFlds _ rfl
  clear_value s3 on
  have h4 : Within [.part, .engines, .marten, .msix, .hostRest, .ports, .wards, .hbm, .recorderRest, .secure, .burrow] ([4176, 4177, 4224, 4225, 4226, 4227, 4228, 4232, 4240, 4253, 4544, 4548] ++ [4672, 4736, 4748, 4767, 4800, 4816, 4831, 4928, 4942, 4944, 4952, 5952] ++ [6016, 6040, 6041, 6042, 6043, 6045, 6144, 6876, 6914, 7007, 7040, 7048] ++ [7056, 7070, 7680, 7744, 7808, 7816, 7824, 7872, 7936, 8094, 9152, 9280] ++ [9344, 9408]) s s4 := Within.each _ _ h3 fun _ _ u hu => (hu.wr _ _ _ rfl).wr _ _ _ rfl
  clear_value s4
  exact Within.upd (t := s4) h4 rfl (by intro b hb; cases b <;> first | exact absurd (by decide) hb | rfl) (fun h => ⟨h.1, rfl⟩)

theorem State.vsettOff_within (s : State) : Within [.part, .sense, .engines, .sharedMemory, .settRest, .zither, .harps, .cooling, .msix, .burrow] ([199, 200, 201, 202, 204, 205, 206, 207, 208, 320, 336, 576] ++ [577, 578, 579, 580, 581, 2764, 2781, 3712, 3734, 3735, 3736, 3738] ++ [3740, 3742, 5136, 5147, 5149, 5271, 5276, 5279, 6914, 9152, 9280, 9344] ++ [9408]) s (State.vsettOff s) := by
  unfold State.vsettOff
  extract_lets s1 p1 s2
  have h1 : Within [.part, .sense, .engines, .sharedMemory, .settRest, .zither, .harps, .cooling, .msix, .burrow] ([199, 200, 201, 202, 204, 205, 206, 207, 208, 320, 336, 576] ++ [577, 578, 579, 580, 581, 2764, 2781, 3712, 3734, 3735, 3736, 3738] ++ [3740, 3742, 5136, 5147, 5149, 5271, 5276, 5279, 6914, 9152, 9280, 9344] ++ [9408]) s s1 := (Within.step (Within.refl _ _ _) (State.releasePads_within s) rfl).clearFlds _ rfl
  clear_value s1
  have h2 : Within [.part, .sense, .engines, .sharedMemory, .settRest, .zither, .harps, .cooling, .msix, .burrow] ([199, 200, 201, 202, 204, 205, 206, 207, 208, 320, 336, 576] ++ [577, 578, 579, 580, 581, 2764, 2781, 3712, 3734, 3735, 3736, 3738] ++ [3740, 3742, 5136, 5147, 5149, 5271, 5276, 5279, 6914, 9152, 9280, 9344] ++ [9408]) s s2 := Within.upd (t := s1) h1 rfl (by intro b hb; cases b <;> first | exact absurd (by decide) hb | rfl) (fun h => ⟨rfl, h.2⟩)
  clear_value s2
  exact Within.step h2 (State.zonesFallback_within _ _) rfl

theorem State.setLocks_within (s : State) : Within [] [8640, 8641, 8642, 8643, 8644, 8645] s (State.setLocks s) :=
  (Within.refl _ _ s).eachWr _ 0 (fun _ => 1) rfl

theorem State.goInert_within (s : State) (data : List Nat) :
    Within [.msix, .burrow] ([6877, 6914, 8475, 8478, 8640, 8641, 8642, 8643, 8644, 8645, 9152, 9280] ++ [9344, 9408]) s (State.goInert s data) := by
  unfold State.goInert
  try dsimp only
  repeat' first
    | with_reducible apply Within.refl
    | with_reducible assumption
    | with_reducible apply Within.ite ?_ ?_
    | ((with_reducible apply Within.wr _ _ _ ?_ ?h1); (case h1 => rfl))
    | ((with_reducible apply Within.step ?_ (State.record_within _ _ _ _) ?h1); (case h1 => rfl))
    | ((with_reducible apply Within.step ?_ (State.setLocks_within _) ?h1); (case h1 => rfl))

theorem State.showVerdict_within (s : State) (b : Bool) (v : Nat) :
    Within [] [8512, 8520, 8528, 8704, 8712, 8720] s (State.showVerdict s b v) := by
  unfold State.showVerdict
  try dsimp only
  repeat' first
    | with_reducible apply Within.refl
    | with_reducible assumption
    | with_reducible apply Within.ite ?_ ?_
    | ((with_reducible apply Within.wr _ _ _ ?_ ?h1); (case h1 => rfl))

theorem State.judgeSlot_within (s : State) (b : Bool) (v : Nat) :
    Within [.msix, .burrow] [6914, 8512, 8520, 8528, 8704, 8712, 8720, 9152, 9280, 9344, 9408] s (State.judgeSlot s b v) := by
  unfold State.judgeSlot
  try dsimp only
  repeat' first
    | with_reducible apply Within.refl
    | with_reducible assumption
    | with_reducible apply Within.ite ?_ ?_
    | ((with_reducible apply Within.step ?_ (State.record_within _ _ _ _) ?h1); (case h1 => rfl))
    | ((with_reducible apply Within.step ?_ (State.showVerdict_within _ _ _) ?h1); (case h1 => rfl))

theorem State.retire_within (s : State) (b : Bool) (v : Nat) :
    Within [.msix, .secure, .burrow] [6914, 9152, 9280, 9344, 9408] s (State.retire s b v) := by
  unfold State.retire
  try dsimp only
  repeat' first
    | with_reducible apply Within.refl
    | with_reducible assumption
    | with_reducible apply Within.ite ?_ ?_
    | ((with_reducible apply Within.step ?_ (State.record_within _ _ _ _) ?h1); (case h1 => rfl))
    | ((with_reducible apply Within.step ?_ (State.setSlot_within _ _ _) ?h1); (case h1 => rfl))

theorem State.advanceFloor_within (s : State) (b : Bool) :
    Within [.msix, .secure, .burrow] [6914, 9152, 9280, 9344, 9408] s (State.advanceFloor s b) := by
  unfold State.advanceFloor
  try dsimp only
  repeat' first
    | with_reducible apply Within.refl
    | with_reducible assumption
    | with_reducible apply Within.ite ?_ ?_
    | ((with_reducible apply Within.step ?_ (State.record_within _ _ _ _) ?h1); (case h1 => rfl))
    | ((with_reducible apply Within.set_secure _ ?_ ?h1); (case h1 => rfl))

theorem State.handOver_within (s : State) (b : Bool) :
    Within [.part, .msix, .secure, .burrow] ([6877, 6914, 8478, 8640, 8641, 8642, 8643, 8644, 8645, 9152, 9280, 9344] ++ [9408]) s (State.handOver s b) := by
  unfold State.handOver
  try dsimp only
  repeat' first
    | with_reducible apply Within.refl
    | with_reducible assumption
    | with_reducible apply Within.ite ?_ ?_
    | ((with_reducible apply Within.wr _ _ _ ?_ ?h1); (case h1 => rfl))
    | ((with_reducible apply Within.step ?_ (State.record_within _ _ _ _) ?h1); (case h1 => rfl))
    | ((with_reducible apply Within.step ?_ (State.setLocks_within _) ?h1); (case h1 => rfl))
    | ((with_reducible apply Within.step ?_ (State.setSlot_within _ _ _) ?h1); (case h1 => rfl))
    | ((with_reducible apply Within.set_part _ ?_ ?h1); (case h1 => rfl))
    | ((with_reducible apply Within.set_secure _ ?_ ?h1); (case h1 => rfl))

theorem State.select_within (s : State) (mode : Nat) (badA badB : Bool) :
    Within [.part, .zither, .msix, .secure, .burrow, .twin] ([2764, 2781, 2944, 6877, 6914, 8475, 8477, 8478, 8512, 8520, 8528, 8640] ++ [8641, 8642, 8643, 8644, 8645, 8704, 8712, 8720, 9152, 9280, 9344, 9408]) s (State.select s mode badA badB) := by
  unfold State.select
  try dsimp only
  repeat' first
    | with_reducible apply Within.refl
    | with_reducible assumption
    | with_reducible apply Within.ite ?_ ?_
    | ((with_reducible apply Within.wr _ _ _ ?_ ?h1); (case h1 => rfl))
    | ((with_reducible apply Within.step ?_ (State.advanceFloor_within _ _) ?h1); (case h1 => rfl))
    | ((with_reducible apply Within.step ?_ (State.goInert_within _ _) ?h1); (case h1 => rfl))
    | ((with_reducible apply Within.step ?_ (State.handOver_within _ _) ?h1); (case h1 => rfl))
    | ((with_reducible apply Within.step ?_ (State.judgeSlot_within _ _ _) ?h1); (case h1 => rfl))
    | ((with_reducible apply Within.step ?_ (State.pendReset_within _ _) ?h1); (case h1 => rfl))
    | ((with_reducible apply Within.step ?_ (State.record_within _ _ _ _) ?h1); (case h1 => rfl))
    | ((with_reducible apply Within.step ?_ (State.retire_within _ _ _) ?h1); (case h1 => rfl))
    | split

theorem State.noteCheck_within (s : State) (code : Nat) :
    Within [] [8912] s (State.noteCheck s code) := by
  unfold State.noteCheck
  try dsimp only
  repeat' first
    | with_reducible apply Within.refl
    | with_reducible assumption
    | with_reducible apply Within.ite ?_ ?_
    | ((with_reducible apply Within.wr _ _ _ ?_ ?h1); (case h1 => rfl))

theorem State.bootSet_within (s : State) (b : Bool) :
    Within [.msix, .secure, .burrow] [6914, 8912, 8920, 8921, 9152, 9280, 9344, 9408] s (State.bootSet s b) := by
  unfold State.bootSet
  try dsimp only
  repeat' first
    | with_reducible apply Within.refl
    | with_reducible assumption
    | with_reducible apply Within.ite ?_ ?_
    | ((with_reducible apply Within.wr _ _ _ ?_ ?h1); (case h1 => rfl))
    | ((with_reducible apply Within.step ?_ (State.noteCheck_within _ _) ?h1); (case h1 => rfl))
    | ((with_reducible apply Within.step ?_ (State.record_within _ _ _ _) ?h1); (case h1 => rfl))
    | split
    | ((with_reducible apply Within.set_secure _ ?_ ?h1); (case h1 => rfl))

theorem State.firmStart_within (s : State) :
    Within [.part, .engines, .settRest, .zither, .harps, .msix, .hostRest, .ports, .wards, .secure, .burrow, .twin] ([1280, 2755, 2764, 2768, 2781, 2828, 2832, 2944, 3656, 3742, 3776, 5952] ++ [6016, 6024, 6032, 6045, 6144, 6238, 6300, 6301, 6914, 7048, 7168, 7184] ++ [7192, 7744, 7808, 8912, 8920, 8921, 9152, 9280, 9344, 9408]) s (State.firmStart s) := by
  unfold State.firmStart
  try dsimp only
  repeat' first
    | with_reducible apply Within.refl
    | with_reducible assumption
    | with_reducible apply Within.ite ?_ ?_
    | ((with_reducible apply Within.wr _ _ _ ?_ ?h1); (case h1 => rfl))
    | ((with_reducible apply Within.step ?_ (State.bootSet_within _ _) ?h1); (case h1 => rfl))
    | ((with_reducible apply Within.step ?_ (State.seqRecover_within _ _) ?h1); (case h1 => rfl))
    | ((with_reducible apply Within.step ?_ (State.wardFail_within _ _ _) ?h1); (case h1 => rfl))
    | with_reducible apply Within.each _ _ ?_ (fun _ _ _ _ => ?_)
    | ((with_reducible apply Within.lit ?tt ?_ ?h1 ?h2 ?h3 ?h4); (case h1 => with_reducible rfl); (case h2 => intro b hb; cases b <;> first | exact absurd (by decide) hb | rfl); (case h3 => exact id); (case h4 => intro hb; first | exact hb | rfl))

theorem State.writeEntry_within (s : State) (k : Nat) (x : Sub) (e : Nat × Nat) :
    Within [.msix, .hostRest] [7744] s (State.writeEntry s k x e) := by
  unfold State.writeEntry
  try dsimp only
  repeat' first
    | with_reducible apply Within.refl
    | with_reducible assumption
    | with_reducible apply Within.ite ?_ ?_
    | ((with_reducible apply Within.step ?_ (State.putCompletion_within _ _ _ _) ?h1); (case h1 => rfl))
    | ((with_reducible apply Within.step ?_ (State.setSub_within _ _ _) ?h1); (case h1 => rfl))

theorem State.writeGreet_within (s : State) (k : Nat) (x : Sub) :
    Within [.msix, .hostRest] [7744] s (State.writeGreet s k x) := by
  unfold State.writeGreet
  try dsimp only
  repeat' first
    | with_reducible apply Within.refl
    | with_reducible assumption
    | with_reducible apply Within.ite ?_ ?_
    | ((with_reducible apply Within.step ?_ (State.putCompletion_within _ _ _ _) ?h1); (case h1 => rfl))
    | ((with_reducible apply Within.step ?_ (State.setSub_within _ _ _) ?h1); (case h1 => rfl))

theorem State.flushSub_within (s : State) (k fuel : Nat) : Within [.msix, .hostRest] [7744] s (State.flushSub s k fuel) := by
  induction fuel generalizing s with
  | zero => exact Within.refl _ _ _
  | succ n ih =>
    unfold State.flushSub
    split
    · exact Within.refl _ _ _
    · refine Within.ite (Within.refl _ _ _) (Within.ite ?_ ?_)
      · exact Within.step (Within.step (Within.refl _ _ _) (State.writeGreet_within _ _ _) rfl) (ih _) rfl
      · split
        · exact Within.refl _ _ _
        · exact Within.step (Within.step (Within.refl _ _ _) (State.writeEntry_within _ _ _ _) rfl) (ih _) rfl

theorem State.dmaError_within (s : State) (r cookie kind : Nat) :
    Within [.msix, .burrow] [6914, 6917, 7816, 9152, 9280, 9344, 9408] s (State.dmaError s r cookie kind) := by
  unfold State.dmaError
  try dsimp only
  repeat' first
    | with_reducible apply Within.refl
    | with_reducible assumption
    | with_reducible apply Within.ite ?_ ?_
    | ((with_reducible apply Within.addSat _ _ _ ?_ ?h1); (case h1 => rfl))
    | ((with_reducible apply Within.raiseInt _ _ ?_ ?h1 ?h2); (case h1 => rfl); (case h2 => rfl))
    | ((with_reducible apply Within.step ?_ (State.record_within _ _ _ _) ?h1); (case h1 => rfl))

theorem State.dropStage_within (s : State) (r slot : Nat) :
    Within [.secure] [] s (State.dropStage s r slot) := by
  unfold State.dropStage
  try dsimp only
  repeat' first
    | with_reducible apply Within.refl
    | with_reducible assumption
    | with_reducible apply Within.ite ?_ ?_
    | split
    | ((with_reducible apply Within.set_secure _ ?_ ?h1); (case h1 => rfl))

theorem State.deny_within (s : State) (write : Bool) (a : Nat) :
    Within [.msix, .hostRest] [6916, 7296, 7312] s (State.deny s write a) := by
  unfold State.deny
  try dsimp only
  repeat' first
    | with_reducible apply Within.refl
    | with_reducible assumption
    | with_reducible apply Within.ite ?_ ?_
    | ((with_reducible apply Within.addSat _ _ _ ?_ ?h1); (case h1 => rfl))
    | ((with_reducible apply Within.raiseInt _ _ ?_ ?h1 ?h2); (case h1 => rfl); (case h2 => rfl))
    | split
    | ((with_reducible apply Within.set_msix _ ?_ ?h1 ?h2); (case h1 => rfl); (case h2 => with_reducible rfl))
    | ((with_reducible apply Within.set_hostRest _ ?_ ?h1 ?h2); (case h1 => rfl); (case h2 => with_reducible rfl))

theorem State.deniedSecond_within (s : State) :
    Within [.msix, .hostRest, .burrow] [6914, 9152, 9280, 9344, 9408] s (State.deniedSecond s) := by
  unfold State.deniedSecond
  try dsimp only
  repeat' first
    | with_reducible apply Within.refl
    | with_reducible assumption
    | with_reducible apply Within.ite ?_ ?_
    | ((with_reducible apply Within.step ?_ (State.record_within _ _ _ _) ?h1); (case h1 => rfl))
    | split
    | ((with_reducible apply Within.set_msix _ ?_ ?h1 ?h2); (case h1 => rfl); (case h2 => with_reducible rfl))
    | ((with_reducible apply Within.set_hostRest _ ?_ ?h1 ?h2); (case h1 => rfl); (case h2 => with_reducible rfl))

theorem State.answer_within (s : State) (l : List Byte) :
    Within [.hostRest] [] s (State.answer s l) := by
  unfold State.answer
  try dsimp only
  repeat' first
    | with_reducible apply Within.refl
    | with_reducible assumption
    | with_reducible apply Within.ite ?_ ?_
    | ((with_reducible apply Within.set_hostRest _ ?_ ?h1 ?h2); (case h1 => rfl); (case h2 => with_reducible rfl))

theorem State.dropSeconds_within (s : State) :
    Within [.msix, .hostRest, .burrow] [6914, 9152, 9280, 9344, 9408] s (State.dropSeconds s) := by
  unfold State.dropSeconds
  try dsimp only
  repeat' first
    | with_reducible apply Within.refl
    | with_reducible assumption
    | with_reducible apply Within.ite ?_ ?_
    | ((with_reducible apply Within.step ?_ (State.setSub_within _ _ _) ?h1); (case h1 => rfl))
    | ((with_reducible apply Within.step ?_ (State.subRecord_within _ _ _) ?h1); (case h1 => rfl))
    | with_reducible apply Within.each _ _ ?_ (fun _ _ _ _ => ?_)
    | split

theorem State.laserSettle_within (s : State) (k : Nat) (v : LaserRead) :
    Within [.lasers] [] s (State.laserSettle s k v) := by
  unfold State.laserSettle
  try dsimp only
  repeat' first
    | with_reducible apply Within.refl
    | with_reducible assumption
    | with_reducible apply Within.ite ?_ ?_
    | ((with_reducible apply Within.step ?_ (State.setLaser_within _ _ _) ?h1); (case h1 => rfl))
    | split

theorem State.tileStatus_within (s : State) (t code : Nat) :
    Within [] [4240] s (State.tileStatus s t code) := by
  unfold State.tileStatus
  try dsimp only
  repeat' first
    | with_reducible apply Within.refl
    | with_reducible assumption
    | with_reducible apply Within.ite ?_ ?_
    | ((with_reducible apply Within.wr _ _ _ ?_ ?h1); (case h1 => rfl))

theorem State.advance_within (s : State) (t n : Nat) :
    Within [.marten, .msix, .burrow] ([4224, 4225, 4226, 4227, 4288, 4312, 4352, 4416, 4432, 4480, 4510, 4511] ++ [4928, 4942, 4944, 4952, 6914, 9152, 9280, 9344, 9408]) s (State.advance s t n) := by
  unfold State.advance
  try dsimp only
  repeat' first
    | with_reducible apply Within.refl
    | with_reducible assumption
    | with_reducible apply Within.ite ?_ ?_
    | ((with_reducible apply Within.step ?_ (State.endJob_within _ _ _ _) ?h1); (case h1 => rfl))
    | ((with_reducible apply Within.step ?_ (State.runTo_within _ _ _ _) ?h1); (case h1 => rfl))
    | split

theorem State.commitJob_within (s : State) (t j h : Nat) (outs : List (Nat × Option Word)) :
    Within [.marten] [4224, 4748, 4767] s (State.commitJob s t j h outs) := by
  unfold State.commitJob
  try dsimp only
  repeat' first
    | with_reducible apply Within.refl
    | with_reducible assumption
    | with_reducible apply Within.ite ?_ ?_
    | ((with_reducible apply Within.wr _ _ _ ?_ ?h1); (case h1 => rfl))
    | ((with_reducible apply Within.step ?_ (State.commitSlot_within _ _ _ _ _) ?h1); (case h1 => rfl))
    | with_reducible apply Within.each _ _ ?_ (fun _ _ _ _ => ?_)

theorem State.badFrame_within (s : State) (p : Nat) :
    Within [] [6168] s (State.badFrame s p) := by
  unfold State.badFrame
  try dsimp only
  repeat' first
    | with_reducible apply Within.refl
    | with_reducible assumption
    | with_reducible apply Within.ite ?_ ?_
    | ((with_reducible apply Within.addSat _ _ _ ?_ ?h1); (case h1 => rfl))

theorem State.sealFail_within (s : State) (p : Nat) :
    Within [.engines, .settRest, .zither, .harps, .msix, .hostRest, .ports, .wards, .burrow, .twin] ([1280, 2755, 2764, 2768, 2781, 2828, 2832, 2944, 3656, 3742, 3776, 5952] ++ [6016, 6024, 6032, 6042, 6045, 6144, 6160, 6238, 6300, 6301, 6914, 7048] ++ [7744, 7808, 9152, 9280, 9344, 9408]) s (State.sealFail s p) := by
  unfold State.sealFail
  try dsimp only
  repeat' first
    | with_reducible apply Within.refl
    | with_reducible assumption
    | with_reducible apply Within.ite ?_ ?_
    | ((with_reducible apply Within.addSat _ _ _ ?_ ?h1); (case h1 => rfl))
    | ((with_reducible apply Within.step ?_ (State.islandNext_within _) ?h1); (case h1 => rfl))
    | ((with_reducible apply Within.step ?_ (State.record_within _ _ _ _) ?h1); (case h1 => rfl))
    | ((with_reducible apply Within.step ?_ (State.secDown_within _ _) ?h1); (case h1 => rfl))
    | ((with_reducible apply Within.step ?_ (State.setPort_within _ _ _) ?h1); (case h1 => rfl))
    | ((with_reducible apply Within.step ?_ (State.wardFail_within _ _ _) ?h1); (case h1 => rfl))

theorem State.admitFrame_within (s : State) (p : Nat) (h : FrameHead) (base : Nat) (sealOk : Bool) (f : State → State) {bs : List Block} {cs : List Nat}
    (hc : covers bs [.engines, .settRest, .zither, .harps, .msix, .hostRest, .ports, .wards, .burrow, .twin] cs ([1280, 2755, 2764, 2768, 2781, 2828, 2832, 2944, 3656, 3742, 3776, 5952] ++ [6016, 6024, 6032, 6042, 6045, 6144, 6160, 6168, 6238, 6300, 6301, 6914] ++ [7048, 7744, 7808, 9152, 9280, 9344, 9408]) = true) (hf : ∀ u, Within bs cs s u → Within bs cs s (f u)) :
    Within bs cs s (State.admitFrame s p h base sealOk f) := by
  have h := Within.refl [.engines, .settRest, .zither, .harps, .msix, .hostRest, .ports, .wards, .burrow, .twin] ([1280, 2755, 2764, 2768, 2781, 2828, 2832, 2944, 3656, 3742, 3776, 5952] ++ [6016, 6024, 6032, 6042, 6045, 6144, 6160, 6168, 6238, 6300, 6301, 6914] ++ [7048, 7744, 7808, 9152, 9280, 9344, 9408]) s
  have hs : Within bs cs s s := Within.refl _ _ s
  unfold State.admitFrame
  refine Within.ite (Within.step hs (Within.step h (State.badFrame_within s p) rfl) hc) (Within.ite hs (Within.ite (Within.ite (hf _ ?_) ?_) (hf _ hs)))
  · exact Within.step hs (Within.step h (State.setPort_within s p _) rfl) hc
  · exact Within.step hs (Within.step h (State.sealFail_within s p) rfl) hc

theorem State.countTagFail_within (s : State) (p : Nat) (tag : BitVec 8) :
    Within [.engines, .msix, .hostRest, .ports, .wards] [6016, 6144, 7048, 7744, 7808] s (State.countTagFail s p tag) := by
  unfold State.countTagFail
  try dsimp only
  repeat' first
    | with_reducible apply Within.refl
    | with_reducible assumption
    | with_reducible apply Within.ite ?_ ?_
    | ((with_reducible apply Within.step ?_ (State.finishReq_within _ _ _ _ _) ?h1); (case h1 => rfl))
    | ((with_reducible apply Within.step ?_ (State.setPort_within _ _ _) ?h1); (case h1 => rfl))
    | split

theorem State.streamDone_within (s : State) (p stream len : Nat) :
    Within [.engines, .harps, .msix, .hostRest, .ports, .wards, .burrow, .twin] [3656, 3742, 3776, 6016, 6914, 7048, 7744, 7808, 9152, 9280, 9344, 9408] s (State.streamDone s p stream len) := by
  unfold State.streamDone
  try dsimp only
  repeat' first
    | with_reducible apply Within.refl
    | with_reducible assumption
    | with_reducible apply Within.ite ?_ ?_
    | ((with_reducible apply Within.step ?_ (State.setFloor_within _ _ _) ?h1); (case h1 => rfl))
    | ((with_reducible apply Within.step ?_ (State.wardOp_within _ _ _ _) ?h1); (case h1 => rfl))

theorem State.secFail_within (s : State) (p : Nat) :
    Within [.engines, .settRest, .zither, .harps, .msix, .hostRest, .ports, .wards, .burrow, .twin] ([1280, 2755, 2764, 2768, 2781, 2828, 2832, 2944, 3656, 3742, 3776, 5952] ++ [6016, 6024, 6032, 6042, 6045, 6144, 6238, 6300, 6301, 6914, 7048, 7744] ++ [7808, 9152, 9280, 9344, 9408]) s (State.secFail s p) := by
  unfold State.secFail
  try dsimp only
  repeat' first
    | with_reducible apply Within.refl
    | with_reducible assumption
    | with_reducible apply Within.ite ?_ ?_
    | ((with_reducible apply Within.step ?_ (State.islandNext_within _) ?h1); (case h1 => rfl))
    | ((with_reducible apply Within.step ?_ (State.record_within _ _ _ _) ?h1); (case h1 => rfl))
    | ((with_reducible apply Within.step ?_ (State.secDown_within _ _) ?h1); (case h1 => rfl))
    | ((with_reducible apply Within.step ?_ (State.wardFail_within _ _ _) ?h1); (case h1 => rfl))

theorem State.sharedMend_within (s : State) (k : Nat) :
    Within [.sharedMemory, .settRest] [] s (State.sharedMend s k) := by
  unfold State.sharedMend
  try dsimp only
  repeat' first
    | with_reducible apply Within.refl
    | with_reducible assumption
    | with_reducible apply Within.ite ?_ ?_
    | ((with_reducible apply Within.step ?_ (State.setSh_within _ _ _) ?h1); (case h1 => rfl))
    | with_reducible apply Within.each _ _ ?_ (fun _ _ _ _ => ?_)
    | ((with_reducible apply Within.set_settRest _ ?_ ?h1 ?h2 ?h3); (case h1 => rfl); (case h2 => with_reducible rfl); (case h3 => with_reducible rfl))

theorem State.fire_within (s : State) (r : Nat) :
    Within [.settRest, .zither, .feed, .harps, .msix, .recorderRest, .burrow, .twin] ([1856, 1872, 2764, 2781, 3335, 3337, 3339, 3352, 3357, 3742, 3776, 6914] ++ [8064, 8084, 8092, 8094, 8256, 9152, 9280, 9344, 9408]) s (State.fire s r) := by
  unfold State.fire
  try dsimp only
  repeat' first
    | with_reducible apply Within.refl
    | with_reducible assumption
    | with_reducible apply Within.ite ?_ ?_
    | ((with_reducible apply Within.wr _ _ _ ?_ ?h1); (case h1 => rfl))
    | ((with_reducible apply Within.addSat _ _ _ ?_ ?h1); (case h1 => rfl))
    | ((with_reducible apply State.inOneCycle_within ?_ ?h1 (fun _ _ _ => ?_)); (case h1 => rfl))
    | ((with_reducible apply Within.step ?_ (State.harpJudge_within _) ?h1); (case h1 => rfl))
    | ((with_reducible apply Within.step ?_ (State.judgePulls_within _ _) ?h1); (case h1 => rfl))
    | ((with_reducible apply Within.step ?_ (State.recTrigger_within _ _ _ _) ?h1); (case h1 => rfl))
    | ((with_reducible apply Within.step ?_ (State.record_within _ _ _ _) ?h1); (case h1 => rfl))
    | ((with_reducible apply Within.set_settRest _ ?_ ?h1 ?h2 ?h3); (case h1 => rfl); (case h2 => with_reducible rfl); (case h3 => with_reducible rfl))

theorem State.supervise_within (s was : State) (o : Nat) :
    Within [.cooling, .msix, .burrow] [5136, 5147, 5149, 5271, 6914, 9152, 9280, 9344, 9408] s (State.supervise s was o) := by
  unfold State.supervise
  try dsimp only
  repeat' first
    | with_reducible apply Within.refl
    | with_reducible assumption
    | with_reducible apply Within.ite ?_ ?_
    | ((with_reducible apply Within.wr _ _ _ ?_ ?h1); (case h1 => rfl))
    | ((with_reducible apply Within.step ?_ (State.driveAll_within _) ?h1); (case h1 => rfl))
    | ((with_reducible apply Within.step ?_ (State.startCheck_within _ _ _) ?h1); (case h1 => rfl))

theorem State.arm_within (s : State) (via : Via) (m : Manifest) (t : Nat) (full : Bool) :
    Within [.engines, .msix, .hostRest, .secure, .burrow, .twin] [6914, 7048, 7744, 7808, 9152, 9280, 9344, 9408] s (State.arm s via m t full) := by
  unfold State.arm
  try dsimp only
  repeat' first
    | with_reducible apply Within.refl
    | with_reducible assumption
    | with_reducible apply Within.ite ?_ ?_
    | ((with_reducible apply Within.step ?_ (State.finish_within _ _ _ _ _ _) ?h1); (case h1 => rfl))
    | ((with_reducible apply Within.step ?_ (State.record_within _ _ _ _) ?h1); (case h1 => rfl))
    | ((with_reducible apply Within.step ?_ (State.tellTwin_within _ _) ?h1); (case h1 => rfl))
    | ((with_reducible apply Within.set_secure _ ?_ ?h1); (case h1 => rfl))

theorem State.liveCopied_within (s : State) (c : Bool × Nat) (ok : Bool) :
    Within [.engines, .msix, .hostRest, .secure, .burrow, .twin] [6914, 7048, 7744, 7808, 9152, 9280, 9344, 9408] s (State.liveCopied s c ok) := by
  unfold State.liveCopied
  try dsimp only
  repeat' first
    | with_reducible apply Within.refl
    | with_reducible assumption
    | with_reducible apply Within.ite ?_ ?_
    | ((with_reducible apply Within.step ?_ (State.arm_within _ _ _ _ _) ?h1); (case h1 => rfl))
    | ((with_reducible apply Within.step ?_ (State.finish_within _ _ _ _ _ _) ?h1); (case h1 => rfl))
    | split
    | ((with_reducible apply Within.set_secure _ ?_ ?h1); (case h1 => rfl))

theorem State.cancelArmed_within (s : State) (cause : Nat) :
    Within [.msix, .secure, .burrow, .twin] [6914, 9152, 9280, 9344, 9408] s (State.cancelArmed s cause) := by
  unfold State.cancelArmed
  try dsimp only
  repeat' first
    | with_reducible apply Within.refl
    | with_reducible assumption
    | with_reducible apply Within.ite ?_ ?_
    | ((with_reducible apply Within.step ?_ (State.record_within _ _ _ _) ?h1); (case h1 => rfl))
    | ((with_reducible apply Within.step ?_ (State.tellTwin_within _ _) ?h1); (case h1 => rfl))
    | split
    | ((with_reducible apply Within.set_secure _ ?_ ?h1); (case h1 => rfl))

theorem State.autoAgain_within (s : State) :
    Within [.wards] [] s (State.autoAgain s) := by
  unfold State.autoAgain
  try dsimp only
  repeat' first
    | with_reducible apply Within.refl
    | with_reducible assumption
    | with_reducible apply Within.ite ?_ ?_
    | ((with_reducible apply Within.step ?_ (State.setWard_within _ _ _) ?h1); (case h1 => rfl))
    | with_reducible apply Within.each _ _ ?_ (fun _ _ _ _ => ?_)

theorem State.activateLive_within (s : State) (m : Manifest) : Within [.msix, .wards, .secure, .burrow, .twin] [6914, 8920, 8921, 8922, 9152, 9280, 9344, 9408, 9562] s (State.activateLive s m) := by
  unfold State.activateLive
  extract_lets changed s1 c1 w1 s2 t1 s3
  have h1 : Within [.msix, .wards, .secure, .burrow, .twin] [6914, 8920, 8921, 8922, 9152, 9280, 9344, 9408, 9562] s s1 := by
    show Within [.msix, .wards, .secure, .burrow, .twin] [6914, 8920, 8921, 8922, 9152, 9280, 9344, 9408, 9562] s (match s.running? with
      | some b => s.setSlot b { s.slotOf b with active := some m }
      | none => s)
    split
    · exact Within.step (Within.refl _ _ _) (State.setSlot_within s _ _) rfl
    · exact Within.refl _ _ _
  clear_value s1 changed
  have h2 : Within [.msix, .wards, .secure, .burrow, .twin] [6914, 8920, 8921, 8922, 9152, 9280, 9344, 9408, 9562] s s2 := Within.upd (t := s1) h1 rfl (by intro b hb; cases b <;> first | exact absurd (by decide) hb | rfl) id
  clear_value s2
  have h3 : Within [.msix, .wards, .secure, .burrow, .twin] [6914, 8920, 8921, 8922, 9152, 9280, 9344, 9408, 9562] s s3 := Within.ite (h2.set_twin _ rfl) h2
  have h4 := Within.step h3 (State.autoAgain_within s3) rfl
  exact Within.step (Within.step (((h4.wr _ _ _ rfl).wr _ _ _ rfl).wr _ _ _ rfl) (State.record_within _ _ _ _) rfl) (State.judgeMatch_within _ _) rfl

theorem State.activateFull_within (s : State) (a : Armed) :
    Within [.msix, .wards, .secure, .burrow] [6914, 9152, 9280, 9344, 9408] s (State.activateFull s a) := by
  unfold State.activateFull
  try dsimp only
  repeat' first
    | with_reducible apply Within.refl
    | with_reducible assumption
    | with_reducible apply Within.ite ?_ ?_
    | ((with_reducible apply Within.step ?_ (State.autoAgain_within _) ?h1); (case h1 => rfl))
    | ((with_reducible apply Within.step ?_ (State.record_within _ _ _ _) ?h1); (case h1 => rfl))
    | ((with_reducible apply Within.step ?_ (State.setSlot_within _ _ _) ?h1); (case h1 => rfl))
    | ((with_reducible apply Within.set_secure _ ?_ ?h1); (case h1 => rfl))

theorem State.drawChallenge_within (s : State) :
    Within [.secure] [8768] s (State.drawChallenge s) := by
  unfold State.drawChallenge
  try dsimp only
  repeat' first
    | with_reducible apply Within.refl
    | with_reducible assumption
    | with_reducible apply Within.ite ?_ ?_
    | ((with_reducible apply Within.wr _ _ _ ?_ ?h1); (case h1 => rfl))
    | with_reducible apply Within.each _ _ ?_ (fun _ _ _ _ => ?_)
    | ((with_reducible apply Within.set_secure _ ?_ ?h1); (case h1 => rfl))

theorem State.debugUnlock_within (s t : State) (path : Nat) (h : s.debugUnlock path = some t) : Within [.msix, .ports, .wards, .burrow] [6042, 6914, 8646, 9152, 9280, 9344, 9408] s t := by
  unfold State.debugUnlock at h
  split at h
  · cases h
    exact (Within.step (Within.each _ _ (Within.refl _ _ _) fun _ _ u hu => Within.step hu (State.secDown_within _ _) rfl)
      (State.record_within _ _ _ _) rfl).wr _ _ _ rfl
  · cases h

theorem State.defectShrink_within (s u : State) (t : Token) (h : s.defectShrink t = some u) : Within [.msix, .wards, .burrow] [6914, 9152, 9280, 9344, 9408] s u := by
  unfold State.defectShrink at h
  split at h
  · cases h
  · extract_lets gone at h
    split at h
    · cases h
    · cases h
      exact Within.step (Within.step (Within.refl _ _ _) (State.softAppend_within s _) rfl) (State.record_within _ _ _ _) rfl

theorem State.ownerClear_within (s : State) :
    Within [.msix, .secure, .burrow] [6914, 9152, 9280, 9344, 9408] s (State.ownerClear s) := by
  unfold State.ownerClear
  try dsimp only
  repeat' first
    | with_reducible apply Within.refl
    | with_reducible assumption
    | with_reducible apply Within.ite ?_ ?_
    | ((with_reducible apply Within.step ?_ (State.record_within _ _ _ _) ?h1); (case h1 => rfl))
    | ((with_reducible apply Within.set_secure _ ?_ ?h1); (case h1 => rfl))

theorem State.applyRight_within (s u : State) (t : Token) (path k : Nat) (h : s.applyRight t path k = some u) : Within [.msix, .ports, .wards, .secure, .burrow, .twin] [3335, 3337, 3339, 3357, 6042, 6914, 8646, 9152, 9280, 9344, 9408] s u := by
  unfold State.applyRight at h
  split at h
  · exact Within.step (Within.refl _ _ _) (State.debugUnlock_within s u path h) rfl
  · exact Within.step (Within.refl _ _ _) (State.feedClear_within s u 1 h) rfl
  · exact Within.step (Within.refl _ _ _) (State.defectShrink_within s u t h) rfl
  · cases h
    exact Within.step (Within.refl _ _ _) (State.ownerClear_within s) rfl

theorem State.applyRights_within (s : State) (t : Token) (path : Nat) (l : List Nat) : Within [.msix, .ports, .wards, .secure, .burrow, .twin] [3335, 3337, 3339, 3357, 6042, 6914, 8646, 9152, 9280, 9344, 9408] s (State.applyRights s t path l).1 := by
  induction l generalizing s with
  | nil => exact Within.refl _ _ _
  | cons k l ih =>
    unfold State.applyRights
    split
    · rename_i u h
      exact Within.step (State.applyRight_within s u t path k h) (ih u) rfl
    · exact ih s

theorem State.useToken_within (s : State) (t : Token) (path : Nat) (ask : Nat) :
    Within [.msix, .ports, .wards, .secure, .burrow, .twin] [3335, 3337, 3339, 3357, 6042, 6914, 8646, 8768, 9152, 9280, 9344, 9408] s (State.useToken s t path ask).1 := by
  unfold State.useToken
  try dsimp only
  repeat' first
    | with_reducible apply Within.refl
    | with_reducible assumption
    | with_reducible apply Within.ite ?_ ?_
    | ((with_reducible apply Within.step ?_ (State.applyRights_within _ _ _ _) ?h1); (case h1 => rfl))
    | ((with_reducible apply Within.step ?_ (State.drawChallenge_within _) ?h1); (case h1 => rfl))
    | ((with_reducible apply Within.step ?_ (State.record_within _ _ _ _) ?h1); (case h1 => rfl))

theorem State.restore_within (s : State) : Within [.burrow] [832, 833, 1024, 1088] s (State.restore s) := by
  have hr : ∀ (acc sat : Fld) (m stored : Nat) (u : State), Within [.burrow] [832, 833, 1024, 1088] s u →
      (([acc, sat].all fun f => ([832, 833, 1024, 1088] : List Nat).contains f.code && f.ok) = true) → Within [.burrow] [832, 833, 1024, 1088] s (u.restoreAcc acc sat m stored) := by
    intro acc sat m stored u hu hf
    simp only [List.all_cons, List.all_nil, Bool.and_true, Bool.and_eq_true] at hf
    exact Within.ite ((hu.wr _ _ _ (by simpa using hf.1)).wr _ _ _ (by simpa using hf.2)) (hu.wr _ _ _ (by simpa using hf.1))
  unfold State.restore
  exact Within.each _ _ (Within.set_burrow _ (Within.refl _ _ s) rfl id) fun _ _ u hu => hr _ _ _ _ _ (hr _ _ _ _ _ hu rfl) rfl

theorem State.scanBurrow_within (s : State) :
    Within [.msix, .burrow] [6914, 9088, 9152, 9280, 9344, 9408] s (State.scanBurrow s) := by
  unfold State.scanBurrow
  try dsimp only
  repeat' first
    | with_reducible apply Within.refl
    | with_reducible assumption
    | with_reducible apply Within.ite ?_ ?_
    | ((with_reducible apply Within.wr _ _ _ ?_ ?h1); (case h1 => rfl))
    | ((with_reducible apply Within.step ?_ (State.record_within _ _ _ _) ?h1); (case h1 => rfl))
    | ((with_reducible apply Within.set_burrow _ ?_ ?h1 ?h2); (case h1 => rfl); (case h2 => intro hb; first | exact hb | rfl))

theorem State.judgeWindows_within (s : State) (c word : Nat) :
    Within [.sense] [576, 577, 578, 579] s (State.judgeWindows s c word) := by
  unfold State.judgeWindows
  try dsimp only
  repeat' first
    | with_reducible apply Within.refl
    | with_reducible assumption
    | with_reducible apply Within.ite ?_ ?_
    | ((with_reducible apply Within.step ?_ (State.clearLevels_within _ _) ?h1); (case h1 => rfl))
    | ((with_reducible apply Within.step ?_ (State.freezeWindow_within _ _) ?h1); (case h1 => rfl))
    | ((with_reducible apply Within.step ?_ (State.judgeWindow_within _ _ _) ?h1); (case h1 => rfl))

theorem State.markAbsent_within (s : State) (c : Nat) (gone : Bool) :
    Within [] [199, 202, 204] s (State.markAbsent s c gone) := by
  unfold State.markAbsent
  try dsimp only
  repeat' first
    | with_reducible apply Within.refl
    | with_reducible assumption
    | with_reducible apply Within.ite ?_ ?_
    | ((with_reducible apply Within.wr _ _ _ ?_ ?h1); (case h1 => rfl))
    | ((with_reducible apply Within.wrBit _ _ _ ?_ ?h1); (case h1 => rfl))

theorem State.arrive_within (s : State) (c ap : Nat) (r : SampleRead) :
    Within [.sense] [199, 201, 202, 204, 320, 336, 576, 577, 578, 579] s (State.arrive s c ap r) := by
  unfold State.arrive
  try dsimp only
  repeat' first
    | with_reducible apply Within.refl
    | with_reducible assumption
    | with_reducible apply Within.ite ?_ ?_
    | ((with_reducible apply Within.wr _ _ _ ?_ ?h1); (case h1 => rfl))
    | ((with_reducible apply Within.step ?_ (State.judgeWindows_within _ _ _) ?h1); (case h1 => rfl))
    | ((with_reducible apply Within.step ?_ (State.markAbsent_within _ _ _) ?h1); (case h1 => rfl))
    | ((with_reducible apply Within.step ?_ (State.setChan_within _ _ _) ?h1); (case h1 => rfl))

theorem State.fanOut_within (s : State) (c ap : Nat) (was : Bool × Bool × Bool) :
    Within [.sense, .zither, .feed, .marten, .cooling, .msix, .hostRest, .hbm, .recorderRest, .burrow, .twin] ([832, 833, 896, 1024, 1088, 2764, 2781, 3335, 3337, 3339, 3352, 3357] ++ [3392, 4831, 4864, 5888, 5916, 5918, 6914, 9152, 9280, 9344, 9408]) s (State.fanOut s c ap was) := by
  unfold State.fanOut
  try dsimp only
  repeat' first
    | with_reducible apply Within.refl
    | with_reducible assumption
    | with_reducible apply Within.ite ?_ ?_
    | ((with_reducible apply Within.step ?_ (State.feedSample_within _ _ _ _) ?h1); (case h1 => rfl))
    | ((with_reducible apply Within.step ?_ (State.feedSubs_within _ _ _ _ _) ?h1); (case h1 => rfl))
    | ((with_reducible apply Within.step ?_ (State.ingest_within _ _ _ _ _) ?h1); (case h1 => rfl))
    | ((with_reducible apply Within.step ?_ (State.meterSample_within _ _ _ _ _) ?h1); (case h1 => rfl))
    | ((with_reducible apply Within.step ?_ (State.noteCurrent_within _ _ _) ?h1); (case h1 => rfl))
    | ((with_reducible apply Within.step ?_ (State.noteLeak_within _ _ _) ?h1); (case h1 => rfl))
    | ((with_reducible apply Within.step ?_ (State.recSample_within _ _ _ _) ?h1); (case h1 => rfl))
    | with_reducible apply Within.each _ _ ?_ (fun _ _ _ _ => ?_)

theorem State.stageOk_within (s : State) (g : Staging) :
    Within [.msix, .hostRest, .burrow] [6914, 7048, 7744, 7808, 9152, 9280, 9344, 9408] s (State.stageOk s g) := by
  unfold State.stageOk
  try dsimp only
  repeat' first
    | with_reducible apply Within.refl
    | with_reducible assumption
    | with_reducible apply Within.ite ?_ ?_
    | ((with_reducible apply Within.step ?_ (State.finish_within _ _ _ _ _ _) ?h1); (case h1 => rfl))
    | ((with_reducible apply Within.step ?_ (State.record_within _ _ _ _) ?h1); (case h1 => rfl))

theorem State.tickSubs_within (s : State) :
    Within [.hostRest] [] s (State.tickSubs s) := by
  unfold State.tickSubs
  try dsimp only
  repeat' first
    | with_reducible apply Within.refl
    | with_reducible assumption
    | with_reducible apply Within.ite ?_ ?_
    | split
    | ((with_reducible apply Within.set_hostRest _ ?_ ?h1 ?h2); (case h1 => rfl); (case h2 => with_reducible rfl))

theorem State.residency_within (s : State) :
    Within [] [3968] s (State.residency s) := by
  unfold State.residency
  try dsimp only
  repeat' first
    | with_reducible apply Within.refl
    | with_reducible assumption
    | with_reducible apply Within.ite ?_ ?_
    | ((with_reducible apply Within.addWrap _ _ _ ?_ ?h1); (case h1 => rfl))
    | with_reducible apply Within.each _ _ ?_ (fun _ _ _ _ => ?_)

theorem State.syncPorts_within (s : State) :
    Within [.ports] [] s (State.syncPorts s) := by
  unfold State.syncPorts
  try dsimp only
  repeat' first
    | with_reducible apply Within.refl
    | with_reducible assumption
    | with_reducible apply Within.ite ?_ ?_
    | ((with_reducible apply Within.step ?_ (State.drainTx_within _) ?h1); (case h1 => rfl))
    | ((with_reducible apply Within.step ?_ (State.setPort_within _ _ _) ?h1); (case h1 => rfl))
    | with_reducible apply Within.each _ _ ?_ (fun _ _ _ _ => ?_)

theorem State.countFec_within (s : State) (l : List FecCount) :
    Within [.ports] [6336, 6400] s (State.countFec s l) := by
  unfold State.countFec
  try dsimp only
  repeat' first
    | with_reducible apply Within.refl
    | with_reducible assumption
    | with_reducible apply Within.ite ?_ ?_
    | ((with_reducible apply Within.addSat _ _ _ ?_ ?h1); (case h1 => rfl))
    | ((with_reducible apply Within.step ?_ (State.setPort_within _ _ _) ?h1); (case h1 => rfl))
    | with_reducible apply Within.each _ _ ?_ (fun _ _ _ _ => ?_)

theorem State.alvTick_within (s : State) (edge : Bool) :
    Within [.twin] [9564] s (State.alvTick s edge) := by
  unfold State.alvTick
  try dsimp only
  repeat' first
    | with_reducible apply Within.refl
    | with_reducible assumption
    | with_reducible apply Within.ite ?_ ?_
    | ((with_reducible apply Within.wrBit _ _ _ ?_ ?h1); (case h1 => rfl))
    | split
    | ((with_reducible apply Within.set_twin _ ?_ ?h1); (case h1 => rfl))

theorem State.twinFrames_within (s : State) :
    Within [.twin] [] s (State.twinFrames s) := by
  unfold State.twinFrames
  try dsimp only
  repeat' first
    | with_reducible apply Within.refl
    | with_reducible assumption
    | with_reducible apply Within.ite ?_ ?_
    | ((with_reducible apply Within.step ?_ (State.tellTwin_within _ _) ?h1); (case h1 => rfl))
    | split
    | ((with_reducible apply Within.set_twin _ ?_ ?h1); (case h1 => rfl))

theorem State.slewTick_within (s : State) :
    Within [.twin] [] s (State.slewTick s) := by
  unfold State.slewTick
  try dsimp only
  repeat' first
    | with_reducible apply Within.refl
    | with_reducible assumption
    | with_reducible apply Within.ite ?_ ?_
    | ((with_reducible apply Within.set_twin _ ?_ ?h1); (case h1 => rfl))

theorem State.eventTick_within (s : State) :
    Within [.msix, .burrow] [6914] s (State.eventTick s) := by
  unfold State.eventTick
  try dsimp only
  repeat' first
    | with_reducible apply Within.refl
    | with_reducible assumption
    | with_reducible apply Within.ite ?_ ?_
    | ((with_reducible apply Within.step ?_ (State.eventInt_within _) ?h1); (case h1 => rfl))

theorem State.firmwareActs_within (s : State) (a : FirmwareActs) :
    Within [.part, .sense] [] s (State.firmwareActs s a) := by
  unfold State.firmwareActs
  try dsimp only
  repeat' first
    | with_reducible apply Within.refl
    | with_reducible assumption
    | with_reducible apply Within.ite ?_ ?_
    | with_reducible apply Within.when _ _ ?_ ?_
    | split
    | ((with_reducible apply Within.lit ?tt ?_ ?h1 ?h2 ?h3 ?h4); (case h1 => with_reducible rfl); (case h2 => intro b hb; cases b <;> first | exact absurd (by decide) hb | rfl); (case h3 => exact id); (case h4 => intro hb; first | exact hb | rfl))

theorem State.twinHeard_within (s : State) :
    Within [.twin] [] s (State.twinHeard s) := by
  unfold State.twinHeard
  try dsimp only
  repeat' first
    | with_reducible apply Within.refl
    | with_reducible assumption
    | with_reducible apply Within.ite ?_ ?_
    | ((with_reducible apply Within.set_twin _ ?_ ?h1); (case h1 => rfl))

theorem State.setRole_within (s : State) (role : Nat) :
    Within [.part, .harps, .cooling, .msix, .burrow] ([3742, 3776, 3911, 4096, 5136, 5147, 5149, 5271, 5279, 6874, 6914, 9152] ++ [9280, 9344, 9408, 9566]) s (State.setRole s role) := by
  unfold State.setRole
  try dsimp only
  repeat' first
    | with_reducible apply Within.refl
    | with_reducible assumption
    | with_reducible apply Within.ite ?_ ?_
    | ((with_reducible apply Within.wr _ _ _ ?_ ?h1); (case h1 => rfl))
    | ((with_reducible apply Within.wrBit _ _ _ ?_ ?h1); (case h1 => rfl))
    | ((with_reducible apply Within.step ?_ (State.driveAll_within _) ?h1); (case h1 => rfl))
    | ((with_reducible apply Within.step ?_ (State.harpJudge_within _) ?h1); (case h1 => rfl))
    | ((with_reducible apply Within.step ?_ (State.setHarp_within _ _ _) ?h1); (case h1 => rfl))
    | with_reducible apply Within.each _ _ ?_ (fun _ _ _ _ => ?_)
    | ((with_reducible apply Within.set_part _ ?_ ?h1); (case h1 => rfl))

theorem State.conflict_within (s : State) (p : TwinPeer) (row : Nat) :
    Within [.msix, .burrow] [6914, 9152, 9280, 9344, 9408] s (State.conflict s p row) := by
  unfold State.conflict
  try dsimp only
  repeat' first
    | with_reducible apply Within.refl
    | with_reducible assumption
    | with_reducible apply Within.ite ?_ ?_
    | ((with_reducible apply Within.step ?_ (State.record_within _ _ _ _) ?h1); (case h1 => rfl))

theorem State.adoptIns_within (s : State) (v : Nat) :
    Within [.feed] [3357, 3392] s (State.adoptIns s v) := by
  unfold State.adoptIns
  try dsimp only
  repeat' first
    | with_reducible apply Within.refl
    | with_reducible assumption
    | with_reducible apply Within.ite ?_ ?_
    | ((with_reducible apply Within.wr _ _ _ ?_ ?h1); (case h1 => rfl))
    | ((with_reducible apply Within.step ?_ (State.ghsLow_within _) ?h1); (case h1 => rfl))
    | ((with_reducible apply Within.step ?_ (State.rampStart_within _) ?h1); (case h1 => rfl))
    | ((with_reducible apply Within.set_feed _ ?_ ?h1); (case h1 => rfl))

theorem State.adopt_within (s : State) (a : TwinAdopt) :
    Within [.zither, .feed] [2764, 2781, 3339, 3357, 3392] s (State.adopt s a) := by
  unfold State.adopt
  try dsimp only
  repeat' first
    | with_reducible apply Within.refl
    | with_reducible assumption
    | with_reducible apply Within.ite ?_ ?_
    | ((with_reducible apply Within.wr _ _ _ ?_ ?h1); (case h1 => rfl))
    | ((with_reducible apply Within.step ?_ (State.adoptIns_within _ _) ?h1); (case h1 => rfl))
    | ((with_reducible apply Within.step ?_ (State.setZent_within _ _ _) ?h1); (case h1 => rfl))
    | ((with_reducible apply Within.step ?_ (State.setZgrp_within _ _ _) ?h1); (case h1 => rfl))
    | with_reducible apply Within.each _ _ ?_ (fun _ _ _ _ => ?_)

theorem State.join_within (s : State) (p : TwinPeer) (a : TwinAdopt) (row role : Nat) :
    Within [.part, .zither, .feed, .harps, .cooling, .msix, .burrow, .twin] ([2764, 2781, 3339, 3357, 3392, 3742, 3776, 3911, 4096, 5136, 5147, 5149] ++ [5271, 5279, 6874, 6914, 9152, 9280, 9344, 9408, 9561, 9562, 9563, 9566]) s (State.join s p a row role) := by
  unfold State.join
  try dsimp only
  repeat' first
    | with_reducible apply Within.refl
    | with_reducible assumption
    | with_reducible apply Within.ite ?_ ?_
    | ((with_reducible apply Within.wr _ _ _ ?_ ?h1); (case h1 => rfl))
    | ((with_reducible apply Within.step ?_ (State.adopt_within _ _) ?h1); (case h1 => rfl))
    | ((with_reducible apply Within.step ?_ (State.conflict_within _ _ _) ?h1); (case h1 => rfl))
    | ((with_reducible apply Within.step ?_ (State.judgeMatch_within _ _) ?h1); (case h1 => rfl))
    | ((with_reducible apply Within.step ?_ (State.record_within _ _ _ _) ?h1); (case h1 => rfl))
    | ((with_reducible apply Within.step ?_ (State.setRole_within _ _) ?h1); (case h1 => rfl))
    | split
    | ((with_reducible apply Within.set_twin _ ?_ ?h1); (case h1 => rfl))

theorem State.leaveRamp_within (s : State) :
    Within [.twin] [3357] s (State.leaveRamp s) := by
  unfold State.leaveRamp
  try dsimp only
  repeat' first
    | with_reducible apply Within.refl
    | with_reducible assumption
    | with_reducible apply Within.ite ?_ ?_
    | ((with_reducible apply Within.step ?_ (State.setIns_within _ _) ?h1); (case h1 => rfl))

theorem State.takeover_within (s : State) (cause : Nat) : Within [.part, .engines, .settRest, .zither, .harps, .cooling, .msix, .hostRest, .ports, .wards, .burrow, .twin] ([1280, 2755, 2764, 2768, 2781, 2828, 2832, 2944, 3357, 3656, 3742, 3776] ++ [3909, 3911, 4096, 5136, 5147, 5149, 5271, 5279, 5952, 6016, 6024, 6032] ++ [6045, 6144, 6238, 6300, 6301, 6874, 6914, 7048, 7744, 7808, 9152, 9280] ++ [9344, 9408, 9536, 9561, 9563, 9566]) s (State.takeover s cause) := by
  unfold State.takeover
  extract_lets t1 s1 s2 s3 p1 s4 s5
  have h1 : Within [.part, .engines, .settRest, .zither, .harps, .cooling, .msix, .hostRest, .ports, .wards, .burrow, .twin] ([1280, 2755, 2764, 2768, 2781, 2828, 2832, 2944, 3357, 3656, 3742, 3776] ++ [3909, 3911, 4096, 5136, 5147, 5149, 5271, 5279, 5952, 6016, 6024, 6032] ++ [6045, 6144, 6238, 6300, 6301, 6874, 6914, 7048, 7744, 7808, 9152, 9280] ++ [9344, 9408, 9536, 9561, 9563, 9566]) s s1 := Within.upd (Within.refl _ _ s) rfl (by intro b hb; cases b <;> first | exact absurd (by decide) hb | rfl) id
  clear_value s1
  have h2 : Within [.part, .engines, .settRest, .zither, .harps, .cooling, .msix, .hostRest, .ports, .wards, .burrow, .twin] ([1280, 2755, 2764, 2768, 2781, 2828, 2832, 2944, 3357, 3656, 3742, 3776] ++ [3909, 3911, 4096, 5136, 5147, 5149, 5271, 5279, 5952, 6016, 6024, 6032] ++ [6045, 6144, 6238, 6300, 6301, 6874, 6914, 7048, 7744, 7808, 9152, 9280] ++ [9344, 9408, 9536, 9561, 9563, 9566]) s s2 := Within.step ((h1.wr _ _ _ rfl).wr _ _ _ rfl) (State.setRole_within _ 1) rfl
  clear_value s2
  have h3 : Within [.part, .engines, .settRest, .zither, .harps, .cooling, .msix, .hostRest, .ports, .wards, .burrow, .twin] ([1280, 2755, 2764, 2768, 2781, 2828, 2832, 2944, 3357, 3656, 3742, 3776] ++ [3909, 3911, 4096, 5136, 5147, 5149, 5271, 5279, 5952, 6016, 6024, 6032] ++ [6045, 6144, 6238, 6300, 6301, 6874, 6914, 7048, 7744, 7808, 9152, 9280] ++ [9344, 9408, 9536, 9561, 9563, 9566]) s s3 := Within.each _ _ h2 fun w _ u hu => by
    split
    · exact Within.step hu (State.avsCommit_within _ _ _) rfl
    · exact hu
  clear_value s3
  have h4 : Within [.part, .engines, .settRest, .zither, .harps, .cooling, .msix, .hostRest, .ports, .wards, .burrow, .twin] ([1280, 2755, 2764, 2768, 2781, 2828, 2832, 2944, 3357, 3656, 3742, 3776] ++ [3909, 3911, 4096, 5136, 5147, 5149, 5271, 5279, 5952, 6016, 6024, 6032] ++ [6045, 6144, 6238, 6300, 6301, 6874, 6914, 7048, 7744, 7808, 9152, 9280] ++ [9344, 9408, 9536, 9561, 9563, 9566]) s s4 := Within.step (h3.set_part _ rfl) (State.leaveRamp_within _) rfl
  clear_value s4
  have h5 : Within [.part, .engines, .settRest, .zither, .harps, .cooling, .msix, .hostRest, .ports, .wards, .burrow, .twin] ([1280, 2755, 2764, 2768, 2781, 2828, 2832, 2944, 3357, 3656, 3742, 3776] ++ [3909, 3911, 4096, 5136, 5147, 5149, 5271, 5279, 5952, 6016, 6024, 6032] ++ [6045, 6144, 6238, 6300, 6301, 6874, 6914, 7048, 7744, 7808, 9152, 9280] ++ [9344, 9408, 9536, 9561, 9563, 9566]) s s5 := Within.each _ _ h4 fun w _ u hu => Within.ite (Within.step hu (State.wardFail_within _ _ _) rfl) hu
  exact Within.step (h5.addSat _ _ _ rfl) (State.record_within _ _ _ _) rfl

theorem State.measure_within (s : State) (o : Int) :
    Within [.twin] [9664, 9680] s (State.measure s o) := by
  unfold State.measure
  try dsimp only
  repeat' first
    | with_reducible apply Within.refl
    | with_reducible assumption
    | with_reducible apply Within.ite ?_ ?_
    | ((with_reducible apply Within.wr _ _ _ ?_ ?h1); (case h1 => rfl))
    | ((with_reducible apply Within.set_twin _ ?_ ?h1); (case h1 => rfl))

theorem State.applyCmd_within (s : State) (c : TwinCmd) (held : Option Manifest) :
    Within [.part, .engines, .settRest, .zither, .feed, .harps, .cooling, .msix, .hostRest, .ports, .wards, .secure, .burrow, .twin] ([1280, 2755, 2756, 2764, 2768, 2781, 2828, 2832, 2944, 3339, 3352, 3357] ++ [3392, 3656, 3742, 3776, 3909, 3911, 4096, 5136, 5147, 5149, 5271, 5279] ++ [5952, 6016, 6024, 6032, 6045, 6144, 6238, 6300, 6301, 6874, 6914, 7048] ++ [7744, 7808, 9152, 9280, 9344, 9408, 9536, 9561, 9562, 9563, 9566]) s (State.applyCmd s c held) := by
  unfold State.applyCmd
  try dsimp only
  repeat' first
    | with_reducible apply Within.refl
    | with_reducible assumption
    | with_reducible apply Within.ite ?_ ?_
    | ((with_reducible apply Within.wr _ _ _ ?_ ?h1); (case h1 => rfl))
    | ((with_reducible apply Within.step ?_ (State.adoptIns_within _ _) ?h1); (case h1 => rfl))
    | ((with_reducible apply Within.step ?_ (State.goDown_within _ _ _) ?h1); (case h1 => rfl))
    | ((with_reducible apply Within.step ?_ (State.harpJudge_within _) ?h1); (case h1 => rfl))
    | ((with_reducible apply Within.step ?_ (State.judgeMatch_within _ _) ?h1); (case h1 => rfl))
    | ((with_reducible apply Within.step ?_ (State.record_within _ _ _ _) ?h1); (case h1 => rfl))
    | ((with_reducible apply Within.step ?_ (State.setWard_within _ _ _) ?h1); (case h1 => rfl))
    | ((with_reducible apply Within.step ?_ (State.setZgrp_within _ _ _) ?h1); (case h1 => rfl))
    | ((with_reducible apply Within.step ?_ (State.startAt_within _ _ _) ?h1); (case h1 => rfl))
    | ((with_reducible apply Within.step ?_ (State.startUp_within _ _) ?h1); (case h1 => rfl))
    | ((with_reducible apply Within.step ?_ (State.takeover_within _ _) ?h1); (case h1 => rfl))
    | ((with_reducible apply Within.step ?_ (State.tripTold_within _ _ _) ?h1); (case h1 => rfl))
    | split
    | ((with_reducible apply Within.set_secure _ ?_ ?h1); (case h1 => rfl))
    | ((with_reducible apply Within.set_twin _ ?_ ?h1); (case h1 => rfl))

theorem State.takeCmd_within (s : State) (seq : Nat) :
    Within [.twin] [] s (State.takeCmd s seq) := by
  unfold State.takeCmd
  try dsimp only
  repeat' first
    | with_reducible apply Within.refl
    | with_reducible assumption
    | with_reducible apply Within.ite ?_ ?_
    | ((with_reducible apply Within.step ?_ (State.twinHeard_within _) ?h1); (case h1 => rfl))
    | ((with_reducible apply Within.set_twin _ ?_ ?h1); (case h1 => rfl))

theorem State.wardUp_within (s : State) (w : Nat) :
    Within [.engines, .settRest, .zither, .harps, .msix, .ports, .wards, .burrow, .twin] ([1280, 2755, 2768, 2781, 2828, 2832, 2944, 3656, 3742, 3776, 5952, 6024] ++ [6032, 6045, 6238, 6300, 6301, 6914, 9152, 9280, 9344, 9408]) s (State.wardUp s w) := by
  unfold State.wardUp
  try dsimp only
  repeat' first
    | with_reducible apply Within.refl
    | with_reducible assumption
    | with_reducible apply Within.ite ?_ ?_
    | ((with_reducible apply Within.step ?_ (State.setWard_within _ _ _) ?h1); (case h1 => rfl))
    | ((with_reducible apply Within.step ?_ (State.wardPower_within _ _ _) ?h1); (case h1 => rfl))

theorem State.wardResume_within (s : State) (w : Nat) :
    Within [.engines, .settRest, .zither, .harps, .msix, .hostRest, .ports, .wards, .burrow, .twin] ([1280, 2755, 2764, 2768, 2781, 2828, 2832, 2944, 3656, 3742, 3776, 5952] ++ [6016, 6024, 6032, 6045, 6144, 6238, 6300, 6301, 6914, 7048, 7744, 7808] ++ [9152, 9280, 9344, 9408]) s (State.wardResume s w) := by
  unfold State.wardResume
  try dsimp only
  repeat' first
    | with_reducible apply Within.refl
    | with_reducible assumption
    | with_reducible apply Within.ite ?_ ?_
    | ((with_reducible apply Within.step ?_ (State.beginStep_within _ _) ?h1); (case h1 => rfl))
    | ((with_reducible apply Within.step ?_ (State.identify_within _ _) ?h1); (case h1 => rfl))
    | ((with_reducible apply Within.step ?_ (State.portEnable_within _ _) ?h1); (case h1 => rfl))
    | ((with_reducible apply Within.step ?_ (State.setWard_within _ _ _) ?h1); (case h1 => rfl))
    | ((with_reducible apply Within.step ?_ (State.wardEnter_within _ _ _) ?h1); (case h1 => rfl))

theorem State.dmaOut_within (s : State) (via : Via) (l : List Byte) :
    Within [.hostRest] [] s (State.dmaOut s via l) := by
  unfold State.dmaOut
  try dsimp only
  repeat' first
    | with_reducible apply Within.refl
    | with_reducible assumption
    | with_reducible apply Within.ite ?_ ?_
    | split
    | ((with_reducible apply Within.set_hostRest _ ?_ ?h1 ?h2); (case h1 => rfl); (case h2 => with_reducible rfl))


end Sys2Proof.Machine
end

