-- ==== Sys2Proof/Laws/Commands.lean ====
section
/-!
SUPPORT. One lemma for each command: the parts and the register fields that it may change, whatever the state and the operands. The commands that
a power-on reset may end in, and the plain register writes, are in Laws/Keeps.lean.
-/
set_option linter.unusedVariables false
namespace Sys2Proof.Machine
set_option Elab.async false

/-- What an instruction may do: its effect on the engine that has advanced, within a frame that holds what a fault does. -/
theorem State.issue_out (s : State) (n : Nat) (op : EngOp) (f : Engine → State → Eff) {bs : List Block} {cs : List Nat}
    (hc : covers bs [.engines, .sharedMemory, .settRest, .marten, .msix, .burrow] cs ([4224, 4225, 4226, 4227, 4288, 4312, 4352, 4416, 4432, 4480, 4510, 4511] ++ [4928, 4942, 4944, 4952, 6914, 8208, 8384, 8443, 8444, 8447, 9152, 9280] ++ [9344, 9408]) = true)
    (hf : ∀ e u t, Within bs cs s u → f e u = .done t → Within bs cs s t) : OutWithin bs cs s (State.issue s n op f) := by
  have hs : Within bs cs s s := Within.refl _ _ s
  have up : ∀ t, Within [.engines, .sharedMemory, .settRest, .marten, .msix, .burrow] ([4224, 4225, 4226, 4227, 4288, 4312, 4352, 4416, 4432, 4480, 4510, 4511] ++ [4928, 4942, 4944, 4952, 6914, 8208, 8384, 8443, 8444, 8447, 9152, 9280] ++ [9344, 9408]) s t → Within bs cs s t := fun t h => Within.step hs h hc
  have flt : ∀ cause, Within [.engines, .sharedMemory, .settRest, .marten, .msix, .burrow] ([4224, 4225, 4226, 4227, 4288, 4312, 4352, 4416, 4432, 4480, 4510, 4511] ++ [4928, 4942, 4944, 4952, 6914, 8208, 8384, 8443, 8444, 8447, 9152, 9280] ++ [9344, 9408]) s (s.engFault n cause) := fun cause => Within.step (Within.refl _ _ _) (State.engFault_within s n cause) rfl
  unfold State.issue
  extract_lets e
  refine OutWithin.doIf ?_
  split
  · exact up _ (flt _)
  · refine Within.ite hs (Within.ite (up _ (flt _)) ?_)
    split
    · rename_i t h
      exact hf _ _ t (up _ (Within.step (Within.refl _ _ _) (State.setEngine_within s n _) rfl)) h
    · exact up _ (flt _)
    · exact up _ (Within.step (Within.refl _ _ _) (State.engUncorr_within s n _) rfl)

/-- An instruction that only changes its engine stays within the frame of a fault. -/
theorem State.issueEngine_out (s : State) (n : Nat) (op : EngOp) (f : Engine → Option Engine) :
    OutWithin [.engines, .sharedMemory, .settRest, .marten, .msix, .burrow] ([4224, 4225, 4226, 4227, 4288, 4312, 4352, 4416, 4432, 4480, 4510, 4511] ++ [4928, 4942, 4944, 4952, 6914, 8208, 8384, 8443, 8444, 8447, 9152, 9280] ++ [9344, 9408]) s (State.issueEngine s n op f) := by
  unfold State.issueEngine
  refine State.issue_out s n op _ rfl fun e u t hu ht => ?_
  split at ht
  · cases ht; exact Within.step hu (State.setEngine_within u n _) rfl
  · cases ht

theorem State.issueAlu_out (s : State) (n : Nat) (op : EngOp) (rd ra rb : BitVec 4) : OutWithin [.engines, .sharedMemory, .settRest, .marten, .msix, .burrow] ([4224, 4225, 4226, 4227, 4288, 4312, 4352, 4416, 4432, 4480, 4510, 4511] ++ [4928, 4942, 4944, 4952, 6914, 8208, 8384, 8443, 8444, 8447, 9152, 9280] ++ [9344, 9408]) s (State.issueAlu s n op rd ra rb) :=
  State.issueEngine_out s n op _

theorem execEngYld_out (n : Nat) (s : State) : OutWithin [.engines, .sharedMemory, .settRest, .zither, .feed, .harps, .marten, .cooling, .msix, .hostRest, .ports, .lasers, .wards, .burrow, .twin] ([2257, 2764, 2781, 3335, 3337, 3339, 3352, 3357, 3742, 3776, 3909, 3911] ++ [4224, 4225, 4226, 4227, 4288, 4312, 4352, 4416, 4432, 4480, 4510, 4511] ++ [4928, 4942, 4944, 4952, 6016, 6299, 6300, 6301, 6914, 7048, 7744, 7808] ++ [8208, 8384, 8443, 8444, 8447, 9152, 9280, 9344, 9408]) s (execEngYld n s) := by
  unfold execEngYld
  refine State.issue_out s n _ _ rfl fun e u t hu ht => ?_
  split at ht
  · cases ht
  · cases ht
    refine Within.each _ _ (State.inOneCycle_within (Within.step hu (State.setEngine_within u n _) rfl) rfl fun r v hv => ?_) fun w _ v hv => ?_
    · exact Within.step hv (State.commitQueue_within v n _ _ _) rfl
    · exact Within.step hv (State.commitStore_within _ _) rfl

theorem execSettTickBoundary_out (k : Nat) (half : Bool) (upsets : List Upset) (s : State) :
    OutWithin [.engines, .sharedMemory, .settRest, .zither, .feed, .harps, .cooling, .msix, .hostRest, .ports, .lasers, .wards, .burrow, .twin] ([1280, 2257, 2764, 2781, 3335, 3337, 3339, 3352, 3357, 3742, 3776, 3909] ++ [3911, 6016, 6299, 6300, 6301, 6914, 7048, 7744, 7808, 8192, 8208, 8384] ++ [8443, 8444, 8447, 9152, 9280, 9344, 9408, 9544]) s (execSettTickBoundary k half upsets s) := by
  unfold execSettTickBoundary
  try dsimp only
  repeat' first
    | with_reducible apply OutWithin.doIf
    | with_reducible apply OutWithin.next
    | with_reducible apply OutWithin.fault
    | with_reducible apply OutWithin.ite
    | with_reducible apply Within.refl
    | with_reducible assumption
    | with_reducible apply Within.ite ?_ ?_
    | ((with_reducible apply State.inOneCycle_within ?_ ?h1 (fun _ _ _ => ?_)); (case h1 => rfl))
    | ((with_reducible apply Within.step ?_ (State.settBoundary_within _ _ _) ?h1); (case h1 => rfl))
    | ((with_reducible apply Within.step ?_ (State.upset_within _ _) ?h1); (case h1 => rfl))
    | with_reducible apply Within.each _ _ ?_ (fun _ _ _ _ => ?_)

theorem execTickOverrun_out (n : Nat) (half : Bool) (s : State) :
    OutWithin [.engines, .sharedMemory, .settRest, .msix, .burrow] [6914, 9152, 9280, 9344, 9408] s (execTickOverrun n half s) := by
  unfold execTickOverrun
  try dsimp only
  repeat' first
    | with_reducible apply OutWithin.doIf
    | with_reducible apply OutWithin.next
    | with_reducible apply OutWithin.fault
    | with_reducible apply OutWithin.ite
    | with_reducible apply Within.refl
    | with_reducible assumption
    | with_reducible apply Within.ite ?_ ?_
    | ((with_reducible apply Within.step ?_ (State.overrun_within _ _) ?h1); (case h1 => rfl))

theorem execFlashCommitDone_out (s : State) :
    OutWithin [.msix, .hostRest, .burrow] [7048, 7744, 7808] s (execFlashCommitDone s) := by
  unfold execFlashCommitDone
  try dsimp only
  repeat' first
    | with_reducible apply OutWithin.doIf
    | with_reducible apply OutWithin.next
    | with_reducible apply OutWithin.fault
    | with_reducible apply OutWithin.ite
    | with_reducible apply Within.refl
    | with_reducible assumption
    | with_reducible apply Within.ite ?_ ?_
    | ((with_reducible apply Within.step ?_ (State.complete_within _ _ _ _ _ _ _) ?h1); (case h1 => rfl))
    | split
    | ((with_reducible apply Within.set_burrow _ ?_ ?h1 ?h2); (case h1 => rfl); (case h2 => intro hb; first | exact hb | rfl))

theorem execTokenRefill_out (mirror : Bool) (s : State) :
    OutWithin [.burrow] [9280] s (execTokenRefill mirror s) := by
  unfold execTokenRefill
  try dsimp only
  repeat' first
    | with_reducible apply OutWithin.doIf
    | with_reducible apply OutWithin.next
    | with_reducible apply OutWithin.fault
    | with_reducible apply OutWithin.ite
    | with_reducible apply Within.refl
    | with_reducible assumption
    | with_reducible apply Within.ite ?_ ?_
    | ((with_reducible apply Within.step ?_ (State.commitCount_within _ _ _) ?h1); (case h1 => rfl))
    | ((with_reducible apply Within.step ?_ (State.setPath_within _ _ _) ?h1); (case h1 => rfl))
    | split
    | ((with_reducible apply Within.set_burrow _ ?_ ?h1 ?h2); (case h1 => rfl); (case h2 => intro hb; first | exact hb | rfl))

theorem execCountRecordDue_out (mirror : Bool) (code source : BitVec 16) (s : State) :
    OutWithin [.burrow] [9280] s (execCountRecordDue mirror code source s) := by
  unfold execCountRecordDue
  try dsimp only
  repeat' first
    | with_reducible apply OutWithin.doIf
    | with_reducible apply OutWithin.next
    | with_reducible apply OutWithin.fault
    | with_reducible apply OutWithin.ite
    | with_reducible apply Within.refl
    | with_reducible assumption
    | with_reducible apply Within.ite ?_ ?_
    | ((with_reducible apply Within.step ?_ (State.commitCount_within _ _ _) ?h1); (case h1 => rfl))
    | ((with_reducible apply Within.step ?_ (State.setPath_within _ _ _) ?h1); (case h1 => rfl))
    | split

theorem execEntryClose_out (mirror : Bool) (code source : BitVec 16) (s : State) :
    OutWithin [.burrow] [] s (execEntryClose mirror code source s) := by
  unfold execEntryClose
  try dsimp only
  repeat' first
    | with_reducible apply OutWithin.doIf
    | with_reducible apply OutWithin.next
    | with_reducible apply OutWithin.fault
    | with_reducible apply OutWithin.ite
    | with_reducible apply Within.refl
    | with_reducible assumption
    | with_reducible apply Within.ite ?_ ?_
    | ((with_reducible apply Within.step ?_ (State.setPath_within _ _ _) ?h1); (case h1 => rfl))
    | split

theorem execOperatingSecond_out (s : State) :
    OutWithin [.burrow] [] s (execOperatingSecond s) := by
  unfold execOperatingSecond
  try dsimp only
  repeat' first
    | with_reducible apply OutWithin.doIf
    | with_reducible apply OutWithin.next
    | with_reducible apply OutWithin.fault
    | with_reducible apply OutWithin.ite
    | with_reducible apply Within.refl
    | with_reducible assumption
    | with_reducible apply Within.ite ?_ ?_
    | ((with_reducible apply Within.set_burrow _ ?_ ?h1 ?h2); (case h1 => rfl); (case h2 => intro hb; first | exact hb | rfl))

theorem execDriveUpdate_out (s : State) :
    OutWithin [.cooling, .msix, .burrow] ([5136, 5147, 5149, 5253, 5264, 5271, 5274, 5275, 6914, 9152, 9280, 9344] ++ [9408]) s (execDriveUpdate s) := by
  unfold execDriveUpdate
  try dsimp only
  repeat' first
    | with_reducible apply OutWithin.doIf
    | with_reducible apply OutWithin.next
    | with_reducible apply OutWithin.fault
    | with_reducible apply OutWithin.ite
    | with_reducible apply Within.refl
    | with_reducible assumption
    | with_reducible apply Within.ite ?_ ?_
    | ((with_reducible apply Within.step ?_ (State.driveAll_within _) ?h1); (case h1 => rfl))
    | ((with_reducible apply Within.step ?_ (State.judgeZone_within _ _) ?h1); (case h1 => rfl))
    | with_reducible apply Within.each _ _ ?_ (fun _ _ _ _ => ?_)

theorem execDutyWrite_out (o : Nat) (v : BitVec 10) (s : State) :
    OutWithin [.cooling] [5376] s (execDutyWrite o v s) := by
  unfold execDutyWrite
  try dsimp only
  repeat' first
    | with_reducible apply OutWithin.doIf
    | with_reducible apply OutWithin.next
    | with_reducible apply OutWithin.fault
    | with_reducible apply OutWithin.ite
    | with_reducible apply Within.refl
    | with_reducible assumption
    | with_reducible apply Within.ite ?_ ?_
    | ((with_reducible apply Within.wr _ _ _ ?_ ?h1); (case h1 => rfl))
    | ((with_reducible apply Within.step ?_ (State.refresh_within _ _) ?h1); (case h1 => rfl))

theorem execZoneTake_out (z : Nat) (s : State) :
    OutWithin [.cooling, .msix, .burrow] [5136, 5147, 5149, 5256, 5271, 5279, 6914, 9152, 9280, 9344, 9408] s (execZoneTake z s) := by
  unfold execZoneTake
  try dsimp only
  repeat' first
    | with_reducible apply OutWithin.doIf
    | with_reducible apply OutWithin.next
    | with_reducible apply OutWithin.fault
    | with_reducible apply OutWithin.ite
    | with_reducible apply Within.refl
    | with_reducible assumption
    | with_reducible apply Within.ite ?_ ?_
    | ((with_reducible apply Within.wr _ _ _ ?_ ?h1); (case h1 => rfl))
    | ((with_reducible apply Within.step ?_ (State.driveAll_within _) ?h1); (case h1 => rfl))
    | ((with_reducible apply Within.step ?_ (State.record_within _ _ _ _) ?h1); (case h1 => rfl))

theorem execZoneRelease_out (z : Nat) (s : State) :
    OutWithin [.cooling, .msix, .burrow] [5136, 5147, 5149, 5256, 5271, 5276, 5279, 6914, 9152, 9280, 9344, 9408] s (execZoneRelease z s) := by
  unfold execZoneRelease
  try dsimp only
  repeat' first
    | with_reducible apply OutWithin.doIf
    | with_reducible apply OutWithin.next
    | with_reducible apply OutWithin.fault
    | with_reducible apply OutWithin.ite
    | with_reducible apply Within.refl
    | with_reducible assumption
    | with_reducible apply Within.ite ?_ ?_
    | ((with_reducible apply Within.wr _ _ _ ?_ ?h1); (case h1 => rfl))
    | ((with_reducible apply Within.step ?_ (State.zoneFallback_within _ _ _) ?h1); (case h1 => rfl))

theorem execZoneRefreshTimeout_out (z : Nat) (s : State) :
    OutWithin [.cooling, .msix, .burrow] [5136, 5147, 5149, 5271, 5276, 5279, 6914, 9152, 9280, 9344, 9408] s (execZoneRefreshTimeout z s) := by
  unfold execZoneRefreshTimeout
  try dsimp only
  repeat' first
    | with_reducible apply OutWithin.doIf
    | with_reducible apply OutWithin.next
    | with_reducible apply OutWithin.fault
    | with_reducible apply OutWithin.ite
    | with_reducible apply Within.refl
    | with_reducible assumption
    | with_reducible apply Within.ite ?_ ?_
    | ((with_reducible apply Within.step ?_ (State.zoneFallback_within _ _ _) ?h1); (case h1 => rfl))

theorem execCheckJudgement_out (o : Nat) (s : State) :
    OutWithin [.cooling, .msix, .burrow] [5136, 5147, 5149, 5271, 6914, 9152, 9280, 9344, 9408] s (execCheckJudgement o s) := by
  unfold execCheckJudgement
  try dsimp only
  repeat' first
    | with_reducible apply OutWithin.doIf
    | with_reducible apply OutWithin.next
    | with_reducible apply OutWithin.fault
    | with_reducible apply OutWithin.ite
    | with_reducible apply Within.refl
    | with_reducible assumption
    | with_reducible apply Within.ite ?_ ?_
    | ((with_reducible apply Within.wr _ _ _ ?_ ?h1); (case h1 => rfl))
    | ((with_reducible apply Within.step ?_ (State.driveAll_within _) ?h1); (case h1 => rfl))
    | ((with_reducible apply Within.step ?_ (State.judgeLost_within _ _ _) ?h1); (case h1 => rfl))
    | ((with_reducible apply Within.step ?_ (State.record_within _ _ _ _) ?h1); (case h1 => rfl))
    | ((with_reducible apply Within.step ?_ (State.setFan_within _ _ _) ?h1); (case h1 => rfl))

theorem execRetryCheckStart_out (o : Nat) (s : State) :
    OutWithin [.cooling, .msix, .burrow] [5136, 5147, 5149, 5271, 6914, 9152, 9280, 9344, 9408] s (execRetryCheckStart o s) := by
  unfold execRetryCheckStart
  try dsimp only
  repeat' first
    | with_reducible apply OutWithin.doIf
    | with_reducible apply OutWithin.next
    | with_reducible apply OutWithin.fault
    | with_reducible apply OutWithin.ite
    | with_reducible apply Within.refl
    | with_reducible assumption
    | with_reducible apply Within.ite ?_ ?_
    | ((with_reducible apply Within.step ?_ (State.driveAll_within _) ?h1); (case h1 => rfl))
    | ((with_reducible apply Within.step ?_ (State.startCheck_within _ _ _) ?h1); (case h1 => rfl))

theorem execTachPulse_out (i : Nat) (s : State) :
    OutWithin [.cooling, .msix, .burrow] [5136, 5147, 5149, 5271, 6914, 9152, 9280, 9344, 9408] s (execTachPulse i s) := by
  unfold execTachPulse
  try dsimp only
  repeat' first
    | with_reducible apply OutWithin.doIf
    | with_reducible apply OutWithin.next
    | with_reducible apply OutWithin.fault
    | with_reducible apply OutWithin.ite
    | with_reducible apply Within.refl
    | with_reducible assumption
    | with_reducible apply Within.ite ?_ ?_
    | ((with_reducible apply Within.step ?_ (State.judgeEdge_within _ _) ?h1); (case h1 => rfl))
    | ((with_reducible apply Within.set_cooling _ ?_ ?h1); (case h1 => rfl))

theorem execTachStopped_out (o : Nat) (s : State) :
    OutWithin [.cooling, .msix, .burrow] [5136, 5147, 5149, 5271, 6914, 9152, 9280, 9344, 9408] s (execTachStopped o s) := by
  unfold execTachStopped
  try dsimp only
  repeat' first
    | with_reducible apply OutWithin.doIf
    | with_reducible apply OutWithin.next
    | with_reducible apply OutWithin.fault
    | with_reducible apply OutWithin.ite
    | with_reducible apply Within.refl
    | with_reducible assumption
    | with_reducible apply Within.ite ?_ ?_
    | ((with_reducible apply Within.step ?_ (State.driveAll_within _) ?h1); (case h1 => rfl))
    | ((with_reducible apply Within.step ?_ (State.judgeLost_within _ _ _) ?h1); (case h1 => rfl))

theorem execFanClear_out (o : BitVec 5) (s : State) :
    OutWithin [.cooling, .msix, .burrow] [5136, 5147, 5149, 5271, 5696, 6914, 9152, 9280, 9344, 9408] s (execFanClear o s) := by
  unfold execFanClear
  try dsimp only
  repeat' first
    | with_reducible apply OutWithin.doIf
    | with_reducible apply OutWithin.next
    | with_reducible apply OutWithin.fault
    | with_reducible apply OutWithin.ite
    | with_reducible apply Within.refl
    | with_reducible assumption
    | with_reducible apply Within.ite ?_ ?_
    | ((with_reducible apply Within.writeFld _ _ _ ?_ ?h1); (case h1 => rfl))
    | ((with_reducible apply Within.step ?_ (State.driveAll_within _) ?h1); (case h1 => rfl))
    | ((with_reducible apply Within.step ?_ (State.startCheck_within _ _ _) ?h1); (case h1 => rfl))

theorem execFlowUpdate_out (f : Nat) (s : State) :
    OutWithin [.cooling] [5568] s (execFlowUpdate f s) := by
  unfold execFlowUpdate
  try dsimp only
  repeat' first
    | with_reducible apply OutWithin.doIf
    | with_reducible apply OutWithin.next
    | with_reducible apply OutWithin.fault
    | with_reducible apply OutWithin.ite
    | with_reducible apply Within.refl
    | with_reducible assumption
    | with_reducible apply Within.ite ?_ ?_
    | ((with_reducible apply Within.wr _ _ _ ?_ ?h1); (case h1 => rfl))
    | ((with_reducible apply Within.step ?_ (State.setFlow_within _ _ _) ?h1); (case h1 => rfl))

theorem execLowFlowExpiry_out (f : Nat) (s : State) :
    OutWithin [.cooling, .msix, .burrow] [5136, 5147, 5149, 5271, 5599, 6914, 9152, 9280, 9344, 9408] s (execLowFlowExpiry f s) := by
  unfold execLowFlowExpiry
  try dsimp only
  repeat' first
    | with_reducible apply OutWithin.doIf
    | with_reducible apply OutWithin.next
    | with_reducible apply OutWithin.fault
    | with_reducible apply OutWithin.ite
    | with_reducible apply Within.refl
    | with_reducible assumption
    | with_reducible apply Within.ite ?_ ?_
    | ((with_reducible apply Within.wr _ _ _ ?_ ?h1); (case h1 => rfl))
    | ((with_reducible apply Within.step ?_ (State.driveAll_within _) ?h1); (case h1 => rfl))
    | ((with_reducible apply Within.step ?_ (State.record_within _ _ _ _) ?h1); (case h1 => rfl))

theorem execFlowOkExpiry_out (f : Nat) (s : State) :
    OutWithin [.cooling, .msix, .burrow] [5136, 5147, 5149, 5271, 5599, 6914, 9152, 9280, 9344, 9408] s (execFlowOkExpiry f s) := by
  unfold execFlowOkExpiry
  try dsimp only
  repeat' first
    | with_reducible apply OutWithin.doIf
    | with_reducible apply OutWithin.next
    | with_reducible apply OutWithin.fault
    | with_reducible apply OutWithin.ite
    | with_reducible apply Within.refl
    | with_reducible assumption
    | with_reducible apply Within.ite ?_ ?_
    | ((with_reducible apply Within.wr _ _ _ ?_ ?h1); (case h1 => rfl))
    | ((with_reducible apply Within.step ?_ (State.driveAll_within _) ?h1); (case h1 => rfl))
    | ((with_reducible apply Within.step ?_ (State.record_within _ _ _ _) ?h1); (case h1 => rfl))

theorem execValveCloseWrite_out (v : BitVec 4) (s : State) :
    OutWithin [.cooling] [5632] s (execValveCloseWrite v s) := by
  unfold execValveCloseWrite
  try dsimp only
  repeat' first
    | with_reducible apply OutWithin.doIf
    | with_reducible apply OutWithin.next
    | with_reducible apply OutWithin.fault
    | with_reducible apply OutWithin.ite
    | with_reducible apply Within.refl
    | with_reducible assumption
    | with_reducible apply Within.ite ?_ ?_
    | ((with_reducible apply Within.wr _ _ _ ?_ ?h1); (case h1 => rfl))
    | ((with_reducible apply Within.step ?_ (State.judgeFlows_within _) ?h1); (case h1 => rfl))

theorem execCritResult_out (a b : CritRead) (s : State) :
    OutWithin [.cooling, .msix, .burrow] ([5136, 5147, 5149, 5271, 5824, 5852, 5854, 5855, 6914, 9152, 9280, 9344] ++ [9408]) s (execCritResult a b s) := by
  unfold execCritResult
  try dsimp only
  repeat' first
    | with_reducible apply OutWithin.doIf
    | with_reducible apply OutWithin.next
    | with_reducible apply OutWithin.fault
    | with_reducible apply OutWithin.ite
    | with_reducible apply Within.refl
    | with_reducible assumption
    | with_reducible apply Within.ite ?_ ?_
    | ((with_reducible apply Within.wr _ _ _ ?_ ?h1); (case h1 => rfl))
    | ((with_reducible apply Within.step ?_ (State.critFail_within _ _ _) ?h1); (case h1 => rfl))
    | ((with_reducible apply Within.step ?_ (State.setCrit_within _ _) ?h1); (case h1 => rfl))
    | split
    | ((with_reducible apply Within.set_cooling _ ?_ ?h1); (case h1 => rfl))

theorem execCritGraceEnd_out (s : State) :
    OutWithin [.cooling, .msix, .burrow] [5136, 5147, 5149, 5271, 5854, 5855, 6914, 9152, 9280, 9344, 9408] s (execCritGraceEnd s) := by
  unfold execCritGraceEnd
  try dsimp only
  repeat' first
    | with_reducible apply OutWithin.doIf
    | with_reducible apply OutWithin.next
    | with_reducible apply OutWithin.fault
    | with_reducible apply OutWithin.ite
    | with_reducible apply Within.refl
    | with_reducible assumption
    | with_reducible apply Within.ite ?_ ?_
    | ((with_reducible apply Within.wr _ _ _ ?_ ?h1); (case h1 => rfl))
    | ((with_reducible apply Within.step ?_ (State.setCrit_within _ _) ?h1); (case h1 => rfl))

theorem execLeakRstatClear_out (r : Nat) (s : State) :
    OutWithin [] [5888, 5916] s (execLeakRstatClear r s) := by
  unfold execLeakRstatClear
  try dsimp only
  repeat' first
    | with_reducible apply OutWithin.doIf
    | with_reducible apply OutWithin.next
    | with_reducible apply OutWithin.fault
    | with_reducible apply OutWithin.ite
    | with_reducible apply Within.refl
    | with_reducible assumption
    | with_reducible apply Within.ite ?_ ?_
    | ((with_reducible apply Within.wr _ _ _ ?_ ?h1); (case h1 => rfl))

theorem execEngAdd_out (n : Nat) (rd ra rb : BitVec 4) (s : State) :
    OutWithin [.engines, .sharedMemory, .settRest, .marten, .msix, .burrow] ([4224, 4225, 4226, 4227, 4288, 4312, 4352, 4416, 4432, 4480, 4510, 4511] ++ [4928, 4942, 4944, 4952, 6914, 8208, 8384, 8443, 8444, 8447, 9152, 9280] ++ [9344, 9408]) s (execEngAdd n rd ra rb s) := by
  unfold execEngAdd
  try dsimp only
  repeat' first
    | with_reducible apply OutWithin.doIf
    | with_reducible apply OutWithin.next
    | with_reducible apply OutWithin.fault
    | with_reducible apply OutWithin.ite
    | exact OutWithin.mono (State.issueAlu_out _ _ _ _ _ _) (by rfl)

theorem execEngSub_out (n : Nat) (rd ra rb : BitVec 4) (s : State) :
    OutWithin [.engines, .sharedMemory, .settRest, .marten, .msix, .burrow] ([4224, 4225, 4226, 4227, 4288, 4312, 4352, 4416, 4432, 4480, 4510, 4511] ++ [4928, 4942, 4944, 4952, 6914, 8208, 8384, 8443, 8444, 8447, 9152, 9280] ++ [9344, 9408]) s (execEngSub n rd ra rb s) := by
  unfold execEngSub
  try dsimp only
  repeat' first
    | with_reducible apply OutWithin.doIf
    | with_reducible apply OutWithin.next
    | with_reducible apply OutWithin.fault
    | with_reducible apply OutWithin.ite
    | exact OutWithin.mono (State.issueAlu_out _ _ _ _ _ _) (by rfl)

theorem execEngAddw_out (n : Nat) (rd ra rb : BitVec 4) (s : State) :
    OutWithin [.engines, .sharedMemory, .settRest, .marten, .msix, .burrow] ([4224, 4225, 4226, 4227, 4288, 4312, 4352, 4416, 4432, 4480, 4510, 4511] ++ [4928, 4942, 4944, 4952, 6914, 8208, 8384, 8443, 8444, 8447, 9152, 9280] ++ [9344, 9408]) s (execEngAddw n rd ra rb s) := by
  unfold execEngAddw
  try dsimp only
  repeat' first
    | with_reducible apply OutWithin.doIf
    | with_reducible apply OutWithin.next
    | with_reducible apply OutWithin.fault
    | with_reducible apply OutWithin.ite
    | exact OutWithin.mono (State.issueAlu_out _ _ _ _ _ _) (by rfl)

theorem execEngSubw_out (n : Nat) (rd ra rb : BitVec 4) (s : State) :
    OutWithin [.engines, .sharedMemory, .settRest, .marten, .msix, .burrow] ([4224, 4225, 4226, 4227, 4288, 4312, 4352, 4416, 4432, 4480, 4510, 4511] ++ [4928, 4942, 4944, 4952, 6914, 8208, 8384, 8443, 8444, 8447, 9152, 9280] ++ [9344, 9408]) s (execEngSubw n rd ra rb s) := by
  unfold execEngSubw
  try dsimp only
  repeat' first
    | with_reducible apply OutWithin.doIf
    | with_reducible apply OutWithin.next
    | with_reducible apply OutWithin.fault
    | with_reducible apply OutWithin.ite
    | exact OutWithin.mono (State.issueAlu_out _ _ _ _ _ _) (by rfl)

theorem execEngMul_out (n : Nat) (rd ra rb : BitVec 4) (s : State) :
    OutWithin [.engines, .sharedMemory, .settRest, .marten, .msix, .burrow] ([4224, 4225, 4226, 4227, 4288, 4312, 4352, 4416, 4432, 4480, 4510, 4511] ++ [4928, 4942, 4944, 4952, 6914, 8208, 8384, 8443, 8444, 8447, 9152, 9280] ++ [9344, 9408]) s (execEngMul n rd ra rb s) := by
  unfold execEngMul
  try dsimp only
  repeat' first
    | with_reducible apply OutWithin.doIf
    | with_reducible apply OutWithin.next
    | with_reducible apply OutWithin.fault
    | with_reducible apply OutWithin.ite
    | exact OutWithin.mono (State.issueAlu_out _ _ _ _ _ _) (by rfl)

theorem execEngImul_out (n : Nat) (rd ra rb : BitVec 4) (s : State) :
    OutWithin [.engines, .sharedMemory, .settRest, .marten, .msix, .burrow] ([4224, 4225, 4226, 4227, 4288, 4312, 4352, 4416, 4432, 4480, 4510, 4511] ++ [4928, 4942, 4944, 4952, 6914, 8208, 8384, 8443, 8444, 8447, 9152, 9280] ++ [9344, 9408]) s (execEngImul n rd ra rb s) := by
  unfold execEngImul
  try dsimp only
  repeat' first
    | with_reducible apply OutWithin.doIf
    | with_reducible apply OutWithin.next
    | with_reducible apply OutWithin.fault
    | with_reducible apply OutWithin.ite
    | exact OutWithin.mono (State.issueAlu_out _ _ _ _ _ _) (by rfl)

theorem execEngDiv_out (n : Nat) (rd ra rb : BitVec 4) (s : State) :
    OutWithin [.engines, .sharedMemory, .settRest, .marten, .msix, .burrow] ([4224, 4225, 4226, 4227, 4288, 4312, 4352, 4416, 4432, 4480, 4510, 4511] ++ [4928, 4942, 4944, 4952, 6914, 8208, 8384, 8443, 8444, 8447, 9152, 9280] ++ [9344, 9408]) s (execEngDiv n rd ra rb s) := by
  unfold execEngDiv
  try dsimp only
  repeat' first
    | with_reducible apply OutWithin.doIf
    | with_reducible apply OutWithin.next
    | with_reducible apply OutWithin.fault
    | with_reducible apply OutWithin.ite
    | exact OutWithin.mono (State.issueAlu_out _ _ _ _ _ _) (by rfl)

theorem execEngMin_out (n : Nat) (rd ra rb : BitVec 4) (s : State) :
    OutWithin [.engines, .sharedMemory, .settRest, .marten, .msix, .burrow] ([4224, 4225, 4226, 4227, 4288, 4312, 4352, 4416, 4432, 4480, 4510, 4511] ++ [4928, 4942, 4944, 4952, 6914, 8208, 8384, 8443, 8444, 8447, 9152, 9280] ++ [9344, 9408]) s (execEngMin n rd ra rb s) := by
  unfold execEngMin
  try dsimp only
  repeat' first
    | with_reducible apply OutWithin.doIf
    | with_reducible apply OutWithin.next
    | with_reducible apply OutWithin.fault
    | with_reducible apply OutWithin.ite
    | exact OutWithin.mono (State.issueAlu_out _ _ _ _ _ _) (by rfl)

theorem execEngMax_out (n : Nat) (rd ra rb : BitVec 4) (s : State) :
    OutWithin [.engines, .sharedMemory, .settRest, .marten, .msix, .burrow] ([4224, 4225, 4226, 4227, 4288, 4312, 4352, 4416, 4432, 4480, 4510, 4511] ++ [4928, 4942, 4944, 4952, 6914, 8208, 8384, 8443, 8444, 8447, 9152, 9280] ++ [9344, 9408]) s (execEngMax n rd ra rb s) := by
  unfold execEngMax
  try dsimp only
  repeat' first
    | with_reducible apply OutWithin.doIf
    | with_reducible apply OutWithin.next
    | with_reducible apply OutWithin.fault
    | with_reducible apply OutWithin.ite
    | exact OutWithin.mono (State.issueAlu_out _ _ _ _ _ _) (by rfl)

theorem execEngLim_out (n : Nat) (rd ra rb : BitVec 4) (s : State) :
    OutWithin [.engines, .sharedMemory, .settRest, .marten, .msix, .burrow] ([4224, 4225, 4226, 4227, 4288, 4312, 4352, 4416, 4432, 4480, 4510, 4511] ++ [4928, 4942, 4944, 4952, 6914, 8208, 8384, 8443, 8444, 8447, 9152, 9280] ++ [9344, 9408]) s (execEngLim n rd ra rb s) := by
  unfold execEngLim
  try dsimp only
  repeat' first
    | with_reducible apply OutWithin.doIf
    | with_reducible apply OutWithin.next
    | with_reducible apply OutWithin.fault
    | with_reducible apply OutWithin.ite
    | exact OutWithin.mono (State.issueAlu_out _ _ _ _ _ _) (by rfl)

theorem execEngFlt_out (n : Nat) (rd ra rb : BitVec 4) (s : State) :
    OutWithin [.engines, .sharedMemory, .settRest, .marten, .msix, .burrow] ([4224, 4225, 4226, 4227, 4288, 4312, 4352, 4416, 4432, 4480, 4510, 4511] ++ [4928, 4942, 4944, 4952, 6914, 8208, 8384, 8443, 8444, 8447, 9152, 9280] ++ [9344, 9408]) s (execEngFlt n rd ra rb s) := by
  unfold execEngFlt
  try dsimp only
  repeat' first
    | with_reducible apply OutWithin.doIf
    | with_reducible apply OutWithin.next
    | with_reducible apply OutWithin.fault
    | with_reducible apply OutWithin.ite
    | exact OutWithin.mono (State.issueAlu_out _ _ _ _ _ _) (by rfl)

theorem execEngMac_out (n : Nat) (rd ra rb : BitVec 4) (s : State) :
    OutWithin [.engines, .sharedMemory, .settRest, .marten, .msix, .burrow] ([4224, 4225, 4226, 4227, 4288, 4312, 4352, 4416, 4432, 4480, 4510, 4511] ++ [4928, 4942, 4944, 4952, 6914, 8208, 8384, 8443, 8444, 8447, 9152, 9280] ++ [9344, 9408]) s (execEngMac n rd ra rb s) := by
  unfold execEngMac
  try dsimp only
  repeat' first
    | with_reducible apply OutWithin.doIf
    | with_reducible apply OutWithin.next
    | with_reducible apply OutWithin.fault
    | with_reducible apply OutWithin.ite
    | exact OutWithin.mono (State.issueAlu_out _ _ _ _ _ _) (by rfl)

theorem execEngAnd_out (n : Nat) (rd ra rb : BitVec 4) (s : State) :
    OutWithin [.engines, .sharedMemory, .settRest, .marten, .msix, .burrow] ([4224, 4225, 4226, 4227, 4288, 4312, 4352, 4416, 4432, 4480, 4510, 4511] ++ [4928, 4942, 4944, 4952, 6914, 8208, 8384, 8443, 8444, 8447, 9152, 9280] ++ [9344, 9408]) s (execEngAnd n rd ra rb s) := by
  unfold execEngAnd
  try dsimp only
  repeat' first
    | with_reducible apply OutWithin.doIf
    | with_reducible apply OutWithin.next
    | with_reducible apply OutWithin.fault
    | with_reducible apply OutWithin.ite
    | exact OutWithin.mono (State.issueAlu_out _ _ _ _ _ _) (by rfl)

theorem execEngOr_out (n : Nat) (rd ra rb : BitVec 4) (s : State) :
    OutWithin [.engines, .sharedMemory, .settRest, .marten, .msix, .burrow] ([4224, 4225, 4226, 4227, 4288, 4312, 4352, 4416, 4432, 4480, 4510, 4511] ++ [4928, 4942, 4944, 4952, 6914, 8208, 8384, 8443, 8444, 8447, 9152, 9280] ++ [9344, 9408]) s (execEngOr n rd ra rb s) := by
  unfold execEngOr
  try dsimp only
  repeat' first
    | with_reducible apply OutWithin.doIf
    | with_reducible apply OutWithin.next
    | with_reducible apply OutWithin.fault
    | with_reducible apply OutWithin.ite
    | exact OutWithin.mono (State.issueAlu_out _ _ _ _ _ _) (by rfl)

theorem execEngXor_out (n : Nat) (rd ra rb : BitVec 4) (s : State) :
    OutWithin [.engines, .sharedMemory, .settRest, .marten, .msix, .burrow] ([4224, 4225, 4226, 4227, 4288, 4312, 4352, 4416, 4432, 4480, 4510, 4511] ++ [4928, 4942, 4944, 4952, 6914, 8208, 8384, 8443, 8444, 8447, 9152, 9280] ++ [9344, 9408]) s (execEngXor n rd ra rb s) := by
  unfold execEngXor
  try dsimp only
  repeat' first
    | with_reducible apply OutWithin.doIf
    | with_reducible apply OutWithin.next
    | with_reducible apply OutWithin.fault
    | with_reducible apply OutWithin.ite
    | exact OutWithin.mono (State.issueAlu_out _ _ _ _ _ _) (by rfl)

theorem execEngShl_out (n : Nat) (rd ra rb : BitVec 4) (s : State) :
    OutWithin [.engines, .sharedMemory, .settRest, .marten, .msix, .burrow] ([4224, 4225, 4226, 4227, 4288, 4312, 4352, 4416, 4432, 4480, 4510, 4511] ++ [4928, 4942, 4944, 4952, 6914, 8208, 8384, 8443, 8444, 8447, 9152, 9280] ++ [9344, 9408]) s (execEngShl n rd ra rb s) := by
  unfold execEngShl
  try dsimp only
  repeat' first
    | with_reducible apply OutWithin.doIf
    | with_reducible apply OutWithin.next
    | with_reducible apply OutWithin.fault
    | with_reducible apply OutWithin.ite
    | exact OutWithin.mono (State.issueAlu_out _ _ _ _ _ _) (by rfl)

theorem execEngShr_out (n : Nat) (rd ra rb : BitVec 4) (s : State) :
    OutWithin [.engines, .sharedMemory, .settRest, .marten, .msix, .burrow] ([4224, 4225, 4226, 4227, 4288, 4312, 4352, 4416, 4432, 4480, 4510, 4511] ++ [4928, 4942, 4944, 4952, 6914, 8208, 8384, 8443, 8444, 8447, 9152, 9280] ++ [9344, 9408]) s (execEngShr n rd ra rb s) := by
  unfold execEngShr
  try dsimp only
  repeat' first
    | with_reducible apply OutWithin.doIf
    | with_reducible apply OutWithin.next
    | with_reducible apply OutWithin.fault
    | with_reducible apply OutWithin.ite
    | exact OutWithin.mono (State.issueAlu_out _ _ _ _ _ _) (by rfl)

theorem execEngSar_out (n : Nat) (rd ra rb : BitVec 4) (s : State) :
    OutWithin [.engines, .sharedMemory, .settRest, .marten, .msix, .burrow] ([4224, 4225, 4226, 4227, 4288, 4312, 4352, 4416, 4432, 4480, 4510, 4511] ++ [4928, 4942, 4944, 4952, 6914, 8208, 8384, 8443, 8444, 8447, 9152, 9280] ++ [9344, 9408]) s (execEngSar n rd ra rb s) := by
  unfold execEngSar
  try dsimp only
  repeat' first
    | with_reducible apply OutWithin.doIf
    | with_reducible apply OutWithin.next
    | with_reducible apply OutWithin.fault
    | with_reducible apply OutWithin.ite
    | exact OutWithin.mono (State.issueAlu_out _ _ _ _ _ _) (by rfl)

theorem execEngAbs_out (n : Nat) (rd ra : BitVec 4) (s : State) :
    OutWithin [.engines, .sharedMemory, .settRest, .marten, .msix, .burrow] ([4224, 4225, 4226, 4227, 4288, 4312, 4352, 4416, 4432, 4480, 4510, 4511] ++ [4928, 4942, 4944, 4952, 6914, 8208, 8384, 8443, 8444, 8447, 9152, 9280] ++ [9344, 9408]) s (execEngAbs n rd ra s) := by
  unfold execEngAbs
  try dsimp only
  repeat' first
    | with_reducible apply OutWithin.doIf
    | with_reducible apply OutWithin.next
    | with_reducible apply OutWithin.fault
    | with_reducible apply OutWithin.ite
    | exact OutWithin.mono (State.issueAlu_out _ _ _ _ _ _) (by rfl)

theorem execEngNeg_out (n : Nat) (rd ra : BitVec 4) (s : State) :
    OutWithin [.engines, .sharedMemory, .settRest, .marten, .msix, .burrow] ([4224, 4225, 4226, 4227, 4288, 4312, 4352, 4416, 4432, 4480, 4510, 4511] ++ [4928, 4942, 4944, 4952, 6914, 8208, 8384, 8443, 8444, 8447, 9152, 9280] ++ [9344, 9408]) s (execEngNeg n rd ra s) := by
  unfold execEngNeg
  try dsimp only
  repeat' first
    | with_reducible apply OutWithin.doIf
    | with_reducible apply OutWithin.next
    | with_reducible apply OutWithin.fault
    | with_reducible apply OutWithin.ite
    | exact OutWithin.mono (State.issueAlu_out _ _ _ _ _ _) (by rfl)

theorem execEngAddi_out (n : Nat) (rd ra : BitVec 4) (imm : BitVec 18) (s : State) :
    OutWithin [.engines, .sharedMemory, .settRest, .marten, .msix, .burrow] ([4224, 4225, 4226, 4227, 4288, 4312, 4352, 4416, 4432, 4480, 4510, 4511] ++ [4928, 4942, 4944, 4952, 6914, 8208, 8384, 8443, 8444, 8447, 9152, 9280] ++ [9344, 9408]) s (execEngAddi n rd ra imm s) := by
  unfold execEngAddi
  try dsimp only
  repeat' first
    | with_reducible apply OutWithin.doIf
    | with_reducible apply OutWithin.next
    | with_reducible apply OutWithin.fault
    | with_reducible apply OutWithin.ite
    | exact OutWithin.mono (State.issueAlu_out _ _ _ _ _ _) (by rfl)

theorem execEngAndi_out (n : Nat) (rd ra : BitVec 4) (imm : BitVec 18) (s : State) :
    OutWithin [.engines, .sharedMemory, .settRest, .marten, .msix, .burrow] ([4224, 4225, 4226, 4227, 4288, 4312, 4352, 4416, 4432, 4480, 4510, 4511] ++ [4928, 4942, 4944, 4952, 6914, 8208, 8384, 8443, 8444, 8447, 9152, 9280] ++ [9344, 9408]) s (execEngAndi n rd ra imm s) := by
  unfold execEngAndi
  try dsimp only
  repeat' first
    | with_reducible apply OutWithin.doIf
    | with_reducible apply OutWithin.next
    | with_reducible apply OutWithin.fault
    | with_reducible apply OutWithin.ite
    | exact OutWithin.mono (State.issueAlu_out _ _ _ _ _ _) (by rfl)

theorem execEngOri_out (n : Nat) (rd ra : BitVec 4) (imm : BitVec 18) (s : State) :
    OutWithin [.engines, .sharedMemory, .settRest, .marten, .msix, .burrow] ([4224, 4225, 4226, 4227, 4288, 4312, 4352, 4416, 4432, 4480, 4510, 4511] ++ [4928, 4942, 4944, 4952, 6914, 8208, 8384, 8443, 8444, 8447, 9152, 9280] ++ [9344, 9408]) s (execEngOri n rd ra imm s) := by
  unfold execEngOri
  try dsimp only
  repeat' first
    | with_reducible apply OutWithin.doIf
    | with_reducible apply OutWithin.next
    | with_reducible apply OutWithin.fault
    | with_reducible apply OutWithin.ite
    | exact OutWithin.mono (State.issueAlu_out _ _ _ _ _ _) (by rfl)

theorem execEngXori_out (n : Nat) (rd ra : BitVec 4) (imm : BitVec 18) (s : State) :
    OutWithin [.engines, .sharedMemory, .settRest, .marten, .msix, .burrow] ([4224, 4225, 4226, 4227, 4288, 4312, 4352, 4416, 4432, 4480, 4510, 4511] ++ [4928, 4942, 4944, 4952, 6914, 8208, 8384, 8443, 8444, 8447, 9152, 9280] ++ [9344, 9408]) s (execEngXori n rd ra imm s) := by
  unfold execEngXori
  try dsimp only
  repeat' first
    | with_reducible apply OutWithin.doIf
    | with_reducible apply OutWithin.next
    | with_reducible apply OutWithin.fault
    | with_reducible apply OutWithin.ite
    | exact OutWithin.mono (State.issueAlu_out _ _ _ _ _ _) (by rfl)

theorem execEngShli_out (n : Nat) (rd ra : BitVec 4) (sh : BitVec 5) (s : State) :
    OutWithin [.engines, .sharedMemory, .settRest, .marten, .msix, .burrow] ([4224, 4225, 4226, 4227, 4288, 4312, 4352, 4416, 4432, 4480, 4510, 4511] ++ [4928, 4942, 4944, 4952, 6914, 8208, 8384, 8443, 8444, 8447, 9152, 9280] ++ [9344, 9408]) s (execEngShli n rd ra sh s) := by
  unfold execEngShli
  try dsimp only
  repeat' first
    | with_reducible apply OutWithin.doIf
    | with_reducible apply OutWithin.next
    | with_reducible apply OutWithin.fault
    | with_reducible apply OutWithin.ite
    | exact OutWithin.mono (State.issueAlu_out _ _ _ _ _ _) (by rfl)

theorem execEngShri_out (n : Nat) (rd ra : BitVec 4) (sh : BitVec 5) (s : State) :
    OutWithin [.engines, .sharedMemory, .settRest, .marten, .msix, .burrow] ([4224, 4225, 4226, 4227, 4288, 4312, 4352, 4416, 4432, 4480, 4510, 4511] ++ [4928, 4942, 4944, 4952, 6914, 8208, 8384, 8443, 8444, 8447, 9152, 9280] ++ [9344, 9408]) s (execEngShri n rd ra sh s) := by
  unfold execEngShri
  try dsimp only
  repeat' first
    | with_reducible apply OutWithin.doIf
    | with_reducible apply OutWithin.next
    | with_reducible apply OutWithin.fault
    | with_reducible apply OutWithin.ite
    | exact OutWithin.mono (State.issueAlu_out _ _ _ _ _ _) (by rfl)

theorem execEngSari_out (n : Nat) (rd ra : BitVec 4) (sh : BitVec 5) (s : State) :
    OutWithin [.engines, .sharedMemory, .settRest, .marten, .msix, .burrow] ([4224, 4225, 4226, 4227, 4288, 4312, 4352, 4416, 4432, 4480, 4510, 4511] ++ [4928, 4942, 4944, 4952, 6914, 8208, 8384, 8443, 8444, 8447, 9152, 9280] ++ [9344, 9408]) s (execEngSari n rd ra sh s) := by
  unfold execEngSari
  try dsimp only
  repeat' first
    | with_reducible apply OutWithin.doIf
    | with_reducible apply OutWithin.next
    | with_reducible apply OutWithin.fault
    | with_reducible apply OutWithin.ite
    | exact OutWithin.mono (State.issueAlu_out _ _ _ _ _ _) (by rfl)

theorem execEngLdh_out (n : Nat) (rd : BitVec 4) (imm : BitVec 16) (s : State) :
    OutWithin [.engines, .sharedMemory, .settRest, .marten, .msix, .burrow] ([4224, 4225, 4226, 4227, 4288, 4312, 4352, 4416, 4432, 4480, 4510, 4511] ++ [4928, 4942, 4944, 4952, 6914, 8208, 8384, 8443, 8444, 8447, 9152, 9280] ++ [9344, 9408]) s (execEngLdh n rd imm s) := by
  unfold execEngLdh
  try dsimp only
  repeat' first
    | with_reducible apply OutWithin.doIf
    | with_reducible apply OutWithin.next
    | with_reducible apply OutWithin.fault
    | with_reducible apply OutWithin.ite
    | exact OutWithin.mono (State.issueAlu_out _ _ _ _ _ _) (by rfl)

theorem execEngJal_out (n : Nat) (target : BitVec 10) (s : State) :
    OutWithin [.engines, .sharedMemory, .settRest, .marten, .msix, .burrow] ([4224, 4225, 4226, 4227, 4288, 4312, 4352, 4416, 4432, 4480, 4510, 4511] ++ [4928, 4942, 4944, 4952, 6914, 8208, 8384, 8443, 8444, 8447, 9152, 9280] ++ [9344, 9408]) s (execEngJal n target s) := by
  unfold execEngJal
  try dsimp only
  repeat' first
    | with_reducible apply OutWithin.doIf
    | with_reducible apply OutWithin.next
    | with_reducible apply OutWithin.fault
    | with_reducible apply OutWithin.ite
    | exact OutWithin.mono (State.issueEngine_out _ _ _ _) (by rfl)

theorem execEngJr_out (n : Nat) (ra : BitVec 4) (s : State) :
    OutWithin [.engines, .sharedMemory, .settRest, .marten, .msix, .burrow] ([4224, 4225, 4226, 4227, 4288, 4312, 4352, 4416, 4432, 4480, 4510, 4511] ++ [4928, 4942, 4944, 4952, 6914, 8208, 8384, 8443, 8444, 8447, 9152, 9280] ++ [9344, 9408]) s (execEngJr n ra s) := by
  unfold execEngJr
  try dsimp only
  repeat' first
    | with_reducible apply OutWithin.doIf
    | with_reducible apply OutWithin.next
    | with_reducible apply OutWithin.fault
    | with_reducible apply OutWithin.ite
    | exact OutWithin.mono (State.issueEngine_out _ _ _ _) (by rfl)

theorem execEngBeq_out (n : Nat) (ra rb : BitVec 4) (target : BitVec 10) (s : State) :
    OutWithin [.engines, .sharedMemory, .settRest, .marten, .msix, .burrow] ([4224, 4225, 4226, 4227, 4288, 4312, 4352, 4416, 4432, 4480, 4510, 4511] ++ [4928, 4942, 4944, 4952, 6914, 8208, 8384, 8443, 8444, 8447, 9152, 9280] ++ [9344, 9408]) s (execEngBeq n ra rb target s) := by
  unfold execEngBeq
  try dsimp only
  repeat' first
    | with_reducible apply OutWithin.doIf
    | with_reducible apply OutWithin.next
    | with_reducible apply OutWithin.fault
    | with_reducible apply OutWithin.ite
    | exact OutWithin.mono (State.issueEngine_out _ _ _ _) (by rfl)

theorem execEngBne_out (n : Nat) (ra rb : BitVec 4) (target : BitVec 10) (s : State) :
    OutWithin [.engines, .sharedMemory, .settRest, .marten, .msix, .burrow] ([4224, 4225, 4226, 4227, 4288, 4312, 4352, 4416, 4432, 4480, 4510, 4511] ++ [4928, 4942, 4944, 4952, 6914, 8208, 8384, 8443, 8444, 8447, 9152, 9280] ++ [9344, 9408]) s (execEngBne n ra rb target s) := by
  unfold execEngBne
  try dsimp only
  repeat' first
    | with_reducible apply OutWithin.doIf
    | with_reducible apply OutWithin.next
    | with_reducible apply OutWithin.fault
    | with_reducible apply OutWithin.ite
    | exact OutWithin.mono (State.issueEngine_out _ _ _ _) (by rfl)

theorem execEngBlt_out (n : Nat) (ra rb : BitVec 4) (target : BitVec 10) (s : State) :
    OutWithin [.engines, .sharedMemory, .settRest, .marten, .msix, .burrow] ([4224, 4225, 4226, 4227, 4288, 4312, 4352, 4416, 4432, 4480, 4510, 4511] ++ [4928, 4942, 4944, 4952, 6914, 8208, 8384, 8443, 8444, 8447, 9152, 9280] ++ [9344, 9408]) s (execEngBlt n ra rb target s) := by
  unfold execEngBlt
  try dsimp only
  repeat' first
    | with_reducible apply OutWithin.doIf
    | with_reducible apply OutWithin.next
    | with_reducible apply OutWithin.fault
    | with_reducible apply OutWithin.ite
    | exact OutWithin.mono (State.issueEngine_out _ _ _ _) (by rfl)

theorem execEngBge_out (n : Nat) (ra rb : BitVec 4) (target : BitVec 10) (s : State) :
    OutWithin [.engines, .sharedMemory, .settRest, .marten, .msix, .burrow] ([4224, 4225, 4226, 4227, 4288, 4312, 4352, 4416, 4432, 4480, 4510, 4511] ++ [4928, 4942, 4944, 4952, 6914, 8208, 8384, 8443, 8444, 8447, 9152, 9280] ++ [9344, 9408]) s (execEngBge n ra rb target s) := by
  unfold execEngBge
  try dsimp only
  repeat' first
    | with_reducible apply OutWithin.doIf
    | with_reducible apply OutWithin.next
    | with_reducible apply OutWithin.fault
    | with_reducible apply OutWithin.ite
    | exact OutWithin.mono (State.issueEngine_out _ _ _ _) (by rfl)

theorem execEngJmp_out (n : Nat) (target : BitVec 10) (s : State) :
    OutWithin [.engines, .sharedMemory, .settRest, .marten, .msix, .burrow] ([4224, 4225, 4226, 4227, 4288, 4312, 4352, 4416, 4432, 4480, 4510, 4511] ++ [4928, 4942, 4944, 4952, 6914, 8208, 8384, 8443, 8444, 8447, 9152, 9280] ++ [9344, 9408]) s (execEngJmp n target s) := by
  unfold execEngJmp
  try dsimp only
  repeat' first
    | with_reducible apply OutWithin.doIf
    | with_reducible apply OutWithin.next
    | with_reducible apply OutWithin.fault
    | with_reducible apply OutWithin.ite
    | exact OutWithin.mono (State.issueEngine_out _ _ _ _) (by rfl)

theorem execEngBtx_out (n : Nat) (tm : BitVec 2) (target : BitVec 10) (s : State) :
    OutWithin [.engines, .sharedMemory, .settRest, .marten, .msix, .burrow] ([4224, 4225, 4226, 4227, 4288, 4312, 4352, 4416, 4432, 4480, 4510, 4511] ++ [4928, 4942, 4944, 4952, 6914, 8208, 8384, 8443, 8444, 8447, 9152, 9280] ++ [9344, 9408]) s (execEngBtx n tm target s) := by
  unfold execEngBtx
  try dsimp only
  repeat' first
    | with_reducible apply OutWithin.doIf
    | with_reducible apply OutWithin.next
    | with_reducible apply OutWithin.fault
    | with_reducible apply OutWithin.ite
    | exact OutWithin.mono (State.issueEngine_out _ _ _ _) (by rfl)

theorem execEngBst_out (n : Nat) (bit : BitVec 4) (target : BitVec 10) (s : State) :
    OutWithin [.engines, .sharedMemory, .settRest, .marten, .msix, .burrow] ([4224, 4225, 4226, 4227, 4288, 4312, 4352, 4416, 4432, 4480, 4510, 4511] ++ [4928, 4942, 4944, 4952, 6914, 8208, 8384, 8443, 8444, 8447, 9152, 9280] ++ [9344, 9408]) s (execEngBst n bit target s) := by
  unfold execEngBst
  try dsimp only
  repeat' first
    | with_reducible apply OutWithin.doIf
    | with_reducible apply OutWithin.next
    | with_reducible apply OutWithin.fault
    | with_reducible apply OutWithin.ite
    | exact OutWithin.mono (State.issueEngine_out _ _ _ _) (by rfl)

theorem execEngNop_out (n : Nat) (s : State) :
    OutWithin [.engines, .sharedMemory, .settRest, .marten, .msix, .burrow] ([4224, 4225, 4226, 4227, 4288, 4312, 4352, 4416, 4432, 4480, 4510, 4511] ++ [4928, 4942, 4944, 4952, 6914, 8208, 8384, 8443, 8444, 8447, 9152, 9280] ++ [9344, 9408]) s (execEngNop n s) := by
  unfold execEngNop
  try dsimp only
  repeat' first
    | with_reducible apply OutWithin.doIf
    | with_reducible apply OutWithin.next
    | with_reducible apply OutWithin.fault
    | with_reducible apply OutWithin.ite
    | exact OutWithin.mono (State.issueEngine_out _ _ _ _) (by rfl)

theorem execEngLdp_out (n : Nat) (rd ra : BitVec 4) (off : BitVec 18) (s : State) : OutWithin [.engines, .sharedMemory, .settRest, .marten, .msix, .burrow] ([4224, 4225, 4226, 4227, 4288, 4312, 4352, 4416, 4432, 4480, 4510, 4511] ++ [4928, 4942, 4944, 4952, 6914, 8192, 8208, 8384, 8443, 8444, 8447, 9152] ++ [9280, 9344, 9408]) s (execEngLdp n rd ra off s) := by
  unfold execEngLdp
  refine State.issue_out s n _ _ rfl fun e u t hu ht => ?_
  split at ht
  · cases ht
  · split at ht
    · cases ht
    · cases ht; exact Within.step (Within.step hu (State.noteRead_within u _) rfl) (State.setEngine_within _ n _) rfl

theorem execEngStp_out (n : Nat) (rd ra : BitVec 4) (off : BitVec 18) (s : State) : OutWithin [.engines, .sharedMemory, .settRest, .marten, .msix, .burrow] ([4224, 4225, 4226, 4227, 4288, 4312, 4352, 4416, 4432, 4480, 4510, 4511] ++ [4928, 4942, 4944, 4952, 6914, 8208, 8384, 8443, 8444, 8447, 9152, 9280] ++ [9344, 9408]) s (execEngStp n rd ra off s) := by
  unfold execEngStp
  refine State.issue_out s n _ _ rfl fun e u t hu ht => ?_
  split at ht
  · cases ht
  · cases ht; exact Within.step (Within.step hu (State.setEngine_within u n _) rfl) (State.setSh_within _ _ _) rfl

theorem execEngLdc_out (n : Nat) (rd ra : BitVec 4) (off : BitVec 18) (s : State) : OutWithin [.engines, .sharedMemory, .settRest, .marten, .msix, .burrow] ([4224, 4225, 4226, 4227, 4288, 4312, 4352, 4416, 4432, 4480, 4510, 4511] ++ [4928, 4942, 4944, 4952, 6914, 8192, 8208, 8384, 8443, 8444, 8447, 9152] ++ [9280, 9344, 9408]) s (execEngLdc n rd ra off s) := by
  unfold execEngLdc
  refine OutWithin.ite (OutWithin.next (Within.refl _ _ s)) (State.issue_out s n _ _ rfl fun e u t hu ht => ?_)
  split at ht
  · cases ht
  · split at ht
    · cases ht
    · split at ht
      · cases ht
      · cases ht; exact Within.step (Within.step hu (State.noteRead_within u _) rfl) (State.setEngine_within _ n _) rfl

theorem execEngStc_out (n : Nat) (rd ra : BitVec 4) (off : BitVec 18) (s : State) : OutWithin [.engines, .sharedMemory, .settRest, .marten, .msix, .burrow] ([4224, 4225, 4226, 4227, 4288, 4312, 4352, 4416, 4432, 4480, 4510, 4511] ++ [4928, 4942, 4944, 4952, 6914, 8208, 8384, 8443, 8444, 8447, 9152, 9280] ++ [9344, 9408]) s (execEngStc n rd ra off s) :=
  (State.issueEngine_out s n _ _).mono rfl

theorem execEngLdk_out (n : Nat) (rd : BitVec 4) (addr : BitVec 10) (s : State) : OutWithin [.engines, .sharedMemory, .settRest, .marten, .msix, .burrow] ([4224, 4225, 4226, 4227, 4288, 4312, 4352, 4416, 4432, 4480, 4510, 4511] ++ [4928, 4942, 4944, 4952, 6914, 8208, 8384, 8443, 8444, 8447, 9152, 9280] ++ [9344, 9408]) s (execEngLdk n rd addr s) := by
  unfold execEngLdk
  refine State.issue_out s n _ _ rfl fun e u t hu ht => ?_
  split at ht
  · split at ht
    · cases ht
    · cases ht; exact Within.step hu (State.setEngine_within u n _) rfl
  · cases ht

theorem execEngRd_out (n : Nat) (rd slot sel : BitVec 4) (s : State) :
    OutWithin [.engines, .sharedMemory, .settRest, .marten, .msix, .burrow] ([4224, 4225, 4226, 4227, 4288, 4312, 4352, 4416, 4432, 4480, 4510, 4511] ++ [4928, 4942, 4944, 4952, 6914, 8208, 8384, 8443, 8444, 8447, 9152, 9280] ++ [9344, 9408]) s (execEngRd n rd slot sel s) := by
  unfold execEngRd
  try dsimp only
  repeat' first
    | with_reducible apply OutWithin.doIf
    | with_reducible apply OutWithin.next
    | with_reducible apply OutWithin.fault
    | with_reducible apply OutWithin.ite
    | exact OutWithin.mono (State.issueEngine_out _ _ _ _) (by rfl)

theorem execEngWr_out (n : Nat) (slot ra : BitVec 4) (s : State) :
    OutWithin [.engines, .sharedMemory, .settRest, .marten, .msix, .burrow] ([4224, 4225, 4226, 4227, 4288, 4312, 4352, 4416, 4432, 4480, 4510, 4511] ++ [4928, 4942, 4944, 4952, 6914, 8208, 8384, 8443, 8444, 8447, 9152, 9280] ++ [9344, 9408]) s (execEngWr n slot ra s) := by
  unfold execEngWr
  try dsimp only
  repeat' first
    | with_reducible apply OutWithin.doIf
    | with_reducible apply OutWithin.next
    | with_reducible apply OutWithin.fault
    | with_reducible apply OutWithin.ite
    | exact OutWithin.mono (State.issueEngine_out _ _ _ _) (by rfl)

theorem execEngWpr_out (n : Nat) (slot ra : BitVec 4) (s : State) : OutWithin [.engines, .sharedMemory, .settRest, .marten, .msix, .burrow] ([4224, 4225, 4226, 4227, 4288, 4312, 4352, 4416, 4432, 4480, 4510, 4511] ++ [4928, 4942, 4944, 4952, 6914, 8192, 8208, 8384, 8443, 8444, 8447, 9152] ++ [9280, 9344, 9408]) s (execEngWpr n slot ra s) := by
  unfold execEngWpr
  refine State.issue_out s n _ _ rfl fun e u t hu ht => ?_
  dsimp only at ht
  split at ht
  · cases ht
  · split at ht
    · cases ht
    · split at ht
      · cases ht
      · split at ht
        · cases ht; exact Within.step (Within.ite (Within.step hu (State.noteRead_within u _) rfl)
            (Within.step (Within.step hu (State.noteRead_within u _) rfl) (State.noteRead_within _ _) rfl)) (State.setEngine_within _ n _) rfl
        · cases ht

theorem execEngEvt_out (n : Nat) (code : BitVec 16) (ra rb : BitVec 4) (s : State) :
    OutWithin [.engines, .sharedMemory, .settRest, .marten, .msix, .burrow] ([4224, 4225, 4226, 4227, 4288, 4312, 4352, 4416, 4432, 4480, 4510, 4511] ++ [4928, 4942, 4944, 4952, 6914, 8208, 8384, 8443, 8444, 8447, 9152, 9280] ++ [9344, 9408]) s (execEngEvt n code ra rb s) := by
  unfold execEngEvt
  try dsimp only
  repeat' first
    | with_reducible apply OutWithin.doIf
    | with_reducible apply OutWithin.next
    | with_reducible apply OutWithin.fault
    | with_reducible apply OutWithin.ite
    | exact OutWithin.mono (State.issueEngine_out _ _ _ _) (by rfl)

theorem execEngMbx_out (n : Nat) (tag : BitVec 8) (ra : BitVec 4) (s : State) :
    OutWithin [.engines, .sharedMemory, .settRest, .marten, .msix, .burrow] ([4224, 4225, 4226, 4227, 4288, 4312, 4352, 4416, 4432, 4480, 4510, 4511] ++ [4928, 4942, 4944, 4952, 6914, 8208, 8384, 8443, 8444, 8447, 9152, 9280] ++ [9344, 9408]) s (execEngMbx n tag ra s) := by
  unfold execEngMbx
  try dsimp only
  repeat' first
    | with_reducible apply OutWithin.doIf
    | with_reducible apply OutWithin.next
    | with_reducible apply OutWithin.fault
    | with_reducible apply OutWithin.ite
    | exact OutWithin.mono (State.issueEngine_out _ _ _ _) (by rfl)

theorem execEngRdst_out (n : Nat) (rd sel : BitVec 4) (s : State) :
    OutWithin [.engines, .sharedMemory, .settRest, .marten, .msix, .burrow] ([4224, 4225, 4226, 4227, 4288, 4312, 4352, 4416, 4432, 4480, 4510, 4511] ++ [4928, 4942, 4944, 4952, 6914, 8208, 8384, 8443, 8444, 8447, 9152, 9280] ++ [9344, 9408]) s (execEngRdst n rd sel s) := by
  unfold execEngRdst
  try dsimp only
  repeat' first
    | with_reducible apply OutWithin.doIf
    | with_reducible apply OutWithin.next
    | with_reducible apply OutWithin.fault
    | with_reducible apply OutWithin.ite
    | exact OutWithin.mono (State.issueEngine_out _ _ _ _) (by rfl)

theorem execEngTset_out (n : Nat) (tm : BitVec 2) (ra : BitVec 4) (s : State) :
    OutWithin [.engines, .sharedMemory, .settRest, .marten, .msix, .burrow] ([4224, 4225, 4226, 4227, 4288, 4312, 4352, 4416, 4432, 4480, 4510, 4511] ++ [4928, 4942, 4944, 4952, 6914, 8208, 8384, 8443, 8444, 8447, 9152, 9280] ++ [9344, 9408]) s (execEngTset n tm ra s) := by
  unfold execEngTset
  try dsimp only
  repeat' first
    | with_reducible apply OutWithin.doIf
    | with_reducible apply OutWithin.next
    | with_reducible apply OutWithin.fault
    | with_reducible apply OutWithin.ite
    | exact OutWithin.mono (State.issueEngine_out _ _ _ _) (by rfl)

theorem execEngTseti_out (n : Nat) (tm : BitVec 2) (imm : BitVec 18) (s : State) :
    OutWithin [.engines, .sharedMemory, .settRest, .marten, .msix, .burrow] ([4224, 4225, 4226, 4227, 4288, 4312, 4352, 4416, 4432, 4480, 4510, 4511] ++ [4928, 4942, 4944, 4952, 6914, 8208, 8384, 8443, 8444, 8447, 9152, 9280] ++ [9344, 9408]) s (execEngTseti n tm imm s) := by
  unfold execEngTseti
  try dsimp only
  repeat' first
    | with_reducible apply OutWithin.doIf
    | with_reducible apply OutWithin.next
    | with_reducible apply OutWithin.fault
    | with_reducible apply OutWithin.ite
    | exact OutWithin.mono (State.issueEngine_out _ _ _ _) (by rfl)

theorem execEngTrd_out (n : Nat) (rd : BitVec 4) (tm : BitVec 2) (s : State) :
    OutWithin [.engines, .sharedMemory, .settRest, .marten, .msix, .burrow] ([4224, 4225, 4226, 4227, 4288, 4312, 4352, 4416, 4432, 4480, 4510, 4511] ++ [4928, 4942, 4944, 4952, 6914, 8208, 8384, 8443, 8444, 8447, 9152, 9280] ++ [9344, 9408]) s (execEngTrd n rd tm s) := by
  unfold execEngTrd
  try dsimp only
  repeat' first
    | with_reducible apply OutWithin.doIf
    | with_reducible apply OutWithin.next
    | with_reducible apply OutWithin.fault
    | with_reducible apply OutWithin.ite
    | exact OutWithin.mono (State.issueEngine_out _ _ _ _) (by rfl)

theorem execPgChange_out (pin : Nat) (high : Bool) (s : State) :
    OutWithin [.zither] [] s (execPgChange pin high s) := by
  unfold execPgChange
  try dsimp only
  repeat' first
    | with_reducible apply OutWithin.doIf
    | with_reducible apply OutWithin.next
    | with_reducible apply OutWithin.fault
    | with_reducible apply OutWithin.ite
    | with_reducible apply Within.refl
    | with_reducible assumption
    | with_reducible apply Within.ite ?_ ?_
    | ((with_reducible apply Within.step ?_ (State.judgeEntries_within _) ?h1); (case h1 => rfl))
    | ((with_reducible apply Within.set_zither _ ?_ ?h1); (case h1 => rfl))

theorem execEntryWrite_out (k w : Nat) (v : BitVec 32) (s : State) :
    OutWithin [] ([2304, 2311, 2318, 2326, 2328, 2334, 2335, 2368, 2384, 2440, 2444, 2452] ++ [2496, 2511, 2512, 2527, 2847]) s (execEntryWrite k w v s) := by
  unfold execEntryWrite
  try dsimp only
  repeat' first
    | with_reducible apply OutWithin.doIf
    | with_reducible apply OutWithin.next
    | with_reducible apply OutWithin.fault
    | with_reducible apply OutWithin.ite
    | with_reducible apply Within.refl
    | with_reducible assumption
    | with_reducible apply Within.ite ?_ ?_
    | ((with_reducible apply Within.wr _ _ _ ?_ ?h1); (case h1 => first | rfl | ((simp only [entryWordFields]; repeat' split) <;> rfl)))
    | ((with_reducible apply Within.writeFlds _ _ _ ?_ ?h1); (case h1 => first | rfl | ((simp only [entryWordFields]; repeat' split) <;> rfl)))

theorem execZitherLock_out (s : State) :
    OutWithin [] [2911] s (execZitherLock s) := by
  unfold execZitherLock
  try dsimp only
  repeat' first
    | with_reducible apply OutWithin.doIf
    | with_reducible apply OutWithin.next
    | with_reducible apply OutWithin.fault
    | with_reducible apply OutWithin.ite
    | with_reducible apply Within.refl
    | with_reducible assumption
    | with_reducible apply Within.ite ?_ ?_
    | ((with_reducible apply Within.wr _ _ _ ?_ ?h1); (case h1 => rfl))

theorem execPowerUp_out (g : Nat) (via : Via) (s : State) :
    OutWithin [.zither, .msix, .hostRest, .burrow, .twin] ([2755, 2768, 2781, 2828, 2832, 2944, 6914, 7048, 7744, 7808, 9152, 9280] ++ [9344, 9408]) s (execPowerUp g via s) := by
  unfold execPowerUp
  try dsimp only
  repeat' first
    | with_reducible apply OutWithin.doIf
    | with_reducible apply OutWithin.next
    | with_reducible apply OutWithin.fault
    | with_reducible apply OutWithin.ite
    | with_reducible apply Within.refl
    | with_reducible assumption
    | with_reducible apply Within.ite ?_ ?_
    | ((with_reducible apply Within.step ?_ (State.finish_within _ _ _ _ _ _) ?h1); (case h1 => rfl))
    | ((with_reducible apply Within.step ?_ (State.powerUp_within _ _) ?h1); (case h1 => rfl))

theorem execPowerDown_out (g : Nat) (via : Via) (s : State) :
    OutWithin [.zither, .msix, .hostRest, .burrow, .twin] ([2755, 2764, 2768, 2781, 2944, 6914, 7048, 7744, 7808, 9152, 9280, 9344] ++ [9408]) s (execPowerDown g via s) := by
  unfold execPowerDown
  try dsimp only
  repeat' first
    | with_reducible apply OutWithin.doIf
    | with_reducible apply OutWithin.next
    | with_reducible apply OutWithin.fault
    | with_reducible apply OutWithin.ite
    | with_reducible apply Within.refl
    | with_reducible assumption
    | with_reducible apply Within.ite ?_ ?_
    | ((with_reducible apply Within.step ?_ (State.finish_within _ _ _ _ _ _) ?h1); (case h1 => rfl))
    | ((with_reducible apply Within.step ?_ (State.powerDown_within _ _) ?h1); (case h1 => rfl))

theorem execPendingPowerUpStart_out (g : Nat) (s : State) :
    OutWithin [.zither, .msix, .burrow, .twin] [2755, 2768, 2781, 2828, 2832, 2944, 6914, 9152, 9280, 9344, 9408] s (execPendingPowerUpStart g s) := by
  unfold execPendingPowerUpStart
  try dsimp only
  repeat' first
    | with_reducible apply OutWithin.doIf
    | with_reducible apply OutWithin.next
    | with_reducible apply OutWithin.fault
    | with_reducible apply OutWithin.ite
    | with_reducible apply Within.refl
    | with_reducible assumption
    | with_reducible apply Within.ite ?_ ?_
    | ((with_reducible apply Within.step ?_ (State.startUp_within _ _) ?h1); (case h1 => rfl))

theorem execEntryDue_out (k : Nat) (s : State) :
    OutWithin [.zither] [] s (execEntryDue k s) := by
  unfold execEntryDue
  try dsimp only
  repeat' first
    | with_reducible apply OutWithin.doIf
    | with_reducible apply OutWithin.next
    | with_reducible apply OutWithin.fault
    | with_reducible apply OutWithin.ite
    | with_reducible apply Within.refl
    | with_reducible assumption
    | with_reducible apply Within.ite ?_ ?_
    | ((with_reducible apply Within.step ?_ (State.setZent_within _ _ _) ?h1); (case h1 => rfl))

theorem execEntryGood_out (k : Nat) (s : State) :
    OutWithin [.zither, .msix, .burrow] [2781, 6914, 9152, 9280, 9344, 9408] s (execEntryGood k s) := by
  unfold execEntryGood
  try dsimp only
  repeat' first
    | with_reducible apply OutWithin.doIf
    | with_reducible apply OutWithin.next
    | with_reducible apply OutWithin.fault
    | with_reducible apply OutWithin.ite
    | with_reducible apply Within.refl
    | with_reducible assumption
    | with_reducible apply Within.ite ?_ ?_
    | ((with_reducible apply Within.wr _ _ _ ?_ ?h1); (case h1 => rfl))
    | ((with_reducible apply Within.step ?_ (State.record_within _ _ _ _) ?h1); (case h1 => rfl))
    | ((with_reducible apply Within.step ?_ (State.setZent_within _ _ _) ?h1); (case h1 => rfl))
    | ((with_reducible apply Within.step ?_ (State.setZgrp_within _ _ _) ?h1); (case h1 => rfl))

theorem execGoodDeadlineExpiry_out (k : Nat) (s : State) :
    OutWithin [.zither, .msix, .burrow, .twin] [2756, 2764, 2781, 2944, 6914, 9152, 9280, 9344, 9408] s (execGoodDeadlineExpiry k s) := by
  unfold execGoodDeadlineExpiry
  try dsimp only
  repeat' first
    | with_reducible apply OutWithin.doIf
    | with_reducible apply OutWithin.next
    | with_reducible apply OutWithin.fault
    | with_reducible apply OutWithin.ite
    | with_reducible apply Within.refl
    | with_reducible assumption
    | with_reducible apply Within.ite ?_ ?_
    | ((with_reducible apply Within.step ?_ (State.abort_within _ _ _ _) ?h1); (case h1 => rfl))
    | ((with_reducible apply Within.step ?_ (State.record_within _ _ _ _) ?h1); (case h1 => rfl))

theorem execFalseGoodInterval_out (k : Nat) (s : State) :
    OutWithin [.zither, .msix, .burrow, .twin] [2756, 2764, 2781, 2944, 6914, 9152, 9280, 9344, 9408] s (execFalseGoodInterval k s) := by
  unfold execFalseGoodInterval
  try dsimp only
  repeat' first
    | with_reducible apply OutWithin.doIf
    | with_reducible apply OutWithin.next
    | with_reducible apply OutWithin.fault
    | with_reducible apply OutWithin.ite
    | with_reducible apply Within.refl
    | with_reducible assumption
    | with_reducible apply Within.ite ?_ ?_
    | ((with_reducible apply Within.step ?_ (State.abort_within _ _ _ _) ?h1); (case h1 => rfl))
    | ((with_reducible apply Within.step ?_ (State.record_within _ _ _ _) ?h1); (case h1 => rfl))
    | ((with_reducible apply Within.step ?_ (State.setZent_within _ _ _) ?h1); (case h1 => rfl))

theorem execPgLostDeadline_out (k : Nat) (s : State) :
    OutWithin [.zither, .msix, .burrow, .twin] [2756, 2764, 2781, 2944, 6914, 9152, 9280, 9344, 9408] s (execPgLostDeadline k s) := by
  unfold execPgLostDeadline
  try dsimp only
  repeat' first
    | with_reducible apply OutWithin.doIf
    | with_reducible apply OutWithin.next
    | with_reducible apply OutWithin.fault
    | with_reducible apply OutWithin.ite
    | with_reducible apply Within.refl
    | with_reducible assumption
    | with_reducible apply Within.ite ?_ ?_
    | ((with_reducible apply Within.step ?_ (State.abort_within _ _ _ _) ?h1); (case h1 => rfl))
    | ((with_reducible apply Within.step ?_ (State.record_within _ _ _ _) ?h1); (case h1 => rfl))
    | ((with_reducible apply Within.step ?_ (State.setZent_within _ _ _) ?h1); (case h1 => rfl))

theorem execPowerDownEntryDue_out (k : Nat) (s : State) :
    OutWithin [.zither] [] s (execPowerDownEntryDue k s) := by
  unfold execPowerDownEntryDue
  try dsimp only
  repeat' first
    | with_reducible apply OutWithin.doIf
    | with_reducible apply OutWithin.next
    | with_reducible apply OutWithin.fault
    | with_reducible apply OutWithin.ite
    | with_reducible apply Within.refl
    | with_reducible assumption
    | with_reducible apply Within.ite ?_ ?_
    | ((with_reducible apply Within.step ?_ (State.setZent_within _ _ _) ?h1); (case h1 => rfl))

theorem execOffConfirmed_out (k : Nat) (s : State) :
    OutWithin [.zither, .msix, .burrow] [2781, 6914, 9152, 9280, 9344, 9408] s (execOffConfirmed k s) := by
  unfold execOffConfirmed
  try dsimp only
  repeat' first
    | with_reducible apply OutWithin.doIf
    | with_reducible apply OutWithin.next
    | with_reducible apply OutWithin.fault
    | with_reducible apply OutWithin.ite
    | with_reducible apply Within.refl
    | with_reducible assumption
    | with_reducible apply Within.ite ?_ ?_
    | ((with_reducible apply Within.step ?_ (State.checkOff_within _ _) ?h1); (case h1 => rfl))
    | ((with_reducible apply Within.step ?_ (State.setZent_within _ _ _) ?h1); (case h1 => rfl))

theorem execOffDeadlineExpiry_out (k : Nat) (s : State) :
    OutWithin [.zither, .msix, .burrow] [2754, 2781, 6914, 9152, 9280, 9344, 9408] s (execOffDeadlineExpiry k s) := by
  unfold execOffDeadlineExpiry
  try dsimp only
  repeat' first
    | with_reducible apply OutWithin.doIf
    | with_reducible apply OutWithin.next
    | with_reducible apply OutWithin.fault
    | with_reducible apply OutWithin.ite
    | with_reducible apply Within.refl
    | with_reducible assumption
    | with_reducible apply Within.ite ?_ ?_
    | ((with_reducible apply Within.wr _ _ _ ?_ ?h1); (case h1 => rfl))
    | ((with_reducible apply Within.step ?_ (State.checkOff_within _ _) ?h1); (case h1 => rfl))
    | ((with_reducible apply Within.step ?_ (State.record_within _ _ _ _) ?h1); (case h1 => rfl))
    | ((with_reducible apply Within.step ?_ (State.setZent_within _ _ _) ?h1); (case h1 => rfl))

theorem execDwellEnd_out (g : Nat) (s : State) :
    OutWithin [.zither, .msix, .burrow, .twin] [2755, 2768, 2781, 2828, 2832, 2944, 6914, 9152, 9280, 9344, 9408] s (execDwellEnd g s) := by
  unfold execDwellEnd
  try dsimp only
  repeat' first
    | with_reducible apply OutWithin.doIf
    | with_reducible apply OutWithin.next
    | with_reducible apply OutWithin.fault
    | with_reducible apply OutWithin.ite
    | with_reducible apply Within.refl
    | with_reducible assumption
    | with_reducible apply Within.ite ?_ ?_
    | ((with_reducible apply Within.wr _ _ _ ?_ ?h1); (case h1 => rfl))
    | ((with_reducible apply Within.step ?_ (State.upOrPend_within _ _) ?h1); (case h1 => rfl))

theorem execEnRedrive_out (s : State) :
    OutWithin [.zither, .burrow] [3329] s (execEnRedrive s) := by
  unfold execEnRedrive
  try dsimp only
  repeat' first
    | with_reducible apply OutWithin.doIf
    | with_reducible apply OutWithin.next
    | with_reducible apply OutWithin.fault
    | with_reducible apply OutWithin.ite
    | with_reducible apply Within.refl
    | with_reducible assumption
    | with_reducible apply Within.ite ?_ ?_
    | ((with_reducible apply Within.wr _ _ _ ?_ ?h1); (case h1 => rfl))
    | split
    | ((with_reducible apply Within.lit ?tt ?_ ?h1 ?h2 ?h3 ?h4); (case h1 => with_reducible rfl); (case h2 => intro b hb; cases b <;> first | exact absurd (by decide) hb | rfl); (case h3 => exact id); (case h4 => intro hb; first | exact hb | rfl))

theorem execInputCollapse_out (s : State) : OutWithin [.zither, .feed, .msix, .burrow, .twin] [2764, 2781, 3329, 3357, 6914, 9152, 9280, 9408] s (execInputCollapse s) := by
  unfold execInputCollapse
  extract_lets mask good lost t1 t2 t3 seq feed t4
  have h1 : Within [.zither, .feed, .msix, .burrow, .twin] [2764, 2781, 3329, 3357, 6914, 9152, 9280, 9408] s t1 := Within.step (Within.refl _ _ s) (State.releasePads_within s) rfl
  clear_value t1 seq feed good lost
  have h2 : Within [.zither, .feed, .msix, .burrow, .twin] [2764, 2781, 3329, 3357, 6914, 9152, 9280, 9408] s t2 :=
    Within.ite (Within.step (Within.step h1 (State.ghsLow_within _) rfl) (State.setIns_within _ _) rfl) h1
  clear_value t2
  have h3 : Within [.zither, .feed, .msix, .burrow, .twin] [2764, 2781, 3329, 3357, 6914, 9152, 9280, 9408] s t3 := Within.step (h2.wr _ _ _ rfl) (State.judgeSpans_within _) rfl
  clear_value t3
  have h4 : Within [.zither, .feed, .msix, .burrow, .twin] [2764, 2781, 3329, 3357, 6914, 9152, 9280, 9408] s t4 := Within.set_burrow _ h3 rfl (fun hq => by simp only [Burrow.collapse]; (repeat' split) <;> exact hq)
  clear_value t4
  exact OutWithin.doIf (Within.step (Within.step (Within.step h4 (State.offerMirror_within _ _) rfl) (State.offerMirror_within _ _) rfl)
    (State.eventInt_within _) rfl)

theorem execFeedWindowCommit_out (n : Nat) (v : BitVec 32) (s : State) :
    OutWithin [.sense] [581, 3356, 3584, 3585, 3587, 3588, 3589, 3590, 3591, 3592, 3600] s (execFeedWindowCommit n v s) := by
  unfold execFeedWindowCommit
  try dsimp only
  repeat' first
    | with_reducible apply OutWithin.doIf
    | with_reducible apply OutWithin.next
    | with_reducible apply OutWithin.fault
    | with_reducible apply OutWithin.ite
    | with_reducible apply Within.refl
    | with_reducible assumption
    | with_reducible apply Within.ite ?_ ?_
    | ((with_reducible apply Within.wr _ _ _ ?_ ?h1); (case h1 => rfl))
    | ((with_reducible apply Within.writeFlds _ _ _ ?_ ?h1); (case h1 => rfl))
    | ((with_reducible apply Within.step ?_ (State.setWin_within _ _ _) ?h1); (case h1 => rfl))

theorem execFeedGateOn_out (b : Bool) (s : State) :
    OutWithin [.feed, .msix, .burrow] [3335, 3337, 6914, 9152, 9280, 9344, 9408] s (execFeedGateOn b s) := by
  unfold execFeedGateOn
  try dsimp only
  repeat' first
    | with_reducible apply OutWithin.doIf
    | with_reducible apply OutWithin.next
    | with_reducible apply OutWithin.fault
    | with_reducible apply OutWithin.ite
    | with_reducible apply Within.refl
    | with_reducible assumption
    | with_reducible apply Within.ite ?_ ?_
    | ((with_reducible apply Within.step ?_ (State.judgeSpans_within _) ?h1); (case h1 => rfl))
    | ((with_reducible apply Within.step ?_ (State.setGate_within _ _ _) ?h1); (case h1 => rfl))
    | ((with_reducible apply Within.step ?_ (State.setSide_within _ _ _) ?h1); (case h1 => rfl))

theorem execGateCheckExpiry_out (g : Nat) (s : State) :
    OutWithin [.zither, .feed, .msix, .burrow, .twin] [2764, 2781, 3335, 3337, 3339, 3352, 3357, 6914, 9152, 9280, 9344, 9408] s (execGateCheckExpiry g s) := by
  unfold execGateCheckExpiry
  try dsimp only
  repeat' first
    | with_reducible apply OutWithin.doIf
    | with_reducible apply OutWithin.next
    | with_reducible apply OutWithin.fault
    | with_reducible apply OutWithin.ite
    | with_reducible apply Within.refl
    | with_reducible assumption
    | with_reducible apply Within.ite ?_ ?_
    | ((with_reducible apply Within.step ?_ (State.damage_within _ _) ?h1); (case h1 => rfl))

theorem execFeedReverseDue_out (b : Bool) (s : State) :
    OutWithin [.feed, .msix, .burrow] [6914, 9152, 9280, 9344, 9408] s (execFeedReverseDue b s) := by
  unfold execFeedReverseDue
  try dsimp only
  repeat' first
    | with_reducible apply OutWithin.doIf
    | with_reducible apply OutWithin.next
    | with_reducible apply OutWithin.fault
    | with_reducible apply OutWithin.ite
    | with_reducible apply Within.refl
    | with_reducible assumption
    | with_reducible apply Within.ite ?_ ?_
    | ((with_reducible apply Within.step ?_ (State.reverseRecord_within _ _) ?h1); (case h1 => rfl))

theorem execSettleExpiry_out (s : State) :
    OutWithin [.feed, .twin] [3357, 3392] s (execSettleExpiry s) := by
  unfold execSettleExpiry
  try dsimp only
  repeat' first
    | with_reducible apply OutWithin.doIf
    | with_reducible apply OutWithin.next
    | with_reducible apply OutWithin.fault
    | with_reducible apply OutWithin.ite
    | with_reducible apply Within.refl
    | with_reducible assumption
    | with_reducible apply Within.ite ?_ ?_
    | ((with_reducible apply Within.step ?_ (State.rampStart_within _) ?h1); (case h1 => rfl))
    | ((with_reducible apply Within.step ?_ (State.setIns_within _ _) ?h1); (case h1 => rfl))

theorem execRampEnd_out (s : State) :
    OutWithin [.feed, .msix, .burrow, .twin] [3357, 6914, 9152, 9280, 9344, 9408] s (execRampEnd s) := by
  unfold execRampEnd
  try dsimp only
  repeat' first
    | with_reducible apply OutWithin.doIf
    | with_reducible apply OutWithin.next
    | with_reducible apply OutWithin.fault
    | with_reducible apply OutWithin.ite
    | with_reducible apply Within.refl
    | with_reducible assumption
    | with_reducible apply Within.ite ?_ ?_
    | ((with_reducible apply Within.step ?_ (State.confirmGhs_within _) ?h1); (case h1 => rfl))
    | ((with_reducible apply Within.set_feed _ ?_ ?h1); (case h1 => rfl))

theorem execRampShortfallExpiry_out (s : State) :
    OutWithin [.zither, .feed, .msix, .burrow, .twin] [2764, 2781, 3339, 3352, 3357, 6914, 9152, 9280, 9344, 9408] s (execRampShortfallExpiry s) := by
  unfold execRampShortfallExpiry
  try dsimp only
  repeat' first
    | with_reducible apply OutWithin.doIf
    | with_reducible apply OutWithin.next
    | with_reducible apply OutWithin.fault
    | with_reducible apply OutWithin.ite
    | with_reducible apply Within.refl
    | with_reducible assumption
    | with_reducible apply Within.ite ?_ ?_
    | ((with_reducible apply Within.step ?_ (State.trip_within _ _) ?h1); (case h1 => rfl))

theorem execRampDeadlineExpiry_out (s : State) :
    OutWithin [.zither, .feed, .msix, .burrow, .twin] [2764, 2781, 3339, 3352, 3357, 6914, 9152, 9280, 9344, 9408] s (execRampDeadlineExpiry s) := by
  unfold execRampDeadlineExpiry
  try dsimp only
  repeat' first
    | with_reducible apply OutWithin.doIf
    | with_reducible apply OutWithin.next
    | with_reducible apply OutWithin.fault
    | with_reducible apply OutWithin.ite
    | with_reducible apply Within.refl
    | with_reducible assumption
    | with_reducible apply Within.ite ?_ ?_
    | ((with_reducible apply Within.step ?_ (State.trip_within _ _) ?h1); (case h1 => rfl))

theorem execTimedFuseExpiry_out (s : State) :
    OutWithin [.zither, .feed, .msix, .burrow, .twin] [2764, 2781, 3339, 3352, 3357, 6914, 9152, 9280, 9344, 9408] s (execTimedFuseExpiry s) := by
  unfold execTimedFuseExpiry
  try dsimp only
  repeat' first
    | with_reducible apply OutWithin.doIf
    | with_reducible apply OutWithin.next
    | with_reducible apply OutWithin.fault
    | with_reducible apply OutWithin.ite
    | with_reducible apply Within.refl
    | with_reducible assumption
    | with_reducible apply Within.ite ?_ ?_
    | ((with_reducible apply Within.step ?_ (State.trip_within _ _) ?h1); (case h1 => rfl))

theorem execRetryTimerExpiry_out (s : State) :
    OutWithin [.twin] [3357] s (execRetryTimerExpiry s) := by
  unfold execRetryTimerExpiry
  try dsimp only
  repeat' first
    | with_reducible apply OutWithin.doIf
    | with_reducible apply OutWithin.next
    | with_reducible apply OutWithin.fault
    | with_reducible apply OutWithin.ite
    | with_reducible apply Within.refl
    | with_reducible assumption
    | with_reducible apply Within.ite ?_ ?_
    | ((with_reducible apply Within.step ?_ (State.setIns_within _ _) ?h1); (case h1 => rfl))

theorem execTripClearTimer_out (s : State) :
    OutWithin [.msix, .burrow] [3339, 6914, 9152, 9280, 9344, 9408] s (execTripClearTimer s) := by
  unfold execTripClearTimer
  try dsimp only
  repeat' first
    | with_reducible apply OutWithin.doIf
    | with_reducible apply OutWithin.next
    | with_reducible apply OutWithin.fault
    | with_reducible apply OutWithin.ite
    | with_reducible apply Within.refl
    | with_reducible assumption
    | with_reducible apply Within.ite ?_ ?_
    | ((with_reducible apply Within.wr _ _ _ ?_ ?h1); (case h1 => rfl))
    | ((with_reducible apply Within.step ?_ (State.record_within _ _ _ _) ?h1); (case h1 => rfl))

/-- A feed command given by a descriptor or by tray firmware: `r` is its effect with its status. -/
theorem State.feedCmd_out (s : State) (cmd : Nat) (via : Via) (r : State × Nat) {bs : List Block} {cs : List Nat}
    (hc : covers bs [.msix, .hostRest] cs [3344, 7048, 7744, 7808] = true) (hr : Within bs cs s r.1) : OutWithin bs cs s (State.feedCmd s cmd via r) := by
  have up : ∀ t u, Within bs cs s t → Within [.msix, .hostRest] [3344, 7048, 7744, 7808] t u → Within bs cs s u := fun t u ht h => Within.step ht h hc
  unfold State.feedCmd
  refine OutWithin.doIf (Within.ite ?_ ?_)
  · exact up s _ (Within.refl _ _ s) (Within.step (Within.refl _ _ s) (State.finish_within s _ _ _ _ _) rfl)
  · exact up _ _ hr (Within.step ((Within.refl _ _ r.1).wr _ _ _ rfl) (State.finish_within _ _ _ _ _ _) rfl)

theorem execFeedClear_out (via : Via) (s : State) : OutWithin [.msix, .hostRest, .burrow, .twin] ([3335, 3337, 3339, 3344, 3357, 6914, 7048, 7744, 7808, 9152, 9280, 9344] ++ [9408]) s (execFeedClear via s) := by
  unfold execFeedClear
  cases h : s.feedClear 0 with
  | some t => exact State.feedCmd_out s 1 via (t, St.ok) rfl (Within.step (Within.refl _ _ s) (State.feedClear_within s t 0 h) rfl)
  | none => exact State.feedCmd_out s 1 via (s, _) rfl (Within.refl _ _ s)

theorem execForceOff_out (via : Via) (s : State) : OutWithin [.feed, .msix, .hostRest, .twin] [3344, 3357, 7048, 7744, 7808] s (execForceOff via s) := by
  unfold execForceOff
  refine State.feedCmd_out s 2 via _ rfl ?_
  split
  · exact Within.step (Within.step (Within.refl _ _ s) (State.ghsLow_within s) rfl) (State.setIns_within _ 7) rfl
  · exact Within.refl _ _ s

theorem execFeedRelease_out (via : Via) (s : State) : OutWithin [.msix, .hostRest, .twin] [3344, 3357, 7048, 7744, 7808] s (execFeedRelease via s) := by
  unfold execFeedRelease
  refine State.feedCmd_out s 3 via _ rfl ?_
  split
  · exact Within.step (Within.refl _ _ s) (State.setIns_within s 0) rfl
  · exact Within.refl _ _ s

theorem execFeedLock_out (s : State) :
    OutWithin [] [3039] s (execFeedLock s) := by
  unfold execFeedLock
  try dsimp only
  repeat' first
    | with_reducible apply OutWithin.doIf
    | with_reducible apply OutWithin.next
    | with_reducible apply OutWithin.fault
    | with_reducible apply OutWithin.ite
    | with_reducible apply Within.refl
    | with_reducible assumption
    | with_reducible apply Within.ite ?_ ?_
    | ((with_reducible apply Within.wr _ _ _ ?_ ?h1); (case h1 => rfl))

theorem execLeverOpen_out (s : State) :
    OutWithin [.zither, .feed, .msix, .burrow, .twin] [2755, 2764, 2768, 2781, 2944, 3331, 3357, 6914, 9152, 9280, 9344, 9408] s (execLeverOpen s) := by
  unfold execLeverOpen
  try dsimp only
  repeat' first
    | with_reducible apply OutWithin.doIf
    | with_reducible apply OutWithin.next
    | with_reducible apply OutWithin.fault
    | with_reducible apply OutWithin.ite
    | with_reducible apply Within.refl
    | with_reducible assumption
    | with_reducible apply Within.ite ?_ ?_
    | ((with_reducible apply Within.wr _ _ _ ?_ ?h1); (case h1 => rfl))
    | ((with_reducible apply Within.step ?_ (State.judgeSpans_within _) ?h1); (case h1 => rfl))
    | ((with_reducible apply Within.step ?_ (State.powerDown_within _ _) ?h1); (case h1 => rfl))
    | ((with_reducible apply Within.step ?_ (State.record_within _ _ _ _) ?h1); (case h1 => rfl))
    | ((with_reducible apply Within.step ?_ (State.setIns_within _ _) ?h1); (case h1 => rfl))
    | with_reducible apply Within.each _ _ ?_ (fun _ _ _ _ => ?_)
    | ((with_reducible apply Within.set_feed _ ?_ ?h1); (case h1 => rfl))

theorem execLeverClosed_out (s : State) :
    OutWithin [.feed, .msix, .burrow] [3331, 6914, 9152, 9280, 9344, 9408] s (execLeverClosed s) := by
  unfold execLeverClosed
  try dsimp only
  repeat' first
    | with_reducible apply OutWithin.doIf
    | with_reducible apply OutWithin.next
    | with_reducible apply OutWithin.fault
    | with_reducible apply OutWithin.ite
    | with_reducible apply Within.refl
    | with_reducible assumption
    | with_reducible apply Within.ite ?_ ?_
    | ((with_reducible apply Within.wr _ _ _ ?_ ?h1); (case h1 => rfl))
    | ((with_reducible apply Within.step ?_ (State.judgeSpans_within _) ?h1); (case h1 => rfl))
    | ((with_reducible apply Within.step ?_ (State.record_within _ _ _ _) ?h1); (case h1 => rfl))

theorem execRemovalEnd_out (s : State) :
    OutWithin [.feed, .twin] [3357] s (execRemovalEnd s) := by
  unfold execRemovalEnd
  try dsimp only
  repeat' first
    | with_reducible apply OutWithin.doIf
    | with_reducible apply OutWithin.next
    | with_reducible apply OutWithin.fault
    | with_reducible apply OutWithin.ite
    | with_reducible apply Within.refl
    | with_reducible assumption
    | with_reducible apply Within.ite ?_ ?_
    | ((with_reducible apply Within.step ?_ (State.ghsLow_within _) ?h1); (case h1 => rfl))
    | ((with_reducible apply Within.step ?_ (State.setIns_within _ _) ?h1); (case h1 => rfl))

theorem execDischTimeout_out (s : State) :
    OutWithin [.feed, .msix, .burrow] [6914, 9152, 9280, 9344, 9408] s (execDischTimeout s) := by
  unfold execDischTimeout
  try dsimp only
  repeat' first
    | with_reducible apply OutWithin.doIf
    | with_reducible apply OutWithin.next
    | with_reducible apply OutWithin.fault
    | with_reducible apply OutWithin.ite
    | with_reducible apply Within.refl
    | with_reducible assumption
    | with_reducible apply Within.ite ?_ ?_
    | ((with_reducible apply Within.step ?_ (State.record_within _ _ _ _) ?h1); (case h1 => rfl))
    | ((with_reducible apply Within.set_feed _ ?_ ?h1); (case h1 => rfl))

theorem execBurrowReplay_out (s : State) :
    OutWithin [.feed, .msix, .burrow, .twin] [3335, 3337, 3339, 3357, 6914, 9152, 9280, 9344, 9408] s (execBurrowReplay s) := by
  unfold execBurrowReplay
  try dsimp only
  repeat' first
    | with_reducible apply OutWithin.doIf
    | with_reducible apply OutWithin.next
    | with_reducible apply OutWithin.fault
    | with_reducible apply OutWithin.ite
    | with_reducible apply Within.refl
    | with_reducible assumption
    | with_reducible apply Within.ite ?_ ?_
    | ((with_reducible apply Within.step ?_ (State.replayIns_within _ _) ?h1); (case h1 => rfl))
    | ((with_reducible apply Within.step ?_ (State.setGate_within _ _ _) ?h1); (case h1 => rfl))
    | ((with_reducible apply Within.set_feed _ ?_ ?h1); (case h1 => rfl))

theorem execHoldExpiry_out (w : Nat) (s : State) :
    OutWithin [.harps] [3742] s (execHoldExpiry w s) := by
  unfold execHoldExpiry
  try dsimp only
  repeat' first
    | with_reducible apply OutWithin.doIf
    | with_reducible apply OutWithin.next
    | with_reducible apply OutWithin.fault
    | with_reducible apply OutWithin.ite
    | with_reducible apply Within.refl
    | with_reducible assumption
    | with_reducible apply Within.ite ?_ ?_
    | ((with_reducible apply Within.wr _ _ _ ?_ ?h1); (case h1 => rfl))
    | ((with_reducible apply Within.step ?_ (State.setHarp_within _ _ _) ?h1); (case h1 => rfl))

theorem execWalrtQualified_out (w : Nat) (low : Bool) (s : State) :
    OutWithin [.harps, .msix, .burrow] [3735, 3742, 3776, 6914, 9152, 9280, 9344, 9408] s (execWalrtQualified w low s) := by
  unfold execWalrtQualified
  try dsimp only
  repeat' first
    | with_reducible apply OutWithin.doIf
    | with_reducible apply OutWithin.next
    | with_reducible apply OutWithin.fault
    | with_reducible apply OutWithin.ite
    | with_reducible apply Within.refl
    | with_reducible assumption
    | with_reducible apply Within.ite ?_ ?_
    | ((with_reducible apply Within.wrBit _ _ _ ?_ ?h1); (case h1 => rfl))
    | ((with_reducible apply Within.step ?_ (State.harpJudge_within _) ?h1); (case h1 => rfl))
    | ((with_reducible apply Within.step ?_ (State.record_within _ _ _ _) ?h1); (case h1 => rfl))

theorem execFloorWrite_out (w : Nat) (code : BitVec 2) (s : State) :
    OutWithin [.harps, .msix, .burrow, .twin] [3656, 3742, 3776, 6914, 9152, 9280, 9344, 9408] s (execFloorWrite w code s) := by
  unfold execFloorWrite
  try dsimp only
  repeat' first
    | with_reducible apply OutWithin.doIf
    | with_reducible apply OutWithin.next
    | with_reducible apply OutWithin.fault
    | with_reducible apply OutWithin.ite
    | with_reducible apply Within.refl
    | with_reducible assumption
    | with_reducible apply Within.ite ?_ ?_
    | ((with_reducible apply Within.wr _ _ _ ?_ ?h1); (case h1 => rfl))
    | ((with_reducible apply Within.step ?_ (State.harpJudge_within _) ?h1); (case h1 => rfl))
    | ((with_reducible apply Within.step ?_ (State.tellTwin_within _ _) ?h1); (case h1 => rfl))

theorem execAvsFrameDone_out (w : Nat) (resp : Option (BitVec 12)) (s : State) :
    OutWithin [.harps, .msix, .burrow] [3910, 3911, 3912, 3924, 6914, 9152, 9280, 9344, 9408] s (execAvsFrameDone w resp s) := by
  unfold execAvsFrameDone
  try dsimp only
  repeat' first
    | with_reducible apply OutWithin.doIf
    | with_reducible apply OutWithin.next
    | with_reducible apply OutWithin.fault
    | with_reducible apply OutWithin.ite
    | with_reducible apply Within.refl
    | with_reducible assumption
    | with_reducible apply Within.ite ?_ ?_
    | ((with_reducible apply Within.wr _ _ _ ?_ ?h1); (case h1 => rfl))
    | ((with_reducible apply Within.step ?_ (State.avsNext_within _ _) ?h1); (case h1 => rfl))
    | ((with_reducible apply Within.step ?_ (State.avsStart_within _ _ _) ?h1); (case h1 => rfl))
    | ((with_reducible apply Within.step ?_ (State.record_within _ _ _ _) ?h1); (case h1 => rfl))
    | split

theorem execAvsResend_out (w : Nat) (s : State) :
    OutWithin [.harps] [3911] s (execAvsResend w s) := by
  unfold execAvsResend
  try dsimp only
  repeat' first
    | with_reducible apply OutWithin.doIf
    | with_reducible apply OutWithin.next
    | with_reducible apply OutWithin.fault
    | with_reducible apply OutWithin.ite
    | with_reducible apply Within.refl
    | with_reducible assumption
    | with_reducible apply Within.ite ?_ ?_
    | ((with_reducible apply Within.step ?_ (State.avsStart_within _ _ _) ?h1); (case h1 => rfl))
    | split

theorem execAvsPoll_out (w : Nat) (status : Bool) (s : State) :
    OutWithin [.harps] [3911] s (execAvsPoll w status s) := by
  unfold execAvsPoll
  try dsimp only
  repeat' first
    | with_reducible apply OutWithin.doIf
    | with_reducible apply OutWithin.next
    | with_reducible apply OutWithin.fault
    | with_reducible apply OutWithin.ite
    | with_reducible apply Within.refl
    | with_reducible assumption
    | with_reducible apply Within.ite ?_ ?_
    | ((with_reducible apply Within.step ?_ (State.avsStart_within _ _ _) ?h1); (case h1 => rfl))
    | ((with_reducible apply Within.step ?_ (State.setHarp_within _ _ _) ?h1); (case h1 => rfl))

theorem execRingEnable_out (r : Nat) (v : BitVec 32) (s : State) :
    OutWithin [.msix, .hostRest, .burrow] ([6914, 6984, 6991, 6996, 7000, 7007, 7048, 7056, 7070, 7680, 7744, 7872] ++ [7936, 9152, 9280, 9344, 9408]) s (execRingEnable r v s) := by
  unfold execRingEnable
  try dsimp only
  repeat' first
    | with_reducible apply OutWithin.doIf
    | with_reducible apply OutWithin.next
    | with_reducible apply OutWithin.fault
    | with_reducible apply OutWithin.ite
    | with_reducible apply Within.refl
    | with_reducible assumption
    | with_reducible apply Within.ite ?_ ?_
    | ((with_reducible apply Within.wr _ _ _ ?_ ?h1); (case h1 => rfl))
    | ((with_reducible apply Within.writeFlds _ _ _ ?_ ?h1); (case h1 => rfl))
    | ((with_reducible apply Within.step ?_ (State.record_within _ _ _ _) ?h1); (case h1 => rfl))
    | ((with_reducible apply Within.step ?_ (State.setPair_within _ _ _) ?h1); (case h1 => rfl))

theorem execRingDisable_out (r : Nat) (v : BitVec 32) (s : State) :
    OutWithin [.msix, .hostRest, .ports, .wards, .recorderRest, .secure, .burrow] ([6914, 6984, 6991, 6996, 7000, 7007, 7040, 7048, 7070, 7744, 7808, 9152] ++ [9280, 9344, 9408]) s (execRingDisable r v s) := by
  unfold execRingDisable
  try dsimp only
  repeat' first
    | with_reducible apply OutWithin.doIf
    | with_reducible apply OutWithin.next
    | with_reducible apply OutWithin.fault
    | with_reducible apply OutWithin.ite
    | with_reducible apply Within.refl
    | with_reducible assumption
    | with_reducible apply Within.ite ?_ ?_
    | ((with_reducible apply Within.writeFlds _ _ _ ?_ ?h1); (case h1 => rfl))
    | ((with_reducible apply Within.step ?_ (State.disablePair_within _ _) ?h1); (case h1 => rfl))

theorem execSqDoorbell_out (r : Nat) (v : BitVec 32) (s : State) :
    OutWithin [] [7872] s (execSqDoorbell r v s) := by
  unfold execSqDoorbell
  try dsimp only
  repeat' first
    | with_reducible apply OutWithin.doIf
    | with_reducible apply OutWithin.next
    | with_reducible apply OutWithin.fault
    | with_reducible apply OutWithin.ite
    | with_reducible apply Within.refl
    | with_reducible assumption
    | with_reducible apply Within.ite ?_ ?_
    | ((with_reducible apply Within.wr _ _ _ ?_ ?h1); (case h1 => rfl))

theorem execCqDoorbell_out (r : Nat) (v : BitVec 32) (s : State) :
    OutWithin [.msix, .hostRest] [7744, 7936] s (execCqDoorbell r v s) := by
  unfold execCqDoorbell
  try dsimp only
  repeat' first
    | with_reducible apply OutWithin.doIf
    | with_reducible apply OutWithin.next
    | with_reducible apply OutWithin.fault
    | with_reducible apply OutWithin.ite
    | with_reducible apply Within.refl
    | with_reducible assumption
    | with_reducible apply Within.ite ?_ ?_
    | ((with_reducible apply Within.wr _ _ _ ?_ ?h1); (case h1 => rfl))
    | ((with_reducible apply Within.step ?_ (State.flushSub_within _ _ _) ?h1); (case h1 => rfl))
    | with_reducible apply Within.each _ _ ?_ (fun _ _ _ _ => ?_)

theorem execDescriptorFetch_out (r : Nat) (d : Desc) (s : State) :
    OutWithin [.msix, .hostRest] [7048, 7680, 7744, 7808] s (execDescriptorFetch r d s) := by
  unfold execDescriptorFetch
  try dsimp only
  repeat' first
    | with_reducible apply OutWithin.doIf
    | with_reducible apply OutWithin.next
    | with_reducible apply OutWithin.fault
    | with_reducible apply OutWithin.ite
    | with_reducible apply Within.refl
    | with_reducible assumption
    | with_reducible apply Within.ite ?_ ?_
    | ((with_reducible apply Within.wr _ _ _ ?_ ?h1); (case h1 => rfl))
    | ((with_reducible apply Within.step ?_ (State.complete_within _ _ _ _ _ _ _) ?h1); (case h1 => rfl))
    | ((with_reducible apply Within.step ?_ (State.setPair_within _ _ _) ?h1); (case h1 => rfl))
    | split
    | ((with_reducible apply Within.set_msix _ ?_ ?h1 ?h2); (case h1 => rfl); (case h2 => with_reducible rfl))
    | ((with_reducible apply Within.set_hostRest _ ?_ ?h1 ?h2); (case h1 => rfl); (case h2 => with_reducible rfl))

theorem execCoalesceTimeout_out (r : Nat) (s : State) :
    OutWithin [.msix, .hostRest] [] s (execCoalesceTimeout r s) := by
  unfold execCoalesceTimeout
  try dsimp only
  repeat' first
    | with_reducible apply OutWithin.doIf
    | with_reducible apply OutWithin.next
    | with_reducible apply OutWithin.fault
    | with_reducible apply OutWithin.ite
    | with_reducible apply Within.refl
    | with_reducible assumption
    | with_reducible apply Within.ite ?_ ?_
    | ((with_reducible apply Within.step ?_ (State.signal__within _ _) ?h1); (case h1 => rfl))

theorem execIntCauseClear_out (v : BitVec 32) (s : State) :
    OutWithin [] [6912, 6913, 6914, 6915, 6916, 6917] s (execIntCauseClear v s) := by
  unfold execIntCauseClear
  try dsimp only
  repeat' first
    | with_reducible apply OutWithin.doIf
    | with_reducible apply OutWithin.next
    | with_reducible apply OutWithin.fault
    | with_reducible apply OutWithin.ite
    | with_reducible apply Within.refl
    | with_reducible assumption
    | with_reducible apply Within.ite ?_ ?_
    | ((with_reducible apply Within.writeFlds _ _ _ ?_ ?h1); (case h1 => rfl))

theorem execDmaFailure_out (r : Nat) (acc : DmaAccess) (s : State) :
    OutWithin [.msix, .hostRest, .ports, .wards, .recorderRest, .secure, .burrow] ([6914, 6917, 7007, 7040, 7048, 7070, 7744, 7808, 7816, 9152, 9280, 9344] ++ [9408]) s (execDmaFailure r acc s) := by
  unfold execDmaFailure
  try dsimp only
  repeat' first
    | with_reducible apply OutWithin.doIf
    | with_reducible apply OutWithin.next
    | with_reducible apply OutWithin.fault
    | with_reducible apply OutWithin.ite
    | with_reducible apply Within.refl
    | with_reducible assumption
    | with_reducible apply Within.ite ?_ ?_
    | ((with_reducible apply Within.step ?_ (State.complete_within _ _ _ _ _ _ _) ?h1); (case h1 => rfl))
    | ((with_reducible apply Within.step ?_ (State.disablePair_within _ _) ?h1); (case h1 => rfl))
    | ((with_reducible apply Within.step ?_ (State.dmaError_within _ _ _ _) ?h1); (case h1 => rfl))
    | ((with_reducible apply Within.step ?_ (State.dropStage_within _ _ _) ?h1); (case h1 => rfl))
    | split

theorem execHdmAccess_out (write : Bool) (line : BitVec 30) (data : BitVec 512) (bad0 bad1 : BitVec 280) (s : State) :
    OutWithin [.msix, .hostRest, .hbm, .recorderRest, .burrow] ([6914, 6916, 7296, 7312, 8192, 8208, 8384, 8443, 8444, 8447, 9152, 9280] ++ [9344, 9408]) s (execHdmAccess write line data bad0 bad1 s) := by
  unfold execHdmAccess
  try dsimp only
  repeat' first
    | with_reducible apply OutWithin.doIf
    | with_reducible apply OutWithin.next
    | with_reducible apply OutWithin.fault
    | with_reducible apply OutWithin.ite
    | with_reducible apply Within.refl
    | with_reducible assumption
    | with_reducible apply Within.ite ?_ ?_
    | ((with_reducible apply Within.addSat _ _ _ ?_ ?h1); (case h1 => rfl))
    | ((with_reducible apply Within.step ?_ (State.answer_within _ _) ?h1); (case h1 => rfl))
    | ((with_reducible apply Within.step ?_ (State.deny_within _ _ _) ?h1); (case h1 => rfl))
    | ((with_reducible apply Within.step ?_ (State.hbmCorr_within _ _) ?h1); (case h1 => rfl))
    | ((with_reducible apply Within.step ?_ (State.hbmUncorr_within _ _ _) ?h1); (case h1 => rfl))
    | ((with_reducible apply Within.step ?_ (State.hbmUpset_within _ _ _) ?h1); (case h1 => rfl))
    | ((with_reducible apply Within.step ?_ (State.setHbm_within _ _ _) ?h1); (case h1 => rfl))
    | split

theorem execHdmDecoderCommit_out (gib : BitVec 16) (ways : BitVec 8) (s : State) :
    OutWithin [.hostRest] [] s (execHdmDecoderCommit gib ways s) := by
  unfold execHdmDecoderCommit
  try dsimp only
  repeat' first
    | with_reducible apply OutWithin.doIf
    | with_reducible apply OutWithin.next
    | with_reducible apply OutWithin.fault
    | with_reducible apply OutWithin.ite
    | with_reducible apply Within.refl
    | with_reducible assumption
    | with_reducible apply Within.ite ?_ ?_
    | ((with_reducible apply Within.set_hostRest _ ?_ ?h1 ?h2); (case h1 => rfl); (case h2 => with_reducible rfl))

theorem execNopDescriptor_out (via : Via) (s : State) :
    OutWithin [.msix, .hostRest] [7048, 7744, 7808] s (execNopDescriptor via s) := by
  unfold execNopDescriptor
  try dsimp only
  repeat' first
    | with_reducible apply OutWithin.doIf
    | with_reducible apply OutWithin.next
    | with_reducible apply OutWithin.fault
    | with_reducible apply OutWithin.ite
    | with_reducible apply Within.refl
    | with_reducible assumption
    | with_reducible apply Within.ite ?_ ?_
    | ((with_reducible apply Within.step ?_ (State.finish_within _ _ _ _ _ _) ?h1); (case h1 => rfl))

theorem execHostReset_out (via : Via) (s : State) :
    OutWithin [.part, .marten, .msix, .hostRest, .ports, .wards, .recorderRest, .secure, .burrow] ([0, 16, 4736, 4748, 4767, 6877, 6913, 6914, 7007, 7040, 7048, 7056] ++ [7070, 7168, 7184, 7192, 7680, 7744, 7808, 7816, 7824, 7872, 7936, 9152] ++ [9280, 9344, 9408]) s (execHostReset via s) := by
  unfold execHostReset
  try dsimp only
  repeat' first
    | with_reducible apply OutWithin.doIf
    | with_reducible apply OutWithin.next
    | with_reducible apply OutWithin.fault
    | with_reducible apply OutWithin.ite
    | with_reducible apply Within.refl
    | with_reducible assumption
    | with_reducible apply Within.ite ?_ ?_
    | ((with_reducible apply Within.step ?_ (State.appReset_within _ _) ?h1); (case h1 => rfl))
    | ((with_reducible apply Within.step ?_ (State.finish_within _ _ _ _ _ _) ?h1); (case h1 => rfl))

theorem execTelemSubscribe_out (via : Via) (s : State) :
    OutWithin [.msix, .hostRest] [7040, 7048, 7744, 7808] s (execTelemSubscribe via s) := by
  unfold execTelemSubscribe
  try dsimp only
  repeat' first
    | with_reducible apply OutWithin.doIf
    | with_reducible apply OutWithin.next
    | with_reducible apply OutWithin.fault
    | with_reducible apply OutWithin.ite
    | with_reducible apply Within.refl
    | with_reducible assumption
    | with_reducible apply Within.ite ?_ ?_
    | ((with_reducible apply Within.step ?_ (State.begin__within _ _) ?h1); (case h1 => rfl))
    | ((with_reducible apply Within.step ?_ (State.countSubs_within _ _) ?h1); (case h1 => rfl))
    | ((with_reducible apply Within.step ?_ (State.finish_within _ _ _ _ _ _) ?h1); (case h1 => rfl))
    | ((with_reducible apply Within.step ?_ (State.flushSub_within _ _ _) ?h1); (case h1 => rfl))
    | ((with_reducible apply Within.step ?_ (State.setSub_within _ _ _) ?h1); (case h1 => rfl))
    | split

theorem execTelemCancel_out (via : Via) (s : State) :
    OutWithin [.msix, .hostRest, .burrow] [6914, 7040, 7048, 7744, 7808, 9152, 9280, 9344, 9408] s (execTelemCancel via s) := by
  unfold execTelemCancel
  try dsimp only
  repeat' first
    | with_reducible apply OutWithin.doIf
    | with_reducible apply OutWithin.next
    | with_reducible apply OutWithin.fault
    | with_reducible apply OutWithin.ite
    | with_reducible apply Within.refl
    | with_reducible assumption
    | with_reducible apply Within.ite ?_ ?_
    | ((with_reducible apply Within.step ?_ (State.complete_within _ _ _ _ _ _ _) ?h1); (case h1 => rfl))
    | ((with_reducible apply Within.step ?_ (State.countSubs_within _ _) ?h1); (case h1 => rfl))
    | ((with_reducible apply Within.step ?_ (State.endSubs_within _ _) ?h1); (case h1 => rfl))
    | ((with_reducible apply Within.step ?_ (State.finish_within _ _ _ _ _ _) ?h1); (case h1 => rfl))
    | split

theorem execSubscriptionEntry_out (sub : BitVec 16) (s : State) :
    OutWithin [.msix, .hostRest] [7744, 7824] s (execSubscriptionEntry sub s) := by
  unfold execSubscriptionEntry
  try dsimp only
  repeat' first
    | with_reducible apply OutWithin.doIf
    | with_reducible apply OutWithin.next
    | with_reducible apply OutWithin.fault
    | with_reducible apply OutWithin.ite
    | with_reducible apply Within.refl
    | with_reducible assumption
    | with_reducible apply Within.ite ?_ ?_
    | ((with_reducible apply Within.addSat _ _ _ ?_ ?h1); (case h1 => rfl))
    | ((with_reducible apply Within.step ?_ (State.flushSub_within _ _ _) ?h1); (case h1 => rfl))
    | ((with_reducible apply Within.step ?_ (State.setSub_within _ _ _) ?h1); (case h1 => rfl))
    | split

theorem execEventRead_out (via : Via) (s : State) :
    OutWithin [.msix, .hostRest] [7048, 7744, 7808] s (execEventRead via s) := by
  unfold execEventRead
  try dsimp only
  repeat' first
    | with_reducible apply OutWithin.doIf
    | with_reducible apply OutWithin.next
    | with_reducible apply OutWithin.fault
    | with_reducible apply OutWithin.ite
    | with_reducible apply Within.refl
    | with_reducible assumption
    | with_reducible apply Within.ite ?_ ?_
    | ((with_reducible apply Within.step ?_ (State.finish_within _ _ _ _ _ _) ?h1); (case h1 => rfl))
    | split
    | ((with_reducible apply Within.set_msix _ ?_ ?h1 ?h2); (case h1 => rfl); (case h2 => with_reducible rfl))
    | ((with_reducible apply Within.set_hostRest _ ?_ ?h1 ?h2); (case h1 => rfl); (case h2 => with_reducible rfl))

theorem execTimeAnchor_out (via : Via) (s : State) :
    OutWithin [.bootUs, .msix, .hostRest, .burrow] [6914, 7048, 7744, 7808, 9152, 9280, 9344, 9408] s (execTimeAnchor via s) := by
  unfold execTimeAnchor
  try dsimp only
  repeat' first
    | with_reducible apply OutWithin.doIf
    | with_reducible apply OutWithin.next
    | with_reducible apply OutWithin.fault
    | with_reducible apply OutWithin.ite
    | with_reducible apply Within.refl
    | with_reducible assumption
    | with_reducible apply Within.ite ?_ ?_
    | ((with_reducible apply Within.step ?_ (State.begin__within _ _) ?h1); (case h1 => rfl))
    | ((with_reducible apply Within.step ?_ (State.finish_within _ _ _ _ _ _) ?h1); (case h1 => rfl))
    | ((with_reducible apply Within.step ?_ (State.offer_within _ _) ?h1); (case h1 => rfl))
    | split
    | ((with_reducible apply Within.set_burrow _ ?_ ?h1 ?h2); (case h1 => rfl); (case h2 => intro hb; first | exact hb | rfl))

theorem execRecorderFreeze_out (via : Via) (s : State) :
    OutWithin [.msix, .hostRest, .recorderRest, .burrow] ([6914, 7048, 7744, 7808, 8064, 8084, 8092, 8094, 8256, 9152, 9280, 9344] ++ [9408]) s (execRecorderFreeze via s) := by
  unfold execRecorderFreeze
  try dsimp only
  repeat' first
    | with_reducible apply OutWithin.doIf
    | with_reducible apply OutWithin.next
    | with_reducible apply OutWithin.fault
    | with_reducible apply OutWithin.ite
    | with_reducible apply Within.refl
    | with_reducible assumption
    | with_reducible apply Within.ite ?_ ?_
    | ((with_reducible apply Within.step ?_ (State.begin__within _ _) ?h1); (case h1 => rfl))
    | ((with_reducible apply Within.step ?_ (State.finish_within _ _ _ _ _ _) ?h1); (case h1 => rfl))
    | ((with_reducible apply Within.step ?_ (State.recTrigger_within _ _ _ _) ?h1); (case h1 => rfl))
    | split
    | ((with_reducible apply Within.set_recRest _ ?_ ?h1 ?h2); (case h1 => rfl); (case h2 => with_reducible rfl))

theorem execRecorderRelease_out (via : Via) (s : State) :
    OutWithin [.msix, .hostRest, .recorderRest, .burrow] [6914, 7048, 7744, 7808, 9152, 9280, 9344, 9408] s (execRecorderRelease via s) := by
  unfold execRecorderRelease
  try dsimp only
  repeat' first
    | with_reducible apply OutWithin.doIf
    | with_reducible apply OutWithin.next
    | with_reducible apply OutWithin.fault
    | with_reducible apply OutWithin.ite
    | with_reducible apply Within.refl
    | with_reducible assumption
    | with_reducible apply Within.ite ?_ ?_
    | ((with_reducible apply Within.step ?_ (State.finish_within _ _ _ _ _ _) ?h1); (case h1 => rfl))
    | ((with_reducible apply Within.step ?_ (State.record_within _ _ _ _) ?h1); (case h1 => rfl))
    | ((with_reducible apply Within.set_recRest _ ?_ ?h1 ?h2); (case h1 => rfl); (case h2 => with_reducible rfl))

theorem execSourceEnableWrite_out (k : Nat) (on : Bool) (s : State) :
    OutWithin [.lasers] [6238, 6280, 6299, 6300, 6301] s (execSourceEnableWrite k on s) := by
  unfold execSourceEnableWrite
  try dsimp only
  repeat' first
    | with_reducible apply OutWithin.doIf
    | with_reducible apply OutWithin.next
    | with_reducible apply OutWithin.fault
    | with_reducible apply OutWithin.ite
    | with_reducible apply Within.refl
    | with_reducible assumption
    | with_reducible apply Within.ite ?_ ?_
    | ((with_reducible apply Within.wr _ _ _ ?_ ?h1); (case h1 => rfl))
    | ((with_reducible apply Within.step ?_ (State.laserShow_within _ _) ?h1); (case h1 => rfl))
    | ((with_reducible apply Within.step ?_ (State.setLaser_within _ _ _) ?h1); (case h1 => rfl))

theorem execLaserPoll_out (k : Nat) (r : Option LaserRead) (s : State) :
    OutWithin [.msix, .lasers, .burrow] [6272, 6288, 6298, 6300, 6301, 6914, 9152, 9280, 9344, 9408] s (execLaserPoll k r s) := by
  unfold execLaserPoll
  try dsimp only
  repeat' first
    | with_reducible apply OutWithin.doIf
    | with_reducible apply OutWithin.next
    | with_reducible apply OutWithin.fault
    | with_reducible apply OutWithin.ite
    | with_reducible apply Within.refl
    | with_reducible assumption
    | with_reducible apply Within.ite ?_ ?_
    | ((with_reducible apply Within.wr _ _ _ ?_ ?h1); (case h1 => rfl))
    | ((with_reducible apply Within.step ?_ (State.laserFault_within _ _ _) ?h1); (case h1 => rfl))
    | ((with_reducible apply Within.step ?_ (State.laserSettle_within _ _ _) ?h1); (case h1 => rfl))
    | ((with_reducible apply Within.step ?_ (State.laserShow_within _ _) ?h1); (case h1 => rfl))
    | ((with_reducible apply Within.step ?_ (State.setLaser_within _ _ _) ?h1); (case h1 => rfl))
    | split

theorem execInBandInterrupt_out (k : Nat) (stat : BitVec 4) (s : State) :
    OutWithin [.msix, .lasers, .burrow] [6301, 6914, 9152, 9280, 9344, 9408] s (execInBandInterrupt k stat s) := by
  unfold execInBandInterrupt
  try dsimp only
  repeat' first
    | with_reducible apply OutWithin.doIf
    | with_reducible apply OutWithin.next
    | with_reducible apply OutWithin.fault
    | with_reducible apply OutWithin.ite
    | with_reducible apply Within.refl
    | with_reducible assumption
    | with_reducible apply Within.ite ?_ ?_
    | ((with_reducible apply Within.step ?_ (State.laserFault_within _ _ _) ?h1); (case h1 => rfl))
    | ((with_reducible apply Within.step ?_ (State.setLaser_within _ _ _) ?h1); (case h1 => rfl))

theorem execAlsDecision_out (k which : Nat) (s : State) :
    OutWithin [.msix, .lasers, .burrow] [6300, 6301, 6914, 9152, 9280, 9344, 9408] s (execAlsDecision k which s) := by
  unfold execAlsDecision
  try dsimp only
  repeat' first
    | with_reducible apply OutWithin.doIf
    | with_reducible apply OutWithin.next
    | with_reducible apply OutWithin.fault
    | with_reducible apply OutWithin.ite
    | with_reducible apply Within.refl
    | with_reducible assumption
    | with_reducible apply Within.ite ?_ ?_
    | ((with_reducible apply Within.wr _ _ _ ?_ ?h1); (case h1 => rfl))
    | ((with_reducible apply Within.step ?_ (State.record_within _ _ _ _) ?h1); (case h1 => rfl))
    | ((with_reducible apply Within.step ?_ (State.setLaser_within _ _ _) ?h1); (case h1 => rfl))

theorem execFullPowerAllowed_out (k : Nat) (s : State) :
    OutWithin [.lasers] [6300, 6301] s (execFullPowerAllowed k s) := by
  unfold execFullPowerAllowed
  try dsimp only
  repeat' first
    | with_reducible apply OutWithin.doIf
    | with_reducible apply OutWithin.next
    | with_reducible apply OutWithin.fault
    | with_reducible apply OutWithin.ite
    | with_reducible apply Within.refl
    | with_reducible assumption
    | with_reducible apply Within.ite ?_ ?_
    | ((with_reducible apply Within.wr _ _ _ ?_ ?h1); (case h1 => rfl))
    | ((with_reducible apply Within.step ?_ (State.laserShow_within _ _) ?h1); (case h1 => rfl))
    | ((with_reducible apply Within.step ?_ (State.setLaser_within _ _ _) ?h1); (case h1 => rfl))

theorem execLaserSettleCheck_out (k : Nat) (r : Option LaserRead) (s : State) :
    OutWithin [.msix, .lasers, .burrow] [6301, 6914, 9152, 9280, 9344, 9408] s (execLaserSettleCheck k r s) := by
  unfold execLaserSettleCheck
  try dsimp only
  repeat' first
    | with_reducible apply OutWithin.doIf
    | with_reducible apply OutWithin.next
    | with_reducible apply OutWithin.fault
    | with_reducible apply OutWithin.ite
    | with_reducible apply Within.refl
    | with_reducible assumption
    | with_reducible apply Within.ite ?_ ?_
    | ((with_reducible apply Within.step ?_ (State.busShut_within _ _) ?h1); (case h1 => rfl))
    | ((with_reducible apply Within.step ?_ (State.setLaser_within _ _ _) ?h1); (case h1 => rfl))
    | split

theorem execReleaseBus_out (b : BitVec 3) (s : State) :
    OutWithin [.lasers] [6280, 6300, 6301, 6528] s (execReleaseBus b s) := by
  unfold execReleaseBus
  try dsimp only
  repeat' first
    | with_reducible apply OutWithin.doIf
    | with_reducible apply OutWithin.next
    | with_reducible apply OutWithin.fault
    | with_reducible apply OutWithin.ite
    | with_reducible apply Within.refl
    | with_reducible assumption
    | with_reducible apply Within.ite ?_ ?_
    | ((with_reducible apply Within.wr _ _ _ ?_ ?h1); (case h1 => rfl))
    | ((with_reducible apply Within.step ?_ (State.laserShow_within _ _) ?h1); (case h1 => rfl))
    | ((with_reducible apply Within.step ?_ (State.setLaser_within _ _ _) ?h1); (case h1 => rfl))
    | with_reducible apply Within.each _ _ ?_ (fun _ _ _ _ => ?_)
    | ((with_reducible apply Within.set_lasers _ ?_ ?h1); (case h1 => rfl))

theorem execTileEnable_out (t : Nat) (s : State) :
    OutWithin [] [4176, 4240, 4253] s (execTileEnable t s) := by
  unfold execTileEnable
  try dsimp only
  repeat' first
    | with_reducible apply OutWithin.doIf
    | with_reducible apply OutWithin.next
    | with_reducible apply OutWithin.fault
    | with_reducible apply OutWithin.ite
    | with_reducible apply Within.refl
    | with_reducible assumption
    | with_reducible apply Within.ite ?_ ?_
    | ((with_reducible apply Within.wr _ _ _ ?_ ?h1); (case h1 => rfl))
    | ((with_reducible apply Within.step ?_ (State.tileStatus_within _ _ _) ?h1); (case h1 => rfl))
    | split

theorem execTileDisable_out (t : Nat) (s : State) :
    OutWithin [.marten, .msix, .burrow] ([4176, 4177, 4224, 4240, 4253, 4288, 4312, 4352, 4672, 4928, 4942, 4944] ++ [4952, 6914, 9152, 9280, 9344, 9408]) s (execTileDisable t s) := by
  unfold execTileDisable
  try dsimp only
  repeat' first
    | with_reducible apply OutWithin.doIf
    | with_reducible apply OutWithin.next
    | with_reducible apply OutWithin.fault
    | with_reducible apply OutWithin.ite
    | with_reducible apply Within.refl
    | with_reducible assumption
    | with_reducible apply Within.ite ?_ ?_
    | ((with_reducible apply Within.wr _ _ _ ?_ ?h1); (case h1 => rfl))
    | ((with_reducible apply Within.step ?_ (State.enterDrain_within _ _ _) ?h1); (case h1 => rfl))
    | ((with_reducible apply Within.step ?_ (State.setTile_within _ _ _) ?h1); (case h1 => rfl))
    | ((with_reducible apply Within.step ?_ (State.tileStatus_within _ _ _) ?h1); (case h1 => rfl))
    | split

theorem execTileRun_out (t : Nat) (upsets : List TileUpset) (s : State) :
    OutWithin [.engines, .settRest, .marten, .msix, .hostRest, .burrow] ([2257, 4177, 4225, 4240, 4416, 4432, 4480, 4510, 4511, 4688, 4696, 6914] ++ [7048, 7744, 7808, 8192, 8208, 8384, 8443, 8444, 8447, 9152, 9280, 9344] ++ [9408]) s (execTileRun t upsets s) := by
  unfold execTileRun
  try dsimp only
  repeat' first
    | with_reducible apply OutWithin.doIf
    | with_reducible apply OutWithin.next
    | with_reducible apply OutWithin.fault
    | with_reducible apply OutWithin.ite
    | with_reducible apply Within.refl
    | with_reducible assumption
    | with_reducible apply Within.ite ?_ ?_
    | ((with_reducible apply Within.wr _ _ _ ?_ ?h1); (case h1 => rfl))
    | ((with_reducible apply Within.addSat _ _ _ ?_ ?h1); (case h1 => rfl))
    | ((with_reducible apply Within.step ?_ (State.record_within _ _ _ _) ?h1); (case h1 => rfl))
    | ((with_reducible apply Within.step ?_ (State.setTile_within _ _ _) ?h1); (case h1 => rfl))
    | ((with_reducible apply Within.step ?_ (State.tileStatus_within _ _ _) ?h1); (case h1 => rfl))
    | ((with_reducible apply Within.step ?_ (State.tileUncorr_within _ _ _ _) ?h1); (case h1 => rfl))
    | ((with_reducible apply Within.step ?_ (State.tileUpsets_within _ _ _) ?h1); (case h1 => rfl))
    | with_reducible apply Within.each _ _ ?_ (fun _ _ _ _ => ?_)
    | split

theorem execTileRunClear_out (t : Nat) (s : State) :
    OutWithin [.marten, .msix, .burrow] ([4177, 4224, 4240, 4253, 4288, 4312, 4352, 4672, 4928, 4942, 4944, 4952] ++ [6914, 9152, 9280, 9344, 9408]) s (execTileRunClear t s) := by
  unfold execTileRunClear
  try dsimp only
  repeat' first
    | with_reducible apply OutWithin.doIf
    | with_reducible apply OutWithin.next
    | with_reducible apply OutWithin.fault
    | with_reducible apply OutWithin.ite
    | with_reducible apply Within.refl
    | with_reducible assumption
    | with_reducible apply Within.ite ?_ ?_
    | ((with_reducible apply Within.wr _ _ _ ?_ ?h1); (case h1 => rfl))
    | ((with_reducible apply Within.step ?_ (State.enterDrain_within _ _ _) ?h1); (case h1 => rfl))
    | ((with_reducible apply Within.step ?_ (State.setTile_within _ _ _) ?h1); (case h1 => rfl))
    | ((with_reducible apply Within.step ?_ (State.tileStatus_within _ _ _) ?h1); (case h1 => rfl))
    | split

theorem execTileSramWrite_out (t : Nat) (kind : Nat) (a : BitVec 21) (v : Word) (s : State) :
    OutWithin [.marten] [4228] s (execTileSramWrite t kind a v s) := by
  unfold execTileSramWrite
  try dsimp only
  repeat' first
    | with_reducible apply OutWithin.doIf
    | with_reducible apply OutWithin.next
    | with_reducible apply OutWithin.fault
    | with_reducible apply OutWithin.ite
    | with_reducible apply Within.refl
    | with_reducible assumption
    | with_reducible apply Within.ite ?_ ?_
    | ((with_reducible apply Within.wr _ _ _ ?_ ?h1); (case h1 => rfl))
    | ((with_reducible apply Within.step ?_ (State.setTile_within _ _ _) ?h1); (case h1 => rfl))

theorem execFrameStart_out (t : Nat) (s : State) :
    OutWithin [.marten, .msix, .burrow] [4253, 4624, 4672, 4928, 4942, 4944, 4952, 6914, 9152, 9280, 9344, 9408] s (execFrameStart t s) := by
  unfold execFrameStart
  try dsimp only
  repeat' first
    | with_reducible apply OutWithin.doIf
    | with_reducible apply OutWithin.next
    | with_reducible apply OutWithin.fault
    | with_reducible apply OutWithin.ite
    | with_reducible apply Within.refl
    | with_reducible assumption
    | with_reducible apply Within.ite ?_ ?_
    | ((with_reducible apply Within.step ?_ (State.dispatch_within _ _) ?h1); (case h1 => rfl))
    | ((with_reducible apply Within.step ?_ (State.enterRun_within _ _) ?h1); (case h1 => rfl))
    | ((with_reducible apply Within.step ?_ (State.releaseJob_within _ _ _) ?h1); (case h1 => rfl))
    | ((with_reducible apply Within.step ?_ (State.setTile_within _ _ _) ?h1); (case h1 => rfl))
    | with_reducible apply Within.each _ _ ?_ (fun _ _ _ _ => ?_)

theorem execFastWindowEnd_out (t : Nat) (cycles : BitVec 11) (done : BitVec 16) (s : State) :
    OutWithin [.marten, .msix, .burrow] ([4224, 4225, 4226, 4227, 4288, 4312, 4352, 4416, 4432, 4480, 4510, 4511] ++ [4608, 4624, 4928, 4942, 4944, 4952, 6914, 9152, 9280, 9344, 9408]) s (execFastWindowEnd t cycles done s) := by
  unfold execFastWindowEnd
  try dsimp only
  repeat' first
    | with_reducible apply OutWithin.doIf
    | with_reducible apply OutWithin.next
    | with_reducible apply OutWithin.fault
    | with_reducible apply OutWithin.ite
    | with_reducible apply Within.refl
    | with_reducible assumption
    | with_reducible apply Within.ite ?_ ?_
    | ((with_reducible apply Within.wr _ _ _ ?_ ?h1); (case h1 => rfl))
    | ((with_reducible apply Within.step ?_ (State.dispatch_within _ _) ?h1); (case h1 => rfl))
    | ((with_reducible apply Within.step ?_ (State.setTile_within _ _ _) ?h1); (case h1 => rfl))
    | ((with_reducible apply Within.step ?_ (State.stopJob_within _ _ _ _) ?h1); (case h1 => rfl))
    | with_reducible apply Within.each _ _ ?_ (fun _ _ _ _ => ?_)

theorem execFrameEnd_out (t : Nat) (done : BitVec 16) (s : State) :
    OutWithin [.marten, .msix, .burrow] ([4224, 4225, 4226, 4227, 4253, 4288, 4312, 4352, 4416, 4432, 4480, 4510] ++ [4511, 4672, 4928, 4942, 4944, 4952, 6914, 9152, 9280, 9344, 9408]) s (execFrameEnd t done s) := by
  unfold execFrameEnd
  try dsimp only
  repeat' first
    | with_reducible apply OutWithin.doIf
    | with_reducible apply OutWithin.next
    | with_reducible apply OutWithin.fault
    | with_reducible apply OutWithin.ite
    | with_reducible apply Within.refl
    | with_reducible assumption
    | with_reducible apply Within.ite ?_ ?_
    | ((with_reducible apply Within.step ?_ (State.advance_within _ _ _) ?h1); (case h1 => rfl))
    | ((with_reducible apply Within.step ?_ (State.leaveDrain_within _ _) ?h1); (case h1 => rfl))
    | ((with_reducible apply Within.step ?_ (State.setTile_within _ _ _) ?h1); (case h1 => rfl))

theorem execJobRelease_out (t j : Nat) (done : BitVec 16) (s : State) :
    OutWithin [.marten, .msix, .burrow] ([4224, 4225, 4226, 4227, 4288, 4312, 4352, 4416, 4432, 4480, 4510, 4511] ++ [4928, 4942, 4944, 4952, 6914, 9152, 9280, 9344, 9408]) s (execJobRelease t j done s) := by
  unfold execJobRelease
  try dsimp only
  repeat' first
    | with_reducible apply OutWithin.doIf
    | with_reducible apply OutWithin.next
    | with_reducible apply OutWithin.fault
    | with_reducible apply OutWithin.ite
    | with_reducible apply Within.refl
    | with_reducible assumption
    | with_reducible apply Within.ite ?_ ?_
    | ((with_reducible apply Within.step ?_ (State.dispatch_within _ _) ?h1); (case h1 => rfl))
    | ((with_reducible apply Within.step ?_ (State.releaseJob_within _ _ _) ?h1); (case h1 => rfl))
    | ((with_reducible apply Within.step ?_ (State.stopJob_within _ _ _ _) ?h1); (case h1 => rfl))

theorem execJobEnd_out (t j : Nat) (half : Bool) (upsets : List TileUpset) (s : State) :
    OutWithin [.engines, .settRest, .marten, .msix, .hostRest, .burrow] ([2257, 4224, 4225, 4226, 4227, 4253, 4288, 4312, 4352, 4416, 4432, 4480] ++ [4510, 4511, 4672, 4748, 4767, 4928, 4942, 4944, 4952, 6914, 7048, 7744] ++ [7808, 8192, 8208, 8384, 8443, 8444, 8447, 9152, 9280, 9344, 9408]) s (execJobEnd t j half upsets s) := by
  unfold execJobEnd
  try dsimp only
  repeat' first
    | with_reducible apply OutWithin.doIf
    | with_reducible apply OutWithin.next
    | with_reducible apply OutWithin.fault
    | with_reducible apply OutWithin.ite
    | with_reducible apply Within.refl
    | with_reducible assumption
    | with_reducible apply Within.ite ?_ ?_
    | ((with_reducible apply Within.step ?_ (State.commitJob_within _ _ _ _ _) ?h1); (case h1 => rfl))
    | ((with_reducible apply Within.step ?_ (State.dispatch_within _ _) ?h1); (case h1 => rfl))
    | ((with_reducible apply Within.step ?_ (State.endJob_within _ _ _ _) ?h1); (case h1 => rfl))
    | ((with_reducible apply Within.step ?_ (State.finishJob_within _ _ _ _) ?h1); (case h1 => rfl))
    | ((with_reducible apply Within.step ?_ (State.judgeWarm_within _ _ _) ?h1); (case h1 => rfl))
    | ((with_reducible apply Within.step ?_ (State.leaveDrain_within _ _) ?h1); (case h1 => rfl))
    | ((with_reducible apply Within.step ?_ (State.runTo_within _ _ _ _) ?h1); (case h1 => rfl))
    | ((with_reducible apply Within.step ?_ (State.tileUpsets_within _ _ _) ?h1); (case h1 => rfl))

theorem execJobBoundReached_out (t j : Nat) (done : BitVec 16) (s : State) :
    OutWithin [.marten, .msix, .burrow] ([4224, 4225, 4226, 4227, 4253, 4288, 4312, 4352, 4416, 4432, 4480, 4510] ++ [4511, 4672, 4928, 4942, 4944, 4952, 6914, 9152, 9280, 9344, 9408]) s (execJobBoundReached t j done s) := by
  unfold execJobBoundReached
  try dsimp only
  repeat' first
    | with_reducible apply OutWithin.doIf
    | with_reducible apply OutWithin.next
    | with_reducible apply OutWithin.fault
    | with_reducible apply OutWithin.ite
    | with_reducible apply Within.refl
    | with_reducible assumption
    | with_reducible apply Within.ite ?_ ?_
    | ((with_reducible apply Within.step ?_ (State.dispatch_within _ _) ?h1); (case h1 => rfl))
    | ((with_reducible apply Within.step ?_ (State.leaveDrain_within _ _) ?h1); (case h1 => rfl))
    | ((with_reducible apply Within.step ?_ (State.stopJob_within _ _ _ _) ?h1); (case h1 => rfl))

theorem execSramScrub_out (t : Nat) (upsets : List TileUpset) (s : State) :
    OutWithin [.engines, .settRest, .marten, .msix, .hostRest, .burrow] ([2257, 4225, 4416, 4432, 4480, 4510, 4511, 6914, 7048, 7744, 7808, 8192] ++ [8208, 8384, 8443, 8444, 8447, 9152, 9280, 9344, 9408]) s (execSramScrub t upsets s) := by
  unfold execSramScrub
  try dsimp only
  repeat' first
    | with_reducible apply OutWithin.doIf
    | with_reducible apply OutWithin.next
    | with_reducible apply OutWithin.fault
    | with_reducible apply OutWithin.ite
    | with_reducible apply Within.refl
    | with_reducible assumption
    | with_reducible apply Within.ite ?_ ?_
    | ((with_reducible apply Within.addSat _ _ _ ?_ ?h1); (case h1 => rfl))
    | ((with_reducible apply Within.step ?_ (State.setTile_within _ _ _) ?h1); (case h1 => rfl))
    | ((with_reducible apply Within.step ?_ (State.tileUncorr_within _ _ _ _) ?h1); (case h1 => rfl))
    | split

theorem execIngestBlockWrite_out (telem : Bool) (source : Nat) (s : State) :
    OutWithin [.marten] [] s (execIngestBlockWrite telem source s) := by
  unfold execIngestBlockWrite
  try dsimp only
  repeat' first
    | with_reducible apply OutWithin.doIf
    | with_reducible apply OutWithin.next
    | with_reducible apply OutWithin.fault
    | with_reducible apply OutWithin.ite
    | with_reducible apply Within.refl
    | with_reducible assumption
    | with_reducible apply Within.ite ?_ ?_
    | ((with_reducible apply Within.step ?_ (State.ringPutAll_within _ _ _ _) ?h1); (case h1 => rfl))
    | ((with_reducible apply Within.step ?_ (State.setBlock_within _ _ _) ?h1); (case h1 => rfl))
    | split
    | ((with_reducible apply Within.set_marten _ ?_ ?h1); (case h1 => rfl))

theorem execStreamGap_out (t i : Nat) (s : State) :
    OutWithin [.marten, .msix, .burrow] [4928, 4942, 6914, 9152, 9280, 9344, 9408] s (execStreamGap t i s) := by
  unfold execStreamGap
  try dsimp only
  repeat' first
    | with_reducible apply OutWithin.doIf
    | with_reducible apply OutWithin.next
    | with_reducible apply OutWithin.fault
    | with_reducible apply OutWithin.ite
    | with_reducible apply Within.refl
    | with_reducible assumption
    | with_reducible apply Within.ite ?_ ?_
    | ((with_reducible apply Within.step ?_ (State.chill_within _ _ _ _) ?h1); (case h1 => rfl))
    | ((with_reducible apply Within.step ?_ (State.setTile_within _ _ _) ?h1); (case h1 => rfl))
    | with_reducible apply Within.each _ _ ?_ (fun _ _ _ _ => ?_)
    | split

theorem execOfferWindowEnd_out (s : State) :
    OutWithin [.marten] [4736] s (execOfferWindowEnd s) := by
  unfold execOfferWindowEnd
  try dsimp only
  repeat' first
    | with_reducible apply OutWithin.doIf
    | with_reducible apply OutWithin.next
    | with_reducible apply OutWithin.fault
    | with_reducible apply OutWithin.ite
    | with_reducible apply Within.refl
    | with_reducible assumption
    | with_reducible apply Within.ite ?_ ?_
    | ((with_reducible apply Within.wr _ _ _ ?_ ?h1); (case h1 => rfl))
    | with_reducible apply Within.each _ _ ?_ (fun _ _ _ _ => ?_)
    | ((with_reducible apply Within.set_marten _ ?_ ?h1); (case h1 => rfl))

theorem execOfferRead_out (w : Nat) (s : State) :
    OutWithin [] [4736] s (execOfferRead w s) := by
  unfold execOfferRead
  try dsimp only
  repeat' first
    | with_reducible apply OutWithin.doIf
    | with_reducible apply OutWithin.next
    | with_reducible apply OutWithin.fault
    | with_reducible apply OutWithin.ite
    | with_reducible apply Within.refl
    | with_reducible assumption
    | with_reducible apply Within.ite ?_ ?_
    | ((with_reducible apply Within.wr _ _ _ ?_ ?h1); (case h1 => rfl))

theorem execPortEnable_out (p : Nat) (s : State) :
    OutWithin [.ports] [5952, 6024, 6032, 6045] s (execPortEnable p s) := by
  unfold execPortEnable
  try dsimp only
  repeat' first
    | with_reducible apply OutWithin.doIf
    | with_reducible apply OutWithin.next
    | with_reducible apply OutWithin.fault
    | with_reducible apply OutWithin.ite
    | with_reducible apply Within.refl
    | with_reducible assumption
    | with_reducible apply Within.ite ?_ ?_
    | ((with_reducible apply Within.step ?_ (State.portEnable_within _ _) ?h1); (case h1 => rfl))

theorem execPortDisable_out (p : Nat) (s : State) :
    OutWithin [.engines, .msix, .hostRest, .ports, .wards] [5952, 6016, 6032, 6040, 6041, 6042, 6043, 6045, 6144, 7048, 7744, 7808] s (execPortDisable p s) := by
  unfold execPortDisable
  try dsimp only
  repeat' first
    | with_reducible apply OutWithin.doIf
    | with_reducible apply OutWithin.next
    | with_reducible apply OutWithin.fault
    | with_reducible apply OutWithin.ite
    | with_reducible apply Within.refl
    | with_reducible assumption
    | with_reducible apply Within.ite ?_ ?_
    | ((with_reducible apply Within.wr _ _ _ ?_ ?h1); (case h1 => rfl))
    | ((with_reducible apply Within.step ?_ (State.portOff_within _ _) ?h1); (case h1 => rfl))

theorem execLightQualified_out (p : Nat) (l0 l1 : Bool) (s : State) :
    OutWithin [.ports] [6040, 6041, 6043, 6045] s (execLightQualified p l0 l1 s) := by
  unfold execLightQualified
  try dsimp only
  repeat' first
    | with_reducible apply OutWithin.doIf
    | with_reducible apply OutWithin.next
    | with_reducible apply OutWithin.fault
    | with_reducible apply OutWithin.ite
    | with_reducible apply Within.refl
    | with_reducible assumption
    | with_reducible apply Within.ite ?_ ?_
    | ((with_reducible apply Within.wrBit _ _ _ ?_ ?h1); (case h1 => rfl))
    | ((with_reducible apply Within.step ?_ (State.setLanes_within _ _ _) ?h1); (case h1 => rfl))
    | ((with_reducible apply Within.step ?_ (State.setPort_within _ _ _) ?h1); (case h1 => rfl))
    | ((with_reducible apply Within.step ?_ (State.setPstate_within _ _ _) ?h1); (case h1 => rfl))

theorem execHello_out (p : Nat) (h : FrameHead) (major _minor : BitVec 8) (s : State) :
    OutWithin [.engines, .settRest, .zither, .harps, .msix, .hostRest, .ports, .wards, .burrow, .twin] ([1280, 2755, 2764, 2768, 2781, 2828, 2832, 2944, 3656, 3742, 3776, 5952] ++ [6016, 6024, 6032, 6042, 6043, 6045, 6144, 6168, 6238, 6300, 6301, 6914] ++ [7048, 7744, 7808, 9152, 9280, 9344, 9408]) s (execHello p h major _minor s) := by
  unfold execHello
  try dsimp only
  repeat' first
    | with_reducible apply OutWithin.doIf
    | with_reducible apply OutWithin.next
    | with_reducible apply OutWithin.fault
    | with_reducible apply OutWithin.ite
    | with_reducible apply Within.refl
    | with_reducible assumption
    | with_reducible apply Within.ite ?_ ?_
    | ((with_reducible apply Within.step ?_ (State.badFrame_within _ _) ?h1); (case h1 => rfl))
    | ((with_reducible apply Within.step ?_ (State.portFault_within _ _) ?h1); (case h1 => rfl))
    | ((with_reducible apply Within.step ?_ (State.record_within _ _ _ _) ?h1); (case h1 => rfl))
    | ((with_reducible apply Within.step ?_ (State.setPstate_within _ _ _) ?h1); (case h1 => rfl))
    | ((with_reducible apply Within.step ?_ (State.watchWards_within _) ?h1); (case h1 => rfl))

theorem execTrainingTimeout_out (p : Nat) (s : State) :
    OutWithin [.engines, .settRest, .zither, .harps, .msix, .hostRest, .ports, .wards, .burrow, .twin] ([1280, 2755, 2764, 2768, 2781, 2828, 2832, 2944, 3656, 3742, 3776, 5952] ++ [6016, 6024, 6032, 6042, 6043, 6045, 6144, 6238, 6300, 6301, 6914, 7048] ++ [7744, 7808, 9152, 9280, 9344, 9408]) s (execTrainingTimeout p s) := by
  unfold execTrainingTimeout
  try dsimp only
  repeat' first
    | with_reducible apply OutWithin.doIf
    | with_reducible apply OutWithin.next
    | with_reducible apply OutWithin.fault
    | with_reducible apply OutWithin.ite
    | with_reducible apply Within.refl
    | with_reducible assumption
    | with_reducible apply Within.ite ?_ ?_
    | ((with_reducible apply Within.step ?_ (State.portFault_within _ _) ?h1); (case h1 => rfl))
    | ((with_reducible apply Within.step ?_ (State.watchWards_within _) ?h1); (case h1 => rfl))

theorem execLaneFail_out (p lane : Nat) (cause : LaneCause) (s : State) :
    OutWithin [.engines, .settRest, .zither, .harps, .msix, .hostRest, .ports, .wards, .burrow, .twin] ([1280, 2755, 2764, 2768, 2781, 2828, 2832, 2944, 3656, 3742, 3776, 5952] ++ [6016, 6024, 6032, 6040, 6041, 6042, 6043, 6045, 6144, 6238, 6300, 6301] ++ [6914, 7048, 7744, 7808, 9152, 9280, 9344, 9408]) s (execLaneFail p lane cause s) := by
  unfold execLaneFail
  try dsimp only
  repeat' first
    | with_reducible apply OutWithin.doIf
    | with_reducible apply OutWithin.next
    | with_reducible apply OutWithin.fault
    | with_reducible apply OutWithin.ite
    | with_reducible apply Within.refl
    | with_reducible assumption
    | with_reducible apply Within.ite ?_ ?_
    | ((with_reducible apply Within.wr _ _ _ ?_ ?h1); (case h1 => first | rfl | ((simp only [lightFld]; repeat' split) <;> rfl)))
    | ((with_reducible apply Within.step ?_ (State.portFault_within _ _) ?h1); (case h1 => rfl))
    | ((with_reducible apply Within.step ?_ (State.record_within _ _ _ _) ?h1); (case h1 => rfl))
    | ((with_reducible apply Within.step ?_ (State.setLanes_within _ _ _) ?h1); (case h1 => rfl))
    | ((with_reducible apply Within.step ?_ (State.watchWards_within _) ?h1); (case h1 => rfl))

theorem execLaneRejoin_out (p lane : Nat) (us : BitVec 16) (s : State) :
    OutWithin [.msix, .ports, .burrow] [6040, 6041, 6043, 6914, 9152, 9280, 9344, 9408] s (execLaneRejoin p lane us s) := by
  unfold execLaneRejoin
  try dsimp only
  repeat' first
    | with_reducible apply OutWithin.doIf
    | with_reducible apply OutWithin.next
    | with_reducible apply OutWithin.fault
    | with_reducible apply OutWithin.ite
    | with_reducible apply Within.refl
    | with_reducible assumption
    | with_reducible apply Within.ite ?_ ?_
    | ((with_reducible apply Within.wr _ _ _ ?_ ?h1); (case h1 => first | rfl | ((simp only [lightFld]; repeat' split) <;> rfl)))
    | ((with_reducible apply Within.step ?_ (State.record_within _ _ _ _) ?h1); (case h1 => rfl))
    | ((with_reducible apply Within.step ?_ (State.setLanes_within _ _ _) ?h1); (case h1 => rfl))

theorem execFaultRetrainExpiry_out (p : Nat) (s : State) :
    OutWithin [.msix, .ports, .burrow] [6024, 6045, 6914, 9152, 9280, 9344, 9408] s (execFaultRetrainExpiry p s) := by
  unfold execFaultRetrainExpiry
  try dsimp only
  repeat' first
    | with_reducible apply OutWithin.doIf
    | with_reducible apply OutWithin.next
    | with_reducible apply OutWithin.fault
    | with_reducible apply OutWithin.ite
    | with_reducible apply Within.refl
    | with_reducible assumption
    | with_reducible apply Within.ite ?_ ?_
    | ((with_reducible apply Within.addSat _ _ _ ?_ ?h1); (case h1 => rfl))
    | ((with_reducible apply Within.step ?_ (State.record_within _ _ _ _) ?h1); (case h1 => rfl))
    | ((with_reducible apply Within.step ?_ (State.setPort_within _ _ _) ?h1); (case h1 => rfl))
    | ((with_reducible apply Within.step ?_ (State.setPstate_within _ _ _) ?h1); (case h1 => rfl))

theorem execRsp_out (p : Nat) (f : RspFrame) (flashFails : Bool) (s : State) : OutWithin [.engines, .settRest, .zither, .harps, .msix, .hostRest, .ports, .wards, .burrow, .twin] ([1280, 2755, 2764, 2768, 2781, 2828, 2832, 2944, 3656, 3742, 3776, 5952] ++ [6016, 6024, 6032, 6042, 6045, 6144, 6160, 6168, 6238, 6300, 6301, 6914] ++ [7048, 7744, 7808, 9152, 9280, 9344, 9408]) s (execRsp p f flashFails s) := by
  unfold execRsp
  extract_lets base s0
  have h0 : Within [.engines, .settRest, .zither, .harps, .msix, .hostRest, .ports, .wards, .burrow, .twin] ([1280, 2755, 2764, 2768, 2781, 2828, 2832, 2944, 3656, 3742, 3776, 5952] ++ [6016, 6024, 6032, 6042, 6045, 6144, 6160, 6168, 6238, 6300, 6301, 6914] ++ [7048, 7744, 7808, 9152, 9280, 9344, 9408]) s s0 := Within.ite (Within.step (Within.refl _ _ s) (State.countTagFail_within s p _) rfl) (Within.refl _ _ s)
  clear_value s0 base
  refine OutWithin.doIf (Within.step h0 (State.admitFrame_within s0 p f.head base f.sealOk _ (bs := [.engines, .settRest, .zither, .harps, .msix, .hostRest, .ports, .wards, .burrow, .twin]) (cs := ([1280, 2755, 2764, 2768, 2781, 2828, 2832, 2944, 3656, 3742, 3776, 5952] ++ [6016, 6024, 6032, 6042, 6045, 6144, 6160, 6168, 6238, 6300, 6301, 6914] ++ [7048, 7744, 7808, 9152, 9280, 9344, 9408])) rfl fun u hu => ?_) rfl)
  refine Within.ite (Within.step hu (State.badFrame_within u p) rfl) ?_
  split
  · exact hu
  · exact Within.ite (Within.step hu (State.badFrame_within u p) rfl)
      (Within.step (Within.step hu (State.finishReq_within u p _ _ _) rfl) (State.wardStep_within _ p _) rfl)

theorem execReqResend_out (p : Nat) (tag : BitVec 8) (s : State) :
    OutWithin [.engines, .msix, .hostRest, .ports, .wards] [6016, 6144, 7048, 7744, 7808] s (execReqResend p tag s) := by
  unfold execReqResend
  try dsimp only
  repeat' first
    | with_reducible apply OutWithin.doIf
    | with_reducible apply OutWithin.next
    | with_reducible apply OutWithin.fault
    | with_reducible apply OutWithin.ite
    | with_reducible apply Within.refl
    | with_reducible assumption
    | with_reducible apply Within.ite ?_ ?_
    | ((with_reducible apply Within.step ?_ (State.finishReq_within _ _ _ _ _) ?h1); (case h1 => rfl))
    | ((with_reducible apply Within.step ?_ (State.setPort_within _ _ _) ?h1); (case h1 => rfl))
    | split

theorem execTelem_out (p : Nat) (words : List (BitVec 32)) (ns : BitVec 16) (s : State) :
    OutWithin [.engines, .settRest, .zither, .harps, .marten, .msix, .hostRest, .ports, .wards, .hbm, .recorderRest, .burrow, .twin] ([1280, 2755, 2764, 2768, 2781, 2828, 2832, 2944, 3656, 3742, 3776, 5952] ++ [6016, 6024, 6032, 6045, 6144, 6152, 6238, 6300, 6301, 6464, 6480, 6914] ++ [7048, 7744, 7808, 9152, 9280, 9344, 9408]) s (execTelem p words ns s) := by
  unfold execTelem
  try dsimp only
  repeat' first
    | with_reducible apply OutWithin.doIf
    | with_reducible apply OutWithin.next
    | with_reducible apply OutWithin.fault
    | with_reducible apply OutWithin.ite
    | with_reducible apply Within.refl
    | with_reducible assumption
    | with_reducible apply Within.ite ?_ ?_
    | ((with_reducible apply Within.wr _ _ _ ?_ ?h1); (case h1 => rfl))
    | ((with_reducible apply Within.addSat _ _ _ ?_ ?h1); (case h1 => rfl))
    | ((with_reducible apply Within.step ?_ (State.ingestFrame_within _ _ _) ?h1); (case h1 => rfl))
    | ((with_reducible apply Within.step ?_ (State.recTelem_within _ _ _) ?h1); (case h1 => rfl))
    | ((with_reducible apply Within.step ?_ (State.setPort_within _ _ _) ?h1); (case h1 => rfl))
    | ((with_reducible apply Within.step ?_ (State.wardServe_within _ _) ?h1); (case h1 => rfl))

theorem execEvtFrame_out (p : Nat) (h : FrameHead) (sealOk : Bool) (tag : BitVec 8) (code : BitVec 16) (data : BitVec 64) (s : State) :
    OutWithin [.engines, .settRest, .zither, .harps, .msix, .hostRest, .ports, .wards, .burrow, .twin] ([1280, 2755, 2764, 2768, 2781, 2828, 2832, 2944, 3656, 3742, 3776, 5952] ++ [6016, 6024, 6032, 6042, 6045, 6144, 6160, 6168, 6238, 6300, 6301, 6914] ++ [7048, 7744, 7808, 9152, 9280, 9344, 9408]) s (execEvtFrame p h sealOk tag code data s) := by
  unfold execEvtFrame
  refine OutWithin.doIf (State.admitFrame_within s p h _ sealOk _ rfl fun u hu => ?_)
  have ht := fun x => Within.step hu (State.setPort_within u p x) (bs' := [.ports]) (cs' := []) rfl
  exact Within.ite (ht _) (Within.step (ht _) (State.record_within _ _ _ _) rfl)

theorem State.ctrlAnswer_out (s : State) (p : Nat) (h : FrameHead) (code arg : Nat) (f : State → State) {bs : List Block} {cs : List Nat}
    (hc : covers bs [.engines, .ports] cs [6144, 6168] = true) (hf : ∀ u, Within bs cs s u → Within bs cs s (f u)) :
    OutWithin bs cs s (State.ctrlAnswer s p h code arg f) := by
  have hs : Within bs cs s s := Within.refl _ _ s
  unfold State.ctrlAnswer
  refine OutWithin.doIf (Within.ite ?_ ?_)
  · exact Within.step hs (Within.step (Within.refl _ _ s) (State.badFrame_within s p) rfl) hc
  · split
    · exact hs
    · exact hf _ (Within.step hs (Within.step (Within.refl _ _ s) (State.endCtrl_within s p _ _) rfl) hc)

theorem execDrained_out (p : Nat) (h : FrameHead) (part : BitVec 8) (s : State) : OutWithin [.engines, .msix, .hostRest, .ports, .wards] [6016, 6144, 6168, 7048, 7744, 7808] s (execDrained p h part s) := by
  unfold execDrained
  exact State.ctrlAnswer_out s p h _ _ _ rfl fun u hu => Within.step hu (State.seqDrained_within _ _ _) rfl

theorem execReleased_out (p : Nat) (h : FrameHead) (part : BitVec 8) (s : State) : OutWithin [.engines, .msix, .hostRest, .ports, .wards, .burrow] [6144, 6168, 6914, 7048, 7744, 7808, 9152, 9280, 9344, 9408] s (execReleased p h part s) := by
  unfold execReleased
  exact State.ctrlAnswer_out s p h _ _ _ rfl fun u hu => Within.step hu (State.seqReleased_within _ _ _) rfl

theorem execFenceDone_out (p : Nat) (h : FrameHead) (arg : BitVec 4) (s : State) : OutWithin [.engines, .msix, .hostRest, .ports, .wards] [6016, 6144, 6168, 7048, 7744, 7808] s (execFenceDone p h arg s) := by
  unfold execFenceDone
  exact State.ctrlAnswer_out s p h _ _ _ rfl fun u hu => Within.ite (Within.step hu (State.seqFenced_within u arg.toNat p) rfl) hu

theorem execCtrlResend_out (p : Nat) (code arg : BitVec 8) (s : State) :
    OutWithin [.engines, .settRest, .zither, .harps, .msix, .hostRest, .ports, .wards, .burrow, .twin] ([1280, 2755, 2764, 2768, 2781, 2828, 2832, 2944, 3656, 3742, 3776, 5952] ++ [6016, 6024, 6032, 6045, 6144, 6238, 6300, 6301, 6914, 7048, 7744, 7808] ++ [9152, 9280, 9344, 9408]) s (execCtrlResend p code arg s) := by
  unfold execCtrlResend
  try dsimp only
  repeat' first
    | with_reducible apply OutWithin.doIf
    | with_reducible apply OutWithin.next
    | with_reducible apply OutWithin.fault
    | with_reducible apply OutWithin.ite
    | with_reducible apply Within.refl
    | with_reducible assumption
    | with_reducible apply Within.ite ?_ ?_
    | ((with_reducible apply Within.step ?_ (State.endCtrl_within _ _ _ _) ?h1); (case h1 => rfl))
    | ((with_reducible apply Within.step ?_ (State.seqLate_within _ _ _) ?h1); (case h1 => rfl))
    | ((with_reducible apply Within.step ?_ (State.setPort_within _ _ _) ?h1); (case h1 => rfl))
    | split

theorem execDrainDeadline_out (p : Nat) (part : BitVec 8) (s : State) :
    OutWithin [.engines, .msix, .hostRest, .ports, .wards, .burrow] [6016, 6144, 6914, 7048, 7744, 7808, 9152, 9280, 9344, 9408] s (execDrainDeadline p part s) := by
  unfold execDrainDeadline
  try dsimp only
  repeat' first
    | with_reducible apply OutWithin.doIf
    | with_reducible apply OutWithin.next
    | with_reducible apply OutWithin.fault
    | with_reducible apply OutWithin.ite
    | with_reducible apply Within.refl
    | with_reducible assumption
    | with_reducible apply Within.ite ?_ ?_
    | ((with_reducible apply Within.step ?_ (State.endCtrl_within _ _ _ _) ?h1); (case h1 => rfl))
    | ((with_reducible apply Within.step ?_ (State.seqEscalate_within _ _ _) ?h1); (case h1 => rfl))
    | split

theorem execFenceDeadline_out (p : Nat) (arg : BitVec 4) (s : State) :
    OutWithin [.engines, .settRest, .zither, .harps, .msix, .hostRest, .ports, .wards, .burrow, .twin] ([1280, 2755, 2764, 2768, 2781, 2828, 2832, 2944, 3656, 3742, 3776, 5952] ++ [6016, 6024, 6032, 6045, 6144, 6238, 6300, 6301, 6914, 7048, 7744, 7808] ++ [9152, 9280, 9344, 9408]) s (execFenceDeadline p arg s) := by
  unfold execFenceDeadline
  try dsimp only
  repeat' first
    | with_reducible apply OutWithin.doIf
    | with_reducible apply OutWithin.next
    | with_reducible apply OutWithin.fault
    | with_reducible apply OutWithin.ite
    | with_reducible apply Within.refl
    | with_reducible assumption
    | with_reducible apply Within.ite ?_ ?_
    | ((with_reducible apply Within.step ?_ (State.endCtrl_within _ _ _ _) ?h1); (case h1 => rfl))
    | ((with_reducible apply Within.step ?_ (State.seqLate_within _ _ _) ?h1); (case h1 => rfl))
    | split

theorem execBulk_out (p stream : Nat) (h : FrameHead) (sealOk : Bool) (off : BitVec 64) (len : BitVec 13) (diffs : List (BitVec 11)) (uncorr : Bool) (s : State) :
    OutWithin [.engines, .settRest, .zither, .harps, .msix, .hostRest, .ports, .wards, .burrow, .twin] ([1280, 2755, 2764, 2768, 2781, 2828, 2832, 2944, 3656, 3742, 3776, 5952] ++ [6016, 6024, 6032, 6042, 6045, 6144, 6160, 6168, 6238, 6300, 6301, 6914] ++ [7048, 7744, 7808, 9152, 9280, 9344, 9408]) s (execBulk p stream h sealOk off len diffs uncorr s) := by
  unfold execBulk
  refine OutWithin.doIf (State.admitFrame_within s p _ _ sealOk _ rfl fun u hu => ?_)
  have ht : ∀ x, Within [.engines, .settRest, .zither, .harps, .msix, .hostRest, .ports, .wards, .burrow, .twin] ([1280, 2755, 2764, 2768, 2781, 2828, 2832, 2944, 3656, 3742, 3776, 5952] ++ [6016, 6024, 6032, 6042, 6045, 6144, 6160, 6168, 6238, 6300, 6301, 6914] ++ [7048, 7744, 7808, 9152, 9280, 9344, 9408]) s (u.setPort p x) := fun x => Within.step hu (State.setPort_within u p x) rfl
  split
  · exact hu
  · refine Within.ite (ht _) (Within.ite (Within.ite ?_ ?_) (ht _))
    · exact Within.step ((ht _).set_wards _ rfl) (State.wardFail_within _ _ _) rfl
    · exact Within.step (ht _) (State.setWard_within _ _ _) rfl

theorem execBack_out (p stream : Nat) (h : FrameHead) (sealOk : Bool) (off : BitVec 64) (credit : BitVec 32) (s : State) :
    OutWithin [.engines, .settRest, .zither, .harps, .msix, .hostRest, .ports, .wards, .burrow, .twin] ([1280, 2755, 2764, 2768, 2781, 2828, 2832, 2944, 3656, 3742, 3776, 5952] ++ [6016, 6024, 6032, 6042, 6045, 6144, 6160, 6168, 6238, 6300, 6301, 6914] ++ [7048, 7744, 7808, 9152, 9280, 9344, 9408]) s (execBack p stream h sealOk off credit s) := by
  unfold execBack
  refine OutWithin.doIf (State.admitFrame_within s p h _ sealOk _ rfl fun u hu => ?_)
  have ht : ∀ x, Within [.engines, .settRest, .zither, .harps, .msix, .hostRest, .ports, .wards, .burrow, .twin] ([1280, 2755, 2764, 2768, 2781, 2828, 2832, 2944, 3656, 3742, 3776, 5952] ++ [6016, 6024, 6032, 6042, 6045, 6144, 6160, 6168, 6238, 6300, 6301, 6914] ++ [7048, 7744, 7808, 9152, 9280, 9344, 9408]) s (u.setPort p x) := fun x => Within.step hu (State.setPort_within u p x) rfl
  dsimp only
  split
  · exact hu
  · exact Within.ite hu (Within.ite (Within.step (ht _) (State.streamDone_within _ _ _ _) rfl) (ht _))

theorem execBulkTimeout_out (p stream : Nat) (s : State) :
    OutWithin [.ports, .wards] [] s (execBulkTimeout p stream s) := by
  unfold execBulkTimeout
  try dsimp only
  repeat' first
    | with_reducible apply OutWithin.doIf
    | with_reducible apply OutWithin.next
    | with_reducible apply OutWithin.fault
    | with_reducible apply OutWithin.ite
    | with_reducible apply Within.refl
    | with_reducible assumption
    | with_reducible apply Within.ite ?_ ?_
    | ((with_reducible apply Within.step ?_ (State.setPort_within _ _ _) ?h1); (case h1 => rfl))
    | ((with_reducible apply Within.step ?_ (State.setWard_within _ _ _) ?h1); (case h1 => rfl))
    | split

theorem execSec_out (p : Nat) (f : SecFrame) (s : State) :
    OutWithin [.engines, .settRest, .zither, .harps, .msix, .hostRest, .ports, .wards, .burrow, .twin] ([1280, 2755, 2764, 2768, 2781, 2828, 2832, 2944, 3656, 3742, 3776, 5952] ++ [6016, 6024, 6032, 6042, 6045, 6144, 6168, 6238, 6300, 6301, 6914, 7048] ++ [7744, 7808, 9152, 9280, 9344, 9408]) s (execSec p f s) := by
  unfold execSec
  try dsimp only
  repeat' first
    | with_reducible apply OutWithin.doIf
    | with_reducible apply OutWithin.next
    | with_reducible apply OutWithin.fault
    | with_reducible apply OutWithin.ite
    | with_reducible apply Within.refl
    | with_reducible assumption
    | with_reducible apply Within.ite ?_ ?_
    | ((with_reducible apply Within.wr _ _ _ ?_ ?h1); (case h1 => rfl))
    | ((with_reducible apply Within.step ?_ (State.badFrame_within _ _) ?h1); (case h1 => rfl))
    | ((with_reducible apply Within.step ?_ (State.islandNext_within _) ?h1); (case h1 => rfl))
    | ((with_reducible apply Within.step ?_ (State.secFail_within _ _) ?h1); (case h1 => rfl))
    | ((with_reducible apply Within.step ?_ (State.setPort_within _ _ _) ?h1); (case h1 => rfl))
    | ((with_reducible apply Within.step ?_ (State.wardSecured_within _ _) ?h1); (case h1 => rfl))
    | ((with_reducible apply Within.set_wards _ ?_ ?h1); (case h1 => rfl))

theorem execRekeyDue_out (p : Nat) (s : State) :
    OutWithin [.ports, .wards] [] s (execRekeyDue p s) := by
  unfold execRekeyDue
  try dsimp only
  repeat' first
    | with_reducible apply OutWithin.doIf
    | with_reducible apply OutWithin.next
    | with_reducible apply OutWithin.fault
    | with_reducible apply OutWithin.ite
    | with_reducible apply Within.refl
    | with_reducible assumption
    | with_reducible apply Within.ite ?_ ?_
    | ((with_reducible apply Within.step ?_ (State.secStart_within _ _) ?h1); (case h1 => rfl))

theorem execSegmentComplete_out (s : State) :
    OutWithin [.hbm, .recorderRest] [8094, 8320] s (execSegmentComplete s) := by
  unfold execSegmentComplete
  try dsimp only
  repeat' first
    | with_reducible apply OutWithin.doIf
    | with_reducible apply OutWithin.next
    | with_reducible apply OutWithin.fault
    | with_reducible apply OutWithin.ite
    | with_reducible apply Within.refl
    | with_reducible assumption
    | with_reducible apply Within.ite ?_ ?_
    | ((with_reducible apply Within.wr _ _ _ ?_ ?h1); (case h1 => rfl))
    | ((with_reducible apply Within.addSat _ _ _ ?_ ?h1); (case h1 => rfl))
    | ((with_reducible apply Within.step ?_ (State.segBegin_within _ _) ?h1); (case h1 => rfl))
    | ((with_reducible apply Within.step ?_ (State.segEnd_within _) ?h1); (case h1 => rfl))
    | ((with_reducible apply Within.set_recRest _ ?_ ?h1 ?h2); (case h1 => rfl); (case h2 => with_reducible rfl))

theorem execRecTrigger_out (s : State) :
    OutWithin [.msix, .recorderRest, .burrow] [6914, 8064, 8084, 8092, 8094, 8256, 9152, 9280, 9344, 9408] s (execRecTrigger s) := by
  unfold execRecTrigger
  try dsimp only
  repeat' first
    | with_reducible apply OutWithin.doIf
    | with_reducible apply OutWithin.next
    | with_reducible apply OutWithin.fault
    | with_reducible apply OutWithin.ite
    | with_reducible apply Within.refl
    | with_reducible assumption
    | with_reducible apply Within.ite ?_ ?_
    | ((with_reducible apply Within.step ?_ (State.recTrigger_within _ _ _ _) ?h1); (case h1 => rfl))

theorem execPostSpanEnd_out (s : State) :
    OutWithin [.msix, .hostRest, .hbm, .recorderRest, .burrow] [6914, 7048, 7744, 7808, 8094, 9152, 9280, 9344, 9408] s (execPostSpanEnd s) := by
  unfold execPostSpanEnd
  try dsimp only
  repeat' first
    | with_reducible apply OutWithin.doIf
    | with_reducible apply OutWithin.next
    | with_reducible apply OutWithin.fault
    | with_reducible apply OutWithin.ite
    | with_reducible apply Within.refl
    | with_reducible assumption
    | with_reducible apply Within.ite ?_ ?_
    | ((with_reducible apply Within.wr _ _ _ ?_ ?h1); (case h1 => rfl))
    | ((with_reducible apply Within.step ?_ (State.complete_within _ _ _ _ _ _ _) ?h1); (case h1 => rfl))
    | ((with_reducible apply Within.step ?_ (State.record_within _ _ _ _) ?h1); (case h1 => rfl))
    | ((with_reducible apply Within.step ?_ (State.segEnd_within _) ?h1); (case h1 => rfl))
    | split
    | ((with_reducible apply Within.set_recRest _ ?_ ?h1 ?h2); (case h1 => rfl); (case h2 => with_reducible rfl))

theorem execHbmScrub_out (offset : BitVec 36) (bad : BitVec 280) (s : State) :
    OutWithin [.part, .marten, .msix, .hostRest, .ports, .wards, .hbm, .recorderRest, .secure, .burrow] ([0, 16, 4736, 4748, 4767, 6877, 6913, 6914, 7007, 7040, 7048, 7056] ++ [7070, 7168, 7184, 7192, 7680, 7744, 7808, 7816, 7824, 7872, 7936, 8192] ++ [8208, 8384, 8443, 8444, 8447, 9152, 9280, 9344, 9408]) s (execHbmScrub offset bad s) := by
  unfold execHbmScrub
  try dsimp only
  repeat' first
    | with_reducible apply OutWithin.doIf
    | with_reducible apply OutWithin.next
    | with_reducible apply OutWithin.fault
    | with_reducible apply OutWithin.ite
    | with_reducible apply Within.refl
    | with_reducible assumption
    | with_reducible apply Within.ite ?_ ?_
    | ((with_reducible apply Within.step ?_ (State.appReset_within _ _) ?h1); (case h1 => rfl))
    | ((with_reducible apply Within.step ?_ (State.hbmCorr_within _ _) ?h1); (case h1 => rfl))
    | ((with_reducible apply Within.step ?_ (State.hbmMend_within _ _) ?h1); (case h1 => rfl))
    | ((with_reducible apply Within.step ?_ (State.hbmUncorr_within _ _ _) ?h1); (case h1 => rfl))
    | ((with_reducible apply Within.step ?_ (State.hbmUpset_within _ _ _) ?h1); (case h1 => rfl))
    | split

theorem execSharedMemoryScrub_out (sett : Nat) (w : BitVec 12) (bad : BitVec 280) (s : State) :
    OutWithin [.sharedMemory, .settRest, .msix, .burrow] [6914, 8192, 8208, 8384, 8443, 8444, 8447, 9152, 9280, 9344, 9408] s (execSharedMemoryScrub sett w bad s) := by
  unfold execSharedMemoryScrub
  try dsimp only
  repeat' first
    | with_reducible apply OutWithin.doIf
    | with_reducible apply OutWithin.next
    | with_reducible apply OutWithin.fault
    | with_reducible apply OutWithin.ite
    | with_reducible apply Within.refl
    | with_reducible assumption
    | with_reducible apply Within.ite ?_ ?_
    | ((with_reducible apply Within.step ?_ (State.memCorr_within _ _) ?h1); (case h1 => rfl))
    | ((with_reducible apply Within.step ?_ (State.memUncorr_within _ _ _ _) ?h1); (case h1 => rfl))
    | ((with_reducible apply Within.step ?_ (State.record_within _ _ _ _) ?h1); (case h1 => rfl))
    | ((with_reducible apply Within.step ?_ (State.sharedMend_within _ _) ?h1); (case h1 => rfl))
    | split
    | ((with_reducible apply Within.set_settRest _ ?_ ?h1 ?h2 ?h3); (case h1 => rfl); (case h2 => with_reducible rfl); (case h3 => with_reducible rfl))

theorem execL2Scrub_out (addr : BitVec 32) (bad : BitVec 280) (s : State) :
    OutWithin [.part, .marten, .msix, .hostRest, .ports, .wards, .recorderRest, .secure, .burrow] ([0, 16, 4736, 4748, 4767, 6877, 6913, 6914, 7007, 7040, 7048, 7056] ++ [7070, 7168, 7184, 7192, 7680, 7744, 7808, 7816, 7824, 7872, 7936, 8192] ++ [8208, 8384, 8443, 8444, 8447, 9152, 9280, 9344, 9408]) s (execL2Scrub addr bad s) := by
  unfold execL2Scrub
  try dsimp only
  repeat' first
    | with_reducible apply OutWithin.doIf
    | with_reducible apply OutWithin.next
    | with_reducible apply OutWithin.fault
    | with_reducible apply OutWithin.ite
    | with_reducible apply Within.refl
    | with_reducible assumption
    | with_reducible apply Within.ite ?_ ?_
    | ((with_reducible apply Within.step ?_ (State.appReset_within _ _) ?h1); (case h1 => rfl))
    | ((with_reducible apply Within.step ?_ (State.memCorr_within _ _) ?h1); (case h1 => rfl))
    | ((with_reducible apply Within.step ?_ (State.memUncorr_within _ _ _ _) ?h1); (case h1 => rfl))
    | ((with_reducible apply Within.step ?_ (State.record_within _ _ _ _) ?h1); (case h1 => rfl))
    | split

theorem execFlashScrub_out (region sector : BitVec 16) (found : FlashRead) (s : State) :
    OutWithin [.msix, .burrow] [6914, 8192, 8208, 8384, 8443, 8444, 8447, 9152, 9280, 9344, 9408] s (execFlashScrub region sector found s) := by
  unfold execFlashScrub
  try dsimp only
  repeat' first
    | with_reducible apply OutWithin.doIf
    | with_reducible apply OutWithin.next
    | with_reducible apply OutWithin.fault
    | with_reducible apply OutWithin.ite
    | with_reducible apply Within.refl
    | with_reducible assumption
    | with_reducible apply Within.ite ?_ ?_
    | ((with_reducible apply Within.step ?_ (State.memCorr_within _ _) ?h1); (case h1 => rfl))
    | ((with_reducible apply Within.step ?_ (State.memUncorr_within _ _ _ _) ?h1); (case h1 => rfl))
    | ((with_reducible apply Within.step ?_ (State.record_within _ _ _ _) ?h1); (case h1 => rfl))
    | split

theorem execCorrRateHour_out (s : State) :
    OutWithin [.msix, .recorderRest, .burrow] [6914, 9152, 9280, 9344, 9408] s (execCorrRateHour s) := by
  unfold execCorrRateHour
  try dsimp only
  repeat' first
    | with_reducible apply OutWithin.doIf
    | with_reducible apply OutWithin.next
    | with_reducible apply OutWithin.fault
    | with_reducible apply OutWithin.ite
    | with_reducible apply Within.refl
    | with_reducible assumption
    | with_reducible apply Within.ite ?_ ?_
    | ((with_reducible apply Within.step ?_ (State.record_within _ _ _ _) ?h1); (case h1 => rfl))
    | with_reducible apply Within.each _ _ ?_ (fun _ _ _ _ => ?_)
    | split
    | ((with_reducible apply Within.set_recRest _ ?_ ?h1 ?h2); (case h1 => rfl); (case h2 => with_reducible rfl))

theorem execRfxRuleTrue_out (r : Nat) (s : State) :
    OutWithin [.settRest, .zither, .feed, .harps, .msix, .recorderRest, .burrow, .twin] ([1856, 1872, 2764, 2781, 3335, 3337, 3339, 3352, 3357, 3742, 3776, 6914] ++ [8064, 8084, 8092, 8094, 8256, 9152, 9280, 9344, 9408]) s (execRfxRuleTrue r s) := by
  unfold execRfxRuleTrue
  try dsimp only
  repeat' first
    | with_reducible apply OutWithin.doIf
    | with_reducible apply OutWithin.next
    | with_reducible apply OutWithin.fault
    | with_reducible apply OutWithin.ite
    | with_reducible apply Within.refl
    | with_reducible assumption
    | with_reducible apply Within.ite ?_ ?_
    | ((with_reducible apply Within.step ?_ (State.fire_within _ _) ?h1); (case h1 => rfl))

theorem execPorstRelease_out (tcrit : BitVec 3) (tchan twinRole : BitVec 2) (bootHold : Bool) (fandef : BitVec 2) (xspiMode testen : Bool) (s : State) :
    OutWithin [.part, .sense, .zither, .cooling, .msix, .burrow] ([0, 128, 205, 720, 4096, 5136, 5147, 5149, 5253, 5264, 5271, 5274] ++ [5275, 5312, 5328, 5440, 5832, 6874, 6914, 9152, 9280, 9344, 9408, 9566]) s (execPorstRelease tcrit tchan twinRole bootHold fandef xspiMode testen s) := by
  unfold execPorstRelease
  try dsimp only
  repeat' first
    | with_reducible apply OutWithin.doIf
    | with_reducible apply OutWithin.next
    | with_reducible apply OutWithin.fault
    | with_reducible apply OutWithin.ite
    | with_reducible apply Within.refl
    | with_reducible assumption
    | with_reducible apply Within.ite ?_ ?_
    | ((with_reducible apply Within.step ?_ (State.boot_within _ _) ?h1); (case h1 => rfl))
    | ((with_reducible apply Within.set_part _ ?_ ?h1); (case h1 => rfl))

theorem execStage2Start_out (cub : CubCheck) (s : State) :
    OutWithin [.part, .msix, .secure, .burrow] ([832, 833, 1024, 1088, 6877, 6914, 8475, 8478, 8640, 8641, 8642, 8643] ++ [8644, 8645, 8768, 9088, 9152, 9280, 9344, 9408]) s (execStage2Start cub s) := by
  unfold execStage2Start
  try dsimp only
  repeat' first
    | with_reducible apply OutWithin.doIf
    | with_reducible apply OutWithin.next
    | with_reducible apply OutWithin.fault
    | with_reducible apply OutWithin.ite
    | with_reducible apply Within.refl
    | with_reducible assumption
    | with_reducible apply Within.ite ?_ ?_
    | ((with_reducible apply Within.step ?_ (State.drawChallenge_within _) ?h1); (case h1 => rfl))
    | ((with_reducible apply Within.step ?_ (State.goInert_within _ _) ?h1); (case h1 => rfl))
    | ((with_reducible apply Within.step ?_ (State.record_within _ _ _ _) ?h1); (case h1 => rfl))
    | ((with_reducible apply Within.step ?_ (State.restore_within _) ?h1); (case h1 => rfl))
    | ((with_reducible apply Within.step ?_ (State.scanBurrow_within _) ?h1); (case h1 => rfl))
    | split
    | ((with_reducible apply Within.set_secure _ ?_ ?h1); (case h1 => rfl))
    | ((with_reducible apply Within.lit ?tt ?_ ?h1 ?h2 ?h3 ?h4); (case h1 => with_reducible rfl); (case h2 => intro b hb; cases b <;> first | exact absurd (by decide) hb | rfl); (case h3 => exact id); (case h4 => intro hb; first | exact hb | rfl))

theorem execImageSelection_out (mismatch : BitVec 8) (badA badB : Bool) (s : State) :
    OutWithin [.part, .zither, .msix, .secure, .burrow, .twin] ([2764, 2781, 2944, 6877, 6914, 8448, 8475, 8476, 8477, 8478, 8512, 8520] ++ [8528, 8640, 8641, 8642, 8643, 8644, 8645, 8704, 8712, 8720, 9152, 9280] ++ [9344, 9408]) s (execImageSelection mismatch badA badB s) := by
  unfold execImageSelection
  try dsimp only
  repeat' first
    | with_reducible apply OutWithin.doIf
    | with_reducible apply OutWithin.next
    | with_reducible apply OutWithin.fault
    | with_reducible apply OutWithin.ite
    | with_reducible apply Within.refl
    | with_reducible assumption
    | with_reducible apply Within.ite ?_ ?_
    | ((with_reducible apply Within.wr _ _ _ ?_ ?h1); (case h1 => rfl))
    | ((with_reducible apply Within.wrBit _ _ _ ?_ ?h1); (case h1 => rfl))
    | ((with_reducible apply Within.step ?_ (State.record_within _ _ _ _) ?h1); (case h1 => rfl))
    | ((with_reducible apply Within.step ?_ (State.select_within _ _ _ _) ?h1); (case h1 => rfl))
    | with_reducible apply Within.each _ _ ?_ (fun _ _ _ _ => ?_)
    | split
    | ((with_reducible apply Within.set_secure _ ?_ ?h1); (case h1 => rfl))

theorem execCore0Release_out (s : State) :
    OutWithin [.part, .engines, .settRest, .zither, .harps, .msix, .hostRest, .ports, .wards, .secure, .burrow, .twin] ([1280, 2755, 2764, 2768, 2781, 2828, 2832, 2944, 3656, 3742, 3776, 5952] ++ [6016, 6024, 6032, 6045, 6144, 6238, 6300, 6301, 6914, 7048, 7168, 7184] ++ [7192, 7744, 7808, 8912, 8920, 8921, 9152, 9280, 9344, 9408]) s (execCore0Release s) := by
  unfold execCore0Release
  try dsimp only
  repeat' first
    | with_reducible apply OutWithin.doIf
    | with_reducible apply OutWithin.next
    | with_reducible apply OutWithin.fault
    | with_reducible apply OutWithin.ite
    | with_reducible apply Within.refl
    | with_reducible assumption
    | with_reducible apply Within.ite ?_ ?_
    | ((with_reducible apply Within.step ?_ (State.firmStart_within _) ?h1); (case h1 => rfl))

theorem execFirmwareReady_out (s : State) :
    OutWithin [.msix] [6877, 6912] s (execFirmwareReady s) := by
  unfold execFirmwareReady
  try dsimp only
  repeat' first
    | with_reducible apply OutWithin.doIf
    | with_reducible apply OutWithin.next
    | with_reducible apply OutWithin.fault
    | with_reducible apply OutWithin.ite
    | with_reducible apply Within.refl
    | with_reducible assumption
    | with_reducible apply Within.ite ?_ ?_
    | ((with_reducible apply Within.wr _ _ _ ?_ ?h1); (case h1 => rfl))
    | ((with_reducible apply Within.raiseInt _ _ ?_ ?h1 ?h2); (case h1 => rfl); (case h2 => rfl))

theorem execHbmTrainingEnd_out (failed : BitVec 4) (s : State) :
    OutWithin [.msix, .hbm, .recorderRest, .burrow] [6876, 6914, 8064, 8084, 8092, 8094, 8256, 8320, 9152, 9280, 9344, 9408] s (execHbmTrainingEnd failed s) := by
  unfold execHbmTrainingEnd
  try dsimp only
  repeat' first
    | with_reducible apply OutWithin.doIf
    | with_reducible apply OutWithin.next
    | with_reducible apply OutWithin.fault
    | with_reducible apply OutWithin.ite
    | with_reducible apply Within.refl
    | with_reducible assumption
    | with_reducible apply Within.ite ?_ ?_
    | ((with_reducible apply Within.wr _ _ _ ?_ ?h1); (case h1 => rfl))
    | ((with_reducible apply Within.step ?_ (State.recStart_within _) ?h1); (case h1 => rfl))
    | ((with_reducible apply Within.step ?_ (State.record_within _ _ _ _) ?h1); (case h1 => rfl))
    | with_reducible apply Within.each _ _ ?_ (fun _ _ _ _ => ?_)
    | ((with_reducible apply Within.set_recRest _ ?_ ?h1 ?h2); (case h1 => rfl); (case h2 => with_reducible rfl))

theorem execXtalLoss_out (s : State) :
    OutWithin [.zither, .msix, .burrow, .twin] [8, 2756, 2764, 2781, 2944, 6914, 9152, 9280, 9344, 9408] s (execXtalLoss s) := by
  unfold execXtalLoss
  try dsimp only
  repeat' first
    | with_reducible apply OutWithin.doIf
    | with_reducible apply OutWithin.next
    | with_reducible apply OutWithin.fault
    | with_reducible apply OutWithin.ite
    | with_reducible apply Within.refl
    | with_reducible assumption
    | with_reducible apply Within.ite ?_ ?_
    | ((with_reducible apply Within.wr _ _ _ ?_ ?h1); (case h1 => rfl))
    | ((with_reducible apply Within.step ?_ (State.goDown_within _ _ _) ?h1); (case h1 => rfl))
    | ((with_reducible apply Within.step ?_ (State.record_within _ _ _ _) ?h1); (case h1 => rfl))
    | ((with_reducible apply Within.step ?_ (State.tellTwin_within _ _) ?h1); (case h1 => rfl))
    | with_reducible apply Within.each _ _ ?_ (fun _ _ _ _ => ?_)

theorem execXtal32kLoss_out (s : State) :
    OutWithin [.part, .msix, .burrow] [6914, 9152, 9280, 9344, 9408] s (execXtal32kLoss s) := by
  unfold execXtal32kLoss
  try dsimp only
  repeat' first
    | with_reducible apply OutWithin.doIf
    | with_reducible apply OutWithin.next
    | with_reducible apply OutWithin.fault
    | with_reducible apply OutWithin.ite
    | with_reducible apply Within.refl
    | with_reducible assumption
    | with_reducible apply Within.ite ?_ ?_
    | ((with_reducible apply Within.step ?_ (State.record_within _ _ _ _) ?h1); (case h1 => rfl))
    | ((with_reducible apply Within.set_part _ ?_ ?h1); (case h1 => rfl))

theorem execWatchdogLapse_out (s : State) :
    OutWithin [.part, .marten, .cooling, .msix, .hostRest, .ports, .wards, .recorderRest, .secure, .burrow] ([0, 16, 4736, 4748, 4767, 5136, 5147, 5149, 5271, 5276, 5279, 6877] ++ [6913, 6914, 7007, 7040, 7048, 7056, 7070, 7168, 7184, 7192, 7680, 7744] ++ [7808, 7816, 7824, 7872, 7936, 9152, 9280, 9344, 9408]) s (execWatchdogLapse s) := by
  unfold execWatchdogLapse
  try dsimp only
  repeat' first
    | with_reducible apply OutWithin.doIf
    | with_reducible apply OutWithin.next
    | with_reducible apply OutWithin.fault
    | with_reducible apply OutWithin.ite
    | with_reducible apply Within.refl
    | with_reducible assumption
    | with_reducible apply Within.ite ?_ ?_
    | ((with_reducible apply Within.step ?_ (State.appReset_within _ _) ?h1); (case h1 => rfl))
    | ((with_reducible apply Within.step ?_ (State.zonesFallback_within _ _) ?h1); (case h1 => rfl))

theorem execApplicationReset_out (s : State) :
    OutWithin [.part, .marten, .msix, .hostRest, .ports, .wards, .recorderRest, .secure, .burrow] ([0, 16, 4736, 4748, 4767, 6877, 6913, 6914, 7007, 7040, 7048, 7056] ++ [7070, 7168, 7184, 7192, 7680, 7744, 7808, 7816, 7824, 7872, 7936, 9152] ++ [9280, 9344, 9408]) s (execApplicationReset s) := by
  unfold execApplicationReset
  try dsimp only
  repeat' first
    | with_reducible apply OutWithin.doIf
    | with_reducible apply OutWithin.next
    | with_reducible apply OutWithin.fault
    | with_reducible apply OutWithin.ite
    | with_reducible apply Within.refl
    | with_reducible assumption
    | with_reducible apply Within.ite ?_ ?_
    | ((with_reducible apply Within.step ?_ (State.appReset_within _ _) ?h1); (case h1 => rfl))

theorem execVcoreLoss_out (s : State) :
    OutWithin [.part, .engines, .marten, .msix, .hostRest, .ports, .wards, .hbm, .recorderRest, .secure, .burrow] ([4176, 4177, 4224, 4225, 4226, 4227, 4228, 4232, 4240, 4253, 4544, 4548] ++ [4672, 4736, 4748, 4767, 4800, 4816, 4831, 4928, 4942, 4944, 4952, 5952] ++ [6016, 6040, 6041, 6042, 6043, 6045, 6144, 6876, 6914, 7007, 7040, 7048] ++ [7056, 7070, 7680, 7744, 7808, 7816, 7824, 7872, 7936, 8094, 9152, 9280] ++ [9344, 9408]) s (execVcoreLoss s) := by
  unfold execVcoreLoss
  try dsimp only
  repeat' first
    | with_reducible apply OutWithin.doIf
    | with_reducible apply OutWithin.next
    | with_reducible apply OutWithin.fault
    | with_reducible apply OutWithin.ite
    | with_reducible apply Within.refl
    | with_reducible assumption
    | with_reducible apply Within.ite ?_ ?_
    | ((with_reducible apply Within.step ?_ (State.vcoreOff_within _) ?h1); (case h1 => rfl))
    | ((with_reducible apply Within.set_part _ ?_ ?h1); (case h1 => rfl))

theorem execVcoreReturn_out (s : State) :
    OutWithin [.part, .marten, .msix, .hostRest, .ports, .wards, .hbm, .recorderRest, .secure, .burrow] ([0, 16, 4736, 4748, 4767, 6876, 6877, 6913, 6914, 7007, 7040, 7048] ++ [7056, 7070, 7168, 7184, 7192, 7680, 7744, 7808, 7816, 7824, 7872, 7936] ++ [8064, 8084, 8092, 8094, 8256, 8320, 9152, 9280, 9344, 9408]) s (execVcoreReturn s) := by
  unfold execVcoreReturn
  try dsimp only
  repeat' first
    | with_reducible apply OutWithin.doIf
    | with_reducible apply OutWithin.next
    | with_reducible apply OutWithin.fault
    | with_reducible apply OutWithin.ite
    | with_reducible apply Within.refl
    | with_reducible assumption
    | with_reducible apply Within.ite ?_ ?_
    | ((with_reducible apply Within.wr _ _ _ ?_ ?h1); (case h1 => rfl))
    | ((with_reducible apply Within.step ?_ (State.appReset_within _ _) ?h1); (case h1 => rfl))
    | ((with_reducible apply Within.step ?_ (State.recStart_within _) ?h1); (case h1 => rfl))
    | ((with_reducible apply Within.set_part _ ?_ ?h1); (case h1 => rfl))

theorem execVsettLoss_out (s : State) :
    OutWithin [.part, .sense, .engines, .sharedMemory, .settRest, .zither, .harps, .cooling, .msix, .burrow] ([199, 200, 201, 202, 204, 205, 206, 207, 208, 320, 336, 576] ++ [577, 578, 579, 580, 581, 2764, 2781, 3712, 3734, 3735, 3736, 3738] ++ [3740, 3742, 5136, 5147, 5149, 5271, 5276, 5279, 6914, 9152, 9280, 9344] ++ [9408]) s (execVsettLoss s) := by
  unfold execVsettLoss
  try dsimp only
  repeat' first
    | with_reducible apply OutWithin.doIf
    | with_reducible apply OutWithin.next
    | with_reducible apply OutWithin.fault
    | with_reducible apply OutWithin.ite
    | with_reducible apply Within.refl
    | with_reducible assumption
    | with_reducible apply Within.ite ?_ ?_
    | ((with_reducible apply Within.step ?_ (State.vsettOff_within _) ?h1); (case h1 => rfl))
    | ((with_reducible apply Within.set_part _ ?_ ?h1); (case h1 => rfl))

theorem execVaoReturn_out (s : State) :
    OutWithin [.part, .sense, .zither, .cooling, .msix, .burrow] ([0, 128, 205, 720, 4096, 5136, 5147, 5149, 5253, 5264, 5271, 5274] ++ [5275, 5312, 5328, 5440, 5832, 6874, 6914, 9152, 9280, 9344, 9408, 9566]) s (execVaoReturn s) := by
  unfold execVaoReturn
  try dsimp only
  repeat' first
    | with_reducible apply OutWithin.doIf
    | with_reducible apply OutWithin.next
    | with_reducible apply OutWithin.fault
    | with_reducible apply OutWithin.ite
    | with_reducible apply Within.refl
    | with_reducible assumption
    | with_reducible apply Within.ite ?_ ?_
    | ((with_reducible apply Within.step ?_ (State.boot_within _ _) ?h1); (case h1 => rfl))
    | ((with_reducible apply Within.set_part _ ?_ ?h1); (case h1 => rfl))

theorem execCxlPerstAssert_out (s : State) :
    OutWithin [.part, .msix, .hostRest, .ports, .wards, .recorderRest, .secure, .burrow] ([6914, 7007, 7040, 7048, 7056, 7070, 7680, 7744, 7808, 7816, 7824, 7872] ++ [7936, 9152, 9280, 9344, 9408]) s (execCxlPerstAssert s) := by
  unfold execCxlPerstAssert
  try dsimp only
  repeat' first
    | with_reducible apply OutWithin.doIf
    | with_reducible apply OutWithin.next
    | with_reducible apply OutWithin.fault
    | with_reducible apply OutWithin.ite
    | with_reducible apply Within.refl
    | with_reducible assumption
    | with_reducible apply Within.ite ?_ ?_
    | ((with_reducible apply Within.step ?_ (State.cxlReset_within _ _) ?h1); (case h1 => rfl))
    | ((with_reducible apply Within.lit ?tt ?_ ?h1 ?h2 ?h3 ?h4); (case h1 => with_reducible rfl); (case h2 => intro b hb; cases b <;> first | exact absurd (by decide) hb | rfl); (case h3 => exact id); (case h4 => intro hb; first | exact hb | rfl))

theorem execCxlPerstRelease_out (s : State) :
    OutWithin [.part] [] s (execCxlPerstRelease s) := by
  unfold execCxlPerstRelease
  try dsimp only
  repeat' first
    | with_reducible apply OutWithin.doIf
    | with_reducible apply OutWithin.next
    | with_reducible apply OutWithin.fault
    | with_reducible apply OutWithin.ite
    | with_reducible apply Within.refl
    | with_reducible assumption
    | with_reducible apply Within.ite ?_ ?_
    | ((with_reducible apply Within.set_part _ ?_ ?h1); (case h1 => rfl))

theorem execCxlLinkDown_out (cause : BitVec 8) (s : State) :
    OutWithin [.msix, .hostRest, .ports, .wards, .recorderRest, .secure, .burrow] ([6914, 7007, 7040, 7048, 7056, 7070, 7680, 7744, 7808, 7816, 7824, 7872] ++ [7936, 9152, 9280, 9344, 9408]) s (execCxlLinkDown cause s) := by
  unfold execCxlLinkDown
  try dsimp only
  repeat' first
    | with_reducible apply OutWithin.doIf
    | with_reducible apply OutWithin.next
    | with_reducible apply OutWithin.fault
    | with_reducible apply OutWithin.ite
    | with_reducible apply Within.refl
    | with_reducible assumption
    | with_reducible apply Within.ite ?_ ?_
    | ((with_reducible apply Within.step ?_ (State.cxlReset_within _ _) ?h1); (case h1 => rfl))
    | ((with_reducible apply Within.step ?_ (State.record_within _ _ _ _) ?h1); (case h1 => rfl))

theorem execLinkL0_out (rate width : BitVec 8) (s : State) :
    OutWithin [.msix, .hostRest, .burrow] [6914, 6915, 9152, 9280, 9344, 9408] s (execLinkL0 rate width s) := by
  unfold execLinkL0
  try dsimp only
  repeat' first
    | with_reducible apply OutWithin.doIf
    | with_reducible apply OutWithin.next
    | with_reducible apply OutWithin.fault
    | with_reducible apply OutWithin.ite
    | with_reducible apply Within.refl
    | with_reducible assumption
    | with_reducible apply Within.ite ?_ ?_
    | ((with_reducible apply Within.raiseInt _ _ ?_ ?h1 ?h2); (case h1 => rfl); (case h2 => rfl))
    | ((with_reducible apply Within.step ?_ (State.record_within _ _ _ _) ?h1); (case h1 => rfl))
    | ((with_reducible apply Within.set_msix _ ?_ ?h1 ?h2); (case h1 => rfl); (case h2 => with_reducible rfl))
    | ((with_reducible apply Within.set_hostRest _ ?_ ?h1 ?h2); (case h1 => rfl); (case h2 => with_reducible rfl))

theorem execPmbusAlert_out (bus : Nat) (s : State) :
    OutWithin [.part] [] s (execPmbusAlert bus s) := by
  unfold execPmbusAlert
  try dsimp only
  repeat' first
    | with_reducible apply OutWithin.doIf
    | with_reducible apply OutWithin.next
    | with_reducible apply OutWithin.fault
    | with_reducible apply OutWithin.ite
    | with_reducible apply Within.refl
    | with_reducible assumption
    | with_reducible apply Within.ite ?_ ?_
    | ((with_reducible apply Within.set_part _ ?_ ?h1); (case h1 => rfl))

theorem execSampleWord_out (sub : Nat) (words : List (Fin 304 × SampleRead)) (s : State) :
    OutWithin [.sense, .engines, .zither, .feed, .marten, .cooling, .msix, .hostRest, .hbm, .recorderRest, .burrow, .twin] ([199, 201, 202, 204, 320, 336, 576, 577, 578, 579, 832, 833] ++ [896, 1024, 1088, 2764, 2781, 3335, 3337, 3339, 3352, 3357, 3392, 4831] ++ [4864, 5888, 5916, 5918, 6914, 9152, 9280, 9344, 9408]) s (execSampleWord sub words s) := by
  unfold execSampleWord
  try dsimp only
  repeat' first
    | with_reducible apply OutWithin.doIf
    | with_reducible apply OutWithin.next
    | with_reducible apply OutWithin.fault
    | with_reducible apply OutWithin.ite
    | with_reducible apply Within.refl
    | with_reducible assumption
    | with_reducible apply Within.ite ?_ ?_
    | ((with_reducible apply State.inOneCycle_within ?_ ?h1 (fun _ _ _ => ?_)); (case h1 => rfl))
    | ((with_reducible apply Within.step ?_ (State.arrive_within _ _ _ _) ?h1); (case h1 => rfl))
    | ((with_reducible apply Within.step ?_ (State.collectEdges_within _ _) ?h1); (case h1 => rfl))
    | ((with_reducible apply Within.step ?_ (State.fanOut_within _ _ _ _) ?h1); (case h1 => rfl))
    | ((with_reducible apply Within.step ?_ (State.judgeEntries_within _) ?h1); (case h1 => rfl))
    | with_reducible apply Within.each _ _ ?_ (fun _ _ _ _ => ?_)

theorem execStageComponent_out (via : Via) (part : Component) (room : Bool) (evict : List (BitVec 384)) (s : State) :
    OutWithin [.msix, .hostRest, .secure] [7048, 7744, 7808] s (execStageComponent via part room evict s) := by
  unfold execStageComponent
  try dsimp only
  repeat' first
    | with_reducible apply OutWithin.doIf
    | with_reducible apply OutWithin.next
    | with_reducible apply OutWithin.fault
    | with_reducible apply OutWithin.ite
    | with_reducible apply Within.refl
    | with_reducible assumption
    | with_reducible apply Within.ite ?_ ?_
    | ((with_reducible apply Within.step ?_ (State.begin__within _ _) ?h1); (case h1 => rfl))
    | ((with_reducible apply Within.step ?_ (State.finish_within _ _ _ _ _ _) ?h1); (case h1 => rfl))
    | ((with_reducible apply Within.step ?_ (State.setSlot_within _ _ _) ?h1); (case h1 => rfl))
    | split
    | ((with_reducible apply Within.set_secure _ ?_ ?h1); (case h1 => rfl))

theorem execStageDone_out (sourceOk : Bool) (s : State) :
    OutWithin [.msix, .hostRest, .secure, .burrow] [6914, 7048, 7744, 7808, 9152, 9280, 9344, 9408] s (execStageDone sourceOk s) := by
  unfold execStageDone
  try dsimp only
  repeat' first
    | with_reducible apply OutWithin.doIf
    | with_reducible apply OutWithin.next
    | with_reducible apply OutWithin.fault
    | with_reducible apply OutWithin.ite
    | with_reducible apply Within.refl
    | with_reducible assumption
    | with_reducible apply Within.ite ?_ ?_
    | ((with_reducible apply State.useCrypto_within ?_ ?h1 (fun _ _ => ?_)); (case h1 => rfl))
    | ((with_reducible apply Within.step ?_ (State.finish_within _ _ _ _ _ _) ?h1); (case h1 => rfl))
    | ((with_reducible apply Within.step ?_ (State.setSlot_within _ _ _) ?h1); (case h1 => rfl))
    | ((with_reducible apply Within.step ?_ (State.stageOk_within _ _) ?h1); (case h1 => rfl))
    | split
    | ((with_reducible apply Within.set_secure _ ?_ ?h1); (case h1 => rfl))

theorem execActivateSet_out (via : Via) (bytes : Signed) (models shadowOk : Bool) (s : State) :
    OutWithin [.engines, .msix, .hostRest, .secure, .burrow, .twin] [6914, 7048, 7744, 7808, 8912, 9152, 9280, 9344, 9408] s (execActivateSet via bytes models shadowOk s) := by
  unfold execActivateSet
  try dsimp only
  repeat' first
    | with_reducible apply OutWithin.doIf
    | with_reducible apply OutWithin.next
    | with_reducible apply OutWithin.fault
    | with_reducible apply OutWithin.ite
    | with_reducible apply Within.refl
    | with_reducible assumption
    | with_reducible apply Within.ite ?_ ?_
    | ((with_reducible apply Within.wr _ _ _ ?_ ?h1); (case h1 => rfl))
    | ((with_reducible apply State.useCrypto_within ?_ ?h1 (fun _ _ => ?_)); (case h1 => rfl))
    | ((with_reducible apply Within.step ?_ (State.arm_within _ _ _ _ _) ?h1); (case h1 => rfl))
    | ((with_reducible apply Within.step ?_ (State.begin__within _ _) ?h1); (case h1 => rfl))
    | ((with_reducible apply Within.step ?_ (State.finish_within _ _ _ _ _ _) ?h1); (case h1 => rfl))
    | ((with_reducible apply Within.step ?_ (State.tellTwin_within _ _) ?h1); (case h1 => rfl))
    | split
    | dsimp only
    | ((with_reducible apply Within.set_secure _ ?_ ?h1); (case h1 => rfl))

theorem execActivationTick_out (s : State) :
    OutWithin [.part, .marten, .msix, .hostRest, .ports, .wards, .recorderRest, .secure, .burrow, .twin] ([0, 16, 4736, 4748, 4767, 6877, 6913, 6914, 7007, 7040, 7048, 7056] ++ [7070, 7168, 7184, 7192, 7680, 7744, 7808, 7816, 7824, 7872, 7936, 8920] ++ [8921, 8922, 9152, 9280, 9344, 9408, 9562]) s (execActivationTick s) := by
  unfold execActivationTick
  try dsimp only
  repeat' first
    | with_reducible apply OutWithin.doIf
    | with_reducible apply OutWithin.next
    | with_reducible apply OutWithin.fault
    | with_reducible apply OutWithin.ite
    | with_reducible apply Within.refl
    | with_reducible assumption
    | with_reducible apply Within.ite ?_ ?_
    | ((with_reducible apply Within.step ?_ (State.activateFull_within _ _) ?h1); (case h1 => rfl))
    | ((with_reducible apply Within.step ?_ (State.activateLive_within _ _) ?h1); (case h1 => rfl))
    | ((with_reducible apply Within.step ?_ (State.appReset_within _ _) ?h1); (case h1 => rfl))
    | ((with_reducible apply Within.step ?_ (State.cancelArmed_within _ _) ?h1); (case h1 => rfl))
    | split
    | ((with_reducible apply Within.set_secure _ ?_ ?h1); (case h1 => rfl))

theorem execCommitConfirm_out (via : Via) (s : State) :
    OutWithin [.msix, .hostRest, .secure, .burrow] [6914, 7048, 7744, 7808, 8922, 9152, 9280, 9344, 9408] s (execCommitConfirm via s) := by
  unfold execCommitConfirm
  try dsimp only
  repeat' first
    | with_reducible apply OutWithin.doIf
    | with_reducible apply OutWithin.next
    | with_reducible apply OutWithin.fault
    | with_reducible apply OutWithin.ite
    | with_reducible apply Within.refl
    | with_reducible assumption
    | with_reducible apply Within.ite ?_ ?_
    | ((with_reducible apply Within.wr _ _ _ ?_ ?h1); (case h1 => rfl))
    | ((with_reducible apply Within.step ?_ (State.advanceFloor_within _ _) ?h1); (case h1 => rfl))
    | ((with_reducible apply Within.step ?_ (State.finish_within _ _ _ _ _ _) ?h1); (case h1 => rfl))
    | ((with_reducible apply Within.step ?_ (State.record_within _ _ _ _) ?h1); (case h1 => rfl))
    | ((with_reducible apply Within.step ?_ (State.setSlot_within _ _ _) ?h1); (case h1 => rfl))
    | split

theorem execTrialExpiry_out (s : State) :
    OutWithin [.msix, .secure, .burrow] [6914, 9152, 9280, 9344, 9408] s (execTrialExpiry s) := by
  unfold execTrialExpiry
  try dsimp only
  repeat' first
    | with_reducible apply OutWithin.doIf
    | with_reducible apply OutWithin.next
    | with_reducible apply OutWithin.fault
    | with_reducible apply OutWithin.ite
    | with_reducible apply Within.refl
    | with_reducible assumption
    | with_reducible apply Within.ite ?_ ?_
    | ((with_reducible apply Within.step ?_ (State.record_within _ _ _ _) ?h1); (case h1 => rfl))
    | ((with_reducible apply Within.step ?_ (State.setSlot_within _ _ _) ?h1); (case h1 => rfl))
    | split
    | ((with_reducible apply Within.set_secure _ ?_ ?h1); (case h1 => rfl))

theorem execRevokeKey_out (via : Via) (rv : Signed) (s : State) :
    OutWithin [.msix, .hostRest, .secure, .burrow] [6914, 7048, 7744, 7808, 9152, 9280, 9344, 9408] s (execRevokeKey via rv s) := by
  unfold execRevokeKey
  try dsimp only
  repeat' first
    | with_reducible apply OutWithin.doIf
    | with_reducible apply OutWithin.next
    | with_reducible apply OutWithin.fault
    | with_reducible apply OutWithin.ite
    | with_reducible apply Within.refl
    | with_reducible assumption
    | with_reducible apply Within.ite ?_ ?_
    | ((with_reducible apply State.useCrypto_within ?_ ?h1 (fun _ _ => ?_)); (case h1 => rfl))
    | ((with_reducible apply Within.step ?_ (State.finish_within _ _ _ _ _ _) ?h1); (case h1 => rfl))
    | ((with_reducible apply Within.step ?_ (State.record_within _ _ _ _) ?h1); (case h1 => rfl))
    | split
    | ((with_reducible apply Within.set_secure _ ?_ ?h1); (case h1 => rfl))

theorem execTokenSubmit_out (via : Via) (b : Signed) (s : State) :
    OutWithin [.msix, .hostRest, .ports, .wards, .secure, .burrow, .twin] ([3335, 3337, 3339, 3357, 6042, 6914, 7048, 7744, 7808, 8646, 8768, 9152] ++ [9280, 9344, 9408]) s (execTokenSubmit via b s) := by
  unfold execTokenSubmit
  try dsimp only
  repeat' first
    | with_reducible apply OutWithin.doIf
    | with_reducible apply OutWithin.next
    | with_reducible apply OutWithin.fault
    | with_reducible apply OutWithin.ite
    | with_reducible apply Within.refl
    | with_reducible assumption
    | with_reducible apply Within.ite ?_ ?_
    | ((with_reducible apply State.useCrypto_within ?_ ?h1 (fun _ _ => ?_)); (case h1 => rfl))
    | ((with_reducible apply Within.step ?_ (State.finish_within _ _ _ _ _ _) ?h1); (case h1 => rfl))
    | ((with_reducible apply Within.step ?_ (State.useToken_within _ _ _ _) ?h1); (case h1 => rfl))
    | split

theorem execTapToken_out (b : Signed) (s : State) :
    OutWithin [.msix, .ports, .wards, .secure, .burrow, .twin] [3335, 3337, 3339, 3357, 6042, 6914, 8646, 8768, 9152, 9280, 9344, 9408] s (execTapToken b s) := by
  unfold execTapToken
  try dsimp only
  repeat' first
    | with_reducible apply OutWithin.doIf
    | with_reducible apply OutWithin.next
    | with_reducible apply OutWithin.fault
    | with_reducible apply OutWithin.ite
    | with_reducible apply Within.refl
    | with_reducible assumption
    | with_reducible apply Within.ite ?_ ?_
    | ((with_reducible apply State.useCrypto_within ?_ ?h1 (fun _ _ => ?_)); (case h1 => rfl))
    | ((with_reducible apply Within.step ?_ (State.useToken_within _ _ _ _) ?h1); (case h1 => rfl))
    | split

theorem execEvidenceReport_out (via : Via) (signed : List (BitVec 8)) (s : State) :
    OutWithin [.msix, .hostRest, .secure] [7048, 7744, 7808] s (execEvidenceReport via signed s) := by
  unfold execEvidenceReport
  try dsimp only
  repeat' first
    | with_reducible apply OutWithin.doIf
    | with_reducible apply OutWithin.next
    | with_reducible apply OutWithin.fault
    | with_reducible apply OutWithin.ite
    | with_reducible apply Within.refl
    | with_reducible assumption
    | with_reducible apply Within.ite ?_ ?_
    | ((with_reducible apply State.useCrypto_within ?_ ?h1 (fun _ _ => ?_)); (case h1 => rfl))
    | ((with_reducible apply Within.step ?_ (State.finish_within _ _ _ _ _ _) ?h1); (case h1 => rfl))
    | split
    | ((with_reducible apply Within.set_msix _ ?_ ?h1 ?h2); (case h1 => rfl); (case h2 => with_reducible rfl))
    | ((with_reducible apply Within.set_hostRest _ ?_ ?h1 ?h2); (case h1 => rfl); (case h2 => with_reducible rfl))

theorem execOwnerLockSet_out (via : Via) (s : State) :
    OutWithin [.msix, .hostRest, .secure, .burrow] [6914, 7048, 7744, 7808, 9152, 9280, 9344, 9408] s (execOwnerLockSet via s) := by
  unfold execOwnerLockSet
  try dsimp only
  repeat' first
    | with_reducible apply OutWithin.doIf
    | with_reducible apply OutWithin.next
    | with_reducible apply OutWithin.fault
    | with_reducible apply OutWithin.ite
    | with_reducible apply Within.refl
    | with_reducible assumption
    | with_reducible apply Within.ite ?_ ?_
    | ((with_reducible apply Within.step ?_ (State.finish_within _ _ _ _ _ _) ?h1); (case h1 => rfl))
    | ((with_reducible apply Within.step ?_ (State.record_within _ _ _ _) ?h1); (case h1 => rfl))
    | ((with_reducible apply Within.set_secure _ ?_ ?h1); (case h1 => rfl))

theorem execOwnerLockClear_out (via : Via) (b : Signed) (s : State) :
    OutWithin [.msix, .hostRest, .secure, .burrow] [6914, 7048, 7744, 7808, 8768, 9152, 9280, 9344, 9408] s (execOwnerLockClear via b s) := by
  unfold execOwnerLockClear
  try dsimp only
  repeat' first
    | with_reducible apply OutWithin.doIf
    | with_reducible apply OutWithin.next
    | with_reducible apply OutWithin.fault
    | with_reducible apply OutWithin.ite
    | with_reducible apply Within.refl
    | with_reducible assumption
    | with_reducible apply Within.ite ?_ ?_
    | ((with_reducible apply State.useCrypto_within ?_ ?h1 (fun _ _ => ?_)); (case h1 => rfl))
    | ((with_reducible apply Within.step ?_ (State.drawChallenge_within _) ?h1); (case h1 => rfl))
    | ((with_reducible apply Within.step ?_ (State.finish_within _ _ _ _ _ _) ?h1); (case h1 => rfl))
    | ((with_reducible apply Within.step ?_ (State.ownerClear_within _) ?h1); (case h1 => rfl))
    | split

theorem execCommit_out (c : Nat) (b : Bool) (v : BitVec 32) (s : State) :
    OutWithin [.sense] [384, 385, 387, 388, 389, 390, 391, 392, 400] s (execCommit c b v s) := by
  unfold execCommit
  try dsimp only
  repeat' first
    | with_reducible apply OutWithin.doIf
    | with_reducible apply OutWithin.next
    | with_reducible apply OutWithin.fault
    | with_reducible apply OutWithin.ite
    | with_reducible apply Within.refl
    | with_reducible assumption
    | with_reducible apply Within.ite ?_ ?_
    | ((with_reducible apply Within.writeFlds _ _ _ ?_ ?h1); (case h1 => rfl))
    | ((with_reducible apply Within.step ?_ (State.setWin_within _ _ _) ?h1); (case h1 => rfl))

theorem execWindowCommitApply_out (c : Nat) (b : Bool) (s : State) :
    OutWithin [.sense, .zither] [576, 577, 578, 579, 581, 3356] s (execWindowCommitApply c b s) := by
  unfold execWindowCommitApply
  try dsimp only
  repeat' first
    | with_reducible apply OutWithin.doIf
    | with_reducible apply OutWithin.next
    | with_reducible apply OutWithin.fault
    | with_reducible apply OutWithin.ite
    | with_reducible apply Within.refl
    | with_reducible assumption
    | with_reducible apply Within.ite ?_ ?_
    | ((with_reducible apply Within.wr _ _ _ ?_ ?h1); (case h1 => rfl))
    | ((with_reducible apply Within.step ?_ (State.applyWindow_within _ _) ?h1); (case h1 => rfl))
    | ((with_reducible apply Within.step ?_ (State.judgeEntries_within _) ?h1); (case h1 => rfl))
    | ((with_reducible apply Within.step ?_ (State.setWin_within _ _ _) ?h1); (case h1 => rfl))

theorem execChannelConfigWrite_out (c : Nat) (v : BitVec 32) (s : State) : OutWithin [.sense, .zither] ([128, 132, 137, 159, 201, 202, 204, 205, 206, 207, 320, 336] ++ [576, 577, 578, 579]) s (execChannelConfigWrite c v s) := by
  unfold execChannelConfigWrite
  extract_lets x fixed range enable keep bad1 bad2 fs t1 t2 t3
  have hf : fs.all (fun f => (([128, 132, 137, 159, 201, 202, 204, 205, 206, 207, 320, 336] ++ [576, 577, 578, 579]) : List Nat).contains f.code && f.ok) = true := by
    show (((if fixed = true then [] else [SNS_CHCFG.enable]) ++ (if keep = true then [] else [SNS_CHCFG.range])) ++
      (if s.part.variant = .qa then [SNS_CHCFG.marten_sub] else []) ++ [SNS_CHCFG.lock]).all _ = true
    split <;> split <;> split <;> rfl
  have h1 : Within [.sense, .zither] ([128, 132, 137, 159, 201, 202, 204, 205, 206, 207, 320, 336] ++ [576, 577, 578, 579]) s t1 := (Within.refl _ _ s).writeFlds fs c x hf
  clear_value t1
  have h2 : Within [.sense, .zither] ([128, 132, 137, 159, 201, 202, 204, 205, 206, 207, 320, 336] ++ [576, 577, 578, 579]) s t2 :=
    Within.ite (Within.step (Within.step h1 (State.clearLevels_within _ _) rfl) (State.clearLevels_within _ _) rfl) h1
  clear_value t2
  have h3 : Within [.sense, .zither] ([128, 132, 137, 159, 201, 202, 204, 205, 206, 207, 320, 336] ++ [576, 577, 578, 579]) s t3 := Within.ite h2 (Within.step h2 (State.domainFollow_within _ _) rfl)
  exact OutWithin.doIf (Within.step h3 (State.judgeEntries_within _) rfl)

theorem execChannelLock_out (c : Nat) (s : State) :
    OutWithin [] [159] s (execChannelLock c s) := by
  unfold execChannelLock
  try dsimp only
  repeat' first
    | with_reducible apply OutWithin.doIf
    | with_reducible apply OutWithin.next
    | with_reducible apply OutWithin.fault
    | with_reducible apply OutWithin.ite
    | with_reducible apply Within.refl
    | with_reducible assumption
    | with_reducible apply Within.ite ?_ ?_
    | ((with_reducible apply Within.wr _ _ _ ?_ ?h1); (case h1 => rfl))

theorem execMeterClear_out (m : Nat) (s : State) :
    OutWithin [.sense] [832, 833, 1024, 1088] s (execMeterClear m s) := by
  unfold execMeterClear
  try dsimp only
  repeat' first
    | with_reducible apply OutWithin.doIf
    | with_reducible apply OutWithin.next
    | with_reducible apply OutWithin.fault
    | with_reducible apply OutWithin.ite
    | with_reducible apply Within.refl
    | with_reducible assumption
    | with_reducible apply Within.ite ?_ ?_
    | ((with_reducible apply Within.wr _ _ _ ?_ ?h1); (case h1 => rfl))
    | ((with_reducible apply Within.step ?_ (State.setMeter_within _ _ _) ?h1); (case h1 => rfl))

theorem execMeterPavgUpdate_out (m : Nat) (s : State) :
    OutWithin [.sense] [960] s (execMeterPavgUpdate m s) := by
  unfold execMeterPavgUpdate
  try dsimp only
  repeat' first
    | with_reducible apply OutWithin.doIf
    | with_reducible apply OutWithin.next
    | with_reducible apply OutWithin.fault
    | with_reducible apply OutWithin.ite
    | with_reducible apply Within.refl
    | with_reducible assumption
    | with_reducible apply Within.ite ?_ ?_
    | ((with_reducible apply Within.wr _ _ _ ?_ ?h1); (case h1 => rfl))
    | ((with_reducible apply Within.step ?_ (State.setMeter_within _ _ _) ?h1); (case h1 => rfl))

theorem execAccumulatorLowRead_out (m : Nat) (reverse : Bool) (s : State) :
    OutWithin [.sense] [] s (execAccumulatorLowRead m reverse s) := by
  unfold execAccumulatorLowRead
  try dsimp only
  repeat' first
    | with_reducible apply OutWithin.doIf
    | with_reducible apply OutWithin.next
    | with_reducible apply OutWithin.fault
    | with_reducible apply OutWithin.ite
    | with_reducible apply Within.refl
    | with_reducible assumption
    | with_reducible apply Within.ite ?_ ?_
    | ((with_reducible apply Within.step ?_ (State.setMeter_within _ _ _) ?h1); (case h1 => rfl))

theorem execPersistWrite_out (s : State) :
    OutWithin [.burrow] [] s (execPersistWrite s) := by
  unfold execPersistWrite
  try dsimp only
  repeat' first
    | with_reducible apply OutWithin.doIf
    | with_reducible apply OutWithin.next
    | with_reducible apply OutWithin.fault
    | with_reducible apply OutWithin.ite
    | with_reducible apply Within.refl
    | with_reducible assumption
    | with_reducible apply Within.ite ?_ ?_
    | ((with_reducible apply Within.set_burrow _ ?_ ?h1 ?h2); (case h1 => rfl); (case h2 => intro hb; first | exact hb | rfl))

theorem execCalibrationRequest_out (s : State) :
    OutWithin [.sense, .msix, .burrow] [205, 720, 6914, 9152, 9280, 9344, 9408] s (execCalibrationRequest s) := by
  unfold execCalibrationRequest
  try dsimp only
  repeat' first
    | with_reducible apply OutWithin.doIf
    | with_reducible apply OutWithin.next
    | with_reducible apply OutWithin.fault
    | with_reducible apply OutWithin.ite
    | with_reducible apply Within.refl
    | with_reducible assumption
    | with_reducible apply Within.ite ?_ ?_
    | ((with_reducible apply Within.step ?_ (State.calPass_within _) ?h1); (case h1 => rfl))

theorem execCalPeriodExpiry_out (s : State) :
    OutWithin [.sense, .msix, .burrow] [205, 720, 6914, 9152, 9280, 9344, 9408] s (execCalPeriodExpiry s) := by
  unfold execCalPeriodExpiry
  try dsimp only
  repeat' first
    | with_reducible apply OutWithin.doIf
    | with_reducible apply OutWithin.next
    | with_reducible apply OutWithin.fault
    | with_reducible apply OutWithin.ite
    | with_reducible apply Within.refl
    | with_reducible assumption
    | with_reducible apply Within.ite ?_ ?_
    | ((with_reducible apply Within.step ?_ (State.calPass_within _) ?h1); (case h1 => rfl))

theorem execCalTempDelta_out (c : Nat) (s : State) :
    OutWithin [.sense, .msix, .burrow] [205, 720, 6914, 9152, 9280, 9344, 9408] s (execCalTempDelta c s) := by
  unfold execCalTempDelta
  try dsimp only
  repeat' first
    | with_reducible apply OutWithin.doIf
    | with_reducible apply OutWithin.next
    | with_reducible apply OutWithin.fault
    | with_reducible apply OutWithin.ite
    | with_reducible apply Within.refl
    | with_reducible assumption
    | with_reducible apply Within.ite ?_ ?_
    | ((with_reducible apply Within.step ?_ (State.calRun_within _ _) ?h1); (case h1 => rfl))
    | split
    | ((with_reducible apply Within.set_sense _ ?_ ?h1); (case h1 => rfl))

theorem execCalSpareTakeover_out (c sub : Nat) (s : State) :
    OutWithin [.sense] [207] s (execCalSpareTakeover c sub s) := by
  unfold execCalSpareTakeover
  try dsimp only
  repeat' first
    | with_reducible apply OutWithin.doIf
    | with_reducible apply OutWithin.next
    | with_reducible apply OutWithin.fault
    | with_reducible apply OutWithin.ite
    | with_reducible apply Within.refl
    | with_reducible assumption
    | with_reducible apply Within.ite ?_ ?_
    | ((with_reducible apply Within.wr _ _ _ ?_ ?h1); (case h1 => rfl))
    | ((with_reducible apply Within.step ?_ (State.setChan_within _ _ _) ?h1); (case h1 => rfl))

theorem execCalOwnConverterDone_out (c sub : Nat) (s : State) :
    OutWithin [.sense] [] s (execCalOwnConverterDone c sub s) := by
  unfold execCalOwnConverterDone
  try dsimp only
  repeat' first
    | with_reducible apply OutWithin.doIf
    | with_reducible apply OutWithin.next
    | with_reducible apply OutWithin.fault
    | with_reducible apply OutWithin.ite
    | with_reducible apply Within.refl
    | with_reducible assumption
    | with_reducible apply Within.ite ?_ ?_
    | ((with_reducible apply Within.step ?_ (State.setChan_within _ _ _) ?h1); (case h1 => rfl))

theorem execCalReturn_out (c sub : Nat) (within : Bool) (s : State) :
    OutWithin [.sense, .msix, .burrow] [205, 206, 207, 704, 712, 720, 6914, 9152, 9280, 9344, 9408] s (execCalReturn c sub within s) := by
  unfold execCalReturn
  try dsimp only
  repeat' first
    | with_reducible apply OutWithin.doIf
    | with_reducible apply OutWithin.next
    | with_reducible apply OutWithin.fault
    | with_reducible apply OutWithin.ite
    | with_reducible apply Within.refl
    | with_reducible assumption
    | with_reducible apply Within.ite ?_ ?_
    | ((with_reducible apply Within.wr _ _ _ ?_ ?h1); (case h1 => rfl))
    | ((with_reducible apply Within.step ?_ (State.calDone_within _ _) ?h1); (case h1 => rfl))
    | ((with_reducible apply Within.step ?_ (State.calRun_within _ _) ?h1); (case h1 => rfl))
    | ((with_reducible apply Within.step ?_ (State.calSpared_within _ _) ?h1); (case h1 => rfl))
    | ((with_reducible apply Within.step ?_ (State.record_within _ _ _ _) ?h1); (case h1 => rfl))
    | ((with_reducible apply Within.step ?_ (State.setChan_within _ _ _) ?h1); (case h1 => rfl))

theorem execDieTemperatureRead_out (temps : List (Option (BitVec 16))) (s : State) :
    OutWithin [] [64, 80] s (execDieTemperatureRead temps s) := by
  unfold execDieTemperatureRead
  try dsimp only
  repeat' first
    | with_reducible apply OutWithin.doIf
    | with_reducible apply OutWithin.next
    | with_reducible apply OutWithin.fault
    | with_reducible apply OutWithin.ite
    | with_reducible apply Within.refl
    | with_reducible assumption
    | with_reducible apply Within.ite ?_ ?_
    | ((with_reducible apply Within.wr _ _ _ ?_ ?h1); (case h1 => rfl))
    | with_reducible apply Within.each _ _ ?_ (fun _ _ _ _ => ?_)
    | split

theorem execChannelFault_out (c : Nat) (short : Bool) (bad : Nat) (s : State) :
    OutWithin [.sense, .zither, .msix, .burrow] ([202, 204, 205, 206, 207, 704, 712, 720, 6914, 9152, 9280, 9344] ++ [9408]) s (execChannelFault c short bad s) := by
  unfold execChannelFault
  try dsimp only
  repeat' first
    | with_reducible apply OutWithin.doIf
    | with_reducible apply OutWithin.next
    | with_reducible apply OutWithin.fault
    | with_reducible apply OutWithin.ite
    | with_reducible apply Within.refl
    | with_reducible assumption
    | with_reducible apply Within.ite ?_ ?_
    | ((with_reducible apply Within.wr _ _ _ ?_ ?h1); (case h1 => first | rfl | ((simp only [spareFld]; repeat' split) <;> rfl)))
    | ((with_reducible apply Within.step ?_ (State.calRun_within _ _) ?h1); (case h1 => rfl))
    | ((with_reducible apply Within.step ?_ (State.calSpared_within _ _) ?h1); (case h1 => rfl))
    | ((with_reducible apply Within.step ?_ (State.judgeEntries_within _) ?h1); (case h1 => rfl))
    | ((with_reducible apply Within.step ?_ (State.record_within _ _ _ _) ?h1); (case h1 => rfl))
    | ((with_reducible apply Within.step ?_ (State.setChan_within _ _ _) ?h1); (case h1 => rfl))

theorem execChannelFaultClear_out (c : Nat) (s : State) :
    OutWithin [.zither] [202, 204] s (execChannelFaultClear c s) := by
  unfold execChannelFaultClear
  try dsimp only
  repeat' first
    | with_reducible apply OutWithin.doIf
    | with_reducible apply OutWithin.next
    | with_reducible apply OutWithin.fault
    | with_reducible apply OutWithin.ite
    | with_reducible apply Within.refl
    | with_reducible assumption
    | with_reducible apply Within.ite ?_ ?_
    | ((with_reducible apply Within.wr _ _ _ ?_ ?h1); (case h1 => rfl))
    | ((with_reducible apply Within.step ?_ (State.judgeEntries_within _) ?h1); (case h1 => rfl))

theorem execBind_out (n : Nat) (obj : BitVec 11) (s : State) :
    OutWithin [.engines] [1280] s (execBind n obj s) := by
  unfold execBind
  try dsimp only
  repeat' first
    | with_reducible apply OutWithin.doIf
    | with_reducible apply OutWithin.next
    | with_reducible apply OutWithin.fault
    | with_reducible apply OutWithin.ite
    | with_reducible apply Within.refl
    | with_reducible assumption
    | with_reducible apply Within.ite ?_ ?_
    | ((with_reducible apply Within.step ?_ (State.engCtl_within _ _ _ _) ?h1); (case h1 => rfl))

theorem execStart_out (n : Nat) (obj : BitVec 11) (s : State) :
    OutWithin [.engines] [1280] s (execStart n obj s) := by
  unfold execStart
  try dsimp only
  repeat' first
    | with_reducible apply OutWithin.doIf
    | with_reducible apply OutWithin.next
    | with_reducible apply OutWithin.fault
    | with_reducible apply OutWithin.ite
    | with_reducible apply Within.refl
    | with_reducible assumption
    | with_reducible apply Within.ite ?_ ?_
    | ((with_reducible apply Within.step ?_ (State.engCtl_within _ _ _ _) ?h1); (case h1 => rfl))

theorem execStop_out (n : Nat) (obj : BitVec 11) (s : State) :
    OutWithin [.engines] [1280] s (execStop n obj s) := by
  unfold execStop
  try dsimp only
  repeat' first
    | with_reducible apply OutWithin.doIf
    | with_reducible apply OutWithin.next
    | with_reducible apply OutWithin.fault
    | with_reducible apply OutWithin.ite
    | with_reducible apply Within.refl
    | with_reducible assumption
    | with_reducible apply Within.ite ?_ ?_
    | ((with_reducible apply Within.step ?_ (State.engCtl_within _ _ _ _) ?h1); (case h1 => rfl))

theorem execUnbind_out (n : Nat) (obj : BitVec 11) (s : State) :
    OutWithin [.engines] [1280] s (execUnbind n obj s) := by
  unfold execUnbind
  try dsimp only
  repeat' first
    | with_reducible apply OutWithin.doIf
    | with_reducible apply OutWithin.next
    | with_reducible apply OutWithin.fault
    | with_reducible apply OutWithin.ite
    | with_reducible apply Within.refl
    | with_reducible assumption
    | with_reducible apply Within.ite ?_ ?_
    | ((with_reducible apply Within.step ?_ (State.engCtl_within _ _ _ _) ?h1); (case h1 => rfl))

theorem execInstructionMemoryWrite_out (n : Nat) (a : BitVec 10) (v : Word) (s : State) :
    OutWithin [.engines] [] s (execInstructionMemoryWrite n a v s) := by
  unfold execInstructionMemoryWrite
  try dsimp only
  repeat' first
    | with_reducible apply OutWithin.doIf
    | with_reducible apply OutWithin.next
    | with_reducible apply OutWithin.fault
    | with_reducible apply OutWithin.ite
    | with_reducible apply Within.refl
    | with_reducible assumption
    | with_reducible apply Within.ite ?_ ?_
    | ((with_reducible apply Within.step ?_ (State.setEngine_within _ _ _) ?h1); (case h1 => rfl))

theorem execBindingWrite_out (n slot : Nat) (v : BitVec 32) (s : State) :
    OutWithin [.engines] [] s (execBindingWrite n slot v s) := by
  unfold execBindingWrite
  try dsimp only
  repeat' first
    | with_reducible apply OutWithin.doIf
    | with_reducible apply OutWithin.next
    | with_reducible apply OutWithin.fault
    | with_reducible apply OutWithin.ite
    | with_reducible apply Within.refl
    | with_reducible assumption
    | with_reducible apply Within.ite ?_ ?_
    | ((with_reducible apply Within.step ?_ (State.setEngine_within _ _ _) ?h1); (case h1 => rfl))

theorem execFirmwareValueWrite_out (k : Nat) (off : BitVec 15) (v : Word) (s : State) :
    OutWithin [.sharedMemory, .settRest] [1218] s (execFirmwareValueWrite k off v s) := by
  unfold execFirmwareValueWrite
  try dsimp only
  repeat' first
    | with_reducible apply OutWithin.doIf
    | with_reducible apply OutWithin.next
    | with_reducible apply OutWithin.fault
    | with_reducible apply OutWithin.ite
    | with_reducible apply Within.refl
    | with_reducible assumption
    | with_reducible apply Within.ite ?_ ?_
    | ((with_reducible apply Within.wr _ _ _ ?_ ?h1); (case h1 => rfl))
    | ((with_reducible apply Within.step ?_ (State.setSh_within _ _ _) ?h1); (case h1 => rfl))
    | ((with_reducible apply Within.set_settRest _ ?_ ?h1 ?h2 ?h3); (case h1 => rfl); (case h2 => with_reducible rfl); (case h3 => with_reducible rfl))

theorem execMigrationGo_out (src dst : BitVec 11) (s : State) :
    OutWithin [.settRest, .msix, .burrow] [1600, 1616, 1936, 1950, 1951, 6914, 9152, 9280, 9344, 9408] s (execMigrationGo src dst s) := by
  unfold execMigrationGo
  try dsimp only
  repeat' first
    | with_reducible apply OutWithin.doIf
    | with_reducible apply OutWithin.next
    | with_reducible apply OutWithin.fault
    | with_reducible apply OutWithin.ite
    | with_reducible apply Within.refl
    | with_reducible assumption
    | with_reducible apply Within.ite ?_ ?_
    | ((with_reducible apply Within.wr _ _ _ ?_ ?h1); (case h1 => rfl))
    | ((with_reducible apply Within.writeFld _ _ _ ?_ ?h1); (case h1 => rfl))
    | ((with_reducible apply Within.step ?_ (State.record_within _ _ _ _) ?h1); (case h1 => rfl))
    | split
    | ((with_reducible apply Within.set_settRest _ ?_ ?h1 ?h2 ?h3); (case h1 => rfl); (case h2 => with_reducible rfl); (case h3 => with_reducible rfl))

theorem execMigrationCopy_out (half : Bool) (s : State) :
    OutWithin [.engines, .sharedMemory, .settRest, .msix, .burrow] [6914, 9152, 9280, 9344, 9408] s (execMigrationCopy half s) := by
  unfold execMigrationCopy
  try dsimp only
  repeat' first
    | with_reducible apply OutWithin.doIf
    | with_reducible apply OutWithin.next
    | with_reducible apply OutWithin.fault
    | with_reducible apply OutWithin.ite
    | with_reducible apply Within.refl
    | with_reducible assumption
    | with_reducible apply Within.ite ?_ ?_
    | ((with_reducible apply Within.step ?_ (State.migCopy_within _ _) ?h1); (case h1 => rfl))

theorem execMigrationHandover_out (half : Bool) (s : State) :
    OutWithin [.engines, .sharedMemory, .settRest, .msix, .burrow] [1920, 1936, 1951, 6914, 9152, 9280, 9344, 9408] s (execMigrationHandover half s) := by
  unfold execMigrationHandover
  try dsimp only
  repeat' first
    | with_reducible apply OutWithin.doIf
    | with_reducible apply OutWithin.next
    | with_reducible apply OutWithin.fault
    | with_reducible apply OutWithin.ite
    | with_reducible apply Within.refl
    | with_reducible assumption
    | with_reducible apply Within.ite ?_ ?_
    | ((with_reducible apply Within.step ?_ (State.migHandover_within _) ?h1); (case h1 => rfl))

theorem execSettEnable_out (k : Nat) (s : State) :
    OutWithin [] [1160, 1240] s (execSettEnable k s) := by
  unfold execSettEnable
  try dsimp only
  repeat' first
    | with_reducible apply OutWithin.doIf
    | with_reducible apply OutWithin.next
    | with_reducible apply OutWithin.fault
    | with_reducible apply OutWithin.ite
    | with_reducible apply Within.refl
    | with_reducible assumption
    | with_reducible apply Within.ite ?_ ?_
    | ((with_reducible apply Within.wr _ _ _ ?_ ?h1); (case h1 => rfl))

theorem execSettDisable_out (k : Nat) (s : State) :
    OutWithin [.engines, .sharedMemory, .settRest] [1160, 1240, 1280] s (execSettDisable k s) := by
  unfold execSettDisable
  try dsimp only
  repeat' first
    | with_reducible apply OutWithin.doIf
    | with_reducible apply OutWithin.next
    | with_reducible apply OutWithin.fault
    | with_reducible apply OutWithin.ite
    | with_reducible apply Within.refl
    | with_reducible assumption
    | with_reducible apply Within.ite ?_ ?_
    | ((with_reducible apply Within.wr _ _ _ ?_ ?h1); (case h1 => rfl))
    | ((with_reducible apply Within.step ?_ (State.settOff_within _ _) ?h1); (case h1 => rfl))
    | ((with_reducible apply Within.set_engines _ ?_ ?h1 ?h2 ?h3); (case h1 => rfl); (case h2 => with_reducible rfl); (case h3 => with_reducible rfl))
    | ((with_reducible apply Within.set_settRest _ ?_ ?h1 ?h2 ?h3); (case h1 => rfl); (case h2 => with_reducible rfl); (case h3 => with_reducible rfl))

theorem execPeriodWrite_out (k : Nat) (v : BitVec 8) (s : State) :
    OutWithin [] [1152] s (execPeriodWrite k v s) := by
  unfold execPeriodWrite
  try dsimp only
  repeat' first
    | with_reducible apply OutWithin.doIf
    | with_reducible apply OutWithin.next
    | with_reducible apply OutWithin.fault
    | with_reducible apply OutWithin.ite
    | with_reducible apply Within.refl
    | with_reducible assumption
    | with_reducible apply Within.ite ?_ ?_
    | ((with_reducible apply Within.writeFld _ _ _ ?_ ?h1); (case h1 => rfl))

theorem execPop_out (s : State) :
    OutWithin [.settRest] [] s (execPop s) := by
  unfold execPop
  try dsimp only
  repeat' first
    | with_reducible apply OutWithin.doIf
    | with_reducible apply OutWithin.next
    | with_reducible apply OutWithin.fault
    | with_reducible apply OutWithin.ite
    | with_reducible apply Within.refl
    | with_reducible assumption
    | with_reducible apply Within.ite ?_ ?_
    | ((with_reducible apply Within.set_settRest _ ?_ ?h1 ?h2 ?h3); (case h1 => rfl); (case h2 => with_reducible rfl); (case h3 => with_reducible rfl))

theorem execTermWrite_out (r : Nat) (hi : Bool) (v : BitVec 32) (s : State) : OutWithin [] ([1664, 1678, 1679, 1680, 1694, 1695, 1759, 1984, 1998, 1999, 2000, 2014] ++ [2015]) s (execTermWrite r hi v s) := by
  have ht : ∀ (u : State) (src inv en : Fld) (x : Nat), Within [] ([1664, 1678, 1679, 1680, 1694, 1695, 1759, 1984, 1998, 1999, 2000, 2014] ++ [2015]) s u → (([src, inv, en].all fun f => (([1664, 1678, 1679, 1680, 1694, 1695, 1759, 1984, 1998, 1999, 2000, 2014] ++ [2015]) : List Nat).contains f.code && f.ok) = true) →
      Within [] ([1664, 1678, 1679, 1680, 1694, 1695, 1759, 1984, 1998, 1999, 2000, 2014] ++ [2015]) s (u.writeTerm r src inv en x) := by
    intro u src inv en x hu hf
    simp only [List.all_cons, List.all_nil, Bool.and_true, Bool.and_eq_true] at hf
    exact Within.ite hu (((hu.wr _ _ _ (by simpa using hf.1)).wr _ _ _ (by simpa using hf.2.1)).wr _ _ _ (by simpa using hf.2.2))
  unfold execTermWrite
  exact OutWithin.doIf (Within.ite (ht _ _ _ _ _ (ht _ _ _ _ _ (Within.refl _ _ s) rfl) rfl) (ht _ _ _ _ _ (ht _ _ _ _ _ (Within.refl _ _ s) rfl) rfl))

theorem execRuleDisable_out (r : Nat) (s : State) :
    OutWithin [.settRest] [1758, 1856] s (execRuleDisable r s) := by
  unfold execRuleDisable
  try dsimp only
  repeat' first
    | with_reducible apply OutWithin.doIf
    | with_reducible apply OutWithin.next
    | with_reducible apply OutWithin.fault
    | with_reducible apply OutWithin.ite
    | with_reducible apply Within.refl
    | with_reducible assumption
    | with_reducible apply Within.ite ?_ ?_
    | ((with_reducible apply Within.wr _ _ _ ?_ ?h1); (case h1 => rfl))
    | ((with_reducible apply Within.step ?_ (State.releaseRule_within _ _) ?h1); (case h1 => rfl))
    | ((with_reducible apply Within.set_settRest _ ?_ ?h1 ?h2 ?h3); (case h1 => rfl); (case h2 => with_reducible rfl); (case h3 => with_reducible rfl))

theorem execRuleLock_out (r : Nat) (s : State) :
    OutWithin [] [1759] s (execRuleLock r s) := by
  unfold execRuleLock
  try dsimp only
  repeat' first
    | with_reducible apply OutWithin.doIf
    | with_reducible apply OutWithin.next
    | with_reducible apply OutWithin.fault
    | with_reducible apply OutWithin.ite
    | with_reducible apply Within.refl
    | with_reducible assumption
    | with_reducible apply Within.ite ?_ ?_
    | ((with_reducible apply Within.wr _ _ _ ?_ ?h1); (case h1 => rfl))

theorem execLatchClear_out (r : Nat) (s : State) :
    OutWithin [.settRest] [1856] s (execLatchClear r s) := by
  unfold execLatchClear
  try dsimp only
  repeat' first
    | with_reducible apply OutWithin.doIf
    | with_reducible apply OutWithin.next
    | with_reducible apply OutWithin.fault
    | with_reducible apply OutWithin.ite
    | with_reducible apply Within.refl
    | with_reducible assumption
    | with_reducible apply Within.ite ?_ ?_
    | ((with_reducible apply Within.wr _ _ _ ?_ ?h1); (case h1 => rfl))
    | ((with_reducible apply Within.step ?_ (State.releaseRule_within _ _) ?h1); (case h1 => rfl))

theorem execRfxRuleFalse_out (r : Nat) (s : State) :
    OutWithin [.settRest] [] s (execRfxRuleFalse r s) := by
  unfold execRfxRuleFalse
  try dsimp only
  repeat' first
    | with_reducible apply OutWithin.doIf
    | with_reducible apply OutWithin.next
    | with_reducible apply OutWithin.fault
    | with_reducible apply OutWithin.ite
    | with_reducible apply Within.refl
    | with_reducible assumption
    | with_reducible apply Within.ite ?_ ?_
    | ((with_reducible apply Within.step ?_ (State.releaseRule_within _ _) ?h1); (case h1 => rfl))
    | ((with_reducible apply Within.set_settRest _ ?_ ?h1 ?h2 ?h3); (case h1 => rfl); (case h2 => with_reducible rfl); (case h3 => with_reducible rfl))

theorem execTrayTickBoundary_out (alvEdge : Bool) (fec : List FecCount) (acts : FirmwareActs) (s : State) :
    OutWithin [.tick, .bootUs, .part, .sense, .engines, .settRest, .zither, .feed, .harps, .msix, .hostRest, .ports, .wards, .burrow, .twin] ([1280, 2755, 2756, 2764, 2768, 2781, 2828, 2832, 2944, 3656, 3742, 3776] ++ [3968, 4942, 5952, 6016, 6024, 6032, 6045, 6144, 6238, 6300, 6301, 6336] ++ [6400, 6914, 7048, 7744, 7808, 9152, 9280, 9344, 9408, 9564]) s (execTrayTickBoundary alvEdge fec acts s) := by
  unfold execTrayTickBoundary
  try dsimp only
  repeat' first
    | with_reducible apply OutWithin.doIf
    | with_reducible apply OutWithin.next
    | with_reducible apply OutWithin.fault
    | with_reducible apply OutWithin.ite
    | with_reducible apply Within.refl
    | with_reducible assumption
    | with_reducible apply Within.ite ?_ ?_
    | ((with_reducible apply State.inOneCycle_within ?_ ?h1 (fun _ _ _ => ?_)); (case h1 => rfl))
    | ((with_reducible apply Within.step ?_ (State.alvTick_within _ _) ?h1); (case h1 => rfl))
    | ((with_reducible apply Within.step ?_ (State.countFec_within _ _) ?h1); (case h1 => rfl))
    | ((with_reducible apply Within.step ?_ (State.deniedSecond_within _) ?h1); (case h1 => rfl))
    | ((with_reducible apply Within.step ?_ (State.dropSeconds_within _) ?h1); (case h1 => rfl))
    | ((with_reducible apply Within.step ?_ (State.eventTick_within _) ?h1); (case h1 => rfl))
    | ((with_reducible apply Within.step ?_ (State.firmwareActs_within _ _) ?h1); (case h1 => rfl))
    | ((with_reducible apply Within.step ?_ (State.judgeDrops_within _) ?h1); (case h1 => rfl))
    | ((with_reducible apply Within.step ?_ (State.judgeSpans_within _) ?h1); (case h1 => rfl))
    | ((with_reducible apply Within.step ?_ (State.judgeWarmAll_within _) ?h1); (case h1 => rfl))
    | ((with_reducible apply Within.step ?_ (State.residency_within _) ?h1); (case h1 => rfl))
    | ((with_reducible apply Within.step ?_ (State.slewTick_within _) ?h1); (case h1 => rfl))
    | ((with_reducible apply Within.step ?_ (State.syncPorts_within _) ?h1); (case h1 => rfl))
    | ((with_reducible apply Within.step ?_ (State.tickSubs_within _) ?h1); (case h1 => rfl))
    | ((with_reducible apply Within.step ?_ (State.twinFrames_within _) ?h1); (case h1 => rfl))
    | ((with_reducible apply Within.step ?_ (State.watchWards_within _) ?h1); (case h1 => rfl))
    | ((with_reducible apply Within.lit ?tt ?_ ?h1 ?h2 ?h3 ?h4); (case h1 => with_reducible rfl); (case h2 => intro b hb; cases b <;> first | exact absurd (by decide) hb | rfl); (case h3 => exact id); (case h4 => intro hb; first | exact hb | rfl))

theorem execTwinHello_out (peer : TwinPeer) (adopt : TwinAdopt) (lanes : Nat) (s : State) :
    OutWithin [.part, .zither, .feed, .harps, .cooling, .msix, .burrow, .twin] ([2764, 2781, 3339, 3357, 3392, 3742, 3776, 3911, 4096, 5136, 5147, 5149] ++ [5271, 5279, 6874, 6914, 9152, 9280, 9344, 9408, 9552, 9561, 9562, 9563] ++ [9565, 9566]) s (execTwinHello peer adopt lanes s) := by
  unfold execTwinHello
  try dsimp only
  repeat' first
    | with_reducible apply OutWithin.doIf
    | with_reducible apply OutWithin.next
    | with_reducible apply OutWithin.fault
    | with_reducible apply OutWithin.ite
    | with_reducible apply Within.refl
    | with_reducible assumption
    | with_reducible apply Within.ite ?_ ?_
    | ((with_reducible apply Within.wr _ _ _ ?_ ?h1); (case h1 => rfl))
    | ((with_reducible apply Within.step ?_ (State.conflict_within _ _ _) ?h1); (case h1 => rfl))
    | ((with_reducible apply Within.step ?_ (State.join_within _ _ _ _ _) ?h1); (case h1 => rfl))
    | ((with_reducible apply Within.step ?_ (State.judgeMatch_within _ _) ?h1); (case h1 => rfl))
    | split
    | ((with_reducible apply Within.set_twin _ ?_ ?h1); (case h1 => rfl))

theorem execJoinTimeout_out (s : State) :
    OutWithin [.part, .engines, .settRest, .zither, .feed, .harps, .cooling, .msix, .hostRest, .ports, .wards, .burrow, .twin] ([1280, 2755, 2764, 2768, 2781, 2828, 2832, 2944, 3339, 3357, 3392, 3656] ++ [3742, 3776, 3909, 3911, 4096, 5136, 5147, 5149, 5271, 5279, 5952, 6016] ++ [6024, 6032, 6045, 6144, 6238, 6300, 6301, 6874, 6914, 7048, 7744, 7808] ++ [9152, 9280, 9344, 9408, 9536, 9561, 9562, 9563, 9566]) s (execJoinTimeout s) := by
  unfold execJoinTimeout
  try dsimp only
  repeat' first
    | with_reducible apply OutWithin.doIf
    | with_reducible apply OutWithin.next
    | with_reducible apply OutWithin.fault
    | with_reducible apply OutWithin.ite
    | with_reducible apply Within.refl
    | with_reducible assumption
    | with_reducible apply Within.ite ?_ ?_
    | ((with_reducible apply Within.step ?_ (State.takeover_within _ _) ?h1); (case h1 => rfl))

theorem execTickFrame_out (tick : BitVec 64) (s : State) :
    OutWithin [.twin] [] s (execTickFrame tick s) := by
  unfold execTickFrame
  try dsimp only
  repeat' first
    | with_reducible apply OutWithin.doIf
    | with_reducible apply OutWithin.next
    | with_reducible apply OutWithin.fault
    | with_reducible apply OutWithin.ite
    | with_reducible apply Within.refl
    | with_reducible assumption
    | with_reducible apply Within.ite ?_ ?_
    | ((with_reducible apply Within.step ?_ (State.twinHeard_within _) ?h1); (case h1 => rfl))
    | ((with_reducible apply Within.set_twin _ ?_ ?h1); (case h1 => rfl))

theorem execEchoExchange_out (t1 t2 t3 t4 : BitVec 64) (s : State) :
    OutWithin [.tick, .msix, .burrow, .twin] [6914, 9152, 9280, 9344, 9408, 9563, 9600, 9664, 9680] s (execEchoExchange t1 t2 t3 t4 s) := by
  unfold execEchoExchange
  try dsimp only
  repeat' first
    | with_reducible apply OutWithin.doIf
    | with_reducible apply OutWithin.next
    | with_reducible apply OutWithin.fault
    | with_reducible apply OutWithin.ite
    | with_reducible apply Within.refl
    | with_reducible assumption
    | with_reducible apply Within.ite ?_ ?_
    | ((with_reducible apply Within.wr _ _ _ ?_ ?h1); (case h1 => rfl))
    | ((with_reducible apply Within.step ?_ (State.measure_within _ _) ?h1); (case h1 => rfl))
    | ((with_reducible apply Within.step ?_ (State.record_within _ _ _ _) ?h1); (case h1 => rfl))
    | ((with_reducible apply Within.step ?_ (State.twinHeard_within _) ?h1); (case h1 => rfl))
    | ((with_reducible apply Within.lit ?tt ?_ ?h1 ?h2 ?h3 ?h4); (case h1 => with_reducible rfl); (case h2 => intro b hb; cases b <;> first | exact absurd (by decide) hb | rfl); (case h3 => exact id); (case h4 => intro hb; first | exact hb | rfl))

theorem execEchoTimeout_out (s : State) :
    OutWithin [.msix, .burrow] [6914, 9152, 9280, 9344, 9408, 9563] s (execEchoTimeout s) := by
  unfold execEchoTimeout
  try dsimp only
  repeat' first
    | with_reducible apply OutWithin.doIf
    | with_reducible apply OutWithin.next
    | with_reducible apply OutWithin.fault
    | with_reducible apply OutWithin.ite
    | with_reducible apply Within.refl
    | with_reducible assumption
    | with_reducible apply Within.ite ?_ ?_
    | ((with_reducible apply Within.wr _ _ _ ?_ ?h1); (case h1 => rfl))
    | ((with_reducible apply Within.step ?_ (State.record_within _ _ _ _) ?h1); (case h1 => rfl))

theorem execMirror_out (c : Checkpoint) (s : State) :
    OutWithin [.twin] [] s (execMirror c s) := by
  unfold execMirror
  try dsimp only
  repeat' first
    | with_reducible apply OutWithin.doIf
    | with_reducible apply OutWithin.next
    | with_reducible apply OutWithin.fault
    | with_reducible apply OutWithin.ite
    | with_reducible apply Within.refl
    | with_reducible assumption
    | with_reducible apply Within.ite ?_ ?_
    | ((with_reducible apply Within.step ?_ (State.twinHeard_within _) ?h1); (case h1 => rfl))
    | split
    | ((with_reducible apply Within.set_twin _ ?_ ?h1); (case h1 => rfl))

theorem execTwinCommand_out (seq : BitVec 16) (c : TwinCmd) (held : Option Signed) (s : State) :
    OutWithin [.part, .engines, .settRest, .zither, .feed, .harps, .cooling, .msix, .hostRest, .ports, .wards, .secure, .burrow, .twin] ([1280, 2755, 2756, 2764, 2768, 2781, 2828, 2832, 2944, 3339, 3352, 3357] ++ [3392, 3656, 3742, 3776, 3909, 3911, 4096, 5136, 5147, 5149, 5271, 5279] ++ [5952, 6016, 6024, 6032, 6045, 6144, 6238, 6300, 6301, 6874, 6914, 7048] ++ [7744, 7808, 9152, 9280, 9344, 9408, 9536, 9561, 9562, 9563, 9566]) s (execTwinCommand seq c held s) := by
  unfold execTwinCommand
  try dsimp only
  repeat' first
    | with_reducible apply OutWithin.doIf
    | with_reducible apply OutWithin.next
    | with_reducible apply OutWithin.fault
    | with_reducible apply OutWithin.ite
    | with_reducible apply Within.refl
    | with_reducible assumption
    | with_reducible apply Within.ite ?_ ?_
    | ((with_reducible apply Within.step ?_ (State.applyCmd_within _ _ _) ?h1); (case h1 => rfl))
    | ((with_reducible apply Within.step ?_ (State.takeCmd_within _ _) ?h1); (case h1 => rfl))

theorem execTwinCack_out (seq : BitVec 16) (s : State) :
    OutWithin [.twin] [] s (execTwinCack seq s) := by
  unfold execTwinCack
  try dsimp only
  repeat' first
    | with_reducible apply OutWithin.doIf
    | with_reducible apply OutWithin.next
    | with_reducible apply OutWithin.fault
    | with_reducible apply OutWithin.ite
    | with_reducible apply Within.refl
    | with_reducible assumption
    | with_reducible apply Within.ite ?_ ?_
    | ((with_reducible apply Within.step ?_ (State.twinHeard_within _) ?h1); (case h1 => rfl))
    | split
    | dsimp only
    | ((with_reducible apply Within.set_twin _ ?_ ?h1); (case h1 => rfl))

theorem execCmdResend_out (seq : BitVec 16) (s : State) :
    OutWithin [.twin] [] s (execCmdResend seq s) := by
  unfold execCmdResend
  try dsimp only
  repeat' first
    | with_reducible apply OutWithin.doIf
    | with_reducible apply OutWithin.next
    | with_reducible apply OutWithin.fault
    | with_reducible apply OutWithin.ite
    | with_reducible apply Within.refl
    | with_reducible assumption
    | with_reducible apply Within.ite ?_ ?_
    | split
    | dsimp only
    | ((with_reducible apply Within.set_twin _ ?_ ?h1); (case h1 => rfl))

theorem execHandover_out (seq : BitVec 16) (s : State) :
    OutWithin [.part, .engines, .settRest, .zither, .feed, .harps, .cooling, .msix, .hostRest, .ports, .wards, .secure, .burrow, .twin] ([1280, 2755, 2756, 2764, 2768, 2781, 2828, 2832, 2944, 3339, 3352, 3357] ++ [3392, 3656, 3742, 3776, 3909, 3911, 4096, 5136, 5147, 5149, 5271, 5279] ++ [5952, 6016, 6024, 6032, 6045, 6144, 6238, 6300, 6301, 6874, 6914, 7048] ++ [7744, 7808, 9152, 9280, 9344, 9408, 9536, 9561, 9562, 9563, 9566]) s (execHandover seq s) := by
  unfold execHandover
  try dsimp only
  repeat' first
    | with_reducible apply OutWithin.doIf
    | with_reducible apply OutWithin.next
    | with_reducible apply OutWithin.fault
    | with_reducible apply OutWithin.ite
    | with_reducible apply Within.refl
    | with_reducible assumption
    | with_reducible apply Within.ite ?_ ?_
    | ((with_reducible apply Within.step ?_ (State.applyCmd_within _ _ _) ?h1); (case h1 => rfl))
    | ((with_reducible apply Within.step ?_ (State.takeCmd_within _ _) ?h1); (case h1 => rfl))

theorem execTwinSilence_out (s : State) :
    OutWithin [.part, .engines, .settRest, .zither, .harps, .cooling, .msix, .hostRest, .ports, .wards, .burrow, .twin] ([1280, 2755, 2764, 2768, 2781, 2828, 2832, 2944, 3357, 3656, 3742, 3776] ++ [3909, 3911, 4096, 5136, 5147, 5149, 5271, 5279, 5952, 6016, 6024, 6032] ++ [6045, 6144, 6238, 6300, 6301, 6874, 6914, 7048, 7744, 7808, 9152, 9280] ++ [9344, 9408, 9536, 9552, 9561, 9563, 9565, 9566]) s (execTwinSilence s) := by
  unfold execTwinSilence
  try dsimp only
  repeat' first
    | with_reducible apply OutWithin.doIf
    | with_reducible apply OutWithin.next
    | with_reducible apply OutWithin.fault
    | with_reducible apply OutWithin.ite
    | with_reducible apply Within.refl
    | with_reducible assumption
    | with_reducible apply Within.ite ?_ ?_
    | ((with_reducible apply Within.wr _ _ _ ?_ ?h1); (case h1 => rfl))
    | ((with_reducible apply Within.step ?_ (State.record_within _ _ _ _) ?h1); (case h1 => rfl))
    | ((with_reducible apply Within.step ?_ (State.takeover_within _ _) ?h1); (case h1 => rfl))
    | ((with_reducible apply Within.set_twin _ ?_ ?h1); (case h1 => rfl))

theorem execLeadActivation_out (s : State) :
    OutWithin [.part, .marten, .msix, .hostRest, .ports, .wards, .recorderRest, .secure, .burrow] ([0, 16, 4736, 4748, 4767, 6877, 6913, 6914, 7007, 7040, 7048, 7056] ++ [7070, 7168, 7184, 7192, 7680, 7744, 7808, 7816, 7824, 7872, 7936, 9152] ++ [9280, 9344, 9408]) s (execLeadActivation s) := by
  unfold execLeadActivation
  try dsimp only
  repeat' first
    | with_reducible apply OutWithin.doIf
    | with_reducible apply OutWithin.next
    | with_reducible apply OutWithin.fault
    | with_reducible apply OutWithin.ite
    | with_reducible apply Within.refl
    | with_reducible assumption
    | with_reducible apply Within.ite ?_ ?_
    | ((with_reducible apply Within.step ?_ (State.activateFull_within _ _) ?h1); (case h1 => rfl))
    | ((with_reducible apply Within.step ?_ (State.appReset_within _ _) ?h1); (case h1 => rfl))
    | split

theorem execTwinActivationTimeout_out (s : State) :
    OutWithin [.msix, .secure, .burrow, .twin] [6914, 9152, 9280, 9344, 9408] s (execTwinActivationTimeout s) := by
  unfold execTwinActivationTimeout
  try dsimp only
  repeat' first
    | with_reducible apply OutWithin.doIf
    | with_reducible apply OutWithin.next
    | with_reducible apply OutWithin.fault
    | with_reducible apply OutWithin.ite
    | with_reducible apply Within.refl
    | with_reducible assumption
    | with_reducible apply Within.ite ?_ ?_
    | ((with_reducible apply Within.step ?_ (State.cancelArmed_within _ _) ?h1); (case h1 => rfl))
    | split

theorem execUp_out (w : Nat) (via : Via) (s : State) :
    OutWithin [.engines, .settRest, .zither, .harps, .msix, .hostRest, .ports, .wards, .burrow, .twin] ([1280, 2755, 2764, 2768, 2781, 2828, 2832, 2944, 3656, 3742, 3776, 5952] ++ [6016, 6024, 6032, 6045, 6144, 6238, 6300, 6301, 6914, 7048, 7744, 7808] ++ [9152, 9280, 9344, 9408]) s (execUp w via s) := by
  unfold execUp
  try dsimp only
  repeat' first
    | with_reducible apply OutWithin.doIf
    | with_reducible apply OutWithin.next
    | with_reducible apply OutWithin.fault
    | with_reducible apply OutWithin.ite
    | with_reducible apply Within.refl
    | with_reducible assumption
    | with_reducible apply Within.ite ?_ ?_
    | ((with_reducible apply Within.step ?_ (State.finish_within _ _ _ _ _ _) ?h1); (case h1 => rfl))
    | ((with_reducible apply Within.step ?_ (State.wardResume_within _ _) ?h1); (case h1 => rfl))
    | ((with_reducible apply Within.step ?_ (State.wardUp_within _ _) ?h1); (case h1 => rfl))
    | split

theorem execHold_out (w : Nat) (via : Via) (s : State) :
    OutWithin [.msix, .hostRest, .wards] [7048, 7744, 7808] s (execHold w via s) := by
  unfold execHold
  try dsimp only
  repeat' first
    | with_reducible apply OutWithin.doIf
    | with_reducible apply OutWithin.next
    | with_reducible apply OutWithin.fault
    | with_reducible apply OutWithin.ite
    | with_reducible apply Within.refl
    | with_reducible assumption
    | with_reducible apply Within.ite ?_ ?_
    | ((with_reducible apply Within.step ?_ (State.finish_within _ _ _ _ _ _) ?h1); (case h1 => rfl))
    | ((with_reducible apply Within.step ?_ (State.setWard_within _ _ _) ?h1); (case h1 => rfl))

theorem execDown_out (w : Nat) (via : Via) (s : State) :
    OutWithin [.engines, .settRest, .zither, .harps, .msix, .hostRest, .ports, .wards, .burrow, .twin] ([1280, 2755, 2764, 2768, 2781, 2828, 2832, 2944, 3656, 3742, 3776, 5952] ++ [6016, 6024, 6032, 6045, 6144, 6238, 6300, 6301, 6914, 7048, 7744, 7808] ++ [9152, 9280, 9344, 9408]) s (execDown w via s) := by
  unfold execDown
  try dsimp only
  repeat' first
    | with_reducible apply OutWithin.doIf
    | with_reducible apply OutWithin.next
    | with_reducible apply OutWithin.fault
    | with_reducible apply OutWithin.ite
    | with_reducible apply Within.refl
    | with_reducible assumption
    | with_reducible apply Within.ite ?_ ?_
    | ((with_reducible apply Within.step ?_ (State.finish_within _ _ _ _ _ _) ?h1); (case h1 => rfl))
    | ((with_reducible apply Within.step ?_ (State.setWard_within _ _ _) ?h1); (case h1 => rfl))
    | ((with_reducible apply Within.step ?_ (State.wardCut_within _ _) ?h1); (case h1 => rfl))
    | ((with_reducible apply Within.step ?_ (State.wardWatch_within _ _) ?h1); (case h1 => rfl))

theorem execClear_out (w : Nat) (via : Via) (s : State) :
    OutWithin [.harps, .msix, .hostRest, .wards, .burrow, .twin] [3656, 3742, 3776, 6914, 7048, 7744, 7808, 9152, 9280, 9344, 9408] s (execClear w via s) := by
  unfold execClear
  try dsimp only
  repeat' first
    | with_reducible apply OutWithin.doIf
    | with_reducible apply OutWithin.next
    | with_reducible apply OutWithin.fault
    | with_reducible apply OutWithin.ite
    | with_reducible apply Within.refl
    | with_reducible assumption
    | with_reducible apply Within.ite ?_ ?_
    | ((with_reducible apply Within.step ?_ (State.finish_within _ _ _ _ _ _) ?h1); (case h1 => rfl))
    | ((with_reducible apply Within.step ?_ (State.wardEnter_within _ _ _) ?h1); (case h1 => rfl))

theorem execAutoUp_out (w : Nat) (s : State) :
    OutWithin [.engines, .settRest, .zither, .harps, .msix, .ports, .wards, .burrow, .twin] ([1280, 2755, 2768, 2781, 2828, 2832, 2944, 3656, 3742, 3776, 5952, 6024] ++ [6032, 6045, 6238, 6300, 6301, 6914, 9152, 9280, 9344, 9408]) s (execAutoUp w s) := by
  unfold execAutoUp
  try dsimp only
  repeat' first
    | with_reducible apply OutWithin.doIf
    | with_reducible apply OutWithin.next
    | with_reducible apply OutWithin.fault
    | with_reducible apply OutWithin.ite
    | with_reducible apply Within.refl
    | with_reducible assumption
    | with_reducible apply Within.ite ?_ ?_
    | ((with_reducible apply Within.step ?_ (State.wardUp_within _ _) ?h1); (case h1 => rfl))

theorem execStaggeredPowerUp_out (w : Nat) (s : State) :
    OutWithin [.zither, .msix, .wards, .burrow, .twin] [2755, 2768, 2781, 2828, 2832, 2944, 6914, 9152, 9280, 9344, 9408] s (execStaggeredPowerUp w s) := by
  unfold execStaggeredPowerUp
  try dsimp only
  repeat' first
    | with_reducible apply OutWithin.doIf
    | with_reducible apply OutWithin.next
    | with_reducible apply OutWithin.fault
    | with_reducible apply OutWithin.ite
    | with_reducible apply Within.refl
    | with_reducible assumption
    | with_reducible apply Within.ite ?_ ?_
    | ((with_reducible apply Within.step ?_ (State.powerUp_within _ _) ?h1); (case h1 => rfl))
    | ((with_reducible apply Within.step ?_ (State.setWard_within _ _ _) ?h1); (case h1 => rfl))

theorem execStoreCopyDone_out (pattern : Bool) (wardType : BitVec 32) (ok : Bool) (s : State) :
    OutWithin [.engines, .settRest, .zither, .harps, .msix, .hostRest, .ports, .wards, .secure, .burrow, .twin] ([1280, 2755, 2764, 2768, 2781, 2828, 2832, 2944, 3656, 3742, 3776, 5952] ++ [6016, 6024, 6032, 6045, 6144, 6238, 6300, 6301, 6914, 7048, 7744, 7808] ++ [9152, 9280, 9344, 9408]) s (execStoreCopyDone pattern wardType ok s) := by
  unfold execStoreCopyDone
  try dsimp only
  repeat' first
    | with_reducible apply OutWithin.doIf
    | with_reducible apply OutWithin.next
    | with_reducible apply OutWithin.fault
    | with_reducible apply OutWithin.ite
    | with_reducible apply Within.refl
    | with_reducible assumption
    | with_reducible apply Within.ite ?_ ?_
    | ((with_reducible apply Within.step ?_ (State.beginLoad_within _ _) ?h1); (case h1 => rfl))
    | ((with_reducible apply Within.step ?_ (State.beginTest_within _ _) ?h1); (case h1 => rfl))
    | ((with_reducible apply Within.step ?_ (State.liveCopied_within _ _ _) ?h1); (case h1 => rfl))
    | ((with_reducible apply Within.step ?_ (State.wardFail_within _ _ _) ?h1); (case h1 => rfl))
    | with_reducible apply Within.each _ _ ?_ (fun _ _ _ _ => ?_)
    | ((with_reducible apply Within.set_wards _ ?_ ?h1); (case h1 => rfl))

theorem execBuPoll_out (w : Nat) (stat seq : BitVec 32) (mem : BitVec 16) (ring : BitVec 32) (s : State) :
    OutWithin [.engines, .settRest, .zither, .harps, .msix, .hostRest, .ports, .wards, .burrow, .twin] ([1280, 2755, 2764, 2768, 2781, 2828, 2832, 2944, 3656, 3742, 3776, 5952] ++ [6016, 6024, 6032, 6045, 6144, 6238, 6300, 6301, 6914, 7048, 7744, 7808] ++ [9152, 9280, 9344, 9408]) s (execBuPoll w stat seq mem ring s) := by
  unfold execBuPoll
  try dsimp only
  repeat' first
    | with_reducible apply OutWithin.doIf
    | with_reducible apply OutWithin.next
    | with_reducible apply OutWithin.fault
    | with_reducible apply OutWithin.ite
    | with_reducible apply Within.refl
    | with_reducible assumption
    | with_reducible apply Within.ite ?_ ?_
    | ((with_reducible apply Within.step ?_ (State.opEnded_within _ _ _) ?h1); (case h1 => rfl))
    | ((with_reducible apply Within.step ?_ (State.setWard_within _ _ _) ?h1); (case h1 => rfl))
    | ((with_reducible apply Within.step ?_ (State.wardWatch_within _ _) ?h1); (case h1 => rfl))

theorem execBuDeadline_out (w : Nat) (s : State) :
    OutWithin [.engines, .settRest, .zither, .harps, .msix, .hostRest, .ports, .wards, .burrow, .twin] ([1280, 2755, 2764, 2768, 2781, 2828, 2832, 2944, 3656, 3742, 3776, 5952] ++ [6016, 6024, 6032, 6045, 6144, 6238, 6300, 6301, 6914, 7048, 7744, 7808] ++ [9152, 9280, 9344, 9408]) s (execBuDeadline w s) := by
  unfold execBuDeadline
  try dsimp only
  repeat' first
    | with_reducible apply OutWithin.doIf
    | with_reducible apply OutWithin.next
    | with_reducible apply OutWithin.fault
    | with_reducible apply OutWithin.ite
    | with_reducible apply Within.refl
    | with_reducible assumption
    | with_reducible apply Within.ite ?_ ?_
    | ((with_reducible apply Within.step ?_ (State.wardFail_within _ _ _) ?h1); (case h1 => rfl))

theorem State.seqStart_out (s : State) (w op target : Nat) (via : Via) :
    OutWithin [.engines, .msix, .hostRest, .ports, .wards] [6016, 7048, 7744, 7808] s (State.seqStart s w op target via) := by
  unfold State.seqStart
  try dsimp only
  repeat' first
    | with_reducible apply OutWithin.doIf
    | with_reducible apply OutWithin.next
    | with_reducible apply OutWithin.fault
    | with_reducible apply OutWithin.ite
    | with_reducible apply Within.refl
    | with_reducible assumption
    | with_reducible apply Within.ite ?_ ?_
    | ((with_reducible apply Within.step ?_ (State.begin__within _ _) ?h1); (case h1 => rfl))
    | ((with_reducible apply Within.step ?_ (State.finish_within _ _ _ _ _ _) ?h1); (case h1 => rfl))
    | ((with_reducible apply Within.step ?_ (State.resetOp_within _ _ _ _) ?h1); (case h1 => rfl))
    | ((with_reducible apply Within.step ?_ (State.sendCtrl_within _ _ _ _ _) ?h1); (case h1 => rfl))
    | ((with_reducible apply Within.step ?_ (State.setWard_within _ _ _) ?h1); (case h1 => rfl))
    | split

theorem execCoreReset_out (w : Nat) (core : BitVec 16) (via : Via) (s : State) :
    OutWithin [.engines, .msix, .hostRest, .ports, .wards] [6016, 7048, 7744, 7808] s (execCoreReset w core via s) := by
  unfold execCoreReset
  try dsimp only
  repeat' first
    | with_reducible apply OutWithin.doIf
    | with_reducible apply OutWithin.next
    | with_reducible apply OutWithin.fault
    | with_reducible apply OutWithin.ite
    | exact OutWithin.mono (State.seqStart_out _ _ _ _ _) (by rfl)

theorem execPartitionReset_out (w : Nat) (part : BitVec 16) (via : Via) (s : State) :
    OutWithin [.engines, .msix, .hostRest, .ports, .wards] [6016, 7048, 7744, 7808] s (execPartitionReset w part via s) := by
  unfold execPartitionReset
  try dsimp only
  repeat' first
    | with_reducible apply OutWithin.doIf
    | with_reducible apply OutWithin.next
    | with_reducible apply OutWithin.fault
    | with_reducible apply OutWithin.ite
    | exact OutWithin.mono (State.seqStart_out _ _ _ _ _) (by rfl)

theorem execPartitionOff_out (w : Nat) (part : BitVec 16) (via : Via) (s : State) :
    OutWithin [.engines, .msix, .hostRest, .ports, .wards] [6016, 7048, 7744, 7808] s (execPartitionOff w part via s) := by
  unfold execPartitionOff
  try dsimp only
  repeat' first
    | with_reducible apply OutWithin.doIf
    | with_reducible apply OutWithin.next
    | with_reducible apply OutWithin.fault
    | with_reducible apply OutWithin.ite
    | exact OutWithin.mono (State.seqStart_out _ _ _ _ _) (by rfl)

theorem execPartitionOn_out (w : Nat) (part : BitVec 16) (via : Via) (s : State) :
    OutWithin [.engines, .msix, .hostRest, .ports, .wards] [6016, 7048, 7744, 7808] s (execPartitionOn w part via s) := by
  unfold execPartitionOn
  try dsimp only
  repeat' first
    | with_reducible apply OutWithin.doIf
    | with_reducible apply OutWithin.next
    | with_reducible apply OutWithin.fault
    | with_reducible apply OutWithin.ite
    | exact OutWithin.mono (State.seqStart_out _ _ _ _ _) (by rfl)

theorem execRstPoll_out (w : Nat) (stat seq : BitVec 32) (s : State) :
    OutWithin [.engines, .settRest, .zither, .harps, .msix, .hostRest, .ports, .wards, .burrow, .twin] ([1280, 2755, 2764, 2768, 2781, 2828, 2832, 2944, 3656, 3742, 3776, 5952] ++ [6016, 6024, 6032, 6045, 6144, 6238, 6300, 6301, 6914, 7048, 7744, 7808] ++ [9152, 9280, 9344, 9408]) s (execRstPoll w stat seq s) := by
  unfold execRstPoll
  try dsimp only
  repeat' first
    | with_reducible apply OutWithin.doIf
    | with_reducible apply OutWithin.next
    | with_reducible apply OutWithin.fault
    | with_reducible apply OutWithin.ite
    | with_reducible apply Within.refl
    | with_reducible assumption
    | with_reducible apply Within.ite ?_ ?_
    | ((with_reducible apply Within.step ?_ (State.seqOpEnded_within _ _ _ _) ?h1); (case h1 => rfl))
    | ((with_reducible apply Within.step ?_ (State.setWard_within _ _ _) ?h1); (case h1 => rfl))
    | split

theorem execWardStatus_out (via : Via) (s : State) :
    OutWithin [.msix, .hostRest] [7048, 7744, 7808] s (execWardStatus via s) := by
  unfold execWardStatus
  try dsimp only
  repeat' first
    | with_reducible apply OutWithin.doIf
    | with_reducible apply OutWithin.next
    | with_reducible apply OutWithin.fault
    | with_reducible apply OutWithin.ite
    | with_reducible apply Within.refl
    | with_reducible assumption
    | with_reducible apply Within.ite ?_ ?_
    | ((with_reducible apply Within.step ?_ (State.dmaOut_within _ _ _) ?h1); (case h1 => rfl))
    | ((with_reducible apply Within.step ?_ (State.finish_within _ _ _ _ _ _) ?h1); (case h1 => rfl))

theorem execWardReg_out (w : Nat) (via : Via) (data : List (BitVec 32)) (s : State) :
    OutWithin [.engines, .msix, .hostRest, .ports, .wards] [6016, 7048, 7744, 7808] s (execWardReg w via data s) := by
  unfold execWardReg
  try dsimp only
  repeat' first
    | with_reducible apply OutWithin.doIf
    | with_reducible apply OutWithin.next
    | with_reducible apply OutWithin.fault
    | with_reducible apply OutWithin.ite
    | with_reducible apply Within.refl
    | with_reducible assumption
    | with_reducible apply Within.ite ?_ ?_
    | ((with_reducible apply Within.step ?_ (State.begin__within _ _) ?h1); (case h1 => rfl))
    | ((with_reducible apply Within.step ?_ (State.finish_within _ _ _ _ _ _) ?h1); (case h1 => rfl))
    | ((with_reducible apply Within.step ?_ (State.request_within _ _ _) ?h1); (case h1 => rfl))
    | split

theorem execDefectMapRead_out (w : Nat) (via : Via) (s : State) :
    OutWithin [.msix, .hostRest] [7048, 7744, 7808] s (execDefectMapRead w via s) := by
  unfold execDefectMapRead
  try dsimp only
  repeat' first
    | with_reducible apply OutWithin.doIf
    | with_reducible apply OutWithin.next
    | with_reducible apply OutWithin.fault
    | with_reducible apply OutWithin.ite
    | with_reducible apply Within.refl
    | with_reducible assumption
    | with_reducible apply Within.ite ?_ ?_
    | ((with_reducible apply Within.step ?_ (State.dmaOut_within _ _ _) ?h1); (case h1 => rfl))
    | ((with_reducible apply Within.step ?_ (State.finish_within _ _ _ _ _ _) ?h1); (case h1 => rfl))

theorem execLicenceInstall_out (via : Via) (lic : Licence) (s : State) :
    OutWithin [.msix, .hostRest, .wards, .secure, .burrow] [6914, 7048, 7744, 7808, 9152, 9280, 9344, 9408] s (execLicenceInstall via lic s) := by
  unfold execLicenceInstall
  try dsimp only
  repeat' first
    | with_reducible apply OutWithin.doIf
    | with_reducible apply OutWithin.next
    | with_reducible apply OutWithin.fault
    | with_reducible apply OutWithin.ite
    | with_reducible apply Within.refl
    | with_reducible assumption
    | with_reducible apply Within.ite ?_ ?_
    | ((with_reducible apply State.useCrypto_within ?_ ?h1 (fun _ _ => ?_)); (case h1 => rfl))
    | ((with_reducible apply Within.step ?_ (State.finish_within _ _ _ _ _ _) ?h1); (case h1 => rfl))
    | ((with_reducible apply Within.step ?_ (State.record_within _ _ _ _) ?h1); (case h1 => rfl))
    | split
    | ((with_reducible apply Within.set_wards _ ?_ ?h1); (case h1 => rfl))

theorem execLeakClear_out (branch : Nat) (via : Via) (s : State) :
    OutWithin [.settRest, .msix, .hostRest] [7048, 7744, 7808] s (execLeakClear branch via s) := by
  unfold execLeakClear
  try dsimp only
  repeat' first
    | with_reducible apply OutWithin.doIf
    | with_reducible apply OutWithin.next
    | with_reducible apply OutWithin.fault
    | with_reducible apply OutWithin.ite
    | with_reducible apply Within.refl
    | with_reducible assumption
    | with_reducible apply Within.ite ?_ ?_
    | ((with_reducible apply Within.step ?_ (State.begin__within _ _) ?h1); (case h1 => rfl))
    | ((with_reducible apply Within.step ?_ (State.clearBranch_within _ _) ?h1); (case h1 => rfl))
    | ((with_reducible apply Within.step ?_ (State.finish_within _ _ _ _ _ _) ?h1); (case h1 => rfl))


end Sys2Proof.Machine
end

