-- ==== Sys2Proof/Laws/Keeps.lean ====
section
/-!
SUPPORT. What every command keeps: the queue of waiting commands, the canonical form of memory, and that no record waits for its cycle's end. Here
too are the plain register writes and the commands that end in a power-on reset, whose frames are all of the state; the others have theirs in
Laws/Commands.lean.
-/
namespace Sys2Proof.Machine
set_option Elab.async false

/-- From `s` to `t` the queue stays as it is, canonical memory stays canonical, and where no records wait for the end of a cycle none wait after. -/
def Keeps (s t : State) : Prop := t.pending = s.pending ∧ (MemWf s → MemWf t) ∧ (s.burrow.batch = none → t.burrow.batch = none)

/-- Whatever next state an outcome answers, it keeps these. -/
def OutKeeps (s : State) (o : Out) : Prop := ∀ t, o = .next t → Keeps s t

theorem Keeps.refl (s : State) : Keeps s s := ⟨rfl, id, id⟩

theorem Keeps.trans {s t u : State} (h : Keeps s t) (h' : Keeps t u) : Keeps s u := ⟨h'.1.trans h.1, fun m => h'.2.1 (h.2.1 m), fun q => h'.2.2 (h.2.2 q)⟩

theorem Within.keeps {bs : List Block} {cs : List Nat} {s t : State} (h : Within bs cs s t) (hp : bs.contains .pending = false) : Keeps s t :=
  ⟨h.1 .pending (fun hm => by rw [List.contains_iff_mem.mpr hm] at hp; cases hp), h.2.2⟩

theorem OutWithin.keeps {bs : List Block} {cs : List Nat} {s : State} {o : Out} (h : OutWithin bs cs s o) (hp : bs.contains .pending = false) :
    OutKeeps s o := fun t ht => (h t ht).keeps hp

theorem OutKeeps.doIf {g : Bool} {s t : State} (h : Keeps s t) : OutKeeps s (doIf g s t) := by
  intro u hu
  cases hu
  split
  · exact h
  · exact Keeps.refl s

theorem Keeps.each {ι : Type} (l : List ι) (g : ι → State → State) {s t : State} (h : Keeps s t) (hg : ∀ i u, Keeps u (g i u)) :
    Keeps s (each l g t) := by
  induction l generalizing t with
  | nil => exact h
  | cons i l ih => exact ih (h.trans (hg i t))

theorem State.wr_keeps (s : State) (f : Fld) (i v : Nat) : Keeps s (s.wr f i v) := ⟨rfl, fun h => h.wr f i v, id⟩

theorem State.writeFld_keeps (s : State) (f : Fld) (i v : Nat) : Keeps s (s.writeFld f i v) := by
  unfold State.writeFld
  repeat' split
  all_goals first | exact Keeps.refl s | exact s.wr_keeps f i _

theorem State.plainWrite_keeps (s : State) (r : Reg) (i v : Nat) : Keeps s (s.plainWrite r i v) :=
  Keeps.each _ _ (Keeps.refl s) fun f u => u.writeFld_keeps f i _

theorem State.ruleWritten_keeps (s was : State) (r : Nat) : Keeps s (s.ruleWritten was r) := by
  unfold State.ruleWritten
  split
  · extract_lets t
    have h : Keeps s t := (s.wr_keeps _ r 0).trans ((State.releaseRule_within _ r).keeps rfl)
    exact h.trans ⟨rfl, id, id⟩
  · split
    · extract_lets t
      have h : Keeps s t := by
        show Keeps s (if _ then _ else _)
        split
        · exact s.wr_keeps _ r 1
        · exact Keeps.refl s
      exact h.trans (((State.harpJudge_within t).keeps rfl).trans ((State.judgePulls_within _ _).keeps rfl))
    · exact Keeps.refl s

theorem State.written_keeps (s was : State) (r : Reg) (i v : Nat) : Keeps s (s.written was r i v) := by
  unfold State.written
  split
  · split
    · exact (State.setEngine_within s i _).keeps rfl
    · exact Keeps.refl s
  · exact (State.setMeter_within s i _).keeps rfl
  · split
    · exact Keeps.refl s
    · exact s.ruleWritten_keeps was i
  · exact (State.harpJudge_within s).keeps rfl
  · exact (State.supervise_within s was i).keeps rfl
  · exact (State.judgeZone_within s i).keeps rfl
  · exact (State.judgeZone_within s _).keeps rfl
  · exact (State.flowSet_within s i).keeps rfl
  · exact (State.laserShow_within s i).keeps rfl
  · exact Keeps.refl s

theorem State.regWrite_keeps (s : State) (r : Reg) (i v : Nat) : Keeps s (s.regWrite r i v) := by
  unfold State.regWrite
  split
  · exact (s.plainWrite_keeps r i v).trans (State.written_keeps _ s r i v)
  · exact Keeps.refl s

theorem execRegisterWrite_keeps (reg : Reg) (i : BitVec 15) (v : BitVec 64) (s : State) : OutKeeps s (execRegisterWrite reg i v s) := by
  intro t ht
  cases ht
  exact s.regWrite_keeps reg _ _

theorem execRegisterLock_keeps (reg : Reg) (i : BitVec 15) (v : BitVec 64) (s : State) : OutKeeps s (execRegisterLock reg i v s) :=
  OutKeeps.doIf (s.regWrite_keeps reg _ _)

theorem Burrow.restart_batch (b : Burrow) (powered : Bool) : (b.restart powered).batch = none := by
  simp only [Burrow.restart]
  (repeat' split) <;> rfl

theorem State.cleared_keeps (s : State) (powered : Bool) : Keeps s (s.cleared powered) :=
  ⟨rfl, fun _ => ⟨rfl, rfl, rfl⟩, fun _ => s.burrow.restart_batch powered⟩

theorem State.powerOnReset_keeps (s : State) (cause : Nat) : Keeps s (s.powerOnReset cause) :=
  (s.cleared_keeps true).trans ((State.boot_within _ cause).keeps rfl)

theorem execPorstAssert_keeps (short : Bool) (s : State) : OutKeeps s (execPorstAssert short s) :=
  OutKeeps.doIf ((s.cleared_keeps true).trans ⟨rfl, id, id⟩)

theorem execVaoBrownout_keeps (s : State) : OutKeeps s (execVaoBrownout s) := OutKeeps.doIf ((s.cleared_keeps false).trans ⟨rfl, id, id⟩)

theorem execVsettReturn_keeps (s : State) : OutKeeps s (execVsettReturn s) := by
  unfold execVsettReturn
  extract_lets p t
  have h : Keeps s t := ⟨rfl, id, id⟩
  refine OutKeeps.doIf ?_
  split
  · exact h.trans (t.powerOnReset_keeps _)
  · exact h

theorem execPendingPowerOnReset_keeps (s : State) : OutKeeps s (execPendingPowerOnReset s) := by
  refine OutKeeps.doIf ?_
  split
  · exact s.powerOnReset_keeps _
  · exact Keeps.refl s

end Sys2Proof.Machine
end

