-- ==== Sys2Proof/WellFormed.lean ====
section
/-!
DEFINITION. Which commands are well formed: the bounds that the spec puts on a command's operands beyond their types. Where a register
write carries a value outside its field's range, the write is well formed and its meaning ignores it (R9).
-/
namespace Sys2Proof

/-- A unit of an engine that holds a word is one of its 1,024 words; a sett's shared memory has 4,096 words of the word code (R99). Registers are 1 to 15,
so unit 0 is none (R148). -/
def Upset.wellFormed : Upset → Bool
  | .imem _ _ => true
  | .unit _ k => decide (1 ≤ k.val)
  | .shared _ _ _ => true
  | .ringBuffer _ _ _ => true
  | .mailbox _ _ => true

/-- A RSP frame that the checks of R317 pass counts at most 16 words, and carries as many data or none (R319). -/
def RspFrame.wellFormed (f : RspFrame) : Bool :=
  (f.data.isEmpty || f.data.length == f.count.toNat) && decide (f.count.toNat ≤ 16)

/-- A checkpoint carries g1 to g15, four timers and 512 private words of one of the 1,280 objects (R491). -/
def Checkpoint.wellFormed (c : Checkpoint) : Bool :=
  decide (c.obj.toNat < 1280) && c.regs.length == 15 && c.timers.length == 4 && c.priv.length == 512

/-- A component is not empty (Table 19-2). -/
def Component.wellFormed (c : Component) : Bool := decide (0 < c.length.toNat)

/-- The wards, groups and states that a twin CMD names (R492): a ward state is one of Table 14-1. -/
def TwinCmd.wellFormed : TwinCmd → Bool
  | .group _ _ _ => true
  | .abort _ _ _ => true
  | .trip _ _ => true
  | .insertion _ => true
  | .ward _ st _ => decide (st.toNat ≤ 14)
  | .floor _ _ => true
  | .arm _ _ _ _ => true
  | .cancel => true
  | .handover => true

/-- What a joining shadow adopts names no group and no entry twice (R485). -/
def TwinAdopt.wellFormed (a : TwinAdopt) : Bool :=
  decide ((a.groups.map (fun g : Fin 16 × TwinGroup => g.1)).Nodup) &&
    decide ((a.entries.map (fun e : Fin 256 × TwinEntry => e.1)).Nodup)

/-- The bounds of a command's operands. -/
def Instr.wellFormed : Instr → Bool
  | .porstAssert _ => true
  | .porstRelease _ _ _ _ _ _ _ => true
  | .stage2Start _ => true
  | .burrowReplay => true
  | .imageSelection _ _ _ => true
  | .core0Release => true
  | .firmwareReady => true
  | .hbmTrainingEnd _ => true
  | .xtalLoss => true
  | .xtal32kLoss => true
  | .watchdogLapse => true
  | .applicationReset => true
  | .pendingPowerOnReset => true
  | .vcoreLoss => true
  | .vcoreReturn => true
  | .vsettLoss => true
  | .vsettReturn => true
  | .vaoBrownout => true
  | .vaoReturn => true
  | .cxlPerstAssert => true
  | .cxlLinkDown _ => true
  | .linkL0 _ _ => true
  | .sampleWord _ words => decide ((words.map (fun e : Fin 304 × SampleRead => e.1)).Nodup)
  | .inputCollapse => true
  | .pgChange _ _ => true
  | .commit _ _ _ => true
  | .windowCommitApply _ _ => true
  | .feedWindowCommit _ _ => true
  | .channelConfigWrite _ _ => true
  | .channelLock _ => true
  | .meterClear _ => true
  | .meterPavgUpdate _ => true
  | .accumulatorLowRead _ _ => true
  | .persistWrite => true
  | .calibrationRequest => true
  | .calPeriodExpiry => true
  | .calTempDelta _ => true
  | .calSpareTakeover _ _ => true
  | .calOwnConverterDone _ _ => true
  | .calReturn _ _ _ => true
  | .dieTemperatureRead temps => temps.length == 8
  | .channelFault _ _ _ => true
  | .channelFaultClear _ => true
  | .settTickBoundary _ _ upsets => upsets.all Upset.wellFormed
  | .tickOverrun _ _ => true
  | .bind _ obj => decide (obj.toNat < 1280)
  | .start _ _ => true
  | .stop _ _ => true
  | .unbind _ _ => true
  | .instructionMemoryWrite _ _ _ => true
  | .bindingWrite _ _ _ => true
  | .firmwareValueWrite _ _ _ => true
  | .migrationGo _ _ => true
  | .migrationCopy _ => true
  | .migrationHandover _ => true
  | .settEnable _ => true
  | .settDisable _ => true
  | .periodWrite _ _ => true
  | .termWrite _ _ _ => true
  | .ruleDisable _ => true
  | .ruleLock _ => true
  | .latchClear _ => true
  | .rfxRuleTrue _ => true
  | .rfxRuleFalse _ => true
  | .pop => true
  | .engNop _ => true
  | .engAdd _ _ _ _ => true
  | .engSub _ _ _ _ => true
  | .engAddw _ _ _ _ => true
  | .engSubw _ _ _ _ => true
  | .engMul _ _ _ _ => true
  | .engImul _ _ _ _ => true
  | .engDiv _ _ _ _ => true
  | .engMin _ _ _ _ => true
  | .engMax _ _ _ _ => true
  | .engAbs _ _ _ => true
  | .engNeg _ _ _ => true
  | .engLim _ _ _ _ => true
  | .engFlt _ _ _ _ => true
  | .engMac _ _ _ _ => true
  | .engAnd _ _ _ _ => true
  | .engOr _ _ _ _ => true
  | .engXor _ _ _ _ => true
  | .engShl _ _ _ _ => true
  | .engShr _ _ _ _ => true
  | .engSar _ _ _ _ => true
  | .engAddi _ _ _ _ => true
  | .engAndi _ _ _ _ => true
  | .engOri _ _ _ _ => true
  | .engXori _ _ _ _ => true
  | .engShli _ _ _ _ => true
  | .engShri _ _ _ _ => true
  | .engSari _ _ _ _ => true
  | .engLdh _ _ _ => true
  | .engLdp _ _ _ _ => true
  | .engStp _ _ _ _ => true
  | .engLdc _ _ _ _ => true
  | .engStc _ _ _ _ => true
  | .engLdk _ _ _ => true
  | .engRd _ _ _ _ => true
  | .engWr _ _ _ => true
  | .engWpr _ _ _ => true
  | .engEvt _ _ _ _ => true
  | .engMbx _ _ _ => true
  | .engRdst _ _ _ => true
  | .engTset _ _ _ => true
  | .engTseti _ _ _ => true
  | .engTrd _ _ _ => true
  | .engJal _ _ => true
  | .engJr _ _ => true
  | .engBeq _ _ _ _ => true
  | .engBne _ _ _ _ => true
  | .engBlt _ _ _ _ => true
  | .engBge _ _ _ _ => true
  | .engJmp _ _ => true
  | .engBtx _ _ _ => true
  | .engBst _ _ _ => true
  | .engYld _ => true
  | .trayTickBoundary _ _ _ => true
  | .entryWrite _ _ _ => true
  | .zitherLock => true
  | .powerUp _ _ => true
  | .powerDown _ _ => true
  | .pendingPowerUpStart _ => true
  | .entryDue _ => true
  | .entryGood _ => true
  | .goodDeadlineExpiry _ => true
  | .falseGoodInterval _ => true
  | .pgLostDeadline _ => true
  | .powerDownEntryDue _ => true
  | .offConfirmed _ => true
  | .offDeadlineExpiry _ => true
  | .dwellEnd _ => true
  | .enRedrive => true
  | .feedGateOn _ => true
  | .gateCheckExpiry _ => true
  | .feedReverseDue _ => true
  | .settleExpiry => true
  | .rampEnd => true
  | .rampShortfallExpiry => true
  | .rampDeadlineExpiry => true
  | .timedFuseExpiry => true
  | .retryTimerExpiry => true
  | .tripClearTimer => true
  | .feedClear _ => true
  | .forceOff _ => true
  | .feedRelease _ => true
  | .feedLock => true
  | .leverOpen => true
  | .leverClosed => true
  | .removalEnd => true
  | .dischTimeout => true
  | .holdExpiry _ => true
  | .walrtQualified _ _ => true
  | .floorWrite _ _ => true
  | .avsFrameDone _ _ => true
  | .avsResend _ => true
  | .avsPoll _ _ => true
  | .tileEnable _ => true
  | .tileDisable _ => true
  | .tileRun _ _ => true
  | .tileRunClear _ => true
  | .tileSramWrite _ _ _ _ => true
  | .frameStart _ => true
  | .fastWindowEnd _ cycles _ => decide (cycles.toNat ≤ 2000)
  | .frameEnd _ _ => true
  | .jobRelease _ _ _ => true
  | .jobEnd _ _ _ _ => true
  | .jobBoundReached _ _ _ => true
  | .sramScrub _ _ => true
  | .ingestBlockWrite _ _ => true
  | .streamGap _ _ => true
  | .offerWindowEnd => true
  | .offerRead _ => true
  | .driveUpdate => true
  | .dutyWrite _ _ => true
  | .zoneTake _ => true
  | .zoneRelease _ => true
  | .zoneRefreshTimeout _ => true
  | .checkJudgement _ => true
  | .retryCheckStart _ => true
  | .tachPulse _ => true
  | .tachStopped _ => true
  | .fanClear _ => true
  | .flowUpdate _ => true
  | .lowFlowExpiry _ => true
  | .flowOkExpiry _ => true
  | .valveCloseWrite _ => true
  | .critResult _ _ => true
  | .critGraceEnd => true
  | .leakRstatClear _ => true
  | .portEnable _ => true
  | .portDisable _ => true
  | .lightQualified _ _ _ => true
  | .hello _ _ _ _ => true
  | .trainingTimeout _ => true
  | .laneFail _ _ _ => true
  | .laneRejoin _ _ _ => true
  | .faultRetrainExpiry _ => true
  | .rsp _ f _ => !f.head.good || f.wellFormed
  | .reqResend _ _ => true
  | .telem _ _ _ => true
  | .evtFrame _ _ _ _ _ _ => true
  | .drained _ _ _ => true
  | .released _ _ _ => true
  | .fenceDone _ _ _ => true
  | .ctrlResend _ _ _ => true
  | .drainDeadline _ _ => true
  | .fenceDeadline _ _ => true
  | .bulk _ _ _ _ _ len _ _ => decide (len.toNat ≤ 4096)
  | .back _ _ _ _ _ _ => true
  | .bulkTimeout _ _ => true
  | .sec _ _ => true
  | .rekeyDue _ => true
  | .sourceEnableWrite _ _ => true
  | .laserPoll _ _ => true
  | .inBandInterrupt _ _ => true
  | .alsDecision _ _ => true
  | .fullPowerAllowed _ => true
  | .laserSettleCheck _ _ => true
  | .releaseBus _ => true
  | .up _ _ => true
  | .hold _ _ => true
  | .down _ _ => true
  | .clear _ _ => true
  | .autoUp _ => true
  | .staggeredPowerUp _ => true
  | .storeCopyDone _ _ _ => true
  | .buPoll _ _ _ _ _ => true
  | .buDeadline _ => true
  | .coreReset _ _ _ => true
  | .partitionReset _ _ _ => true
  | .partitionOff _ _ _ => true
  | .partitionOn _ _ _ => true
  | .rstPoll _ _ _ => true
  | .nopDescriptor _ => true
  | .hostReset _ => true
  | .timeAnchor _ => true
  | .telemSubscribe _ => true
  | .telemCancel _ => true
  | .subscriptionEntry _ => true
  | .eventRead _ => true
  | .recorderFreeze _ => true
  | .recorderRelease _ => true
  | .wardStatus _ => true
  | .wardReg _ _ _ => true
  | .defectMapRead _ _ => true
  | .licenceInstall _ lic => lic.words.length == 876
  | .leakClear _ _ => true
  | .stageComponent _ part _ _ => part.wellFormed
  | .stageDone _ => true
  | .activateSet _ _ _ _ => true
  | .activationTick => true
  | .commitConfirm _ => true
  | .trialExpiry => true
  | .revokeKey _ _ => true
  | .tokenSubmit _ _ => true
  | .tapToken _ => true
  | .evidenceReport _ signed => decide (signed.length ≤ 5359)
  | .ownerLockSet _ => true
  | .ownerLockClear _ _ => true
  | .ringEnable _ _ => true
  | .ringDisable _ _ => true
  | .sqDoorbell _ _ => true
  | .cqDoorbell _ _ => true
  | .descriptorFetch _ _ => true
  | .coalesceTimeout _ => true
  | .intCauseClear _ => true
  | .dmaFailure _ _ => true
  | .hdmAccess _ _ _ _ _ => true
  | .hdmDecoderCommit _ _ => true
  | .segmentComplete => true
  | .recTrigger => true
  | .postSpanEnd => true
  | .hbmScrub offset _ => decide (offset.toNat % 32 = 0)
  | .sharedMemoryScrub _ _ _ => true
  | .l2Scrub _ _ => true
  | .flashScrub _ _ _ => true
  | .corrRateHour => true
  | .flashCommitDone => true
  | .tokenRefill _ => true
  | .countRecordDue _ _ _ => true
  | .entryClose _ _ _ => true
  | .operatingSecond => true
  | .twinHello _ adopt _ => adopt.wellFormed
  | .joinTimeout => true
  | .tickFrame _ => true
  | .echoExchange _ _ _ _ => true
  | .echoTimeout => true
  | .mirror c => c.wellFormed
  | .twinCommand _ c _ => c.wellFormed
  | .twinCack _ => true
  | .cmdResend _ => true
  | .handover _ => true
  | .twinSilence => true
  | .leadActivation => true
  | .twinActivationTimeout => true
  | .registerLock reg ix _ => decide (ix.toNat < reg.count)
  | .registerWrite reg ix _ => decide (ix.toNat < reg.count)
  | .cxlPerstRelease => true
  | .pmbusAlert _ => true

end Sys2Proof
end

