-- ==== Sys2Proof/Tests/Slice0.lean ====
section
/-!
SUPPORT. Tests: the states they run on, an ill-formed operand for each check of WellFormed, words of the loop engine written out from the
tables of chapter 6, steps whose outcome the spec's words fix, and for each statement states and operands that meet its hypotheses.
-/
namespace Sys2Proof.Tests
open Sys2Proof Sys2Proof.Machine
set_option maxRecDepth 10000
set_option exponentiation.threshold 400
set_option Elab.async false

/-- A T840 with every supply good, its tray firmware running and READY, one second after release. -/
def run : State := { State.reset with part := { State.reset.part with held := false, perstLow := false, stage := 4, halted := false }, tick := 1000000, bootUs := 1000000 }.wr DEV_STAT.mode 0 1
def armed : WinSet := { hyst := 0, filter := 1, fhEn := true, whEn := true, wlEn := true, flEn := true, edgeEn := false, arm := true, fh := 400, wh := 300, wl := 200, fl := 100 }
/-- Engine 5 about to issue `op`: a program image of 20 words, code up to 16, the common area allowed. -/
def engAt (op : EngOp) (e : Engine := {}) : State :=
  run.setEngine 5 { e with state := .running, obj := 5, inTick := true, used := 2, pc := 8, imem := [(1, 0x00140010), (2, 0xC0080000), (8, encodeOp op), (16, 0xABCD1234)] }
def regs : EngRegs := { g := [(1, 0x7FFFFFFF), (2, 0x00018000), (3, 0x80000000), (4, 0x100), (5, 9)], qs := true, tm := [(1, 7)] }
/-- A program image of one YLD whose CRC is right. -/
def image : Tab Word :=
  let l : List Word := [0x4C450100, 0x00090009, 0x00080000, 0x00070000, 0, 0, 0, 0, 0xFC000000]
  Tab.set 0 ((List.range 9).zip l |>.filter (·.2 != 0)) 7 (crcWords (((List.range 9).filter (· != 7)).map fun k => l.getD k 0))
/-- A run whose rule 3 is enabled with one inverted term. -/
def ruled : State := ((run.wr RFX_TERM01.t0_en 3 1).wr RFX_TERM01.t0_inv 3 1).wr RFX_ACT.enable 3 1
def withSetts (s : State) (f : Setts → Setts) : State := { s with setts := f s.setts }
def desc (opcode : BitVec 16) (params : BitVec 160) (flags : BitVec 8 := 0) : Desc :=
  { opcode, flags, ringTag := 0, cookie := 0xC0, addr0 := 0x1000, addr1 := 0, addr2 := 0, len0 := 0, len1 := 0, len2 := 0, params }
/-- Ring pair 2 enabled, with one descriptor fetched from slot 9. -/
def ringed (s : State) (d : Desc) : State :=
  (((s.setPair 2 { out := [{ slot := 9, desc := d, order := 0 }] }).wr RING_STAT.state 2 1).wr RING_STAT.outstanding 2 1).wr RING_CTL.enable 2 1
def lev (s : State) (n k : Nat) : State := s.wr (levelFld k) (2 * fixedChannel n) 1
def ins (s : State) (v : Nat) : State := s.wr FEED_STAT.ins_state 0 v
/-- Entry 7 of group 2 with the good source PG7. -/
def entry (s : State) (g : Nat) (z : ZEntry) : State :=
  ((((({ s with zither := { s.zither with released := false } }.setZent 7 z).wr ZIT_EW0.valid 7 1).wr ZIT_EW0.group 7 2).wr ZIT_EW0.pg_src 7 1).wr ZIT_EW0.pg_pin 7 7).wr ZIT_GSTAT.state 2 g
def pg (s : State) : State := { s with zither := { s.zither with pgHigh := [7] } }
def feed (s : State) (f : Feed) : State := { s with feed := f }
def logged (code : Nat) (data : List Nat) (seq : Nat := 5) : Rec := { code, source := Src.feed, seq, data }
def flashed (l : List Rec) : State := { run with burrow := { run.burrow with flash := l } }
def noActs : FirmwareActs := { watchdog := none, parked := none, masters := none, edges := 0 }
/-- An admissible input with feed gate A ready. -/
def admitted : State := feed run { a := { confirmed := true } } |>.wr FEED_STAT.gda 0 1 |>.wr FEED_STAT.lever_latched 0 1
def harp (s : State) (w : Nat) (h : Harp) : State := s.setHarp w h
/-- Tile 1 in state `st`: job 3 valid, of class `c`, writing one slot `k`, reading stream 6 of channel 2. -/
def tiled (s : State) (st : Nat) (c : Nat := 1) (k : Nat := 7) (x : Tile := {}) : State :=
  let jt : Tab Word := [(24, BitVec.ofNat 32 (0x80000000 + c * 0x20000000)), (25, 0x00000000), (26, 50), (27, BitVec.ofNat 32 (k * 0x1000000 + 0x10205)), (28, 0x40)]
  let st' : Tab Word := [(48, 0x80000002), (49, 0), (50, 16)]
  (((((s.wr MRT_TSTAT.state 1 st).setTile 1 { x with jobTable := jt, streamTable := st' }).wr SNS_CHCFG.enable 2 1).wr SNS_CHCFG.marten_sub 2 1).wr MRT_JSTAT.state (jix 1 3) 1).wr MRT_TCTL.run 1 1
def jobbed (x : Tile) (p : JobPhase) (since : Nat := 5) : Tile := x.setJob 3 { phase := p, since := since }
def jobOuts (outs : List (Nat × Option Word)) : Tile := Tile.setJob {} 3 { phase := .running, since := 5, outs }
def govS : GovSet := { pTrim := 500 * 65536, pDeep := 600 * 65536, pRel := 400 * 65536, tRel := 20, guard := 58982, gAge := 1000, codeMax := 1, spanMax := 20, budget := 200, sMin := 58982, paAge := 4, vNom := 55705, mAcc := 0, mMax := 0, vDown := 32768 }
def govI : GovIn := { pavg := 550 * 65536, telem := 0, telemAge := 9, wh := false, age := 3, code := 0, span := 0, scale := 65536, offer := 0, core := 55705 }
def trayS : TraySet := { frac := 63570, rating := 17039360, pMax := 917504000, rel := 1966, tRel := 50, guard := 58982, gAge := 1000, order := 0x76543210, fcMax := 8 }
/-- Engine 5 with the bindings of ward 3's governor. -/
def governed (e : Engine) : State :=
  (run.setEngine 5 { e with state := .running, obj := 5, inTick := true, tickAt := 2000000, pc := 8, binds := [(0, (3, 9)), (1, (2, 7)), (2, (4, 3)), (3, (6, 12)), (4, (6, 13)), (5, (6, 14)), (6, (6, 15)), (7, (13, 3)), (8, (12, 3)), (9, (1, 18))] }).setSh (privKey 5 0x780) 5
/-- Outputs 3 and 17 in zone 1, supervised; the table of zone 1 rising. -/
def cooled (s : State) (st : Nat := 2) (f : FanOut := {}) : State :=
  let z (s : State) (o : Nat) : State := ((((s.wr FAN_OCFG.zoned o 1).wr FAN_OCFG.zone o 1).wr FAN_OCFG.sup o 1).wr FAN_OCFG.rpm_full o 3000).wr FAN_OSTAT.state o st
  ((z (z s 3) 17).setFan 3 f).setFan 17 f
def driven (s : State) : State := (s.wr FAN_OSTAT.drive 3 500).wr FAN_OSTAT.drive 17 500
def metered (s : State) (w : Flow) : State := ((((s.setFlow 5 w).wr FAN_FCFG.en 5 1).wr FAN_FCFG.zoned 5 1).wr FAN_FCFG.zone 5 1).wr FAN_FCFG.f_low 5 40
def crit (s : State) (c : Crit) : State := { s with cooling := { s.cooling with crit := c } }
def pulsed (s : State) (i : Nat) (p : Pulse) : State := { s with cooling := { s.cooling with pulses := Tab.set {} s.cooling.pulses i p } }
def linked (s : State) (x : Port := {}) (p : Nat := 3) : State := (s.setPort p x).wr WPORT_STAT.state p 3
def warded (s : State) (x : Ward) (p : Nat := 3) : State := s.setWard p x
def lasers (s : State) : State := { s with secure := { s.secure with handedAt := some 0 } }
/-- Source 6 (bus 2), enabled and owned by object 5 with a commit of 200 mW. -/
def lit (s : State) (x : Laser := { commit := 13107200, lit := true, address := some 9 }) : State :=
  { ((lasers s).setEngine 5 { obj := 5, state := .running, binds := [(0, (15, 6))] }).setLaser 6 x with tick := 1000000 }.wr WPORT_LSCFG.enable 6 1
def headF (good : Bool) (length : BitVec 16) (sealed : Bool := false) : FrameHead := { good, length, isSealed := sealed }
def rspF (tag : BitVec 8) (count : BitVec 8) (data : List (BitVec 32)) (status : BitVec 8 := 0) (good : Bool := true) (sealed : Bool := false) : RspFrame :=
  { tag, status, count, addr := 0x1000, data, head := headF good (BitVec.ofNat 16 (16 + 4 * data.length + if sealed then 16 else 0)) sealed, sealOk := true }
/-- A telemetry frame of sequence number `n`, its CRC right. -/
def telemF (n : BitVec 32) : List Word :=
  let l : List Word := 0x20000100 :: n :: List.replicate 61 5
  l ++ [crcWords l]
def secF (fragment : BitVec 8) (last : Bool) (certOk : Bool := true) (die : BitVec 128 := 77) : SecFrame := { head := headF true 16, message := 2, fragment, last, certOk, sigOk := true, die }
def engReq : Req := { tag := 9, owner := .engine 5 2, read := true, addr := 0x1000, count := 1, sentAt := 999000 }
/-- Engine 5 with object 5 and its request slot 2 busy. -/
def asking (s : State) : State := s.setEngine 5 { obj := 5, state := .running, reqBusy := [2] }
def inBulk (b : Bulk) : Port := { ins := Tab.set none [] 4 (some b) }
def outBulk (b : Bulk) : Port := { outs := Tab.set none [] 4 (some b) }
def trayW (w : Fin 8) (autoUp : Bool := true) (retries : BitVec 8 := 2) : TrayWard :=
  { ward := w, wardType := 9, autoUp, retries, linkMs := 100, idMs := 100, testMs := 100, mapMs := 100, trainMs := 100, discMs := 100, licMs := 100, bootMs := 100, readyMs := 100, topology := 0, cores := 0, partitions := 0, partCores := 0, uncore := 0, memStacks := 0, peak := 0, power := 0 }
def entryM (type : BitVec 8) (wardType : BitVec 32) (digest : BitVec 384) : Entry := { type, carried := false, wardType, version := 1, length := 64, digest, steppings := List.replicate 8 0, ranges := List.replicate 5 (0, 0xFFFFFFFF) }
def manifest : Manifest := { keySlot := 0, setSeq := 4, entries := [entryM 5 0 5, entryM 6 9 6, entryM 7 9 7], hash := 0, sigOk := true }
def digestWords (d : Nat) : List Word := List.replicate 11 0 ++ [BitVec.ofNat 32 (d * 0x1000000)]
def padTo (n : Nat) (l : List Word) : List Word := l ++ List.replicate (n - l.length) 0
def entryWords (e : Entry) : List Word :=
  [BitVec.ofNat 32 (e.type.toNat + e.carried.toNat * 256), e.wardType, e.version, e.length] ++ digestWords e.digest.toNat ++ padTo 8 e.steppings ++
  padTo 12 (e.ranges.flatMap fun r => [r.1, r.2])
/-- A manifest's bytes. -/
def bytesOf (m : Manifest) : Signed :=
  { words := padTo 1200 ([0x5445534D, BitVec.ofNat 32 (1 + m.keySlot.val * 65536 + m.entries.length * 16777216), m.setSeq] ++ List.replicate 13 0 ++ m.entries.flatMap entryWords)
    sigOk := m.sigOk }
def store : List Component :=
  [{ length := 64, digest := 5, content := .tray [trayW 3, trayW 4] 10 false [] }, { length := 64, digest := 6, content := .ward 9 [1] 100 },
   { length := 64, digest := 7, content := .patterns [0, 0, 2, 64, 4096, 0] }]
/-- The active set of a tray with wards 3 and 4. -/
def trayed (s : State) : State := { s with secure := { s.secure with set := some manifest, store := store } }
def wardAt (st : Nat) (x : Ward := {}) (s : State := run) : State := (trayed s).setWard 3 { x with state := st }
def cmdW (s : State) (w cmd : Nat) : State := ringed s (desc 0x0300 (BitVec.ofNat 160 (w + 256 * cmd)))
def shadowed (s : State) : State := s.wr TWIN_STAT.role 0 2
def seqd (op step : Nat) (running : Nat := 0) : ResetSeq := { op, target := 4, via := .firmware, startAt := 5, step, stepAt := 6, running }
/-- The host interface up, ring pair 2 set up with rings of 16 entries. -/
def hosted (s : State := run) : State :=
  { (((s.wr RING_CTL.sq_log2 2 4).wr RING_CTL.cq_log2 2 4).wr SQ_BASE.base 2 1).wr CQ_BASE.base 2 1 with host := { s.host with linkUp := true, decoder := true } }
def given (opcode : BitVec 16) (params : BitVec 160) (s : State := run) : State := ringed (hosted s) (desc opcode params)
def subbed (x : Sub) (s : State := hosted run) : State := (s.setSub 6 x).wr RING_STAT.state 2 1
def aSub : Sub := { pair := 2, slot := 9, cookie := 0xC0, quiet := false, kind := 1, stat := 0, index := 5, k := 3 }
def goodLicence : Licence := { words := [0x4C494345, 1, 77, 0, 0, 0, 9, 2, 0, 0, 0x00010001] ++ List.replicate 865 0, sigOk := true }
def header (svn : BitVec 8 := 3) (seq : BitVec 32 := 2) : Header := { keySlot := 1, svn, build := 7, commitSeq := seq, bodyLen := 100, entry := 0, steppings := [0x01000000], manifest := 0, digest := 0 }
/-- An image header's words. -/
def headerWords (h : Header) : List Word :=
  padTo 1024 ([0x4D495654, BitVec.ofNat 32 (1 + h.keySlot.val * 65536 + h.svn.toNat * 16777216), h.build, h.commitSeq, h.bodyLen, h.entry] ++ padTo 8 h.steppings)
def sound : ImageCheck := { readable := true, sigOk := true, bodyOk := true }
def imagePart (svn : BitVec 8 := 3) (c : ImageCheck := sound) (digest : BitVec 384 := 1) : Component := { length := 5000, digest, content := .image (headerWords (header svn)) c }
def secured (s : State) (f : Secure → Secure) : State := { s with secure := f s.secure }
def stagedP (p : Component) (type target : Nat) : Staging := { via := .ring 2 9, part := p, type, target, since := 5 }
/-- Slot A runs in state `st`; the last hand-over was at 0. -/
def running (st : Nat) (us : Nat := 1000000) (s : State := run) : State :=
  { secured (s.wr SEC_BOOT.slot 0 1) (fun x => { x with handedAt := some 0, slotA := { state := st, image := some (imagePart, header, sound), active := some manifest } }) with bootUs := us }
/-- A set that passes the cross-check on a QB device with slot A's image. -/
def hashB : BitVec 384 := 0x1c7f0976f3526cce7e7babe861a6edf6aa935ecae50d91bf35f5b60ade4c400e8c6894478c6237c4c116f2e2e89485ab
def setB : Manifest := { keySlot := 0, setSeq := 5, hash := hashB, sigOk := true, entries :=
  [{ entryM 1 0 1 with length := 5000, steppings := 0x01000000 :: List.replicate 7 0 }, { entryM 2 0 2 with steppings := 0x01000000 :: List.replicate 7 0 }, { entryM 4 0 4 with steppings := 0x01000000 :: List.replicate 7 0 },
   { entryM 5 0 5 with steppings := 0x01000000 :: List.replicate 7 0 }, { entryM 6 9 6 with steppings := 0x01000000 :: List.replicate 7 0 }, { entryM 7 9 7 with steppings := 0x01000000 :: List.replicate 7 0 }] }
def storeB : List Component := store ++ [{ length := 64, digest := 2, content := .programs 0 [] }, { length := 64, digest := 4, content := .zither }]
def qb (s : State) : State := { s with part := { s.part with variant := .qb } }
/-- Slot B holds the PENDING image of `setB`. -/
def pendingB (s : State := running 3) : State :=
  secured (qb s) fun x => { x with store := storeB, slotB := { state := 1, image := some (imagePart, { header 4 with manifest := hashB }, sound) }, slotA := { x.slotA with image := some (imagePart 3 sound 99, header, sound) } }
/-- The set runs already: `setB` again is live. -/
def liveB (s : State := running 3) : State := secured (qb s) fun x => { x with store := storeB, set := some setB }
def liveC : Manifest := { setB with setSeq := 6, entries := setB.entries.map fun e => if e.type == 7 then { e with digest := 70 } else e }
def armedWith (full : Bool) (at_ : Nat := 5) : Armed := { set := setB, at_, full, slot := 1 }
def token (rights : Nat) : Signed := { words := [0x4E4B5454, 0x00010001, BitVec.ofNat 32 rights] ++ List.replicate 61 0, sigOk := true }
def revocation (kind pair : Nat) : Signed := { words := [0x4B565452, BitVec.ofNat 32 (0x00010001 + kind * 16777216), BitVec.ofNat 32 pair] ++ List.replicate 61 0, sigOk := true }
def recd (f : Recorder → Recorder) (st : Nat := 0) (s : State := run) : State := { s.wr REC_STAT.state 0 st with recorder := f { s.recorder with trained := true, segTick := 999872 } }
def memOn (s : State := run) : State := s.wr DEV_STAT.mem_active 0 1
def burrowed (f : Burrow → Burrow) (s : State := run) : State := { s with burrow := f s.burrow }
def entry0 (count : Nat) : Coal := { code := 0x301, source := 4, count, firstUs := 7, lastUs := 8, since := 0, lastAt := 0 }
def pathWith (tokens count : Nat) : CoalPath := { tokens, entries := [entry0 count] }
/-- One of a twin with link and join, in role 1 lead or 2 shadow. -/
def twin (role : Nat) (f : Twin → Twin := id) (joined : Nat := 1) (s : State := run) : State :=
  { (((s.wr TWIN_STAT.role 0 role).wr TWIN_STAT.joined 0 joined).wr TWIN_STAT.link 0 1) with twin := f s.twin }
def peerOf (actsLead : Bool) (die : BitVec 128 := 7) (driven : Bool := false) : TwinPeer := { strapLead := actsLead, actsLead, die, setSeq := 5, driven, down := true }
def adopted : TwinAdopt := { groups := [(2, { state := 2, start := 5, done := some 6, dwellEnd := 7, cause := 0 })], entries := [(7, { phase := 3, on := true, good := true, onAt := 5, goodAt := 6 })], ins := 2, retry := 1 }
def idle (s : State) : State := (List.range 16).foldl (fun s g => s.wr ZIT_GSTAT.state g 0) s
def ckpt : Checkpoint := { obj := 5, tick := 900, regs := [], flags := 0, timers := [], consec := 0, priv := [] }
def parted (f : Machine.Part → Machine.Part) (s : State := run) : State := { s with part := f s.part }
def straps (f : Straps → Straps) (s : State := run) : State := parted (fun p => { p with straps := f p.straps }) s
def held : State := { State.reset with pending := [.core0Release], zither := { State.reset.zither with pgHigh := [7] } }
/-- The Cub has handed over to slot A. -/
def handing (s : State := running 3) : State := secured s fun x => { x with handing := true, selecting := none }
def messy (s : State := run) : State := (subbed aSub (given 0x500 0x101 (linked (asking (warded (twin 1 id 1 (lit s)) { state := 5 })) { reqs := [engReq] }))).wr HARP_WSTAT.code 2 3
/-- The signature engine has just been used. -/
def crypted (s : State) : State := { s with secure := { s.secure with cryptoAt := s.bootUs } }

/-- Whether a command answers a next state of which `p` holds. -/
def next (c : Instr) (s : State) (p : State → Bool) : Bool :=
  match exec c s with
  | .next t => p t
  | _ => false

/-! ## Well-formedness: an ill-formed operand for each check -/

theorem test_ill_sampleWord : (Instr.sampleWord 0 [(3, .code 1), (3, .above)]).wellFormed = false := by decide +kernel
theorem test_ill_dieTemperatureRead : (Instr.dieTemperatureRead [none]).wellFormed = false := by decide +kernel
theorem test_ill_settTickBoundary : (Instr.settTickBoundary 0 false [.unit 5 0]).wellFormed = false := by decide +kernel
theorem test_ill_bind : (Instr.bind 0 1280).wellFormed = false := by decide +kernel
theorem test_ill_fastWindowEnd : (Instr.fastWindowEnd 0 2001 0).wellFormed = false := by decide +kernel
theorem test_ill_rsp_count : (Instr.rsp 0 (rspF 9 17 []) false).wellFormed = false := by decide +kernel
theorem test_ill_rsp_data : (Instr.rsp 0 (rspF 9 2 [1]) false).wellFormed = false := by decide +kernel
theorem test_ill_bulk : (Instr.bulk 0 0 (headF true 4117) true 0 4097 [] false).wellFormed = false := by decide +kernel
theorem test_ill_licenceInstall : (Instr.licenceInstall .firmware { words := [1], sigOk := true }).wellFormed = false := by decide +kernel
theorem test_ill_stageComponent :
    (Instr.stageComponent .firmware { length := 0, digest := 0, content := .zither } true []).wellFormed = false := by decide +kernel
theorem test_ill_evidenceReport : ∀ l : List (BitVec 8), l.length = 5360 → (Instr.evidenceReport .firmware l).wellFormed = false :=
  fun _ h => (congrArg (fun n => decide (n ≤ 5359)) h).trans rfl
theorem test_ill_hbmScrub : (Instr.hbmScrub 31 0).wellFormed = false := by decide +kernel
theorem test_ill_twinHello : (Instr.twinHello (peerOf true) { adopted with groups := adopted.groups ++ adopted.groups } 0).wellFormed = false := by
  decide +kernel
theorem test_ill_mirror : (Instr.mirror ckpt).wellFormed = false := by decide +kernel
theorem test_ill_twinCommand : (Instr.twinCommand 0 (.ward 0 15 0) none).wellFormed = false := by decide +kernel
theorem test_ill_registerLock : (Instr.registerLock .RFX_ACT 512 0).wellFormed = false := by decide +kernel
theorem test_ill_registerWrite : (Instr.registerWrite .RFX_ACT 512 0).wellFormed = false := by decide +kernel
theorem test_well_registerWrite : (Instr.registerWrite .RFX_ACT 511 0).wellFormed = true := by decide +kernel

/-! ## Words of the loop engine, written out from Tables 6-3 and 6-4 -/

theorem test_word_add : decodeOp 0b000001_0001_0010_0011_00000000000000#32 = some (.add 1 2 3) := by decide +kernel
theorem test_word_addi : decodeOp 0b011000_1011_0000_000000000000000001#32 = some (.addi 11 0 1) := by decide +kernel
theorem test_word_rd : decodeOp 0b101000_0010_0000_0010_0001_0000000000#32 = some (.rd 2 2 1) := by decide +kernel
theorem test_word_yld : decodeOp 0b111111_00000000000000000000000000#32 = some .yld := by decide +kernel
theorem test_word_reserved_bit : decodeOp 0b111111_00000000000000000000000001#32 = none := by decide +kernel

/-! ## Steps -/

/-- Chapter 4's example: 0x0000_0021 in the block of channel 18 is range 2 and enable. -/
theorem test_channel_config : next (.channelConfigWrite 18 0x21) run
    (fun t => t.rd SNS_CHCFG.range 18 == 2 && t.rd SNS_CHCFG.enable 18 == 1 && t.rd SNS_CHCFG.lock 18 == 0) = true := by decide +kernel
/-- Ward 2's core current with window A of chapter 4's example active: FH 18,432, WH 16,384, hysteresis 1,024, one sample. -/
def surge (fh : Nat) : State :=
  ((run.wr SNS_CHCFG.enable 18 1).wr SNS_WSTAT.fh 36 fh).setWin 36
    { act := some { hyst := 1024, filter := 1, fhEn := true, whEn := true, wlEn := false, flEn := false, edgeEn := false, arm := true, fh := 18432, wh := 16384, wl := 0, fl := 0 } }
/-- Chapter 4's example: the word 19,456 sets FH and WH. -/
theorem test_window_sets : next (.sampleWord 0 [(18, .code 19456)]) (surge 0)
    (fun t => t.rd SNS_WSTAT.fh 36 == 1 && t.rd SNS_WSTAT.wh 36 == 1) = true := by decide +kernel
/-- Chapter 4's example: FH stays at 17,613, which is not below 17,408. -/
theorem test_window_holds : next (.sampleWord 0 [(18, .code 17613)]) (surge 1) (fun t => t.rd SNS_WSTAT.fh 36 == 1) = true := by decide +kernel
/-- Chapter 4's example: FH clears at the first sample below 17,408. -/
theorem test_window_clears : next (.sampleWord 0 [(18, .code 17407)]) (surge 1) (fun t => t.rd SNS_WSTAT.fh 36 == 0) = true := by decide +kernel
/-- Table 6-4: ADD saturates at the largest positive value and sets Q. -/
theorem test_add_saturates : next (.engAdd 5 6 1 2) (engAt (.add 6 1 2) { regs })
    (fun t => (t.engine 5).reg 6 == 0x7FFFFFFF && (t.engine 5).regs.q) = true := by decide +kernel
/-- Table 6-4: 9 divided by 1.5 units of 2^-16, as Q16.16. -/
theorem test_div : next (.engDiv 5 6 5 2) (engAt (.div 6 5 2) { regs }) (fun t => (t.engine 5).reg 6 == 6) = true := by decide +kernel
/-- Chapter 7's example: 0x83D9_54A9 is entry 41's word 0. -/
theorem test_entry_word : next (.entryWrite 41 0 0x83D954A9) (idle run)
    (fun t => t.rd ZIT_EW0.valid 41 == 1 && t.rd ZIT_EW0.group 41 == 3 && t.rd ZIT_EW0.pg_src 41 == 3 && t.rd ZIT_EW0.win_chan 41 == 101 &&
      t.rd ZIT_EW0.pg_pin 41 == 41 && t.rd ZIT_EW0.en 41 == 41) = true := by decide +kernel
/-- Chapter 7's example: on after 300 and off after 100 steps of 10 µs. -/
theorem test_entry_delays : next (.entryWrite 41 1 0x012C0064) (idle run)
    (fun t => t.rd ZIT_EW1.on_delay 41 == 300 && t.rd ZIT_EW1.off_delay 41 == 100) = true := by decide +kernel
/-- Chapter 8's example, 20.2 ms into a ramp of 1 V/ms from 54 V in: 2 V out trips with cause 3 and leaves TRIPPED and retry count 1. -/
theorem test_ramp_short : next .rampShortfallExpiry
    (feed ((ins run 1 |>.wr SNS_CHSAMP.sample 60 27648).wr SNS_CHSAMP.sample 59 1024) { rampAt := 979800, dvdt := 1000, lowFrom := some 989800 })
    (fun t => t.ins == 3 && t.rd FEED_STAT.retry_count 0 == 1 && t.rd FEED_STAT.trip_cause 0 == 3) = true := by decide +kernel
/-- Chapter 8's example: 60 s of ON set the retry count to 0. -/
theorem test_trip_clear : next .tripClearTimer { (ins run 2).wr FEED_STAT.retry_count 0 1 with bootUs := 70054800, feed := { run.feed with onAt := 10054800 } }
    (fun t => t.rd FEED_STAT.retry_count 0 == 0) = true := by decide +kernel
/-- Chapter 12's example: 0x0000_A4A3 is term 0 of rule 40, an enabled one of signal 9,379. -/
theorem test_rule_term : next (.termWrite 40 false 0xA4A3) run
    (fun t => t.rd RFX_TERM01.t0_en 40 == 1 && t.rd RFX_TERM01.t0_src 40 == 9379) = true := by decide +kernel
/-- Chapters 5 and 20: a tray-tick boundary adds one microsecond to the tray tick and to boot_us. -/
theorem test_tray_tick : next (.trayTickBoundary false [] noActs) run (fun t => t.tick == 1000001 && t.bootUs == 1000001) = true := by decide +kernel
/-- Table 8-5: clearing takes LATCHED to WAIT with the retry count at 0. -/
theorem test_feed_clear : next (.feedClear .firmware) ((ins run 4).wr FEED_STAT.retry_count 0 9)
    (fun t => t.ins == 0 && t.rd FEED_STAT.retry_count 0 == 0) = true := by decide +kernel
/-- R29: the test mode is the one stop of the model. -/
theorem test_production_test : exec (.porstRelease 0 0 0 false 0 false true) State.reset = .fault .productionTest := by rfl
/-- R421: the word code corrects one symbol of a word and detects two. -/
theorem test_word_code : readBad 0xA500 = (.corrected, 0) ∧ (readBad 0x0201).1 = .uncorrectable := by decide +kernel
/-- R211: at 650 W, above p_deep and with the margin gone, the ward governor asks for the deepest of its codes at once. -/
theorem test_governor_deep : (Gov.tick {} govS { govI with pavg := 650 * 65536 }).code = 2 := by decide +kernel
/-- The bytes of a container taken word by word, so that a digest over them is computed in the kernel. -/
def wordBytes (w : Word) : List Byte := (List.range 4).map fun i => BitVec.ofNat 8 (w.toNat / 256 ^ i % 256)
theorem byte_at (l : List Word) (i : Nat) : (l.flatMap wordBytes).getD i 0 = BitVec.ofNat 8 (recByte l i) := by
  induction l generalizing i with
  | nil => simp [recByte]
  | cons w l ih =>
    match i with
    | 0 => rfl
    | 1 => rfl
    | 2 => rfl
    | 3 => rfl
    | i + 4 =>
      have h : recByte (w :: l) (i + 4) = recByte l i := by simp [recByte]
      rw [h, ← ih]; rfl
theorem recBytes_words (l : List Word) (n : Nat) : recBytes l 0 n = (l.flatMap wordBytes ++ List.replicate n 0).take n := by
  refine List.ext_getElem (by simp [recBytes]) fun i h _ => ?_
  have hi : i < n := by simpa [recBytes] using h
  have e := byte_at l i
  simp only [recBytes, List.getElem_map, List.getElem_range, Nat.zero_add, List.getElem_take, List.getElem_append, List.getElem_replicate, ← e,
    List.getD_eq_getElem?_getD]
  split <;> rename_i g
  · simp [List.getElem?_eq_getElem g]
  · simp [List.getElem?_eq_none (Nat.le_of_not_lt g)]
/-- The SHA-384 of the manifest's 4,301 bytes. -/
theorem hash_setB : sha384 (recBytes (bytesOf setB).words 0 4301) = hashB := by
  rw [recBytes_words]; decide +kernel
theorem entries_setB : recByte (bytesOf setB).words 7 = 6 := by decide +kernel
/-- The manifest's bytes give the manifest, with the SHA-384 of the signed part. -/
theorem parsed_setB : parseManifest (bytesOf setB) = some setB := by
  unfold parseManifest
  simp only [entries_setB, Nat.reduceMul, Nat.reduceAdd, hash_setB]
  decide +kernel
theorem parse_signature (l : List Word) (b : Bool) :
    parseManifest { words := l, sigOk := b } = (parseManifest { words := l, sigOk := true }).map fun m => { m with sigOk := b } := by
  unfold parseManifest; simp only []; split <;> rfl
theorem parsed_unsigned : parseManifest (bytesOf { setB with sigOk := false }) = some { setB with sigOk := false } :=
  (parse_signature (bytesOf setB).words false).trans
    ((congrArg (Option.map fun m => { m with sigOk := false }) parsed_setB).trans rfl)

/-! Witnesses: for each clause of each statement, a state and operands that meet its hypotheses together. -/

theorem witness_WindowCommit :
    (∃ (s : State) (c : Fin 304) (b : Bool) (_v : BitVec 32), s.settUp = true ∧ s.bit SNS_CHCFG.lock c = false ∧ (feedIndex (winIx c b)).isNone
      = true) ∧
    (∃ (s : State) (c : Fin 304) (b : Bool), s.settUp = true ∧ (s.win (winIx c b)).commitDue = true ∧ (s.shadow (winIx c b)).ordered = true) ∧
    (∃ (s : State) (c : Fin 304) (b : Bool), s.settUp = true ∧ (s.win (winIx c b)).commitDue = true ∧ (s.shadow (winIx c b)).ordered = false) ∧
    (∃ (w : WinSet), w.flEn = true ∧ w.wlEn = true) ∧
    (∃ (w : WinSet), w.flEn = true ∧ w.whEn = true) ∧
    (∃ (w : WinSet), w.flEn = true ∧ w.fhEn = true) ∧
    (∃ (w : WinSet), w.wlEn = true ∧ w.whEn = true) ∧
    (∃ (w : WinSet), w.wlEn = true ∧ w.fhEn = true) ∧
    (∃ (w : WinSet), w.whEn = true ∧ w.fhEn = true) ∧
    (∃ (i : Instr) (s t : State) (x : Nat), exec i s = .next t ∧ s.rd SNS_WSTAT.order_err x = 1 ∧ t.rd SNS_WSTAT.order_err x = 0) :=
  ⟨⟨run, 3, false, 0, by decide +kernel⟩,
   ⟨(run.setWin 6 { commitDue := true }), 3, false, by decide +kernel⟩,
   ⟨(((((run.setWin 6 { commitDue := true, act := some armed }).wr SNS_WTHHI.fh 6 100).wr SNS_WCTL.fh_en 6 1).wr SNS_WCTL.wh_en 6 1).wr SNS_WTHHI.wh 6 200),
     3, false, by decide +kernel⟩,
   ⟨armed, by decide +kernel⟩,
   ⟨armed, by decide +kernel⟩,
   ⟨armed, by decide +kernel⟩,
   ⟨armed, by decide +kernel⟩,
   ⟨armed, by decide +kernel⟩,
   ⟨armed, by decide +kernel⟩,
   ⟨(.windowCommitApply 303 true), ((run.setWin 607 { run.win 607 with commitDue := true }).wr SNS_WSTAT.order_err 607 1), _, 607,
     by exact ⟨rfl, by decide +kernel, by decide +kernel⟩⟩⟩

theorem witness_ChannelSettings :
    (∃ (s : State) (_c : Fin 304), s.settUp = true) ∧
    (∃ (s : State) (c : Fin 304) (v : BitVec 32), s.settUp = true ∧ s.bit SNS_CHCFG.lock c = false ∧ s.fixedChan c = false ∧ SNS_CHCFG.enable.of
      v.toNat = 1 ∧ (s.active (2 * c.val)).arm = false ∧ (s.active (2 * c.val + 1)).arm = false ∧ 64 ≤ c.val) ∧
    (∃ (s : State) (c : Fin 304) (v : BitVec 32), s.settUp = true ∧ s.bit SNS_CHCFG.lock c = false ∧ s.fixedChan c = false ∧ SNS_CHCFG.enable.of
      v.toNat = 1 ∧ (s.active (2 * c.val)).arm = false ∧ (s.active (2 * c.val + 1)).arm = false ∧ c.val < 64 ∧ SNS_CHCFG.range.of v.toNat ≤ 2) ∧
    (∃ (s : State) (c : Fin 304) (v : BitVec 32), s.settUp = true ∧ s.bit SNS_CHCFG.lock c = false ∧ s.fixedChan c = false ∧ SNS_CHCFG.enable.of
      v.toNat = 1 ∧ (s.active (2 * c.val)).arm = false ∧ (s.active (2 * c.val + 1)).arm = false ∧ s.bit SNS_CHCFG.enable c = false) ∧
    (∃ (s : State) (c : Fin 304) (v : BitVec 32), s.settUp = true ∧ s.bit SNS_CHCFG.lock c = false ∧ s.fixedChan c = false ∧ SNS_CHCFG.enable.of
      v.toNat = 0 ∧ s.bit SNS_CHCFG.enable c = true ∧ s.chanBound c = false ∧ (s.active (2 * c.val)).arm = false ∧ (s.active (2 * c.val +
      1)).arm = false ∧ c.val < 256 ∧ chanDomain c ≠ 47 ∧ chanDomain c ≠ 53 ∧ (∀ d ∈ domainChannels (chanDomain c), d ≠ c.val → s.bit
      SNS_CHCFG.enable d = false)) ∧
    (∃ (s : State) (c : Fin 304) (_v : BitVec 32), s.settUp = true ∧ s.bit SNS_CHCFG.lock c = false ∧ s.fixedChan c = true) ∧
    (∃ (s : State) (l : List (Option (BitVec 16))) (k : Nat), s.alive = true ∧ l.length = 8 ∧ k < 8 ∧ l.getD k none = none) :=
  ⟨⟨run, 0, by decide +kernel⟩,
   ⟨run, 300, 1, by decide +kernel⟩,
   ⟨run, 3, 0x21, by decide +kernel⟩,
   ⟨run, 3, 0x21, by decide +kernel⟩,
   ⟨{ run.wr SNS_CHCFG.enable 3 1 with sense := { run.sense with channels := [(3, { calTemp := some 0 })] } }, 3, 0, by decide +kernel⟩,
   ⟨run, 58, 0x21, by decide +kernel⟩,
   ⟨run, [none, some 5, none, some 0xFF80, some 1, some 2, some 3, none], 7, by decide +kernel⟩⟩

theorem witness_MeterCommands :
    (∃ (s : State) (m : Fin 64), s.settUp = true ∧ s.bit SNS_MTR_CFG.lock m = false) ∧
    (∃ (s : State) (m : Fin 64), s.settUp = true ∧ s.bit SNS_MTR_CFG.enable m = true ∧ s.tick % 2 ^ s.rd SNS_MTR_CFG.avg_k m = 0 ∧ (s.meter
      m).count ≠ 0) ∧
    (∃ (s : State) (_m : Fin 64), s.settUp = true) ∧
    (∃ (s : State), s.alive = true ∧ 2 ≤ s.part.stage ∧ s.burrow.halt = false ∧ s.burrow.persistAt + 60000000 ≤ s.bootUs) :=
  ⟨⟨((((run.wr SNS_MTR_EF.ef 5 77).wr SNS_MTR_ER.er 5 9).wr SNS_MTR_STAT.ef_sat 5 1).setMeter 5 { fracF := 7 }), 5, by decide +kernel⟩,
   ⟨((run.wr SNS_MTR_CFG.enable 5 1).setMeter 5 { sum := -1234567890123456789012345, count := 20 }), 5, by decide +kernel⟩,
   ⟨(run.wr SNS_MTR_EF.ef 5 0x123456789A), 5, by decide +kernel⟩,
   ⟨{ (({ run with burrow := { run.burrow with opSeconds := 60 } }.wr SNS_MTR_CFG.persist 5 1).wr SNS_MTR_EF.ef 5 99) with bootUs := 60000000 },
     by decide +kernel⟩⟩

theorem witness_Recalibration :
    (∃ (s : State), s.settUp = true) ∧
    (∃ (s : State), s.settUp = true ∧ s.sense.calStart + s.rd SNS_CALCTL.period_s 0 * 1000000 ≤ s.bootUs) ∧
    (∃ (s : State) (c : Fin 256) (a b : Int), s.settUp = true ∧ s.dieTemp c = some a ∧ (s.chan c).calTemp = some b ∧ (s.rd SNS_CALCTL.temp_delta
      0 : Int) * 128 ≤ max (a - b) (b - a) ∧ (s.chan c).phase = .idle ∧ c.val ∉ s.sense.waiting ∧ chanDomain c ∉ s.sense.off ∧ s.rd (spareFld c)
      0 ≠ 0) ∧
    (∃ (s : State) (c : Fin 256) (sub : Fin 20), s.settUp = true ∧ (s.chan c).phase = .paired ∧ (s.chan c).calAp + calSpan c ≤ 20 * s.bootUs +
      sub) ∧
    (∃ (s : State) (c : Fin 256) (_sub : Fin 20), s.settUp = true ∧ (s.chan c).phase = .standIn) ∧
    (∃ (s : State) (c : Fin 256) (sub : Fin 20), s.settUp = true ∧ (s.chan c).phase = .returning ∧ (s.chan c).calAp + calSpan c ≤ 20 * s.bootUs
      + sub ∧ (s.chan c).attempt < 2) ∧
    (∃ (s : State) (c : Fin 256) (sub : Fin 20), s.settUp = true ∧ (s.chan c).phase = .returning ∧ (s.chan c).calAp + calSpan c ≤ 20 * s.bootUs
      + sub ∧ 2 ≤ (s.chan c).attempt) ∧
    (∃ (_s : State) (c : Nat), 256 ≤ c) :=
  ⟨⟨run, by decide +kernel⟩,
   ⟨{ run with bootUs := 4000000000 }, by decide +kernel⟩,
   ⟨(({ run with sense := { run.sense with channels := [(3, { calTemp := some 0 })] } }.wr SNS_DIETEMP.valid 0 1).wr SNS_DIETEMP.temp 0 0x0F00), 3,
     3840, 0, by decide +kernel⟩,
   ⟨{ run with sense := { run.sense with channels := [(3, { phase := .paired, calAp := 19999930 })] } }, 3, 0, by decide +kernel⟩,
   ⟨{ run with sense := { run.sense with channels := [(3, { phase := .standIn, coef := some 5 })] } }, 3, 4, by decide +kernel⟩,
   ⟨({ run with sense := { run.sense with channels := [(3, { phase := .returning, attempt := 1, coef := some 5, coefWas := some 4 })] } }.wr SNS_CHSTAT.stand_in 3 1),
     3, 0, by decide +kernel⟩,
   ⟨({ run with sense := { run.sense with channels := [(200, { phase := .returning, attempt := 2 })] } }.wr SNS_CHSTAT.stand_in 200 1), 200, 0,
     by decide +kernel⟩,
   ⟨run, 256, by decide +kernel⟩⟩

theorem witness_SampleDelivery :
    (∃ (s : State) (sub : Fin 20) (words : List (Fin 304 × SampleRead)) (c : Fin 304) (r : SampleRead), s.settUp = true ∧ (words.map
      (·.1)).Nodup ∧ (c, r) ∈ words ∧ s.bit SNS_CHCFG.enable c = true ∧ (c.val < 64 ∨ c.val < 256 ∧ sub.val = 0 ∨ sub.val = 0 ∧ s.tick % 1000 =
      0) ∧ (r ≠ .absent ∨ 256 ≤ c.val ∧ c.val < 288) ∧ (c.val < 256 ∨ 288 ≤ c.val) ∧ s.bit SNS_CHSTAT.absent c = false ∧ s.bit SNS_CHSTAT.fault
      c = false) ∧
    (∃ (s : State) (sub : Fin 20) (words : List (Fin 304 × SampleRead)) (c : Fin 304) (r : SampleRead), s.settUp = true ∧ (words.map
      (·.1)).Nodup ∧ (c, r) ∈ words ∧ s.bit SNS_CHCFG.enable c = true ∧ (c.val < 64 ∨ c.val < 256 ∧ sub.val = 0 ∨ sub.val = 0 ∧ s.tick % 1000 =
      0) ∧ (r ≠ .absent ∨ 256 ≤ c.val ∧ c.val < 288) ∧ (c.val < 256 ∨ 288 ≤ c.val) ∧ s.bit SNS_CHSTAT.absent c = false ∧ s.bit SNS_CHSTAT.fault
      c = true ∧ c.val < 64) ∧
    (∃ (s : State) (sub : Fin 20) (words : List (Fin 304 × SampleRead)) (c : Fin 304) (r : SampleRead), s.settUp = true ∧ (words.map
      (·.1)).Nodup ∧ (c, r) ∈ words ∧ s.bit SNS_CHCFG.enable c = true ∧ (c.val < 64 ∨ c.val < 256 ∧ sub.val = 0 ∨ sub.val = 0 ∧ s.tick % 1000 =
      0) ∧ (r ≠ .absent ∨ 256 ≤ c.val ∧ c.val < 288) ∧ (c.val < 256 ∨ 288 ≤ c.val) ∧ s.bit SNS_CHSTAT.absent c = false ∧ s.bit SNS_CHSTAT.fault
      c = true ∧ 64 ≤ c.val ∧ c.val < 256) ∧
    (∃ (s : State) (sub : Fin 20) (words : List (Fin 304 × SampleRead)) (c : Fin 304) (r : SampleRead), s.settUp = true ∧ (words.map
      (·.1)).Nodup ∧ (c, r) ∈ words ∧ s.bit SNS_CHCFG.enable c = true ∧ (c.val < 64 ∨ c.val < 256 ∧ sub.val = 0 ∨ sub.val = 0 ∧ s.tick % 1000 =
      0) ∧ (r ≠ .absent ∨ 256 ≤ c.val ∧ c.val < 288) ∧ 256 ≤ c.val ∧ c.val < 288 ∧ r = .absent ∧ s.criticalChan c = false) ∧
    (∃ (w : BitVec 16), w.toNat ≤ 32767) :=
  ⟨⟨(run.wr SNS_CHCFG.enable 3 1), 19, [(3, .code 0x1234)], 3, (.code 0x1234), by decide +kernel⟩,
   ⟨(((run.wr SNS_CHCFG.enable 3 1).wr SNS_CHSTAT.fault 3 1).wr SNS_CHCFG.enable 4 1), 0, [(3, .code 0x1234), (4, .below)], 3, (.code 0x1234),
     by decide +kernel⟩,
   ⟨(((run.wr SNS_CHCFG.enable 64 1).wr SNS_CHSTAT.fault 64 1).wr SNS_CHCFG.enable 65 1), 0, [(64, .above), (65, .code 0x1234)], 64, .above,
     by decide +kernel⟩,
   ⟨((run.wr SNS_CHCFG.enable 270 1).wr SNS_CHCFG.enable 303 1), 0, [(303, .code 0x1234), (270, .absent)], 270, .absent, by decide +kernel⟩,
   ⟨0x1234, by decide +kernel⟩⟩

theorem witness_ChannelFaults :
    (∃ (s : State) (c : Fin 304) (_short : Bool) (_bad : Fin 3), s.settUp = true ∧ s.bit SNS_CHCFG.enable c = true ∧ s.bit SNS_CHSTAT.fault c =
      false ∧ s.bit SNS_CHSTAT.absent c = false ∧ (256 ≤ c.val ∨ s.rd (spareFld c) 0 = 0)) ∧
    (∃ (s : State) (c : Fin 304) (_short : Bool) (_bad : Fin 3), s.settUp = true ∧ s.bit SNS_CHCFG.enable c = true ∧ s.bit SNS_CHSTAT.fault c =
      false ∧ s.bit SNS_CHSTAT.absent c = false ∧ c.val < 256 ∧ s.rd (spareFld c) 0 ≠ 0) ∧
    (∃ (s : State) (c : Fin 304), s.settUp = true ∧ s.bit SNS_CHSTAT.fault c = true) :=
  ⟨⟨((run.wr SNS_CHCFG.enable 3 1).wr SNS_CALSTAT.quick_spares 0 0), 3, false, 1, by decide +kernel⟩,
   ⟨(run.wr SNS_CHCFG.enable 3 1), 3, false, 0, by decide +kernel⟩,
   ⟨((run.wr SNS_CHCFG.enable 3 1).wr SNS_CHSTAT.fault 3 1), 3, by decide +kernel⟩⟩

theorem witness_EngineArithmetic :
    ∀ op ∈ ([.add 1 1 2, .add 1 2 3, .sub 3 1 2, .addw 1 1 1, .subw 6 3 1, .mul 6 1 2, .imul 6 4 5, .div 6 1 0, .div 6 2 5, .min 6 3 1, .max 6 3
      1, .abs 6 3, .neg 6 3, .lim 1 3 2, .flt 2 1 5, .mac 1 1 2, .and 0 1 2, .or 6 1 2, .xor 15 1 2, .shl 6 4 5, .shr 6 3 5, .sar 6 3 5, .addi 6
      1 0x3FFFF, .andi 6 1 0x3FFFF, .ori 6 1 0, .xori 6 1 0x3FFFF, .shli 6 1 31, .shri 6 3 31, .sari 6 3 0, .ldh 6 0xFFFE] : List EngOp), Ready
      (engAt op { regs }) 5 op := by
  unfold Ready; decide

theorem witness_EngineLoads :
    (∃ (s : State) (n : Fin 1280), Ready s n .nop) ∧
    (∃ (s : State) (n : Fin 1280) (rd ra : BitVec 4) (off : BitVec 18) (a : Nat), accessAddr ((s.engine n).reg ra) off 0x800 = some a ∧
      s.shFound (privKey n a) = .good ∧ Ready s n (.ldp rd ra off)) ∧
    (∃ (s : State) (n : Fin 1280) (rd ra : BitVec 4) (off : BitVec 18) (a : Nat), accessAddr ((s.engine n).reg ra) off 0x800 = some a ∧
      s.shFound (privKey n a) = .corrected ∧ Ready s n (.ldp rd ra off)) ∧
    (∃ (s : State) (n : Fin 1280) (rd ra : BitVec 4) (off : BitVec 18) (a : Nat), accessAddr ((s.engine n).reg ra) off 0x10000 = some a ∧
      (s.engine n).common = true ∧ s.awaits n = false ∧ Tab.get 0 s.setts.sharedBad (commonKey n a / 8) = 0 ∧ Ready s n (.ldc rd ra off)) ∧
    (∃ (s : State) (n : Fin 1280) (rd : BitVec 4) (addr : BitVec 10), (s.engine n).codeEnd ≤ addr.toNat ∧ addr.toNat < (s.engine n).length ∧
      (s.engine n).badWords.contains addr.toNat = false ∧ Ready s n (.ldk rd addr)) ∧
    (∃ (s : State) (n : Fin 1280) (rd slot sel : BitVec 4), sel.toNat < selCount ((s.engine n).bind slot.toNat).1 ∧ Ready s n (.rd rd slot sel)) ∧
    (∃ (s : State) (n : Fin 1280) (rd sel : BitVec 4) (v : Word), s.statusItem n (s.engine n) sel.toNat = some v ∧ Ready s n (.rdst rd sel)) ∧
    (∃ (s : State) (n : Fin 1280) (rd : BitVec 4) (tm : BitVec 2), Ready s n (.trd rd tm)) :=
  ⟨⟨(engAt .nop { regs }), 5, by unfold Ready; decide⟩,
   ⟨(engAt (.ldp 6 4 0x6FC) { regs }), 5, 6, 4, 0x6FC, 0x7FC, by unfold Ready; decide⟩,
   ⟨(withSetts (engAt (.ldp 6 4 4) { regs }) fun x => { x with sharedBad := Tab.set 0 x.sharedBad (privKey 5 0x104 / 8) 0x30 }), 5, 6, 4, 4, 0x104,
     by unfold Ready; decide⟩,
   ⟨(engAt (.ldc 6 4 0xFEFC) { regs }), 5, 6, 4, 0xFEFC, 0xFFFC, by unfold Ready; decide⟩,
   ⟨(engAt (.ldk 6 19) { regs }), 5, 6, 19, by unfold Ready; decide⟩,
   ⟨(engAt (.rd 6 2 1) { regs, binds := [(2, (1, 5))], snap := [(33, 77)] }), 5, 6, 2, 1, by unfold Ready; decide⟩,
   ⟨(engAt (.rdst 6 0) { regs }), 5, 6, 0, _, by exact ⟨rfl, by unfold Ready; decide⟩⟩,
   ⟨(engAt (.trd 6 3) { regs }), 5, 6, 3, by unfold Ready; decide⟩⟩

theorem witness_EngineStores :
    (∃ (s : State) (n : Fin 1280) (rd ra : BitVec 4) (off : BitVec 18) (a : Nat), accessAddr ((s.engine n).reg ra) off 0x800 = some a ∧ Ready s
      n (.stp rd ra off)) ∧
    (∃ (s : State) (n : Fin 1280) (rd ra : BitVec 4) (off : BitVec 18) (a : Nat), accessAddr ((s.engine n).reg ra) off 0x10000 = some a ∧
      (s.engine n).common = true ∧ (s.engine n).stores.length < 8 ∧ Ready s n (.stc rd ra off)) ∧
    (∃ (s : State) (n : Fin 1280) (ra slot : BitVec 4) (v : Word) (q : Bool), outputValue ((s.engine n).bind slot.toNat).1 ((s.engine n).reg ra)
      = some (v, q) ∧ (s.engine n).queue.length < 32 ∧ Ready s n (.wr slot ra)) ∧
    (∃ (s : State) (n : Fin 1280) (ra slot : BitVec 4) (k : Nat), k = privKey n ((s.engine n).reg ra).toNat ∧ ((s.engine n).bind slot.toNat).1 =
      7 ∧ ((s.engine n).reg ra).toNat % 4 = 0 ∧ ((s.engine n).reg ra).toNat ≤ 0x7F0 ∧ (∀ j < 4, s.shFound (k + j) = .good) ∧ ((s.shRead
      k).extractLsb' 24 8).toNat ∈ [1, 2, 3, 4, 5] ∧ (s.engine n).queue.length < 32 ∧ Ready s n (.wpr slot ra)) ∧
    (∃ (s : State) (n : Fin 1280) (ra rb : BitVec 4) (code : BitVec 16), 1 ≤ code.toNat / 256 ∧ code.toNat / 256 ≤ 12 ∧ (s.engine
      n).queue.length < 32 ∧ Ready s n (.evt code ra rb)) ∧
    (∃ (s : State) (n : Fin 1280) (ra : BitVec 4) (tag : BitVec 8), (s.engine n).queue.length < 32 ∧ Ready s n (.mbx tag ra)) ∧
    (∃ (s : State) (n : Fin 1280) (ra : BitVec 4) (tm : BitVec 2) (_imm : BitVec 18), Ready s n (.tset tm ra)) ∧
    (∃ (s : State) (n : Fin 1280) (tm : BitVec 2) (imm : BitVec 18), Ready s n (.tseti tm imm)) :=
  ⟨⟨(engAt (.stp 1 4 0x6FC) { regs }), 5, 1, 4, 0x6FC, 0x7FC, by unfold Ready; decide⟩,
   ⟨(engAt (.stc 1 4 4) { regs, stores := List.replicate 7 (0, 0) }), 5, 1, 4, 4, 0x104, by unfold Ready; decide⟩,
   ⟨(engAt (.wr 2 0) { regs, binds := [(2, (8, 3))] }), 5, 0, 2, 0, false, by unfold Ready; decide⟩,
   ⟨((engAt (.wpr 2 4) { regs, binds := [(2, (7, 3))] }).setSh (privKey 5 0x100) 0x02000000), 5, 4, 2, _, by exact ⟨rfl, by unfold Ready; decide⟩⟩,
   ⟨(engAt (.evt 0x0CFF 1 4) { regs }), 5, 1, 4, 0x0CFF, by unfold Ready; decide⟩,
   ⟨(engAt (.mbx 9 1) { regs, queue := List.replicate 31 (.mail 0 0) }), 5, 1, 9, by unfold Ready; decide⟩,
   ⟨(engAt (.tset 1 1) { regs }), 5, 1, 1, 0, by unfold Ready; decide⟩,
   ⟨(engAt (.tseti 3 0x3FFFF) { regs }), 5, 3, 0x3FFFF, by unfold Ready; decide⟩⟩

theorem witness_EngineJumps :
    (∃ (s : State) (n : Fin 1280) (target : BitVec 10), Ready s n (.jal target) ∧ 8 ≤ target.toNat ∧ target.toNat < (s.engine n).codeEnd) ∧
    (∃ (s : State) (n : Fin 1280) (target : BitVec 10), Ready s n (.jmp target) ∧ 8 ≤ target.toNat ∧ target.toNat < (s.engine n).codeEnd) ∧
    (∃ (s : State) (n : Fin 1280) (ra : BitVec 4), Ready s n (.jr ra) ∧ 8 ≤ ((s.engine n).reg ra).toNat ∧ ((s.engine n).reg ra).toNat <
      (s.engine n).codeEnd) ∧
    (∃ (s : State) (n : Fin 1280) (ra rb : BitVec 4) (target : BitVec 10), Ready s n (.beq ra rb target) ∧ (s.engine n).reg ra = (s.engine
      n).reg rb ∧ 8 ≤ target.toNat ∧ target.toNat < (s.engine n).codeEnd) ∧
    (∃ (s : State) (n : Fin 1280) (ra rb : BitVec 4) (target : BitVec 10), Ready s n (.beq ra rb target) ∧ (s.engine n).reg ra ≠ (s.engine
      n).reg rb ∧ 8 ≤ target.toNat ∧ target.toNat < (s.engine n).codeEnd) ∧
    (∃ (s : State) (n : Fin 1280) (ra rb : BitVec 4) (target : BitVec 10), Ready s n (.bne ra rb target) ∧ (s.engine n).reg ra ≠ (s.engine
      n).reg rb ∧ 8 ≤ target.toNat ∧ target.toNat < (s.engine n).codeEnd) ∧
    (∃ (s : State) (n : Fin 1280) (ra rb : BitVec 4) (target : BitVec 10), Ready s n (.bne ra rb target) ∧ (s.engine n).reg ra = (s.engine
      n).reg rb ∧ 8 ≤ target.toNat ∧ target.toNat < (s.engine n).codeEnd) ∧
    (∃ (s : State) (n : Fin 1280) (ra rb : BitVec 4) (target : BitVec 10), Ready s n (.blt ra rb target) ∧ ((s.engine n).reg ra).toInt <
      ((s.engine n).reg rb).toInt ∧ 8 ≤ target.toNat ∧ target.toNat < (s.engine n).codeEnd) ∧
    (∃ (s : State) (n : Fin 1280) (ra rb : BitVec 4) (target : BitVec 10), Ready s n (.blt ra rb target) ∧ ((s.engine n).reg rb).toInt ≤
      ((s.engine n).reg ra).toInt ∧ 8 ≤ target.toNat ∧ target.toNat < (s.engine n).codeEnd) ∧
    (∃ (s : State) (n : Fin 1280) (ra rb : BitVec 4) (target : BitVec 10), Ready s n (.bge ra rb target) ∧ ((s.engine n).reg rb).toInt ≤
      ((s.engine n).reg ra).toInt ∧ 8 ≤ target.toNat ∧ target.toNat < (s.engine n).codeEnd) ∧
    (∃ (s : State) (n : Fin 1280) (ra rb : BitVec 4) (target : BitVec 10), Ready s n (.bge ra rb target) ∧ ((s.engine n).reg ra).toInt <
      ((s.engine n).reg rb).toInt ∧ 8 ≤ target.toNat ∧ target.toNat < (s.engine n).codeEnd) ∧
    (∃ (s : State) (n : Fin 1280) (tm : BitVec 2) (target : BitVec 10), Ready s n (.btx tm target) ∧ (s.engine n).timer tm = 0 ∧ 8 ≤
      target.toNat ∧ target.toNat < (s.engine n).codeEnd) ∧
    (∃ (s : State) (n : Fin 1280) (tm : BitVec 2) (target : BitVec 10), Ready s n (.btx tm target) ∧ (s.engine n).timer tm ≠ 0 ∧ 8 ≤
      target.toNat ∧ target.toNat < (s.engine n).codeEnd) ∧
    (∃ (s : State) (n : Fin 1280) (bit : BitVec 4) (target : BitVec 10), Ready s n (.bst bit target) ∧ bit.toNat ≤ 6 ∧ (s.engine n).status
      bit.toNat = true ∧ 8 ≤ target.toNat ∧ target.toNat < (s.engine n).codeEnd) ∧
    (∃ (s : State) (n : Fin 1280) (bit : BitVec 4) (target : BitVec 10), Ready s n (.bst bit target) ∧ bit.toNat ≤ 6 ∧ (s.engine n).status
      bit.toNat = false ∧ 8 ≤ target.toNat ∧ target.toNat < (s.engine n).codeEnd) :=
  ⟨⟨(engAt (.jal 15) { regs }), 5, 15, by unfold Ready; decide⟩,
   ⟨(engAt (.jmp 8) { regs }), 5, 8, by unfold Ready; decide⟩,
   ⟨(engAt (.jr 5) { regs }), 5, 5, by unfold Ready; decide⟩,
   ⟨(engAt (.beq 1 1 15) { regs }), 5, 1, 1, 15, by unfold Ready; decide⟩,
   ⟨(engAt (.beq 1 2 15) { regs }), 5, 1, 2, 15, by unfold Ready; decide⟩,
   ⟨(engAt (.bne 1 2 15) { regs }), 5, 1, 2, 15, by unfold Ready; decide⟩,
   ⟨(engAt (.bne 1 1 15) { regs }), 5, 1, 1, 15, by unfold Ready; decide⟩,
   ⟨(engAt (.blt 3 1 8) { regs }), 5, 3, 1, 8, by unfold Ready; decide⟩,
   ⟨(engAt (.blt 1 3 8) { regs }), 5, 1, 3, 8, by unfold Ready; decide⟩,
   ⟨(engAt (.bge 1 3 8) { regs }), 5, 1, 3, 8, by unfold Ready; decide⟩,
   ⟨(engAt (.bge 3 1 8) { regs }), 5, 3, 1, 8, by unfold Ready; decide⟩,
   ⟨(engAt (.btx 0 8) { regs }), 5, 0, 8, by unfold Ready; decide⟩,
   ⟨(engAt (.btx 1 8) { regs }), 5, 1, 8, by unfold Ready; decide⟩,
   ⟨(engAt (.bst 2 8) { regs := { regs with q := true, z := true, n := true } }), 5, 2, 8, by unfold Ready; decide⟩,
   ⟨(engAt (.bst 6 8) { regs := { regs with q := true, z := true, n := true } }), 5, 6, 8, by unfold Ready; decide⟩⟩

theorem witness_SettTick :
    (∃ (s : State) (k : Fin 40) (half : Bool) (n : Nat), s.settUp = true ∧ s.boundaryAt k (2 * s.tick + half.toNat) = true ∧ Tab.get 0
      s.setts.lastHalf k ≠ 2 * s.tick + half.toNat + 1 ∧ (s.engine n).cmd = 0 ∧ (∀ m, m / 32 = k.val → s.progRole m = .other)) ∧
    (∃ (s : State) (n : Fin 1280) (half : Bool), s.settUp = true ∧ (s.engine n).state = .running ∧ (s.engine n).inTick = true ∧ (s.engine
      n).tickAt + s.rd SETT_CTL.period (n / 32) ≤ 2 * s.tick + half.toNat ∧ (s.engine n).consec < 2) ∧
    (∃ (s : State) (n : Fin 1280) (half : Bool), s.settUp = true ∧ (s.engine n).state = .running ∧ (s.engine n).inTick = true ∧ (s.engine
      n).tickAt + s.rd SETT_CTL.period (n / 32) ≤ 2 * s.tick + half.toNat ∧ (s.engine n).consec = 2) ∧
    (∃ (s : State) (n : Fin 1280) (k : Nat) (v : Word), Ready s n .yld ∧ (s.engine n).queue = [] ∧ (s.engine n).stores = [(k, v)] ∧ (∀ x ∈
      s.setts.commits, x.key = k → x.cycle < (s.engine n).cycle)) ∧
    (∃ (s : State) (n : Fin 1280) (index : Nat) (v : Word), Ready s n .yld ∧ (s.engine n).queue = [.write 8 index v] ∧ (s.engine n).stores = []
      ∧ (s.engine n).badRegs.contains 21 = false) ∧
    (∃ (s : State) (n : Fin 1280) (tag : Nat) (v : Word), Ready s n .yld ∧ (s.engine n).queue = [.mail tag v] ∧ (s.engine n).stores = [] ∧
      (s.engine n).badRegs.contains 21 = false ∧ s.setts.mailbox.length < 256 ∧ (∀ x ∈ s.setts.mailbox, x.cycle < (s.engine n).cycle)) :=
  ⟨⟨(run.setEngine 5 { state := .running, obj := 5, imem := image }), 0, false, 5,
     by exact ⟨by decide +kernel, by decide +kernel, by decide +kernel, by decide +kernel, fun _ _ => rfl⟩⟩,
   ⟨(run.setEngine 5 { state := .running, inTick := true, tickAt := 1999998, consec := 1, start := regs }), 5, false, by decide +kernel⟩,
   ⟨(run.setEngine 5 { state := .running, inTick := true, tickAt := 1999998, consec := 2, start := regs }), 5, false, by decide +kernel⟩,
   ⟨(withSetts (engAt .yld { regs, tickAt := 7, stores := [(5, 3)] }) fun x => { x with commits := [{ key := 5, cycle := 7, engine := 3, value := 1 }] }),
     5, 5, 3, by unfold Ready; decide⟩,
   ⟨(engAt .yld { regs, queue := [.write 8 3 1] }), 5, 3, 1, by unfold Ready; decide⟩,
   ⟨(engAt .yld { regs, queue := [.mail 8 9] }), 5, 8, 9, by unfold Ready; decide⟩⟩

theorem witness_EngineCommands :
    (∃ (s : State) (n : Fin 1280) (_obj : BitVec 11) (_slot : Fin 16) (_a : BitVec 10) (_v : BitVec 32), s.settOn (n / 32) = false) ∧
    (∃ (s : State) (n : Fin 1280) (obj : BitVec 11), s.settUp = true ∧ s.settOn (n / 32) = true ∧ obj.toNat < 1280) ∧
    (∃ (s : State) (n : Fin 1280) (_a : BitVec 10) (_v : BitVec 32), s.settUp = true ∧ (s.engine n).state = .idle ∧ s.bit SETT_CTL.enable (n /
      32) = true) ∧
    (∃ (s : State) (n : Fin 1280) (_slot : Fin 16) (v : BitVec 32), s.settUp = true ∧ (s.engine n).state = .idle ∧ s.settOn (n / 32) = true ∧
      SETT_BIND.index.of v.toNat < kindSize (SETT_BIND.kind.of v.toNat)) ∧
    (∃ (s : State) (k : Fin 40) (off : BitVec 15) (_v : BitVec 32), s.settUp = true ∧ s.bit SETT_CTL.enable k = true ∧ off.toNat < 16384 ∧ 480 ≤
      off.toNat % 512) ∧
    (∃ (s : State) (k : Fin 40) (off : BitVec 15) (_v : BitVec 32), s.settUp = true ∧ s.bit SETT_CTL.enable k = true ∧ (16384 ≤ off.toNat ∨
      off.toNat % 512 < 480)) ∧
    (∃ (s : State), s.settUp = true) :=
  ⟨⟨(run.wr SETT_CTL.enable 0 0), 5, 1000, 3, 9, 7, by decide +kernel⟩,
   ⟨(run.wr SETT_CTL.enable 0 1), 5, 1000, by decide +kernel⟩,
   ⟨(run.wr SETT_CTL.enable 0 1), 5, 1023, 99, by decide +kernel⟩,
   ⟨(run.wr SETT_CTL.enable 0 1), 5, 15, 0x0100012F, by decide +kernel⟩,
   ⟨(run.wr SETT_CTL.enable 3 1), 3, 500, 7, by decide +kernel⟩,
   ⟨(run.wr SETT_CTL.enable 39 1), 39, 16384, 7, by decide +kernel⟩,
   ⟨(withSetts run fun x => { x with mailbox := [{ obj := 3, engine := 5, tag := 1, value := 9, cycle := 4 }] }), by decide +kernel⟩⟩

theorem witness_MigrationAndEnable :
    (∃ (s : State) (src dst : BitVec 11), s.settUp = true ∧ src.toNat < 1280 ∧ dst.toNat < 1280 ∧ s.bit SETT_MIGSTAT.busy 0 = false ∧
      s.migRefusal src.toNat dst.toNat = none) ∧
    (∃ (s : State) (half : Bool), s.settUp = true ∧ s.bit SETT_MIGSTAT.busy 0 = true ∧ s.setts.mig.copied = false ∧ s.migBoundary (2 * s.tick +
      half.toNat) = true ∧ s.setts.mig.src ≠ s.setts.mig.dst ∧ (s.engine s.setts.mig.src).inTick = false) ∧
    (∃ (s : State) (half : Bool), s.settUp = true ∧ s.bit SETT_MIGSTAT.busy 0 = true ∧ s.setts.mig.copied = true ∧ s.migBoundary (2 * s.tick +
      half.toNat) = true ∧ s.setts.mig.src ≠ s.setts.mig.dst ∧ 2 * s.tick + half.toNat = s.setts.mig.half + s.rd SETT_CTL.period
      (s.setts.mig.src / 32)) ∧
    (∃ (s : State) (_k : Fin 40), s.settUp = true) ∧
    (∃ (s : State) (k : Fin 40), s.settUp = true ∧ (∃ n ∈ settEngines k, (s.engine n).state ≠ .idle ∧ s.ownsOnRail (s.engine n) = true)) ∧
    (∃ (s : State) (k : Fin 40), s.settUp = true ∧ (∀ n ∈ settEngines k, (s.engine n).state = .idle) ∧ (∀ n ∈ settEngines k, (s.engine n).state
      ≠ .idle → s.ownsOnRail (s.engine n) = false) ∧ s.migrates k = false) ∧
    (∃ (s : State) (k : Fin 40) (v : BitVec 8), s.settUp = true ∧ 1 ≤ v.toNat ∧ v.toNat ≤ 200 ∧ (∀ n ∈ settEngines k, (s.engine n).state = .idle
      ∨ (s.engine n).state = .stopped)) :=
  ⟨⟨((run.setEngine 5 { state := .running, obj := 5, imem := image }).setEngine 70 { imem := image }), 5, 70, by decide +kernel⟩,
   ⟨(((withSetts run fun x => { x with mig := { src := 5, dst := 70 } }).setEngine 5 { state := .running, obj := 5, imem := image, regs, binds := [(2, (1, 5))] }).setEngine 70 { imem := image } |>.wr SETT_MIGSTAT.busy 0 1 |>.setSh (privKey 5 0) 88),
     false, by decide +kernel⟩,
   ⟨(((withSetts run fun x => { x with mig := { src := 5, dst := 70, copied := true, half := 1999998 } }).setEngine 5 { state := .migrating, obj := 5, imem := image, regs, binds := [(2, (1, 5))] }).setEngine 70 { state := .migrating, obj := 5, imem := image, regs, binds := [(2, (1, 5))] } |>.wr SETT_MIGSTAT.busy 0 1),
     false, by decide +kernel⟩,
   ⟨run, 39, by decide +kernel⟩,
   ⟨(({ run with zither := { run.zither with released := false } }.setEngine 5 { state := .running, obj := 5, imem := image, binds := [(0, (8, 0))] }).setZent 0 { on := true } |>.wr ZIT_EW0.valid 0 1 |>.wr ZIT_GSTAT.state 0 2),
     0, by decide +kernel⟩,
   ⟨run, 7, by decide +kernel⟩,
   ⟨(run.setEngine 5 { state := .stopped }), 0, 200, by decide +kernel⟩⟩

theorem witness_ReflexRules :
    (∃ (s : State) (r : Fin 512) (v : BitVec 32), s.settUp = true ∧ s.bit RFX_ACT.lock r = false ∧ reservedSource (RFX_TERM01.t0_src.of v.toNat)
      = false ∧ reservedSource (RFX_TERM01.t1_src.of v.toNat) = false) ∧
    (∃ (s : State) (r : Fin 512), s.settUp = true ∧ s.ruleMayHold r = true ∧ r.val ∉ s.setts.trueRules ∧ s.bit RFX_ACT.latch r = true) ∧
    (∃ (s : State) (r : Fin 512), s.settUp = true ∧ s.ruleMayFail r = true ∧ r.val ∈ s.setts.trueRules ∧ s.bit RFX_STAT.latched r = false) ∧
    (∃ (s : State) (r : Fin 512), s.settUp = true ∧ s.ruleMayFail r = true ∧ r.val ∈ s.setts.trueRules ∧ s.bit RFX_STAT.latched r = true) ∧
    (∃ (s : State) (r : Fin 512), s.settUp = true ∧ s.bit RFX_STAT.latched r = true ∧ s.stillTrue r = false) ∧
    (∃ (s : State) (r : Fin 512), s.bit RFX_STAT.latched r = true ∧ s.stillTrue r = true ∧ s.bit RFX_ACT.latch r = true) ∧
    (∃ (s : State) (r : Fin 512), s.settUp = true ∧ s.bit RFX_ACT.lock r = false) ∧
    (∃ (s : State) (_r : Fin 512), s.settUp = true) :=
  ⟨⟨run, 3, 0xC0058004, by decide +kernel⟩,
   ⟨(ruled.wr RFX_ACT.latch 3 1 |>.wr RFX_STAT.fires 3 65535), 3, by decide +kernel⟩,
   ⟨(withSetts run fun x => { x with trueRules := [3], activeRules := [3] }), 3, by decide +kernel⟩,
   ⟨((withSetts run fun x => { x with trueRules := [3], activeRules := [3] }).wr RFX_STAT.latched 3 1), 3, by decide +kernel⟩,
   ⟨((withSetts run fun x => { x with activeRules := [3] }).wr RFX_STAT.latched 3 1), 3, by decide +kernel⟩,
   ⟨((withSetts ruled fun x => { x with trueRules := [3], activeRules := [3] }).wr RFX_STAT.latched 3 1 |>.wr RFX_ACT.latch 3 1), 3, by decide +kernel⟩,
   ⟨(withSetts ruled fun x => { x with trueRules := [3], activeRules := [3] }), 3, by decide +kernel⟩,
   ⟨run, 511, by decide +kernel⟩⟩

theorem witness_ZitherCommands :
    (∃ (s : State) (_k : Fin 256) (w : Fin 4) (_v : BitVec 32), s.alive = true ∧ w.val = 0) ∧
    (∃ (s : State) (k : Fin 256) (_w : Fin 4) (_v : BitVec 32), s.alive = true ∧ (s.bit ZIT_CTL.lock 0 = true ∨ s.gstate (s.rd ZIT_EW0.group k)
      ∈ [1, 2, 3])) ∧
    (∃ (s : State), s.alive = true) ∧
    (∃ (s : State) (g : Fin 16) (via : Via), s.fwUp = true ∧ (s.given via 0x0400 fun d => descParam d 0x2C 1 == g.val && descParam d 0x2D 1 ==
      1) = true ∧ s.shadow_ = false ∧ s.noStart = false ∧ (s.gstate g ∈ [3, 4] ∨ s.gstate g = 0 ∧ s.admitted = false ∧ s.groupCheck g = none)) ∧
    (∃ (s : State) (g : Fin 16) (via : Via), s.fwUp = true ∧ (s.given via 0x0400 fun d => descParam d 0x2C 1 == g.val && descParam d 0x2D 1 ==
      1) = true ∧ s.shadow_ = false ∧ s.noStart = false ∧ s.gstate g = 0 ∧ s.admitted = true ∧ s.groupCheck g = none ∧ s.leads = false) ∧
    (∃ (s : State) (g : Fin 16) (via : Via), s.fwUp = true ∧ (s.given via 0x0400 fun d => descParam d 0x2C 1 == g.val && descParam d 0x2D 1 ==
      2) = true ∧ s.shadow_ = false ∧ s.gstate g ∈ [1, 2]) ∧
    (∃ (s : State) (g : Fin 16) (via : Via), s.fwUp = true ∧ (s.given via 0x0400 fun d => descParam d 0x2C 1 == g.val && descParam d 0x2D 1 ==
      2) = true ∧ s.shadow_ = false ∧ s.gstate g = 4) ∧
    (∃ (s : State) (g : Fin 16) (via : Via), s.fwUp = true ∧ (s.given via 0x0400 fun d => descParam d 0x2C 1 == g.val && descParam d 0x2D 1 ==
      2) = true ∧ s.shadow_ = false ∧ s.gstate g ∈ [0, 3]) ∧
    (∃ (s : State) (g : Fin 16), s.alive = true ∧ s.noStart = false ∧ s.gstate g = 0 ∧ s.bit ZIT_GSTAT.up_pending g = true ∧ s.admitted = true ∧
      s.groupCheck g = none) ∧
    (∃ (s : State) (g : Fin 16), s.alive = true ∧ s.gstate g = 4 ∧ (s.zgrp g).dwellEnd ≤ s.tick ∧ s.bit ZIT_GSTAT.up_pending g = false ∧ s.bit
      ZIT_GCTL.auto_restart g = false) ∧
    (∃ (s : State) (at_ : Nat), s.alive = true ∧ s.zither.released = true ∧ s.zither.redriveFrom = some at_ ∧ at_ + 1000 ≤ s.bootUs) :=
  ⟨⟨run, 7, 0, 0x82400383, by decide +kernel⟩,
   ⟨(run.wr ZIT_CTL.lock 0 1), 7, 0, 0, by decide +kernel⟩,
   ⟨run, by decide +kernel⟩,
   ⟨run, 2, .firmware, by decide +kernel⟩,
   ⟨(ins (entry run 0 {}) 2), 2, .firmware, by decide +kernel⟩,
   ⟨(ringed (entry run 1 { phase := 1 }) (desc 0x0400 0x0202)), 2, (.ring 2 9), by decide +kernel⟩,
   ⟨(entry run 4 {} |>.wr ZIT_GSTAT.up_pending 2 1), 2, .firmware, by decide +kernel⟩,
   ⟨(entry run 0 {}), 2, .firmware, by decide +kernel⟩,
   ⟨(ins ((entry run 0 {}).wr ZIT_GSTAT.up_pending 2 1) 2), 2, by decide +kernel⟩,
   ⟨run, 15, by decide +kernel⟩,
   ⟨({ run with zither := { run.zither with released := true, redriveFrom := some 999000 } }.wr FEED_STAT.collapse 0 1), 999000, by decide +kernel⟩⟩

theorem witness_ZitherRun :
    (∃ (s : State) (k : Fin 256), s.alive = true ∧ s.gstate (s.rd ZIT_EW0.group k) = 1 ∧ (s.zent k).phase = 1 ∧ (s.zgrp (s.rd ZIT_EW0.group
      k)).start + s.rd ZIT_EW1.on_delay k * 10 ≤ s.tick ∧ (∀ d ∈ s.deps k, (s.zent d).good = true ∧ (s.zent d).goodAt + 1 ≤ s.tick) ∧ s.shadow_
      = false) ∧
    (∃ (s : State) (k : Fin 256), s.alive = true ∧ s.gstate (s.rd ZIT_EW0.group k) = 1 ∧ (s.zent k).phase = 2 ∧ s.hasSource k = true ∧
      s.goodCond k = true ∧ max (s.zent k).onAt (s.zent k).condAt + s.rd ZIT_EW2.pg_filter k ≤ s.tick ∧ (∀ j ∈ s.groupEntries (s.rd
      ZIT_EW0.group k), j = k.val ∨ (s.zent j).good = true)) ∧
    (∃ (s : State) (k : Fin 256), s.alive = true ∧ s.gstate (s.rd ZIT_EW0.group k) = 1 ∧ (s.zent k).phase = 2 ∧ s.hasSource k = true ∧
      s.goodCond k = true ∧ max (s.zent k).onAt (s.zent k).condAt + s.rd ZIT_EW2.pg_filter k ≤ s.tick ∧ (∃ j ∈ s.groupEntries (s.rd
      ZIT_EW0.group k), j ≠ k.val ∧ (s.zent j).good = false)) ∧
    (∃ (s : State) (k : Fin 256), s.alive = true ∧ s.gstate (s.rd ZIT_EW0.group k) = 1 ∧ (s.zent k).phase = 2 ∧ s.hasSource k = true ∧ (s.zent
      k).onAt + s.rd ZIT_EW2.deadline k * 100 ≤ s.tick) ∧
    (∃ (s : State) (k : Fin 256), s.alive = true ∧ s.hasSource k = true ∧ (s.zent k).on = true ∧ (s.zent k).good = true ∧ (s.zent k).cond =
      false ∧ (s.zent k).counted = false ∧ s.gstate (s.rd ZIT_EW0.group k) ∈ [1, 2] ∧ (s.zent k).condAt + s.rd ZIT_EW2.pg_filter k ≤ s.tick ∧
      (s.zent k).inWatch = true ∧ (s.zent k).chatters + 1 ≤ s.rd ZIT_EW2.chatter_max k) ∧
    (∃ (s : State) (k : Fin 256), s.alive = true ∧ s.hasSource k = true ∧ (s.zent k).on = true ∧ (s.zent k).good = true ∧ (s.zent k).cond =
      false ∧ (s.zent k).counted = false ∧ s.gstate (s.rd ZIT_EW0.group k) ∈ [1, 2] ∧ (s.zent k).condAt + s.rd ZIT_EW2.pg_filter k ≤ s.tick ∧
      (s.zent k).inWatch = true ∧ s.rd ZIT_EW2.chatter_max k < (s.zent k).chatters + 1) ∧
    (∃ (s : State) (k : Fin 256), s.alive = true ∧ s.hasSource k = true ∧ (s.zent k).on = true ∧ (s.zent k).good = true ∧ (s.zent k).cond =
      false ∧ (s.zent k).counted = false ∧ s.gstate (s.rd ZIT_EW0.group k) ∈ [1, 2] ∧ (s.zent k).condAt + s.rd ZIT_EW2.pg_filter k ≤ s.tick ∧
      (s.zent k).inWatch = false) ∧
    (∃ (s : State) (k : Fin 256), s.alive = true ∧ s.hasSource k = true ∧ (s.zent k).on = true ∧ (s.zent k).good = true ∧ (s.zent k).cond =
      false ∧ (s.zent k).inWatch = true ∧ (s.zent k).counted = true ∧ (s.zent k).lost = false ∧ s.gstate (s.rd ZIT_EW0.group k) ∈ [1, 2] ∧
      (s.zent k).condAt + s.rd ZIT_EW2.deadline k * 100 ≤ s.tick) ∧
    (∃ (s : State) (k : Fin 256), s.alive = true ∧ s.gstate (s.rd ZIT_EW0.group k) = 3 ∧ (s.zent k).on = true ∧ (s.zgrp (s.rd ZIT_EW0.group
      k)).start + s.rd ZIT_EW1.off_delay k * 10 ≤ s.tick) ∧
    (∃ (s : State) (k : Fin 256), s.alive = true ∧ s.gstate (s.rd ZIT_EW0.group k) = 3 ∧ (s.zent k).phase = 4 ∧ s.hasSource k = true ∧
      s.goodCond k = false ∧ max (s.zent k).offAt (s.zent k).condAt + s.rd ZIT_EW2.pg_filter k ≤ s.tick ∧ (∀ j ∈ s.groupEntries (s.rd
      ZIT_EW0.group k), j = k.val ∨ (s.zent j).phase = 0)) ∧
    (∃ (s : State) (k : Fin 256), s.alive = true ∧ s.gstate (s.rd ZIT_EW0.group k) = 3 ∧ (s.zent k).phase = 4 ∧ s.hasSource k = true ∧ (s.zent
      k).offAt + s.rd ZIT_EW2.deadline k * 100 ≤ s.tick) :=
  ⟨⟨(entry run 1 { phase := 1 }), 7, by decide +kernel⟩,
   ⟨(pg (entry run 1 { phase := 2, on := true, onAt := 999900 })), 7, by decide +kernel⟩,
   ⟨((pg (entry run 1 { phase := 2, on := true, onAt := 999900 })).setZent 8 { phase := 2 } |>.wr ZIT_EW0.valid 8 1 |>.wr ZIT_EW0.group 8 2), 7,
     by decide +kernel⟩,
   ⟨(entry run 1 { phase := 2, on := true, onAt := 900000 }), 7, by decide +kernel⟩,
   ⟨(entry run 2 { phase := 3, on := true, good := true, inWatch := true, chatters := 2, condAt := 999000 }), 7, by decide +kernel⟩,
   ⟨(entry run 2 { phase := 3, on := true, good := true, inWatch := true, chatters := 3, condAt := 999000 }), 7, by decide +kernel⟩,
   ⟨(entry run 1 { phase := 3, on := true, good := true, condAt := 999000 }), 7, by decide +kernel⟩,
   ⟨(entry run 2 { phase := 3, on := true, good := true, inWatch := true, counted := true, condAt := 999000 }), 7, by decide +kernel⟩,
   ⟨(entry run 3 { phase := 3, on := true, good := true }), 7, by decide +kernel⟩,
   ⟨(entry run 3 { phase := 4, offAt := 5 }), 7, by decide +kernel⟩,
   ⟨(entry run 3 { phase := 4, offAt := 5 }), 7, by decide +kernel⟩⟩

theorem witness_TickAndCollapse :
    (∃ (s : State) (acts : FirmwareActs) (w : BitVec 24), s.alive = true ∧ s.fwUp = true ∧ acts.watchdog = some w ∧ 100000 ≤ w.toNat ∧ w.toNat ≤
      10000000) ∧
    (∃ (s : State) (_edge : Bool) (_fec : List FecCount) (_acts : FirmwareActs), s.alive = true ∧ s.fwUp = false) ∧
    (∃ (s : State) (_pin : Fin 128) (_high : Bool), s.alive = true) ∧
    (∃ (s : State), s.alive = true ∧ s.collapsed = true ∧ s.bit FEED_STAT.collapse 0 = false ∧ s.insActive = true) :=
  ⟨⟨run, { noActs with watchdog := some 100000 }, 100000, by decide +kernel⟩,
   ⟨{ State.reset with part := { State.reset.part with held := false } }, false, [], { noActs with watchdog := some 500000 }, by decide +kernel⟩,
   ⟨run, 127, true, by decide +kernel⟩,
   ⟨(lev (lev (ins (entry run 2 { phase := 3, on := true, good := true }) 2) 2 3) 4 3), by decide +kernel⟩⟩

theorem witness_FeedGates :
    (∃ (s : State) (n : Fin 10) (v : BitVec 32), s.settUp = true ∧ s.bit FEED_CTL.lock 0 = false ∧ s.bit SNS_CHCFG.lock (fixedChannel n) = false
      ∧ ((s.writeFlds (Reg.fields .FEED_WCTL) n v.toNat).shadow (2 * fixedChannel n)).ordered = true) ∧
    (∃ (s : State) (n : Fin 10) (v : BitVec 32), s.settUp = true ∧ s.bit FEED_CTL.lock 0 = false ∧ s.bit SNS_CHCFG.lock (fixedChannel n) = false
      ∧ ((s.writeFlds (Reg.fields .FEED_WCTL) n v.toNat).shadow (2 * fixedChannel n)).ordered = false) ∧
    (∃ (s : State) (b : Bool), s.alive = true ∧ s.rd (gateFld b) 0 ∈ [0, 2] ∧ s.flev (voltWin b) 0 = false ∧ s.flev (voltWin b) 3 = false ∧
      s.vIn - 256 ≤ (if b then s.sample 62 else s.sample 60) ∧ s.flev (currWin b) 3 = false ∧ s.pulled b.toNat = false ∧ (∃ from_, (s.side
      b).okFrom = some from_ ∧ from_ + 100 ≤ s.bootUs)) ∧
    (∃ (s : State) (b : Bool), s.alive = true ∧ s.rd (gateFld b) 0 = 1 ∧ (s.side b).confirmed = false ∧ (s.side b).onAt + 5000 ≤ s.bootUs ∧
      s.flev (6 + b.toNat) 2 = true) ∧
    (∃ (s : State), s.alive = true ∧ s.feed.ghsHigh = true ∧ s.feed.ghsConfirmed = false ∧ s.feed.ghsAt + 5000 ≤ s.bootUs ∧ s.flev 8 2 = true) ∧
    (∃ (s : State) (b : Bool), s.alive = true ∧ 0 < (s.side b).held ∧ (s.side b).lastRec = none) ∧
    (∃ (s : State), s.alive = true) :=
  ⟨⟨run, 2, 0, by decide +kernel⟩,
   ⟨((run.wr FEED_WTHHI.fh 2 5).wr FEED_WTHHI.wh 2 9), 2, 0xFFFFFFFF, by decide +kernel⟩,
   ⟨(feed run { a := { okFrom := some 999900 } }), false, by decide +kernel⟩,
   ⟨(feed (lev run 6 2) { a := { onAt := 0 } } |>.wr FEED_STAT.gda 0 1), false, by decide +kernel⟩,
   ⟨(feed (lev (ins run 1) 8 2) { ghsHigh := true }), by decide +kernel⟩,
   ⟨(feed run { b := { held := 3, heldWorst := -9 } }), true, by decide +kernel⟩,
   ⟨run, by decide +kernel⟩⟩

theorem witness_InsertionPath :
    (∃ (s : State), s.admissible = false) ∧
    (∃ (s : State), s.admissible = true ∧ s.feed.settleDue = none) ∧
    (∃ (s : State), s.admissible = true ∧ s.feed.settleDue.isSome = true) ∧
    (∃ (s : State), s.alive = true ∧ s.ins = 0 ∧ s.flev 2 2 = false ∧ s.flev 2 0 = false ∧ s.bit FEED_STAT.lever_latched 0 = true ∧ s.pulled 2 =
      false ∧ s.collapsed = false ∧ s.bit FEED_STAT.collapse 0 = false ∧ s.gateReady false = true ∧ s.feed.replayed = true ∧ (∃ due,
      s.feed.settleDue = some due ∧ due ≤ s.bootUs)) ∧
    (∃ (s : State), s.alive = true ∧ s.ins = 1 ∧ s.shadow_ = false ∧ s.feed.ghsHigh = false ∧ s.vIn - 512 ≤ s.sample 59 ∧ s.flev 1 2 = false ∧
      (∃ from_, s.feed.nearFrom = some from_ ∧ from_ + 1000 ≤ s.bootUs) ∧ s.flev 8 2 = true) ∧
    (∃ (s : State), s.alive = true ∧ s.ins = 1 ∧ s.shadow_ = false ∧ s.feed.ghsHigh = false ∧ s.vIn - 512 ≤ s.sample 59 ∧ s.flev 1 2 = false ∧
      (∃ from_, s.feed.nearFrom = some from_ ∧ from_ + 1000 ≤ s.bootUs) ∧ s.flev 8 2 = false) ∧
    (∃ (s : State), s.alive = true ∧ s.ins = 1 ∧ s.feed.ghsHigh = false ∧ s.feed.vStart * 1000000 + s.feed.dvdt * (s.bootUs - s.feed.rampAt :
      Nat) * 512 > (s.sample 59 + 5120) * 1000000 ∧ s.vIn > s.sample 59 + 5120 ∧ (∃ from_, s.feed.lowFrom = some from_ ∧ from_ + 200 ≤
      s.bootUs)) ∧
    (∃ (s : State), s.alive = true ∧ s.ins = 1 ∧ s.feed.ghsHigh = false ∧ s.feed.rampAt + s.feed.rampTo * 10000 ≤ s.bootUs) ∧
    (∃ (s : State), s.alive = true ∧ s.insActive = true ∧ s.flev 0 1 = true ∧ s.feed.ocFrom + s.feed.tOc * 10 ≤ s.bootUs) ∧
    (∃ (s : State), s.alive = true ∧ s.ins = 3 ∧ s.feed.retryEnd ≤ s.bootUs) ∧
    (∃ (s : State), s.alive = true ∧ s.ins = 2 ∧ s.rd FEED_STAT.retry_count 0 ≠ 0 ∧ s.feed.onAt + 60000000 ≤ s.bootUs) ∧
    (∃ (s : State), (s.rd FEED_STAT.retry_count 0 = 0 ∨ s.ins ≠ 2 ∨ s.bootUs < s.feed.onAt + 60000000)) ∧
    (∃ (s : State), s.alive = true ∧ s.ins = 6 ∧ s.allGroupsDown = true) ∧
    (∃ (s : State), s.alive = true ∧ s.feed.disch = true ∧ s.feed.dischAt + s.rd FEED_REMOVE.t_disch_max 0 * 1000 ≤ s.bootUs) ∧
    (∃ (s : State) (l : List Rec), s.alive = true ∧ 2 ≤ s.part.stage ∧ s.ins = 0 ∧ s.feed.replayed = false ∧ l = s.burrow.feedRecs ++
      s.burrow.flash ∧ gateDamaged 0 l = true) ∧
    (∃ (s : State) (l : List Rec), s.alive = true ∧ 2 ≤ s.part.stage ∧ s.ins = 0 ∧ s.feed.replayed = false ∧ l = s.burrow.feedRecs ++
      s.burrow.flash ∧ gateDamaged 1 l = true) ∧
    (∃ (s : State) (l : List Rec), s.alive = true ∧ 2 ≤ s.part.stage ∧ s.ins = 0 ∧ s.feed.replayed = false ∧ l = s.burrow.feedRecs ++
      s.burrow.flash ∧ latestRec Rec.setsInsertion l = none) :=
  ⟨⟨run, by decide +kernel⟩,
   ⟨admitted, by decide +kernel⟩,
   ⟨(feed admitted { admitted.feed with settleDue := some 1500000 }), by decide +kernel⟩,
   ⟨(feed admitted { admitted.feed with replayed := true, settleDue := some 1000000 }), by decide +kernel⟩,
   ⟨(feed (lev (ins run 1) 8 2) { nearFrom := some 0 }), by decide +kernel⟩,
   ⟨(feed (ins run 1) { nearFrom := some 999000 }), by decide +kernel⟩,
   ⟨(feed (ins run 1 |>.wr SNS_CHSAMP.sample 60 0x7000) { dvdt := 80, lowFrom := some 999800 }), by decide +kernel⟩,
   ⟨(feed (ins run 1) { rampTo := 20 }), by decide +kernel⟩,
   ⟨(lev (ins run 2) 0 1), by decide +kernel⟩,
   ⟨(ins run 3), by decide +kernel⟩,
   ⟨({ (ins run 2) with bootUs := 60000000 }.wr FEED_STAT.retry_count 0 2), by decide +kernel⟩,
   ⟨run, by decide +kernel⟩,
   ⟨(ins run 6), by decide +kernel⟩,
   ⟨(feed run { disch := true }), by decide +kernel⟩,
   ⟨(flashed [logged Ev.FEED_FET_DAMAGED [0, 2, 3], logged Ev.FEED_SHORT_RAMP [1, 2, 3]]),
     [logged Ev.FEED_FET_DAMAGED [0, 2, 3], logged Ev.FEED_SHORT_RAMP [1, 2, 3]], by decide +kernel⟩,
   ⟨(flashed [logged Ev.FEED_FET_DAMAGED [1, 2, 3], logged Ev.FEED_TRIP_CLEAR [1]]),
     [logged Ev.FEED_FET_DAMAGED [1, 2, 3], logged Ev.FEED_TRIP_CLEAR [1]], by decide +kernel⟩,
   ⟨run, [], by decide +kernel⟩⟩

theorem witness_FeedCommands :
    (∃ (s : State) (via : Via), s.fwUp = true ∧ (s.given via 0x0401 fun d => descParam d 0x2C 1 == 1) = true ∧ s.shadow_ = false ∧ s.ins = 4) ∧
    (∃ (s : State) (via : Via), s.fwUp = true ∧ (s.given via 0x0401 fun d => descParam d 0x2C 1 == 2) = true ∧ s.shadow_ = false ∧
      s.allGroupsDown = true ∧ s.ins ≤ 3) ∧
    (∃ (s : State) (via : Via), s.fwUp = true ∧ (s.given via 0x0401 fun d => descParam d 0x2C 1 == 3) = true ∧ s.shadow_ = false ∧ s.ins = 7) ∧
    (∃ (s : State), s.alive = true ∧ (s.bit FEED_CTL.lever_act 0 = false ∨ s.ins ∉ [1, 2])) ∧
    (∃ (s : State), s.alive = true) :=
  ⟨⟨(ins run 4), .firmware, by decide +kernel⟩,
   ⟨(ins run 3), .firmware, by decide +kernel⟩,
   ⟨(ins run 7), .firmware, by decide +kernel⟩,
   ⟨run, by decide +kernel⟩,
   ⟨run, by decide +kernel⟩⟩

theorem witness_HarpAndAvs :
    (∃ (s : State) (w : Fin 8), s.settUp = true ∧ s.harpRequest w < s.rd HARP_WSTAT.code w ∧ (s.harp w).changeAt + s.rd HARP_WCTL.hold w ≤
      s.bootUs) ∧
    (∃ (s : State) (w : Fin 8) (low : Bool), s.settUp = true ∧ s.bit HARP_WSTAT.walrt w = !low ∧ low = true ∧ s.harpRequest w ≤ 3 ∧ s.rd
      HARP_WCTL.walrt_code w ≤ 3) ∧
    (∃ (s : State) (w : Fin 8) (_code : BitVec 2), s.settUp = true ∧ s.harpRequest w ≤ 3) ∧
    (∃ (s : State) (w : Fin 8) (_mv _n : Nat) (_v : BitVec 12), s.settUp = true ∧ (s.harp w).frame = some .read ∧ (s.harp w).next = none) ∧
    (∃ (s : State) (w : Fin 8) (mv n : Nat) (_v : BitVec 12), s.settUp = true ∧ (s.harp w).frame = some (.write mv n) ∧ (s.harp w).next = none) ∧
    (∃ (s : State) (w : Fin 8) (mv n : Nat) (_v : BitVec 12), s.settUp = true ∧ (s.harp w).frame = some (.write mv n) ∧ n < 2 ∧ s.avsDrives w =
      true) ∧
    (∃ (s : State) (w : Fin 8) (mv n : Nat) (_v : BitVec 12), s.settUp = true ∧ (s.harp w).frame = some (.write mv n) ∧ n < 2 ∧ s.avsDrives w =
      false) ∧
    (∃ (s : State) (w : Fin 8) (mv _n : Nat) (_v : BitVec 12), s.settUp = true ∧ (s.harp w).frame = some (.write mv 2)) ∧
    (∃ (s : State) (w : Fin 8) (mv : Nat), s.settUp = true ∧ s.avsDrives w = true ∧ s.bit HARP_AVSSTAT.fault w = true ∧ (s.harp w).frame = none
      ∧ (s.harp w).lastTry + 100 ≤ s.bootUs ∧ (s.harp w).latest = some mv) ∧
    (∃ (s : State) (w : Fin 8), s.settUp = true ∧ s.avsDrives w = true ∧ (s.harp w).frame = none ∧ (s.harp w).next = none ∧ s.rd HARP_GCTL.poll
      0 ≠ 0 ∧ (s.harp w).lastPoll + avsPeriod (s.rd HARP_GCTL.poll 0) ≤ s.bootUs) ∧
    (∃ (_g : Gov) (f : GovSet) (i : GovIn), i.threshold f f.pTrim ≤ i.power) ∧
    (∃ (_g : Gov) (f : GovSet) (i : GovIn), i.threshold f f.pDeep ≤ i.power) ∧
    (∃ (_g : Gov) (f : GovSet) (i : GovIn), i.fresh f = false) ∧
    (∃ (g : Gov) (f : GovSet) (_i : GovIn), f.budget ≤ g.window.used) ∧
    (∃ (g : Gov) (f : GovSet) (i : GovIn), g.setpoint < f.vNom * 1000 - i.margin f) ∧
    (∃ (g : TrayGov) (f : TraySet) (i : TrayIn), g.level < 16 ∧ i.cap f ≤ i.pavg) ∧
    (∃ (s : State) (n w : Nat), (s.engine n).govWard = some w ∧ (∀ off, s.shBad (privKey n off) = false)) :=
  ⟨⟨((harp run 2 { changeAt := 999999 }).wr HARP_WSTAT.code 2 3), 2, by decide +kernel⟩,
   ⟨run, 7, true, by decide +kernel⟩,
   ⟨run, 0, 3, by decide +kernel⟩,
   ⟨(harp run 3 { frame := some .read } |>.wr HARP_AVSSTAT.busy 3 1), 3, 0, 0, 850, by decide +kernel⟩,
   ⟨(harp run 3 { frame := some (.write 900 0) } |>.wr HARP_AVSSTAT.busy 3 1 |>.wr HARP_AVSSTAT.fault 3 1), 3, 900, 0, 0, by decide +kernel⟩,
   ⟨(harp (run.wr HARP_AVSCFG.enable 3 1) 3 { frame := some (.write 900 1) } |>.wr HARP_AVSSTAT.busy 3 1), 3, 900, 1, 0, by decide +kernel⟩,
   ⟨(harp run 3 { frame := some (.write 900 0) } |>.wr HARP_AVSSTAT.busy 3 1 |>.wr HARP_AVSSTAT.fault 3 1), 3, 900, 0, 0, by decide +kernel⟩,
   ⟨(harp run 3 { frame := some (.write 900 2) } |>.wr HARP_AVSSTAT.busy 3 1), 3, 900, 2, 0, by decide +kernel⟩,
   ⟨(harp (run.wr HARP_AVSCFG.enable 4 1) 4 { lastTry := 999900, latest := some 700 } |>.wr HARP_AVSSTAT.fault 4 1), 4, 700, by decide +kernel⟩,
   ⟨(harp (run.wr HARP_AVSCFG.enable 4 1) 4 { lastPoll := 999900, lastTry := 7 }), 4, by decide +kernel⟩,
   ⟨{}, govS, govI, by decide +kernel⟩,
   ⟨{ floor := 1, left := 5, used := 199 }, govS, { govI with pavg := 600 * 65536, code := 65536, span := 65536 * 9 }, by decide +kernel⟩,
   ⟨{ floor := 1, left := 5, used := 200 }, govS, { govI with code := 65536, age := 9 }, by decide +kernel⟩,
   ⟨{ floor := 1, left := 5, used := 200 }, govS, { govI with code := 65536, age := 9 }, by decide +kernel⟩,
   ⟨{}, govS, govI, by decide +kernel⟩,
   ⟨{ level := 15 }, trayS, { pavg := 20000 * 65536, vin := 54 * 65536, forecast := 0, age := 3 }, by decide +kernel⟩,
   ⟨(governed {}), 5, 3, by exact ⟨by decide +kernel, fun _ => rfl⟩⟩⟩

theorem witness_MartenTiles :
    (∃ (s : State) (q : Fin 4), s.hasMarten = true ∧ s.fwUp = true ∧ s.tstate q = 0 ∧ s.recorder.trainFailed = false) ∧
    (∃ (s : State) (q : Fin 4), s.hasMarten = true ∧ s.fwUp = true ∧ s.tstate q = 1) ∧
    (∃ (s : State) (q : Fin 4), s.hasMarten = true ∧ s.fwUp = true ∧ s.tstate q = 2) ∧
    (∃ (s : State) (q : Fin 4), s.hasMarten = true ∧ s.fwUp = true ∧ s.tstate q = 1 ∧ s.tileCheck q = none) ∧
    (∃ (s : State) (q : Fin 4), s.hasMarten = true ∧ s.fwUp = true ∧ s.tstate q = 1) ∧
    (∃ (s : State) (q : Fin 4), s.hasMarten = true ∧ s.fwUp = true ∧ s.tstate q = 2) ∧
    (∃ (s : State) (q : Fin 4) (kind : Fin 3) (_a : BitVec 21) (_v : BitVec 32), s.hasMarten = true ∧ s.fwUp = true ∧ s.tstate q = 1 ∧ kind.val
      = 0) ∧
    (∃ (s : State) (q : Fin 4) (kind : Fin 3) (_a : BitVec 21) (_v : BitVec 32), s.hasMarten = true ∧ s.fwUp = true ∧ s.tstate q = 1 ∧ kind.val
      = 1) ∧
    (∃ (s : State) (q : Fin 4) (kind : Fin 3) (_a : BitVec 21) (_v : BitVec 32), s.hasMarten = true ∧ s.fwUp = true ∧ s.tstate q = 1 ∧ kind.val
      = 2) ∧
    (∃ (s : State) (q : Fin 4) (_kind : Fin 3) (_a : BitVec 21) (_v : BitVec 32), s.hasMarten = true ∧ s.fwUp = true ∧ s.tstate q ≠ 1) ∧
    (∃ (s : State) (q : Fin 4), s.hasMarten = true ∧ s.tstate q ≠ 0 ∧ (readBad (Tab.get 0 (s.tile q).bad (s.tile q).scrub)).1 = .good) ∧
    (∃ (s : State) (q : Fin 4), s.hasMarten = true ∧ s.tstate q ≠ 0 ∧ (readBad (Tab.get 0 (s.tile q).bad (s.tile q).scrub)).1 = .corrected) ∧
    (∃ (s : State) (q : Fin 4), s.hasMarten = true ∧ s.tstate q ≠ 0 ∧ (readBad (Tab.get 0 (s.tile q).bad (s.tile q).scrub)).1 = .uncorrectable) :=
  ⟨⟨run, 3, by decide +kernel⟩,
   ⟨(tiled run 1), 1, by decide +kernel⟩,
   ⟨(tiled run 2), 1, by decide +kernel⟩,
   ⟨(tiled run 1), 1, by decide +kernel⟩,
   ⟨(tiled run 1 (x := { runDue := true })), 1, by decide +kernel⟩,
   ⟨(tiled run 2 (x := jobbed {} .suspended)), 1, by decide +kernel⟩,
   ⟨(tiled run 1), 1, 0, 0x1FFFFF, 0xFFFFFFFF, by decide +kernel⟩,
   ⟨(tiled run 1), 1, 1, 25, 0xFFFFFFFF, by decide +kernel⟩,
   ⟨(tiled run 1), 1, 2, 511, 0xFFFFFFFF, by decide +kernel⟩,
   ⟨(tiled run 2), 1, 2, 511, 0xFFFFFFFF, by decide +kernel⟩,
   ⟨(tiled run 1 (x := { scrub := 262143 }) |>.wr MRT_TECC.corr 1 65530), 1, by decide +kernel⟩,
   ⟨(tiled run 3 (x := { scrub := 7, bad := [(7, 0x30)] })), 1, by decide +kernel⟩,
   ⟨(tiled run 2 (x := { scrub := 7, bad := [(7, 0x100000000000000000000000000000001)] })), 1, by decide +kernel⟩⟩

theorem witness_MartenJobs :
    (∃ (s : State) (q : Fin 4), s.hasMarten = true ∧ s.tick % 2 = 0 ∧ (s.tile q).frame ≤ s.tick ∧ (s.tstate q = 2 ∨ s.tstate q = 3 ∨ s.tstate q
      = 1 ∧ (s.tile q).runDue = true)) ∧
    (∃ (s : State) (q : Fin 4) (_cycles : BitVec 11) (_done : BitVec 16), s.hasMarten = true ∧ (s.tile q).fast = true) ∧
    (∃ (s : State) (q : Fin 4) (done : BitVec 16), s.hasMarten = true ∧ (s.tile q).fast = false ∧ s.tstate q ≠ 3 ∧ (∀ j, j < 64 → (s.runTo q j
      done.toNat).2 = false)) ∧
    (∃ (s : State) (q : Fin 4) (j : Fin 64) (_done : BitVec 16), s.hasMarten = true ∧ s.tstate q = 2 ∧ (s.tile q).jobValid j = true ∧ (s.tile
      q).jobClass j = 1 ∧ s.tick % 100 = (s.tile q).jobPhase j % 100 ∧ ((s.tile q).job j).phase = .absent ∧ ((s.tile q).job j).since ≠ s.tick +
      1 ∧ s.rd MRT_JSTAT.state (jix q j) ≠ 2) ∧
    (∃ (s : State) (q : Fin 4) (j : Fin 64) (upsets : List TileUpset) (v : BitVec 32) (k : Nat) (u : State × Bool), s.hasMarten = true ∧
      ((s.tile q).job j).phase = .running ∧ u = (s.tileUpsets q upsets).runTo q j ((s.tile q).job j).prog.length ∧ s.tstate q = 2 ∧ s.rd
      MRT_JSTAT.state (jix q j) = 1 ∧ s.bit MRT_CHK.shadow q = false ∧ (s.tile q).jobSlots j = [k] ∧ u.2 = false ∧ ((u.1.tile q).job j).outs =
      [(0, some v)] ∧ k < 32 ∧ k % 4 = 3) ∧
    (∃ (s : State) (q : Fin 4) (j : Fin 64) (_done : BitVec 16), s.hasMarten = true ∧ ((s.tile q).job j).phase = .running) ∧
    (∃ (s : State) (source : Fin 512), s.ingestOn = true ∧ source.val < 304 ∧ s.named source = true ∧ s.blockOver source = true) ∧
    (∃ (s : State) (q : Fin 4) (i : Fin 64) (k : Nat), s.hasMarten = true ∧ 2 ≤ s.tstate q ∧ (s.tile q).streamValid i = true ∧ ((s.tile
      q).stream i).gapAt = some k) ∧
    (∃ (s : State), s.hasMarten = true ∧ s.tick % 1000 = 0 ∧ s.marten.offerAt < s.tick) ∧
    (∃ (s : State) (_w : Fin 8), s.hasMarten = true) ∧
    (∃ (_ws : List Int) (head ds : List Nat), head.length = 4 ∧ (∀ d ∈ ds, d = 128)) ∧
    (∃ (s : State) (q : Fin 4) (j : Fin 64) (upsets : List TileUpset) (_v : BitVec 32) (_k : Nat) (u : State × Bool), s.hasMarten = true ∧
      ((s.tile q).job j).phase = .running ∧ u = (s.tileUpsets q upsets).runTo q j ((s.tile q).job j).prog.length ∧ ((u.1.tile q).job j).outs =
      [(0, none)]) :=
  ⟨⟨(tiled run 1 (x := { runDue := true })), 1, by decide +kernel⟩,
   ⟨(tiled run 2 (c := 0) (x := jobbed { fast := true } .running)), 1, 2000, 0, by decide +kernel⟩,
   ⟨(tiled run 2 (x := jobbed {} .running)), 1, 4, by decide +kernel⟩,
   ⟨(tiled run 2), 1, 3, 0, by decide +kernel⟩,
   ⟨(tiled run 2 (k := 31) (x := jobOuts [(0, some 0xFFFF0000)])), 1, 3, [], 0xFFFF0000, 31, _,
     by exact ⟨by decide +kernel, by decide +kernel, rfl, by decide +kernel, by decide +kernel, by decide +kernel, by decide +kernel, by decide +kernel, by decide +kernel, by decide +kernel, by decide +kernel⟩⟩,
   ⟨(tiled run 2 (x := jobbed {} .running)), 1, 3, 0, by decide +kernel⟩,
   ⟨(tiled run 2), 2, by decide +kernel⟩,
   ⟨(tiled run 2 (x := { streams := [(6, { gaps := 65535, gapAt := some 7 })] })), 1, 6, 7, by decide +kernel⟩,
   ⟨{ run with marten := { run.marten with offerMax := [(2, 900)], offerAt := 5 } }, by decide +kernel⟩,
   ⟨run, 7, by decide +kernel⟩,
   ⟨[3, 4, 5], [0, 0, 7, 1], [128, 128], by decide +kernel⟩,
   ⟨(tiled run 2 (k := 70) (x := jobOuts [(0, none)])), 1, 3, [], 0, 0, _, by exact ⟨by decide +kernel, by decide +kernel, rfl, by decide +kernel⟩⟩⟩

theorem witness_CoolingZones :
    (∃ (s : State), s.alive = true ∧ s.tick % 1000 = 0) ∧
    (∃ (s : State) (o : Fin 20) (_v : BitVec 10), s.alive = true ∧ (s.bit FAN_OCFG.zoned o = false ∨ (s.fanOwner o).isSome = true)) ∧
    (∃ (s : State) (z : Fin 4), s.alive = true ∧ s.bit FAN_ZSTAT.fallback z = true ∧ (s.members z = [] ∨ (∃ o ∈ s.members z, s.fresh o = false)
      ∨ s.tableBad z = true)) ∧
    (∃ (s : State) (z : Fin 4), s.alive = true ∧ s.bit FAN_ZSTAT.fallback z = false ∧ (∃ o ∈ s.members z, s.fresh o = false)) ∧
    (∃ (s : State) (_v : BitVec 4), s.alive = true) ∧
    (∃ (s : State) (_r : Fin 16), s.settUp = true) :=
  ⟨⟨run, by decide +kernel⟩,
   ⟨run, 3, 1000, by decide +kernel⟩,
   ⟨(cooled run), 1, by decide +kernel⟩,
   ⟨(cooled (run.wr FAN_ZSTAT.fallback 1 0)), 1, by decide +kernel⟩,
   ⟨(run.wr FAN_VLV.close 0 15), 5, by decide +kernel⟩,
   ⟨run, 15, by decide +kernel⟩⟩

theorem witness_FanSupervision :
    (∃ (s : State) (o : Fin 20), s.alive = true ∧ s.part.vsettLost = false ∧ s.ostate o = 1 ∧ (s.fan o).checkAt + 3000000 ≤ s.bootUs ∧
      s.fastEnough o (s.rd FAN_OSTAT.drive o) = false ∧ s.rd FAN_OSTAT.drive o ≠ 0) ∧
    (∃ (s : State) (o : Fin 20), s.alive = true ∧ s.part.vsettLost = false ∧ s.ostate o = 3 ∧ (s.fan o).judgedAt + 10000000 ≤ s.bootUs) ∧
    (∃ (s : State) (ix : Fin 28), s.alive = true ∧ 20 ≤ ix.val) ∧
    (∃ (s : State) (o : Fin 20), s.alive = true ∧ s.part.vsettLost = false ∧ s.supervised o = true ∧ s.ostate o = 2 ∧ s.tachStopped o = true ∧
      s.rd FAN_OSTAT.drive o ≠ 0) ∧
    (∃ (s : State) (o : BitVec 5), s.alive = true ∧ s.part.vsettLost = false ∧ o.toNat < 20 ∧ 4 ≤ s.ostate o.toNat ∧ s.ostate o.toNat ≤ 6) ∧
    (∃ (s : State) (o : BitVec 5), s.alive = true ∧ s.part.vsettLost = false ∧ (20 ≤ o.toNat ∨ s.ostate o.toNat < 4 ∨ 6 < s.ostate o.toNat)) :=
  ⟨⟨{ (driven (cooled run 1 { checkAt := 0 })) with bootUs := 3000000 }, 3, by decide +kernel⟩,
   ⟨({ (driven (cooled run 3 { judgedAt := 0 })) with bootUs := 10000000 }.wr FAN_OSTAT.retries 17 2), 17, by decide +kernel⟩,
   ⟨run, 20, by decide +kernel⟩,
   ⟨(driven (cooled run 2)), 3, by decide +kernel⟩,
   ⟨(cooled run 4), 3, by decide +kernel⟩,
   ⟨(cooled run 2), 17, by decide +kernel⟩⟩

theorem witness_FlowAndCritical :
    (∃ (s : State) (f : Fin 8), s.alive = true ∧ s.part.vsettLost = false ∧ s.bit FAN_FCFG.en f = true ∧ s.tick % 100000 = 0) ∧
    (∃ (s : State) (f : Fin 8) (from_ : Nat), s.alive = true ∧ s.part.vsettLost = false ∧ s.bit FAN_FSTAT.low f = false ∧ s.flowArmed f = true ∧
      s.flowBelow f = true ∧ (s.flowOf f).lowFrom = some from_ ∧ from_ + 2000000 ≤ s.bootUs) ∧
    (∃ (s : State) (f : Fin 8) (from_ : Nat), s.alive = true ∧ s.part.vsettLost = false ∧ s.bit FAN_FSTAT.low f = true ∧ s.flowBelow f = false ∧
      (s.flowOf f).okFrom = some from_ ∧ from_ + 10000000 ≤ s.bootUs) ∧
    (∃ (s : State) (_a _b : CritRead), s.alive = true) ∧
    (∃ (s : State), s.alive = true ∧ s.bit FAN_CRIT.grace 0 = true ∧ s.cooling.crit.graceAt + 10000000 ≤ s.bootUs) ∧
    (∃ (b : Branch) (r : Rope) (now : Nat), b.tray = false ∧ (b.judge r now).tray = true) ∧
    (∃ (b : Branch) (_r : Rope) (_now : Nat), b.tray = true) :=
  ⟨⟨(pulsed (metered run {}) 25 { count := 60 } |>.wr FAN_FCFG.k 5 6000), 5, by decide +kernel⟩,
   ⟨{ (driven (cooled (metered run { lowFrom := some 0, okFrom := none }))) with bootUs := 2000000 }, 5, 0, by decide +kernel⟩,
   ⟨{ ((metered run { lowFrom := none, okFrom := some 0 }).wr FAN_FSTAT.low 5 1 |>.wr FAN_FSTAT.flow 5 500) with bootUs := 10000000 }, 5, 0,
     by decide +kernel⟩,
   ⟨(crit run { hotA := 1 }), (.temp 0x4000), .opened, by decide +kernel⟩,
   ⟨{ (run.wr FAN_CRIT.grace 0 1) with bootUs := 10000000 }, by decide +kernel⟩,
   ⟨{}, { slot := 1, channel := 288, role := 2, levels := 0xC000C }, 9, by decide +kernel⟩,
   ⟨{ tray := true, trayAt := 4 }, { slot := 1, channel := 288, role := 3, levels := 0xC000C }, 9, by decide +kernel⟩⟩

theorem witness_PortLinks :
    (∃ (s : State) (p : Fin 8), s.portUp = true ∧ s.fwUp = true ∧ (s.pstate p = 0 ∨ s.pstate p = 4)) ∧
    (∃ (s : State) (p : Fin 8), s.portUp = true ∧ s.fwUp = true ∧ s.pstate p ≠ 0 ∧ s.pstate p ≠ 4) ∧
    (∃ (s : State) (p : Fin 8), s.portUp = true ∧ (s.ward p).state = 0 ∨ (s.ward p).state = 12) ∧
    (∃ (s : State) (p : Fin 8), s.portUp = true ∧ (s.ward p).state ≠ 0 ∧ (s.ward p).state ≠ 12) ∧
    (∃ (s : State) (p : Fin 8) (l0 l1 : Bool), s.portUp = true ∧ s.pstate p = 1 ∧ (if s.bit WPORT_CTL.one_lane_ok p then l0 || l1 else l0 && l1)
      = true) ∧
    (∃ (s : State) (p : Fin 8) (h : FrameHead) (major _minor : BitVec 8), s.portUp = true ∧ s.pstate p = 2 ∧ s.bootUs ≤ (s.port p).entered +
      50000 ∧ ctrlHeadOk h = true ∧ major = 1) ∧
    (∃ (s : State) (p : Fin 8) (h : FrameHead) (major _minor : BitVec 8), s.portUp = true ∧ s.pstate p = 2 ∧ s.bootUs ≤ (s.port p).entered +
      50000 ∧ ctrlHeadOk h = true ∧ major ≠ 1) ∧
    (∃ (s : State) (p : Fin 8) (h : FrameHead) (_major _minor : BitVec 8), s.portUp = true ∧ s.pstate p = 2 ∧ s.bootUs ≤ (s.port p).entered +
      50000 ∧ ctrlHeadOk h = false) ∧
    (∃ (s : State) (p : Fin 8) (_h : FrameHead) (_major _minor : BitVec 8), s.portUp = true ∧ s.pstate p = 2 ∧ (s.port p).entered + 50000 ≤
      s.bootUs) ∧
    (∃ (s : State) (p : Fin 8) (lane : Fin 2) (cause : LaneCause), s.portUp = true ∧ s.pstate p = 3 ∧ lane.val ∈ (s.port p).lanes ∧ (cause ≠
      .uncorrectable ∨ s.tooManyUncorr p lane = true) ∧ (∃ l ∈ (s.port p).lanes, l ≠ lane.val) ∧ s.bit WPORT_CTL.one_lane_ok p = true ∧ cause =
      .noLight) ∧
    (∃ (s : State) (p : Fin 8) (lane : Fin 2) (cause : LaneCause), s.portUp = true ∧ s.pstate p = 3 ∧ lane.val ∈ (s.port p).lanes ∧ (cause ≠
      .uncorrectable ∨ s.tooManyUncorr p lane = true) ∧ (∀ l ∈ (s.port p).lanes, l = lane.val) ∨ s.bit WPORT_CTL.one_lane_ok p = false) ∧
    (∃ (s : State) (p : Fin 8) (lane : Fin 2) (us : BitVec 16), s.portUp = true ∧ s.pstate p = 3 ∧ lane.val ∉ (s.port p).lanes ∧ us.toNat ≤
      50000) ∧
    (∃ (s : State) (p : Fin 8), s.portUp = true ∧ s.pstate p = 4 ∧ (s.port p).entered + 10000 ≤ s.bootUs ∧ s.rd WPORT_STAT.retrains p < s.rd
      WPORT_CTL.retrain_max p) ∧
    (∃ (s : State) (p : Fin 8), s.portUp = true ∧ s.pstate p = 4 ∧ (s.port p).entered + 10000 ≤ s.bootUs ∧ s.rd WPORT_CTL.retrain_max p ≤ s.rd
      WPORT_STAT.retrains p ∧ (s.port p).failRecorded = false) :=
  ⟨⟨run, 3, by decide +kernel⟩,
   ⟨(linked run), 3, by decide +kernel⟩,
   ⟨run, 3, by decide +kernel⟩,
   ⟨(warded (linked run) { state := 11 }), 3, by decide +kernel⟩,
   ⟨(run.wr WPORT_STAT.state 3 1), 3, true, true, by decide +kernel⟩,
   ⟨((run.setPort 3 { lanes := [0, 1], entered := 999000 }).wr WPORT_STAT.state 3 2), 3, (headF true 16), 1, 0, by decide +kernel⟩,
   ⟨((run.setPort 3 { lanes := [0], entered := 999000 }).wr WPORT_STAT.state 3 2), 3, (headF true 16), 2, 0, by decide +kernel⟩,
   ⟨((run.setPort 3 { lanes := [0, 1], entered := 999000 }).wr WPORT_STAT.state 3 2), 3, (headF true 20), 1, 0, by decide +kernel⟩,
   ⟨((run.setPort 3 { lanes := [0] }).wr WPORT_STAT.state 3 2), 3, (headF true 16), 2, 0, by decide +kernel⟩,
   ⟨(linked run { lanes := [0, 1] }), 3, 0, .noLight, by decide +kernel⟩,
   ⟨(linked run { lanes := [1] }), 3, 1, .noLight, by decide +kernel⟩,
   ⟨(linked run { lanes := [1] }), 3, 0, 100, by decide +kernel⟩,
   ⟨(run.wr WPORT_STAT.state 3 4), 3, by decide +kernel⟩,
   ⟨((run.wr WPORT_STAT.state 3 4).wr WPORT_STAT.retrains 3 3), 3, by decide +kernel⟩⟩

theorem witness_PortRequests :
    (∃ (s : State) (p : Fin 8) (f : RspFrame) (_fails : Bool), s.portUp = true ∧ s.pstate p = 3 ∧ headOk f.head (16 + 4 * f.data.length) =
      false) ∧
    (∃ (s : State) (p : Fin 8) (f : RspFrame) (_fails : Bool), s.portUp = true ∧ s.pstate p = 3 ∧ headOk f.head (16 + 4 * f.data.length) = true
      ∧ f.head.isSealed ≠ (s.port p).up) ∧
    (∃ (s : State) (p : Fin 8) (f : RspFrame) (_fails : Bool), s.portUp = true ∧ s.pstate p = 3 ∧ headOk f.head (16 + 4 * f.data.length) = true
      ∧ f.head.isSealed = (s.port p).up ∧ ((s.port p).up = true → f.sealOk = true) ∧ 0x0B < f.status.toNat) ∧
    (∃ (s : State) (p : Fin 8) (_f : RspFrame) (_fails : Bool), s.portUp = true ∧ s.pstate p = 3 ∧ (s.port p).up = true) ∧
    (∃ (s : State) (p : Fin 8) (f : RspFrame) (_fails : Bool), s.portUp = true ∧ s.pstate p = 3 ∧ f.status = 0) ∧
    (∃ (s : State) (p : Fin 8) (_f : RspFrame) (_fails : Bool), s.portUp = true ∧ s.pstate p = 3 ∧ (s.port p).waiting = []) ∧
    (∃ (s : State) (p : Fin 8) (tag : BitVec 8) (r : Req), s.portUp = true ∧ s.pstate p = 3 ∧ (s.port p).reqs.find? (·.tag == tag.toNat) = some
      r ∧ s.bootUs < r.sentAt + s.rd WPORT_TMO.req_us p) ∧
    (∃ (s : State) (p : Fin 8) (tag : BitVec 8) (r : Req), s.portUp = true ∧ s.pstate p = 3 ∧ (s.port p).reqs.find? (·.tag == tag.toNat) = some
      r ∧ r.sentAt + s.rd WPORT_TMO.req_us p ≤ s.bootUs ∧ r.sends < 3) ∧
    (∃ (s : State) (p : Fin 8) (tag : BitVec 8) (r : Req), s.portUp = true ∧ s.pstate p = 3 ∧ (s.port p).reqs.find? (·.tag == tag.toNat) = some
      r ∧ (s.port p).waiting = []) ∧
    (∃ (s : State) (p : Fin 8) (words : List (BitVec 32)) (_ns : BitVec 16), s.portUp = true ∧ s.pstate p = 3 ∧ s.telemGood p words = true) ∧
    (∃ (s : State) (p : Fin 8) (words : List (BitVec 32)) (_ns : BitVec 16), s.portUp = true ∧ s.pstate p = 3 ∧ s.telemGood p words = false) ∧
    (∃ (s : State) (p : Fin 8) (h : FrameHead) (_sealOk : Bool) (_tag : BitVec 8) (_code : BitVec 16) (_data : BitVec 64), s.portUp = true ∧
      s.pstate p = 3 ∧ headOk h 32 = false) ∧
    (∃ (s : State) (p : Fin 8) (h : FrameHead) (_sealOk : Bool) (_tag : BitVec 8) (_code : BitVec 16) (_data : BitVec 64), s.portUp = true ∧
      s.pstate p = 3 ∧ headOk h 32 = true ∧ h.isSealed ≠ (s.port p).up) ∧
    (∃ (s : State) (p : Fin 8) (h : FrameHead) (sealOk : Bool) (tag : BitVec 8) (_code : BitVec 16) (_data : BitVec 64), s.portUp = true ∧
      s.pstate p = 3 ∧ headOk h 32 = true ∧ h.isSealed = (s.port p).up ∧ ((s.port p).up = true → sealOk = true) ∧ tag.toNat ∉ (s.port p).acked) ∧
    (∃ (s : State) (p : Fin 8) (h : FrameHead) (sealOk : Bool) (tag : BitVec 8) (_code : BitVec 16) (_data : BitVec 64), s.portUp = true ∧
      s.pstate p = 3 ∧ headOk h 32 = true ∧ h.isSealed = (s.port p).up ∧ ((s.port p).up = true → sealOk = true) ∧ tag.toNat ∈ (s.port p).acked) ∧
    (∃ (s : State) (p : Fin 8) (h : FrameHead) (_part : BitVec 8) (_arg : BitVec 4) (_c : Ctrl), s.portUp = true ∧ s.pstate p = 3 ∧ ctrlHeadOk h
      = false) ∧
    (∃ (s : State) (p : Fin 8) (h : FrameHead) (part : BitVec 8) (_arg : BitVec 4) (c : Ctrl), s.portUp = true ∧ s.pstate p = 3 ∧ s.findCtrl p 1
      part.toNat = some c ∧ ctrlHeadOk h = true) ∧
    (∃ (s : State) (p : Fin 8) (_h : FrameHead) (part : BitVec 8) (_arg : BitVec 4) (c : Ctrl), s.portUp = true ∧ s.pstate p = 3 ∧ s.findCtrl p
      1 part.toNat = some c ∧ c.since + s.rd WPORT_TMO.drain_us p ≤ s.bootUs ∧ c.code = 1) ∧
    (∃ (s : State) (p : Fin 8) (h : FrameHead) (part : BitVec 8) (_arg : BitVec 4) (c : Ctrl), s.portUp = true ∧ s.pstate p = 3 ∧ s.findCtrl p 3
      part.toNat = some c ∧ ctrlHeadOk h = true) ∧
    (∃ (s : State) (p : Fin 8) (h : FrameHead) (_part : BitVec 8) (arg : BitVec 4) (c : Ctrl), s.portUp = true ∧ s.pstate p = 3 ∧ s.findCtrl p 5
      arg.toNat = some c ∧ ctrlHeadOk h = true) ∧
    (∃ (s : State) (p : Fin 8) (_h : FrameHead) (_part : BitVec 8) (arg : BitVec 4) (c : Ctrl), s.portUp = true ∧ s.pstate p = 3 ∧ s.findCtrl p
      5 arg.toNat = some c ∧ c.since + 10 * s.rd WPORT_TMO.fence p ≤ s.bootUs ∧ c.code = 5) ∧
    (∃ (s : State) (p : Fin 8) (code arg : BitVec 8) (c : Ctrl), s.portUp = true ∧ s.pstate p = 3 ∧ s.findCtrl p code.toNat arg.toNat = some c ∧
      c.sentAt + s.rd WPORT_TMO.req_us p ≤ s.bootUs ∧ s.bootUs < c.since + s.ctrlDeadline p c) ∧
    (∃ (s : State) (p : Fin 8) (code arg : BitVec 8) (c : Ctrl), s.portUp = true ∧ s.pstate p = 3 ∧ s.findCtrl p code.toNat arg.toNat = some c ∧
      c.sentAt + s.rd WPORT_TMO.req_us p ≤ s.bootUs ∧ c.since + s.ctrlDeadline p c ≤ s.bootUs ∧ c.code = 3) :=
  ⟨⟨(linked (asking run) { reqs := [engReq] }), 3, (rspF 9 1 [7] 0 false), false, by decide +kernel⟩,
   ⟨(linked (asking run) { reqs := [engReq] }), 3, (rspF 9 1 [7] 0 true true), false, by decide +kernel⟩,
   ⟨(linked (asking run) { reqs := [engReq] }), 3, (rspF 9 1 [] 0x0C), false, by decide +kernel⟩,
   ⟨(linked (asking run) { reqs := [{ engReq with read := false, data := [3] }], up := true }), 3, (rspF 9 1 [] 0 true true), false, by decide +kernel⟩,
   ⟨(linked (asking run) { reqs := [engReq] }), 3, (rspF 9 1 [7]), false, by decide +kernel⟩,
   ⟨(linked (asking run) { reqs := [engReq] }), 3, (rspF 9 1 [7]), false, by decide +kernel⟩,
   ⟨(linked (asking run) { reqs := [{ engReq with sentAt := 999990 }] }), 3, 9, { engReq with sentAt := 999990 }, by decide +kernel⟩,
   ⟨(linked (asking run) { reqs := [engReq] }), 3, 9, engReq, by decide +kernel⟩,
   ⟨(linked (asking run) { reqs := [engReq] }), 3, 9, engReq, by decide +kernel⟩,
   ⟨(linked run { sync := 8 }), 3, (telemF 7), 900, by decide +kernel⟩,
   ⟨(linked run { sync := 8 }), 3, [], 900, by decide +kernel⟩,
   ⟨(linked run), 3, (headF true 31), true, 7, 0x1234, 9, by decide +kernel⟩,
   ⟨(linked run), 3, (headF true 48 true), true, 7, 0x1234, 9, by decide +kernel⟩,
   ⟨(linked run), 3, (headF true 32), true, 7, 0x1234, 9, by decide +kernel⟩,
   ⟨(linked run { acked := [7] }), 3, (headF true 32), true, 7, 0x1234, 9, by decide +kernel⟩,
   ⟨(linked run), 3, (headF false 16), 4, 4, { code := 5, arg := 4, owner := .engine 5 2, since := 0, sentAt := 0 }, by decide +kernel⟩,
   ⟨(linked (asking run) { ctrls := [{ code := 1, arg := 4, owner := .engine 5 2, since := 0, sentAt := 0 }] }), 3, (headF true 16), 4, 4,
     { code := 1, arg := 4, owner := .engine 5 2, since := 0, sentAt := 0 }, by decide +kernel⟩,
   ⟨(linked (asking run) { ctrls := [{ code := 1, arg := 4, owner := .engine 5 2, since := 0, sentAt := 0 }] }), 3, (headF true 16), 4, 4,
     { code := 1, arg := 4, owner := .engine 5 2, since := 0, sentAt := 0 }, by decide +kernel⟩,
   ⟨(linked (asking run) { ctrls := [{ code := 3, arg := 4, owner := .engine 5 2, since := 0, sentAt := 0 }] }), 3, (headF true 16), 4, 4,
     { code := 3, arg := 4, owner := .engine 5 2, since := 0, sentAt := 0 }, by decide +kernel⟩,
   ⟨(linked (asking run) { ctrls := [{ code := 5, arg := 4, owner := .engine 5 2, since := 0, sentAt := 0 }] }), 3, (headF true 16), 4, 4,
     { code := 5, arg := 4, owner := .engine 5 2, since := 0, sentAt := 0 }, by decide +kernel⟩,
   ⟨(linked (asking run) { ctrls := [{ code := 5, arg := 4, owner := .engine 5 2, since := 0, sentAt := 0 }] }), 3, (headF true 16), 4, 4,
     { code := 5, arg := 4, owner := .engine 5 2, since := 0, sentAt := 0 }, by decide +kernel⟩,
   ⟨(linked (asking run) { ctrls := [{ code := 1, arg := 4, owner := .engine 5 2, since := 999990, sentAt := 0 }] }), 3, 1, 4,
     { code := 1, arg := 4, owner := .engine 5 2, since := 999990, sentAt := 0 }, by decide +kernel⟩,
   ⟨(linked (asking run) { ctrls := [{ code := 3, arg := 4, owner := .engine 5 2, since := 0, sentAt := 0 }] }), 3, 3, 4,
     { code := 3, arg := 4, owner := .engine 5 2, since := 0, sentAt := 0 }, by decide +kernel⟩⟩

theorem witness_PortStreams :
    (∃ (s : State) (p _stream : Fin 8) (h : FrameHead) (_sealOk : Bool) (_off : BitVec 64) (len : BitVec 13) (_diffs : List (BitVec 11))
      (_uncorr : Bool) (_b : Bulk), s.portUp = true ∧ s.pstate p = 3 ∧ (headOk h (20 + len.toNat) = false ∨ len.toNat < 32 ∨ 4096 < len.toNat ∨
      len.toNat % 32 ≠ 0)) ∧
    (∃ (s : State) (p stream : Fin 8) (h : FrameHead) (sealOk : Bool) (off : BitVec 64) (len : BitVec 13) (_diffs : List (BitVec 11)) (uncorr :
      Bool) (b : Bulk), s.portUp = true ∧ s.pstate p = 3 ∧ headOk h (20 + len.toNat) = true ∧ h.isSealed = (s.port p).up ∧ ((s.port p).up = true
      → sealOk = true) ∧ 32 ≤ len.toNat ∧ len.toNat ≤ 4096 ∧ len.toNat % 32 = 0 ∧ uncorr = false ∧ Tab.get none (s.port p).ins stream = some b ∧
      off.toNat = b.done ∧ b.done + len.toNat ≤ b.len + 31) ∧
    (∃ (s : State) (p stream : Fin 8) (h : FrameHead) (sealOk : Bool) (off : BitVec 64) (len : BitVec 13) (_diffs : List (BitVec 11)) (uncorr :
      Bool) (b : Bulk), s.portUp = true ∧ s.pstate p = 3 ∧ headOk h (20 + len.toNat) = true ∧ h.isSealed = (s.port p).up ∧ ((s.port p).up = true
      → sealOk = true) ∧ 32 ≤ len.toNat ∧ len.toNat ≤ 4096 ∧ len.toNat % 32 = 0 ∧ uncorr = false ∧ Tab.get none (s.port p).ins stream = some b ∧
      (off.toNat ≠ b.done ∨ b.len + 31 < b.done + len.toNat)) ∧
    (∃ (s : State) (p stream : Fin 8) (h : FrameHead) (sealOk : Bool) (off : BitVec 64) (_credit : BitVec 32) (b : Bulk), s.portUp = true ∧
      s.pstate p = 3 ∧ headOk h 24 = true ∧ h.isSealed = (s.port p).up ∧ ((s.port p).up = true → sealOk = true) ∧ Tab.get none (s.port p).outs
      stream = some b ∧ b.done < off.toNat ∧ off.toNat < b.len) ∧
    (∃ (s : State) (p stream : Fin 8) (h : FrameHead) (sealOk : Bool) (off : BitVec 64) (_credit : BitVec 32) (b : Bulk), s.portUp = true ∧
      s.pstate p = 3 ∧ headOk h 24 = true ∧ h.isSealed = (s.port p).up ∧ ((s.port p).up = true → sealOk = true) ∧ Tab.get none (s.port p).outs
      stream = some b ∧ b.done ≤ off.toNat ∧ b.len ≤ off.toNat ∧ off.toNat ≤ b.len + 31) ∧
    (∃ (s : State) (p stream : Fin 8) (b : Bulk), s.portUp = true ∧ s.pstate p = 3 ∧ Tab.get none (s.port p).outs stream = some b ∧ b.progressAt
      + 20 ≤ s.bootUs ∧ b.timeouts < 2) ∧
    (∃ (s : State) (p stream : Fin 8) (b : Bulk), s.portUp = true ∧ s.pstate p = 3 ∧ Tab.get none (s.port p).outs stream = some b ∧ b.progressAt
      + 20 ≤ s.bootUs ∧ 2 ≤ b.timeouts) ∧
    (∃ (s : State) (p : Fin 8) (f : SecFrame), s.portUp = true ∧ s.pstate p = 3 ∧ (s.port p).setup = 2 ∧ secHeadOk f.head = true ∧ f.message = 2
      ∧ f.fragment.toNat = (s.port p).fragments ∧ f.last = false) ∧
    (∃ (s : State) (p : Fin 8) (f : SecFrame), s.portUp = true ∧ s.pstate p = 3 ∧ (s.port p).setup = 2 ∧ secHeadOk f.head = true ∧ f.message = 2
      ∧ f.fragment.toNat = (s.port p).fragments ∧ f.last = true ∧ f.certOk = true ∧ f.sigOk = true ∧ s.bit SEC_LOCK.debug_open 0 = false ∧
      f.die.toNat = (s.ward p).die) ∧
    (∃ (s : State) (p : Fin 8) (f : SecFrame), s.portUp = true ∧ s.pstate p = 3 ∧ (s.port p).setup = 2 ∧ secHeadOk f.head = true ∧ f.message = 2
      ∧ f.fragment.toNat = (s.port p).fragments ∧ f.last = true ∧ (f.certOk = false ∨ f.sigOk = false ∨ s.bit SEC_LOCK.debug_open 0 = true ∨
      f.die.toNat ≠ (s.ward p).die)) ∧
    (∃ (s : State) (p : Fin 8), s.portUp = true ∧ s.pstate p = 3 ∧ (s.port p).up = true ∧ (s.port p).setup = 0 ∧ (2 ^ 39 ≤ (s.port p).sealedOut
      ∨ 2 ^ 39 ≤ (s.port p).sealedIn ∨ (s.port p).secAt + 86400000000 ≤ s.bootUs)) :=
  ⟨⟨(linked run (inBulk { len := 4096, done := 32 })), 3, 4, (headF true 53), true, 64, 33, [], false, { len := 4096, done := 32 }, by decide +kernel⟩,
   ⟨(linked run (inBulk { len := 4096, done := 32 })), 3, 4, (headF true 4084), true, 32, 4064, [], false, { len := 4096, done := 32 }, by decide +kernel⟩,
   ⟨(linked run (inBulk { len := 4096, done := 32 })), 3, 4, (headF true 52), true, 64, 32, [], false, { len := 4096, done := 32 }, by decide +kernel⟩,
   ⟨(linked run (outBulk { len := 4096, done := 32 })), 3, 4, (headF true 24), true, 64, 0xFFFFFFFF, { len := 4096, done := 32 }, by decide +kernel⟩,
   ⟨(linked run (outBulk { len := 4096, done := 32 })), 3, 4, (headF true 24), true, 4096, 0, { len := 4096, done := 32 }, by decide +kernel⟩,
   ⟨(linked run (outBulk { len := 4096, done := 32 })), 3, 4, { len := 4096, done := 32 }, by decide +kernel⟩,
   ⟨(linked run (outBulk { len := 4096, done := 32, timeouts := 2 })), 3, 4, { len := 4096, done := 32, timeouts := 2 }, by decide +kernel⟩,
   ⟨(warded (linked run { setup := 2, fragments := 1 }) { die := 77 }), 3, (secF 1 false), by decide +kernel⟩,
   ⟨(warded (linked run { setup := 2, fragments := 1 }) { die := 77 }), 3, (secF 1 true), by decide +kernel⟩,
   ⟨(warded (linked run { setup := 2, fragments := 1 }) { die := 78 }), 3, (secF 1 true), by decide +kernel⟩,
   ⟨(linked run { up := true, sealedOut := 549755813888 }), 3, by decide +kernel⟩⟩

theorem witness_LaserSources :
    (∃ (s : State) (k : Fin 18), s.laserUp = true ∧ s.bit WPORT_LSCFG.lock k = false ∧ s.feedsLinked k = false) ∧
    (∃ (s : State) (k : Fin 18), s.laserUp = true ∧ s.bit WPORT_LSCFG.lock k = false ∧ s.feedsLinked k = true) ∧
    (∃ (s : State) (k : Fin 18) (v : LaserRead), s.laserUp = true ∧ (s.laser k).polledAt + 1000 ≤ s.bootUs ∧ v.pmeas.toNat % 100 = 0) ∧
    (∃ (s : State) (k : Fin 18) (v : LaserRead), s.laserUp = true ∧ (s.laser k).polledAt + 1000 ≤ s.bootUs ∧ laserBad v.stat.toNat = true ∧ s.rd
      WPORT_LSSTAT.state k ≠ 4) ∧
    (∃ (s : State) (k : Fin 18) (_v : LaserRead), s.laserUp = true ∧ (s.laser k).polledAt + 1000 ≤ s.bootUs ∧ s.bit WPORT_LSSTAT.present k =
      true ∧ (s.laser k).misses + 1 = 3 ∧ s.rd WPORT_LSSTAT.state k ≠ 4) ∧
    (∃ (s : State) (k : Fin 18) (stat : BitVec 4), s.laserUp = true ∧ (s.laser k).address.isSome = true ∧ laserBad stat.toNat = true ∧ s.rd
      WPORT_LSSTAT.state k ≠ 4) ∧
    (∃ (s : State) (k : Fin 18) (stat : BitVec 4), s.laserUp = true ∧ (s.laser k).address.isSome = true ∧ laserBad stat.toNat = false) ∧
    (∃ (s : State) (k : Fin 18) (_which : Fin 4), s.laserUp = true ∧ (s.rd WPORT_LSSTAT.state k = 1 ∨ s.rd WPORT_LSSTAT.state k = 2) ∧ s.rd
      WPORT_LSCFG.p_probe k * 100 < s.laserPower k) ∧
    (∃ (s : State) (k : Fin 18), s.laserUp = true ∧ s.rd WPORT_LSSTAT.state k ≤ 3) ∧
    (∃ (s : State) (k : Fin 18) (r : Option LaserRead) (at_ : Nat) (fault : Bool), s.laserUp = true ∧ (s.laser k).reduced = some (at_, fault) ∧
      at_ + 1000 ≤ s.bootUs ∧ (r.map (s.laserSettled k fault)).getD false = true) ∧
    (∃ (s : State) (k : Fin 18) (r : Option LaserRead) (at_ : Nat) (fault : Bool), s.laserUp = true ∧ (s.laser k).reduced = some (at_, fault) ∧
      at_ + 1000 ≤ s.bootUs ∧ (r.map (s.laserSettled k fault)).getD false = false) ∧
    (∃ (s : State) (b : BitVec 3), s.laserUp = true ∧ b.toNat ≤ 4 ∧ b.toNat ∈ s.lasers.shut ∧ (∀ k ∈ busSources b.toNat, laserBad (s.laser
      k).stat = false ∧ (s.laser k).misses ≠ 3)) ∧
    (∃ (s : State) (b : BitVec 3), s.laserUp = true ∧ b.toNat ≤ 4 ∧ b.toNat ∉ s.lasers.shut ∧ (∀ k ∈ busSources b.toNat, laserBad (s.laser
      k).stat = false ∧ (s.laser k).misses ≠ 3)) ∧
    (∃ (s : State) (b : BitVec 3), s.laserUp = true ∧ b.toNat ≤ 4 ∧ (∃ k ∈ busSources b.toNat, laserBad (s.laser k).stat = true ∨ (s.laser
      k).misses = 3)) :=
  ⟨⟨(lit run), 6, by decide +kernel⟩,
   ⟨(linked (lit run) {} 2), 6, by decide +kernel⟩,
   ⟨(lit run), 6, { pmeas := 1200, stat := 1, temp := 0x8000 }, by decide +kernel⟩,
   ⟨(lit run), 6, { pmeas := 1200, stat := 2, temp := 0x7FFF }, by decide +kernel⟩,
   ⟨((lit run { misses := 2 }).wr WPORT_LSSTAT.present 6 1), 6, { pmeas := 1200, stat := 4, temp := 0x7FFF }, by decide +kernel⟩,
   ⟨(lit run), 6, 2, by decide +kernel⟩,
   ⟨(lit run), 6, 8, by decide +kernel⟩,
   ⟨((lit run).wr WPORT_LSSTAT.state 6 2), 6, 1, by decide +kernel⟩,
   ⟨(lit run { commit := 13107200, address := some 9 }), 6, by decide +kernel⟩,
   ⟨(lit run { reduced := some (999000, true) }), 6, (some { pmeas := 1200, stat := 0, temp := 0 }), 999000, true, by decide +kernel⟩,
   ⟨(lit run { reduced := some (999000, true) }), 6, none, 999000, true, by decide +kernel⟩,
   ⟨{ lit run with lasers := { (lit run).lasers with shut := [2] } }, 2, by decide +kernel⟩,
   ⟨(lit run), 2, by decide +kernel⟩,
   ⟨(lit run { misses := 3 }), 2, by decide +kernel⟩⟩

theorem witness_WardCommands :
    (∃ (s : State) (w : Fin 8) (via : Via), s.wardGiven via w 1 = true ∧ s.shadow_ = true) ∧
    (∃ (s : State) (w : Fin 8) (via : Via), s.wardGiven via w 1 = true ∧ s.shadow_ = false ∧ (s.ward w).state = 0 ∨ (s.ward w).state = 14) ∧
    (∃ (s : State) (w : Fin 8) (via : Via), s.wardGiven via w 2 = true ∧ s.shadow_ = false ∧ 1 ≤ (s.ward w).state ∧ (s.ward w).state ≤ 10) ∧
    (∃ (s : State) (w : Fin 8) (via : Via), s.wardGiven via w 2 = true ∧ s.shadow_ = false ∧ (s.ward w).state = 0 ∨ (s.ward w).state = 12) ∧
    (∃ (s : State) (w : Fin 8) (via : Via), s.wardGiven via w 2 = true ∧ s.shadow_ = false ∧ (s.ward w).state = 11 ∨ 13 ≤ (s.ward w).state) ∧
    (∃ (s : State) (w : Fin 8) (via : Via), s.wardGiven via w 3 = true ∧ s.shadow_ = false ∧ (s.ward w).state = 0 ∨ (s.ward w).state = 14) ∧
    (∃ (s : State) (w : Fin 8) (via : Via), s.wardGiven via w 3 = true ∧ s.shadow_ = false ∧ (s.ward w).state ≠ 0 ∧ (s.ward w).state ≠ 14) ∧
    (∃ (s : State) (w : Fin 8) (via : Via), s.wardGiven via w 4 = true ∧ s.shadow_ = false ∧ (s.ward w).state = 14) ∧
    (∃ (s : State) (w : Fin 8) (via : Via), s.wardGiven via w 4 = true ∧ s.shadow_ = false ∧ (s.ward w).state = 0) ∧
    (∃ (s : State) (w : Fin 8) (via : Via), s.wardGiven via w 4 = true ∧ s.shadow_ = false ∧ (s.ward w).state ≠ 0 ∧ (s.ward w).state ≠ 14) ∧
    (∃ (s : State) (w : Fin 8), s.fwUp = true ∧ s.shadow_ = false ∧ ((s.trayWard w).map (·.autoUp)).getD false = true ∧ (s.ward w).autoOff =
      false ∧ (s.ward w).state = 0 ∧ s.leakStands w = false ∧ s.admitted = true ∧ s.upRefusal w = none) ∧
    (∃ (s : State) (w : Fin 8), s.fwUp = true ∧ s.shadow_ = false ∧ (s.ward w).state = 1 ∧ (s.ward w).upDue = true ∧ s.gstate w = 0 ∧ (s.ward
      w).leaving = false ∧ (∀ v < w.val, (s.ward v).state ≠ 1 ∨ (s.ward v).upDue = false) ∧ s.staggered w = true ∧ s.leakStands w = false) ∧
    (∃ (s : State) (pattern : Bool) (wt : BitVec 32) (ok : Bool), s.fwUp = true ∧ s.bit DEV_STAT.mem_active 0 = true ∧ s.secure.copying = none ∧
      s.copyNext = some (pattern, wt.toNat) ∧ ok = true) ∧
    (∃ (s : State) (pattern : Bool) (wt : BitVec 32) (ok : Bool), s.fwUp = true ∧ s.bit DEV_STAT.mem_active 0 = true ∧ s.secure.copying = none ∧
      s.copyNext = some (pattern, wt.toNat) ∧ ok = false) :=
  ⟨⟨(shadowed (wardAt 0)), 3, .firmware, by decide +kernel⟩,
   ⟨(wardAt 0), 3, .firmware, by decide +kernel⟩,
   ⟨(wardAt 1), 3, .firmware, by decide +kernel⟩,
   ⟨(wardAt 0), 3, .firmware, by decide +kernel⟩,
   ⟨(wardAt 11), 3, .firmware, by decide +kernel⟩,
   ⟨(wardAt 0), 3, .firmware, by decide +kernel⟩,
   ⟨(wardAt 1 { upDue := true }), 3, .firmware, by decide +kernel⟩,
   ⟨(cmdW (wardAt 14) 3 4), 3, (.ring 2 9), by decide +kernel⟩,
   ⟨(wardAt 0), 3, .firmware, by decide +kernel⟩,
   ⟨(wardAt 5), 3, .firmware, by decide +kernel⟩,
   ⟨(ins (wardAt 0) 2), 3, by decide +kernel⟩,
   ⟨((ins (wardAt 1 { upDue := true }) 2).wr ZIT_GSTAT.state 3 0), 3, by decide +kernel⟩,
   ⟨((trayed run).wr DEV_STAT.mem_active 0 1), true, 9, true, by decide +kernel⟩,
   ⟨((wardAt 4 { deadFrom := none }).wr DEV_STAT.mem_active 0 1), true, 9, false, by decide +kernel⟩⟩

theorem witness_WardSteps :
    (∃ (s : State) (w cause n retries : Nat), n = (if (countedCause cause && !inService (s.ward w).state) = true then min 255 ((s.ward
      w).attempts + 1) else (s.ward w).attempts) ∧ retries = ((s.trayWard w).map (·.retries.toNat)).getD 0) ∧
    (∃ (s : State) (w : Fin 8) (stat seq : BitVec 32) (mem : BitVec 16) (ring : BitVec 32), s.fwUp = true ∧ s.portUp = true ∧ s.shadow_ = false
      ∧ s.linked w = true ∧ stepping (s.ward w).state = true ∧ (s.ward w).sub = 2 ∧ (s.ward w).leaving = false ∧ (s.ward w).op ≠ 0 ∧ stat.toNat
      / 16777216 = (s.ward w).op ∧ stat.toNat / 65536 % 256 ≠ St.busy ∧ seq.toNat = ((s.ward w).opSeq + 1) % 4294967296 ∧ (s.ward w).op ≠ 3 ∨
      noneTraining mem ring = true) ∧
    (∃ (s : State) (w : Fin 8) (stat seq : BitVec 32) (_mem : BitVec 16) (_ring : BitVec 32), s.fwUp = true ∧ s.portUp = true ∧ s.shadow_ =
      false ∧ (stat.toNat / 65536 % 256 = St.busy ∨ seq.toNat ≠ ((s.ward w).opSeq + 1) % 4294967296)) ∧
    (∃ (s : State) (w : Fin 8) (ms from_ : Nat), s.fwUp = true ∧ s.shadow_ = false ∧ (s.ward w).leaving = false ∧ (s.ward w).state ≠ 12 ∧
      (s.trayWard w).bind (stepMs · (s.ward w).state) = some ms ∧ (s.ward w).deadFrom = some from_ ∧ from_ + ms * 1000 ≤ s.bootUs) :=
  ⟨⟨(wardAt 4), 3, 5, 1, 2, by decide +kernel⟩,
   ⟨(wardAt 5 { sub := 2, op := 2, opSeq := 7 } (linked run)), 3, 0x02000000, 8, 0, 0, by decide +kernel⟩,
   ⟨(wardAt 5 { sub := 2, op := 2, opSeq := 7 } (linked run)), 3, 0x02080000, 8, 0, 0, by decide +kernel⟩,
   ⟨(wardAt 4 { deadFrom := some 0 }), 3, 100, 0, by decide +kernel⟩⟩

theorem witness_ResetSequences :
    (∃ (s : State) (w : Fin 8) (target : BitVec 16) (via : Via) (op : Nat) (c : Instr), s.fwUp = true ∧ (op, c) ∈ [(1, Instr.coreReset w target
      via), (2, .partitionReset w target via), (3, .partitionOff w target via), (4, .partitionOn w target via)] ∧ s.given via 0x0303 (fun d =>
      descParam d 0x2C 1 == w.val && descParam d 0x2D 1 == op && descParam d 0x2E 2 == target.toNat) = true ∧ s.seqRefusal w op target.toNat =
      none ∧ op = 1) ∧
    (∃ (s : State) (w : Fin 8) (target : BitVec 16) (via : Via) (op : Nat) (c : Instr), s.fwUp = true ∧ (op, c) ∈ [(1, Instr.coreReset w target
      via), (2, .partitionReset w target via), (3, .partitionOff w target via), (4, .partitionOn w target via)] ∧ s.given via 0x0303 (fun d =>
      descParam d 0x2C 1 == w.val && descParam d 0x2D 1 == op && descParam d 0x2E 2 == target.toNat) = true ∧ s.seqRefusal w op target.toNat =
      none ∧ op = 4) ∧
    (∃ (s : State) (w : Fin 8) (target : BitVec 16) (via : Via) (op : Nat) (c : Instr), s.fwUp = true ∧ (op, c) ∈ [(1, Instr.coreReset w target
      via), (2, .partitionReset w target via), (3, .partitionOff w target via), (4, .partitionOn w target via)] ∧ s.given via 0x0303 (fun d =>
      descParam d 0x2C 1 == w.val && descParam d 0x2D 1 == op && descParam d 0x2E 2 == target.toNat) = true ∧ s.seqRefusal w op target.toNat =
      none ∧ (op = 2 ∨ op = 3)) ∧
    (∃ (s : State) (w : Fin 8) (_stat _seq : BitVec 32) (q : ResetSeq), s.fwUp = true ∧ s.portUp = true ∧ s.pstate w = 3 ∧ (s.ward w).seq = some
      q ∧ q.step ≠ 3) ∧
    (∃ (s : State) (w : Fin 8) (stat seq : BitVec 32) (q : ResetSeq), s.fwUp = true ∧ s.portUp = true ∧ s.pstate w = 3 ∧ (s.ward w).seq = some q
      ∧ q.step = 3 ∧ stat.toNat / 16777216 = q.running ∧ stat.toNat / 65536 % 256 ≠ St.busy ∧ seq.toNat ≠ (s.ward w).rstSeq) ∧
    (∃ (s : State) (w : Fin 8) (stat seq : BitVec 32) (q : ResetSeq), s.fwUp = true ∧ s.portUp = true ∧ s.pstate w = 3 ∧ (s.ward w).seq = some q
      ∧ q.step = 3 ∧ (stat.toNat / 16777216 ≠ q.running ∨ stat.toNat / 65536 % 256 = St.busy ∨ seq.toNat = (s.ward w).rstSeq) ∧ q.stepAt + 10000
      ≤ s.bootUs) ∧
    (∃ (_s : State) (_w : Nat) (q : ResetSeq), q.op = 3) ∧
    (∃ (_s : State) (_w : Nat) (q : ResetSeq), q.op = 4) :=
  ⟨⟨(wardAt 11 { block := [(8, 0x00100010), (10, 1)] } (linked run)), 3, 4, .firmware, 1, (.coreReset 3 4 .firmware), by decide +kernel⟩,
   ⟨(wardAt 11 { partsOff := 16, block := [(8, 0x00100010), (10, 1)] } (linked run)), 3, 4, .firmware, 4, (.partitionOn 3 4 .firmware), by decide +kernel⟩,
   ⟨(wardAt 11 { block := [(8, 0x00100010), (10, 1)] } (linked run)), 3, 4, .firmware, 2, (.partitionReset 3 4 .firmware), by decide +kernel⟩,
   ⟨(wardAt 11 { seq := some (seqd 2 1), rstSeq := 5 } (linked run)), 3, 0x04000000, 6, (seqd 2 1), by decide +kernel⟩,
   ⟨(wardAt 11 { seq := some (seqd 1 3 1), rstSeq := 5 } (linked run)), 3, 0x01000000, 6, (seqd 1 3 1), by decide +kernel⟩,
   ⟨(wardAt 11 { seq := some (seqd 2 3 4), rstSeq := 5 } (linked run)), 3, 0x04080000, 6, (seqd 2 3 4), by decide +kernel⟩,
   ⟨(wardAt 11 { seq := some (seqd 3 3 5) } (linked run)), 3, (seqd 3 3 5), by decide +kernel⟩,
   ⟨(wardAt 11 { partsOff := 0xFF, seq := some (seqd 4 3 6) } (linked run)), 3, (seqd 4 3 6), by decide +kernel⟩⟩

theorem witness_Rings :
    (∃ (s : State) (r : Fin 32) (v : BitVec 32) (t : State), s.hostUp = true ∧ 2147483648 ≤ v.toNat ∧ t = s.writeFlds [RING_CTL.sq_log2,
      RING_CTL.cq_log2, RING_CTL.int_en, RING_CTL.vector] r v.toNat ∧ s.rd RING_STAT.state r = 1) ∧
    (∃ (s : State) (r : Fin 32) (v : BitVec 32) (t : State), s.hostUp = true ∧ 2147483648 ≤ v.toNat ∧ t = s.writeFlds [RING_CTL.sq_log2,
      RING_CTL.cq_log2, RING_CTL.int_en, RING_CTL.vector] r v.toNat ∧ s.rd RING_STAT.state r ≠ 1 ∧ s.ready = false) ∧
    (∃ (s : State) (r : Fin 32) (v : BitVec 32), s.hostUp = true ∧ v.toNat < 2147483648 ∧ s.rd RING_STAT.state r = 1) ∧
    (∃ (s : State) (r : Fin 32) (v : BitVec 32), s.hostUp = true ∧ v.toNat < 2147483648 ∧ s.rd RING_STAT.state r ≠ 1) ∧
    (∃ (s : State) (r : Fin 32) (v : BitVec 32), s.hostUp = true ∧ s.rd RING_STAT.state r = 1 ∧ v.toNat % 4096 < s.sqSize r) ∧
    (∃ (s : State) (r : Fin 32) (v : BitVec 32), s.hostUp = true ∧ s.rd RING_STAT.state r = 1 ∧ s.sqSize r ≤ v.toNat % 4096) ∧
    (∃ (s : State) (r : Fin 32) (v : BitVec 32), s.hostUp = true ∧ s.rd RING_STAT.state r = 1 ∧ v.toNat % 4096 < s.cqSize r) ∧
    (∃ (s : State) (r : Fin 32) (v : BitVec 32), s.hostUp = true ∧ s.rd RING_STAT.state r = 1 ∧ s.cqSize r ≤ v.toNat % 4096) ∧
    (∃ (s : State) (r : Fin 32), s.hostUp = true ∧ s.rd RING_STAT.state r = 1 ∧ s.rd SQ_HEAD.index r ≠ s.rd DB_SQ.index r ∧ (s.pair
      r).out.length < 8 ∧ 0 < s.cqFree r) ∧
    (∃ (s : State) (r : Fin 32) (from_ : Nat), s.hostUp = true ∧ s.bit RING_CTL.int_en r = true ∧ s.rd RING_COAL.coal_us r ≠ 0 ∧ (s.pair
      r).firstAt = some from_ ∧ from_ + s.rd RING_COAL.coal_us r ≤ s.bootUs) ∧
    (∃ (s : State) (_v : BitVec 32), s.hostUp = true) ∧
    (∃ (s : State) (r : Fin 32) (slot : BitVec 12) (_write : Bool) (f : Fetched), s.hostUp = true ∧ s.rd RING_STAT.state r = 1 ∧ s.fetched r
      slot.toNat = some f) ∧
    (∃ (s : State) (r : Fin 32) (_slot : BitVec 12) (_write : Bool) (_f : Fetched), s.hostUp = true ∧ s.rd RING_STAT.state r = 1 ∧ s.rd
      SQ_HEAD.index r ≠ s.rd DB_SQ.index r) :=
  ⟨⟨(given 1 0), 2, 0x8440BF00, (State.writeFlds (given 1 0) [RING_CTL.sq_log2, RING_CTL.cq_log2, RING_CTL.int_en, RING_CTL.vector] 2 0x8440BF00),
     by decide +kernel⟩,
   ⟨((hosted).wr DEV_STAT.mode 0 2), 2, 0x84408000,
     (State.writeFlds ((hosted).wr DEV_STAT.mode 0 2) [RING_CTL.sq_log2, RING_CTL.cq_log2, RING_CTL.int_en, RING_CTL.vector] 2 0x84408000),
     by decide +kernel⟩,
   ⟨(subbed aSub (given 1 0)), 2, 0, by decide +kernel⟩,
   ⟨hosted, 2, 0x7FFFFFFF, by decide +kernel⟩,
   ⟨(given 1 0), 2, 15, by decide +kernel⟩,
   ⟨(given 1 0), 2, 16, by decide +kernel⟩,
   ⟨(given 1 0), 2, 15, by decide +kernel⟩,
   ⟨(given 1 0), 2, 16, by decide +kernel⟩,
   ⟨((((hosted run).wr RING_STAT.state 2 1).wr DB_SQ.index 2 5)), 2, by decide +kernel⟩,
   ⟨((({ hosted with host := { hosted.host with pairs := Tab.set {} [] 2 { unsent := 3, firstAt := some 5 } } }).wr RING_CTL.int_en 2 1).wr RING_COAL.coal_us 2 65535),
     2, 5, by decide +kernel⟩,
   ⟨((hosted.wr INT_CAUSE.event 0 1).wr INT_CAUSE.dma_err 0 1), 0xFFFFFFFF, by decide +kernel⟩,
   ⟨(given 1 0), 2, 9, true, { slot := 9, desc := desc 1 0, order := 0 }, by decide +kernel⟩,
   ⟨(given 1 0 |>.wr DB_SQ.index 2 5), 2, 9, false, { slot := 9, desc := desc 1 0, order := 0 }, by decide +kernel⟩⟩

theorem witness_HostMemory :
    (∃ (s u : State) (write : Bool) (line : BitVec 30) (data : BitVec 512) (bad0 bad1 : BitVec 280) (a : Nat) (c : Instr), s.hostUp = true ∧
      s.host.linkUp = true ∧ s.host.decoder = true ∧ a = line.toNat * 64 ∧ (s.region a).isSome = true ∧ u = (s.hbmUpset a bad0).hbmUpset (a +
      32) bad1 ∧ c = .hdmAccess write line data bad0 bad1 ∧ s.bit DEV_STAT.mem_active 0 = false ∧ write = false) ∧
    (∃ (s u : State) (write : Bool) (line : BitVec 30) (data : BitVec 512) (bad0 bad1 : BitVec 280) (a : Nat) (c : Instr), s.hostUp = true ∧
      s.host.linkUp = true ∧ s.host.decoder = true ∧ a = line.toNat * 64 ∧ (s.region a).isSome = true ∧ u = (s.hbmUpset a bad0).hbmUpset (a +
      32) bad1 ∧ c = .hdmAccess write line data bad0 bad1 ∧ s.bit DEV_STAT.mem_active 0 = false ∧ write = true) ∧
    (∃ (s u : State) (write : Bool) (line : BitVec 30) (data : BitVec 512) (bad0 bad1 : BitVec 280) (a : Nat) (c : Instr), s.hostUp = true ∧
      s.host.linkUp = true ∧ s.host.decoder = true ∧ a = line.toNat * 64 ∧ (s.region a).isSome = true ∧ u = (s.hbmUpset a bad0).hbmUpset (a +
      32) bad1 ∧ c = .hdmAccess write line data bad0 bad1 ∧ s.bit DEV_STAT.mem_active 0 = true ∧ write = true ∧ s.region a = some .staging ∧
      s.bit HDM_WCTL.stage_open 0 = true ∧ s.windowRead = false) ∧
    (∃ (s u : State) (write : Bool) (line : BitVec 30) (data : BitVec 512) (bad0 bad1 : BitVec 280) (a : Nat) (c : Instr), s.hostUp = true ∧
      s.host.linkUp = true ∧ s.host.decoder = true ∧ a = line.toNat * 64 ∧ (s.region a).isSome = true ∧ u = (s.hbmUpset a bad0).hbmUpset (a +
      32) bad1 ∧ c = .hdmAccess write line data bad0 bad1 ∧ s.bit DEV_STAT.mem_active 0 = true ∧ write = true ∧ (s.region a ≠ some .staging ∨
      s.bit HDM_WCTL.stage_open 0 = false ∨ s.windowRead = true)) ∧
    (∃ (s u : State) (write : Bool) (line : BitVec 30) (data : BitVec 512) (bad0 bad1 : BitVec 280) (a : Nat) (c : Instr), s.hostUp = true ∧
      s.host.linkUp = true ∧ s.host.decoder = true ∧ a = line.toNat * 64 ∧ (s.region a).isSome = true ∧ u = (s.hbmUpset a bad0).hbmUpset (a +
      32) bad1 ∧ c = .hdmAccess write line data bad0 bad1 ∧ s.bit DEV_STAT.mem_active 0 = true ∧ write = false ∧ (s.region a = some .models ∨
      s.region a = some .working)) ∧
    (∃ (s : State) (_gib : BitVec 16) (_ways : BitVec 8), s.hostUp = true ∧ s.host.linkUp = true) ∧
    (∃ (s u : State) (write : Bool) (line : BitVec 30) (data : BitVec 512) (bad0 bad1 : BitVec 280) (a : Nat) (c : Instr), s.hostUp = true ∧
      s.host.linkUp = true ∧ s.host.decoder = true ∧ a = line.toNat * 64 ∧ (s.region a).isSome = true ∧ u = (s.hbmUpset a bad0).hbmUpset (a +
      32) bad1 ∧ c = .hdmAccess write line data bad0 bad1 ∧ s.bit DEV_STAT.mem_active 0 = true ∧ write = false ∧ s.region a ≠ some .models ∧
      s.region a ≠ some .working) :=
  ⟨⟨hosted, _, false, 0, 0xFF55, 0, 0, 0, _, by exact ⟨by decide +kernel, by decide +kernel, by decide +kernel, by decide +kernel, by decide +kernel, rfl, rfl, by decide +kernel, by decide +kernel⟩⟩,
   ⟨hosted, _, true, 0, 0xFF55, 0, 0, 0, _, by exact ⟨by decide +kernel, by decide +kernel, by decide +kernel, by decide +kernel, by decide +kernel, rfl, rfl, by decide +kernel, by decide +kernel⟩⟩,
   ⟨((hosted.wr DEV_STAT.mem_active 0 1).wr HDM_WCTL.stage_open 0 1), _, true, 0x30000000, 0xFF55, 0, 0, 0xC00000000, _,
     by exact ⟨by decide +kernel, by decide +kernel, by decide +kernel, by decide +kernel, by decide +kernel, rfl, rfl, by decide +kernel, by decide +kernel, by decide +kernel, by decide +kernel, by decide +kernel⟩⟩,
   ⟨((hosted.wr DEV_STAT.mem_active 0 1).wr HDM_WCTL.stage_open 0 1), _, true, 5, 0xFF55, 0, 0, 320, _,
     by exact ⟨by decide +kernel, by decide +kernel, by decide +kernel, by decide +kernel, by decide +kernel, rfl, rfl, by decide +kernel, by decide +kernel, by decide +kernel⟩⟩,
   ⟨(hosted.wr DEV_STAT.mem_active 0 1), _, false, 0x38000000, 0xFF55, 0, 0, 0xE00000000, _,
     by exact ⟨by decide +kernel, by decide +kernel, by decide +kernel, by decide +kernel, by decide +kernel, rfl, rfl, by decide +kernel, by decide +kernel, by decide +kernel⟩⟩,
   ⟨hosted, 64, 1, by decide +kernel⟩,
   ⟨(hosted.wr DEV_STAT.mem_active 0 1), _, false, 5, 0xFF55, 0, 0, 320, _,
     by exact ⟨by decide +kernel, by decide +kernel, by decide +kernel, by decide +kernel, by decide +kernel, rfl, rfl, by decide +kernel, by decide +kernel, by decide +kernel, by decide +kernel⟩⟩⟩

theorem witness_HostDescriptors :
    (∃ (s : State) (r : Fin 32) (slot : BitVec 12), s.given (.ring r slot) 0x0001 (fun _ => true) = true) ∧
    (∃ (s : State) (r : Fin 32) (slot : BitVec 12), s.given (.ring r slot) 0x0002 (fun _ => true) = true) ∧
    (∃ (s : State) (r : Fin 32) (slot : BitVec 12) (d : Desc) (t : Nat), s.fwUp = true ∧ s.given (.ring r slot) 0x0003 (fun _ => true) = true ∧
      s.descOf (.ring r slot) = some d ∧ t = descParam d 0x34 8) ∧
    (∃ (s : State) (r : Fin 32) (slot : BitVec 12) (d : Desc), s.fwUp = true ∧ s.given (.ring r slot) 0x0100 (fun _ => true) = true ∧ s.descOf
      (.ring r slot) = some d ∧ s.host.subs.length < 256) ∧
    (∃ (s : State) (r : Fin 32) (slot : BitVec 12) (d : Desc), s.fwUp = true ∧ s.given (.ring r slot) 0x0100 (fun _ => true) = true ∧ s.descOf
      (.ring r slot) = some d ∧ 256 ≤ s.host.subs.length) ∧
    (∃ (s : State) (r : Fin 32) (slot : BitVec 12) (d : Desc), s.fwUp = true ∧ s.given (.ring r slot) 0x0101 (fun _ => true) = true ∧ s.descOf
      (.ring r slot) = some d ∧ s.sub (descParam d 0x2C 2) = none) ∧
    (∃ (s : State) (k : BitVec 16) (x : Sub) (e : Nat × Nat) (l : List (Nat × Nat)), s.hostUp = true ∧ s.ready = true ∧ s.sub k.toNat = some x ∧
      x.due = e :: l ∧ 64 ≤ x.held.length ∧ 0 < s.cqFree x.pair) ∧
    (∃ (s : State) (k : BitVec 16) (x : Sub) (e : Nat × Nat) (l : List (Nat × Nat)), s.hostUp = true ∧ s.ready = true ∧ s.sub k.toNat = some x ∧
      x.due = e :: l ∧ x.held.length < 64) ∧
    (∃ (s : State) (k : BitVec 16) (x : Sub) (e : Nat × Nat) (l : List (Nat × Nat)), s.hostUp = true ∧ s.ready = true ∧ s.sub k.toNat = some x ∧
      x.due = e :: l ∧ 64 ≤ x.held.length ∧ s.cqFree x.pair = 0) ∧
    (∃ (s : State) (r : Fin 32) (slot : BitVec 12) (d : Desc) (area : Nat) (l : List Rec), s.fwUp = true ∧ s.given (.ring r slot) 0x0200 (fun _
      => true) = true ∧ s.descOf (.ring r slot) = some d ∧ area = descParam d 0x2C 1 ∧ l = (s.areaRecords area (descParam d 0x30 8)).take
      (descParam d 0x38 4) ∧ (area ≠ 2 ∨ s.bit DEV_STAT.mem_active 0 = true)) ∧
    (∃ (s : State) (r : Fin 32) (slot : BitVec 12) (d : Desc) (area : Nat) (l : List Rec), s.fwUp = true ∧ s.given (.ring r slot) 0x0200 (fun _
      => true) = true ∧ s.descOf (.ring r slot) = some d ∧ area = descParam d 0x2C 1 ∧ l = (s.areaRecords area (descParam d 0x30 8)).take
      (descParam d 0x38 4) ∧ area = 2 ∧ s.bit DEV_STAT.mem_active 0 = false) ∧
    (∃ (s : State) (r : Fin 32) (slot : BitVec 12), s.fwUp = true ∧ s.given (.ring r slot) 0x0201 (fun _ => true) = true ∧ s.rd REC_STAT.state 0
      = 0) ∧
    (∃ (s : State) (r : Fin 32) (slot : BitVec 12), s.fwUp = true ∧ s.given (.ring r slot) 0x0201 (fun _ => true) = true ∧ s.rd REC_STAT.state 0
      = 3) ∧
    (∃ (s : State) (r : Fin 32) (slot : BitVec 12), s.fwUp = true ∧ s.given (.ring r slot) 0x0201 (fun _ => true) = true ∧ (Config.sameCycle
      1000000 16 = true → s.sameTrigger = true)) ∧
    (∃ (s : State) (r : Fin 32) (slot : BitVec 12), s.fwUp = true ∧ s.given (.ring r slot) 0x0201 (fun _ => true) = true ∧ s.sameTrigger = false
      ∧ (s.rd REC_STAT.state 0 = 1 ∨ s.rd REC_STAT.state 0 = 2)) ∧
    (∃ (s : State) (r : Fin 32) (slot : BitVec 12), s.fwUp = true ∧ s.given (.ring r slot) 0x0202 (fun _ => true) = true ∧ s.rd REC_STAT.state 0
      = 2) ∧
    (∃ (s : State) (r : Fin 32) (slot : BitVec 12), s.fwUp = true ∧ s.given (.ring r slot) 0x0202 (fun _ => true) = true ∧ s.rd REC_STAT.state 0
      ≠ 2) :=
  ⟨⟨(given 1 0), 2, 9, by decide +kernel⟩,
   ⟨(given 2 0), 2, 9, by decide +kernel⟩,
   ⟨(given 3 0x50000000000000077), 2, 9, (desc 3 0x50000000000000077), 5, by decide +kernel⟩,
   ⟨(given 0x100 0x05012F0101), 2, 9, (desc 0x100 0x05012F0101), by decide +kernel⟩,
   ⟨{ given 0x100 0x05012F0101 with host := { (given 0x100 0x05012F0101).host with subs := (List.range 256).map fun k => (k, aSub) } }, 2, 9,
     (desc 0x100 0x05012F0101), by decide +kernel⟩,
   ⟨(given 0x101 6), 2, 9, (desc 0x101 6), by decide +kernel⟩,
   ⟨(subbed { aSub with due := [(1, 2), (3, 4)], held := List.replicate 64 (0, 0) }), 6,
     { aSub with due := [(1, 2), (3, 4)], held := List.replicate 64 (0, 0) }, (1, 2), [(3, 4)], by decide +kernel⟩,
   ⟨(subbed { aSub with due := [(1, 2), (3, 4)] }), 6, { aSub with due := [(1, 2), (3, 4)] }, (1, 2), [(3, 4)], by decide +kernel⟩,
   ⟨(subbed { aSub with due := [(1, 2), (3, 4)], held := List.replicate 64 (0, 0) } |>.wr CQ_TAIL.index 2 15), 6,
     { aSub with due := [(1, 2), (3, 4)], held := List.replicate 64 (0, 0) }, (1, 2), [(3, 4)], by decide +kernel⟩,
   ⟨{ given 0x200 0x2000000000000000300000000 with burrow := { run.burrow with flash := [logged 5 [1] 3, logged 6 [2] 4, logged 7 [] 9] } }, 2, 9,
     (desc 0x200 0x2000000000000000300000000), 0, [logged 5 [1] 3, logged 6 [2] 4], by decide +kernel⟩,
   ⟨(given 0x200 0x2000000000000000300000002), 2, 9, (desc 0x200 0x2000000000000000300000002), 2, [], by decide +kernel⟩,
   ⟨((given 0x201 100).wr REC_STAT.state 0 0), 2, 9, by decide +kernel⟩,
   ⟨((given 0x201 100).wr REC_STAT.state 0 3), 2, 9, by decide +kernel⟩,
   ⟨((recd id 1 (given 0x201 100)).wr REC_TTICK.tick 0 1000000), 2, 9,
     by exact ⟨by decide +kernel, by decide +kernel, fun h => (Bool.and_eq_true _ _).mpr ⟨by decide +kernel, h⟩⟩⟩,
   ⟨((given 0x201 100).wr REC_STAT.state 0 1), 2, 9, by decide +kernel⟩,
   ⟨((given 0x202 0).wr REC_STAT.state 0 2), 2, 9, by decide +kernel⟩,
   ⟨((given 0x202 0).wr REC_STAT.state 0 1), 2, 9, by decide +kernel⟩⟩

theorem witness_WardDescriptors :
    (∃ (s : State) (r : Fin 32) (slot : BitVec 12) (d : Desc), s.fwUp = true ∧ s.descOf (.ring r slot) = some d ∧ s.given (.ring r slot) 0x0301
      (fun _ => true) = true) ∧
    (∃ (s : State) (w : Fin 8) (r : Fin 32) (slot : BitVec 12) (d : Desc), s.fwUp = true ∧ s.descOf (.ring r slot) = some d ∧ s.given (.ring r
      slot) 0x0304 (fun d => descParam d 0x2C 1 == w.val) = true ∧ (s.ward w).mapped = true) ∧
    (∃ (s : State) (w : Fin 8) (r : Fin 32) (slot : BitVec 12) (d : Desc), s.fwUp = true ∧ s.descOf (.ring r slot) = some d ∧ s.given (.ring r
      slot) 0x0304 (fun d => descParam d 0x2C 1 == w.val) = true ∧ (s.ward w).mapped = false) ∧
    (∃ (s : State) (w : Fin 8) (r : Fin 32) (slot : BitVec 12) (d : Desc) (_data : List (BitVec 32)), s.fwUp = true ∧ s.shadow_ = false ∧
      s.descOf (.ring r slot) = some d ∧ s.given (.ring r slot) 0x0302 (fun d => descParam d 0x2C 1 == w.val) = true ∧ s.linked w = true ∧
      s.secureShut w (descParam d 0x30 6) = false ∧ (s.port w).reqs.length < 64) ∧
    (∃ (s : State) (w : Fin 8) (r : Fin 32) (slot : BitVec 12) (d : Desc) (_data : List (BitVec 32)), s.fwUp = true ∧ s.shadow_ = false ∧
      s.descOf (.ring r slot) = some d ∧ s.given (.ring r slot) 0x0302 (fun d => descParam d 0x2C 1 == w.val) = true ∧ s.linked w = false) ∧
    (∃ (s : State) (r : Fin 32) (slot : BitVec 12) (lic : Licence), s.fwUp = true ∧ s.given (.ring r slot) 0x0305 (fun _ => true) = true ∧
      s.licRefusal lic = none) ∧
    (∃ (s : State) (b : Fin 16) (r : Fin 32) (slot : BitVec 12), s.fwUp = true ∧ s.given (.ring r slot) 0x0402 (fun d => descParam d 0x2C 1 ==
      b.val) = true ∧ s.shadow_ = true) :=
  ⟨⟨(given 0x301 0), 2, 9, (desc 0x301 0), by decide +kernel⟩,
   ⟨(given 0x304 3 (warded run { mapped := true, fuse := 5 })), 3, 2, 9, (desc 0x304 3), by decide +kernel⟩,
   ⟨(given 0x304 3), 3, 2, 9, (desc 0x304 3), by decide +kernel⟩,
   ⟨(given 0x302 0x1000020103 (linked run)), 3, 2, 9, (desc 0x302 0x1000020103), [], by decide +kernel⟩,
   ⟨(given 0x302 0x1000020103), 3, 2, 9, (desc 0x302 0x1000020103), [5], by decide +kernel⟩,
   ⟨(given 0x305 0), 2, 9, goodLicence, by decide +kernel⟩,
   ⟨(shadowed (given 0x402 15)), 15, 2, 9, by decide +kernel⟩⟩

theorem witness_StagingAndCommit :
    (∃ (s : State) (r : Fin 32) (slot : BitVec 12) (part : Component) (room : Bool) (_evict : List (BitVec 384)) (d : Desc), s.fwUp = true ∧
      s.given (.ring r slot) 0x0500 (fun d => descParam d 0x2C 1 == contentType part.content && d.len0 == part.length) = true ∧ s.descOf (.ring
      r slot) = some d ∧ s.stageRefusal (descParam d 0x2C 1) (descParam d 0x2D 1) room = none ∧ descParam d 0x2C 1 = 1) ∧
    (∃ (s u : State) (g : Staging) (sourceOk : Bool), s.fwUp = true ∧ s.secure.staging = some g ∧ u =
      { s with secure := { s.secure with staging := none, cryptoAt := s.bootUs } } ∧ (sourceOk = false ∨ s.windowBad g.via = true)) ∧
    (∃ (s u : State) (g : Staging) (_sourceOk : Bool), s.fwUp = true ∧ s.secure.staging = some g ∧ u =
      { s with secure := { s.secure with staging := none, cryptoAt := s.bootUs } } ∧ s.windowBad g.via = false ∧ g.type ≠ 1) ∧
    (∃ (s : State) (r : Fin 32) (slot : BitVec 12) (_b : Bool), s.fwUp = true ∧ s.given (.ring r slot) 0x0502 (fun _ => true) = true ∧ s.guarded
      = true) ∧
    (∃ (s : State) (r : Fin 32) (slot : BitVec 12) (b : Bool), s.fwUp = true ∧ s.given (.ring r slot) 0x0502 (fun _ => true) = true ∧ s.guarded
      = false ∧ s.running? = some b ∧ (s.slotOf b).state = 2 ∧ (s.slotOf b).expired = false ∧ s.handedWithin 10 = false) ∧
    (∃ (s : State) (r : Fin 32) (slot : BitVec 12) (b : Bool), s.fwUp = true ∧ s.given (.ring r slot) 0x0502 (fun _ => true) = true ∧ s.guarded
      = false ∧ s.running? = some b ∧ (s.slotOf b).state = 2 ∧ (s.slotOf b).expired = true ∨ s.handedWithin 10 = true) ∧
    (∃ (s : State) (r : Fin 32) (slot : BitVec 12) (b : Bool), s.fwUp = true ∧ s.given (.ring r slot) 0x0502 (fun _ => true) = true ∧ s.guarded
      = false ∧ s.running? = some b ∧ (s.slotOf b).state ≠ 2 ∧ s.bit SEC_UPD.live_pending 0 = true) ∧
    (∃ (s : State) (b : Bool), s.alive = true ∧ s.running? = some b ∧ (s.slotOf b).state = 2 ∧ s.part.pendingPor = none ∧
      s.secure.handedAt.isSome = true ∧ s.handedWithin 120 = false ∧ (s.slotOf b).expired = false) :=
  ⟨⟨(ringed (hosted run) { desc 0x500 0x0101 with len0 := 5000 }), 2, 9, imagePart, true, [], { desc 0x500 0x0101 with len0 := 5000 }, by decide +kernel⟩,
   ⟨(secured (given 0x500 0x0101) fun x => { x with staging := some (stagedP imagePart 1 1) }), (crypted (given 0x500 0x0101)),
     (stagedP imagePart 1 1), false, by decide +kernel⟩,
   ⟨(secured (given 0x500 0x0102) fun x => { x with staging := some (stagedP { length := 64, digest := 2, content := .programs 0 [] } 2 0) }),
     (crypted (given 0x500 0x0102)), (stagedP { length := 64, digest := 2, content := .programs 0 [] } 2 0), true, by decide +kernel⟩,
   ⟨(given 0x502 0 (secured (running 3 70000000) fun x => { x with ownerLock := true })), 2, 9, false, by decide +kernel⟩,
   ⟨(given 0x502 0 (running 2 10000000)), 2, 9, false, by decide +kernel⟩,
   ⟨(given 0x502 0 (running 2 9999999)), 2, 9, false, by decide +kernel⟩,
   ⟨((given 0x502 0 (running 3)).wr SEC_UPD.live_pending 0 1), 2, 9, false, by decide +kernel⟩,
   ⟨(running 2 120000000), false, by decide +kernel⟩⟩

theorem witness_SetActivation :
    (∃ (s : State) (a : Armed), s.fwUp = true ∧ s.secure.armed = some a ∧ s.tick < a.at_) ∧
    (∃ (s : State) (a : Armed), s.fwUp = true ∧ s.secure.armed = some a ∧ a.at_ ≤ s.tick ∧ a.shadowAt = none ∧ s.cancelCause a = none ∧ a.full =
      false) ∧
    (∃ (s : State) (a : Armed), s.fwUp = true ∧ s.secure.armed = some a ∧ a.at_ ≤ s.tick ∧ a.shadowAt = none ∧ s.cancelCause a = none ∧ a.full =
      true ∧ s.leads = true) ∧
    (∃ (s : State) (a : Armed), s.fwUp = true ∧ s.secure.armed = some a ∧ a.at_ ≤ s.tick ∧ a.shadowAt = none ∧ s.cancelCause a = none ∧ a.full =
      true ∧ s.leads = false) ∧
    (∃ (s s' : State) (r : Fin 32) (slot : BitVec 12) (d : Desc) (bytes : Signed) (models shadowOk : Bool) (t : Nat) (c : Instr) (v : Via), c =
      .activateSet v bytes models shadowOk ∧ v = .ring r slot ∧ s.fwUp = true ∧ s.given v 0x0501 (fun _ => true) = true ∧ s' =
      { s with secure := { s.secure with cryptoAt := s.bootUs } } ∧ s.descOf v = some d ∧ t = descParam d 0x2C 8 ∧ s.shadow_ = true) ∧
    (∃ (s s' : State) (r : Fin 32) (slot : BitVec 12) (d : Desc) (bytes : Signed) (models shadowOk : Bool) (t : Nat) (c : Instr) (v : Via), c =
      .activateSet v bytes models shadowOk ∧ v = .ring r slot ∧ s.fwUp = true ∧ s.given v 0x0501 (fun _ => true) = true ∧ s' =
      { s with secure := { s.secure with cryptoAt := s.bootUs } } ∧ s.descOf v = some d ∧ t = descParam d 0x2C 8 ∧ s.shadow_ = false ∧ t = 0 ∧
      s.secure.armed = none) ∧
    (∃ (s s' : State) (r : Fin 32) (slot : BitVec 12) (d : Desc) (bytes : Signed) (models shadowOk : Bool) (t : Nat) (c : Instr) (v : Via), c =
      .activateSet v bytes models shadowOk ∧ v = .ring r slot ∧ s.fwUp = true ∧ s.given v 0x0501 (fun _ => true) = true ∧ s' =
      { s with secure := { s.secure with cryptoAt := s.bootUs } } ∧ s.descOf v = some d ∧ t = descParam d 0x2C 8 ∧ s.shadow_ = false ∧ t = 0 ∧
      s.secure.armed ≠ none) ∧
    (∃ (s s' : State) (r : Fin 32) (slot : BitVec 12) (d : Desc) (bytes : Signed) (models shadowOk : Bool) (t : Nat) (c : Instr) (v : Via), c =
      .activateSet v bytes models shadowOk ∧ v = .ring r slot ∧ s.fwUp = true ∧ s.given v 0x0501 (fun _ => true) = true ∧ s' =
      { s with secure := { s.secure with cryptoAt := s.bootUs } } ∧ s.descOf v = some d ∧ t = descParam d 0x2C 8 ∧ s.shadow_ = false ∧ t ≠ 0 ∧
      s.secure.armed ≠ none) ∧
    (∃ (s s' : State) (r : Fin 32) (slot : BitVec 12) (d : Desc) (bytes : Signed) (models shadowOk : Bool) (t : Nat) (c : Instr) (v : Via), c =
      .activateSet v bytes models shadowOk ∧ v = .ring r slot ∧ s.fwUp = true ∧ s.given v 0x0501 (fun _ => true) = true ∧ s' =
      { s with secure := { s.secure with cryptoAt := s.bootUs } } ∧ s.descOf v = some d ∧ t = descParam d 0x2C 8 ∧ s.shadow_ = false ∧ t ≠ 0 ∧
      s.secure.armed = none ∧ parseManifest bytes = none) ∧
    (∃ (s s' : State) (r : Fin 32) (slot : BitVec 12) (d : Desc) (bytes : Signed) (models shadowOk : Bool) (t : Nat) (c : Instr) (v : Via) (m :
      Manifest), c = .activateSet v bytes models shadowOk ∧ v = .ring r slot ∧ s.fwUp = true ∧ s.given v 0x0501 (fun _ => true) = true ∧ s' =
      { s with secure := { s.secure with cryptoAt := s.bootUs } } ∧ s.descOf v = some d ∧ t = descParam d 0x2C 8 ∧ s.shadow_ = false ∧ t ≠ 0 ∧
      s.secure.armed = none ∧ parseManifest bytes = some m ∧ s'.manifestSigned m = false) ∧
    (∃ (s s' : State) (r : Fin 32) (slot : BitVec 12) (d : Desc) (bytes : Signed) (models shadowOk : Bool) (t : Nat) (c : Instr) (v : Via) (m :
      Manifest), c = .activateSet v bytes models shadowOk ∧ v = .ring r slot ∧ s.fwUp = true ∧ s.given v 0x0501 (fun _ => true) = true ∧ s' =
      { s with secure := { s.secure with cryptoAt := s.bootUs } } ∧ s.descOf v = some d ∧ t = descParam d 0x2C 8 ∧ s.shadow_ = false ∧ t ≠ 0 ∧
      s.secure.armed = none ∧ parseManifest bytes = some m ∧ s'.manifestSigned m = true ∧ s'.activateCheck m models shadowOk ≠ 0) ∧
    (∃ (s s' : State) (r : Fin 32) (slot : BitVec 12) (d : Desc) (bytes : Signed) (models shadowOk : Bool) (t : Nat) (c : Instr) (v : Via) (m :
      Manifest), c = .activateSet v bytes models shadowOk ∧ v = .ring r slot ∧ s.fwUp = true ∧ s.given v 0x0501 (fun _ => true) = true ∧ s' =
      { s with secure := { s.secure with cryptoAt := s.bootUs } } ∧ s.descOf v = some d ∧ t = descParam d 0x2C 8 ∧ s.shadow_ = false ∧ t ≠ 0 ∧
      s.secure.armed = none ∧ parseManifest bytes = some m ∧ s'.manifestSigned m = true ∧ s'.activateCheck m models shadowOk = 0 ∧ s'.guarded =
      true) ∧
    (∃ (s s' : State) (r : Fin 32) (slot : BitVec 12) (d : Desc) (bytes : Signed) (models shadowOk : Bool) (t : Nat) (c : Instr) (v : Via) (m :
      Manifest), c = .activateSet v bytes models shadowOk ∧ v = .ring r slot ∧ s.fwUp = true ∧ s.given v 0x0501 (fun _ => true) = true ∧ s' =
      { s with secure := { s.secure with cryptoAt := s.bootUs } } ∧ s.descOf v = some d ∧ t = descParam d 0x2C 8 ∧ s.shadow_ = false ∧ t ≠ 0 ∧
      s.secure.armed = none ∧ parseManifest bytes = some m ∧ s'.manifestSigned m = true ∧ s'.activateCheck m models shadowOk = 0 ∧ s'.guarded =
      false ∧ s'.isLive m = false ∧ s.tickOk t = true) ∧
    (∃ (s s' : State) (r : Fin 32) (slot : BitVec 12) (d : Desc) (bytes : Signed) (models shadowOk : Bool) (t : Nat) (c : Instr) (v : Via) (m :
      Manifest), c = .activateSet v bytes models shadowOk ∧ v = .ring r slot ∧ s.fwUp = true ∧ s.given v 0x0501 (fun _ => true) = true ∧ s' =
      { s with secure := { s.secure with cryptoAt := s.bootUs } } ∧ s.descOf v = some d ∧ t = descParam d 0x2C 8 ∧ s.shadow_ = false ∧ t ≠ 0 ∧
      s.secure.armed = none ∧ parseManifest bytes = some m ∧ s'.manifestSigned m = true ∧ s'.activateCheck m models shadowOk = 0 ∧ s'.guarded =
      false ∧ s'.isLive m = false ∧ s.tickOk t = false) ∧
    (∃ (s s' : State) (r : Fin 32) (slot : BitVec 12) (d : Desc) (bytes : Signed) (models shadowOk : Bool) (t : Nat) (c : Instr) (v : Via) (m :
      Manifest) (a : Manifest), c = .activateSet v bytes models shadowOk ∧ v = .ring r slot ∧ s.fwUp = true ∧ s.given v 0x0501 (fun _ => true) =
      true ∧ s' = { s with secure := { s.secure with cryptoAt := s.bootUs } } ∧ s.descOf v = some d ∧ t = descParam d 0x2C 8 ∧ s.shadow_ = false
      ∧ t ≠ 0 ∧ s.secure.armed = none ∧ parseManifest bytes = some m ∧ s'.manifestSigned m = true ∧ s'.activateCheck m models shadowOk = 0 ∧
      s'.guarded = false ∧ s.secure.set = some a ∧ changedParts a m = [] ∧ s.tickOk t = true) ∧
    (∃ (s s' : State) (r : Fin 32) (slot : BitVec 12) (d : Desc) (bytes : Signed) (models shadowOk : Bool) (t : Nat) (c : Instr) (v : Via) (m :
      Manifest) (a : Manifest), c = .activateSet v bytes models shadowOk ∧ v = .ring r slot ∧ s.fwUp = true ∧ s.given v 0x0501 (fun _ => true) =
      true ∧ s' = { s with secure := { s.secure with cryptoAt := s.bootUs } } ∧ s.descOf v = some d ∧ t = descParam d 0x2C 8 ∧ s.shadow_ = false
      ∧ t ≠ 0 ∧ s.secure.armed = none ∧ parseManifest bytes = some m ∧ s'.manifestSigned m = true ∧ s'.activateCheck m models shadowOk = 0 ∧
      s'.guarded = false ∧ s'.isLive m = true ∧ s.secure.set = some a ∧ changedParts a m ≠ []) :=
  ⟨⟨(secured (running 3) fun x => { x with armed := some (armedWith false 1000001) }), (armedWith false 1000001), by decide +kernel⟩,
   ⟨(secured (running 3) fun x => { x with armed := some (armedWith false) }), (armedWith false), by decide +kernel⟩,
   ⟨((secured (pendingB) fun x => { x with armed := some (armedWith true) }).wr TWIN_STAT.role 0 1 |>.wr TWIN_STAT.joined 0 1), (armedWith true),
     by decide +kernel⟩,
   ⟨(secured (pendingB) fun x => { x with armed := some (armedWith true) }), (armedWith true), by decide +kernel⟩,
   ⟨(shadowed (given 0x501 2000000)), (crypted (shadowed (given 0x501 2000000))), 2, 9, (desc 0x501 2000000), (bytesOf manifest), true, true,
     2000000, (.activateSet (.ring 2 9) (bytesOf manifest) true true), (.ring 2 9),
     by exact ⟨rfl, rfl, by decide +kernel, by decide +kernel, rfl, by decide +kernel, by decide +kernel, by decide +kernel⟩⟩,
   ⟨(given 0x501 0), (crypted (given 0x501 0)), 2, 9, (desc 0x501 0), (bytesOf manifest), true, true, 0,
     (.activateSet (.ring 2 9) (bytesOf manifest) true true), (.ring 2 9),
     by exact ⟨rfl, rfl, by decide +kernel, by decide +kernel, rfl, by decide +kernel, by decide +kernel, by decide +kernel, by decide +kernel, by decide +kernel⟩⟩,
   ⟨(secured (given 0x501 0) fun x => { x with armed := some (armedWith true) }),
     (crypted (secured (given 0x501 0) fun x => { x with armed := some (armedWith true) })), 2, 9, (desc 0x501 0), (bytesOf manifest), true, true,
     0, (.activateSet (.ring 2 9) (bytesOf manifest) true true), (.ring 2 9),
     by exact ⟨rfl, rfl, by decide +kernel, by decide +kernel, rfl, by decide +kernel, by decide +kernel, by decide +kernel, by decide +kernel, by decide +kernel⟩⟩,
   ⟨(secured (given 0x501 2000000) fun x => { x with armed := some (armedWith true) }),
     (crypted (secured (given 0x501 2000000) fun x => { x with armed := some (armedWith true) })), 2, 9, (desc 0x501 2000000), (bytesOf manifest),
     true, true, 2000000, (.activateSet (.ring 2 9) (bytesOf manifest) true true), (.ring 2 9),
     by exact ⟨rfl, rfl, by decide +kernel, by decide +kernel, rfl, by decide +kernel, by decide +kernel, by decide +kernel, by decide +kernel, by decide +kernel⟩⟩,
   ⟨(given 0x501 2000000), (crypted (given 0x501 2000000)), 2, 9, (desc 0x501 2000000), { words := [], sigOk := true }, true, true, 2000000,
     (.activateSet (.ring 2 9) { words := [], sigOk := true } true true), (.ring 2 9),
     by exact ⟨rfl, rfl, by decide +kernel, by decide +kernel, rfl, by decide +kernel, by decide +kernel, by decide +kernel, by decide +kernel, by decide +kernel, by decide +kernel⟩⟩,
   ⟨(given 0x501 2000000), (crypted (given 0x501 2000000)), 2, 9, (desc 0x501 2000000), (bytesOf { setB with sigOk := false }), true, true, 2000000,
     (.activateSet (.ring 2 9) (bytesOf { setB with sigOk := false }) true true), (.ring 2 9), { setB with sigOk := false },
     by exact ⟨rfl, rfl, by decide +kernel, by decide +kernel, rfl, by decide +kernel, by decide +kernel, by decide +kernel, by decide +kernel, by decide +kernel, parsed_unsigned, by decide +kernel⟩⟩,
   ⟨(given 0x501 2000000), (crypted (given 0x501 2000000)), 2, 9, (desc 0x501 2000000), (bytesOf setB), true, true, 2000000,
     (.activateSet (.ring 2 9) (bytesOf setB) true true), (.ring 2 9), setB,
     by exact ⟨rfl, rfl, by decide +kernel, by decide +kernel, rfl, by decide +kernel, by decide +kernel, by decide +kernel, by decide +kernel, by decide +kernel, parsed_setB, by decide +kernel, by decide +kernel⟩⟩,
   ⟨(given 0x501 1100000 (pendingB |> (secured · fun x => { x with ownerLock := true }) |> fun s => { s with bootUs := 90000000 })),
     (crypted (given 0x501 1100000 (pendingB |> (secured · fun x => { x with ownerLock := true }) |> fun s => { s with bootUs := 90000000 }))), 2,
     9, (desc 0x501 1100000), (bytesOf setB), true, true, 1100000, (.activateSet (.ring 2 9) (bytesOf setB) true true), (.ring 2 9), setB,
     by exact ⟨rfl, rfl, by decide +kernel, by decide +kernel, rfl, by decide +kernel, by decide +kernel, by decide +kernel, by decide +kernel, by decide +kernel, parsed_setB, by decide +kernel, by decide +kernel, by decide +kernel⟩⟩,
   ⟨(given 0x501 1100000 pendingB), (crypted (given 0x501 1100000 pendingB)), 2, 9, (desc 0x501 1100000), (bytesOf setB), true, true, 1100000,
     (.activateSet (.ring 2 9) (bytesOf setB) true true), (.ring 2 9), setB,
     by exact ⟨rfl, rfl, by decide +kernel, by decide +kernel, rfl, by decide +kernel, by decide +kernel, by decide +kernel, by decide +kernel, by decide +kernel, parsed_setB, by decide +kernel, by decide +kernel, by decide +kernel, by decide +kernel, by decide +kernel⟩⟩,
   ⟨(given 0x501 1099999 pendingB), (crypted (given 0x501 1099999 pendingB)), 2, 9, (desc 0x501 1099999), (bytesOf setB), true, true, 1099999,
     (.activateSet (.ring 2 9) (bytesOf setB) true true), (.ring 2 9), setB,
     by exact ⟨rfl, rfl, by decide +kernel, by decide +kernel, rfl, by decide +kernel, by decide +kernel, by decide +kernel, by decide +kernel, by decide +kernel, parsed_setB, by decide +kernel, by decide +kernel, by decide +kernel, by decide +kernel, by decide +kernel⟩⟩,
   ⟨(given 0x501 1100000 liveB), (crypted (given 0x501 1100000 liveB)), 2, 9, (desc 0x501 1100000), (bytesOf setB), true, true, 1100000,
     (.activateSet (.ring 2 9) (bytesOf setB) true true), (.ring 2 9), setB, setB,
     by exact ⟨rfl, rfl, by decide +kernel, by decide +kernel, rfl, by decide +kernel, by decide +kernel, by decide +kernel, by decide +kernel, by decide +kernel, parsed_setB, by decide +kernel, by decide +kernel, by decide +kernel, by decide +kernel, by decide +kernel, by decide +kernel⟩⟩,
   ⟨(given 0x501 1100000 (secured liveB fun x => { x with set := some liveC })),
     (crypted (given 0x501 1100000 (secured liveB fun x => { x with set := some liveC }))), 2, 9, (desc 0x501 1100000), (bytesOf setB), true, true,
     1100000, (.activateSet (.ring 2 9) (bytesOf setB) true true), (.ring 2 9), setB, liveC,
     by exact ⟨rfl, rfl, by decide +kernel, by decide +kernel, rfl, by decide +kernel, by decide +kernel, by decide +kernel, by decide +kernel, by decide +kernel, parsed_setB, by decide +kernel, by decide +kernel, by decide +kernel, by decide +kernel, by decide +kernel, by decide +kernel⟩⟩⟩

theorem witness_TokensAndKeys :
    (∃ (s s' : State) (r : Fin 32) (slot : BitVec 12) (d : Desc) (rv : Signed), s.fwUp = true ∧ s' =
      { s with secure := { s.secure with cryptoAt := s.bootUs } } ∧ s.given (.ring r slot) 0x0503 (fun _ => true) = true ∧ s.descOf (.ring r
      slot) = some d ∧ s'.revokeRefusal (descParam d 0x2C 1) (descParam d 0x2D 1) rv = none) ∧
    (∃ (s s' : State) (r : Fin 32) (slot : BitVec 12) (_b : Signed), s.fwUp = true ∧ s' =
      { s with secure := { s.secure with cryptoAt := s.bootUs } } ∧ s.given (.ring r slot) 0x0504 (fun _ => true) = true) ∧
    (∃ (s s' : State) (_b : Signed), s.alive = true ∧ 2 ≤ s.part.stage ∧ s' = { s with secure := { s.secure with cryptoAt := s.bootUs } }) ∧
    (∃ (s s' : State) (r : Fin 32) (slot : BitVec 12) (d : Desc) (_signed : List (BitVec 8)), s.fwUp = true ∧ s' =
      { s with secure := { s.secure with cryptoAt := s.bootUs } } ∧ s.given (.ring r slot) 0x0505 (fun _ => true) = true ∧ s.descOf (.ring r
      slot) = some d ∧ s.bit SEC_LOCK.debug_open 0 = true) ∧
    (∃ (s s' : State) (r : Fin 32) (slot : BitVec 12) (d : Desc) (_signed : List (BitVec 8)), s.fwUp = true ∧ s' =
      { s with secure := { s.secure with cryptoAt := s.bootUs } } ∧ s.given (.ring r slot) 0x0505 (fun _ => true) = true ∧ s.descOf (.ring r
      slot) = some d ∧ s.bit SEC_LOCK.debug_open 0 = false ∧ descParam d 0x2C 16 ≠ 0) ∧
    (∃ (s s' : State) (r : Fin 32) (slot : BitVec 12) (d : Desc) (_signed : List (BitVec 8)), s.fwUp = true ∧ s' =
      { s with secure := { s.secure with cryptoAt := s.bootUs } } ∧ s.given (.ring r slot) 0x0505 (fun _ => true) = true ∧ s.descOf (.ring r
      slot) = some d ∧ s.bit SEC_LOCK.debug_open 0 = false ∧ descParam d 0x2C 16 = 0) ∧
    (∃ (s s' : State) (r : Fin 32) (slot : BitVec 12) (_b : Signed), s.fwUp = true ∧ s' =
      { s with secure := { s.secure with cryptoAt := s.bootUs } } ∧ s.given (.ring r slot) 0x0506 (fun d => descParam d 0x2C 1 == 1) = true ∧
      (s.secure.armed ≠ none ∨ s.secure.slotA.state = 2 ∨ s.secure.slotB.state = 2)) ∧
    (∃ (s s' : State) (r : Fin 32) (slot : BitVec 12) (_b : Signed), s.fwUp = true ∧ s' =
      { s with secure := { s.secure with cryptoAt := s.bootUs } } ∧ s.given (.ring r slot) 0x0506 (fun d => descParam d 0x2C 1 == 1) = true ∧
      s.secure.armed = none ∧ s.secure.slotA.state ≠ 2 ∧ s.secure.slotB.state ≠ 2) :=
  ⟨⟨(given 0x503 0x0101), (crypted (given 0x503 0x0101)), 2, 9, (desc 0x503 0x0101), (revocation 1 1), by decide +kernel⟩,
   ⟨(given 0x504 0), (crypted (given 0x504 0)), 2, 9, (token 9), by decide +kernel⟩,
   ⟨run, (crypted run), (token 15), by decide +kernel⟩,
   ⟨((given 0x505 0).wr SEC_LOCK.debug_open 0 1), (crypted ((given 0x505 0).wr SEC_LOCK.debug_open 0 1)), 2, 9, (desc 0x505 0), [5, 6], by decide +kernel⟩,
   ⟨(given 0x505 0x77), (crypted (given 0x505 0x77)), 2, 9, (desc 0x505 0x77), [5, 6], by decide +kernel⟩,
   ⟨(given 0x505 0), (crypted (given 0x505 0)), 2, 9, (desc 0x505 0), [5, 6], by decide +kernel⟩,
   ⟨(given 0x506 1 (secured run fun x => { x with slotB := { state := 2 } })),
     (crypted (given 0x506 1 (secured run fun x => { x with slotB := { state := 2 } }))), 2, 9, (token 8), by decide +kernel⟩,
   ⟨(given 0x506 1), (crypted (given 0x506 1)), 2, 9, (token 8), by decide +kernel⟩⟩

theorem witness_Recorder :
    (∃ (s : State), s.coreUp = true ∧ s.recorder.trained = true ∧ s.recorder.segTick + 64 ≤ s.tick ∧ s.lastSegment = false ∧ s.rd REC_STAT.state
      0 = 2 ∧ s.recorder.releaseDue = true) ∧
    (∃ (s : State), s.coreUp = true ∧ s.recorder.trained = true ∧ s.recorder.segTick + 64 ≤ s.tick ∧ s.lastSegment = false ∧ s.rd REC_STAT.state
      0 = 2 ∧ s.recorder.releaseDue = false) ∧
    (∃ (s : State), s.fwUp = true ∧ s.rd REC_STAT.state 0 = 0) ∧
    (∃ (s : State), s.fwUp = true ∧ s.sameTrigger = false ∧ (s.rd REC_STAT.state 0 = 1 ∨ s.rd REC_STAT.state 0 = 2)) ∧
    (∃ (s : State), s.fwUp = true ∧ (Config.sameCycle 1000000 16 = true → s.sameTrigger = true) ∧ 1 < s.rd REC_STAT.src 0) ∧
    (∃ (s : State), s.fwUp = true ∧ (Config.sameCycle 1000000 16 = true → s.sameTrigger = true) ∧ s.rd REC_STAT.src 0 ≤ 1) ∧
    (∃ (s : State), s.fwUp = true ∧ s.rd REC_STAT.state 0 = 3) ∧
    (∃ (s : State), s.coreUp = true ∧ s.recorder.segTick + 64 ≤ s.tick ∧ s.lastSegment = true) :=
  ⟨⟨(recd (fun r => { r with releaseDue := true }) 2), by decide +kernel⟩,
   ⟨(recd id 2), by decide +kernel⟩,
   ⟨(recd id), by decide +kernel⟩,
   ⟨((recd id 1).wr REC_STAT.more 0 255), by decide +kernel⟩,
   ⟨((recd id 1).wr REC_TTICK.tick 0 1000000 |>.wr REC_STAT.src 0 2),
     by exact ⟨by decide +kernel, fun h => (Bool.and_eq_true _ _).mpr ⟨by decide +kernel, h⟩, by decide +kernel⟩⟩,
   ⟨((recd id 1).wr REC_TTICK.tick 0 1000000), by exact ⟨by decide +kernel, fun h => (Bool.and_eq_true _ _).mpr ⟨by decide +kernel, h⟩, by decide +kernel⟩⟩,
   ⟨(recd id 3), by decide +kernel⟩,
   ⟨(recd id 1), by decide +kernel⟩⟩

theorem witness_MemoryIntegrity :
    (∃ (s : State) (m : Nat) (_scrub : Bool) (_a : Nat), m < 8 ∧ s.bit MEM_UNCA.valid 0 = true) ∧
    (∃ (s : State) (m : Nat) (_scrub : Bool) (_a : Nat), m < 8 ∧ s.bit MEM_UNCA.valid 0 = false) ∧
    (∃ (p q : Nat) (e f : BitVec 8), p < 35 ∧ q < 35 ∧ p ≠ q ∧ e ≠ 0 ∧ f ≠ 0) ∧
    (∃ (s u : State) (offset : BitVec 36) (bad : CodeWord) (a m : Nat), s.coreUp = true ∧ s.bit DEV_STAT.mem_active 0 = true ∧ a = offset.toNat
      ∧ (s.region a).isSome = true ∧ m = s.stackOf a ∧ u = s.hbmUpset a bad ∧ (s.region a = some .recorder ∨ s.region a = some .eventRing)) ∧
    (∃ (s u : State) (offset : BitVec 36) (bad : CodeWord) (a m : Nat), s.coreUp = true ∧ s.bit DEV_STAT.mem_active 0 = true ∧ a = offset.toNat
      ∧ (s.region a).isSome = true ∧ m = s.stackOf a ∧ u = s.hbmUpset a bad ∧ s.region a ≠ some .recorder ∧ s.region a ≠ some .eventRing) ∧
    (∃ (s u : State) (sett : Fin 40) (w : BitVec 12) (bad : CodeWord) (k : Nat), s.settUp = true ∧ s.settOn sett = true ∧ k = sett.val * 32768 +
      8 * w.toNat ∧ u = { s with setts := { s.setts with sharedBad := Tab.upd 0 s.setts.sharedBad (k / 8) (· ^^^ bad) } }) ∧
    (∃ (s : State) (_addr : BitVec 32) (bad : CodeWord), s.coreUp = true ∧ 3 ≤ s.part.stage ∧ (readBad bad).1 = .good) ∧
    (∃ (s : State) (_addr : BitVec 32) (bad : CodeWord), s.coreUp = true ∧ 3 ≤ s.part.stage ∧ (readBad bad).1 = .corrected) ∧
    (∃ (s : State) (_addr : BitVec 32) (bad : CodeWord), s.coreUp = true ∧ 3 ≤ s.part.stage ∧ (readBad bad).1 = .uncorrectable ∧ s.fwUp = true) ∧
    (∃ (s : State) (_addr : BitVec 32) (bad : CodeWord), s.coreUp = true ∧ 3 ≤ s.part.stage ∧ (readBad bad).1 = .uncorrectable ∧ s.fwUp = false) ∧
    (∃ (s : State) (_region _sector : BitVec 16) (n : BitVec 8), s.alive = true ∧ 2 ≤ s.part.stage ∧ n.toNat ≤ 4) ∧
    (∃ (s : State) (_region _sector : BitVec 16) (n : BitVec 8), s.alive = true ∧ 2 ≤ s.part.stage ∧ 4 < n.toNat) ∧
    (∃ (s : State), s.coreUp = true ∧ s.recorder.hourAt + 3600000000 ≤ s.bootUs ∧ (∀ e ∈ s.recorder.corrHour, e.2 ≤ s.rd MEM_SCRUB.corr_th 0)) :=
  ⟨⟨(run.wr MEM_UNCA.valid 0 1), 3, false, 5, by decide +kernel⟩,
   ⟨run, 7, true, 0xFFFFFFFFFFFF, by decide +kernel⟩,
   ⟨0, 34, 1, 0xFF, by decide +kernel⟩,
   ⟨memOn, memOn, 0, 0, 0, (memOn.stackOf 0), by exact ⟨by decide +kernel, by decide +kernel, by decide +kernel, by decide +kernel, rfl, rfl, by decide +kernel⟩⟩,
   ⟨memOn, (memOn.hbmUpset 0xF80000000 1), 0xF80000000, 1, 0xF80000000, (memOn.stackOf 0xF80000000),
     by exact ⟨by decide +kernel, by decide +kernel, by decide +kernel, by decide +kernel, rfl, rfl, by decide +kernel, by decide +kernel⟩⟩,
   ⟨run, run, 39, 0xFFF, 0, (39 * 32768 + 8 * 0xFFF), by decide +kernel⟩,
   ⟨run, 5, 0, by decide +kernel⟩,
   ⟨run, 5, 1, by decide +kernel⟩,
   ⟨run, 5, 0x0101, by decide +kernel⟩,
   ⟨{ run with part := { run.part with halted := true } }, 5, 0x0101, by decide +kernel⟩,
   ⟨run, 1, 2, 0, by decide +kernel⟩,
   ⟨run, 1, 2, 5, by decide +kernel⟩,
   ⟨{ recd (fun r => { r with corrHour := [(1, 1)] }) with bootUs := 3600000000 }, by decide +kernel⟩⟩

theorem witness_RecordingAnEvent :
    (∃ (s : State) (f : State → State) (l : List Rec), s.burrow.batch = none ∧ (f
      { s with burrow := { s.burrow with batch := some [] } }).burrow.batch = some l) ∧
    (∃ (s t : State) (code source : Nat) (data : List Nat) (r : Rec), r = s.mkRec code source data ∧ t = s.record code source data ∧
      s.burrow.batch = none ∧ 0 < s.burrow.flashPath.tokens ∧ (r.priority = true ∨ s.burrow.flashPath.hasEntry r = false)) ∧
    (∃ (s t : State) (code source : Nat) (data : List Nat) (r : Rec), r = s.mkRec code source data ∧ t = s.record code source data ∧
      s.burrow.batch = none ∧ s.burrow.flashPath.tokens = 0 ∧ r.priority = true ∧ s.burrow.prio.length < 256) ∧
    (∃ (s t : State) (code source : Nat) (data : List Nat) (r : Rec), r = s.mkRec code source data ∧ t = s.record code source data ∧
      s.burrow.batch = none ∧ r.priority = false ∧ (s.burrow.flashPath.tokens = 0 ∨ s.burrow.flashPath.hasEntry r = true)) ∧
    (∃ (s t : State) (code source : Nat) (data : List Nat) (r : Rec), r = s.mkRec code source data ∧ t = s.record code source data ∧
      s.burrow.batch = none ∧ s.mirrorOn = false) ∧
    (∃ (s t : State) (code source : Nat) (data : List Nat) (r : Rec), r = s.mkRec code source data ∧ t = s.record code source data ∧
      s.burrow.batch = none ∧ s.mirrorOn = true ∧ s.burrow.mirrorPath.hasEntry r = false ∧ 0 < s.burrow.mirrorPath.tokens) ∧
    (∃ (s t : State) (code source : Nat) (data : List Nat) (r : Rec), r = s.mkRec code source data ∧ t = s.record code source data ∧
      s.burrow.batch = none ∧ s.mirrorOn = true ∧ (s.burrow.mirrorPath.hasEntry r = true ∨ s.burrow.mirrorPath.tokens = 0)) :=
  ⟨⟨run, (fun s => (s.record 0x301 4 [1]).record 0x201 4 [2]), [run.mkRec 0x301 4 [1], run.mkRec 0x201 4 [2]], by decide +kernel⟩,
   ⟨run, (run.record 0x301 4 [1]), 0x301, 4, [1], (run.mkRec 0x301 4 [1]), by decide +kernel⟩,
   ⟨(burrowed (fun b => { b with flashPath := { tokens := 0 } })),
     ((burrowed (fun b => { b with flashPath := { tokens := 0 } })).record 0x201 4 [1]), 0x201, 4, [1], (run.mkRec 0x201 4 [1]), by decide +kernel⟩,
   ⟨(burrowed (fun b => { b with flashPath := pathWith 3 5 })), ((burrowed (fun b => { b with flashPath := pathWith 3 5 })).record 0x301 4 [1]),
     0x301, 4, [1], (run.mkRec 0x301 4 [1]), by decide +kernel⟩,
   ⟨run, (run.record 0x301 4 [1]), 0x301, 4, [1], (run.mkRec 0x301 4 [1]), by decide +kernel⟩,
   ⟨(recd id 0 memOn), ((recd id 0 memOn).record 0x301 4 [1]), 0x301, 4, [1], (run.mkRec 0x301 4 [1]), by decide +kernel⟩,
   ⟨(recd id 0 (burrowed (fun b => { b with mirrorPath := pathWith 3 5 }) memOn)),
     ((recd id 0 (burrowed (fun b => { b with mirrorPath := pathWith 3 5 }) memOn)).record 0x301 4 [1]), 0x301, 4, [1], (run.mkRec 0x301 4 [1]),
     by decide +kernel⟩⟩

theorem witness_BurrowCommands :
    (∃ (s : State) (r : Rec) (l : List Rec), s.alive = true ∧ 2 ≤ s.part.stage ∧ s.burrow.halt = false ∧ s.burrow.flight = r :: l ∧ r.code ≠
      Ev.HOST_TIME_ANCHOR) ∧
    (∃ (s : State) (_r : Rec) (_l : List Rec) (_e : Coal), s.alive = true ∧ s.burrow.mirrorPath.refillAt + 50 ≤ s.bootUs ∧ (s.mirrorOn = false ∨
      s.burrow.mirrorPath.open_.find? s.countDue = none)) ∧
    (∃ (s : State) (_r : Rec) (_l : List Rec) (e : Coal), s.alive = true ∧ s.burrow.mirrorPath.refillAt + 50 ≤ s.bootUs ∧ s.mirrorOn = true ∧
      s.burrow.mirrorPath.open_.find? s.countDue = some e) ∧
    (∃ (s : State) (_r : Rec) (_l : List Rec) (_e : Coal), s.alive = true ∧ s.burrow.flashPath.refillAt + 500 ≤ s.bootUs ∧ s.burrow.prio = [] ∧
      s.burrow.flashPath.open_.find? s.countDue = none) ∧
    (∃ (s : State) (_r : Rec) (_l : List Rec) (e : Coal), s.alive = true ∧ s.burrow.flashPath.refillAt + 500 ≤ s.bootUs ∧ s.burrow.prio = [] ∧
      s.burrow.flashPath.open_.find? s.countDue = some e) ∧
    (∃ (s : State) (r : Rec) (l : List Rec) (_e : Coal), s.alive = true ∧ s.burrow.flashPath.refillAt + 500 ≤ s.bootUs ∧ s.burrow.prio = r :: l) ∧
    (∃ (s : State) (mirror : Bool) (code source : BitVec 16) (e : Coal), s.alive = true ∧ (s.path mirror).entry code.toNat source.toNat = some e
      ∧ 0 < (s.path mirror).tokens ∧ mirror = false ∧ s.countDue e = true) ∧
    (∃ (s : State) (mirror : Bool) (code source : BitVec 16) (e : Coal), s.alive = true ∧ (s.path mirror).entry code.toNat source.toNat = some e
      ∧ 0 < (s.path mirror).tokens ∧ mirror = true ∧ s.mirrorOn = true ∧ s.countDue e = true) ∧
    (∃ (s : State) (mirror : Bool) (code source : BitVec 16) (e : Coal), s.alive = true ∧ (s.path mirror).entry code.toNat source.toNat = some e
      ∧ e.lastAt + 1000000 ≤ s.bootUs ∧ e.count = 0) ∧
    (∃ (s : State) (mirror : Bool) (code source : BitVec 16) (e : Coal), s.alive = true ∧ (s.path mirror).entry code.toNat source.toNat = some e
      ∧ (s.bootUs < e.lastAt + 1000000 ∨ 0 < e.count)) ∧
    (∃ (s : State), s.part.vaoLow = false) :=
  ⟨⟨(burrowed (fun b => { b with flight := [logged 5 [1], logged 6 [2]] })), (logged 5 [1]), [logged 6 [2]], by decide +kernel⟩,
   ⟨run, (logged 5 [1]), [], (entry0 5), by decide +kernel⟩,
   ⟨(burrowed (fun b => { b with mirrorPath := pathWith 3 5 }) memOn), (logged 5 [1]), [], (entry0 5), by decide +kernel⟩,
   ⟨run, (logged 5 [1]), [], (entry0 5), by decide +kernel⟩,
   ⟨(burrowed (fun b => { b with flashPath := pathWith 3 5 })), (logged 5 [1]), [], (entry0 5), by decide +kernel⟩,
   ⟨(burrowed (fun b => { b with prio := [logged 5 [1]] })), (logged 5 [1]), [], (entry0 5), by decide +kernel⟩,
   ⟨(burrowed (fun b => { b with flashPath := pathWith 3 5 })), false, 0x301, 4, (entry0 5), by decide +kernel⟩,
   ⟨(recd id 0 (burrowed (fun b => { b with mirrorPath := pathWith 3 5 }) memOn)), true, 0x301, 4, (entry0 5), by decide +kernel⟩,
   ⟨(burrowed (fun b => { b with mirrorPath := pathWith 3 0 })), true, 0x301, 4, (entry0 0), by decide +kernel⟩,
   ⟨(burrowed (fun b => { b with flashPath := pathWith 3 5 })), false, 0x301, 4, (entry0 5), by decide +kernel⟩,
   ⟨(burrowed (fun b => { b with opSeconds := 2 ^ 40 - 1 })), by decide +kernel⟩⟩

theorem witness_TwinJoinAndTime :
    (∃ (s : State) (_peer : TwinPeer) (_a : TwinAdopt) (_lanes : Fin 4), s.twinLink = true ∧ (s.bit TWIN_STAT.joined 0 = true ∨ s.twin.alone =
      true)) ∧
    (∃ (s : State) (peer : TwinPeer) (row role : Nat), s.twinLink = true ∧ s.bit TWIN_STAT.joined 0 = false ∧ s.twin.alone = false ∧ s.arbitrate
      peer = some (row, role) ∧ role ≠ 0) ∧
    (∃ (s : State) (peer : TwinPeer) (row role : Nat), s.twinLink = true ∧ s.bit TWIN_STAT.joined 0 = false ∧ s.twin.alone = false ∧ s.arbitrate
      peer = some (row, role) ∧ role = 0) ∧
    (∃ (s : State) (from_ : Nat), s.twinned = true ∧ s.fwUp = true ∧ s.shadow_ = true ∧ s.bit TWIN_STAT.joined 0 = false ∧ s.twin.fwAt = some
      from_ ∧ from_ + s.rd TWIN_CTL.join 0 * 100000 ≤ s.bootUs) ∧
    (∃ (s : State) (_tick : BitVec 64), s.twinLink = true ∧ s.shadow_ = true ∧ s.bit TWIN_STAT.joined 0 = true) ∧
    (∃ (s : State) (t1 t2 t3 t4 : BitVec 64) (o : Int), s.twinLink = true ∧ s.bit TWIN_STAT.joined 0 = true ∧ o = ((t2.toNat : Int) - t1.toNat)
      + ((t3.toNat : Int) - t4.toNat) ∧ s.shadow_ = false) ∧
    (∃ (s : State) (t1 t2 t3 t4 : BitVec 64) (o : Int), s.twinLink = true ∧ s.bit TWIN_STAT.joined 0 = true ∧ o = ((t2.toNat : Int) - t1.toNat)
      + ((t3.toNat : Int) - t4.toNat) ∧ s.shadow_ = true ∧ s.twin.stepped = true) ∧
    (∃ (s : State) (t1 t2 t3 t4 : BitVec 64) (o : Int), s.twinLink = true ∧ s.bit TWIN_STAT.joined 0 = true ∧ o = ((t2.toNat : Int) - t1.toNat)
      + ((t3.toNat : Int) - t4.toNat) ∧ s.shadow_ = true ∧ s.twin.stepped = false) ∧
    (∃ (s : State) (from_ : Nat), s.twinned = true ∧ s.shadow_ = true ∧ s.bit TWIN_STAT.aligned 0 = true ∧ s.twin.echoAt = some from_ ∧ from_ +
      500 ≤ s.bootUs) :=
  ⟨⟨(twin 2), (peerOf true), adopted, 1, by decide +kernel⟩,
   ⟨(twin 1 id 0), (peerOf false), _, _, by exact ⟨by decide +kernel, by decide +kernel, by decide +kernel, rfl, by decide +kernel⟩⟩,
   ⟨(twin 1 (fun t => { t with driven := true }) 0), (peerOf true 7 true), _, _, by exact ⟨by decide +kernel, by decide +kernel, by decide +kernel, rfl, by decide +kernel⟩⟩,
   ⟨{ twin 2 (fun t => { t with fwAt := some 0 }) 0 with bootUs := 2000000 }, 0, by decide +kernel⟩,
   ⟨(twin 2), 0xFFFFFFFFFFFFFFFF, by decide +kernel⟩,
   ⟨(twin 1), 5, 6, 7, 8, 0, by decide +kernel⟩,
   ⟨(twin 2 (fun t => { t with stepped := true })), 0, 80, 0, 0, 80, by decide +kernel⟩,
   ⟨(twin 2), 0, 0, 800000, 0, 800000, by decide +kernel⟩,
   ⟨((twin 2 (fun t => { t with echoAt := some 999500, skew := -3 })).wr TWIN_STAT.aligned 0 1), 999500, by decide +kernel⟩⟩

theorem witness_TwinCommands :
    (∃ (s : State) (_c : Checkpoint), s.twinLink = true ∧ s.shadow_ = true ∧ s.bit TWIN_STAT.joined 0 = true ∧ s.bit TWIN_STAT.set_match 0 =
      true) ∧
    (∃ (s : State) (_c : Checkpoint), s.twinLink = true ∧ s.shadow_ = true ∧ s.bit TWIN_STAT.joined 0 = true ∧ s.bit TWIN_STAT.set_match 0 =
      false) ∧
    (∃ (s : State) (seq : BitVec 16) (_c : TwinCmd) (_held : Option Signed), s.twinLink = true ∧ s.bit TWIN_STAT.joined 0 = true ∧ seq.toNat ≠
      s.twin.lastSeq ∧ s.twin.lastSeq < 65536) ∧
    (∃ (s : State) (seq : BitVec 16) (c : TwinCmd) (_held : Option Signed), s.twinLink = true ∧ s.bit TWIN_STAT.joined 0 = true ∧ c = .cancel ∧
      seq.toNat = s.twin.lastSeq) ∧
    (∃ (s : State) (seq : BitVec 16), s.twinLink = true ∧ s.bit TWIN_STAT.joined 0 = true ∧ s.shadow_ = true ∧ seq.toNat = s.twin.lastSeq) ∧
    (∃ (s : State) (n : Nat), s.twinned = true ∧ s.settUp = true ∧ s.bit TWIN_STAT.joined 0 = true ∧ n = s.rd TWIN_CTL.silence 0 ∧ s.shadow_ =
      true ∧ s.twin.frameAt + n ≤ s.bootUs ∧ s.twin.edgeAt + n ≤ s.bootUs) ∧
    (∃ (s : State) (n : Nat), s.twinned = true ∧ s.settUp = true ∧ s.bit TWIN_STAT.joined 0 = true ∧ n = s.rd TWIN_CTL.silence 0 ∧ s.shadow_ =
      true ∧ s.twin.frameAt + n ≤ s.bootUs ∧ s.bootUs < s.twin.edgeAt + n ∧ s.bit TWIN_STAT.link 0 = true) ∧
    (∃ (s : State) (n : Nat), s.twinned = true ∧ s.settUp = true ∧ s.bit TWIN_STAT.joined 0 = true ∧ n = s.rd TWIN_CTL.silence 0 ∧ s.shadow_ =
      true ∧ s.bootUs < s.twin.frameAt + n ∧ s.twin.edgeAt + n ≤ s.bootUs ∧ s.twin.alvLost = false) ∧
    (∃ (s : State) (n : Nat), s.twinned = true ∧ s.settUp = true ∧ s.bit TWIN_STAT.joined 0 = true ∧ n = s.rd TWIN_CTL.silence 0 ∧ s.shadow_ =
      false ∧ s.twin.frameAt + n ≤ s.bootUs ∧ s.bootUs < s.twin.edgeAt + n) ∧
    (∃ (s : State) (n : Nat), s.twinned = true ∧ s.settUp = true ∧ s.bit TWIN_STAT.joined 0 = true ∧ n = s.rd TWIN_CTL.silence 0 ∧ s.shadow_ =
      false ∧ s.twin.frameAt + n ≤ s.bootUs ∧ s.twin.edgeAt + n ≤ s.bootUs) ∧
    (∃ (s : State) (a : Armed) (since : Nat), s.fwUp = true ∧ s.secure.armed = some a ∧ a.full = true ∧ a.shadowAt = some since ∧ s.leads = true
      ∧ s.twin.peer.map (·.setSeq) = some a.set.setSeq) ∧
    (∃ (s : State) (a : Armed) (since : Nat), s.fwUp = true ∧ s.secure.armed = some a ∧ a.full = true ∧ a.shadowAt = some since ∧ s.rd
      TWIN_STAT.role 0 = 1 ∧ since + 300000000 ≤ s.bootUs) :=
  ⟨⟨((twin 2).wr TWIN_STAT.set_match 0 1), ckpt, by decide +kernel⟩,
   ⟨(twin 2), ckpt, by decide +kernel⟩,
   ⟨(twin 2), 1, .cancel, none, by decide +kernel⟩,
   ⟨((secured (twin 2) fun x => { x with armed := some (armedWith true) })), 0, .cancel, none, by decide +kernel⟩,
   ⟨(twin 2 (fun t => { t with lastSeq := 8, unacked := [(7, .cancel, 999998), (8, .cancel, 999999)] })), 8, by decide +kernel⟩,
   ⟨(twin 2), 4, by decide +kernel⟩,
   ⟨(twin 2 (fun t => { t with edgeAt := 1000000 })), 4, by decide +kernel⟩,
   ⟨(twin 2 (fun t => { t with frameAt := 999997 })), 4, by decide +kernel⟩,
   ⟨(twin 1 (fun t => { t with edgeAt := 1000000 })), 4, by decide +kernel⟩,
   ⟨(twin 1), 4, by decide +kernel⟩,
   ⟨{ (secured (twin 1 (fun t => { t with peer := some (peerOf false) }) 1 (running 3)) fun x => { x with armed := some { armedWith true with shadowAt := some 5 } }) with bootUs := 300000005 },
     { armedWith true with shadowAt := some 5 }, 5, by decide +kernel⟩,
   ⟨{ (secured (twin 1 (fun t => { t with peer := some (peerOf false) }) 1 (running 3)) fun x => { x with armed := some { armedWith true with shadowAt := some 5 } }) with bootUs := 300000005 },
     { armedWith true with shadowAt := some 5 }, 5, by decide +kernel⟩⟩

theorem witness_RegisterWrites :
    (∃ (s : State) (reg : Reg) (ix : BitVec 15) (_v : BitVec 64), s.tierUp reg.tier = true ∧ ix.toNat < reg.count ∧ s.absentReg reg = false ∧
      reg.ownRow = false ∧ reg ∉ [.SETT_ENG_STAT, .SNS_MTR_CFG, .RFX_ACT, .HARP_WCTL, .FAN_OCFG, .FAN_ZIN, .FAN_ZPT, .FAN_FCFG, .WPORT_LSCFG]) ∧
    (∃ (s : State) (w : Fin 8) (ix : BitVec 15) (v : BitVec 64), ix.toNat = w.val ∧ s.avsCrossed w v.toNat = true) ∧
    (∃ (s : State) (reg : Reg) (ix : BitVec 15) (_v : BitVec 64), (s.tierUp reg.tier = false ∨ reg.count ≤ ix.toNat ∨ s.absentReg reg = true ∨
      reg.ownRow = true)) ∧
    (∃ (s : State) (reg : Reg) (ix : BitVec 15) (v : BitVec 64), reg.lockRow = true ∧ s.tierUp reg.tier = true ∧ ix.toNat < reg.count ∧
      s.absentReg reg = false ∧ (reg ≠ .HARP_AVSCFG ∨ s.avsCrossed ix.toNat (v ||| 0x80000000#64).toNat = false)) ∧
    (∃ (s : State) (f g : Fld) (i j _v : Nat), f.reg.lockOf i = some (g, j) ∧ s.bit g j = true ∧ f.acc = .rwl) ∧
    (∃ (_s : State) (a : Nat), (0x1100 ≤ a ∧ a < 0x2000 ∨ 0x2800 ≤ a ∧ a < 0x4000 ∨ 0x5000 ≤ a)) :=
  ⟨⟨run, .SNS_CHSCALE, 5, 0xFFFFFFFF, by decide +kernel⟩,
   ⟨run, 3, 3, 0x0C8064, by decide +kernel⟩,
   ⟨run, .TWIN_CTL, 0, 0xFFFFFFFF, by decide +kernel⟩,
   ⟨run, .HARP_GCTL, 0, 0, by decide +kernel⟩,
   ⟨((run.wr HARP_GCTL.lock 0 1)), HARP_GCTL.poll, HARP_GCTL.lock, 0, 0, 3, by decide +kernel⟩,
   ⟨run, 0x1100, by decide +kernel⟩⟩

theorem witness_PowerOnResets :
    (∃ (s c : State) (powered : Bool), c = s.cleared powered ∧ powered = true ∧ s.burrow.halt = false) ∧
    (∃ (_s : State) (cause : Nat), cause < 256) ∧
    (∃ (s : State), s.part.held = false) ∧
    (∃ (s : State) (tcrit : BitVec 3) (tchan twinRole : BitVec 2) (bootHold : Bool) (fandef : BitVec 2) (xspiMode : Bool) (c : Bool → Instr), (∀
      testen, c testen = .porstRelease tcrit tchan twinRole bootHold fandef xspiMode testen) ∧ s.part.held = true ∧ s.part.vaoLow = false) ∧
    (∃ (s : State) (tcrit : BitVec 3) (tchan twinRole : BitVec 2) (bootHold : Bool) (fandef : BitVec 2) (xspiMode : Bool) (c : Bool → Instr), (∀
      testen, c testen = .porstRelease tcrit tchan twinRole bootHold fandef xspiMode testen) ∧ s.part.held = true ∧ s.part.vaoLow = true) ∧
    (∃ (s : State) (cause : Nat), s.alive = true ∧ s.allGroupsDown = true ∧ s.part.pendingPor = some cause ∧ (s.leads = false ∨ s.coreUp = false
      ∨ s.bit TWIN_STAT.link 0 = false ∨ s.twin.handover = true)) ∧
    (∃ (s u : State), s.part.vsettLost = true ∧ u = { s with part := { s.part with vsettLost := false } } ∧ s.alive = true) ∧
    (∃ (s u : State), s.part.vsettLost = true ∧ u = { s with part := { s.part with vsettLost := false } } ∧ s.alive = false) ∧
    (∃ (s : State), s.part.vaoLow = false) ∧
    (∃ (s : State), s.part.vaoLow = true ∧ s.part.held = false) ∧
    (∃ (s : State), s.part.vaoLow = true ∧ s.part.held = true) ∧
    (∃ (s : State), s.alive = false) :=
  ⟨⟨(burrowed (fun b => { b with flight := [logged 5 [1]] }) messy), ((burrowed (fun b => { b with flight := [logged 5 [1]] }) messy).cleared true),
     true, by decide +kernel⟩,
   ⟨messy, 3, by decide +kernel⟩,
   ⟨messy, by decide +kernel⟩,
   ⟨held, 7, 3, 3, true, 2, true, (fun t => .porstRelease 7 3 3 true 2 true t), by decide +kernel⟩,
   ⟨{ held with part := { held.part with vaoLow := true } }, 5, 1, 2, false, 1, true, (fun t => .porstRelease 5 1 2 false 1 true t), by decide +kernel⟩,
   ⟨(parted (fun p => { p with pendingPor := some 4 })), 4, by decide +kernel⟩,
   ⟨(parted (fun p => { p with vsettLost := true })), run, by decide +kernel⟩,
   ⟨{ held with part := { held.part with vsettLost := true } }, { held with part := { held.part with vsettLost := false } }, by decide +kernel⟩,
   ⟨messy, by decide +kernel⟩,
   ⟨(parted (fun p => { p with vaoLow := true })), by decide +kernel⟩,
   ⟨{ held with part := { held.part with vaoLow := true } }, by decide +kernel⟩,
   ⟨held, by decide +kernel⟩⟩

theorem witness_StartUp :
    (∃ (s : State), s.alive = true ∧ s.part.stage = 1) ∧
    (∃ (s : State) (_mismatch : BitVec 8) (_badA _badB : Bool) (m : Nat), s.alive = true ∧ s.secure.selecting = some m ∧ m = 0) ∧
    (∃ (s : State) (badA badB : Bool) (va vb : Nat), va = s.verdict badA s.secure.slotA ∧ vb = s.verdict badB s.secure.slotB ∧ s.chosen va vb =
      none) ∧
    (∃ (s : State) (badA badB : Bool) (va vb : Nat), va = s.verdict badA s.secure.slotA ∧ vb = s.verdict badB s.secure.slotB ∧
      s.part.straps.bootHold = true) ∧
    (∃ (s : State) (badA badB : Bool) (va vb : Nat) (b : Bool), va = s.verdict badA s.secure.slotA ∧ vb = s.verdict badB s.secure.slotB ∧
      s.chosen va vb = some b ∧ s.part.straps.bootHold = false ∧ (s.slotOf b).state = 2) ∧
    (∃ (s : State), s.coreUp = true ∧ s.secure.handing = true) ∧
    (∃ (s : State), s.fwUp = true ∧ (s.rd DEV_STAT.mode 0 = 0 ∨ s.rd DEV_STAT.mode 0 = 2)) ∧
    (∃ (s : State) (failed : BitVec 4), s.coreUp = true ∧ 3 ≤ s.part.stage ∧ s.part.straps.bootHold = false ∧ s.recorder.trained = false ∧
      s.recorder.trainFailed = false ∧ (∀ k < s.stacks, failed.getLsbD k = false)) ∧
    (∃ (s : State) (failed : BitVec 4), s.coreUp = true ∧ 3 ≤ s.part.stage ∧ s.part.straps.bootHold = false ∧ s.recorder.trained = false ∧
      s.recorder.trainFailed = false ∧ (∃ k < s.stacks, failed.getLsbD k = true)) :=
  ⟨⟨(burrowed (fun b => { b with persistOp := 77, persistMeters := [(3, 5, 6)], tornNew := 1 }) (parted (fun p => { p with stage := 1, halted := true }))),
     by decide +kernel⟩,
   ⟨(secured run fun x => { x with selecting := some 0 }), 3, false, false, 0, by decide +kernel⟩,
   ⟨(running 3), true, false, 2, 1, by decide +kernel⟩,
   ⟨(straps (fun x => { x with bootHold := true }) (running 2)), false, false, 0, 1, by decide +kernel⟩,
   ⟨(secured (running 3) fun x => { x with slotB := { state := 2, image := some (imagePart, header 4, sound) } }), false, false, 0, 0, true,
     by decide +kernel⟩,
   ⟨handing, by decide +kernel⟩,
   ⟨(run.wr DEV_STAT.mode 0 0), by decide +kernel⟩,
   ⟨run, 0, by decide +kernel⟩,
   ⟨run, 0xF, by decide +kernel⟩⟩

theorem witness_ApplicationResets :
    (∃ (s t : State) (cause : Nat), t = s.appReset cause) ∧
    (∃ (s : State), s.fwUp = true) ∧
    (∃ (s : State) (z : Nat), s.alive = true ∧ s.part.halted = false ∧ s.part.refreshAt + s.part.watchdogUs ≤ s.bootUs ∧ z < 4 ∧ s.bit
      FAN_ZSTAT.fallback z = false) ∧
    (∃ (s t : State), s.part.vcoreLost = true ∧ t = { s with part := { s.part with vcoreLost := false } } ∧ s.alive = false) ∧
    (∃ (s t : State), s.part.vcoreLost = true ∧ t = { s with part := { s.part with vcoreLost := false } } ∧ s.alive = true ∧ s.recorder.trained
      = false) ∧
    (∃ (s t : State), s.part.vcoreLost = true ∧ t = { s with part := { s.part with vcoreLost := false } } ∧ s.alive = true ∧ s.recorder.trained
      = true) :=
  ⟨⟨messy, (messy.appReset 0x106), 0x106, by decide +kernel⟩,
   ⟨messy, by decide +kernel⟩,
   ⟨{ ((messy.wr FAN_ZSTAT.fallback 1 0).wr FAN_ZSTAT.fallback 3 0) with bootUs := 3000000 }, 3, by decide +kernel⟩,
   ⟨{ held with part := { held.part with vcoreLost := true } }, held, by decide +kernel⟩,
   ⟨(parted (fun p => { p with vcoreLost := true })), run, by decide +kernel⟩,
   ⟨{ (parted (fun p => { p with vcoreLost := true })) with recorder := { trained := true } }, { run with recorder := { trained := true } },
     by decide +kernel⟩⟩

theorem witness_SuppliesAndLinks :
    (∃ (s : State), s.alive = true ∧ s.bit RST_CAUSE.xtal_fallback 0 = false) ∧
    (∃ (s : State), s.alive = true ∧ s.part.xtal32kLost = false) ∧
    (∃ (s : State), s.alive = true ∧ s.part.vcoreLost = false) ∧
    (∃ (s : State), s.alive = true ∧ s.part.vsettLost = false) ∧
    (∃ (s : State), s.alive = false ∧ s.part.vcoreLost = false) ∧
    (∃ (s : State), s.alive = false ∧ s.part.vsettLost = false) ∧
    (∃ (s : State), s.alive = false) ∧
    (∃ (s : State), s.alive = true ∧ s.coreUp = true ∧ s.settUp = true ∧ 3 ≤ s.part.stage ∧ s.part.straps.bootHold = false) ∧
    (∃ (s : State), s.part.perstLow = false ∧ s.alive = true) ∧
    (∃ (s : State), s.part.perstLow = false ∧ s.alive = false) ∧
    (∃ (s : State), s.part.perstLow = true) ∧
    (∃ (s : State) (_cause : BitVec 8), s.alive = true ∧ s.host.linkUp = true) ∧
    (∃ (s : State) (rate width : BitVec 8), s.hostUp = true ∧ s.host.linkUp = false ∧ 16 ≤ width.toNat ∧ 64 ≤ rate.toNat) ∧
    (∃ (s : State) (rate width : BitVec 8), s.hostUp = true ∧ s.host.linkUp = false ∧ (width.toNat < 16 ∨ rate.toNat < 64)) ∧
    (∃ (s : State) (_bus : Fin 2), s.fwUp = true ∧ s.shadow_ = false) :=
  ⟨⟨run, by decide +kernel⟩,
   ⟨run, by decide +kernel⟩,
   ⟨messy, by decide +kernel⟩,
   ⟨messy, by decide +kernel⟩,
   ⟨held, by decide +kernel⟩,
   ⟨held, by decide +kernel⟩,
   ⟨held, by decide +kernel⟩,
   ⟨messy, by decide +kernel⟩,
   ⟨messy, by decide +kernel⟩,
   ⟨{ held with part := { held.part with perstLow := false } }, by decide +kernel⟩,
   ⟨(parted (fun p => { p with perstLow := true })), by decide +kernel⟩,
   ⟨{ messy with host := { messy.host with linkUp := true, decoder := true } }, 5, by decide +kernel⟩,
   ⟨run, 64, 16, by decide +kernel⟩,
   ⟨run, 64, 15, by decide +kernel⟩,
   ⟨run, 1, by decide +kernel⟩⟩

theorem witness_BlockStep :
    (∃ (c : Instr) (rest : List Instr) (s : State), s.pending = c :: rest) ∧
    (∃ (s : State), s.pending = []) :=
  ⟨⟨.calibrationRequest, [.persistWrite], { run with pending := [.calibrationRequest, .persistWrite] }, by rfl⟩,
   ⟨run, by rfl⟩⟩

theorem witness_QueueUntouched :
    (∃ (c : Instr) (s : State), (∀ tcrit tchan role hold fandef xspi, c = .porstRelease tcrit tchan role hold fandef xspi true → s.part.held =
      false) ∧ s.burrow.batch = none) ∧
    (∃ (s : State), s.part.held = true) :=
  ⟨⟨(.porstRelease 1 2 3 false 2 true true), { run with pending := [.core0Release] }, by exact ⟨fun _ _ _ _ _ _ _ => rfl, rfl⟩⟩,
   ⟨held, by decide +kernel⟩⟩

theorem witness_MemoryInvariant :
    (∃ (s t : State), MemWf s ∧ step s = .next t) :=
  ⟨State.reset, State.reset, by exact ⟨by unfold MemWf; decide, rfl⟩⟩

theorem witness_EngineEncoding :
    (∃ (w : Word) (i : EngOp), decodeOp w = some i) :=
  ⟨0xFC000000, .yld, by decide +kernel⟩

theorem witness_EngineFaults :
    (∃ (s : State) (n : Fin 1280) (_op : EngOp), s.ticking n = true ∧ (s.engine n).used < s.budget (n / 32) ∧ (s.engine n).fetch.1 = none) ∧
    (∃ (s : State) (n : Fin 1280) (op : EngOp), s.ticking n = true ∧ (s.engine n).used < s.budget (n / 32) ∧ (s.engine n).fetch.1 = some op ∧
      (s.engine n).used + op.cycles ≤ s.budget (n / 32) ∧ op.reads.any (s.engine n).badRegs.contains = true) :=
  ⟨⟨((engAt (.addi 3 0 7)).setEngine 5 { (engAt (.addi 3 0 7)).engine 5 with badWords := [8] }), 5, (.addi 3 0 7), by decide +kernel⟩,
   ⟨(engAt (.addi 3 0 7) { badRegs := [0] }), 5, (.addi 3 0 7), by decide +kernel⟩⟩

theorem witness_EngineIsolation :
    (∃ (s t : State) (n : Fin 1280) (op : EngOp), op ≠ .yld ∧ (∀ e ∈ (s.engine n).undo, inPrivate n e.1) ∧ exec (op.command n) s = .next t) :=
  ⟨((engAt (.stp 1 4 4) { regs, undo := [(privKey 5 0, 3)] })), _, 5, (.stp 1 4 4), by exact ⟨by decide +kernel, by unfold inPrivate; decide, rfl⟩⟩

theorem witness_SettGuards :
    (∃ (s : State) (k : Fin 40) (_v : BitVec 8) (n : Nat), n / 32 = k.val ∧ (s.engine n).state ∈ [EngState.running, .faulted, .migrating]) ∧
    (∃ (s : State) (_src _dst : BitVec 11), s.settUp = true ∧ s.bit SETT_MIGSTAT.busy 0 = true) :=
  ⟨⟨(engAt (.addi 3 0 7)), 0, 5, 5, by decide +kernel⟩,
   ⟨(run.wr SETT_MIGSTAT.busy 0 1), 5, 6, by decide +kernel⟩⟩

end Sys2Proof.Tests
end

section
/-!
SUPPORT. What a sett refuses to change (05): the engines of a sett, a field written by a command, and the two refusals of R102 and R118.
-/
namespace Sys2Proof.Machine

/-! ## The engines of a sett -/

@[simp] theorem mem_settEngines {k n : Nat} : n ∈ settEngines k ↔ n / 32 = k := by
  simp only [settEngines, List.mem_map, List.mem_range]
  constructor
  · rintro ⟨i, hi, rfl⟩
    omega
  · intro hk
    exact ⟨n % 32, by omega, by omega⟩

theorem State.someEngine_iff {s : State} {k : Nat} {p : EngState → Bool} :
    s.someEngine k p = true ↔ ∃ n, n / 32 = k ∧ p (s.engine n).state = true := by
  simp [State.someEngine]

/-! ## A value written to a field -/

/-- The access rule of a field writes some value to it, or leaves the state alone. -/
theorem State.writeFld_cases (s : State) (f : Fld) (i v : Nat) : (∃ w, s.writeFld f i v = s.wr f i w) ∨ s.writeFld f i v = s := by
  unfold State.writeFld
  split
  case h_5 | h_6 => exact .inr rfl
  all_goals
    split
    · exact .inl ⟨_, rfl⟩
    · exact .inr rfl

@[simp] theorem State.writeFld_setts (s : State) (f : Fld) (i v : Nat) : (s.writeFld f i v).setts = s.setts := by
  obtain ⟨w, hw⟩ | hw := s.writeFld_cases f i v
  · rw [hw, State.wr_setts]
  · rw [hw]

theorem Frame.writeFld {bs : List Block} {fs : List (Fld × Nat)} {s t : State} (f : Fld) (i v : Nat) (h : Frame bs fs s t)
    (hf : (f, i) ∈ fs) : Frame bs fs s (t.writeFld f i v) := by
  obtain ⟨w, hw⟩ | hw := t.writeFld_cases f i v
  · rw [hw]
    exact h.wr f i w hf
  · rw [hw]
    exact h

/-! ## The two refusals -/

/-- R102: a write of the period does nothing while an engine of the sett is at work. -/
theorem execPeriodWrite_refused {s : State} {k : Nat} (v : BitVec 8)
    (h : s.someEngine k (fun e => e == .running || e == .faulted || e == .migrating) = true) : execPeriodWrite k v s = .next s := by
  simp [execPeriodWrite, doIf, h]

/-- R118: a go while a migration is under way writes the command's source and destination (log entry 63), and the lost bit. -/
theorem execMigrationGo_busy {s : State} (src dst : BitVec 11) (hup : s.settUp = true) (hbusy : s.bit SETT_MIGSTAT.busy 0 = true) :
    execMigrationGo src dst s =
      .next (((s.writeFld SETT_MIGCMD.src 0 src.toNat).writeFld SETT_MIGCMD.dst 0 dst.toNat).wr SETT_MIGSTAT.lost 0 1) := by
  simp [execMigrationGo, doIf, hup, hbusy]

theorem periodWrite_keeps_state (s : State) (k : Fin 40) (v : BitVec 8) (n : Nat) (hn : n / 32 = k.val)
    (hst : (s.engine n).state ∈ [EngState.running, .faulted, .migrating]) : Does (.periodWrite k v) s (· = s) := by
  have hsome : s.someEngine k (fun e => e == .running || e == .faulted || e == .migrating) = true :=
    State.someEngine_iff.mpr ⟨n, hn, by simpa [or_assoc] using hst⟩
  exact ⟨s, execPeriodWrite_refused v hsome, rfl⟩

theorem migrationGo_busy_sets_lost (s : State) (src dst : BitVec 11) (hup : s.settUp = true) (hbusy : s.bit SETT_MIGSTAT.busy 0 = true) :
    Does (.migrationGo src dst) s fun t =>
      Frame [] [(SETT_MIGCMD.src, 0), (SETT_MIGCMD.dst, 0), (SETT_MIGSTAT.lost, 0)] s t ∧ t.rd SETT_MIGSTAT.lost 0 = 1 ∧ t.setts = s.setts := by
  refine ⟨_, execMigrationGo_busy src dst hup hbusy, ?frame, ?lost, ?setts⟩
  case frame =>
    exact (((Frame.refl s _ _).writeFld SETT_MIGCMD.src 0 _ (by simp)).writeFld SETT_MIGCMD.dst 0 _ (by simp)).wr SETT_MIGSTAT.lost 0 1 (by simp)
  case lost => exact State.rd_wr_same _ SETT_MIGSTAT.lost 0 1
  case setts => simp only [State.wr_setts, State.writeFld_setts]

/-- Settles O60: each command by its refusal, `execPeriodWrite_refused` and `execMigrationGo_busy`. -/
theorem settGuards : Obligations.SettGuards :=
  ⟨periodWrite_keeps_state, migrationGo_busy_sets_lost⟩

end Sys2Proof.Machine
end

section
/-!
SUPPORT. What a loop engine does when it issues an instruction that is ready (06): a register read after a write, a result written, and the
rule for every instruction that gives one register a result, from which the arithmetic, logic and shifts of R133 and R134 follow.
-/
namespace Sys2Proof.Machine

/-! ## The last of two writes to one number -/

@[simp] theorem Tab.del_del {α : Type} (t : Tab α) (k : Nat) : Tab.del (Tab.del t k) k = Tab.del t k := by
  induction t with
  | nil => rfl
  | cons e t ih =>
    by_cases he : e.1 = k
    · simp [Tab.del, he, ih]
    · simp [Tab.del, he, ih]

@[simp] theorem Tab.del_ins {α : Type} (t : Tab α) (k : Nat) (v : α) : Tab.del (Tab.ins t k v) k = Tab.del t k := by
  induction t with
  | nil => simp [Tab.ins, Tab.del]
  | cons e t ih =>
    by_cases hk : k < e.1
    · simp [Tab.ins, Tab.del, hk]
    · simp [Tab.ins, Tab.del, hk, ih]

@[simp] theorem Tab.set_set {α : Type} [DecidableEq α] (d : α) (t : Tab α) (k : Nat) (v w : α) :
    Tab.set d (Tab.set d t k v) k w = Tab.set d t k w := by
  have hdel : Tab.del (Tab.set d t k v) k = Tab.del t k := by
    unfold Tab.set
    split
    · exact Tab.del_del t k
    · rw [Tab.del_ins, Tab.del_del]
  unfold Tab.set at hdel ⊢
  rw [hdel]

@[simp] theorem State.setEngine_setEngine (s : State) (n : Nat) (e e' : Engine) : (s.setEngine n e).setEngine n e' = s.setEngine n e' := by
  simp [State.setEngine]

/-! ## Registers and flags after a result (Table 6-1, R139) -/

section
variable (e : Engine) (rd x : BitVec 4) (v : Word) (r : Res) (op : EngOp)

theorem Engine.reg_zero : e.reg 0 = 0 := rfl

@[simp] theorem Engine.advance_reg : (e.advance op).reg x = e.reg x := rfl

theorem Engine.setReg_zero : e.setReg 0 v = e := rfl

theorem Engine.setReg_of_ne_zero (h : rd ≠ 0) :
    e.setReg rd v = { e with regs := { e.regs with g := Tab.set 0 e.regs.g rd.toNat v } }.mend rd.toNat := if_neg h

theorem Engine.setReg_reg_same (h : rd ≠ 0) : (e.setReg rd v).reg rd = v := by
  rw [Engine.setReg_of_ne_zero e rd v h, Engine.reg, if_neg h]
  exact Tab.get_set_same ..

theorem Engine.setReg_reg_of_ne (h : x ≠ rd) : (e.setReg rd v).reg x = e.reg x := by
  by_cases hrd : rd = 0
  · rw [hrd, Engine.setReg_zero]
  · have hne : rd.toNat ≠ x.toNat := fun hx => h (BitVec.eq_of_toNat_eq hx.symm)
    simp [Engine.setReg_of_ne_zero e rd v hrd, Engine.reg, Engine.mend, Tab.get_set_ne _ _ _ _ hne]

/-- A write to a register changes the general registers and the parity of what is written, and nothing else. -/
theorem Engine.setReg_frame :
    e.setReg rd v = { e with regs := { e.regs with g := (e.setReg rd v).regs.g }, badRegs := (e.setReg rd v).badRegs } := by
  unfold Engine.setReg
  split <;> rfl

@[simp] theorem Engine.result_reg : (e.result rd r).reg x = (e.setReg rd r.1).reg x := rfl

@[simp] theorem Engine.result_z : (e.result rd r).regs.z = (r.1 == 0) := rfl

@[simp] theorem Engine.result_n : (e.result rd r).regs.n = r.1.msb := rfl

@[simp] theorem Engine.result_q : (e.result rd r).regs.q = r.2 := rfl

@[simp] theorem Engine.result_qs : (e.result rd r).regs.qs = (e.regs.qs || r.2) := by
  change ((e.setReg rd r.1).regs.qs || r.2) = _
  rw [Engine.setReg_frame]

@[simp] theorem Engine.result_tm : (e.result rd r).regs.tm = e.regs.tm := by
  change (e.setReg rd r.1).regs.tm = _
  rw [Engine.setReg_frame]

/-- A result changes the registers, the flags and the parity of what is written, and nothing else. -/
theorem Engine.result_frame : e.result rd r = { e with regs := (e.result rd r).regs, badRegs := (e.result rd r).badRegs } := by
  unfold Engine.result
  rw [Engine.setReg_frame]
  rfl

end

/-! ## Issuing an instruction that is ready (R136, R139) -/

theorem EngOp.cycles_pos (op : EngOp) : 0 < op.cycles := by
  unfold EngOp.cycles
  split <;> decide

/-- An instruction that is ready and meets no fault has its effect on the engine that has advanced. -/
theorem State.issue_of_ready {s t : State} {n : Nat} {op : EngOp} {f : Engine → State → Eff} (h : Ready s n op)
    (hf : f ((s.engine n).advance op) (s.setEngine n ((s.engine n).advance op)) = .done t) : s.issue n op f = .next t := by
  obtain ⟨htick, hfetch, hbudget, hparity⟩ := h
  have hused : (s.engine n).used < s.budget (n / 32) := by
    have hpos := op.cycles_pos
    omega
  obtain ⟨cause, hop⟩ : ∃ cause, (s.engine n).fetch = (some op, cause) := ⟨_, Prod.ext hfetch rfl⟩
  simp [State.issue, doIf, htick, hused, hop, hparity, hf, Nat.not_lt.mpr hbudget]

theorem State.issueEngine_of_ready {s : State} {n : Nat} {op : EngOp} {f : Engine → Option Engine} {e : Engine} (h : Ready s n op)
    (hf : f ((s.engine n).advance op) = some e) : s.issueEngine n op f = .next (s.setEngine n e) := by
  refine State.issue_of_ready h ?_
  simp only [hf, State.setEngine_setEngine]

theorem State.issueAlu_of_ready {s : State} {n : Nat} {op : EngOp} {rd ra rb : BitVec 4} {r : Res} (h : Ready s n op)
    (hr : op.alu ((s.engine n).reg rd) ((s.engine n).reg ra) ((s.engine n).reg rb) = some r) :
    s.issueAlu n op rd ra rb = .next (s.setEngine n (((s.engine n).advance op).result rd r)) := by
  refine State.issueEngine_of_ready h ?_
  simp only [Engine.advance_reg, hr, Option.map_some]

/-! ## An instruction that gives one register a result -/

/-- A command whose effect is the engine that has advanced with result `r` in `rd` computes `r`. -/
theorem Computes.of_result {c : Instr} {s : State} {n : Nat} {op : EngOp} {rd : BitVec 4} {r : Res}
    (h : Ready s n op → exec c s = .next (s.setEngine n (((s.engine n).advance op).result rd r))) : Computes c s n op rd r := by
  intro hready
  refine ⟨_, h hready, ?_⟩
  simp only [OnlyEngine, State.setEngine_engine, if_true, Engine.result_reg, Engine.result_z, Engine.result_n,
    Engine.result_q, Engine.result_qs, Engine.result_tm, true_and]
  refine ⟨Engine.result_frame _ rd r, fun hrd => Engine.setReg_reg_same _ rd _ hrd, fun x hx => ?reg, rfl, rfl⟩
  case reg =>
    obtain hne | rfl := hx
    · rw [Engine.setReg_reg_of_ne _ rd x _ hne, Engine.advance_reg]
    · rfl

/-- A command that issues an instruction of the arithmetic families computes the result of its registers' values. -/
theorem Computes.of_alu {c : Instr} {s : State} {n : Nat} {op : EngOp} {rd : BitVec 4} {r : Res} (ra rb : BitVec 4)
    (hc : exec c s = s.issueAlu n op rd ra rb)
    (hr : op.alu ((s.engine n).reg rd) ((s.engine n).reg ra) ((s.engine n).reg rb) = some r) : Computes c s n op rd r :=
  Computes.of_result fun h => hc.trans (State.issueAlu_of_ready h hr)

/-- DIV of R134: a zero divisor sets Q whatever the dividend. -/
theorem aluDiv_eq (a b : Int) : aluDiv a b =
    if b = 0 then (if 0 < a then 0x7FFFFFFF#32 else if a < 0 then 0x80000000#32 else 0#32, true) else Res.sat (Int.tdiv (a * 65536) b) := by
  unfold aluDiv
  split
  · split
    · rfl
    · split <;> rfl
  · rfl

/-- Settles O7: every instruction of the families issues its row of Table 6-4 as `EngOp.alu` gives it, so that `Computes.of_alu` holds of it;
the instructions with fewer than two source registers read g0 for the missing ones. -/
theorem engineArithmetic : Obligations.EngineArithmetic := by
  refine ⟨fun _ => rfl, Engine.reg_zero, fun s n rd ra rb imm sh up => ⟨?add, ?sub, ?addw, ?subw, ?mul, ?imul, ?div, ?min, ?max, ?abs, ?neg,
    ?lim, ?flt, ?mac, ?and, ?or, ?xor, ?shl, ?shr, ?sar, ?addi, ?andi, ?ori, ?xori, ?shli, ?shri, ?sari, ?ldh⟩⟩
  case add | sub | addw | subw | mul | imul | min | max | lim | flt | mac | and | or | xor | shl | shr | sar =>
    exact Computes.of_alu ra rb rfl rfl
  case div => exact Computes.of_alu ra rb rfl (congrArg some (aluDiv_eq _ _))
  case abs | neg | addi | andi | ori | xori | shli | shri | sari => exact Computes.of_alu ra 0 rfl rfl
  case ldh => exact Computes.of_alu 0 0 rfl rfl

end Sys2Proof.Machine
end

section
/-!
SUPPORT. The insertion path (08): what the operations of feed and insertion control do to the insertion state, the retry count and the gates;
then each step of Table 8-3 by its command.
-/
namespace Sys2Proof.Machine

/-! ## A command whose guard holds, and what an iteration keeps -/

theorem doIf_pos {g : Bool} (s t : State) (h : g = true) : doIf g s t = .next t := by
  rw [doIf, if_pos h]

theorem doIf_neg {g : Bool} (s t : State) (h : g = false) : doIf g s t = .next s := by
  rw [doIf, h]
  rfl

theorem each_keeps {σ ι : Type} {P : σ → Prop} {f : ι → σ → σ} (hf : ∀ i u, P u → P (f i u)) (l : List ι) {s : σ} (h : P s) :
    P (each l f s) := by
  induction l generalizing s with
  | nil => exact h
  | cons i l ih => exact ih (hf i s h)

theorem Tab.get_of_not_mem {α : Type} (d : α) (t : Tab α) {k : Nat} (h : k ∉ t.map (·.1)) : Tab.get d t k = d := by
  induction t with
  | nil => rfl
  | cons e t ih =>
    simp only [List.map_cons, List.mem_cons, not_or] at h
    simp [Tab.get, Ne.symm h.1, ih h.2]

/-! ## The insertion state written and told -/

theorem Frame.feed {bs : List Block} {fs : List (Fld × Nat)} {s t : State} (h : Frame bs fs s t) (z : Feed) (hb : .feed ∈ bs) :
    Frame bs fs s { t with feed := z } :=
  h.upd (fun b hn => by cases b <;> simp_all [Block.same]) rfl

theorem State.tellTwin_frame (s : State) (c : TwinCmd) : Frame [.twin] [] s (s.tellTwin c) := by
  unfold State.tellTwin
  split
  · exact (Frame.refl s _ _).upd (fun b hn => by cases b <;> simp_all [Block.same]) rfl
  · exact Frame.refl s _ _

theorem State.setIns_cases (s : State) (v : Nat) :
    (∃ c, s.setIns v = (s.wr FEED_STAT.ins_state 0 v).tellTwin c) ∨ s.setIns v = s.wr FEED_STAT.ins_state 0 v := by
  unfold State.setIns
  dsimp only
  split
  · exact .inl ⟨_, rfl⟩
  · exact .inr rfl

theorem State.setIns_frame (s : State) (v : Nat) : Frame [.twin] [(FEED_STAT.ins_state, 0)] s (s.setIns v) := by
  have hw : Frame [.twin] [(FEED_STAT.ins_state, 0)] s (s.wr FEED_STAT.ins_state 0 v) := (Frame.refl s _ _).wr _ _ _ List.mem_cons_self
  obtain ⟨c, hc⟩ | hc := s.setIns_cases v
  · rw [hc]
    exact hw.trans ((State.tellTwin_frame _ c).mono (by simp) (by simp))
  · rw [hc]
    exact hw

@[simp] theorem State.setIns_ins (s : State) (v : Nat) : (s.setIns v).ins = v % 8 := by
  obtain ⟨c, hc⟩ | hc := s.setIns_cases v
  · rw [hc, State.ins, (State.tellTwin_frame _ c).2 _ _ (by simp)]
    exact State.rd_wr_same s FEED_STAT.ins_state 0 v
  · rw [hc]
    exact State.rd_wr_same s FEED_STAT.ins_state 0 v

@[simp] theorem State.setIns_feed (s : State) (v : Nat) : (s.setIns v).feed = s.feed := (s.setIns_within v).block .feed rfl
@[simp] theorem State.setIns_zither (s : State) (v : Nat) : (s.setIns v).zither = s.zither := (s.setIns_within v).block .zither rfl

/-! ## GHS driven low -/

theorem State.judgeDisch_frame (s : State) : Frame [.feed] [] s s.judgeDisch := by
  have h := Frame.refl s [.feed] []
  unfold State.judgeDisch
  dsimp only
  split
  · exact h.feed _ List.mem_cons_self
  · split
    · split
      · exact h.feed _ List.mem_cons_self
      · exact h.feed _ List.mem_cons_self
    · exact h

@[simp] theorem State.judgeDisch_ghsHigh (s : State) : s.judgeDisch.feed.ghsHigh = s.feed.ghsHigh := by
  unfold State.judgeDisch
  dsimp only
  split
  · rfl
  · split
    · split <;> rfl
    · rfl

theorem State.ghsLow_frame (s : State) : Frame [.feed] [] s s.ghsLow := by
  unfold State.ghsLow
  split
  · exact ((Frame.refl s _ _).feed _ List.mem_cons_self).trans (State.judgeDisch_frame _)
  · exact Frame.refl s _ _

@[simp] theorem State.ghsLow_rd (s : State) (f : Fld) (i : Nat) : s.ghsLow.rd f i = s.rd f i := s.ghsLow_frame.2 f i (by simp)

theorem State.ghsLow_ghsHigh {s : State} (h : s.ghsDriven = true) : s.ghsLow.feed.ghsHigh = false := by
  rw [State.ghsLow, if_pos h, State.judgeDisch_ghsHigh]

/-! ## A trip -/

/-- Every EN pad is released and no entry's EN is driven on (R168, R189). -/
def State.padsReleased (s : State) : Prop := s.zither.released = true ∧ ∀ k, (s.zent k).on = false

/-- After every entry of a list that holds all that are on has been put off, none is on. -/
theorem each_setZent_off (l : List Nat) {s : State} (h : ∀ k, k ∉ l → (s.zent k).on = false) (k : Nat) :
    ((each l (fun k s => s.setZent k { s.zent k with phase := 0, on := false }) s).zent k).on = false := by
  induction l generalizing s with
  | nil => exact h k List.not_mem_nil
  | cons i l ih =>
    refine ih fun j hj => ?_
    rw [State.setZent_zent]
    split
    case isTrue => rfl
    case isFalse hij => exact h j (List.not_mem_cons_of_ne_of_not_mem (Ne.symm hij) hj)

theorem State.releasePads_padsReleased (s : State) : s.releasePads.padsReleased := by
  unfold State.releasePads
  refine each_keeps (fun g u hu => ?group) _ ⟨?released, each_setZent_off _ fun k hk => ?off⟩
  case group =>
    dsimp only
    split
    · exact hu
    · split <;> exact hu
  case released =>
    refine each_keeps (P := fun u : State => u.zither.released = true) ?_ _ ?_
    · exact fun _ _ hu => hu
    · rfl
  case off => exact congrArg ZEntry.on (Tab.get_of_not_mem _ _ hk)

/-- A trip with `cause` up to its records: GHS low, the pads released, the retry timer started, the cause, the count and the state written (R189,
R190). -/
def State.tripped (s : State) (cause : Nat) : State :=
  let u := s.ghsLow
  let retry := u.rd FEED_STAT.retry_count 0 + 1
  let v := u.releasePads
  let w := { v with zither := { v.zither with redriveFrom := some v.bootUs },
                    feed := { v.feed with retryEnd := v.bootUs + v.rd FEED_CTL.retry_s 0 * 1000000 } }
  ((w.wr FEED_STAT.trip_cause 0 cause).wr FEED_STAT.retry_count 0 retry).setIns (if decide (u.rd FEED_CTL.retry_max 0 < retry) then 4 else 3)

/-- What a trip does after `State.tripped` is to record it and to tell the twin. -/
theorem State.trip_within_tripped {s : State} (h : s.insActive = true) (cause ev : Nat) (data : List Nat) :
    Within [.msix, .burrow, .twin] [6914, 9152, 9280, 9344, 9408] (s.tripped cause) (s.trip [(cause, ev, data)]) := by
  change Within _ _ _ (ite _ _ _)
  rw [if_pos h]
  refine Within.step (State.inOneCycle_within (t := s.tripped cause) (Within.refl _ _ _) rfl fun r u hu => ?_) (State.tellTwin_within _ _) rfl
  have hev := Within.step hu (State.record_within u ev Src.feed (data ++ [s.ghsLow.rd FEED_STAT.retry_count 0 + 1])) rfl
  exact Within.step (Within.ite (Within.step hev (State.record_within _ _ _ _) rfl) hev) (State.record_within _ _ _ _) rfl

theorem State.tripped_ins (s : State) (cause : Nat) :
    (s.tripped cause).ins = if s.rd FEED_CTL.retry_max 0 < s.rd FEED_STAT.retry_count 0 + 1 then 4 else 3 := by
  simp only [State.tripped, State.setIns_ins, State.ghsLow_rd, decide_eq_true_eq]
  split <;> rfl

theorem State.tripped_trip_cause (s : State) (cause : Nat) : (s.tripped cause).rd FEED_STAT.trip_cause 0 = cause % 16 := by
  rw [State.tripped, (State.setIns_within _ _).rd FEED_STAT.trip_cause 0 rfl, State.rd_wr_code _ _ _ _ _ _ (by decide) (by decide) (by decide)]
  exact State.rd_wr_same _ FEED_STAT.trip_cause 0 cause

theorem State.tripped_retry_count (s : State) (cause : Nat) :
    (s.tripped cause).rd FEED_STAT.retry_count 0 = (s.rd FEED_STAT.retry_count 0 + 1) % 32 := by
  rw [State.tripped, (State.setIns_within _ _).rd FEED_STAT.retry_count 0 rfl, State.rd_wr_same, State.ghsLow_rd]
  rfl

theorem State.tripped_padsReleased (s : State) (cause : Nat) : (s.tripped cause).padsReleased := by
  have h := State.releasePads_padsReleased s.ghsLow
  simpa only [State.padsReleased, State.zent, State.tripped, State.setIns_zither, State.wr_zither] using h

/-- What R189 leaves: the path is LATCHED or TRIPPED with its cause, one retry more is counted, and every EN pad is released. -/
def TripLeaves (s t : State) (cause : Nat) : Prop :=
  t.ins = (if s.rd FEED_CTL.retry_max 0 < s.rd FEED_STAT.retry_count 0 + 1 then 4 else 3) ∧ t.rd FEED_STAT.trip_cause 0 = cause ∧
    t.rd FEED_STAT.retry_count 0 = (s.rd FEED_STAT.retry_count 0 + 1) % 32 ∧ t.padsReleased

theorem State.trip_leaves {s : State} (h : s.insActive = true) {cause : Nat} (hc : cause < 16) (ev : Nat) (data : List Nat) :
    TripLeaves s (s.trip [(cause, ev, data)]) cause := by
  have hw := State.trip_within_tripped h cause ev data
  have hz : (s.trip [(cause, ev, data)]).zither = (s.tripped cause).zither := hw.block .zither rfl
  refine ⟨?ins, ?cause, ?retry, ?pads⟩
  case ins => exact (hw.rd FEED_STAT.ins_state 0 rfl).trans (s.tripped_ins cause)
  case cause => rw [hw.rd FEED_STAT.trip_cause 0 rfl, State.tripped_trip_cause, Nat.mod_eq_of_lt hc]
  case retry => rw [hw.rd FEED_STAT.retry_count 0 rfl, State.tripped_retry_count]
  case pads =>
    simp only [State.padsReleased, State.zent, hz]
    exact s.tripped_padsReleased cause

/-! ## The feed gates and the insertion state rebuilt from the burrow -/

@[simp] theorem State.setSide_replayed (s : State) (b : Bool) (v : FeedSide) : (s.setSide b v).feed.replayed = s.feed.replayed := by
  cases b <;> rfl

@[simp] theorem State.reverseRecord_replayed (s : State) (b : Bool) : (s.reverseRecord b).feed.replayed = s.feed.replayed := by
  simp [State.reverseRecord]

@[simp] theorem State.closeEpisode_replayed (s : State) (b : Bool) : (s.closeEpisode b).feed.replayed = s.feed.replayed := by
  unfold State.closeEpisode
  dsimp only
  split
  · split
    · split <;> simp
    · simp
  · rfl

@[simp] theorem State.setGate_replayed (s : State) (b : Bool) (v : Nat) : (s.setGate b v).feed.replayed = s.feed.replayed := by
  unfold State.setGate
  split <;> simp

@[simp] theorem State.setGate_gate (s : State) (b : Bool) (v : Nat) : (s.setGate b v).rd (gateFld b) 0 = v % 4 := by
  cases b <;> exact State.rd_wr_same _ _ 0 v

theorem State.setGate_true_gda (s : State) (v : Nat) : (s.setGate true v).rd FEED_STAT.gda 0 = s.rd FEED_STAT.gda 0 := by
  refine (State.rd_wr_code _ FEED_STAT.gdb FEED_STAT.gda 0 0 v (by decide) (by decide) (by decide)).trans ?_
  split
  · exact (State.closeEpisode_within s true).rd FEED_STAT.gda 0 rfl
  · rfl

/-- The burrow's replay up to the insertion state: the gates that the records `l` leave DAMAGED (R194). -/
def State.replayGates (s : State) (l : List Rec) : State :=
  let t := { s with feed := { s.feed with replayed := true } }
  let t := if gateDamaged 0 l then t.setGate false 3 else t
  if gateDamaged 1 l then t.setGate true 3 else t

theorem State.replayGates_gda {s : State} {l : List Rec} (h : gateDamaged 0 l = true) : (s.replayGates l).rd FEED_STAT.gda 0 = 3 := by
  simp only [State.replayGates, h, if_true]
  split
  · rw [State.setGate_true_gda]
    exact State.setGate_gate _ false 3
  · exact State.setGate_gate _ false 3

theorem State.replayGates_gdb {s : State} {l : List Rec} (h : gateDamaged 1 l = true) : (s.replayGates l).rd FEED_STAT.gdb 0 = 3 := by
  simp only [State.replayGates, h, if_true]
  exact State.setGate_gate _ true 3

@[simp] theorem State.replayGates_replayed (s : State) (l : List Rec) : (s.replayGates l).feed.replayed = true := by
  simp only [State.replayGates]
  split <;> split <;> simp

@[simp] theorem State.replayGates_ins (s : State) (l : List Rec) : (s.replayGates l).ins = s.ins := by
  have hg (t : State) (b damaged : Bool) : (if damaged then t.setGate b 3 else t).ins = t.ins := by
    split
    · exact (State.setGate_within t b 3).rd FEED_STAT.ins_state 0 rfl
    · rfl
  exact (hg _ true (gateDamaged 1 l)).trans (hg _ false (gateDamaged 0 l))

@[simp] theorem State.replayIns_replayed (s : State) (l : List Rec) : (s.replayIns l).feed.replayed = s.feed.replayed := by
  unfold State.replayIns
  dsimp only
  split
  · split
    · simp
    · split
      · simp
      · split <;> simp
  · rfl

theorem State.replayIns_none {s : State} {l : List Rec} (h : latestRec Rec.setsInsertion l = none) : s.replayIns l = s := by
  rw [State.replayIns, h]

theorem State.replayIns_trip {s : State} {l : List Rec} {r : Rec} {c : Nat} (h : latestRec Rec.setsInsertion l = some r)
    (hc : r.tripCause = some c) : (s.replayIns l).ins = 3 ∧ (s.replayIns l).rd FEED_STAT.retry_count 0 = r.data.getLastD 0 % 32 := by
  simp only [State.replayIns, h, hc]
  refine ⟨?ins, ?retry⟩
  case ins =>
    refine ((State.record_within _ _ _ _).rd FEED_STAT.ins_state 0 rfl).trans ?_
    rw [State.rd_wr_code _ _ _ _ _ _ (by decide) (by decide) (by decide)]
    exact State.setIns_ins _ 3
  case retry => exact ((State.record_within _ _ _ _).rd FEED_STAT.retry_count 0 rfl).trans (State.rd_wr_same _ _ _ _)

theorem Rec.tripCause_latched {r : Rec} (h : r.code = Ev.FEED_LATCHED) : r.tripCause = none := by
  simp [Rec.tripCause, h, Ev.FEED_LATCHED, Ev.FEED_OC_FAST, Ev.FEED_OC_TIMED, Ev.FEED_OUT_LOST, Ev.FEED_SHORT_RAMP, Ev.FEED_PULLDOWN,
    Ev.FEED_RAMP_TO]

theorem State.replayIns_latched {s : State} {l : List Rec} {r : Rec} (h : latestRec Rec.setsInsertion l = some r)
    (hc : r.code = Ev.FEED_LATCHED) : (s.replayIns l).ins = 4 ∧ (s.replayIns l).rd FEED_STAT.retry_count 0 = r.data.getLastD 0 % 32 := by
  simp only [State.replayIns, h, Rec.tripCause_latched hc, hc, if_true]
  refine ⟨?ins, State.rd_wr_same _ _ _ _⟩
  case ins =>
    rw [State.ins, State.rd_wr_code _ _ _ _ _ _ (by decide) (by decide) (by decide)]
    exact State.setIns_ins _ 4

end Sys2Proof.Machine
end

section
/-!
SUPPORT. The steps of the insertion path (Table 8-3), one theorem for each command, and O19 put together from them.
-/
namespace Sys2Proof.Machine

/-! ## Admission and ramp -/

theorem State.judgeSpans_settleDue (s : State) : s.judgeSpans.feed.settleDue =
    if s.admissible then some (s.feed.settleDue.getD (s.bootUs + s.rd FEED_TIMING.t_settle 0 * 1000)) else none := rfl

theorem State.spanned_of_le {s : State} {from_ : Option Nat} {us : Nat} (h : ∃ d, from_ = some d ∧ d + us ≤ s.bootUs) :
    s.spanned from_ us = true := by
  obtain ⟨d, rfl, hd⟩ := h
  exact decide_eq_true hd

theorem State.admissible_of_feedA {s : State} (hwl : s.flev 2 2 = false) (hfh : s.flev 2 0 = false)
    (hlever : s.bit FEED_STAT.lever_latched 0 = true) (hpull : s.pulled 2 = false) (hcol : s.collapsed = false)
    (hbit : s.bit FEED_STAT.collapse 0 = false) : s.admissible = true := by
  simp [State.admissible, voltWin, hwl, hfh, hlever, hpull, hcol, hbit]

theorem settleExpiry_starts_ramp {s : State} (halive : s.alive = true) (hins : s.ins = 0) (hreplay : s.feed.replayed = true)
    (hadm : s.admissible = true) (hready : s.gateReady false = true) (hdue : ∃ due, s.feed.settleDue = some due ∧ due ≤ s.bootUs) :
    Does .settleExpiry s fun t => Frame [.feed, .twin] [(FEED_STAT.ins_state, 0), (FEED_EFET.e_fet, 0)] s t ∧ t.ins = 1 ∧
      t.rd FEED_EFET.e_fet 0 = 0 ∧ t.feed.rampAt = s.bootUs ∧ t.feed.vStart = s.sample 59 ∧ t.feed.ghsHigh = false := by
  have hspan : s.spanned s.feed.settleDue 0 = true := State.spanned_of_le hdue
  have hrun : exec .settleExpiry s = .next (s.rampStart.setIns 1) :=
    doIf_pos _ _ (by simp [halive, hins, hreplay, hadm, hready, hspan])
  refine ⟨_, hrun, ?frame, State.setIns_ins _ 1, ?energy, ?ramp⟩
  case frame =>
    exact (((Frame.refl s _ _).feed _ (by simp)).wr FEED_EFET.e_fet 0 0 (by simp)).trans ((State.setIns_frame s.rampStart 1).mono (by simp) (by simp))
  case energy => exact ((State.setIns_within _ 1).rd FEED_EFET.e_fet 0 rfl).trans (State.rd_wr_same _ FEED_EFET.e_fet 0 0)
  case ramp =>
    rw [State.setIns_feed]
    exact ⟨rfl, rfl, rfl⟩

/-- The gate check at a GHS driven high: confirmed in RAMP, the path is ON; unconfirmed, nothing changes (R183, R186). -/
theorem State.confirmGhs_ramp {s : State} (hhigh : s.feed.ghsHigh = true) (hins : s.ins = 1) (hlead : s.shadow_ = false) :
    s.confirmGhs.feed.ghsHigh = true ∧ s.confirmGhs.feed.ghsAt = s.feed.ghsAt ∧ (s.flev 8 2 = true → s.confirmGhs.ins = 1) ∧
      (s.flev 8 2 = false → s.confirmGhs.ins = 2) := by
  unfold State.confirmGhs
  cases hmon : s.flev 8 2 with
  | true => simp [hhigh, hins]
  | false =>
    rw [if_pos ⟨hhigh, rfl⟩]
    dsimp only
    rw [if_pos ⟨hins, hlead⟩]
    have hon : ∀ (t : State) (data : List Nat), ((t.setIns 2).record Ev.FEED_RAMP_DONE Src.feed data).ins = 2 := fun t data =>
      ((State.record_within _ _ _ _).rd FEED_STAT.ins_state 0 rfl).trans (State.setIns_ins t 2)
    simp [hon, hhigh]

theorem rampEnd_drives_ghs {s : State} (halive : s.alive = true) (hins : s.ins = 1) (hlead : s.shadow_ = false)
    (hlow : s.feed.ghsHigh = false) (hnear : s.vIn - 512 ≤ s.sample 59) (hwl : s.flev 1 2 = false)
    (hspan : ∃ from_, s.feed.nearFrom = some from_ ∧ from_ + 1000 ≤ s.bootUs) :
    Does .rampEnd s fun t => Touches [.feed, .msix, .burrow, .twin] (FEED_STAT.ins_state :: recBits) s t ∧
      t.feed.ghsHigh = true ∧ t.feed.ghsAt = s.bootUs ∧ (s.flev 8 2 = true → t.ins = 1) ∧ (s.flev 8 2 = false → t.ins = 2) := by
  have hramp : s.rampNear = true := by simp [State.rampNear, hins, hlow, hnear, hwl]
  have hrun : exec .rampEnd s = .next
      ({ s with feed := { s.feed with ghsHigh := true, ghsAt := s.bootUs, nearFrom := none, lowFrom := none } }).confirmGhs :=
    doIf_pos _ _ (by simp [halive, hlead, hramp, State.spanned_of_le hspan])
  exact ⟨_, hrun, (execRampEnd_out s _ hrun).touches rfl rfl, State.confirmGhs_ramp rfl hins hlead⟩

/-! ## Trips -/

/-- The register fields of a trip. -/
def tripFlds : List Fld :=
  [ZIT_GSTAT.abort_cause, ZIT_GSTAT.state, FEED_STAT.retry_count, FEED_STAT.trip_cause, FEED_STAT.ins_state] ++ recBits

/-- A command whose effect is a trip with `cause` has the effect of R189. -/
theorem Does.of_trip {c : Instr} {s : State} {cause ev : Nat} {data : List Nat} (hrun : exec c s = .next (s.trip [(cause, ev, data)]))
    (h : s.insActive = true) (hc : cause < 16) :
    Does c s fun t => Touches [.zither, .feed, .msix, .burrow, .twin] tripFlds s t ∧ TripLeaves s t cause :=
  ⟨_, hrun, (s.trip_within _).touches rfl rfl, State.trip_leaves h hc ev data⟩

theorem rampShortfallExpiry_trips {s : State} (halive : s.alive = true) (hins : s.ins = 1) (hlow : s.feed.ghsHigh = false)
    (hshort : s.feed.vStart * 1000000 + s.feed.dvdt * (s.bootUs - s.feed.rampAt : Nat) * 512 > (s.sample 59 + 5120) * 1000000)
    (hvin : s.vIn > s.sample 59 + 5120) (hspan : ∃ from_, s.feed.lowFrom = some from_ ∧ from_ + 200 ≤ s.bootUs) :
    Does .rampShortfallExpiry s fun t => Touches [.zither, .feed, .msix, .burrow, .twin] tripFlds s t ∧ TripLeaves s t 3 := by
  have hramp : s.rampLow = true := by simp only [State.rampLow, hins, hlow, hshort, hvin, decide_true]; rfl
  refine Does.of_trip (doIf_pos _ _ ?_) (by simp [State.insActive, hins]) (by decide)
  simp [halive, hramp, State.spanned_of_le hspan]

theorem rampDeadlineExpiry_trips {s : State} (halive : s.alive = true) (hins : s.ins = 1) (hlow : s.feed.ghsHigh = false)
    (hdue : s.feed.rampAt + s.feed.rampTo * 10000 ≤ s.bootUs) :
    Does .rampDeadlineExpiry s fun t => Touches [.zither, .feed, .msix, .burrow, .twin] tripFlds s t ∧ TripLeaves s t 5 :=
  Does.of_trip (doIf_pos _ _ (by simp [halive, hins, hlow, hdue])) (by simp [State.insActive, hins]) (by decide)

theorem timedFuseExpiry_trips {s : State} (halive : s.alive = true) (hact : s.insActive = true) (hwh : s.flev 0 1 = true)
    (hdue : s.feed.ocFrom + s.feed.tOc * 10 ≤ s.bootUs) :
    Does .timedFuseExpiry s fun t => Touches [.zither, .feed, .msix, .burrow, .twin] tripFlds s t ∧ TripLeaves s t 2 :=
  Does.of_trip (doIf_pos _ _ (by simp [halive, hact, hwh, hdue])) hact (by decide)

/-! ## Retry, removal and discharge -/

theorem retryTimerExpiry_waits {s : State} (halive : s.alive = true) (hins : s.ins = 3) (hdue : s.feed.retryEnd ≤ s.bootUs) :
    Does .retryTimerExpiry s fun t => Frame [.twin] [(FEED_STAT.ins_state, 0)] s t ∧ t.ins = 0 :=
  ⟨s.setIns 0, doIf_pos _ _ (by simp [halive, hins, hdue]), s.setIns_frame 0, s.setIns_ins 0⟩

theorem tripClearTimer_clears {s : State} (halive : s.alive = true) (hins : s.ins = 2) (hcount : s.rd FEED_STAT.retry_count 0 ≠ 0)
    (hdue : s.feed.onAt + 60000000 ≤ s.bootUs) :
    Records .tripClearTimer s Ev.FEED_TRIP_CLEAR Src.feed [s.rd FEED_STAT.retry_count 0] fun u =>
      Frame [] [(FEED_STAT.retry_count, 0)] s u ∧ u.rd FEED_STAT.retry_count 0 = 0 :=
  ⟨s.wr FEED_STAT.retry_count 0 0, doIf_pos _ _ (by simp [halive, hins, hcount, hdue]), (Frame.refl s _ _).wr _ _ _ List.mem_cons_self,
    State.rd_wr_same s FEED_STAT.retry_count 0 0⟩

theorem tripClearTimer_idle {s : State} (h : s.rd FEED_STAT.retry_count 0 = 0 ∨ s.ins ≠ 2 ∨ s.bootUs < s.feed.onAt + 60000000) :
    Does .tripClearTimer s (· = s) := by
  refine ⟨s, doIf_neg _ _ ?_, rfl⟩
  obtain hcount | hins | hearly := h
  · simp [hcount]
  · simp [hins]
  · simp [hearly]

theorem removalEnd_waits {s : State} (halive : s.alive = true) (hins : s.ins = 6) (hdown : s.allGroupsDown = true) :
    Does .removalEnd s fun t => Frame [.feed, .twin] [(FEED_STAT.ins_state, 0)] s t ∧ t.ins = 0 ∧ t.feed.ghsHigh = false := by
  have hdriven : s.ghsDriven = true := by simp [State.ghsDriven, hins]
  refine ⟨s.ghsLow.setIns 0, doIf_pos _ _ (by simp [halive, hins, hdown]), ?frame, State.setIns_ins _ 0, ?ghs⟩
  case frame => exact (s.ghsLow_frame.mono (by simp) (by simp)).trans ((State.setIns_frame s.ghsLow 0).mono (by simp) (by simp))
  case ghs => rw [State.setIns_feed, State.ghsLow_ghsHigh hdriven]

theorem dischTimeout_ends {s : State} (halive : s.alive = true) (hdisch : s.feed.disch = true)
    (hdue : s.feed.dischAt + s.rd FEED_REMOVE.t_disch_max 0 * 1000 ≤ s.bootUs) :
    Records .dischTimeout s Ev.FEED_DISCH_SLOW Src.feed [voltsOf (s.sample 59)] fun u =>
      Frame [.feed] [] s u ∧ u.feed.disch = false ∧ u.feed.dischWant = false :=
  ⟨{ s with feed := { s.feed with disch := false, dischWant := false } }, doIf_pos _ _ (by simp [halive, hdisch, hdue]),
    (Frame.refl s _ _).feed _ List.mem_cons_self, rfl, rfl⟩

/-! ## The burrow's replay -/

theorem burrowReplay_rebuilds {s : State} {l : List Rec} (halive : s.alive = true) (hstage : 2 ≤ s.part.stage) (hins : s.ins = 0)
    (hfirst : s.feed.replayed = false) (hl : l = s.burrow.feedRecs ++ s.burrow.flash) :
    Does .burrowReplay s fun t => Touches [.feed, .msix, .burrow, .twin]
        ([FEED_STAT.gdb, FEED_STAT.gda, FEED_STAT.retry_count, FEED_STAT.ins_state] ++ recBits) s t ∧ t.feed.replayed = true ∧
      (gateDamaged 0 l = true → t.rd FEED_STAT.gda 0 = 3) ∧ (gateDamaged 1 l = true → t.rd FEED_STAT.gdb 0 = 3) ∧
      (latestRec Rec.setsInsertion l = none → t.ins = 0) ∧
      (∀ r, latestRec Rec.setsInsertion l = some r → r.code = Ev.FEED_LATCHED → t.ins = 4 ∧ t.rd FEED_STAT.retry_count 0 = r.data.getLastD 0 % 32) ∧
      (∀ r c, latestRec Rec.setsInsertion l = some r → r.tripCause = some c →
        t.ins = 3 ∧ t.rd FEED_STAT.retry_count 0 = r.data.getLastD 0 % 32) := by
  have hrun : exec .burrowReplay s = .next ((s.replayGates l).replayIns l) := by
    subst hl
    refine (doIf_pos _ _ (by simp [halive, hstage, hfirst])).trans ?_
    rw [if_pos hins]
    rfl
  have hkeep := State.replayIns_within (s.replayGates l) l
  refine ⟨_, hrun, (execBurrowReplay_out s _ hrun).touches rfl rfl, by simp, fun hg => ?gda, fun hg => ?gdb, fun hn => ?none,
    fun r hr => State.replayIns_latched hr, fun r c hr => State.replayIns_trip hr⟩
  case gda => rw [hkeep.rd FEED_STAT.gda 0 rfl, State.replayGates_gda hg]
  case gdb => rw [hkeep.rd FEED_STAT.gdb 0 rfl, State.replayGates_gdb hg]
  case none => rw [State.replayIns_none hn, State.replayGates_ins, hins]

/-- Settles O19, each clause by the theorem of its command. -/
theorem insertionPath : Obligations.InsertionPath := by
  refine ⟨fun s => ⟨fun h => ?ends, fun h hnone => ?starts, fun h hsome => ?stands⟩,
    fun s halive hins hwl hfh hlever hpull hcol hbit hready hreplay =>
      settleExpiry_starts_ramp halive hins hreplay (State.admissible_of_feedA hwl hfh hlever hpull hcol hbit) hready,
    fun s => rampEnd_drives_ghs, fun s => rampShortfallExpiry_trips, fun s => rampDeadlineExpiry_trips, fun s => timedFuseExpiry_trips,
    fun s => retryTimerExpiry_waits, fun s => tripClearTimer_clears, fun s => tripClearTimer_idle, fun s => removalEnd_waits,
    fun s => dischTimeout_ends, fun s l => burrowReplay_rebuilds⟩
  case ends => simp [State.judgeSpans_settleDue, h]
  case starts => simp [State.judgeSpans_settleDue, h, hnone]
  case stands =>
    obtain ⟨due, hdue⟩ := Option.isSome_iff_exists.mp hsome
    simp [State.judgeSpans_settleDue, h, hdue]

end Sys2Proof.Machine
end

section
/-!
SUPPORT. What holds of every command: the memories' canonical form (O55), that it completes and leaves the queue alone (O54), how a step takes
its command from the queue (O52), and the state after reset (O53).
-/
namespace Sys2Proof.Machine

/-- Every command keeps the queue, the canonical form of memory, and that no records wait. -/
theorem exec_keeps : ∀ (c : Instr) (s : State), OutKeeps s (exec c s)
  | .porstAssert short, s => execPorstAssert_keeps short s
  | .porstRelease tcrit tchan twinRole bootHold fandef xspiMode testen, s => (execPorstRelease_out tcrit tchan twinRole bootHold fandef xspiMode testen s).keeps rfl
  | .stage2Start cub, s => (execStage2Start_out cub s).keeps rfl
  | .burrowReplay, s => (execBurrowReplay_out s).keeps rfl
  | .imageSelection mismatch badA badB, s => (execImageSelection_out mismatch badA badB s).keeps rfl
  | .core0Release, s => (execCore0Release_out s).keeps rfl
  | .firmwareReady, s => (execFirmwareReady_out s).keeps rfl
  | .hbmTrainingEnd failed, s => (execHbmTrainingEnd_out failed s).keeps rfl
  | .xtalLoss, s => (execXtalLoss_out s).keeps rfl
  | .xtal32kLoss, s => (execXtal32kLoss_out s).keeps rfl
  | .watchdogLapse, s => (execWatchdogLapse_out s).keeps rfl
  | .applicationReset, s => (execApplicationReset_out s).keeps rfl
  | .pendingPowerOnReset, s => execPendingPowerOnReset_keeps s
  | .vcoreLoss, s => (execVcoreLoss_out s).keeps rfl
  | .vcoreReturn, s => (execVcoreReturn_out s).keeps rfl
  | .vsettLoss, s => (execVsettLoss_out s).keeps rfl
  | .vsettReturn, s => execVsettReturn_keeps s
  | .vaoBrownout, s => execVaoBrownout_keeps s
  | .vaoReturn, s => (execVaoReturn_out s).keeps rfl
  | .cxlPerstAssert, s => (execCxlPerstAssert_out s).keeps rfl
  | .cxlLinkDown cause, s => (execCxlLinkDown_out cause s).keeps rfl
  | .linkL0 rate width, s => (execLinkL0_out rate width s).keeps rfl
  | .sampleWord sub words, s => (execSampleWord_out sub words s).keeps rfl
  | .inputCollapse, s => (execInputCollapse_out s).keeps rfl
  | .pgChange pin high, s => (execPgChange_out pin high s).keeps rfl
  | .commit c b v, s => (execCommit_out c b v s).keeps rfl
  | .windowCommitApply c b, s => (execWindowCommitApply_out c b s).keeps rfl
  | .feedWindowCommit n v, s => (execFeedWindowCommit_out n v s).keeps rfl
  | .channelConfigWrite c v, s => (execChannelConfigWrite_out c v s).keeps rfl
  | .channelLock c, s => (execChannelLock_out c s).keeps rfl
  | .meterClear m, s => (execMeterClear_out m s).keeps rfl
  | .meterPavgUpdate m, s => (execMeterPavgUpdate_out m s).keeps rfl
  | .accumulatorLowRead m reverse, s => (execAccumulatorLowRead_out m reverse s).keeps rfl
  | .persistWrite, s => (execPersistWrite_out s).keeps rfl
  | .calibrationRequest, s => (execCalibrationRequest_out s).keeps rfl
  | .calPeriodExpiry, s => (execCalPeriodExpiry_out s).keeps rfl
  | .calTempDelta c, s => (execCalTempDelta_out c s).keeps rfl
  | .calSpareTakeover c sub, s => (execCalSpareTakeover_out c sub s).keeps rfl
  | .calOwnConverterDone c sub, s => (execCalOwnConverterDone_out c sub s).keeps rfl
  | .calReturn c sub within, s => (execCalReturn_out c sub within s).keeps rfl
  | .dieTemperatureRead temps, s => (execDieTemperatureRead_out temps s).keeps rfl
  | .channelFault c short bad, s => (execChannelFault_out c short bad s).keeps rfl
  | .channelFaultClear c, s => (execChannelFaultClear_out c s).keeps rfl
  | .settTickBoundary k half upsets, s => (execSettTickBoundary_out k half upsets s).keeps rfl
  | .tickOverrun n half, s => (execTickOverrun_out n half s).keeps rfl
  | .bind n obj, s => (execBind_out n obj s).keeps rfl
  | .start n obj, s => (execStart_out n obj s).keeps rfl
  | .stop n obj, s => (execStop_out n obj s).keeps rfl
  | .unbind n obj, s => (execUnbind_out n obj s).keeps rfl
  | .instructionMemoryWrite n a v, s => (execInstructionMemoryWrite_out n a v s).keeps rfl
  | .bindingWrite n slot v, s => (execBindingWrite_out n slot v s).keeps rfl
  | .firmwareValueWrite k off v, s => (execFirmwareValueWrite_out k off v s).keeps rfl
  | .migrationGo src dst, s => (execMigrationGo_out src dst s).keeps rfl
  | .migrationCopy half, s => (execMigrationCopy_out half s).keeps rfl
  | .migrationHandover half, s => (execMigrationHandover_out half s).keeps rfl
  | .settEnable k, s => (execSettEnable_out k s).keeps rfl
  | .settDisable k, s => (execSettDisable_out k s).keeps rfl
  | .periodWrite k v, s => (execPeriodWrite_out k v s).keeps rfl
  | .termWrite r hi v, s => (execTermWrite_out r hi v s).keeps rfl
  | .ruleDisable r, s => (execRuleDisable_out r s).keeps rfl
  | .ruleLock r, s => (execRuleLock_out r s).keeps rfl
  | .latchClear r, s => (execLatchClear_out r s).keeps rfl
  | .rfxRuleTrue r, s => (execRfxRuleTrue_out r s).keeps rfl
  | .rfxRuleFalse r, s => (execRfxRuleFalse_out r s).keeps rfl
  | .pop, s => (execPop_out s).keeps rfl
  | .engNop n, s => (execEngNop_out n s).keeps rfl
  | .engAdd n rd ra rb, s => (execEngAdd_out n rd ra rb s).keeps rfl
  | .engSub n rd ra rb, s => (execEngSub_out n rd ra rb s).keeps rfl
  | .engAddw n rd ra rb, s => (execEngAddw_out n rd ra rb s).keeps rfl
  | .engSubw n rd ra rb, s => (execEngSubw_out n rd ra rb s).keeps rfl
  | .engMul n rd ra rb, s => (execEngMul_out n rd ra rb s).keeps rfl
  | .engImul n rd ra rb, s => (execEngImul_out n rd ra rb s).keeps rfl
  | .engDiv n rd ra rb, s => (execEngDiv_out n rd ra rb s).keeps rfl
  | .engMin n rd ra rb, s => (execEngMin_out n rd ra rb s).keeps rfl
  | .engMax n rd ra rb, s => (execEngMax_out n rd ra rb s).keeps rfl
  | .engAbs n rd ra, s => (execEngAbs_out n rd ra s).keeps rfl
  | .engNeg n rd ra, s => (execEngNeg_out n rd ra s).keeps rfl
  | .engLim n rd ra rb, s => (execEngLim_out n rd ra rb s).keeps rfl
  | .engFlt n rd ra rb, s => (execEngFlt_out n rd ra rb s).keeps rfl
  | .engMac n rd ra rb, s => (execEngMac_out n rd ra rb s).keeps rfl
  | .engAnd n rd ra rb, s => (execEngAnd_out n rd ra rb s).keeps rfl
  | .engOr n rd ra rb, s => (execEngOr_out n rd ra rb s).keeps rfl
  | .engXor n rd ra rb, s => (execEngXor_out n rd ra rb s).keeps rfl
  | .engShl n rd ra rb, s => (execEngShl_out n rd ra rb s).keeps rfl
  | .engShr n rd ra rb, s => (execEngShr_out n rd ra rb s).keeps rfl
  | .engSar n rd ra rb, s => (execEngSar_out n rd ra rb s).keeps rfl
  | .engAddi n rd ra imm, s => (execEngAddi_out n rd ra imm s).keeps rfl
  | .engAndi n rd ra imm, s => (execEngAndi_out n rd ra imm s).keeps rfl
  | .engOri n rd ra imm, s => (execEngOri_out n rd ra imm s).keeps rfl
  | .engXori n rd ra imm, s => (execEngXori_out n rd ra imm s).keeps rfl
  | .engShli n rd ra sh, s => (execEngShli_out n rd ra sh s).keeps rfl
  | .engShri n rd ra sh, s => (execEngShri_out n rd ra sh s).keeps rfl
  | .engSari n rd ra sh, s => (execEngSari_out n rd ra sh s).keeps rfl
  | .engLdh n rd imm, s => (execEngLdh_out n rd imm s).keeps rfl
  | .engLdp n rd ra off, s => (execEngLdp_out n rd ra off s).keeps rfl
  | .engStp n rd ra off, s => (execEngStp_out n rd ra off s).keeps rfl
  | .engLdc n rd ra off, s => (execEngLdc_out n rd ra off s).keeps rfl
  | .engStc n rd ra off, s => (execEngStc_out n rd ra off s).keeps rfl
  | .engLdk n rd addr, s => (execEngLdk_out n rd addr s).keeps rfl
  | .engRd n rd slot sel, s => (execEngRd_out n rd slot sel s).keeps rfl
  | .engWr n slot ra, s => (execEngWr_out n slot ra s).keeps rfl
  | .engWpr n slot ra, s => (execEngWpr_out n slot ra s).keeps rfl
  | .engEvt n code ra rb, s => (execEngEvt_out n code ra rb s).keeps rfl
  | .engMbx n tag ra, s => (execEngMbx_out n tag ra s).keeps rfl
  | .engRdst n rd sel, s => (execEngRdst_out n rd sel s).keeps rfl
  | .engTset n tm ra, s => (execEngTset_out n tm ra s).keeps rfl
  | .engTseti n tm imm, s => (execEngTseti_out n tm imm s).keeps rfl
  | .engTrd n rd tm, s => (execEngTrd_out n rd tm s).keeps rfl
  | .engJal n target, s => (execEngJal_out n target s).keeps rfl
  | .engJr n ra, s => (execEngJr_out n ra s).keeps rfl
  | .engBeq n ra rb target, s => (execEngBeq_out n ra rb target s).keeps rfl
  | .engBne n ra rb target, s => (execEngBne_out n ra rb target s).keeps rfl
  | .engBlt n ra rb target, s => (execEngBlt_out n ra rb target s).keeps rfl
  | .engBge n ra rb target, s => (execEngBge_out n ra rb target s).keeps rfl
  | .engJmp n target, s => (execEngJmp_out n target s).keeps rfl
  | .engBtx n tm target, s => (execEngBtx_out n tm target s).keeps rfl
  | .engBst n bit target, s => (execEngBst_out n bit target s).keeps rfl
  | .engYld n, s => (execEngYld_out n s).keeps rfl
  | .trayTickBoundary alvEdge fec acts, s => (execTrayTickBoundary_out alvEdge fec acts s).keeps rfl
  | .entryWrite k w v, s => (execEntryWrite_out k w v s).keeps rfl
  | .zitherLock, s => (execZitherLock_out s).keeps rfl
  | .powerUp g via, s => (execPowerUp_out g via s).keeps rfl
  | .powerDown g via, s => (execPowerDown_out g via s).keeps rfl
  | .pendingPowerUpStart g, s => (execPendingPowerUpStart_out g s).keeps rfl
  | .entryDue k, s => (execEntryDue_out k s).keeps rfl
  | .entryGood k, s => (execEntryGood_out k s).keeps rfl
  | .goodDeadlineExpiry k, s => (execGoodDeadlineExpiry_out k s).keeps rfl
  | .falseGoodInterval k, s => (execFalseGoodInterval_out k s).keeps rfl
  | .pgLostDeadline k, s => (execPgLostDeadline_out k s).keeps rfl
  | .powerDownEntryDue k, s => (execPowerDownEntryDue_out k s).keeps rfl
  | .offConfirmed k, s => (execOffConfirmed_out k s).keeps rfl
  | .offDeadlineExpiry k, s => (execOffDeadlineExpiry_out k s).keeps rfl
  | .dwellEnd g, s => (execDwellEnd_out g s).keeps rfl
  | .enRedrive, s => (execEnRedrive_out s).keeps rfl
  | .feedGateOn b, s => (execFeedGateOn_out b s).keeps rfl
  | .gateCheckExpiry g, s => (execGateCheckExpiry_out g s).keeps rfl
  | .feedReverseDue b, s => (execFeedReverseDue_out b s).keeps rfl
  | .settleExpiry, s => (execSettleExpiry_out s).keeps rfl
  | .rampEnd, s => (execRampEnd_out s).keeps rfl
  | .rampShortfallExpiry, s => (execRampShortfallExpiry_out s).keeps rfl
  | .rampDeadlineExpiry, s => (execRampDeadlineExpiry_out s).keeps rfl
  | .timedFuseExpiry, s => (execTimedFuseExpiry_out s).keeps rfl
  | .retryTimerExpiry, s => (execRetryTimerExpiry_out s).keeps rfl
  | .tripClearTimer, s => (execTripClearTimer_out s).keeps rfl
  | .feedClear via, s => (execFeedClear_out via s).keeps rfl
  | .forceOff via, s => (execForceOff_out via s).keeps rfl
  | .feedRelease via, s => (execFeedRelease_out via s).keeps rfl
  | .feedLock, s => (execFeedLock_out s).keeps rfl
  | .leverOpen, s => (execLeverOpen_out s).keeps rfl
  | .leverClosed, s => (execLeverClosed_out s).keeps rfl
  | .removalEnd, s => (execRemovalEnd_out s).keeps rfl
  | .dischTimeout, s => (execDischTimeout_out s).keeps rfl
  | .holdExpiry w, s => (execHoldExpiry_out w s).keeps rfl
  | .walrtQualified w low, s => (execWalrtQualified_out w low s).keeps rfl
  | .floorWrite w code, s => (execFloorWrite_out w code s).keeps rfl
  | .avsFrameDone w resp, s => (execAvsFrameDone_out w resp s).keeps rfl
  | .avsResend w, s => (execAvsResend_out w s).keeps rfl
  | .avsPoll w status, s => (execAvsPoll_out w status s).keeps rfl
  | .tileEnable t, s => (execTileEnable_out t s).keeps rfl
  | .tileDisable t, s => (execTileDisable_out t s).keeps rfl
  | .tileRun t upsets, s => (execTileRun_out t upsets s).keeps rfl
  | .tileRunClear t, s => (execTileRunClear_out t s).keeps rfl
  | .tileSramWrite t kind a v, s => (execTileSramWrite_out t kind a v s).keeps rfl
  | .frameStart t, s => (execFrameStart_out t s).keeps rfl
  | .fastWindowEnd t cycles done, s => (execFastWindowEnd_out t cycles done s).keeps rfl
  | .frameEnd t done, s => (execFrameEnd_out t done s).keeps rfl
  | .jobRelease t j done, s => (execJobRelease_out t j done s).keeps rfl
  | .jobEnd t j half upsets, s => (execJobEnd_out t j half upsets s).keeps rfl
  | .jobBoundReached t j done, s => (execJobBoundReached_out t j done s).keeps rfl
  | .sramScrub t upsets, s => (execSramScrub_out t upsets s).keeps rfl
  | .ingestBlockWrite telem source, s => (execIngestBlockWrite_out telem source s).keeps rfl
  | .streamGap t ix, s => (execStreamGap_out t ix s).keeps rfl
  | .offerWindowEnd, s => (execOfferWindowEnd_out s).keeps rfl
  | .offerRead w, s => (execOfferRead_out w s).keeps rfl
  | .driveUpdate, s => (execDriveUpdate_out s).keeps rfl
  | .dutyWrite o v, s => (execDutyWrite_out o v s).keeps rfl
  | .zoneTake z, s => (execZoneTake_out z s).keeps rfl
  | .zoneRelease z, s => (execZoneRelease_out z s).keeps rfl
  | .zoneRefreshTimeout z, s => (execZoneRefreshTimeout_out z s).keeps rfl
  | .checkJudgement o, s => (execCheckJudgement_out o s).keeps rfl
  | .retryCheckStart o, s => (execRetryCheckStart_out o s).keeps rfl
  | .tachPulse ix, s => (execTachPulse_out ix s).keeps rfl
  | .tachStopped o, s => (execTachStopped_out o s).keeps rfl
  | .fanClear o, s => (execFanClear_out o s).keeps rfl
  | .flowUpdate f, s => (execFlowUpdate_out f s).keeps rfl
  | .lowFlowExpiry f, s => (execLowFlowExpiry_out f s).keeps rfl
  | .flowOkExpiry f, s => (execFlowOkExpiry_out f s).keeps rfl
  | .valveCloseWrite v, s => (execValveCloseWrite_out v s).keeps rfl
  | .critResult a b, s => (execCritResult_out a b s).keeps rfl
  | .critGraceEnd, s => (execCritGraceEnd_out s).keeps rfl
  | .leakRstatClear r, s => (execLeakRstatClear_out r s).keeps rfl
  | .portEnable p, s => (execPortEnable_out p s).keeps rfl
  | .portDisable p, s => (execPortDisable_out p s).keeps rfl
  | .lightQualified p l0 l1, s => (execLightQualified_out p l0 l1 s).keeps rfl
  | .hello p h major minor, s => (execHello_out p h major minor s).keeps rfl
  | .trainingTimeout p, s => (execTrainingTimeout_out p s).keeps rfl
  | .laneFail p lane cause, s => (execLaneFail_out p lane cause s).keeps rfl
  | .laneRejoin p lane us, s => (execLaneRejoin_out p lane us s).keeps rfl
  | .faultRetrainExpiry p, s => (execFaultRetrainExpiry_out p s).keeps rfl
  | .rsp p f flashFails, s => (execRsp_out p f flashFails s).keeps rfl
  | .reqResend p tag, s => (execReqResend_out p tag s).keeps rfl
  | .telem p words ns, s => (execTelem_out p words ns s).keeps rfl
  | .evtFrame p h sealOk tag code data, s => (execEvtFrame_out p h sealOk tag code data s).keeps rfl
  | .drained p h part, s => (execDrained_out p h part s).keeps rfl
  | .released p h part, s => (execReleased_out p h part s).keeps rfl
  | .fenceDone p h arg, s => (execFenceDone_out p h arg s).keeps rfl
  | .ctrlResend p code arg, s => (execCtrlResend_out p code arg s).keeps rfl
  | .drainDeadline p part, s => (execDrainDeadline_out p part s).keeps rfl
  | .fenceDeadline p arg, s => (execFenceDeadline_out p arg s).keeps rfl
  | .bulk p stream h sealOk off len diffs uncorr, s => (execBulk_out p stream h sealOk off len diffs uncorr s).keeps rfl
  | .back p stream h sealOk off credit, s => (execBack_out p stream h sealOk off credit s).keeps rfl
  | .bulkTimeout p stream, s => (execBulkTimeout_out p stream s).keeps rfl
  | .sec p f, s => (execSec_out p f s).keeps rfl
  | .rekeyDue p, s => (execRekeyDue_out p s).keeps rfl
  | .sourceEnableWrite k on, s => (execSourceEnableWrite_out k on s).keeps rfl
  | .laserPoll k r, s => (execLaserPoll_out k r s).keeps rfl
  | .inBandInterrupt k stat, s => (execInBandInterrupt_out k stat s).keeps rfl
  | .alsDecision k which, s => (execAlsDecision_out k which s).keeps rfl
  | .fullPowerAllowed k, s => (execFullPowerAllowed_out k s).keeps rfl
  | .laserSettleCheck k r, s => (execLaserSettleCheck_out k r s).keeps rfl
  | .releaseBus b, s => (execReleaseBus_out b s).keeps rfl
  | .up w via, s => (execUp_out w via s).keeps rfl
  | .hold w via, s => (execHold_out w via s).keeps rfl
  | .down w via, s => (execDown_out w via s).keeps rfl
  | .clear w via, s => (execClear_out w via s).keeps rfl
  | .autoUp w, s => (execAutoUp_out w s).keeps rfl
  | .staggeredPowerUp w, s => (execStaggeredPowerUp_out w s).keeps rfl
  | .storeCopyDone pattern wardType ok, s => (execStoreCopyDone_out pattern wardType ok s).keeps rfl
  | .buPoll w stat seq mem ring, s => (execBuPoll_out w stat seq mem ring s).keeps rfl
  | .buDeadline w, s => (execBuDeadline_out w s).keeps rfl
  | .coreReset w core via, s => (execCoreReset_out w core via s).keeps rfl
  | .partitionReset w part via, s => (execPartitionReset_out w part via s).keeps rfl
  | .partitionOff w part via, s => (execPartitionOff_out w part via s).keeps rfl
  | .partitionOn w part via, s => (execPartitionOn_out w part via s).keeps rfl
  | .rstPoll w stat seq, s => (execRstPoll_out w stat seq s).keeps rfl
  | .nopDescriptor via, s => (execNopDescriptor_out via s).keeps rfl
  | .hostReset via, s => (execHostReset_out via s).keeps rfl
  | .timeAnchor via, s => (execTimeAnchor_out via s).keeps rfl
  | .telemSubscribe via, s => (execTelemSubscribe_out via s).keeps rfl
  | .telemCancel via, s => (execTelemCancel_out via s).keeps rfl
  | .subscriptionEntry sub, s => (execSubscriptionEntry_out sub s).keeps rfl
  | .eventRead via, s => (execEventRead_out via s).keeps rfl
  | .recorderFreeze via, s => (execRecorderFreeze_out via s).keeps rfl
  | .recorderRelease via, s => (execRecorderRelease_out via s).keeps rfl
  | .wardStatus via, s => (execWardStatus_out via s).keeps rfl
  | .wardReg w via data, s => (execWardReg_out w via data s).keeps rfl
  | .defectMapRead w via, s => (execDefectMapRead_out w via s).keeps rfl
  | .licenceInstall via lic, s => (execLicenceInstall_out via lic s).keeps rfl
  | .leakClear branch via, s => (execLeakClear_out branch via s).keeps rfl
  | .stageComponent via part room evict, s => (execStageComponent_out via part room evict s).keeps rfl
  | .stageDone readOk, s => (execStageDone_out readOk s).keeps rfl
  | .activateSet via m models shadowOk, s => (execActivateSet_out via m models shadowOk s).keeps rfl
  | .activationTick, s => (execActivationTick_out s).keeps rfl
  | .commitConfirm via, s => (execCommitConfirm_out via s).keeps rfl
  | .trialExpiry, s => (execTrialExpiry_out s).keeps rfl
  | .revokeKey via rv, s => (execRevokeKey_out via rv s).keeps rfl
  | .tokenSubmit via t, s => (execTokenSubmit_out via t s).keeps rfl
  | .tapToken t, s => (execTapToken_out t s).keeps rfl
  | .evidenceReport via signed, s => (execEvidenceReport_out via signed s).keeps rfl
  | .ownerLockSet via, s => (execOwnerLockSet_out via s).keeps rfl
  | .ownerLockClear via t, s => (execOwnerLockClear_out via t s).keeps rfl
  | .ringEnable r v, s => (execRingEnable_out r v s).keeps rfl
  | .ringDisable r v, s => (execRingDisable_out r v s).keeps rfl
  | .sqDoorbell r v, s => (execSqDoorbell_out r v s).keeps rfl
  | .cqDoorbell r v, s => (execCqDoorbell_out r v s).keeps rfl
  | .descriptorFetch r d, s => (execDescriptorFetch_out r d s).keeps rfl
  | .coalesceTimeout r, s => (execCoalesceTimeout_out r s).keeps rfl
  | .intCauseClear v, s => (execIntCauseClear_out v s).keeps rfl
  | .dmaFailure r acc, s => (execDmaFailure_out r acc s).keeps rfl
  | .hdmAccess write line data bad0 bad1, s => (execHdmAccess_out write line data bad0 bad1 s).keeps rfl
  | .hdmDecoderCommit gib ways, s => (execHdmDecoderCommit_out gib ways s).keeps rfl
  | .segmentComplete, s => (execSegmentComplete_out s).keeps rfl
  | .recTrigger, s => (execRecTrigger_out s).keeps rfl
  | .postSpanEnd, s => (execPostSpanEnd_out s).keeps rfl
  | .hbmScrub offset bad, s => (execHbmScrub_out offset bad s).keeps rfl
  | .sharedMemoryScrub sett word bad, s => (execSharedMemoryScrub_out sett word bad s).keeps rfl
  | .l2Scrub addr bad, s => (execL2Scrub_out addr bad s).keeps rfl
  | .flashScrub region sector found, s => (execFlashScrub_out region sector found s).keeps rfl
  | .corrRateHour, s => (execCorrRateHour_out s).keeps rfl
  | .flashCommitDone, s => (execFlashCommitDone_out s).keeps rfl
  | .tokenRefill mirror, s => (execTokenRefill_out mirror s).keeps rfl
  | .countRecordDue mirror code source, s => (execCountRecordDue_out mirror code source s).keeps rfl
  | .entryClose mirror code source, s => (execEntryClose_out mirror code source s).keeps rfl
  | .operatingSecond, s => (execOperatingSecond_out s).keeps rfl
  | .twinHello peer adopt lanes, s => (execTwinHello_out peer adopt lanes s).keeps rfl
  | .joinTimeout, s => (execJoinTimeout_out s).keeps rfl
  | .tickFrame tick, s => (execTickFrame_out tick s).keeps rfl
  | .echoExchange t1 t2 t3 t4, s => (execEchoExchange_out t1 t2 t3 t4 s).keeps rfl
  | .echoTimeout, s => (execEchoTimeout_out s).keeps rfl
  | .mirror c, s => (execMirror_out c s).keeps rfl
  | .twinCommand seq c held, s => (execTwinCommand_out seq c held s).keeps rfl
  | .twinCack seq, s => (execTwinCack_out seq s).keeps rfl
  | .cmdResend seq, s => (execCmdResend_out seq s).keeps rfl
  | .handover seq, s => (execHandover_out seq s).keeps rfl
  | .twinSilence, s => (execTwinSilence_out s).keeps rfl
  | .leadActivation, s => (execLeadActivation_out s).keeps rfl
  | .twinActivationTimeout, s => (execTwinActivationTimeout_out s).keeps rfl
  | .registerLock reg ix v, s => execRegisterLock_keeps reg ix v s
  | .registerWrite reg ix v, s => execRegisterWrite_keeps reg ix v s
  | .cxlPerstRelease, s => (execCxlPerstRelease_out s).keeps rfl
  | .pmbusAlert bus, s => (execPmbusAlert_out bus s).keeps rfl

/-! ## A step and its queue -/

theorem step_of_pending {s : State} {c : Instr} {rest : List Instr} (h : s.pending = c :: rest) :
    step s = exec c { s with pending := rest } := by
  simp only [step, h]

theorem step_of_idle {s : State} (h : s.pending = []) : step s = .next s := by
  simp only [step, h]

/-- The queue plays no part in the memories' canonical form. -/
theorem MemWf.of_pending {s : State} (h : MemWf s) (l : List Instr) : MemWf { s with pending := l } := h

/-- Settles O55: an idle step changes nothing, and any other is a command, of which `exec_keeps` holds. -/
theorem memoryInvariant : Obligations.MemoryInvariant := by
  intro s t hwf hstep
  cases hp : s.pending with
  | nil =>
    rw [step_of_idle hp] at hstep
    cases hstep
    exact hwf
  | cons c rest =>
    rw [step_of_pending hp] at hstep
    exact (exec_keeps c _ t hstep).2.1 (hwf.of_pending rest)

/-- Settles O52. -/
theorem blockStep : Obligations.BlockStep :=
  ⟨fun _ _ _ h => step_of_pending h, fun _ _ => step_of_pending rfl, fun _ h => step_of_idle h, fun _ _ _ => ⟨rfl, rfl⟩⟩

/-! ## Every command completes -/

/-- Every command completes but the release of PORST# into the production test. -/
theorem exec_completes (c : Instr) (s : State)
    (h : ∀ tcrit tchan role hold fandef xspi, c = .porstRelease tcrit tchan role hold fandef xspi true → s.part.held = false) :
    ∃ t, exec c s = .next t := by
  cases c
  case porstRelease tcrit tchan role hold fandef xspi testen =>
    have hfit : (s.part.held && testen) = false := by
      cases testen with
      | true => rw [h tcrit tchan role hold fandef xspi rfl, Bool.false_and]
      | false => rw [Bool.and_false]
    simp only [exec, execPorstRelease, hfit]
    exact ⟨_, rfl⟩
  case engLdc n rd ra off =>
    simp only [exec, execEngLdc]
    split
    · exact ⟨s, rfl⟩
    · exact ⟨_, rfl⟩
  all_goals exact ⟨_, rfl⟩

/-- Settles O54: `exec_completes` gives the next state and `exec_keeps` what it keeps. -/
theorem queueUntouched : Obligations.QueueUntouched := by
  refine ⟨fun c s h => ?next, fun s tcrit tchan role hold fandef xspi hheld => ?stop, rfl⟩
  case next =>
    obtain ⟨t, ht⟩ := exec_completes c s h
    obtain ⟨hpending, -, hbatch⟩ := exec_keeps c s t ht
    exact ⟨t, ht, hpending, hbatch⟩
  case stop => simp [exec, execPorstRelease, hheld]

/-! ## The state after reset -/

/-- The channels enabled at reset are the fixed ones (R90). -/
theorem enable_dfltAt (c : Nat) : SNS_CHCFG.enable.dfltAt c = if fixedChannels.contains c then 1 else 0 := by
  have halt : SNS_CHCFG.enable.alt = fixedChannels.map fun k => (k, 1) := rfl
  rw [Fld.dfltAt, halt, List.find?_map]
  cases hf : fixedChannels.find? ((fun e : Nat × Nat => e.1 == c) ∘ fun k => (k, 1)) with
  | none =>
    have hc : c ∉ fixedChannels := fun hm => by simpa using List.find?_eq_none.mp hf c hm
    simp [hc, SNS_CHCFG.enable]
  | some k =>
    have hk : k = c := by simpa using List.find?_some hf
    have hc : c ∈ fixedChannels := hk ▸ List.mem_of_find?_eq_some hf
    simp [hc]

theorem reset_reg (n : Nat) (r : BitVec 4) : (State.reset.engine n).reg r = 0 := ite_self 0

/-- Settles O53: at reset every table is empty, so that everything reads as its default. -/
theorem resetState : Obligations.ResetState :=
  ⟨⟨rfl, rfl, rfl⟩, fun _ _ => rfl, rfl, rfl, fun n => ⟨rfl, reset_reg n, fun _ => rfl, Nat.mul_comm _ _⟩, fun _ => rfl, rfl, fun _ => rfl, fun _ => rfl,
    fun _ => rfl, rfl, fun _ => rfl, fun _ => rfl, fun _ => rfl, fun c _ => enable_dfltAt c⟩

end Sys2Proof.Machine
end

section
/-!
SUPPORT. The words of the loop engine (06): a word cut into the fields of its format, and O56 and O57 from it.
-/
namespace Sys2Proof.Machine

theorem extractLsb'_extractLsb' {w s l s' l' : Nat} (h : s' + l' ≤ l) (x : BitVec w) :
    (x.extractLsb' s l).extractLsb' s' l' = x.extractLsb' (s + s') l' := by
  refine BitVec.eq_of_getLsbD_eq fun i hi => ?_
  have hl : s' + i < l := by omega
  simp [hi, hl, Nat.add_assoc]

section
variable {j k l m n : Nat} {o : BitVec j} {a : BitVec k} {b : BitVec l} {c : BitVec m} {d : BitVec n}

theorem append_eq_iff {w : BitVec (m + n)} : c ++ d = w ↔ w.extractLsb' n m = c ∧ w.extractLsb' 0 n = d := by
  constructor
  · rintro rfl
    exact ⟨(BitVec.extractLsb'_append_eq_of_le (Nat.le_refl _)).trans (by simp), (BitVec.extractLsb'_append_eq_of_add_le (by simp)).trans (by simp)⟩
  · rintro ⟨rfl, rfl⟩
    exact (BitVec.extractLsb'_append_extractLsb'_eq_extractLsb' (by simp)).trans (by simp)

/-- Two fields cut out of a field of a word. -/
theorem append_eq_field_iff {v s : Nat} {w : BitVec v} :
    c ++ d = w.extractLsb' s (m + n) ↔ w.extractLsb' (s + n) m = c ∧ w.extractLsb' s n = d := by
  rw [append_eq_iff, extractLsb'_extractLsb' (by omega), extractLsb'_extractLsb' (by omega), Nat.add_zero]

theorem append₂_eq_iff {w : BitVec (j + (m + n))} : o ++ (c ++ d) = w ↔
    w.extractLsb' (m + n) j = o ∧ w.extractLsb' n m = c ∧ w.extractLsb' 0 n = d := by
  rw [append_eq_iff, eq_comm (b := c ++ d), append_eq_field_iff, Nat.zero_add]

theorem append₃_eq_iff {w : BitVec (j + (l + m + n))} : o ++ (b ++ c ++ d) = w ↔
    w.extractLsb' (l + m + n) j = o ∧ w.extractLsb' (n + m) l = b ∧ w.extractLsb' n m = c ∧ w.extractLsb' 0 n = d := by
  rw [append_eq_iff, eq_comm (b := b ++ c ++ d), append_eq_field_iff, eq_comm (b := b ++ c), append_eq_field_iff, Nat.zero_add, and_assoc]

theorem append₄_eq_iff {w : BitVec (j + (k + l + m + n))} : o ++ (a ++ b ++ c ++ d) = w ↔ w.extractLsb' (k + l + m + n) j = o ∧
    w.extractLsb' (n + m + l) k = a ∧ w.extractLsb' (n + m) l = b ∧ w.extractLsb' n m = c ∧ w.extractLsb' 0 n = d := by
  rw [append_eq_iff, eq_comm (b := a ++ b ++ c ++ d), append_eq_field_iff, eq_comm (b := a ++ b ++ c), append_eq_field_iff,
    eq_comm (b := a ++ b), append_eq_field_iff, Nat.zero_add, and_assoc, and_assoc]

theorem append₅_eq_iff {i : Nat} {p : BitVec i} {w : BitVec (i + (j + k + l + m + n))} : p ++ (o ++ a ++ b ++ c ++ d) = w ↔
    w.extractLsb' (j + k + l + m + n) i = p ∧ w.extractLsb' (n + m + l + k) j = o ∧ w.extractLsb' (n + m + l) k = a ∧
      w.extractLsb' (n + m) l = b ∧ w.extractLsb' n m = c ∧ w.extractLsb' 0 n = d := by
  rw [append_eq_iff, eq_comm (b := o ++ a ++ b ++ c ++ d), append_eq_field_iff, eq_comm (b := o ++ a ++ b ++ c), append_eq_field_iff,
    eq_comm (b := o ++ a ++ b), append_eq_field_iff, eq_comm (b := o ++ a), append_eq_field_iff, Nat.zero_add, and_assoc, and_assoc, and_assoc]

end

/-- A field of zeros within a field of zeros. -/
theorem extractLsb'_zero_of_wider {w : Word} {s l s' l' : Nat} (hl : s' + l' ≤ l) (h : w.extractLsb' s l = 0#l) :
    w.extractLsb' (s + s') l' = 0#l' := by
  rw [← extractLsb'_extractLsb' hl, h, BitVec.extractLsb'_zero]

theorem decodeOp_encodeOp (i : EngOp) : decodeOp (encodeOp i) = some i := by
  generalize hw : encodeOp i = w
  cases i
  case nop | yld =>
    have h := append_eq_iff.mp hw
    simp [decodeOp, h]
  case jal | jmp =>
    have h := append₂_eq_iff.mp hw
    have h0 : w.extractLsb' 10 8 = 0 := extractLsb'_zero_of_wider (s' := 0) (by decide) h.2.1
    simp at h
    simp [decodeOp, h, h0]
  case jr =>
    have h := append₂_eq_iff.mp hw
    have h0 : w.extractLsb' 0 18 = 0 := extractLsb'_zero_of_wider (s' := 0) (by decide) h.2.2
    simp at h
    simp [decodeOp, h, h0]
  case bst =>
    have h := append₃_eq_iff.mp hw
    have h0 : w.extractLsb' 10 8 = 0 := extractLsb'_zero_of_wider (s' := 0) (by decide) h.2.2.1
    simp at h
    simp [decodeOp, h, h0]
  case btx =>
    have h := append₄_eq_iff.mp hw
    have h0 : w.extractLsb' 10 8 = 0 := extractLsb'_zero_of_wider (s' := 0) (by decide) h.2.2.2.1
    simp at h
    simp [decodeOp, h, h0]
  case wpr =>
    have h := append₄_eq_iff.mp hw
    have h0 : w.extractLsb' 0 10 = 0 := extractLsb'_zero_of_wider (s' := 0) (by decide) h.2.2.2.2
    simp at h
    simp [decodeOp, h, h0]
  case abs | neg | addi | andi | ori | xori | ldp | stp | ldc | stc =>
    have h := append₃_eq_iff.mp hw
    simp at h
    simp [decodeOp, h]
  case rd | rdst =>
    have h := append₅_eq_iff.mp hw
    simp at h
    simp [decodeOp, h]
  all_goals
    have h := append₄_eq_iff.mp hw
    simp at h
    simp [decodeOp, h]


theorem word_and_all (w : Word) : w &&& 0xFFFFFFFF = w := BitVec.and_allOnes

section
variable (x : BitVec 2) (y : BitVec 4) (z : BitVec 6) (t : BitVec 10)

@[simp] theorem and_ones_of_two : x &&& 3#2 = x := BitVec.and_allOnes
@[simp] theorem and_ones_of_four : y &&& 15#4 = y := BitVec.and_allOnes
@[simp] theorem and_ones_of_six : z &&& 63#6 = z := BitVec.and_allOnes
@[simp] theorem and_ones_of_ten : t &&& 1023#10 = t := BitVec.and_allOnes
end

/-- A mask of the low bits takes nothing where they are zero. -/
theorem and_mask_eq_zero {n k : Nat} {x : BitVec n} (h : x.extractLsb' 0 k = 0#k) : x &&& BitVec.ofNat n (2 ^ k - 1) = 0#n := by
  refine BitVec.eq_of_getLsbD_eq fun i hi => ?_
  by_cases hk : i < k
  · have hx : x.getLsbD i = false := by
      have hb := congrArg (·.getLsbD i) h
      simpa [hk] using hb
    simp [hx]
  · simp [BitVec.getLsbD_ofNat, hk, Nat.testBit_two_pow_sub_one]

/-- A word that decodes to an instruction is that instruction's word in the bits that tell it. -/
theorem encodeOp_of_decodeOp {w : Word} {i : EngOp} (h : decodeOp w = some i) : encodeOp i = w &&& i.used := by
  unfold decodeOp at h
  dsimp only at h
  split at h
  case h_1 hop | h_53 hop =>
    simp only [Option.ite_none_right_eq_some, Option.some.injEq, beq_iff_eq] at h
    obtain ⟨hz, rfl⟩ := h
    exact (append_eq_iff.mpr ⟨BitVec.eq_of_toNat_eq hop, hz⟩).trans (word_and_all w).symm
  case h_20 hop | h_21 hop =>
    simp only [Option.ite_none_right_eq_some, Option.some.injEq, beq_iff_eq] at h
    obtain ⟨hz, rfl⟩ := h
    exact (append₃_eq_iff.mpr ⟨BitVec.eq_of_toNat_eq hop, rfl, rfl, hz⟩).trans (word_and_all w).symm
  case h_22 hop | h_23 hop | h_24 hop | h_25 hop | h_30 hop | h_31 hop | h_32 hop | h_33 hop =>
    simp only [if_true, Option.some.injEq] at h
    subst h
    exact (append₃_eq_iff.mpr ⟨BitVec.eq_of_toNat_eq hop, rfl, rfl, rfl⟩).trans (word_and_all w).symm
  case h_35 hop | h_40 hop =>
    simp only [Option.ite_none_right_eq_some, Option.some.injEq, Bool.and_eq_true, beq_iff_eq] at h
    obtain ⟨hz, rfl⟩ := h
    refine (append₅_eq_iff.mpr ⟨BitVec.eq_of_toNat_eq hop, ?_⟩).trans (word_and_all w).symm
    simp [hz]
  case h_37 hop =>
    simp only [Option.ite_none_right_eq_some, Option.some.injEq, beq_iff_eq] at h
    obtain ⟨hz, rfl⟩ := h
    have ho : w.extractLsb' 26 6 = 0x2A#6 := BitVec.eq_of_toNat_eq hop
    have hm := and_mask_eq_zero (x := w.extractLsb' 0 14) ((extractLsb'_extractLsb' (by decide) w).trans hz)
    exact append₄_eq_iff.mpr (by simpa [EngOp.used, BitVec.extractLsb'_and, ho] using hm)
  case h_44 hop | h_50 hop =>
    simp only [Option.ite_none_right_eq_some, Option.some.injEq, beq_iff_eq] at h
    obtain ⟨hz, rfl⟩ := h
    have hm := and_mask_eq_zero (x := w.extractLsb' 10 16) ((extractLsb'_extractLsb' (by decide) w).trans hz)
    refine append₂_eq_iff.mpr ⟨?_, ?_⟩
    · simpa [EngOp.used, BitVec.extractLsb'_and] using BitVec.eq_of_toNat_eq hop
    · simpa [EngOp.used, BitVec.extractLsb'_and] using hm
  case h_45 hop =>
    simp only [Option.ite_none_right_eq_some, Option.some.injEq, beq_iff_eq] at h
    obtain ⟨hz, rfl⟩ := h
    have ho : w.extractLsb' 26 6 = 0x35#6 := BitVec.eq_of_toNat_eq hop
    have hm := and_mask_eq_zero (x := w.extractLsb' 0 22) ((extractLsb'_extractLsb' (by decide) w).trans hz)
    exact append₂_eq_iff.mpr (by simpa [EngOp.used, BitVec.extractLsb'_and, ho] using hm)
  case h_51 hop =>
    simp only [Option.ite_none_right_eq_some, Option.some.injEq, Bool.and_eq_true, beq_iff_eq] at h
    obtain ⟨hz, rfl⟩ := h
    have ho : w.extractLsb' 26 6 = 0x3D#6 := BitVec.eq_of_toNat_eq hop
    have hm := and_mask_eq_zero (x := w.extractLsb' 10 12) ((extractLsb'_extractLsb' (by decide) w).trans hz.2)
    exact append₄_eq_iff.mpr (by simpa [EngOp.used, BitVec.extractLsb'_and, ho, hz.1] using hm)
  case h_52 hop =>
    simp only [Option.ite_none_right_eq_some, Option.some.injEq, beq_iff_eq] at h
    obtain ⟨hz, rfl⟩ := h
    have ho : w.extractLsb' 26 6 = 0x3E#6 := BitVec.eq_of_toNat_eq hop
    have hm := and_mask_eq_zero (x := w.extractLsb' 10 12) ((extractLsb'_extractLsb' (by decide) w).trans hz)
    exact append₃_eq_iff.mpr (by simpa [EngOp.used, BitVec.extractLsb'_and, ho] using hm)
  case h_54 =>
    cases h
  all_goals
    rename_i hop
    simp only [Option.ite_none_right_eq_some, Option.some.injEq, Bool.and_eq_true, beq_iff_eq] at h
    obtain ⟨hz, rfl⟩ := h
    refine (append₄_eq_iff.mpr ⟨BitVec.eq_of_toNat_eq hop, ?_⟩).trans (word_and_all w).symm
    simp [hz]

/-- Settles O56. -/
theorem engineEncoding : Obligations.EngineEncoding := ⟨decodeOp_encodeOp, fun _ _ => encodeOp_of_decodeOp⟩

/-- Settles O57: each word is decoded. -/
theorem engineWords : Obligations.EngineWords := ⟨rfl, rfl, rfl, rfl, rfl, rfl, rfl, rfl, rfl, rfl, rfl, rfl⟩

end Sys2Proof.Machine
end

section
/-!
SUPPORT. Frames of one part of the state replaced, and of one numbered member of a part.
-/
namespace Sys2Proof.Machine

section
variable {bs : List Block} {fs : List (Fld × Nat)} {s t : State} (k : Nat)

theorem Frame.sense (h : Frame bs fs s t) (z : Sense) (hb : .sense ∈ bs) : Frame bs fs s { t with sense := z } :=
  h.upd (fun b hn => by cases b <;> simp_all [Block.same]) rfl

theorem Frame.setChan (h : Frame bs fs s t) (x : Channel) (hb : .sense ∈ bs) : Frame bs fs s (t.setChan k x) := h.sense _ hb
theorem Frame.setWin (h : Frame bs fs s t) (x : Window) (hb : .sense ∈ bs) : Frame bs fs s (t.setWin k x) := h.sense _ hb
theorem Frame.setMeter (h : Frame bs fs s t) (x : Meter) (hb : .sense ∈ bs) : Frame bs fs s (t.setMeter k x) := h.sense _ hb

theorem Frame.setEngine (h : Frame bs fs s t) (x : Engine) (hb : .engines ∈ bs) : Frame bs fs s (t.setEngine k x) :=
  h.upd (fun b hn => by cases b <;> simp_all [Block.same, State.setEngine]) rfl

theorem Frame.burrow (h : Frame bs fs s t) (z : Burrow) (hb : .burrow ∈ bs) : Frame bs fs s { t with burrow := z } :=
  h.upd (fun b hn => by cases b <;> simp_all [Block.same]) rfl

theorem Frame.zither (h : Frame bs fs s t) (z : Zither) (hb : .zither ∈ bs) : Frame bs fs s { t with zither := z } :=
  h.upd (fun b hn => by cases b <;> simp_all [Block.same]) rfl

theorem Frame.settRest (h : Frame bs fs s t) (z : Setts) (hb : .settRest ∈ bs) (he : z.engines = t.setts.engines) (hm : z.shmem = t.setts.shmem) :
    Frame bs fs s { t with setts := z } :=
  h.upd (fun b hn => by cases b <;> simp_all [Block.same]) rfl

end

/-! ## What a frame leaves of the parts that are cut in pieces -/

section
variable {bs : List Block} {cs : List Nat} {s t : State}

theorem Within.setts (h : Within bs cs s t)
    (hb : (bs.contains .engines || bs.contains .sharedMemory || bs.contains .settRest) = false) : t.setts = s.setts := by
  simp only [Bool.or_eq_false_iff] at hb
  obtain ⟨⟨hengines, hshmem⟩, hrest⟩ := hb
  have he : t.setts.engines = s.setts.engines := h.block .engines hengines
  have hm : t.setts.shmem = s.setts.shmem := h.block .sharedMemory hshmem
  have hr := h.block .settRest hrest
  simp only [Block.same, ← he, ← hm] at hr
  exact hr

theorem Within.host (h : Within bs cs s t) (hb : (bs.contains .msix || bs.contains .hostRest) = false) : t.host = s.host := by
  simp only [Bool.or_eq_false_iff] at hb
  have hm : t.host.msix = s.host.msix := h.block .msix hb.1
  have hr := h.block .hostRest hb.2
  simp only [Block.same, ← hm] at hr
  exact hr

theorem Within.recorder (h : Within bs cs s t) (hb : (bs.contains .hbm || bs.contains .recorderRest) = false) : t.recorder = s.recorder := by
  simp only [Bool.or_eq_false_iff] at hb
  have hm : t.recorder.hbm = s.recorder.hbm := h.block .hbm hb.1
  have hr := h.block .recorderRest hb.2
  simp only [Block.same, ← hm] at hr
  exact hr

theorem Within.engine (h : Within bs cs s t) (hb : bs.contains .engines = false) (n : Nat) : t.engine n = s.engine n := by
  have he : t.setts.engines = s.setts.engines := h.block .engines hb
  simp only [State.engine, he]

end

/-! ## Fields read after a write, and tiers that are up -/

theorem State.rd_wr_ne (s : State) {f g : Fld} (i j v : Nat) (h : (decide (f.code ≠ g.code) && f.ok && g.ok) = true) :
    (s.wr f i v).rd g j = s.rd g j := by
  simp only [Bool.and_eq_true, Fld.ok, decide_eq_true_eq] at h
  exact s.rd_wr_code f g i j v h.1.1 h.1.2 h.2

theorem State.rd_wr_lt (s : State) {f : Fld} {v : Nat} (i : Nat) (h : v < 2 ^ f.width) : (s.wr f i v).rd f i = v := by
  rw [State.rd_wr_same, Nat.mod_eq_of_lt h]

/-- A field of a written value fits its register. -/
theorem State.rd_wr_of (s : State) (f : Fld) (i v : Nat) : (s.wr f i (f.of v)).rd f i = f.of v :=
  s.rd_wr_lt i (Nat.mod_lt _ (Nat.two_pow_pos _))

theorem State.addSat_rd_same (s : State) (f : Fld) (i n : Nat) : (s.addSat f i n).rd f i = min (2 ^ f.width - 1) (s.rd f i + n) :=
  s.rd_wr_lt i (Nat.lt_of_le_of_lt (Nat.min_le_left ..) (Nat.sub_lt (Nat.two_pow_pos _) Nat.one_pos))

theorem State.writeFld_of_range (s : State) {f : Fld} {v : Nat} (i : Nat) (ha : f.acc = .rw ∨ f.acc = .rwl) (h : f.min ≤ v ∧ v ≤ f.max) :
    s.writeFld f i v = s.wr f i v := by
  unfold State.writeFld
  obtain ha | ha := ha
  · rw [ha]
    exact if_pos h
  · rw [ha]
    exact if_pos h

theorem State.alive_of_settUp {s : State} (h : s.settUp = true) : s.alive = true := by
  simp only [State.settUp, Bool.and_eq_true] at h
  exact h.1

theorem State.alive_of_coreUp {s : State} (h : s.coreUp = true) : s.alive = true := by
  simp only [State.coreUp, Bool.and_eq_true] at h
  exact h.1

theorem State.coreUp_of_fwUp {s : State} (h : s.fwUp = true) : s.coreUp = true := by
  simp only [State.fwUp, Bool.and_eq_true] at h
  exact h.1

/-! ## Commands with a guard -/

section
variable {c : Instr} {s t : State} {P : State → Prop}

/-- A command whose guard holds has its effect. -/
theorem Does.of_guard {g : Bool} (hc : exec c s = doIf g s t) (hg : g = true) (h : P t) : Does c s P :=
  ⟨t, hc.trans (doIf_pos s t hg), h⟩

/-- A command whose guard does not hold has no effect. -/
theorem Does.of_not_guard {g : Bool} (hc : exec c s = doIf g s t) (hg : g = false) : Does c s (· = s) :=
  ⟨s, hc.trans (doIf_neg s t hg), rfl⟩

end

/-! ## What one cycle decides -/

/-- The numbers of the fields that recording an event touches. -/
def recCodes : List Nat := [6914, 9152, 9280, 9344, 9408]

theorem State.foldl_offer_within (l : List Rec) (s : State) : Within [.msix, .burrow] recCodes s (l.foldl State.offer s) := by
  induction l generalizing s with
  | nil => exact Within.refl _ _ s
  | cons r l ih => exact Within.trans (State.offer_within s r) (ih _)

/-- One cycle does what `f` does of the state, whatever records wait, and then enters the records into the paths. -/
theorem State.inOneCycle_from (s : State) (f : State → State) :
    ∃ b : Burrow, Within [.msix, .burrow] recCodes (f { s with burrow := b }) (s.inOneCycle f) := by
  unfold State.inOneCycle
  split
  · exact ⟨s.burrow, Within.refl _ _ _⟩
  · exact ⟨{ s.burrow with batch := some [] }, Within.trans
      (Within.set_burrow _ (Within.refl _ _ _) rfl (fun _ => rfl)) (State.foldl_offer_within _ _)⟩

end Sys2Proof.Machine
end

section
/-!
SUPPORT. What the loop engine's memory, input, output, timer and jump instructions do (06), each by what `State.issue` gives for an instruction
that is ready; O8, O9 and O10. An LDC that awaits other engines issues nothing, not even a fault: O58 fails.
-/
namespace Sys2Proof.Machine

/-! ## Shared memory as an engine sees it -/

section
variable (s : State) (n k : Nat) (e : Engine)

@[simp] theorem State.setEngine_shFound : (s.setEngine n e).shFound k = s.shFound k := rfl
@[simp] theorem State.setEngine_shBad : (s.setEngine n e).shBad k = s.shBad k := rfl
@[simp] theorem State.setEngine_shRead : (s.setEngine n e).shRead k = s.shRead k := rfl
@[simp] theorem State.setEngine_shWord : (s.setEngine n e).shWord k = s.shWord k := rfl
@[simp] theorem State.setEngine_shWrong : (s.setEngine n e).shWrong k = s.shWrong k := rfl
@[simp] theorem State.setEngine_commonAt (c : Nat) : (s.setEngine n e).commonAt k c = s.commonAt k c := rfl
@[simp] theorem State.setEngine_statusItem (i : Nat) (x : Engine) : (s.setEngine n e).statusItem n x i = s.statusItem n x i := rfl
@[simp] theorem State.memCorr_setEngine (m : Nat) : (s.setEngine n e).memCorr m = (s.memCorr m).setEngine n e := rfl
@[simp] theorem Engine.advance_statusItem (op : EngOp) (i : Nat) : s.statusItem n (e.advance op) i = s.statusItem n e i := rfl
@[simp] theorem Engine.advance_timer (op : EngOp) (t : BitVec 2) : (e.advance op).timer t = e.timer t := rfl
end

theorem State.shBad_of_good {s : State} {k : Nat} (h : s.shFound k = .good) : s.shBad k = false := by
  rw [State.shBad, h]
  rfl

theorem State.noteRead_of_good {s : State} {k : Nat} (h : s.shFound k = .good) : s.noteRead k = s :=
  if_neg (by rw [h]; exact WordRead.noConfusion)

theorem readBad_zero : readBad 0 = (.good, 0) := if_pos rfl

/-- A word of the word code without bad bits is good, and none of its bits is read wrong. -/
theorem State.read_of_sound {s : State} {k : Nat} (h : Tab.get 0 s.setts.sharedBad (k / 8) = 0) :
    s.shFound k = .good ∧ s.shWrong k = 0 := by
  rw [State.shFound, State.shWrong, h, readBad_zero]
  exact ⟨rfl, BitVec.extractLsb'_zero⟩

theorem State.shRead_of_sound {s : State} {k : Nat} (h : Tab.get 0 s.setts.sharedBad (k / 8) = 0) : s.shRead k = s.shWord k := by
  simp [State.shRead, (State.read_of_sound h).2]

theorem State.commonAt_of_no_commits {s : State} (k c : Nat) (hc : s.setts.commits = []) (hb : s.setts.before = []) :
    s.commonAt k c = s.shWord k := by
  simp [State.commonAt, hc, hb, standing]

/-! ## Loads and inputs -/

section
variable {s : State} {n : Nat} {rd ra slot sel : BitVec 4} {off : BitVec 18} {addr : BitVec 10} {a : Nat}

theorem execEngLdp_good (ha : accessAddr ((s.engine n).reg ra) off 0x800 = some a) (hg : s.shFound (privKey n a) = .good)
    (h : Ready s n (.ldp rd ra off)) : execEngLdp n rd ra off s =
      .next (s.setEngine n (((s.engine n).advance (.ldp rd ra off)).result rd (s.shRead (privKey n a), false))) := by
  refine State.issue_of_ready h ?_
  have hn := State.noteRead_of_good (s := s.setEngine n ((s.engine n).advance (.ldp rd ra off))) hg
  simp [ha, State.shBad_of_good hg, hn, Res.plain]

theorem execEngLdp_corrected (ha : accessAddr ((s.engine n).reg ra) off 0x800 = some a) (hg : s.shFound (privKey n a) = .corrected)
    (h : Ready s n (.ldp rd ra off)) : execEngLdp n rd ra off s =
      .next ((s.memCorr 5).setEngine n (((s.engine n).advance (.ldp rd ra off)).result rd (s.shRead (privKey n a), false))) := by
  refine State.issue_of_ready h ?_
  have hbad : s.shBad (privKey n a) = false := by
    rw [State.shBad, hg]
    rfl
  simp [ha, hbad, State.noteRead, hg, Res.plain]

theorem execEngLdc_sound (ha : accessAddr ((s.engine n).reg ra) off 0x10000 = some a) (hc : (s.engine n).common = true)
    (hw : s.awaits n = false) (hs : Tab.get 0 s.setts.sharedBad (commonKey n a / 8) = 0) (h : Ready s n (.ldc rd ra off)) :
    execEngLdc n rd ra off s = .next (s.setEngine n
      (((s.engine n).advance (.ldc rd ra off)).result rd (s.commonAt (commonKey n a) (s.engine n).cycle, false))) := by
  obtain ⟨hg, hwrong⟩ := State.read_of_sound hs
  rw [execEngLdc, hw, if_neg Bool.false_ne_true]
  refine State.issue_of_ready h ?_
  have hn := State.noteRead_of_good (s := s.setEngine n ((s.engine n).advance (.ldc rd ra off))) hg
  have hcommon : ((s.engine n).advance (.ldc rd ra off)).common = true := hc
  simp [ha, hcommon, State.shBad_of_good hg, hn, hwrong, Res.plain]

theorem execEngLdk_constant (hlo : (s.engine n).codeEnd ≤ addr.toNat) (hhi : addr.toNat < (s.engine n).length)
    (hp : (s.engine n).badWords.contains addr.toNat = false) (h : Ready s n (.ldk rd addr)) : execEngLdk n rd addr s =
      .next (s.setEngine n (((s.engine n).advance (.ldk rd addr)).result rd ((s.engine n).word addr.toNat, false))) := by
  refine State.issue_of_ready h ?_
  have hin : ((s.engine n).advance (.ldk rd addr)).codeEnd ≤ addr.toNat ∧ addr.toNat < ((s.engine n).advance (.ldk rd addr)).length :=
    ⟨hlo, hhi⟩
  have hpar : ((s.engine n).advance (.ldk rd addr)).badWords.contains addr.toNat = false := hp
  rw [if_pos hin, if_neg (by rw [hpar]; exact Bool.false_ne_true), State.setEngine_setEngine]
  rfl

theorem execEngRd_allowed (hsel : sel.toNat < selCount ((s.engine n).bind slot.toNat).1) (h : Ready s n (.rd rd slot sel)) :
    execEngRd n rd slot sel s = .next (s.setEngine n
      (((s.engine n).advance (.rd rd slot sel)).result rd (Tab.get 0 (s.engine n).snap (slot.toNat * 16 + sel.toNat), false))) :=
  State.issueEngine_of_ready h (if_pos hsel)

theorem execEngRdst_item {v : Word} (hv : s.statusItem n (s.engine n) sel.toNat = some v) (h : Ready s n (.rdst rd sel)) :
    execEngRdst n rd sel s = .next (s.setEngine n (((s.engine n).advance (.rdst rd sel)).result rd (v, false))) := by
  refine State.issueEngine_of_ready h ?_
  rw [Engine.advance_statusItem, hv]
  rfl

theorem execEngTrd_reads {tm : BitVec 2} (h : Ready s n (.trd rd tm)) : execEngTrd n rd tm s =
    .next (s.setEngine n (((s.engine n).advance (.trd rd tm)).result rd ((s.engine n).timer tm, false))) :=
  State.issueEngine_of_ready h rfl
end

/-- A corrected read is counted and changes nothing else but its engine. -/
theorem engLdp_corrected {s : State} {n : Fin 1280} {rd ra : BitVec 4} {off : BitVec 18} {a : Nat}
    (ha : accessAddr ((s.engine n).reg ra) off 0x800 = some a) (hg : s.shFound (privKey n a) = .corrected)
    (h : Ready s n (.ldp rd ra off)) : Does (.engLdp n rd ra off) s fun t => Frame [.engines] [(MEM_ECC.corr, 5)] s t ∧
      (rd ≠ 0 → (t.engine n).reg rd = s.shRead (privKey n a)) ∧ (t.engine n).pc = (s.engine n).pc + 1 ∧
      t.rd MEM_ECC.corr 5 = min (2 ^ MEM_ECC.corr.width - 1) (s.rd MEM_ECC.corr 5 + 1) := by
  refine ⟨_, execEngLdp_corrected ha hg h, ?frame, fun hrd => ?reg, ?pc, ?count⟩
  case frame =>
    exact ((Frame.refl s _ _).addSat MEM_ECC.corr 5 1 (by simp)).setEngine n _ (by simp)
  case reg =>
    rw [State.setEngine_engine, if_pos rfl, Engine.result_reg]
    exact Engine.setReg_reg_same _ rd _ hrd
  case pc =>
    rw [State.setEngine_engine, if_pos rfl, Engine.result_frame]
    rfl
  case count =>
    rw [State.setEngine_rd]
    refine (State.rd_wr_same s MEM_ECC.corr 5 _).trans (Nat.mod_eq_of_lt ?_)
    exact Nat.lt_of_le_of_lt (Nat.min_le_left ..) (Nat.sub_lt (Nat.two_pow_pos _) Nat.one_pos)

/-- Settles O8, each instruction by its rule above. -/
theorem engineLoads : Obligations.EngineLoads := by
  intro s n rd ra slot sel off addr tm e
  refine ⟨fun h => ⟨_, State.issueEngine_of_ready h rfl, rfl⟩, fun a ha hg => ?ldp, fun a ha hg h => engLdp_corrected ha hg h,
    fun a ha hc hw hs => ?ldc, fun k hs => ⟨(State.read_of_sound hs).1, State.shRead_of_sound hs⟩,
    fun k hc hb => State.commonAt_of_no_commits k _ hc hb, fun hlo hhi hp => ?ldk, fun hsel => ?rd, fun v hv => ?rdst, ?trd⟩
  case ldp => exact Computes.of_result fun h => execEngLdp_good ha hg h
  case ldc => exact Computes.of_result fun h => execEngLdc_sound ha hc hw hs h
  case ldk => exact Computes.of_result fun h => execEngLdk_constant hlo hhi hp h
  case rd => exact Computes.of_result fun h => execEngRd_allowed hsel h
  case rdst => exact Computes.of_result fun h => execEngRdst_item hv h
  case trd => exact Computes.of_result execEngTrd_reads

/-! ## Stores, outputs and timers -/

@[simp] theorem State.setSh_shWord (s : State) (k j : Nat) (v : Word) :
    (s.setSh k v).shWord j = if k = j then v else s.shWord j := Tab.get_set _ _ _ _ _
@[simp] theorem State.setSh_engine (s : State) (k n : Nat) (v : Word) : (s.setSh k v).engine n = s.engine n := rfl

theorem Engine.setTimer_timer_same (e : Engine) (t : BitVec 2) (v : Word) : (e.setTimer t v).timer t = v := Tab.get_set_same ..

theorem Engine.setTimer_timer_of_ne (e : Engine) {t x : BitVec 2} (v : Word) (h : x ≠ t) : (e.setTimer t v).timer x = e.timer x :=
  Tab.get_set_ne _ _ _ _ fun hx => h (BitVec.eq_of_toNat_eq hx.symm)

section
variable {s : State} {n : Nat} {rd ra rb slot : BitVec 4} {off : BitVec 18} {a : Nat}

theorem execEngStp_stores (ha : accessAddr ((s.engine n).reg ra) off 0x800 = some a) (h : Ready s n (.stp rd ra off)) :
    execEngStp n rd ra off s = .next ((s.setEngine n { (s.engine n).advance (.stp rd ra off) with
      undo := (privKey n a, s.shWord (privKey n a)) :: (s.engine n).undo }).setSh (privKey n a) ((s.engine n).reg rd)) := by
  refine State.issue_of_ready h ?_
  simp only [Engine.advance_reg, ha, State.setEngine_shWord, State.setEngine_setEngine]
  rfl

theorem execEngStc_buffers (ha : accessAddr ((s.engine n).reg ra) off 0x10000 = some a) (hc : (s.engine n).common = true)
    (hroom : (s.engine n).stores.length < 8) (h : Ready s n (.stc rd ra off)) :
    execEngStc n rd ra off s = .next (s.setEngine n { (s.engine n).advance (.stc rd ra off) with
      stores := (s.engine n).stores ++ [(commonKey n a, (s.engine n).reg rd)] }) := by
  refine State.issueEngine_of_ready h ?_
  simp only [Engine.advance_reg, ha]
  exact if_pos ⟨hc, hroom⟩

theorem execEngWr_queues {r : Res} (hr : outputValue ((s.engine n).bind slot.toNat).1 ((s.engine n).reg ra) = some r)
    (hroom : (s.engine n).queue.length < 32) (h : Ready s n (.wr slot ra)) :
    execEngWr n slot ra s = .next (s.setEngine n { (s.engine n).advance (.wr slot ra) with
      regs := { (s.engine n).regs with q := r.2, qs := (s.engine n).regs.qs || r.2 }, badRegs := (s.engine n).badRegs.filter (· != 16)
      queue := (s.engine n).queue ++ [.write ((s.engine n).bind slot.toNat).1 ((s.engine n).bind slot.toNat).2 r.1] }) := by
  refine State.issueEngine_of_ready h ?_
  have hr' : outputValue (((s.engine n).advance (.wr slot ra)).bind slot.toNat).1 (((s.engine n).advance (.wr slot ra)).reg ra) = some r := hr
  simp only [hr']
  exact if_pos hroom

theorem execEngEvt_queues {code : BitVec 16} (hlo : 1 ≤ code.toNat / 256) (hhi : code.toNat / 256 ≤ 12)
    (hroom : (s.engine n).queue.length < 32) (h : Ready s n (.evt code ra rb)) :
    execEngEvt n code ra rb s = .next (s.setEngine n { (s.engine n).advance (.evt code ra rb) with
      queue := (s.engine n).queue ++ [.event code.toNat ((s.engine n).reg ra) ((s.engine n).reg rb)] }) :=
  State.issueEngine_of_ready h ((if_pos ⟨hlo, hhi⟩).trans (if_pos hroom))

theorem execEngMbx_queues {tag : BitVec 8} (hroom : (s.engine n).queue.length < 32) (h : Ready s n (.mbx tag ra)) :
    execEngMbx n tag ra s = .next (s.setEngine n { (s.engine n).advance (.mbx tag ra) with
      queue := (s.engine n).queue ++ [.mail tag.toNat ((s.engine n).reg ra)] }) :=
  State.issueEngine_of_ready h (if_pos hroom)

/-- A request block of four good words is copied into the output queue (R143). -/
theorem execEngWpr_queues {k : Nat} (hk : k = privKey n ((s.engine n).reg ra).toNat) (hkind : ((s.engine n).bind slot.toNat).1 = 7)
    (halign : ((s.engine n).reg ra).toNat % 4 = 0) (hend : ((s.engine n).reg ra).toNat ≤ 0x7F0) (hgood : ∀ j, j < 4 → s.shFound (k + j) = .good)
    (hop : ((s.shRead k).extractLsb' 24 8).toNat ∈ [1, 2, 3, 4, 5]) (hroom : (s.engine n).queue.length < 32)
    (h : Ready s n (.wpr slot ra)) :
    execEngWpr n slot ra s = .next (s.setEngine n { (s.engine n).advance (.wpr slot ra) with
      queue := (s.engine n).queue ++ [.port slot.toNat ((s.engine n).bind slot.toNat).2 (s.shRead k) (s.shRead (k + 1)) (s.shRead (k + 2))
        (s.shRead (k + 3))] }) := by
  refine State.issue_of_ready h ?_
  subst hk
  have hfit : ¬ (((s.engine n).bind slot.toNat).1 ≠ 7 ∨ ((s.engine n).reg ra).toNat % 4 ≠ 0 ∨ 0x7F0 < ((s.engine n).reg ra).toNat) := by
    omega
  have hbad (j : Nat) (hj : j < 4) := State.shBad_of_good (hgood j hj)
  have hcode : ¬ ((s.shRead (privKey n ((s.engine n).reg ra).toNat)).extractLsb' 24 8 = 0 ∨
      5 < ((s.shRead (privKey n ((s.engine n).reg ra).toNat)).extractLsb' 24 8).toNat) := by
    rintro (h0 | h5)
    · simp [h0] at hop
    · simp only [List.mem_cons, List.not_mem_nil, or_false] at hop
      omega
  have hnote (j : Nat) (hj : j < 4) (t : State) (ht : t.setts.sharedBad = s.setts.sharedBad) : t.noteRead (_ + j) = t :=
    State.noteRead_of_good (by rw [State.shFound, ht]; exact hgood j hj)
  have hbind : ((s.engine n).advance (.wpr slot ra)).bind slot.toNat = (s.engine n).bind slot.toNat := rfl
  have hqueue (q : OutEntry) : ((s.engine n).advance (.wpr slot ra)).enqueue q =
      some { (s.engine n).advance (.wpr slot ra) with queue := (s.engine n).queue ++ [q] } := if_pos hroom
  have h0 := hbad 0 (by decide)
  have hn0 := hnote 0 (by decide) (s.setEngine n ((s.engine n).advance (.wpr slot ra))) rfl
  have hn3 := hnote 3 (by decide) (s.setEngine n ((s.engine n).advance (.wpr slot ra))) rfl
  rw [Nat.add_zero] at h0 hn0
  simp only [Engine.advance_reg, hbind, if_neg hfit, State.setEngine_shRead, List.find?, State.setEngine_shBad, h0, hbad 1 (by decide),
    hbad 2 (by decide), hbad 3 (by decide), if_neg hcode, hqueue, hn0, hn3, ite_self, State.setEngine_setEngine]

theorem execEngTset_sets {tm : BitVec 2} (h : Ready s n (.tset tm ra)) : execEngTset n tm ra s =
    .next (s.setEngine n (((s.engine n).advance (.tset tm ra)).setTimer tm ((s.engine n).reg ra))) :=
  State.issueEngine_of_ready h rfl

theorem execEngTseti_sets {tm : BitVec 2} {imm : BitVec 18} (h : Ready s n (.tseti tm imm)) : execEngTseti n tm imm s =
    .next (s.setEngine n (((s.engine n).advance (.tseti tm imm)).setTimer tm (imm.setWidth 32))) :=
  State.issueEngine_of_ready h rfl
end

/-- A command that sets a timer of the engine that has advanced sets it and no other, and leaves the general registers. -/
theorem Does.of_setTimer {c : Instr} {s : State} {n : Nat} {op : EngOp} {tm : BitVec 2} {v : Word}
    (h : exec c s = .next (s.setEngine n (((s.engine n).advance op).setTimer tm v))) :
    Does c s fun t => OnlyEngine n s t ∧ (t.engine n).timer tm = v ∧ (∀ x, x ≠ tm → (t.engine n).timer x = (s.engine n).timer x) ∧
      (t.engine n).regs.g = (s.engine n).regs.g ∧ (t.engine n).pc = (s.engine n).pc + 1 := by
  refine ⟨_, h, ?_⟩
  simp only [OnlyEngine, State.setEngine_engine, if_true]
  exact ⟨trivial, Engine.setTimer_timer_same _ tm v, fun x hx => Engine.setTimer_timer_of_ne _ v hx, rfl, rfl⟩

/-- Settles O9, each instruction by its rule above. -/
theorem engineStores : Obligations.EngineStores := by
  intro s n rd ra rb slot off imm code tag tm e
  refine ⟨fun a ha h => ?stp, fun a ha hc hroom h => ⟨_, execEngStc_buffers ha hc hroom h, rfl⟩, fun v q hv hroom h => ?wr,
    fun k hk hkind halign hend hgood hop hroom h => ⟨_, execEngWpr_queues hk hkind halign hend hgood hop hroom h, rfl⟩,
    fun hlo hhi hroom h => ⟨_, execEngEvt_queues hlo hhi hroom h, rfl⟩, fun hroom h => ⟨_, execEngMbx_queues hroom h, rfl⟩,
    fun h => ?tset, fun h => ?tseti⟩
  case stp =>
    refine ⟨_, execEngStp_stores ha h, ?frame, ?same, fun k hk => ?word, fun m hm => ?engine, ?own⟩
    case frame =>
      exact (Within.step (Within.step (Within.refl [.engines, .sharedMemory, .settRest] [] s) (State.setEngine_within _ _ _) rfl)
        (State.setSh_within _ _ _) rfl).touches rfl rfl
    case same => rw [State.setSh_shWord, if_pos rfl]
    case word => rw [State.setSh_shWord, if_neg (Ne.symm hk), State.setEngine_shWord]
    case engine => rw [State.setSh_engine, State.setEngine_engine, if_neg (Ne.symm hm)]
    case own =>
      rw [State.setSh_engine, State.setEngine_engine, if_pos rfl]
      rfl
  case wr =>
    refine ⟨_, execEngWr_queues hv hroom h, ?_⟩
    simp only [OnlyEngine, State.setEngine_engine, if_true]
    exact ⟨trivial, rfl, rfl, rfl, rfl⟩
  case tset => exact Does.of_setTimer (execEngTset_sets h)
  case tseti => exact Does.of_setTimer (execEngTseti_sets h)

/-! ## Jumps and branches -/

section
variable {e : Engine} {t : Nat}

theorem Engine.jump_in_code (h : 8 ≤ t ∧ t < e.codeEnd) : e.jump t = some { e with pc := t } := if_pos h

theorem Engine.branch_taken {c : Bool} (hc : c = true) (h : 8 ≤ t ∧ t < e.codeEnd) :
    e.branch c t = some { e with used := e.used + 1, pc := t } := by
  rw [Engine.branch, if_pos hc]
  exact Engine.jump_in_code h

theorem Engine.branch_not_taken {c : Bool} (hc : c = false) : e.branch c t = some e := by
  rw [Engine.branch, hc]
  rfl
end

/-- A command that issues an instruction of its engine alone leaves the engine that the instruction gives. -/
theorem exec_of_issueEngine {c : Instr} {s : State} {n : Nat} {op : EngOp} {f : Engine → Option Engine} {e : Engine}
    (hc : exec c s = s.issueEngine n op f) (h : Ready s n op) (hf : f ((s.engine n).advance op) = some e) :
    exec c s = .next (s.setEngine n e) :=
  hc.trans (State.issueEngine_of_ready h hf)

/-- A branch of one cycle whose command issues it with condition `c`: what `Obligations.EngineJumps` says of it. -/
theorem branch_does {c : Instr} {s : State} {n : Nat} {op : EngOp} {target : BitVec 10} {cond : Engine → Bool}
    (hc : exec c s = s.issueEngine n op fun e => e.branch (cond e) target.toNat) (hop : op.cycles = 1)
    (hcond : cond ((s.engine n).advance op) = cond (s.engine n)) (h : Ready s n op) :
    (cond (s.engine n) = true → 8 ≤ target.toNat ∧ target.toNat < (s.engine n).codeEnd →
      Does c s fun t => t = s.setEngine n { s.engine n with pc := target.toNat, used := (s.engine n).used + 2 }) ∧
    (cond (s.engine n) = false →
      Does c s fun t => t = s.setEngine n { s.engine n with pc := (s.engine n).pc + 1, used := (s.engine n).used + 1 }) := by
  refine ⟨fun ht hin => ⟨_, hc.trans (State.issueEngine_of_ready h (Engine.branch_taken (hcond.trans ht) hin)), ?_⟩,
    fun hf => ⟨_, hc.trans (State.issueEngine_of_ready h (Engine.branch_not_taken (hcond.trans hf))), ?_⟩⟩
  · simp only [Engine.advance, hop, Nat.add_assoc]
  · simp only [Engine.advance, hop]

/-- Settles O10: jumps by `Engine.jump_in_code`, branches by `branch_does`. -/
theorem engineJumps : Obligations.EngineJumps := by
  intro s n ra rb bit tm target e at_ inCode branch
  have hbranch {c : Instr} {op : EngOp} {cond : Engine → Bool} {taken : Prop}
      (hc : exec c s = s.issueEngine n op fun e => e.branch (cond e) target.toNat) (hop : op.cycles = 1)
      (hcond : cond (e.advance op) = cond e) (ht : taken ↔ cond e = true) : branch c op taken := fun h => by
    obtain ⟨hyes, hno⟩ := branch_does hc hop hcond h
    exact ⟨fun h1 h2 => hyes (ht.mp h1) h2, fun h1 => hno (Bool.eq_false_iff.mpr (mt ht.mpr h1))⟩
  refine ⟨fun h hin => ?jal, fun h hin => ⟨_, exec_of_issueEngine (f := fun e => e.jump (e.reg ra).toNat) rfl h (Engine.jump_in_code hin), rfl⟩,
    fun h hin => ⟨_, exec_of_issueEngine (f := fun e => e.jump target.toNat) rfl h (Engine.jump_in_code hin), rfl⟩,
    hbranch (cond := fun e => e.reg ra == e.reg rb) rfl rfl rfl (by simp), hbranch (cond := fun e => e.reg ra != e.reg rb) rfl rfl rfl (by simp),
    hbranch (cond := fun e => (e.reg ra).slt (e.reg rb)) rfl rfl rfl (by simp [BitVec.slt]),
    hbranch (cond := fun e => !(e.reg ra).slt (e.reg rb)) rfl rfl rfl (by simp [BitVec.slt]),
    hbranch (cond := fun e => e.timer tm == 0) rfl rfl rfl (by simp), fun hbit => ?bst⟩
  case jal =>
    have hin' : 8 ≤ target.toNat ∧ target.toNat < ((e.advance (.jal target)).setReg 15 (BitVec.ofNat 32 (e.pc + 1))).codeEnd := hin
    refine ⟨_, exec_of_issueEngine (f := fun e => (e.setReg 15 (BitVec.ofNat 32 e.pc)).jump target.toNat) rfl h (Engine.jump_in_code hin'), ?_⟩
    simp only [OnlyEngine, State.setEngine_engine, if_true]
    exact ⟨trivial, trivial, Engine.setReg_reg_same _ 15 _ (by decide), rfl, fun x hx => Engine.setReg_reg_of_ne _ 15 x _ hx, rfl, rfl⟩
  case bst =>
    refine hbranch (cond := fun e => e.status bit.toNat) ?_ rfl rfl Iff.rfl
    simp only [exec, execEngBst, if_pos hbit]

/-! ## An LDC that awaits another engine issues no fault -/

/-- Engine 0 has run past its code in a tick, two cycles after engine 1's next instruction. -/
def awaitingState : State :=
  { part := { held := false }
    setts := { engines := [(0, { state := .running, inTick := true, used := 2 }), (1, { state := .running, inTick := true })] } }

theorem awaitingState_ticking : awaitingState.ticking 0 = true ∧ (awaitingState.engine 0).used < awaitingState.budget (0 / 32) ∧
    (awaitingState.engine 0).fetch.1 = none := by decide

/-- The engine's fetch faults, but an LDC waits for engine 1 and changes nothing. -/
theorem engLdc_awaits : exec (EngOp.command 0 (.ldc 0 0 0)) awaitingState = .next awaitingState := by
  have hawaits : awaitingState.awaits 0 = true := by decide
  change execEngLdc 0 0 0 0 awaitingState = _
  rw [execEngLdc, if_pos hawaits]

theorem awaitingState_fault_differs : awaitingState ≠ awaitingState.engFault 0 3 := fun h => by
  have hstate := congrArg (fun s : State => (s.engine 0).state) h
  revert hstate
  decide

/-- Refutes O58: an LDC of an engine whose fetch faults has no effect while another engine of the sett has an earlier cycle to issue. -/
theorem not_engineFaults : ¬ Obligations.EngineFaults := by
  rintro ⟨hcommand, -⟩
  obtain ⟨hticking, hused, hfetch⟩ := awaitingState_ticking
  obtain ⟨⟨t, hexec, ht⟩, -⟩ := (hcommand awaitingState 0 (.ldc 0 0 0) hticking hused).1 hfetch
  rw [engLdc_awaits] at hexec
  cases hexec
  exact awaitingState_fault_differs ht

end Sys2Proof.Machine
end

section
/-!
SUPPORT. The setts' commands (05): engine commands and memory writes, migration, enable and period, and the reflex rules; O12, O13 and O14.
-/
namespace Sys2Proof.Machine

/-! ## Engine commands and the writes of an IDLE engine -/

section
variable {s : State} {n : Nat}

@[simp] theorem State.writeFld_engine (s : State) (f : Fld) (i v n : Nat) : (s.writeFld f i v).engine n = s.engine n := by
  simp only [State.engine, State.writeFld_setts]

/-- The write of SETT_ENG_CTL with one of the four commands (R112). -/
theorem State.engCtl_pends (s : State) (n : Nat) {cmd : Nat} (obj : Nat) (h : 1 ≤ cmd ∧ cmd ≤ 4) :
    Frame [.engines] [(SETT_ENG_CTL.obj, n)] s (s.engCtl n cmd obj) ∧ (s.engCtl n cmd obj).engine n = { s.engine n with cmd := cmd } ∧
      (obj < 1280 → (s.engCtl n cmd obj).rd SETT_ENG_CTL.obj n = obj) ∧ ∀ m, m ≠ n → (s.engCtl n cmd obj).engine m = s.engine m := by
  have heq : s.engCtl n cmd obj = (s.writeFld SETT_ENG_CTL.obj n obj).setEngine n { s.engine n with cmd := cmd } := by
    rw [State.engCtl, if_pos h, State.writeFld_engine]
  rw [heq]
  refine ⟨((Frame.refl s _ _).writeFld _ _ _ (by simp)).setEngine n _ (by simp), by simp, fun hobj => ?_, fun m hm => ?_⟩
  · rw [State.setEngine_rd, State.writeFld_of_range s n (.inl rfl) ⟨Nat.zero_le _, Nat.le_of_lt_succ hobj⟩]
    exact s.rd_wr_lt n (Nat.lt_trans hobj (by decide))
  · rw [State.setEngine_engine, if_neg (Ne.symm hm), State.writeFld_engine]

/-- A command that writes SETT_ENG_CTL pends. -/
theorem Does.of_engCtl {c : Instr} {g : Bool} {cmd obj : Nat} (hc : exec c s = doIf g s (s.engCtl n cmd obj)) (hg : g = true)
    (h : 1 ≤ cmd ∧ cmd ≤ 4) : Does c s fun t => Frame [.engines] [(SETT_ENG_CTL.obj, n)] s t ∧
      t.engine n = { s.engine n with cmd := cmd } ∧ (obj < 1280 → t.rd SETT_ENG_CTL.obj n = obj) ∧ ∀ m, m ≠ n → t.engine m = s.engine m :=
  Does.of_guard hc hg (s.engCtl_pends n obj h)

theorem State.settOn_of_enabled {k : Nat} (h : s.bit SETT_CTL.enable k = true) : s.settOn k = true := by
  rw [State.settOn, h, Bool.true_or]

end

theorem instructionMemoryWrite_writes {s : State} {n : Fin 1280} (a : BitVec 10) (v : BitVec 32) (hup : s.settUp = true)
    (hidle : (s.engine n).state = .idle) (hon : s.settOn (n / 32) = true) :
    Does (.instructionMemoryWrite n a v) s fun t => OnlyEngine n s t ∧ (t.engine n).word a.toNat = v ∧
      (∀ b, b ≠ a.toNat → (t.engine n).word b = (s.engine n).word b) ∧ (t.engine n).badWords.contains a.toNat = false := by
  refine Does.of_guard rfl (by simp [hup, hidle, hon]) ?_
  simp only [OnlyEngine, State.setEngine_engine, if_true]
  exact ⟨trivial, Tab.get_set_same .., fun b hb => Tab.get_set_ne _ _ _ _ (Ne.symm hb), by simp⟩

theorem bindingWrite_writes {s : State} {n : Fin 1280} {slot : Fin 16} {v : BitVec 32} (hup : s.settUp = true)
    (hidle : (s.engine n).state = .idle) (hon : s.settOn (n / 32) = true)
    (hrange : SETT_BIND.index.of v.toNat < kindSize (SETT_BIND.kind.of v.toNat)) :
    Does (.bindingWrite n slot v) s fun t => OnlyEngine n s t ∧
      (t.engine n).bind slot = (SETT_BIND.kind.of v.toNat, SETT_BIND.index.of v.toNat) ∧
      ∀ j, j ≠ slot.val → (t.engine n).bind j = (s.engine n).bind j := by
  refine Does.of_guard rfl (by simp [hup, hidle, hon, hrange]) ?_
  simp only [OnlyEngine, State.setEngine_engine, if_true]
  exact ⟨trivial, Tab.get_set_same .., fun j hj => Tab.get_set_ne _ _ _ _ (Ne.symm hj)⟩

theorem firmwareValueWrite_collects {s : State} {k : Fin 40} {off : BitVec 15} (v : BitVec 32) (hup : s.settUp = true)
    (hen : s.bit SETT_CTL.enable k = true) (hlow : off.toNat < 16384) (harea : 480 ≤ off.toNat % 512) :
    Does (.firmwareValueWrite k off v) s fun t => Frame [.settRest] [] s t ∧
      t.setts.fwWrites = s.setts.fwWrites ++ [(k.val * 32768 + off.toNat, v)] := by
  refine Does.of_guard rfl (by simp [hup, State.settOn_of_enabled hen]) ?_
  rw [if_pos hen, if_pos (decide_eq_true ⟨hlow, harea⟩)]
  exact ⟨(Frame.refl s _ _).settRest _ (by simp) rfl rfl, rfl⟩

theorem firmwareValueWrite_ignored {s : State} {k : Fin 40} {off : BitVec 15} (v : BitVec 32) (hup : s.settUp = true)
    (hen : s.bit SETT_CTL.enable k = true) (hout : 16384 ≤ off.toNat ∨ off.toNat % 512 < 480) :
    Does (.firmwareValueWrite k off v) s fun t => Frame [] [(SETT_STAT.fw_wr_ignored, k.val)] s t ∧ t.rd SETT_STAT.fw_wr_ignored k = 1 := by
  refine Does.of_guard rfl (by simp [hup, State.settOn_of_enabled hen]) ?_
  have harea : decide (off.toNat < 16384 ∧ 0x780 / 4 ≤ off.toNat % 512) = false := decide_eq_false (by omega)
  rw [if_pos hen, harea, if_neg Bool.false_ne_true]
  exact ⟨(Frame.refl s _ _).wr _ _ _ (by simp), s.rd_wr_lt _ (by decide)⟩

/-- Settles O12, each command by its theorem above. -/
theorem engineCommands : Obligations.EngineCommands := by
  refine ⟨fun s n obj slot a v hoff => ?off, fun s n obj hup hon => ?cmds,
    fun s n a v hup hidle hen => instructionMemoryWrite_writes a v hup hidle (State.settOn_of_enabled hen),
    fun s n slot v hup hidle hon hrange => bindingWrite_writes hup hidle hon hrange,
    fun s k off v hup hen => ⟨firmwareValueWrite_collects v hup hen, firmwareValueWrite_ignored v hup hen⟩,
    fun s hup => Does.of_guard rfl hup ⟨(Frame.refl s _ _).settRest _ (by simp) rfl rfl, rfl, rfl⟩⟩
  case off =>
    refine ⟨Does.of_not_guard rfl ?_, Does.of_not_guard rfl ?_, Does.of_not_guard rfl ?_, Does.of_not_guard rfl ?_, Does.of_not_guard rfl ?_,
      Does.of_not_guard rfl ?_⟩
    all_goals simp [hoff]
  case cmds =>
    exact ⟨fun hbind => Does.of_engCtl rfl (by simp [hup, hon, hbind]) (by decide), Does.of_engCtl rfl (by simp [hup, hon]) (by decide),
      Does.of_engCtl rfl (by simp [hup, hon]) (by decide), Does.of_engCtl rfl (by simp [hup, hon]) (by decide)⟩

/-! ## Migration -/

/-- A field that migration does not read plays no part in its refusal. -/
theorem State.wr_migRefusal (s : State) {f : Fld} (i v a b : Nat)
    (h : (decide (f.code ≠ 1160) && decide (f.code ≠ 1152) && f.ok) = true) : (s.wr f i v).migRefusal a b = s.migRefusal a b := by
  simp only [Bool.and_eq_true] at h
  obtain ⟨⟨hen, hper⟩, hok⟩ := h
  have hrd (g : Fld) (k : Nat) (hg : g.ok = true) (hne : decide (f.code ≠ g.code) = true) : (s.wr f i v).rd g k = s.rd g k :=
    s.rd_wr_ne i k v (by rw [hne, hok, hg]; rfl)
  simp only [State.migRefusal, State.wr_engine, State.bit, hrd SETT_CTL.enable _ rfl hen, hrd SETT_CTL.period _ rfl hper]
  rfl

/-- SETT_MIGCMD written with a source and a destination in range. -/
def State.migNamed (s : State) (src dst : Nat) : State := (s.wr SETT_MIGCMD.src 0 src).wr SETT_MIGCMD.dst 0 dst

section
variable {s : State} {src dst : Nat}

theorem Frame.migNamed {bs : List Block} {fs : List (Fld × Nat)} {t : State} (h : Frame bs fs s t) (hsrc : (SETT_MIGCMD.src, 0) ∈ fs)
    (hdst : (SETT_MIGCMD.dst, 0) ∈ fs) : Frame bs fs s (t.migNamed src dst) := (h.wr _ _ _ hsrc).wr _ _ _ hdst

theorem State.migNamed_src (h : src < 1280) : (s.migNamed src dst).rd SETT_MIGCMD.src 0 = src := by
  rw [State.migNamed, State.rd_wr_ne _ _ _ _ rfl]
  exact s.rd_wr_lt 0 (Nat.lt_trans h (by decide))

theorem State.migNamed_dst (h : dst < 1280) : (s.migNamed src dst).rd SETT_MIGCMD.dst 0 = dst :=
  State.rd_wr_lt _ 0 (Nat.lt_trans h (by decide))

theorem State.migNamed_migRefusal (a b : Nat) : (s.migNamed src dst).migRefusal a b = s.migRefusal a b := by
  rw [State.migNamed, State.wr_migRefusal _ _ _ _ _ rfl, State.wr_migRefusal _ _ _ _ _ rfl]

theorem State.writeFld_migNamed (hsrc : src < 1280) (hdst : dst < 1280) :
    (s.writeFld SETT_MIGCMD.src 0 src).writeFld SETT_MIGCMD.dst 0 dst = s.migNamed src dst := by
  rw [State.writeFld_of_range s 0 (.inl rfl) ⟨Nat.zero_le _, Nat.le_of_lt_succ hsrc⟩,
    State.writeFld_of_range _ 0 (.inl rfl) ⟨Nat.zero_le _, Nat.le_of_lt_succ hdst⟩]
  rfl
end

/-- A go while no migration is under way: refused as Table 5-4 has it, or begun. -/
theorem exec_migrationGo {s : State} {src dst : BitVec 11} (hup : s.settUp = true) (hsrc : src.toNat < 1280) (hdst : dst.toNat < 1280)
    (hbusy : s.bit SETT_MIGSTAT.busy 0 = false) : exec (.migrationGo src dst) s = .next (match s.migRefusal src.toNat dst.toNat with
      | some code => ((s.migNamed src.toNat dst.toNat).wr SETT_MIGSTAT.status 0 code).record Ev.ENG_MIG_REFUSED
          (if (s.engine src.toNat).state = .idle then Src.setts else (s.engine src.toNat).obj) [src.toNat, dst.toNat, code]
      | none => { s.migNamed src.toNat dst.toNat with setts := { s.setts with mig := { src := src.toNat, dst := dst.toNat } } }.wr
          SETT_MIGSTAT.busy 0 1) := by
  refine (doIf_pos s _ hup).trans ?_
  simp only [State.writeFld_migNamed hsrc hdst, State.migNamed_src hsrc, State.migNamed_dst hdst, State.migNamed_migRefusal]
  rw [if_neg (by rw [hbusy]; exact Bool.false_ne_true)]
  rfl

theorem migrationGo_starts {s : State} {src dst : BitVec 11} (hup : s.settUp = true) (hsrc : src.toNat < 1280) (hdst : dst.toNat < 1280)
    (hbusy : s.bit SETT_MIGSTAT.busy 0 = false) (hr : s.migRefusal src.toNat dst.toNat = none) :
    Does (.migrationGo src dst) s fun t => Frame [.settRest] [(SETT_MIGCMD.src, 0), (SETT_MIGCMD.dst, 0), (SETT_MIGSTAT.busy, 0)] s t ∧
      t.rd SETT_MIGSTAT.busy 0 = 1 ∧ t.rd SETT_MIGCMD.src 0 = src.toNat ∧ t.rd SETT_MIGCMD.dst 0 = dst.toNat ∧
      t.setts.mig = { src := src.toNat, dst := dst.toNat } := by
  have hrun := exec_migrationGo hup hsrc hdst hbusy
  rw [hr] at hrun
  refine ⟨_, hrun, ?frame, State.rd_wr_lt _ 0 (by decide), ?src, ?dst, rfl⟩
  case frame => exact Frame.wr _ _ _ (Frame.settRest ((Frame.refl s _ _).migNamed (by simp) (by simp)) _ (by simp) rfl rfl) (by simp)
  case src => exact (State.rd_wr_ne _ _ _ _ rfl).trans (State.migNamed_src hsrc)
  case dst => exact (State.rd_wr_ne _ _ _ _ rfl).trans (State.migNamed_dst hdst)

theorem migrationGo_refused {s : State} {src dst : BitVec 11} {code : Nat} (hup : s.settUp = true) (hsrc : src.toNat < 1280)
    (hdst : dst.toNat < 1280) (hbusy : s.bit SETT_MIGSTAT.busy 0 = false) (hr : s.migRefusal src.toNat dst.toNat = some code) :
    Records (.migrationGo src dst) s Ev.ENG_MIG_REFUSED
      (if (s.engine src.toNat).state = .idle then Src.setts else (s.engine src.toNat).obj) [src.toNat, dst.toNat, code] fun u =>
      Frame [] [(SETT_MIGCMD.src, 0), (SETT_MIGCMD.dst, 0), (SETT_MIGSTAT.status, 0)] s u ∧ u.rd SETT_MIGSTAT.status 0 = code % 256 := by
  have hrun := exec_migrationGo hup hsrc hdst hbusy
  rw [hr] at hrun
  exact ⟨_, hrun, ((Frame.refl s _ _).migNamed (by simp) (by simp)).wr _ _ _ (by simp), State.rd_wr_same _ _ 0 code⟩

/-- Private areas of different engines do not meet. -/
theorem privKey_disjoint {a b i j : Nat} (h : a ≠ b) (hi : i < 512) (hj : j < 512) : privKey a 0 + i ≠ privKey b 0 + j := by
  simp only [privKey]
  omega

@[simp] theorem upTo_setSh_engine (k : Nat) (f : Nat → State → Nat) (g : Nat → State → Word) (s : State) (n : Nat) :
    (upTo k (fun j s => s.setSh (f j s) (g j s)) s).engine n = s.engine n := by
  induction k with
  | zero => rfl
  | succ k ih => exact ih

/-- Copying the area of one engine to that of another, up to word `k`. -/
theorem upTo_copy_shWord {a b : Nat} (h : a ≠ b) {k : Nat} (hk : k ≤ 512) (s : State) :
    (∀ j, j < k → (upTo k (fun j s => s.setSh (privKey b 0 + j) (s.shWord (privKey a 0 + j))) s).shWord (privKey b 0 + j) =
      s.shWord (privKey a 0 + j)) ∧
    ∀ x, (∀ j, j < k → x ≠ privKey b 0 + j) →
      (upTo k (fun j s => s.setSh (privKey b 0 + j) (s.shWord (privKey a 0 + j))) s).shWord x = s.shWord x := by
  induction k with
  | zero => exact ⟨fun j hj => absurd hj (Nat.not_lt_zero j), fun _ _ => rfl⟩
  | succ k ih =>
    obtain ⟨hcopied, hrest⟩ := ih (Nat.le_of_succ_le hk)
    refine ⟨fun j hj => ?_, fun x hx => ?_⟩
    · rw [upTo, State.setSh_shWord]
      split
      case isTrue he =>
        obtain rfl : k = j := Nat.add_left_cancel he
        exact hrest _ fun i hi => privKey_disjoint h hk (by omega)
      case isFalse he => exact hcopied j (by omega)
    · rw [upTo, State.setSh_shWord, if_neg (Ne.symm (hx k (Nat.lt_succ_self k)))]
      exact hrest x fun i hi => hx i (Nat.lt_succ_of_lt hi)

/-- The copy of R116 with the source between ticks. -/
theorem exec_migrationCopy {s : State} {half : Bool} (hup : s.settUp = true) (hbusy : s.bit SETT_MIGSTAT.busy 0 = true)
    (hcopied : s.setts.mig.copied = false) (hb : s.migBoundary (2 * s.tick + half.toNat) = true) :
    exec (.migrationCopy half) s = .next (s.migCopy (2 * s.tick + half.toNat)) :=
  doIf_pos _ _ (by simp [hup, hbusy, hcopied, hb])

/-- The destination of a copy: the source's object, registers and bindings in the destination's program (R116). -/
def State.migTarget (s : State) : Engine :=
  let e := s.engine s.setts.mig.src
  { s.engine s.setts.mig.dst with
    state := .migrating, obj := e.obj, regs := e.regs, binds := e.binds, startDue := e.startDue, srcLayout := e.layout, badRegs := [], snap := [],
    edges := [] }

/-- Source and destination as the copy leaves them. -/
def State.migPlaced (s : State) : State :=
  (s.setEngine s.setts.mig.src { s.engine s.setts.mig.src with state := .migrating }).setEngine s.setts.mig.dst s.migTarget

/-- A state with the migration's own state `m`. -/
def State.withMig (s : State) (m : Migration) : State := { s with setts := { s.setts with mig := m } }

@[simp] theorem State.withMig_engine (s : State) (m : Migration) (n : Nat) : (s.withMig m).engine n = s.engine n := rfl

@[simp] theorem State.withMig_shWord (s : State) (m : Migration) (k : Nat) : (s.withMig m).shWord k = s.shWord k := rfl

theorem State.withMig_within (s : State) (m : Migration) : Within [.settRest] [] s (s.withMig m) :=
  Within.set_settRest { s.setts with mig := m } (Within.refl _ _ s) rfl rfl rfl

/-- The copy up to the migration's own state. -/
def State.migCopied (s : State) : State :=
  upTo 512 (fun j t => t.setSh (privKey s.setts.mig.dst 0 + j) (t.shWord (privKey s.setts.mig.src 0 + j))) s.migPlaced

/-- The migration's own state after the copy. -/
def State.migNoted (s : State) (h : Nat) : Migration :=
  { s.setts.mig with copied := true, srcStopped := (s.engine s.setts.mig.src).state == .stopped, half := h }

theorem State.migCopy_eq {s : State} (h : Nat) (htick : (s.engine s.setts.mig.src).inTick = false) :
    s.migCopy h = s.migCopied.withMig (s.migNoted h) := by
  have hstay : (if (s.engine s.setts.mig.src).inTick = true then s.overrun s.setts.mig.src else s) = s :=
    if_neg (by rw [htick]; exact Bool.false_ne_true)
  simp only [State.migCopy, hstay, State.migCopied, State.migPlaced, State.migTarget, State.migNoted, State.withMig]

theorem State.migPlaced_engine (s : State) (n : Nat) : s.migPlaced.engine n = if s.setts.mig.dst = n then s.migTarget else
    if s.setts.mig.src = n then { s.engine s.setts.mig.src with state := .migrating } else s.engine n := by
  rw [State.migPlaced, State.setEngine_engine, State.setEngine_engine]

theorem State.migCopied_engine (s : State) (n : Nat) : s.migCopied.engine n = s.migPlaced.engine n := upTo_setSh_engine _ _ _ _ _

theorem State.migCopied_within (s : State) : Within [.engines, .sharedMemory, .settRest] [] s s.migCopied :=
  Within.upTo _ _ (((Within.refl _ _ s).step (State.setEngine_within s _ _) rfl).step (State.setEngine_within _ _ _) rfl)
    fun _ _ hu => hu.step (State.setSh_within _ _ _) rfl

theorem migrationCopy_copies {s : State} {half : Bool} (hup : s.settUp = true) (hbusy : s.bit SETT_MIGSTAT.busy 0 = true)
    (hcopied : s.setts.mig.copied = false) (hb : s.migBoundary (2 * s.tick + half.toNat) = true)
    (hne : s.setts.mig.src ≠ s.setts.mig.dst) (htick : (s.engine s.setts.mig.src).inTick = false) :
    Does (.migrationCopy half) s fun t => Touches [.engines, .sharedMemory, .settRest] [] s t ∧
      (t.engine s.setts.mig.src).state = .migrating ∧ (t.engine s.setts.mig.dst).state = .migrating ∧
      (t.engine s.setts.mig.dst).obj = (s.engine s.setts.mig.src).obj ∧ (t.engine s.setts.mig.dst).regs = (s.engine s.setts.mig.src).regs ∧
      (t.engine s.setts.mig.dst).binds = (s.engine s.setts.mig.src).binds ∧
      (∀ j, j < 512 → t.shWord (privKey s.setts.mig.dst 0 + j) = s.shWord (privKey s.setts.mig.src 0 + j)) ∧
      t.setts.mig.copied = true ∧ (∀ n, n ≠ s.setts.mig.src → n ≠ s.setts.mig.dst → t.engine n = s.engine n) := by
  have hrun := exec_migrationCopy hup hbusy hcopied hb
  rw [State.migCopy_eq _ htick] at hrun
  have hengine (n : Nat) : (s.migCopied.withMig (s.migNoted (2 * s.tick + half.toNat))).engine n = s.migPlaced.engine n :=
    (State.withMig_engine _ _ n).trans (s.migCopied_engine n)
  refine ⟨_, hrun, ?frame, ?src, ?dst⟩
  case frame => exact (s.migCopied_within.step (State.withMig_within _ _) rfl).touches rfl rfl
  case src => rw [hengine, State.migPlaced_engine, if_neg hne.symm, if_pos rfl]
  case dst =>
    simp only [hengine, State.migPlaced_engine, if_true]
    refine ⟨rfl, rfl, rfl, rfl, fun j hj => ?_, rfl, fun n hs hd => ?_⟩
    · exact (State.withMig_shWord _ _ _).trans ((upTo_copy_shWord hne (Nat.le_refl _) s.migPlaced).1 j hj)
    · rw [if_neg hd.symm, if_neg hs.symm]

/-! ## Handover -/

theorem upTo_setSh_within (s : State) (k : Nat) (f : Nat → Nat) (v : Word) :
    Within [.sharedMemory, .settRest] [] s (upTo k (fun j t => t.setSh (f j) v) s) :=
  Within.upTo _ _ (Within.refl _ _ s) fun _ _ hu => hu.step (State.setSh_within _ _ _) rfl

@[simp] theorem State.clearPriv_engine (s : State) (k n : Nat) : (s.clearPriv k).engine n = s.engine n := upTo_setSh_engine _ _ _ _ _

/-- The destination after the handover (Table 5-5). -/
def State.migResumed (s : State) : Engine :=
  let e := s.engine s.setts.mig.src
  { s.engine s.setts.mig.dst with
    state := if s.setts.mig.srcStopped then .stopped else .running, migDue := true, cause := 0, consec := 0, maxUsed := 0,
    reqBusy := e.reqBusy, reqStatus := e.reqStatus, reqData := e.reqData }

/-- The source after the handover. -/
def State.migFreed (s : State) : Engine :=
  { s.engine s.setts.mig.src with state := .idle, binds := [], reqBusy := [], reqStatus := [], reqData := [] }

/-- The handover up to the migration's state and registers. -/
def State.migPassed (s : State) : State :=
  ((s.setEngine s.setts.mig.dst s.migResumed).setEngine s.setts.mig.src s.migFreed).clearPriv s.setts.mig.src

/-- A state whose migration has ended with the handover, up to the record. -/
def State.migClosed (s : State) : State :=
  (((s.withMig {}).wr SETT_MIGSTAT.busy 0 0).wr SETT_MIGSTAT.status 0 St.ok).addSat
    SETT_MIGSTAT.done 0 1

@[simp] theorem State.migClosed_engine (s : State) (n : Nat) : s.migClosed.engine n = s.engine n := rfl

theorem State.migClosed_within (s : State) : Within [.settRest] [1920, 1936, 1951] s s.migClosed :=
  Within.addSat _ _ _ (Within.wr _ _ _ (Within.wr _ _ _ ((Within.refl _ _ s).step (State.withMig_within s _) rfl) rfl) rfl) rfl

theorem State.migClosed_busy (s : State) : s.migClosed.rd SETT_MIGSTAT.busy 0 = 0 :=
  (State.rd_wr_ne _ _ _ _ rfl).trans ((State.rd_wr_ne _ _ _ _ rfl).trans (State.rd_wr_lt _ 0 (by decide)))

theorem State.migClosed_status (s : State) : s.migClosed.rd SETT_MIGSTAT.status 0 = St.ok :=
  (State.rd_wr_ne _ _ _ _ rfl).trans (State.rd_wr_lt _ 0 (by decide))

theorem State.migHandover_eq (s : State) : s.migHandover = s.migPassed.migClosed.record Ev.ENG_MIGRATED (s.engine s.setts.mig.src).obj
    [s.setts.mig.src, s.setts.mig.dst, (s.engine s.setts.mig.src).obj] := by
  simp only [State.migHandover, State.migClosed, State.migPassed, State.migResumed, State.migFreed, State.withMig]

theorem State.migPassed_engine (s : State) (n : Nat) : s.migPassed.engine n =
    if s.setts.mig.src = n then s.migFreed else if s.setts.mig.dst = n then s.migResumed else s.engine n := by
  rw [State.migPassed, State.clearPriv_engine, State.setEngine_engine, State.setEngine_engine]

theorem State.migPassed_within (s : State) : Within [.engines, .sharedMemory, .settRest] [] s s.migPassed :=
  (((Within.refl _ _ s).step (State.setEngine_within s _ _) rfl).step (State.setEngine_within _ _ _) rfl).step (State.clearPriv_within _ _) rfl

theorem exec_migrationHandover {s : State} {half : Bool} (hup : s.settUp = true) (hbusy : s.bit SETT_MIGSTAT.busy 0 = true)
    (hcopied : s.setts.mig.copied = true) (hb : s.migBoundary (2 * s.tick + half.toNat) = true)
    (hdue : 2 * s.tick + half.toNat = s.setts.mig.half + s.rd SETT_CTL.period (s.setts.mig.src / 32)) :
    exec (.migrationHandover half) s = .next s.migHandover := by
  have hguard : (s.settUp && s.bit SETT_MIGSTAT.busy 0 && s.setts.mig.copied && s.migBoundary (2 * s.tick + half.toNat) &&
      2 * s.tick + half.toNat == s.setts.mig.half + s.rd SETT_CTL.period (s.setts.mig.src / 32)) = true := by
    simp [hup, hbusy, hcopied, hb, ← hdue]
  exact doIf_pos _ _ hguard

theorem migrationHandover_hands_over {s : State} {half : Bool} (hup : s.settUp = true) (hbusy : s.bit SETT_MIGSTAT.busy 0 = true)
    (hcopied : s.setts.mig.copied = true) (hb : s.migBoundary (2 * s.tick + half.toNat) = true) (hne : s.setts.mig.src ≠ s.setts.mig.dst)
    (hdue : 2 * s.tick + half.toNat = s.setts.mig.half + s.rd SETT_CTL.period (s.setts.mig.src / 32)) :
    Records (.migrationHandover half) s Ev.ENG_MIGRATED (s.engine s.setts.mig.src).obj
      [s.setts.mig.src, s.setts.mig.dst, (s.engine s.setts.mig.src).obj] fun u =>
      Touches [.engines, .sharedMemory, .settRest] [SETT_MIGSTAT.busy, SETT_MIGSTAT.status, SETT_MIGSTAT.done] s u ∧
      (u.engine s.setts.mig.src).state = .idle ∧ (u.engine s.setts.mig.src).binds = [] ∧
      (u.engine s.setts.mig.dst).state = (if s.setts.mig.srcStopped then .stopped else .running) ∧
      u.rd SETT_MIGSTAT.busy 0 = 0 ∧ u.rd SETT_MIGSTAT.status 0 = St.ok := by
  have hrun := exec_migrationHandover hup hbusy hcopied hb hdue
  rw [State.migHandover_eq] at hrun
  refine ⟨s.migPassed.migClosed, hrun, ?frame, ?rest⟩
  case frame =>
    have h : Within [.engines, .sharedMemory, .settRest] [1920, 1936, 1951] s s.migPassed.migClosed :=
      ((Within.refl _ _ s).step s.migPassed_within rfl).step (State.migClosed_within _) rfl
    exact h.touches rfl rfl
  case rest =>
    have hsrc : s.migPassed.migClosed.engine s.setts.mig.src = s.migFreed := by
      rw [State.migClosed_engine, State.migPassed_engine, if_pos rfl]
    have hdst : s.migPassed.migClosed.engine s.setts.mig.dst = s.migResumed := by
      rw [State.migClosed_engine, State.migPassed_engine, if_neg hne, if_pos rfl]
    rw [hsrc, hdst]
    exact ⟨rfl, rfl, rfl, State.migClosed_busy _, State.migClosed_status _⟩

/-! ## Enabling, disabling and the period of a sett (R101, R102, R120) -/

theorem settEnable_enables {s : State} (k : Fin 40) (hup : s.settUp = true) :
    Does (.settEnable k) s fun t => Frame [] [(SETT_CTL.enable, k.val), (SETT_STAT.ctl_status, k.val)] s t ∧
      t.rd SETT_CTL.enable k = 1 ∧ t.rd SETT_STAT.ctl_status k = St.ok := by
  refine Does.of_guard rfl hup ⟨?frame, ?enable, ?status⟩
  case frame => exact ((Frame.refl s _ _).wr _ _ _ (by simp)).wr _ _ _ (by simp)
  case enable => exact (State.rd_wr_ne _ _ _ _ rfl).trans (State.rd_wr_lt _ _ (by decide))
  case status => exact State.rd_wr_lt _ _ (by decide)

/-- An engine whose sett's domain has switched off: only its overrun count stays (R55, Table 5-13). -/
def State.clearEngine (s : State) (n : Nat) : State := (s.setEngine n { overruns := (s.engine n).overruns }).wr SETT_ENG_CTL.obj n 0

theorem State.clearEngine_engine (s : State) (n m : Nat) :
    (s.clearEngine n).engine m = if n = m then { overruns := (s.engine n).overruns } else s.engine m :=
  State.setEngine_engine ..

theorem each_clearEngine_engine (l : List Nat) (s : State) (m : Nat) :
    (each l (fun n s => s.clearEngine n) s).engine m = if m ∈ l then { overruns := (s.engine m).overruns } else s.engine m := by
  induction l generalizing s with
  | nil => rfl
  | cons n l ih =>
    rw [each, ih, State.clearEngine_engine]
    by_cases hn : n = m
    · subst hn
      simp
    · simp [hn, Ne.symm hn]

theorem each_clearEngine_stopDue (l : List Nat) (s : State) : (each l (fun n s => s.clearEngine n) s).setts.stopDue = s.setts.stopDue := by
  induction l generalizing s with
  | nil => rfl
  | cons n l ih =>
    rw [each, ih]
    rfl

/-- A sett that is on keeps what it holds. -/
theorem State.settOff_of_on {s : State} {k : Nat} (h : s.settOn k = true) : s.settOff k = s := by
  rw [State.settOff, if_pos h]

/-- What a sett whose domain switches off holds outside its engines. -/
def State.settLost (s : State) (k : Nat) : State :=
  { s with setts := { s.setts with
      shmem := s.setts.shmem.filter (fun e => e.1 / 32768 != k), sharedBad := s.setts.sharedBad.filter (fun e => e.1 / 4096 != k)
      fwWrites := s.setts.fwWrites.filter (fun (w : Nat × Word) => w.1 / 32768 != k), startDue := s.setts.startDue.filter fun n => n / 32 != k } }.settle k

theorem State.settLost_engine (s : State) (k n : Nat) : (s.settLost k).engine n = s.engine n := rfl

theorem State.settLost_stopDue (s : State) (k : Nat) : (s.settLost k).setts.stopDue = s.setts.stopDue := rfl

theorem State.settOff_of_off {s : State} {k : Nat} (h : s.settOn k = false) :
    s.settOff k = (each (settEngines k) (fun n s => s.clearEngine n) s).settLost k := by
  rw [State.settOff, if_neg (by rw [h]; exact Bool.false_ne_true)]
  simp only [State.settLost, State.clearEngine]

theorem State.settOff_engine {s : State} {k : Nat} (h : s.settOn k = false) (n : Nat) :
    (s.settOff k).engine n = if n / 32 = k then { overruns := (s.engine n).overruns } else s.engine n := by
  rw [State.settOff_of_off h, State.settLost_engine, each_clearEngine_engine]
  simp only [mem_settEngines]

theorem State.settOff_stopDue (s : State) (k : Nat) : (s.settOff k).setts.stopDue = s.setts.stopDue := by
  by_cases h : s.settOn k = true
  · rw [State.settOff_of_on h]
  · rw [State.settOff_of_off (Bool.eq_false_iff.mpr h), State.settLost_stopDue]
    exact each_clearEngine_stopDue _ s

/-- A sett whose disabling is under way: it stops at the next boundary. -/
def State.disabling (s : State) (k : Nat) : State :=
  ({ s with setts := { s.setts with stopDue := k :: s.setts.stopDue.filter (· != k) } }.wr SETT_CTL.enable k 0).wr SETT_STAT.ctl_status k St.ok

theorem State.disabling_rd_enable (s : State) (k : Nat) : (s.disabling k).rd SETT_CTL.enable k = 0 :=
  (State.rd_wr_ne _ _ _ _ rfl).trans (State.rd_wr_lt _ _ (by decide))

theorem State.disabling_settOn (s : State) (k : Nat) : (s.disabling k).settOn k = s.someEngine k (· != .idle) := by
  have hoff : (s.disabling k).bit SETT_CTL.enable k = false := by
    rw [State.bit, State.disabling_rd_enable]
    rfl
  rw [State.settOn, hoff, Bool.false_or]
  rfl

theorem execSettDisable_done {s : State} {k : Nat} (hup : s.settUp = true)
    (hown : ∀ n ∈ settEngines k, (s.engine n).state ≠ .idle → s.ownsOnRail (s.engine n) = false) (hmig : s.migrates k = false) :
    execSettDisable k s = .next ((s.disabling k).settOff k) := by
  have hany : (settEngines k).any (fun n => (s.engine n).state != .idle && s.ownsOnRail (s.engine n)) = false := by
    simp only [List.any_eq_false, Bool.and_eq_true, bne_iff_ne]
    rintro n hn ⟨hst, ho⟩
    exact Bool.false_ne_true ((hown n hn hst).symm.trans ho)
  rw [execSettDisable, doIf_pos _ _ hup, hany, hmig]
  rfl

theorem settDisable_refused {s : State} (k : Fin 40) (hup : s.settUp = true)
    (hown : ∃ n ∈ settEngines k, (s.engine n).state ≠ .idle ∧ s.ownsOnRail (s.engine n) = true) :
    Does (.settDisable k) s fun t => Frame [] [(SETT_STAT.ctl_status, k.val)] s t ∧ t.rd SETT_STAT.ctl_status k = St.refusedState := by
  have hany : (settEngines k).any (fun n => (s.engine n).state != .idle && s.ownsOnRail (s.engine n)) = true := by
    simpa only [List.any_eq_true, Bool.and_eq_true, bne_iff_ne] using hown
  have hrun : exec (.settDisable k) s = .next (s.wr SETT_STAT.ctl_status k St.refusedState) := by
    refine (doIf_pos _ _ hup).trans ?_
    rw [hany]
    rfl
  exact ⟨_, hrun, (Frame.refl s _ _).wr _ _ _ (by simp), State.rd_wr_lt _ _ (by decide)⟩

theorem settDisable_done {s : State} (k : Fin 40) (hup : s.settUp = true)
    (hown : ∀ n ∈ settEngines k, (s.engine n).state ≠ .idle → s.ownsOnRail (s.engine n) = false) (hmig : s.migrates k = false) :
    Does (.settDisable k) s fun t =>
      Touches [.engines, .sharedMemory, .settRest] [SETT_CTL.enable, SETT_STAT.ctl_status, SETT_ENG_CTL.obj] s t ∧
      t.rd SETT_CTL.enable k = 0 ∧ t.rd SETT_STAT.ctl_status k = St.ok ∧ k.val ∈ t.setts.stopDue ∧
      (∀ n, n / 32 ≠ k.val → t.engine n = s.engine n) ∧
      ((∀ n ∈ settEngines k, (s.engine n).state = .idle) → ∀ n ∈ settEngines k, (t.engine n).binds = [] ∧ (t.engine n).imem = []) := by
  have hrun := execSettDisable_done hup hown hmig
  have hoff := State.settOff_within (s.disabling k) k
  refine ⟨_, hrun, (execSettDisable_out k s _ hrun).touches rfl rfl, ?enable, ?status, ?due, ?others, ?lost⟩
  case enable => exact (hoff.rd _ _ rfl).trans (s.disabling_rd_enable k)
  case status => exact (hoff.rd _ _ rfl).trans (State.rd_wr_lt _ _ (by decide))
  case due =>
    rw [State.settOff_stopDue]
    exact List.mem_cons_self
  case others =>
    intro n hn
    by_cases hon : (s.disabling k).settOn k = true
    · rw [State.settOff_of_on hon]
      rfl
    · rw [State.settOff_engine (Bool.eq_false_iff.mpr hon), if_neg hn]
      rfl
  case lost =>
    intro hidle n hn
    have hon : (s.disabling k).settOn k = false := by
      rw [State.disabling_settOn, State.someEngine, List.any_eq_false]
      intro m hm
      simp [hidle m hm]
    rw [State.settOff_engine hon, if_pos (mem_settEngines.mp hn)]
    exact ⟨rfl, rfl⟩

theorem periodWrite_writes {s : State} (k : Fin 40) (v : BitVec 8) (hup : s.settUp = true) (h1 : 1 ≤ v.toNat) (h2 : v.toNat ≤ 200)
    (hstill : ∀ n ∈ settEngines k, (s.engine n).state = .idle ∨ (s.engine n).state = .stopped) :
    Does (.periodWrite k v) s fun t => Frame [] [(SETT_CTL.period, k.val)] s t ∧ t.rd SETT_CTL.period k = v.toNat := by
  have hsome : s.someEngine k (fun e => e == .running || e == .faulted || e == .migrating) = false := by
    rw [State.someEngine, List.any_eq_false]
    intro n hn
    obtain h | h := hstill n hn <;> simp [h]
  have hrun : exec (.periodWrite k v) s = .next (s.wr SETT_CTL.period k v.toNat) := by
    refine (doIf_pos _ _ (by simp [hup, hsome])).trans ?_
    rw [State.writeFld_of_range s _ (.inl rfl) ⟨h1, h2⟩]
  exact ⟨_, hrun, (Frame.refl s _ _).wr _ _ _ (by simp), State.rd_wr_lt _ _ v.isLt⟩

/-- Settles O13: `migrationGo_starts`, the copy, the handover, and the commands of a sett. -/
theorem migrationAndEnable : Obligations.MigrationAndEnable :=
  ⟨fun _ _ _ hup hs hd hbusy => ⟨migrationGo_starts hup hs hd hbusy, fun _ => migrationGo_refused hup hs hd hbusy⟩,
    fun _ _ hup hbusy hcopied hb hne htick => migrationCopy_copies hup hbusy hcopied hb hne htick,
    fun _ _ hup hbusy hcopied hb hne hdue => migrationHandover_hands_over hup hbusy hcopied hb hne hdue,
    fun _ k hup => settEnable_enables k hup,
    fun _ k hup => ⟨settDisable_refused k hup, settDisable_done k hup⟩,
    fun _ k v hup h1 h2 hstill => periodWrite_writes k v hup h1 h2 hstill⟩

end Sys2Proof.Machine
end

section
/-!
SUPPORT. Reflex rules (05, R121 to R126): terms, a rule that becomes true and one that stops being true, its latch, and its lock.
-/
namespace Sys2Proof.Machine

/-! ## Terms -/

/-- The three fields of a term. -/
theorem State.writeTerm_of_source (s : State) (r : Nat) (src inv en : Fld) {v : Nat} (h : reservedSource (src.of v) = false) :
    s.writeTerm r src inv en v = ((s.wr src r (src.of v)).wr inv r (inv.of v)).wr en r (en.of v) := by
  rw [State.writeTerm, if_neg (by rw [h]; exact Bool.false_ne_true)]

/-- The write of one of a rule's two term words: two terms of three fields. -/
def State.twoTerms (s : State) (r : Nat) (f0 f1 f2 g0 g1 g2 : Fld) (v : Nat) : State :=
  (((((s.wr f0 r (f0.of v)).wr f1 r (f1.of v)).wr f2 r (f2.of v)).wr g0 r (g0.of v)).wr g1 r (g1.of v)).wr g2 r (g2.of v)

theorem State.twoTerms_frame (s : State) (r : Nat) (f0 f1 f2 g0 g1 g2 : Fld) (v : Nat) :
    Frame [] [(f0, r), (f1, r), (f2, r), (g0, r), (g1, r), (g2, r)] s (s.twoTerms r f0 f1 f2 g0 g1 g2 v) :=
  ((((((Frame.refl s _ _).wr f0 r _ (by simp)).wr f1 r _ (by simp)).wr f2 r _ (by simp)).wr g0 r _ (by simp)).wr g1 r _ (by simp)).wr g2 r _
    (by simp)

/-- Fields of distinct numbers each read what was written last to them. -/
theorem State.twoTerms_rd (s : State) (r : Nat) {f0 f1 f2 g0 g1 g2 : Fld} (v : Nat)
    (hd : ([f0, f1, f2, g0, g1, g2].map (·.code)).Nodup) (hok : ∀ f ∈ [f0, f1, f2, g0, g1, g2], f.code < 16384) :
    ∀ f ∈ [f0, f1, f2, g0, g1, g2], (s.twoTerms r f0 f1 f2 g0 g1 g2 v).rd f r = f.of v := by
  simp only [List.map_cons, List.map_nil, List.nodup_cons, List.mem_cons, List.not_mem_nil, not_or, or_false] at hd
  simp only [List.forall_mem_cons, List.not_mem_nil, false_implies, implies_true, and_true] at hok ⊢
  obtain ⟨h0, h1, h2, h3, h4, h5⟩ := hok
  have hlast (t : State) (f : Fld) : (t.wr f r (f.of v)).rd f r = f.of v := t.rd_wr_of f r v
  have hskip (t : State) {f g : Fld} (hne : f.code ≠ g.code) (hf : f.code < 16384) (hg : g.code < 16384) (w : Nat) :
      (t.wr f r w).rd g r = t.rd g r := t.rd_wr_code f g r r w hne hf hg
  unfold State.twoTerms
  refine ⟨?_, ?_, ?_, ?_, ?_, hlast _ _⟩
  · rw [hskip _ (Ne.symm hd.1.2.2.2.2) h5 h0, hskip _ (Ne.symm hd.1.2.2.2.1) h4 h0, hskip _ (Ne.symm hd.1.2.2.1) h3 h0,
      hskip _ (Ne.symm hd.1.2.1) h2 h0, hskip _ (Ne.symm hd.1.1) h1 h0, hlast]
  · rw [hskip _ (Ne.symm hd.2.1.2.2.2) h5 h1, hskip _ (Ne.symm hd.2.1.2.2.1) h4 h1, hskip _ (Ne.symm hd.2.1.2.1) h3 h1,
      hskip _ (Ne.symm hd.2.1.1) h2 h1, hlast]
  · rw [hskip _ (Ne.symm hd.2.2.1.2.2) h5 h2, hskip _ (Ne.symm hd.2.2.1.2.1) h4 h2, hskip _ (Ne.symm hd.2.2.1.1) h3 h2, hlast]
  · rw [hskip _ (Ne.symm hd.2.2.2.1.2) h5 h3, hskip _ (Ne.symm hd.2.2.2.1.1) h4 h3, hlast]
  · rw [hskip _ (Ne.symm hd.2.2.2.2.1) h5 h4, hlast]

theorem termWrite_writes {s : State} (r : Fin 512) (v : BitVec 32) (hup : s.settUp = true) (hlock : s.bit RFX_ACT.lock r = false)
    (h0 : reservedSource (RFX_TERM01.t0_src.of v.toNat) = false) (h1 : reservedSource (RFX_TERM01.t1_src.of v.toNat) = false) :
    Does (.termWrite r false v) s fun t =>
      Frame [] [(RFX_TERM01.t0_src, r.val), (RFX_TERM01.t0_inv, r.val), (RFX_TERM01.t0_en, r.val), (RFX_TERM01.t1_src, r.val),
        (RFX_TERM01.t1_inv, r.val), (RFX_TERM01.t1_en, r.val)] s t ∧
      ∀ f ∈ [RFX_TERM01.t0_src, RFX_TERM01.t0_inv, RFX_TERM01.t0_en, RFX_TERM01.t1_src, RFX_TERM01.t1_inv, RFX_TERM01.t1_en],
        t.rd f r = f.of v.toNat := by
  have hrun : exec (.termWrite r false v) s = .next (s.twoTerms r RFX_TERM01.t0_src RFX_TERM01.t0_inv RFX_TERM01.t0_en RFX_TERM01.t1_src
      RFX_TERM01.t1_inv RFX_TERM01.t1_en v.toNat) := by
    refine (doIf_pos _ _ (by simp [State.alive_of_settUp hup, hlock])).trans ?_
    rw [if_neg Bool.false_ne_true, State.writeTerm_of_source _ _ _ _ _ h0, State.writeTerm_of_source _ _ _ _ _ h1]
    rfl
  exact ⟨_, hrun, State.twoTerms_frame .., State.twoTerms_rd _ _ _ (by decide) (by decide)⟩

theorem termWrite_writes_high {s : State} (r : Fin 512) (v : BitVec 32) (hup : s.settUp = true) (hlock : s.bit RFX_ACT.lock r = false)
    (h0 : reservedSource (RFX_TERM01.t0_src.of v.toNat) = false) (h1 : reservedSource (RFX_TERM01.t1_src.of v.toNat) = false) :
    Does (.termWrite r true v) s fun t =>
      Frame [] [(RFX_TERM23.t2_src, r.val), (RFX_TERM23.t2_inv, r.val), (RFX_TERM23.t2_en, r.val), (RFX_TERM23.t3_src, r.val),
        (RFX_TERM23.t3_inv, r.val), (RFX_TERM23.t3_en, r.val)] s t ∧
      ∀ f ∈ [RFX_TERM23.t2_src, RFX_TERM23.t2_inv, RFX_TERM23.t2_en, RFX_TERM23.t3_src, RFX_TERM23.t3_inv, RFX_TERM23.t3_en],
        t.rd f r = f.of v.toNat := by
  have hrun : exec (.termWrite r true v) s = .next (s.twoTerms r RFX_TERM23.t2_src RFX_TERM23.t2_inv RFX_TERM23.t2_en RFX_TERM23.t3_src
      RFX_TERM23.t3_inv RFX_TERM23.t3_en v.toNat) := by
    refine (doIf_pos _ _ (by simp [State.alive_of_settUp hup, hlock])).trans ?_
    rw [if_pos rfl, State.writeTerm_of_source (src := RFX_TERM23.t2_src) (h := h0), State.writeTerm_of_source (src := RFX_TERM23.t3_src) (h := h1)]
    rfl
  exact ⟨_, hrun, State.twoTerms_frame .., State.twoTerms_rd _ _ _ (by decide) (by decide)⟩

/-! ## A rule that becomes true -/

/-- The rule is true, in force, latched if it is to, and counted. -/
def State.ruleTaken (s : State) (r : Nat) : State :=
  let s := { s with setts := { s.setts with trueRules := withRule r s.setts.trueRules, activeRules := withRule r s.setts.activeRules } }
  (if s.bit RFX_ACT.latch r then s.wr RFX_STAT.latched r 1 else s).addSat RFX_STAT.fires r 1

/-- What a rule that becomes true does, its records still waiting. -/
def State.fireNow (s : State) (r : Nat) : State :=
  let s := { s with setts := { s.setts with trueRules := withRule r s.setts.trueRules, activeRules := withRule r s.setts.activeRules } }
  let s := if s.bit RFX_ACT.latch r then s.wr RFX_STAT.latched r 1 else s
  let s := (s.addSat RFX_STAT.fires r 1).record Ev.ENG_RFX_FIRE (Src.rule r) [r, s.rd RFX_ACT.wards r, s.actionBits r]
  let s := if s.bit RFX_ACT.freeze r then s.recTrigger 2 r (s.rd REC_CTL.post_ms 0) else s
  s.harpJudge.judgePulls (if s.bit RFX_ACT.ghs r then some (6, Src.rule r) else none)

theorem State.fire_eq (s : State) (r : Nat) : s.fire r = s.inOneCycle fun s => s.fireNow r := rfl

/-- What follows on the rule's being true leaves the rules, the latch and the count. -/
theorem State.fireNow_within (s : State) (r : Nat) :
    Within [.zither, .feed, .harps, .msix, .recorderRest, .burrow, .twin] ([2764, 2781, 3335, 3337, 3339, 3352, 3357, 3742, 3776, 6914] ++
      [8064, 8084, 8092, 8094, 8256, 9152, 9280, 9344, 9408]) (s.ruleTaken r) (s.fireNow r) :=
  have hrec := (Within.refl _ _ (s.ruleTaken r)).step (State.record_within _ _ _ _) rfl
  ((Within.ite (hrec.step (State.recTrigger_within _ _ _ _) rfl) hrec).step (State.harpJudge_within _) rfl).step (State.judgePulls_within _ _) rfl

theorem mem_withRule (r : Nat) (l : List Nat) : r ∈ withRule r l := List.mem_append_right _ List.mem_cons_self

theorem State.ruleTaken_setts (s : State) (r : Nat) : (s.ruleTaken r).setts =
    { s.setts with trueRules := withRule r s.setts.trueRules, activeRules := withRule r s.setts.activeRules } := by
  simp only [State.ruleTaken]
  split <;> rfl

theorem State.ruleTaken_fires (s : State) (r : Nat) : (s.ruleTaken r).rd RFX_STAT.fires r = min (2 ^ 16 - 1) (s.rd RFX_STAT.fires r + 1) := by
  have hlatch (t : State) : (t.wr RFX_STAT.latched r 1).rd RFX_STAT.fires r = t.rd RFX_STAT.fires r := State.rd_wr_ne _ _ _ _ rfl
  refine (State.addSat_rd_same _ _ _ _).trans ?_
  split
  · rw [hlatch]
    rfl
  · rfl

theorem State.ruleTaken_latched {s : State} {r : Nat} (h : s.bit RFX_ACT.latch r = true) : (s.ruleTaken r).rd RFX_STAT.latched r = 1 := by
  have hrule : s.ruleTaken r = (({ s with setts := { s.setts with
      trueRules := withRule r s.setts.trueRules, activeRules := withRule r s.setts.activeRules } } : State).wr RFX_STAT.latched r 1).addSat
        RFX_STAT.fires r 1 := congrArg (fun t : State => t.addSat RFX_STAT.fires r 1) (if_pos h)
  rw [hrule]
  exact (State.rd_wr_ne _ _ _ _ rfl).trans (State.rd_wr_lt _ _ (by decide))

theorem rfxRuleTrue_acts {s : State} (r : Fin 512) (hup : s.settUp = true) (hholds : s.ruleMayHold r = true) (hnew : r.val ∉ s.setts.trueRules) :
    Does (.rfxRuleTrue r) s fun t =>
      Touches [.settRest, .zither, .feed, .harps, .msix, .recorderRest, .burrow, .twin]
        ([RFX_STAT.latched, RFX_STAT.fires, ZIT_GSTAT.abort_cause, ZIT_GSTAT.state, FEED_STAT.gdb, FEED_STAT.gda, FEED_STAT.retry_count,
          FEED_STAT.trip_cause, FEED_STAT.ins_state, HARP_WSTAT.code, HARP_WUPS.ups, REC_STAT.rule, REC_STAT.more, REC_STAT.src,
          REC_STAT.state, REC_TTICK.tick] ++ recBits) s t ∧
      r.val ∈ t.setts.activeRules ∧ r.val ∈ t.setts.trueRules ∧
      t.rd RFX_STAT.fires r = min (2 ^ 16 - 1) (s.rd RFX_STAT.fires r + 1) ∧ (s.bit RFX_ACT.latch r = true → t.rd RFX_STAT.latched r = 1) := by
  have hrun : exec (.rfxRuleTrue r) s = .next (s.fire r) :=
    doIf_pos _ _ (by simp [State.alive_of_settUp hup, hholds, hnew])
  obtain ⟨b, hb⟩ := s.inOneCycle_from fun s => s.fireNow r
  have hfired := (State.fireNow_within { s with burrow := b } r).step hb rfl
  have hsetts := (hfired.setts rfl).trans (State.ruleTaken_setts _ r)
  refine ⟨_, hrun, (execRfxRuleTrue_out r s _ hrun).touches rfl rfl, ?active, ?isTrue, ?fires, fun hlatch => ?latched⟩
  case active =>
    rw [State.fire_eq, hsetts]
    exact mem_withRule _ _
  case isTrue =>
    rw [State.fire_eq, hsetts]
    exact mem_withRule _ _
  case fires => exact (hfired.rd _ _ rfl).trans (State.ruleTaken_fires _ r)
  case latched => exact (hfired.rd _ _ rfl).trans (State.ruleTaken_latched (s := { s with burrow := b }) hlatch)

/-! ## A rule that stops being true, its latch cleared, and its disabling and lock -/

theorem State.releaseRule_not_mem (s : State) (r : Nat) : r ∉ (s.releaseRule r).setts.activeRules := by
  simp [State.releaseRule]

theorem Frame.releaseRule {bs : List Block} {fs : List (Fld × Nat)} {s t : State} (h : Frame bs fs s t) (r : Nat) (hb : .settRest ∈ bs) :
    Frame bs fs s (t.releaseRule r) := h.settRest _ hb rfl rfl

@[simp] theorem State.releaseRule_rd (s : State) (r : Nat) (f : Fld) (i : Nat) : (s.releaseRule r).rd f i = s.rd f i := rfl

/-- A state in which rule `r` is no longer true. -/
def State.ruleFailed (s : State) (r : Nat) : State :=
  { s with setts := { s.setts with trueRules := s.setts.trueRules.filter (· != r) } }

@[simp] theorem State.ruleFailed_rd (s : State) (r : Nat) (f : Fld) (i : Nat) : (s.ruleFailed r).rd f i = s.rd f i := rfl

theorem State.ruleFailed_not_mem (s : State) (r : Nat) : r ∉ (s.ruleFailed r).setts.trueRules := by
  simp [State.ruleFailed]

theorem Frame.ruleFailed {bs : List Block} {fs : List (Fld × Nat)} {s t : State} (h : Frame bs fs s t) (r : Nat) (hb : .settRest ∈ bs) :
    Frame bs fs s (t.ruleFailed r) := h.settRest _ hb rfl rfl

theorem rfxRuleFalse_releases {s : State} (r : Fin 512) (hup : s.settUp = true) (hfail : s.ruleMayFail r = true)
    (hwas : r.val ∈ s.setts.trueRules) :
    Does (.rfxRuleFalse r) s fun t => Frame [.settRest] [] s t ∧ r.val ∉ t.setts.trueRules ∧
      (s.bit RFX_STAT.latched r = false → r.val ∉ t.setts.activeRules) ∧
      (s.bit RFX_STAT.latched r = true → t.setts.activeRules = s.setts.activeRules) := by
  have hrun : exec (.rfxRuleFalse r) s =
      .next (if s.bit RFX_STAT.latched r then s.ruleFailed r else (s.ruleFailed r).releaseRule r) :=
    doIf_pos _ _ (by simp [State.alive_of_settUp hup, hfail, hwas])
  have hframe : Frame [.settRest] [] s (s.ruleFailed r) := (Frame.refl s _ _).ruleFailed _ (by simp)
  by_cases hlatched : s.bit RFX_STAT.latched r = true
  · rw [if_pos hlatched] at hrun
    exact ⟨_, hrun, hframe, s.ruleFailed_not_mem r, fun h => absurd (h.symm.trans hlatched) Bool.false_ne_true, fun _ => rfl⟩
  · rw [if_neg hlatched] at hrun
    exact ⟨_, hrun, hframe.releaseRule _ (by simp), s.ruleFailed_not_mem r, fun _ => State.releaseRule_not_mem _ _, fun h => absurd h hlatched⟩

theorem latchClear_releases {s : State} (r : Fin 512) (hup : s.settUp = true) (hlatched : s.bit RFX_STAT.latched r = true)
    (hfalse : s.stillTrue r = false) :
    Does (.latchClear r) s fun t => Frame [.settRest] [(RFX_STAT.latched, r.val)] s t ∧ t.rd RFX_STAT.latched r = 0 ∧
      r.val ∉ t.setts.activeRules := by
  have hrun : exec (.latchClear r) s = .next ((s.wr RFX_STAT.latched r 0).releaseRule r) := by
    refine (doIf_pos _ _ (by simp [State.alive_of_settUp hup, hlatched, hfalse])).trans ?_
    rw [hfalse]
    rfl
  refine ⟨_, hrun, ((Frame.refl s _ _).wr _ _ _ (by simp)).releaseRule _ (by simp), ?latched, State.releaseRule_not_mem _ _⟩
  case latched =>
    rw [State.releaseRule_rd]
    exact State.rd_wr_lt _ _ (by decide)

theorem latchClear_stands {s : State} (r : Fin 512) (htrue : s.stillTrue r = true) (hlatch : s.bit RFX_ACT.latch r = true) :
    Does (.latchClear r) s (· = s) :=
  Does.of_not_guard rfl (by simp [htrue, hlatch])

theorem ruleDisable_releases {s : State} (r : Fin 512) (hup : s.settUp = true) (hlock : s.bit RFX_ACT.lock r = false) :
    Does (.ruleDisable r) s fun t => Frame [.settRest] [(RFX_ACT.enable, r.val), (RFX_STAT.latched, r.val)] s t ∧
      t.rd RFX_ACT.enable r = 0 ∧ t.rd RFX_STAT.latched r = 0 ∧ r.val ∉ t.setts.activeRules ∧ r.val ∉ t.setts.trueRules := by
  have hrun : exec (.ruleDisable r) s =
      .next ((((s.wr RFX_ACT.enable r 0).wr RFX_STAT.latched r 0).releaseRule r).ruleFailed r) :=
    doIf_pos _ _ (by simp [State.alive_of_settUp hup, hlock])
  refine ⟨_, hrun, ?frame, ?enable, ?latched, ?active, State.ruleFailed_not_mem _ _⟩
  case frame => exact ((((Frame.refl s _ _).wr _ _ _ (by simp)).wr _ _ _ (by simp)).releaseRule _ (by simp)).ruleFailed _ (by simp)
  case enable =>
    rw [State.ruleFailed_rd, State.releaseRule_rd]
    exact (State.rd_wr_ne _ _ _ _ rfl).trans (State.rd_wr_lt _ _ (by decide))
  case latched =>
    rw [State.ruleFailed_rd, State.releaseRule_rd]
    exact State.rd_wr_lt _ _ (by decide)
  case active => exact State.releaseRule_not_mem ((s.wr RFX_ACT.enable r 0).wr RFX_STAT.latched r 0) r

theorem ruleLock_stands {s : State} (r : Fin 512) (hup : s.settUp = true) :
    Does (.ruleLock r) s fun t => Frame [] [(RFX_ACT.lock, r.val)] s t ∧ t.rd RFX_ACT.lock r = 1 :=
  Does.of_guard rfl (State.alive_of_settUp hup) ⟨(Frame.refl s _ _).wr _ _ _ (by simp), State.rd_wr_lt _ _ (by decide)⟩

/-- Settles O14: terms, `rfxRuleTrue_acts` from what `ruleTaken` is and what follows on it, and the commands of a rule. -/
theorem reflexRules : Obligations.ReflexRules :=
  ⟨fun _ r v hup hlock h0 h1 => ⟨termWrite_writes r v hup hlock h0 h1, termWrite_writes_high r v hup hlock h0 h1⟩,
    fun _ r hup hholds hnew => rfxRuleTrue_acts r hup hholds hnew,
    fun _ r hup hfail hwas => rfxRuleFalse_releases r hup hfail hwas,
    fun _ r hup hlatched hfalse => latchClear_releases r hup hlatched hfalse,
    fun _ r _ htrue hlatch => latchClear_stands r htrue hlatch,
    fun _ r hup hlock => ruleDisable_releases r hup hlock,
    fun _ r hup => ruleLock_stands r hup⟩

end Sys2Proof.Machine
end

section
/-!
SUPPORT. Sense channels and meters (04): a domain that is off with a channel enabled, the commands of a meter, and a channel fault.
-/
namespace Sys2Proof.Machine

/-! ## A domain that is off already -/

/-- Channel 0 is enabled and shows a sample, and its domain is off. -/
def offDomainState : State :=
  (({ part := { held := false }, sense := { off := [40] } } : State).wr SNS_CHCFG.enable 0 1).wr SNS_CHSAMP.sample 0 5

theorem offDomainState_disable : ∃ t, exec (.channelConfigWrite 0 0) offDomainState = .next t ∧ t.rd SNS_CHSAMP.sample 0 = 5 := by
  have h : (match exec (.channelConfigWrite 0 0) offDomainState with
    | .next t => t.rd SNS_CHSAMP.sample 0 == 5
    | _ => false) = true := by decide +kernel
  split at h
  case h_1 t ht => exact ⟨t, ht, by simpa using h⟩
  case h_2 => cases h

/-- Refutes O2: disabling the last channel of a domain that is off already leaves the channel's sample. -/
theorem not_channelSettings : ¬ Obligations.ChannelSettings := by
  rintro ⟨-, -, hdisable, -⟩
  obtain ⟨t, hexec, -, -, -, hlost⟩ := hdisable offDomainState 0 0 (by decide) (by decide) (by decide) (by decide) (by decide) (by decide)
    (by decide) (by decide) (by decide) (by decide) (by decide) (by decide +kernel)
  obtain ⟨u, hexec', hsample⟩ := offDomainState_disable
  cases hexec.symm.trans hexec'
  have h0 : t.rd SNS_CHSAMP.sample 0 = 0 := (hlost 0 (by decide +kernel)).1
  rw [hsample] at h0
  cases h0

/-! ## Meters -/

theorem State.setMeter_meter_ne (s : State) {m k : Nat} (x : Meter) (h : k ≠ m) : (s.setMeter m x).meter k = s.meter k := by
  rw [State.setMeter_meter, if_neg h.symm]

theorem State.setMeter_meter_same (s : State) (m : Nat) (x : Meter) : (s.setMeter m x).meter m = x := by
  rw [State.setMeter_meter, if_pos rfl]

theorem meterClear_clears {s : State} (m : Fin 64) (hup : s.settUp = true) (hlock : s.bit SNS_MTR_CFG.lock m = false) :
    Does (.meterClear m) s fun t =>
      Frame [.sense] [(SNS_MTR_EF.ef, m.val), (SNS_MTR_ER.er, m.val), (SNS_MTR_STAT.ef_sat, m.val), (SNS_MTR_STAT.er_sat, m.val)] s t ∧
      t.rd SNS_MTR_EF.ef m = 0 ∧ t.rd SNS_MTR_ER.er m = 0 ∧ t.rd SNS_MTR_STAT.ef_sat m = 0 ∧ t.rd SNS_MTR_STAT.er_sat m = 0 ∧
      (t.meter m).fracF = 0 ∧ (t.meter m).fracR = 0 ∧ (∀ k, k ≠ m.val → t.meter k = s.meter k) ∧
      t.sense.windows = s.sense.windows ∧ t.sense.channels = s.sense.channels := by
  refine Does.of_guard rfl (by simp [hup, hlock]) ⟨?frame, ?ef, ?er, ?efSat, ?erSat, ?fracF, ?fracR, ?others, rfl, rfl⟩
  case frame =>
    exact (((((Frame.refl s _ _).setMeter _ _ (by simp)).wr _ _ _ (by simp)).wr _ _ _ (by simp)).wr _ _ _ (by simp)).wr _ _ _ (by simp)
  case ef =>
    exact (State.rd_wr_ne _ _ _ _ rfl).trans ((State.rd_wr_ne _ _ _ _ rfl).trans ((State.rd_wr_ne _ _ _ _ rfl).trans
      (State.rd_wr_lt _ _ (by decide))))
  case er => exact (State.rd_wr_ne _ _ _ _ rfl).trans ((State.rd_wr_ne _ _ _ _ rfl).trans (State.rd_wr_lt _ _ (by decide)))
  case efSat => exact (State.rd_wr_ne _ _ _ _ rfl).trans (State.rd_wr_lt _ _ (by decide))
  case erSat => exact State.rd_wr_lt _ _ (by decide)
  case fracF => simp
  case fracR => simp
  case others => exact fun k hk => State.setMeter_meter_ne s _ hk

theorem meterPavgUpdate_averages {s : State} (m : Fin 64) (hup : s.settUp = true) (htick : s.tick % 2 ^ s.rd SNS_MTR_CFG.avg_k m = 0)
    (hcount : (s.meter m).count ≠ 0) :
    Does (.meterPavgUpdate m) s fun t => Frame [.sense] [(SNS_MTR_PAVG.pavg, m.val)] s t ∧
      t.rd SNS_MTR_PAVG.pavg m = fit32 (nearest ((s.meter m).sum * 1000) (powerUnit * (s.meter m).count)) % 2 ^ 32 ∧
      (t.meter m).sum = 0 ∧ (t.meter m).count = 0 ∧ (∀ k, k ≠ m.val → t.meter k = s.meter k) := by
  refine Does.of_guard rfl (by simp [hup, htick, hcount]) ⟨?frame, State.rd_wr_same .., ?sum, ?count, ?others⟩
  case frame => exact ((Frame.refl s _ _).setMeter _ _ (by simp)).wr _ _ _ (by simp)
  case sum => simp
  case count => simp
  case others => exact fun k hk => State.setMeter_meter_ne s _ hk

theorem accumulatorLowRead_latches {s : State} (m : Fin 64) (hup : s.settUp = true) :
    (Does (.accumulatorLowRead m false) s fun t => Frame [.sense] [] s t ∧ (t.meter m).upperF = s.rd SNS_MTR_EF.ef m / 2 ^ 32 ∧
      (t.meter m).upperR = (s.meter m).upperR) ∧
    (Does (.accumulatorLowRead m true) s fun t => Frame [.sense] [] s t ∧ (t.meter m).upperR = s.rd SNS_MTR_ER.er m / 2 ^ 32 ∧
      (t.meter m).upperF = (s.meter m).upperF) := by
  constructor
  · refine Does.of_guard rfl hup ⟨(Frame.refl s _ _).setMeter _ _ (by simp), ?_⟩
    simp
  · refine Does.of_guard rfl hup ⟨(Frame.refl s _ _).setMeter _ _ (by simp), ?_⟩
    simp

theorem persistWrite_keeps_meters {s : State} (hup : s.alive = true) (hstage : 2 ≤ s.part.stage) (hhalt : s.burrow.halt = false)
    (hdue : s.burrow.persistAt + 60000000 ≤ s.bootUs) :
    Does .persistWrite s fun t => Frame [.burrow] [] s t ∧ t.burrow.persistOp = s.burrow.opSeconds ∧ t.burrow.persistAt = s.bootUs ∧
      (∀ m, m < 64 → s.bit SNS_MTR_CFG.persist m = true → (m, s.rd SNS_MTR_EF.ef m, s.rd SNS_MTR_ER.er m) ∈ t.burrow.persistMeters) ∧
      t.burrow.flash = s.burrow.flash := by
  refine Does.of_guard rfl (by simp [hup, hstage, hhalt, hdue]) ⟨(Frame.refl s _ _).burrow _ (by simp), rfl, rfl, fun m hm hp => ?_, rfl⟩
  exact List.mem_map.mpr ⟨m, List.mem_filter.mpr ⟨List.mem_range.mpr hm, hp⟩, rfl⟩

/-- Settles O3: the four commands of the meters, and a read of an accumulator's half. -/
theorem meterCommands : Obligations.MeterCommands :=
  ⟨fun _ m hup hlock => meterClear_clears m hup hlock, fun _ m hup _ htick hcount => meterPavgUpdate_averages m hup htick hcount,
    fun _ m hup => accumulatorLowRead_latches m hup, fun _ _ => ⟨rfl, rfl, rfl, rfl⟩,
    fun _ hup hstage hhalt hdue => persistWrite_keeps_meters hup hstage hhalt hdue⟩

/-! ## Channel faults -/

/-- A channel fault shown, before its record. -/
def State.faultShown (s : State) (c kind : Nat) : State := (s.wr SNS_CHSTAT.fault c 1).wr SNS_CHSTAT.fault_kind c kind

/-- A channel fault shown and recorded, with the last good sample kept. -/
def State.faultKept (s : State) (c kind bad : Nat) : State :=
  let t := (s.faultShown c kind).record Ev.INT_CHAN_FAULT Src.sense [c, kind]
  t.setChan c { t.chan c with lastGood := (t.chan c).recent.getD bad (s.rd SNS_CHSAMP.sample c) }

theorem State.faultKept_within (s : State) (c kind bad : Nat) :
    Within [.sense, .msix, .burrow, .zither] recCodes (s.faultShown c kind) (s.faultKept c kind bad) :=
  ((Within.refl _ _ _).step (State.record_within _ _ _ _) rfl).step (State.setChan_within _ _ _) rfl

theorem State.faultKept_chan (s : State) (c kind bad k : Nat) : (s.faultKept c kind bad).chan k =
    if c = k then { s.chan c with lastGood := (s.chan c).recent.getD bad (s.rd SNS_CHSAMP.sample c) } else s.chan k := by
  simp only [State.faultKept, State.setChan_chan, State.record_chan, State.faultShown, State.wr_chan]

theorem channelFault_shows {s : State} (c : Fin 304) (short : Bool) (bad : Fin 3) (hup : s.settUp = true)
    (hen : s.bit SNS_CHCFG.enable c = true) (hfault : s.bit SNS_CHSTAT.fault c = false) (habsent : s.bit SNS_CHSTAT.absent c = false)
    (hspare : 256 ≤ c.val ∨ s.rd (spareFld c) 0 = 0) :
    Does (.channelFault c short bad) s fun t =>
      Touches [.sense, .zither, .msix, .burrow] ([SNS_CALSTAT.general_spares, SNS_CALSTAT.pass_busy, SNS_CALSTAT.quick_spares, SNS_CHSTAT.cal_busy,
        SNS_CHSTAT.fault, SNS_CHSTAT.fault_kind, SNS_CHSTAT.spared, SNS_CHSTAT.stand_in] ++ recBits) s t ∧
      t.rd SNS_CHSTAT.spared c = s.rd SNS_CHSTAT.spared c ∧
      t.rd SNS_CHSTAT.fault c = 1 ∧
      t.rd SNS_CHSTAT.fault_kind c = (if 256 ≤ c.val ∧ c.val < 288 then (if short then 2 else 1) else 3) ∧
      (t.chan c).lastGood = (s.chan c).recent.getD bad (s.rd SNS_CHSAMP.sample c) ∧ (∀ k, k ≠ c.val → t.chan k = s.chan k) := by
  generalize hkind : (if 256 ≤ c.val ∧ c.val < 288 then (if short then 2 else 1) else 3) = kind
  have hsmall : kind < 4 := by
    subst hkind
    (repeat' split) <;> decide
  have hrun : exec (.channelFault c short bad) s = .next (s.faultKept c kind bad).judgeEntries := by
    refine (doIf_pos _ _ (by simp [hup, hen, hfault, habsent])).trans ?_
    rw [if_neg (by omega), hkind]
    rfl
  have hrest := (s.faultKept_within c kind bad).step (State.judgeEntries_within _) rfl
  have hchan (k : Nat) : (s.faultKept c kind bad).judgeEntries.chan k = (s.faultKept c kind bad).chan k := by
    have h := (State.judgeEntries_within (s.faultKept c kind bad)).block .sense rfl
    exact congrArg (fun z : Sense => Tab.get {} z.channels k) h
  refine ⟨_, hrun, (execChannelFault_out c short bad s _ hrun).touches rfl rfl, ?spared, ?fault, ?kind, ?good, fun k hk => ?others⟩
  case spared => exact (hrest.rd _ _ rfl).trans ((State.rd_wr_ne _ _ _ _ rfl).trans (State.rd_wr_ne _ _ _ _ rfl))
  case fault => exact (hrest.rd _ _ rfl).trans ((State.rd_wr_ne _ _ _ _ rfl).trans (State.rd_wr_lt _ _ (by decide)))
  case kind => exact (hrest.rd _ _ rfl).trans (State.rd_wr_lt _ _ hsmall)
  case good => rw [hchan, State.faultKept_chan, if_pos rfl]
  case others => rw [hchan, State.faultKept_chan, if_neg hk.symm]

/-- A spare in place of a channel's converter for good, before the record. -/
def State.sparePlaced (s : State) (c : Nat) : State :=
  let s := (s.setChan c { s.chan c with phase := .idle, attempt := 0 }).wr SNS_CHSTAT.cal_busy c 0
  ((s.wr SNS_CHSTAT.spared c 1).wr SNS_CHSTAT.stand_in c 1).wr (spareFld c) 0 (s.rd (spareFld c) 0 - 1)

theorem State.calSpared_eq (s : State) (c : Nat) : s.calSpared c = (s.sparePlaced c).record Ev.INT_ADC_SPARED Src.sense [c] := rfl

theorem spareFld_eq (c : Nat) : spareFld c = SNS_CALSTAT.quick_spares ∨ spareFld c = SNS_CALSTAT.general_spares := by
  unfold spareFld
  split
  · exact .inl rfl
  · exact .inr rfl

theorem State.sparePlaced_frame (s : State) (c : Nat) :
    Frame [.sense] [(SNS_CHSTAT.spared, c), (SNS_CHSTAT.stand_in, c), (SNS_CHSTAT.cal_busy, c), (spareFld c, 0)] s (s.sparePlaced c) :=
  (((((Frame.refl s _ _).setChan c _ (by simp)).wr SNS_CHSTAT.cal_busy c 0 (by simp)).wr SNS_CHSTAT.spared c 1 (by simp)).wr
    SNS_CHSTAT.stand_in c 1 (by simp)).wr (spareFld c) 0 _ (by simp)

/-- The pool's count is none of a channel's status fields. -/
theorem State.rd_wr_spareFld (s : State) (c v i : Nat) {f : Fld} (h : (decide (SNS_CALSTAT.quick_spares.code ≠ f.code) && f.ok) = true)
    (h' : (decide (SNS_CALSTAT.general_spares.code ≠ f.code) && f.ok) = true) : (s.wr (spareFld c) 0 v).rd f i = s.rd f i := by
  simp only [Bool.and_eq_true, decide_eq_true_eq] at h h'
  obtain hs | hs := spareFld_eq c
  · rw [hs]
    exact State.rd_wr_ne _ _ _ _ (by simp only [Bool.and_eq_true, decide_eq_true_eq]; exact ⟨⟨h.1, rfl⟩, h.2⟩)
  · rw [hs]
    exact State.rd_wr_ne _ _ _ _ (by simp only [Bool.and_eq_true, decide_eq_true_eq]; exact ⟨⟨h'.1, rfl⟩, h'.2⟩)

theorem State.rd_spareFld_setChan (s : State) (c : Nat) (x : Channel) : ((s.setChan c x).wr SNS_CHSTAT.cal_busy c 0).rd (spareFld c) 0 =
    s.rd (spareFld c) 0 := by
  obtain hs | hs := spareFld_eq c
  · rw [hs]
    exact State.rd_wr_ne _ _ _ _ rfl
  · rw [hs]
    exact State.rd_wr_ne _ _ _ _ rfl

theorem channelFault_takes_spare {s : State} (c : Fin 304) (short : Bool) (bad : Fin 3) (hup : s.settUp = true)
    (hen : s.bit SNS_CHCFG.enable c = true) (hfault : s.bit SNS_CHSTAT.fault c = false) (habsent : s.bit SNS_CHSTAT.absent c = false)
    (hc : c.val < 256) (hspare : s.rd (spareFld c) 0 ≠ 0) :
    Then (.channelFault c short bad) s (·.calRun (20 * s.bootUs)) fun v => ∃ u, v = u.record Ev.INT_ADC_SPARED Src.sense [c.val] ∧
      Frame [.sense] [(SNS_CHSTAT.spared, c.val), (SNS_CHSTAT.stand_in, c.val), (SNS_CHSTAT.cal_busy, c.val), (spareFld c, 0)] s u ∧
      u.rd SNS_CHSTAT.spared c = 1 ∧ u.rd SNS_CHSTAT.stand_in c = 1 ∧ u.rd SNS_CHSTAT.fault c = s.rd SNS_CHSTAT.fault c ∧
      u.rd (spareFld c) 0 = (s.rd (spareFld c) 0 - 1) % 2 ^ (spareFld c).width := by
  have hrun : exec (.channelFault c short bad) s = .next ((s.calSpared c).calRun (20 * s.bootUs)) := by
    refine (doIf_pos _ _ (by simp [hup, hen, hfault, habsent])).trans ?_
    rw [if_pos ⟨hc, hspare⟩]
  refine ⟨s.calSpared c, hrun, s.sparePlaced c, s.calSpared_eq c, s.sparePlaced_frame c, ?spared, ?standIn, ?fault, ?pool⟩
  case spared => exact (State.rd_wr_spareFld _ _ _ _ rfl rfl).trans ((State.rd_wr_ne _ _ _ _ rfl).trans (State.rd_wr_lt _ _ (by decide)))
  case standIn => exact (State.rd_wr_spareFld _ _ _ _ rfl rfl).trans (State.rd_wr_lt _ _ (by decide))
  case fault =>
    exact (State.rd_wr_spareFld _ _ _ _ rfl rfl).trans ((State.rd_wr_ne _ _ _ _ rfl).trans ((State.rd_wr_ne _ _ _ _ rfl).trans
      (State.rd_wr_ne _ _ _ _ rfl)))
  case pool => exact (State.rd_wr_same _ _ _ _).trans (by rw [State.rd_spareFld_setChan])

theorem channelFaultClear_clears {s : State} (c : Fin 304) (hup : s.settUp = true) (hfault : s.bit SNS_CHSTAT.fault c = true) :
    Does (.channelFaultClear c) s fun t => Touches [.zither] [SNS_CHSTAT.fault, SNS_CHSTAT.fault_kind] s t ∧
      t.rd SNS_CHSTAT.fault c = 0 ∧ t.rd SNS_CHSTAT.fault_kind c = 0 := by
  have hrun : exec (.channelFaultClear c) s = .next ((s.wr SNS_CHSTAT.fault c 0).wr SNS_CHSTAT.fault_kind c 0).judgeEntries :=
    doIf_pos _ _ (by simp [hup, hfault])
  have hjudge := State.judgeEntries_within ((s.wr SNS_CHSTAT.fault c 0).wr SNS_CHSTAT.fault_kind c 0)
  refine ⟨_, hrun, (execChannelFaultClear_out c s _ hrun).touches rfl rfl, ?fault, ?kind⟩
  case fault => exact (hjudge.rd _ _ rfl).trans ((State.rd_wr_ne _ _ _ _ rfl).trans (State.rd_wr_lt _ _ (by decide)))
  case kind => exact (hjudge.rd _ _ rfl).trans (State.rd_wr_lt _ _ (by decide))

/-- Settles O6: a fault shown, a spare taken, and a fault cleared. -/
theorem channelFaults : Obligations.ChannelFaults :=
  ⟨fun _ c short bad hup hen hfault habsent hspare => channelFault_shows c short bad hup hen hfault habsent hspare,
    fun _ c short bad hup hen hfault habsent hc hspare => channelFault_takes_spare c short bad hup hen hfault habsent hc hspare,
    fun _ c hup hfault => channelFaultClear_clears c hup hfault⟩

end Sys2Proof.Machine
end

section
/-!
SUPPORT. SAMPLE_WORD (04): what the arrival of one channel's result shows, and that neither the other channels' results nor the other consumers
change it.
-/
namespace Sys2Proof.Machine

/-- The numbers of a window's level fields. -/
def levelCodes : List Nat := [576, 577, 578, 579]

/-- A channel that can be found absent is, or is not. -/
def State.judgedAbsent (s : State) (c : Nat) (r : SampleRead) : State :=
  if decide (256 ≤ c ∧ c < 288) then s.markAbsent c (r == .absent && !s.criticalChan c) else s

/-- A channel's result before its windows judge it. -/
def State.arriveShown (s : State) (c ap : Nat) (r : SampleRead) : State :=
  let t := s.judgedAbsent c r
  let w := t.deliveredWord c (wordOf c r).1
  let t := if ((wordOf c r).2 && !t.bit SNS_CHSTAT.absent c) || (decide (256 ≤ c ∧ c < 288) && t.bit SNS_CHSTAT.fault c) then
    t.wr SNS_CHSTAT.overrange c 1 else t
  ((t.setChan c { t.chan c with ap, recent := (w :: (t.chan c).recent).take 3 }).wr SNS_CHSAMP.sample c w).wr SNS_CHSAMP.aperture c ap

theorem State.arrive_eq (s : State) (c ap : Nat) (r : SampleRead) :
    s.arrive c ap r = (s.arriveShown c ap r).judgeWindows c ((s.judgedAbsent c r).deliveredWord c (wordOf c r).1) := rfl

theorem Frame.ite {bs : List Block} {fs : List (Fld × Nat)} {s t u : State} {p : Prop} [Decidable p] (ht : Frame bs fs s t)
    (hu : Frame bs fs s u) : Frame bs fs s (if p then t else u) := by
  split
  · exact ht
  · exact hu

/-- The fields that a channel's result may change, but its windows' levels. -/
def shownFlds (c : Nat) : List (Fld × Nat) :=
  [(SNS_CHSTAT.absent, c), (SNS_CHSTAT.fault, c), (SNS_CHSTAT.fault_kind, c), (SNS_CHSTAT.overrange, c), (SNS_CHSAMP.sample, c),
    (SNS_CHSAMP.aperture, c)]

theorem State.judgedAbsent_frame (s : State) (c : Nat) (r : SampleRead) : Frame [.sense] (shownFlds c) s (s.judgedAbsent c r) := by
  have habsent (b : Bool) : Frame [.sense] (shownFlds c) s (s.wrBit SNS_CHSTAT.absent c b) := (Frame.refl s _ _).wr _ _ _ (by simp [shownFlds])
  exact Frame.ite (Frame.ite (((habsent _).wr _ _ _ (by simp [shownFlds])).wr _ _ _ (by simp [shownFlds])) (habsent _)) (Frame.refl s _ _)

theorem State.arriveShown_frame (s : State) (c ap : Nat) (r : SampleRead) : Frame [.sense] (shownFlds c) s (s.arriveShown c ap r) := by
  have h := s.judgedAbsent_frame c r
  exact (((Frame.ite (h.wr SNS_CHSTAT.overrange c 1 (by simp [shownFlds])) h).setChan c _ (by simp)).wr SNS_CHSAMP.sample c _
    (by simp [shownFlds])).wr SNS_CHSAMP.aperture c _ (by simp [shownFlds])

/-- The fields of a channel's other than its windows' levels are as its result shows them. -/
theorem State.arrive_rd_shown (s : State) (c ap : Nat) (r : SampleRead) (i : Nat) {f : Fld} (hf : (!levelCodes.contains f.code && f.ok) = true) :
    (s.arrive c ap r).rd f i = (s.arriveShown c ap r).rd f i := by
  rw [State.arrive_eq]
  exact (State.judgeWindows_within _ _ _).rd f i hf

/-- A channel's result leaves the fields of every other channel. -/
theorem State.arrive_rd_other (s : State) {c d : Nat} (ap : Nat) (r : SampleRead) (hd : c ≠ d) {f : Fld}
    (hf : (!levelCodes.contains f.code && f.ok) = true) : (s.arrive c ap r).rd f d = s.rd f d := by
  rw [State.arrive_rd_shown _ _ _ _ _ hf]
  simp only [Bool.and_eq_true, Fld.ok, decide_eq_true_eq] at hf
  have hkey {g : Fld} (hg : g.code < 16384) : g.key c ≠ f.key d := by
    have := hf.2
    simp only [Fld.key]
    omega
  refine (s.arriveShown_frame c ap r).2 f d ?_
  simp only [shownFlds, List.forall_mem_cons, List.not_mem_nil, false_implies, implies_true, and_true]
  exact ⟨hkey (by decide), hkey (by decide), hkey (by decide), hkey (by decide), hkey (by decide), hkey (by decide)⟩

/-! ## What a result shows -/

theorem State.arrive_aperture (s : State) (c ap : Nat) (r : SampleRead) : (s.arrive c ap r).rd SNS_CHSAMP.aperture c = ap % 65536 :=
  (s.arrive_rd_shown c ap r c rfl).trans (State.rd_wr_same ..)

theorem State.arrive_sample (s : State) (c ap : Nat) (r : SampleRead) :
    (s.arrive c ap r).rd SNS_CHSAMP.sample c = (s.judgedAbsent c r).deliveredWord c (wordOf c r).1 % 65536 :=
  (s.arrive_rd_shown c ap r c rfl).trans ((State.rd_wr_ne _ _ _ _ rfl).trans (State.rd_wr_same ..))

theorem State.rd_ite_wr_ne (s : State) {p : Prop} [Decidable p] {f g : Fld} (i v : Nat)
    (h : (decide (f.code ≠ g.code) && f.ok && g.ok) = true) : (if p then s.wr f i v else s).rd g i = s.rd g i := by
  split
  · exact State.rd_wr_ne _ _ _ _ h
  · rfl

/-- The fields of a judgement of absence stay. -/
theorem State.arrive_judged (s : State) (c ap : Nat) (r : SampleRead) {f : Fld} (hf : (!levelCodes.contains f.code && f.ok) = true)
    (h1 : (decide (SNS_CHSAMP.aperture.code ≠ f.code) && SNS_CHSAMP.aperture.ok && f.ok) = true)
    (h2 : (decide (SNS_CHSAMP.sample.code ≠ f.code) && SNS_CHSAMP.sample.ok && f.ok) = true)
    (h3 : (decide (SNS_CHSTAT.overrange.code ≠ f.code) && SNS_CHSTAT.overrange.ok && f.ok) = true) :
    (s.arrive c ap r).rd f c = (s.judgedAbsent c r).rd f c := by
  refine (s.arrive_rd_shown c ap r c hf).trans ((State.rd_wr_ne _ _ _ _ h1).trans ((State.rd_wr_ne _ _ _ _ h2).trans ?_))
  exact State.rd_ite_wr_ne _ _ _ h3

theorem State.judgedAbsent_of_present (s : State) {c : Nat} (r : SampleRead) (h : c < 256 ∨ 288 ≤ c) : s.judgedAbsent c r = s :=
  if_neg (by simp; omega)

theorem State.judgedAbsent_of_absent {s : State} {c : Nat} (h1 : 256 ≤ c) (h2 : c < 288) (hcrit : s.criticalChan c = false) :
    s.judgedAbsent c .absent = ((s.wrBit SNS_CHSTAT.absent c true).wr SNS_CHSTAT.fault c 0).wr SNS_CHSTAT.fault_kind c 0 := by
  rw [State.judgedAbsent, if_pos (by simp; omega), hcrit]
  rfl

theorem State.deliveredWord_good {s : State} {c : Nat} (w : Nat) (habsent : s.bit SNS_CHSTAT.absent c = false)
    (hfault : s.bit SNS_CHSTAT.fault c = false) : s.deliveredWord c w = w := by
  simp [State.deliveredWord, habsent, hfault]

theorem State.deliveredWord_quick_faulted {s : State} {c : Nat} (w : Nat) (habsent : s.bit SNS_CHSTAT.absent c = false)
    (hfault : s.bit SNS_CHSTAT.fault c = true) (hc : c < 64) : s.deliveredWord c w = 0x8000 := by
  simp [State.deliveredWord, habsent, hfault, hc]

theorem State.deliveredWord_general_faulted {s : State} {c : Nat} (w : Nat) (habsent : s.bit SNS_CHSTAT.absent c = false)
    (hfault : s.bit SNS_CHSTAT.fault c = true) (h1 : 64 ≤ c) (h2 : c < 256) : s.deliveredWord c w = 0 := by
  simp [State.deliveredWord, habsent, hfault, Nat.not_lt.mpr h1, h2]

theorem State.deliveredWord_absent {s : State} {c : Nat} (w : Nat) (habsent : s.bit SNS_CHSTAT.absent c = true) :
    s.deliveredWord c w = 0x7FFF := by
  simp [State.deliveredWord, habsent]

/-! ## Results of many channels -/

/-- Two states show the same of channel `c` and of the straps, but for its windows' levels. -/
def SameChan (c : Nat) (s t : State) : Prop :=
  t.part = s.part ∧ ∀ f : Fld, (!levelCodes.contains f.code && f.ok) = true → t.rd f c = s.rd f c

theorem SameChan.refl (c : Nat) (s : State) : SameChan c s s := ⟨rfl, fun _ _ => rfl⟩

theorem SameChan.trans {c : Nat} {s t u : State} (h : SameChan c s t) (h' : SameChan c t u) : SameChan c s u :=
  ⟨h'.1.trans h.1, fun f hf => (h'.2 f hf).trans (h.2 f hf)⟩

theorem sameChan_arrive (s : State) {c d : Nat} (ap : Nat) (r : SampleRead) (hd : c ≠ d) : SameChan d s (s.arrive c ap r) :=
  ⟨(State.arrive_within s c ap r).block .part rfl, fun _ hf => s.arrive_rd_other ap r hd hf⟩

theorem sameChan_each_arrive (l : List (Fin 304 × SampleRead)) (s : State) {c : Fin 304} (ap : Nat) (h : c ∉ l.map (·.1)) :
    SameChan c s (each l (fun e s => s.arrive e.1 ap e.2) s) := by
  induction l generalizing s with
  | nil => exact SameChan.refl _ s
  | cons e l ih =>
    simp only [List.map_cons, List.mem_cons, not_or] at h
    exact (sameChan_arrive s ap e.2 (fun he => h.1 (Fin.ext he.symm))).trans (ih _ h.2)

/-- Of results of distinct channels, each shows what it would alone. -/
theorem each_arrive_shows (l : List (Fin 304 × SampleRead)) (s : State) {c : Fin 304} {r : SampleRead} (ap : Nat) (hl : (l.map (·.1)).Nodup)
    (hm : (c, r) ∈ l) : ∃ u, SameChan c s u ∧ SameChan c (u.arrive c ap r) (each l (fun e s => s.arrive e.1 ap e.2) s) := by
  induction l generalizing s with
  | nil => cases hm
  | cons e l ih =>
    obtain ⟨hnot, hl⟩ := List.nodup_cons.mp hl
    obtain rfl | hm := List.mem_cons.mp hm
    · exact ⟨s, SameChan.refl _ s, sameChan_each_arrive l _ ap hnot⟩
    · have hne : e.1.val ≠ c.val := fun he => hnot (List.mem_map.mpr ⟨_, hm, (Fin.ext he).symm⟩)
      obtain ⟨u, hsu, hu⟩ := ih (s.arrive e.1 ap e.2) hl hm
      exact ⟨u, (sameChan_arrive s ap e.2 hne).trans hsu, hu⟩

/-- What every consumer then does of the results of one aperture. -/
def State.consume (s : State) (l : List (Fin 304 × SampleRead)) (ap : Nat) (was : Bool × Bool × Bool) : State :=
  each l (fun e s => s.fanOut e.1 ap was) (each l (fun e s => s.collectEdges e.1) s).judgeEntries

theorem State.consume_within (s : State) (l : List (Fin 304 × SampleRead)) (ap : Nat) (was : Bool × Bool × Bool) :
    Within [.sense, .engines, .zither, .feed, .marten, .cooling, .msix, .hostRest, .hbm, .recorderRest, .burrow, .twin]
      ([832, 833, 896, 1024, 1088, 2764, 2781, 3335, 3337, 3339, 3352, 3357, 3392, 4831] ++ [4864, 5888, 5916, 5918, 6914, 9152, 9280, 9344,
        9408]) s (s.consume l ap was) :=
  Within.each l _ ((Within.each l _ (Within.refl _ _ s) fun _ _ _ hu => hu.step (State.collectEdges_within _ _) rfl).step
    (State.judgeEntries_within _) rfl) fun _ _ _ hu => hu.step (State.fanOut_within _ _ _ _) rfl

theorem sampleWord_shows {s : State} (sub : Fin 20) {words : List (Fin 304 × SampleRead)} (hup : s.settUp = true)
    (hwords : (words.map (·.1)).Nodup) : ∃ t, exec (.sampleWord sub words) s = .next t ∧
      ∀ (c : Fin 304) (r : SampleRead), (c, r) ∈ words → s.hasResult sub (c, r) = true →
        ∃ u, SameChan c s u ∧ (t.rd SNS_CHSAMP.aperture c = (u.arrive c (s.tick * 20 + sub) r).rd SNS_CHSAMP.aperture c ∧
          t.rd SNS_CHSAMP.sample c = (u.arrive c (s.tick * 20 + sub) r).rd SNS_CHSAMP.sample c ∧
          t.rd SNS_CHSTAT.absent c = (u.arrive c (s.tick * 20 + sub) r).rd SNS_CHSTAT.absent c ∧
          t.rd SNS_CHSTAT.fault c = (u.arrive c (s.tick * 20 + sub) r).rd SNS_CHSTAT.fault c) := by
  generalize hap : s.tick * 20 + sub.val = ap
  generalize hmine : words.filter (s.hasResult sub) = mine
  generalize hwas : (s.flev 0 0, s.flev 0 1, s.flev 1 2) = was
  have hrun : exec (.sampleWord sub words) s =
      .next (s.inOneCycle fun s => (each mine (fun e s => s.arrive e.1 ap e.2) s).consume mine ap was) := by
    subst hap hmine hwas
    exact doIf_pos _ _ hup
  refine ⟨_, hrun, fun c r hm hres => ?_⟩
  obtain ⟨b, hb⟩ := s.inOneCycle_from fun s => (each mine (fun e s => s.arrive e.1 ap e.2) s).consume mine ap was
  have hnodup : (mine.map (·.1)).Nodup := by
    subst hmine
    exact (List.filter_sublist.map _).nodup hwords
  have hmem : (c, r) ∈ mine := by
    subst hmine
    exact List.mem_filter.mpr ⟨hm, hres⟩
  obtain ⟨u, hsu, hu⟩ := each_arrive_shows mine { s with burrow := b } ap hnodup hmem
  have hcons := (State.consume_within (each mine (fun e s => s.arrive e.1 ap e.2) { s with burrow := b }) mine ap was).step hb rfl
  exact ⟨u, hsu, (hcons.rd _ _ rfl).trans (hu.2 _ rfl), (hcons.rd _ _ rfl).trans (hu.2 _ rfl), (hcons.rd _ _ rfl).trans (hu.2 _ rfl),
    (hcons.rd _ _ rfl).trans (hu.2 _ rfl)⟩

theorem State.hasResult_of {s : State} {sub : Fin 20} {c : Fin 304} {r : SampleRead} (hen : s.bit SNS_CHCFG.enable c = true)
    (hdue : c.val < 64 ∨ c.val < 256 ∧ sub.val = 0 ∨ sub.val = 0 ∧ s.tick % 1000 = 0) (hr : r ≠ .absent ∨ 256 ≤ c.val ∧ c.val < 288) :
    s.hasResult sub (c, r) = true := by
  simp only [State.hasResult, hen, Bool.and_eq_true, Bool.or_eq_true, decide_eq_true_eq, beq_iff_eq, bne_iff_ne, true_and]
  refine ⟨?_, hr⟩
  rcases hdue with h | ⟨h, hsub⟩ | ⟨hsub, h⟩
  · exact .inl h
  · exact .inr ⟨hsub, .inl h⟩
  · exact .inr ⟨hsub, .inr h⟩

theorem wordOf_above (c : Nat) : wordOf c .above = (32767, true) := rfl

theorem wordOf_below (c : Nat) :
    wordOf c .below = (if c < 64 then 32768 else if c < 256 then 0 else if c < 288 then 60416 else 12288, true) := by
  change (low 16 (if c < 64 then -32768 else if c < 256 then 0 else if c < 288 then -5120 else 12288), true) = _
  by_cases hquick : c < 64
  · rw [if_pos hquick, if_pos hquick]
    rfl
  rw [if_neg hquick, if_neg hquick]
  by_cases hgeneral : c < 256
  · rw [if_pos hgeneral, if_pos hgeneral]
    rfl
  rw [if_neg hgeneral, if_neg hgeneral]
  by_cases hdiode : c < 288
  · rw [if_pos hdiode, if_pos hdiode]
    rfl
  · rw [if_neg hdiode, if_neg hdiode]
    rfl

theorem wordOf_quick (w : BitVec 16) : wordOf 0 (.code w) = (w.toNat, false) := by
  have htop : ¬ (32767 : Int) < w.toInt := by have := w.toInt_lt; omega
  have hlow : ¬ w.toInt < -32768 := by have := w.le_toInt; omega
  simp [wordOf, htop, hlow]

theorem wordOf_general {w : BitVec 16} (h : w.toNat ≤ 32767) : wordOf 64 (.code w) = (w.toNat, false) := by
  have htop : ¬ (32767 : Int) < w.toNat := by omega
  have hlow : ¬ (w.toNat : Int) < 0 := by omega
  simp [wordOf, htop, hlow]

/-- Settles O5: `sampleWord_shows` for every result, by the arrival of a channel's own. -/
theorem sampleDelivery : Obligations.SampleDelivery := by
  refine ⟨fun s sub words hup hwords => ?_, fun c => ⟨wordOf_above c, wordOf_below c⟩, fun w => ⟨wordOf_quick w, wordOf_general⟩⟩
  obtain ⟨t, hrun, hshow⟩ := sampleWord_shows sub hup hwords
  refine ⟨t, hrun, (execSampleWord_out sub words s t hrun).touches rfl rfl, fun c r hm hen hdue hr => ?_⟩
  obtain ⟨u, ⟨hpart, hsame⟩, haperture, hsample, habsent, hfault⟩ := hshow c r hm (State.hasResult_of hen hdue hr)
  rw [haperture, hsample, habsent, hfault, State.arrive_sample]
  refine ⟨State.arrive_aperture _ _ _ _, fun hc hpresent => ?present, fun h1 h2 hgone hcrit => ?gone⟩
  case present =>
    have hpresent' : u.bit SNS_CHSTAT.absent c = false := by rw [State.bit, hsame _ rfl]; exact hpresent
    have hfault' : u.bit SNS_CHSTAT.fault c = s.bit SNS_CHSTAT.fault c := by rw [State.bit, hsame _ rfl]; rfl
    rw [State.judgedAbsent_of_present _ _ hc]
    refine ⟨fun hf => ?_, fun hf h => ?_, fun hf h1 h2 => ?_⟩
    · rw [State.deliveredWord_good _ hpresent' (hfault'.trans hf)]
    · rw [State.deliveredWord_quick_faulted _ hpresent' (hfault'.trans hf) h]
    · rw [State.deliveredWord_general_faulted _ hpresent' (hfault'.trans hf) h1 h2]
  case gone =>
    subst hgone
    have hcrit' : u.criticalChan c = false := by rw [State.criticalChan, hpart]; exact hcrit
    have hbit : (u.judgedAbsent c .absent).rd SNS_CHSTAT.absent c = 1 := by
      rw [State.judgedAbsent_of_absent h1 h2 hcrit']
      exact (State.rd_wr_ne _ _ _ _ rfl).trans ((State.rd_wr_ne _ _ _ _ rfl).trans (State.rd_wr_lt _ _ (by decide)))
    refine ⟨?_, (State.arrive_judged _ _ _ _ rfl rfl rfl rfl).trans hbit, (State.arrive_judged _ _ _ _ rfl rfl rfl rfl).trans ?_⟩
    · rw [State.deliveredWord_absent _ (by rw [State.bit, hbit]; rfl)]
    · rw [State.judgedAbsent_of_absent h1 h2 hcrit']
      exact (State.rd_wr_ne _ _ _ _ rfl).trans (State.rd_wr_lt _ _ (by decide))

end Sys2Proof.Machine
end

section
/-!
SUPPORT. The zither sequencer (07): what its checks read, all-OFF, a power-down, an abort and the start of a run.
-/
namespace Sys2Proof.Machine

/-! ## What the sequencer reads of the table -/

/-- The fields that say which entries a group has. -/
def groupFlds : List Fld := [ZIT_EW0.valid, ZIT_EW0.group]

/-- The fields that the checks of Table 7-5 read. -/
def checkFlds : List Fld :=
  [ZIT_EW0.valid, ZIT_EW0.group, ZIT_EW0.en, ZIT_EW0.pg_src, ZIT_EW0.win_chan, ZIT_EW0.win_w, ZIT_EW3.dep0_en, ZIT_EW3.dep0, ZIT_EW3.dep1_en,
    ZIT_EW3.dep1, SNS_CHCFG.enable, ZIT_GSTAT.off_stuck]

theorem Within.rd_fun {bs : List Block} {cs : List Nat} {s t : State} (h : Within bs cs s t) {f : Fld}
    (hf : (!cs.contains f.code && f.ok) = true) : t.rd f = s.rd f := funext fun i => h.rd f i hf

theorem Within.bit_fun {bs : List Block} {cs : List Nat} {s t : State} (h : Within bs cs s t) {f : Fld}
    (hf : (!cs.contains f.code && f.ok) = true) : t.bit f = s.bit f := funext fun i => congrArg (· != 0) (h.rd f i hf)

section
variable {bs : List Block} {cs : List Nat} {s t : State}

theorem Within.inGroup (h : Within bs cs s t) (hc : groupFlds.all (fun f => !cs.contains f.code && f.ok) = true) : t.inGroup = s.inGroup := by
  simp only [groupFlds, List.all_cons, List.all_nil, Bool.and_true, Bool.and_eq_true (a := _ && _)] at hc
  funext g k
  simp only [State.inGroup, State.bit, h.rd_fun hc.1, h.rd_fun hc.2]

theorem Within.groupEntries (h : Within bs cs s t) (hc : groupFlds.all (fun f => !cs.contains f.code && f.ok) = true) (g : Nat) :
    t.groupEntries g = s.groupEntries g := by
  simp only [State.groupEntries, h.inGroup hc]

/-- The checks of a group read only the table, the windows and the stuck mark. -/
theorem Within.groupCheck (h : Within bs cs s t) (hb : bs.contains .sense = false)
    (hc : checkFlds.all (fun f => !cs.contains f.code && f.ok) = true) (g : Nat) : t.groupCheck g = s.groupCheck g := by
  simp only [checkFlds, List.all_cons, List.all_nil, Bool.and_true, Bool.and_eq_true (a := _ && _)] at hc
  obtain ⟨hvalid, hgroup, hen, hsrc, hchan, hw, h0e, h0, h1e, h1, henable, hstuck⟩ := hc
  have hsense : t.sense = s.sense := h.block .sense hb
  have hactive : t.active = s.active := by
    funext x
    simp only [State.active, State.win, hsense]
  have hin : t.inGroup = s.inGroup := by
    funext g k
    simp only [State.inGroup, State.bit, h.rd_fun hvalid, h.rd_fun hgroup]
  have hdeps : t.deps = s.deps := by
    funext k
    rw [State.deps, State.deps, h.bit_fun h0e, h.rd_fun h0, h.bit_fun h1e, h.rd_fun h1]
  have hstuckDeps (n : Nat) (l : List Nat) : t.stuckDeps n l = s.stuckDeps n l := by
    induction n generalizing l with
    | zero => rfl
    | succ n ih => rw [State.stuckDeps, State.stuckDeps, hdeps, ih]
  have hwindow : t.entryWindow = s.entryWindow := by
    funext k
    rw [State.entryWindow, State.entryWindow, h.rd_fun hchan, h.rd_fun hw]
  unfold State.groupCheck State.groupEntries
  rw [hin, hdeps, hactive, hwindow, h.bit_fun hvalid, h.rd_fun hen, h.rd_fun hsrc, h.rd_fun hchan, h.bit_fun henable, h.bit_fun hstuck]
  dsimp only
  rw [hstuckDeps]

theorem Within.gstate (h : Within bs cs s t) (hc : (!cs.contains 2781) = true) (g : Nat) : t.gstate g = s.gstate g :=
  h.rd ZIT_GSTAT.state g (by rw [Bool.and_eq_true]; exact ⟨hc, rfl⟩)

end

/-! ## All-OFF -/

theorem Within.zent {bs : List Block} {cs : List Nat} {s t : State} (h : Within bs cs s t) (hb : bs.contains .zither = false) (k : Nat) :
    t.zent k = s.zent k := by
  have hz : t.zither = s.zither := h.block .zither hb
  rw [State.zent, State.zent, hz]

theorem State.tellTwin_zent (s : State) (c : TwinCmd) (k : Nat) : (s.tellTwin c).zent k = s.zent k :=
  (State.tellTwin_within s c).zent rfl k

theorem State.checkOff_zent (s : State) (g k : Nat) : (s.checkOff g).zent k = s.zent k := by
  unfold State.checkOff
  split
  · exact State.record_zent ..
  · rfl

/-- A group in DOWN whose entries are all off goes into its dwell, and is recorded. -/
theorem State.checkOff_gstate_of_off {s : State} {g : Nat} (h : s.gstate g = 3) (hoff : ∀ k ∈ s.groupEntries g, (s.zent k).phase = 0) :
    (s.checkOff g).gstate g = 4 := by
  rw [State.checkOff, if_pos ⟨h, by simpa using hoff⟩]
  exact ((State.record_within _ _ _ _).gstate rfl g).trans (State.rd_wr_lt _ _ (by decide))

theorem State.checkOff_gstate_of_on {s : State} {g k : Nat} (hk : k ∈ s.groupEntries g) (hon : (s.zent k).phase ≠ 0) :
    s.checkOff g = s := by
  rw [State.checkOff, if_neg]
  rintro ⟨-, hall⟩
  simp only [List.all_eq_true, beq_iff_eq] at hall
  exact hon (hall k hk)

theorem State.checkOff_gstate {s : State} {g : Nat} (h : s.gstate g = 3) : (s.checkOff g).gstate g ∈ [3, 4] := by
  by_cases hoff : ∀ k ∈ s.groupEntries g, (s.zent k).phase = 0
  · rw [State.checkOff_gstate_of_off h hoff]
    decide
  · obtain ⟨k, hoff⟩ := Classical.not_forall.mp hoff
    obtain ⟨hk, hon⟩ := Classical.not_imp.mp hoff
    rw [State.checkOff_gstate_of_on hk hon, h]
    decide

/-! ## A power-down -/

/-- An entry as a power-down leaves it: one that waits for its start is cancelled (R165). -/
def ZEntry.cancelled (e : ZEntry) : ZEntry := if e.phase = 1 then { e with phase := 0 } else e

/-- The waiting entries of a list cancelled. -/
def State.cancelEntries (s : State) (l : List Nat) : State :=
  each l (fun k s => if (s.zent k).phase = 1 then s.setZent k { s.zent k with phase := 0 } else s) s

theorem ZEntry.cancelled_cancelled (e : ZEntry) : e.cancelled.cancelled = e.cancelled := by
  unfold ZEntry.cancelled
  split <;> simp_all

theorem State.cancelEntries_zent (l : List Nat) (s : State) (k : Nat) :
    (s.cancelEntries l).zent k = if k ∈ l then (s.zent k).cancelled else s.zent k := by
  induction l generalizing s with
  | nil => rfl
  | cons j l ih =>
    have hstep : (s.cancelEntries (j :: l)) =
      (if (s.zent j).phase = 1 then s.setZent j { s.zent j with phase := 0 } else s).cancelEntries l := rfl
    have hone : (if (s.zent j).phase = 1 then s.setZent j { s.zent j with phase := 0 } else s).zent k =
        if j = k then (s.zent k).cancelled else s.zent k := by
      unfold ZEntry.cancelled
      split
      · rw [State.setZent_zent]
        by_cases hjk : j = k
        · subst hjk
          simp_all
        · simp [hjk]
      · by_cases hjk : j = k
        · subst hjk
          simp_all
        · simp [hjk]
    rw [hstep, ih, hone]
    by_cases hjk : j = k
    · subst hjk
      simp [ZEntry.cancelled_cancelled]
    · simp [hjk, Ne.symm hjk]

theorem State.cancelEntries_within (s : State) (l : List Nat) : Within [.zither] [] s (s.cancelEntries l) :=
  Within.each l _ (Within.refl _ _ s) fun _ _ _ hu => Within.ite (hu.step (State.setZent_within _ _ _) rfl) hu

/-- A group that a power-down has taken to DOWN, with its cause and its common start, before its entries are cancelled. -/
def State.wentDown (s : State) (g cause : Nat) : State :=
  let t := (s.wr ZIT_GSTAT.state g 3).wr ZIT_GSTAT.abort_cause g cause
  if cause = 0 ∨ cause = 8 ∨ cause = 9 then t.setStartCmd g false else t.setStart g

theorem State.goDown_eq {s : State} {g : Nat} (cause : Nat) (h : s.gstate g = 1 ∨ s.gstate g = 2) :
    s.goDown g cause = ((s.wentDown g cause).cancelEntries ((s.wentDown g cause).groupEntries g)).checkOff g := by
  rw [State.goDown, if_pos h]
  rfl

theorem State.setStartCmd_zent (s : State) (g : Nat) (up : Bool) (k : Nat) : (s.setStartCmd g up).zent k = s.zent k := by
  unfold State.setStartCmd
  split
  · rw [State.tellTwin_zent]
    rfl
  · rfl

theorem State.wentDown_within (s : State) (g cause : Nat) : Within [.zither, .twin] [2764, 2781, 2944] s (s.wentDown g cause) :=
  have h := ((Within.refl [.zither, .twin] [2764, 2781, 2944] s).wr ZIT_GSTAT.state g 3 rfl).wr ZIT_GSTAT.abort_cause g cause rfl
  Within.ite (h.step (State.setStartCmd_within _ _ _) rfl) (h.step (State.setStart_within _ _) rfl)

theorem State.wentDown_start_within (s : State) (g cause : Nat) : Within [.zither, .twin] [2944]
    ((s.wr ZIT_GSTAT.state g 3).wr ZIT_GSTAT.abort_cause g cause) (s.wentDown g cause) :=
  Within.ite ((Within.refl _ _ _).step (State.setStartCmd_within _ _ _) rfl) ((Within.refl _ _ _).step (State.setStart_within _ _) rfl)

theorem State.wentDown_zent (s : State) (g cause k : Nat) : (s.wentDown g cause).zent k = s.zent k := by
  unfold State.wentDown
  dsimp only
  split
  · exact State.setStartCmd_zent ..
  · rfl

theorem State.wentDown_gstate (s : State) (g cause : Nat) : (s.wentDown g cause).gstate g = 3 :=
  ((s.wentDown_start_within g cause).gstate rfl g).trans ((State.rd_wr_ne _ _ _ _ rfl).trans (State.rd_wr_lt _ _ (by decide)))

theorem State.wentDown_cause (s : State) (g cause : Nat) : (s.wentDown g cause).rd ZIT_GSTAT.abort_cause g = cause % 16 :=
  ((s.wentDown_start_within g cause).rd _ _ rfl).trans (State.rd_wr_same ..)

/-- A power-down of a group in UP or ON takes it to DOWN, or at once to its dwell. -/
theorem State.goDown_gstate {s : State} {g : Nat} (cause : Nat) (h : s.gstate g = 1 ∨ s.gstate g = 2) : (s.goDown g cause).gstate g ∈ [3, 4] := by
  rw [State.goDown_eq cause h]
  exact State.checkOff_gstate (((State.cancelEntries_within _ _).gstate rfl g).trans (s.wentDown_gstate g cause))

theorem State.goDown_cause {s : State} {g : Nat} (cause : Nat) (h : s.gstate g = 1 ∨ s.gstate g = 2) :
    (s.goDown g cause).rd ZIT_GSTAT.abort_cause g = cause % 16 := by
  rw [State.goDown_eq cause h]
  exact ((State.checkOff_within _ _).rd _ _ rfl).trans (((State.cancelEntries_within _ _).rd _ _ rfl).trans (s.wentDown_cause g cause))

/-- A power-down changes an entry's phase at most. -/
theorem State.goDown_zent (s : State) (g cause k : Nat) : (s.goDown g cause).zent k = s.zent k ∨
    (s.goDown g cause).zent k = (s.zent k).cancelled := by
  by_cases h : s.gstate g = 1 ∨ s.gstate g = 2
  · rw [State.goDown_eq cause h, State.checkOff_zent, State.cancelEntries_zent, State.wentDown_zent]
    split
    · exact .inr rfl
    · exact .inl rfl
  · rw [State.goDown, if_neg h]
    exact .inl rfl

/-! ## An abort -/

section
variable {s : State} {g : Nat} (cause k : Nat)

theorem State.abort_eq (h : s.gstate g = 1 ∨ s.gstate g = 2) : s.abort g cause k =
    ((s.nameAbort g cause k).goDown g cause).tellTwin (.abort (Fin.ofNat 16 g) (BitVec.ofNat 4 cause) (BitVec.ofNat 8 k)) := by
  rw [State.abort, if_pos h]

theorem State.nameAbort_gstate_iff : ((s.nameAbort g cause k).gstate g = 1 ∨ (s.nameAbort g cause k).gstate g = 2) ↔
    (s.gstate g = 1 ∨ s.gstate g = 2) := by
  rw [(State.nameAbort_within s g cause k).gstate rfl g]

/-- The abort of a group in UP or ON takes it to DOWN, or at once to its dwell. -/
theorem State.abort_gstate (h : s.gstate g = 1 ∨ s.gstate g = 2) : (s.abort g cause k).gstate g ∈ [3, 4] := by
  rw [State.abort_eq cause k h, (State.tellTwin_within _ _).gstate rfl g]
  exact State.goDown_gstate cause ((State.nameAbort_gstate_iff cause k).mpr h)

theorem State.abort_cause (h : s.gstate g = 1 ∨ s.gstate g = 2) : (s.abort g cause k).rd ZIT_GSTAT.abort_cause g = cause % 16 := by
  rw [State.abort_eq cause k h, (State.tellTwin_within _ _).rd _ _ rfl]
  exact State.goDown_cause cause ((State.nameAbort_gstate_iff cause k).mpr h)

theorem State.abort_entry (h : s.gstate g = 1 ∨ s.gstate g = 2) : (s.abort g cause k).rd ZIT_GSTAT.abort_entry g = k % 256 := by
  rw [State.abort_eq cause k h, (State.tellTwin_within _ _).rd _ _ rfl, (State.goDown_within _ _ _).rd _ _ rfl]
  exact State.rd_wr_same ..

/-- The entry that an abort names keeps all but its fault and its phase. -/
theorem State.abort_zent (h : s.gstate g = 1 ∨ s.gstate g = 2) : (s.abort g cause k).zent k = { s.zent k with fault := cause } ∨
    (s.abort g cause k).zent k = ZEntry.cancelled { s.zent k with fault := cause } := by
  have hnamed : (s.nameAbort g cause k).zent k = { s.zent k with fault := cause } := (State.setZent_zent ..).trans (if_pos rfl)
  rw [State.abort_eq cause k h, State.tellTwin_zent, ← hnamed]
  exact State.goDown_zent ..

end

@[simp] theorem ZEntry.cancelled_fault (e : ZEntry) : e.cancelled.fault = e.fault := by
  unfold ZEntry.cancelled
  split <;> rfl

@[simp] theorem ZEntry.cancelled_counted (e : ZEntry) : e.cancelled.counted = e.counted := by
  unfold ZEntry.cancelled
  split <;> rfl

@[simp] theorem ZEntry.cancelled_chatters (e : ZEntry) : e.cancelled.chatters = e.chatters := by
  unfold ZEntry.cancelled
  split <;> rfl

@[simp] theorem ZEntry.cancelled_lost (e : ZEntry) : e.cancelled.lost = e.lost := by
  unfold ZEntry.cancelled
  split <;> rfl

/-! ## The start of a run -/

/-- A run started, up to its entries. -/
def State.runStarted (s : State) (g : Nat) : State :=
  let s := (s.wr ZIT_GSTAT.state g 1).setStartCmd g true
  s.setZgrp g { s.zgrp g with doneAt := none, upStart := some (s.zgrp g).start }

/-- The entries of a list wait for their start. -/
def State.entriesWait (s : State) (l : List Nat) : State :=
  each l (fun k s => s.setZent k { phase := 1, goodUs := (s.zent k).goodUs, cond := s.goodCond k, condAt := s.tick }) s

theorem State.entriesWait_phase (l : List Nat) (s : State) {k : Nat} (h : k ∈ l ∨ (s.zent k).phase = 1) : ((s.entriesWait l).zent k).phase = 1 := by
  induction l generalizing s with
  | nil => exact h.resolve_left List.not_mem_nil
  | cons j l ih =>
    refine ih (s.setZent j { phase := 1, goodUs := (s.zent j).goodUs, cond := s.goodCond j, condAt := s.tick }) ?_
    rw [State.setZent_zent]
    by_cases hjk : j = k
    · simp [hjk]
    · rw [if_neg hjk]
      exact h.imp_left fun hm => (List.mem_cons.mp hm).resolve_left (Ne.symm hjk)

theorem State.entriesWait_within (s : State) (l : List Nat) : Within [.zither] [] s (s.entriesWait l) :=
  Within.each l _ (Within.refl _ _ s) fun _ _ _ hu => hu.step (State.setZent_within _ _ _) rfl

theorem State.startUp_of_none {s : State} {g : Nat} (h : (s.wr ZIT_GSTAT.up_pending g 0).groupCheck g = none) : s.startUp g =
    ((s.wr ZIT_GSTAT.up_pending g 0).runStarted g).entriesWait (((s.wr ZIT_GSTAT.up_pending g 0).runStarted g).groupEntries g) := by
  rw [State.startUp]
  dsimp only
  rw [h]
  rfl

theorem State.startUp_of_some {s : State} {g code k : Nat} (h : (s.wr ZIT_GSTAT.up_pending g 0).groupCheck g = some (code, k)) : s.startUp g =
    ((((s.wr ZIT_GSTAT.up_pending g 0).wr ZIT_STAT.check_entry 0 k).wr ZIT_STAT.check_code 0 code).wr ZIT_GSTAT.cmd_status g
      St.refusedState).record Ev.SEQ_CHECK_FAIL Src.zither [g, k, code] := by
  rw [State.startUp]
  dsimp only
  rw [h]

theorem State.runStarted_start_within (s : State) (g : Nat) : Within [.zither, .twin] [2944] (s.wr ZIT_GSTAT.state g 1) (s.runStarted g) :=
  ((Within.refl _ _ _).step (State.setStartCmd_within _ _ _) rfl).step (State.setZgrp_within _ _ _) rfl

theorem State.runStarted_within (s : State) (g : Nat) : Within [.zither, .twin] [2781, 2944] s (s.runStarted g) :=
  ((Within.refl [.zither, .twin] [2781, 2944] s).wr ZIT_GSTAT.state g 1 rfl).step (s.runStarted_start_within g) rfl

/-- What the start of a run leaves of a group whose checks pass. -/
structure Started (s t : State) (g : Nat) : Prop where
  state : t.gstate g = 1
  pending : t.rd ZIT_GSTAT.up_pending g = 0
  phase : ∀ k ∈ s.groupEntries g, (t.zent k).phase = 1
  status : t.rd ZIT_GSTAT.cmd_status g = s.rd ZIT_GSTAT.cmd_status g
  start : s.leads = false → t.rd ZIT_GTICK.tick g = (s.tick + 1) % 2 ^ 32

theorem State.setStartCmd_tick {s : State} (g : Nat) (up : Bool) (h : s.leads = false) :
    (s.setStartCmd g up).rd ZIT_GTICK.tick g = (s.tick + 1) % 2 ^ 32 := by
  rw [State.setStartCmd, if_neg (by rw [h]; exact Bool.false_ne_true)]
  exact State.rd_wr_same ..

theorem State.pendingCleared_within (s : State) (g : Nat) : Within [] [2755] s (s.wr ZIT_GSTAT.up_pending g 0) :=
  (Within.refl [] [2755] s).wr ZIT_GSTAT.up_pending g 0 rfl

theorem State.startUp_starts {s : State} {g : Nat} (h : s.groupCheck g = none) : Started s (s.startUp g) g := by
  have hcheck := ((s.pendingCleared_within g).groupCheck rfl rfl g).trans h
  have hwait (t : State) (l : List Nat) := State.entriesWait_within t l
  rw [State.startUp_of_none hcheck]
  refine ⟨?state, ?pending, fun k hk => ?phase, ?status, fun hl => ?start⟩
  case state =>
    exact ((hwait _ _).gstate rfl g).trans (((State.runStarted_start_within _ g).gstate rfl g).trans (State.rd_wr_lt _ _ (by decide)))
  case pending =>
    exact ((hwait _ _).rd _ _ rfl).trans (((State.runStarted_within _ g).rd _ _ rfl).trans (State.rd_wr_lt _ _ (by decide)))
  case phase =>
    refine State.entriesWait_phase _ _ (.inl ?_)
    rw [(State.runStarted_within _ g).groupEntries rfl, (s.pendingCleared_within g).groupEntries rfl]
    exact hk
  case status =>
    exact ((hwait _ _).rd _ _ rfl).trans (((State.runStarted_within _ g).rd _ _ rfl).trans ((s.pendingCleared_within g).rd _ _ rfl))
  case start =>
    have hleads : ((s.wr ZIT_GSTAT.up_pending g 0).wr ZIT_GSTAT.state g 1).leads = false := by
      have hw := ((Within.refl [] [2755, 2781] s).wr ZIT_GSTAT.up_pending g 0 rfl).wr ZIT_GSTAT.state g 1 rfl
      rw [State.leads, State.bit, hw.rd _ _ rfl, hw.rd _ _ rfl]
      exact hl
    exact ((hwait _ _).rd _ _ rfl).trans (State.setStartCmd_tick g true hleads)

/-- What a refused start leaves. -/
structure CheckFailed (s t : State) (g code k : Nat) : Prop where
  state : t.gstate g = s.gstate g
  status : t.rd ZIT_GSTAT.cmd_status g = St.refusedState
  code : t.rd ZIT_STAT.check_code 0 = code % 16
  entry : t.rd ZIT_STAT.check_entry 0 = k % 256

theorem State.startUp_fails {s : State} {g code k : Nat} (h : s.groupCheck g = some (code, k)) : CheckFailed s (s.startUp g) g code k := by
  have hcheck := ((s.pendingCleared_within g).groupCheck rfl rfl g).trans h
  have hrec (t : State) (data : List Nat) := State.record_within t Ev.SEQ_CHECK_FAIL Src.zither data
  rw [State.startUp_of_some hcheck]
  refine ⟨?state, ?status, ?code, ?entry⟩
  case state =>
    exact ((hrec _ _).gstate rfl g).trans ((State.rd_wr_ne _ _ _ _ rfl).trans ((State.rd_wr_ne _ _ _ _ rfl).trans
      ((State.rd_wr_ne _ _ _ _ rfl).trans (State.rd_wr_ne _ _ _ _ rfl))))
  case status => exact ((hrec _ _).rd _ _ rfl).trans (State.rd_wr_lt _ _ (by decide))
  case code => exact ((hrec _ _).rd _ _ rfl).trans ((State.rd_wr_ne _ _ _ _ rfl).trans (State.rd_wr_same ..))
  case entry =>
    exact ((hrec _ _).rd _ _ rfl).trans ((State.rd_wr_ne _ _ _ _ rfl).trans ((State.rd_wr_ne _ _ _ _ rfl).trans (State.rd_wr_same ..)))

end Sys2Proof.Machine
end

section
/-!
SUPPORT. The commands of the zither sequencer (07, Tables 7-5 and 7-6): entry words, the power-up and the power-down of a group, the end of its
dwell, and the pads driven again.
-/
namespace Sys2Proof.Machine

/-! ## Entry words -/

section
variable {l : List Fld} {i v : Nat} {s : State}

/-- Fields written in range, one after another. -/
theorem State.writeFlds_frame (l : List Fld) (s : State) (i v : Nat) : Frame [] (l.map fun f => (f, i)) s (s.writeFlds l i v) := by
  have h (m : List Fld) (hm : m ⊆ l) (t : State) (ht : Frame [] (l.map fun f => (f, i)) s t) :
      Frame [] (l.map fun f => (f, i)) s (t.writeFlds m i v) := by
    induction m generalizing t with
    | nil => exact ht
    | cons f m ih =>
      obtain ⟨hf, hm⟩ := List.cons_subset.mp hm
      exact ih hm _ (ht.writeFld f i _ (List.mem_map_of_mem hf))
  exact h l (List.Subset.refl l) s (Frame.refl s _ _)

theorem State.rd_writeFld_ne (s : State) {f g : Fld} (i j v : Nat) (h : f.key i ≠ g.key j) : (s.writeFld f i v).rd g j = s.rd g j := by
  obtain ⟨w, hw⟩ | hw := s.writeFld_cases f i v
  · rw [hw]
    exact s.rd_wr_key f g i j w h
  · rw [hw]

theorem State.rd_writeFlds_ne (l : List Fld) (s : State) {g : Fld} (i v : Nat) (h : ∀ f ∈ l, f.key i ≠ g.key i) :
    (s.writeFlds l i v).rd g i = s.rd g i := by
  induction l generalizing s with
  | nil => rfl
  | cons f l ih =>
    exact (ih _ fun g' hg' => h g' (List.mem_cons_of_mem _ hg')).trans (s.rd_writeFld_ne i i _ (h f List.mem_cons_self))

/-- Of distinct fields that software writes, each takes its value in range. -/
theorem State.rd_writeFlds (l : List Fld) (s : State) (i v : Nat) (hd : (l.map (·.code)).Nodup) (hacc : ∀ f ∈ l, f.acc = .rw ∨ f.acc = .rwl)
    {g : Fld} (hg : g ∈ l) (hr : g.min ≤ g.of v ∧ g.of v ≤ g.max) : (s.writeFlds l i v).rd g i = g.of v := by
  induction l generalizing s with
  | nil => cases hg
  | cons f l ih =>
    obtain ⟨hf, hd⟩ := List.nodup_cons.mp hd
    obtain rfl | hg := List.mem_cons.mp hg
    · have hkey : ∀ h ∈ l, h.key i ≠ g.key i := fun h hh he => hf (List.mem_map.mpr ⟨h, hh, Nat.add_left_cancel he⟩)
      refine (State.rd_writeFlds_ne l (s.writeFld g i (g.of v)) i v hkey).trans ?_
      rw [State.writeFld_of_range s i (hacc g List.mem_cons_self) hr]
      exact s.rd_wr_of g i v
    · exact ih _ hd (fun f hf => hacc f (List.mem_cons_of_mem _ hf)) hg

end

theorem entryWordFields_distinct (w : Fin 4) : ((entryWordFields w).map (·.code)).Nodup := by revert w; decide

theorem entryWordFields_acc (w : Fin 4) : ∀ f ∈ entryWordFields w, f.acc = .rw ∨ f.acc = .rwl := by revert w; decide

theorem entryWrite_writes {s : State} (k : Fin 256) (w : Fin 4) (v : BitVec 32) (hup : s.alive = true) (hlock : s.bit ZIT_CTL.lock 0 = false)
    (hwas : s.gstate (s.rd ZIT_EW0.group k) ∈ [0, 4]) (hnew : w.val = 0 → s.gstate (ZIT_EW0.group.of v.toNat) ∈ [0, 4]) :
    Does (.entryWrite k w v) s fun t => Frame [] ((entryWordFields w).map fun f => (f, k.val)) s t ∧
      ∀ f ∈ entryWordFields w, f.min ≤ f.of v.toNat → f.of v.toNat ≤ f.max → t.rd f k = f.of v.toNat := by
  have hrun : exec (.entryWrite k w v) s = .next (s.writeFlds (entryWordFields w) k v.toNat) := by
    refine (doIf_pos _ _ hup).trans (congrArg Host.Outcome.next (if_pos ?_))
    simp only [List.mem_cons, List.not_mem_nil, or_false] at hwas hnew
    simp only [hlock, Bool.not_false, Bool.true_and, Bool.and_eq_true, Bool.or_eq_true, beq_iff_eq, bne_iff_ne]
    exact ⟨hwas, (Decidable.em (w.val = 0)).elim (fun h => .inr (hnew h)) .inl⟩
  exact ⟨_, hrun, State.writeFlds_frame .., fun f hf h1 h2 =>
    State.rd_writeFlds _ s _ _ (entryWordFields_distinct w) (entryWordFields_acc w) hf ⟨h1, h2⟩⟩

theorem entryWrite_ignored {s : State} (k : Fin 256) (w : Fin 4) (v : BitVec 32) (hup : s.alive = true)
    (h : s.bit ZIT_CTL.lock 0 = true ∨ s.gstate (s.rd ZIT_EW0.group k) ∈ [1, 2, 3]) :
    Does (.entryWrite k w v) s fun t => Frame [] [(ZIT_STAT.wr_ignored, 0)] s t ∧ t.rd ZIT_STAT.wr_ignored 0 = 1 := by
  have hrun : exec (.entryWrite k w v) s = .next (s.wr ZIT_STAT.wr_ignored 0 1) := by
    refine (doIf_pos _ _ hup).trans (congrArg Host.Outcome.next (if_neg ?_))
    simp only [List.mem_cons, List.not_mem_nil, or_false] at h
    obtain h | h := h
    · simp [h]
    · simp only [Bool.and_eq_true, Bool.or_eq_true, beq_iff_eq]
      omega
  exact ⟨_, hrun, (Frame.refl s _ _).wr _ _ _ (by simp), State.rd_wr_lt _ _ (by decide)⟩

theorem zitherLock_stands {s : State} (hup : s.alive = true) :
    Does .zitherLock s fun t => Frame [] [(ZIT_CTL.lock, 0)] s t ∧ t.rd ZIT_CTL.lock 0 = 1 :=
  Does.of_guard rfl hup ⟨(Frame.refl s _ _).wr _ _ _ (by simp), State.rd_wr_lt _ _ (by decide)⟩

/-! ## The power-up of a group -/

/-- A group whose command has the status OK. -/
def State.statusOk (s : State) (g : Nat) : State := s.wr ZIT_GSTAT.cmd_status g St.ok

theorem State.statusOk_within (s : State) (g : Nat) : Within [] [2768] s (s.statusOk g) := (Within.refl [] [2768] s).wr _ _ _ rfl

theorem State.statusOk_status (s : State) (g : Nat) : (s.statusOk g).rd ZIT_GSTAT.cmd_status g = St.ok := State.rd_wr_lt _ _ (by decide)

theorem State.statusOk_admitted (s : State) (g : Nat) : (s.statusOk g).admitted = s.admitted := by
  rw [State.admitted, (s.statusOk_within g).rd _ _ rfl]
  rfl

theorem State.statusOk_groupCheck (s : State) (g h : Nat) : (s.statusOk g).groupCheck h = s.groupCheck h :=
  (s.statusOk_within g).groupCheck rfl rfl h

theorem State.powerUp_off {s : State} {g : Nat} (hstart : s.noStart = false) (h : s.gstate g = 0)
    (hgo : s.admitted = true ∨ (s.groupCheck g).isSome = true) : s.powerUp g = (s.statusOk g).startUp g := by
  rw [State.powerUp, if_neg (by rw [hstart]; exact Bool.false_ne_true), h]
  have hgo' : (s.statusOk g).admitted = true ∨ ((s.statusOk g).groupCheck g).isSome = true := by
    rw [State.statusOk_admitted, State.statusOk_groupCheck]
    exact hgo
  exact if_pos hgo'

theorem State.powerUp_waits {s : State} {g : Nat} (hstart : s.noStart = false)
    (h : s.gstate g ∈ [3, 4] ∨ s.gstate g = 0 ∧ s.admitted = false ∧ s.groupCheck g = none) :
    s.powerUp g = (s.statusOk g).wr ZIT_GSTAT.up_pending g 1 := by
  simp only [List.mem_cons, List.not_mem_nil, or_false] at h
  rw [State.powerUp, if_neg (by rw [hstart]; exact Bool.false_ne_true)]
  obtain (h | h) | ⟨h, hadm, hcheck⟩ := h
  · rw [h]
    rfl
  · rw [h]
    rfl
  · rw [h]
    have hwait : ¬ ((s.statusOk g).admitted = true ∨ ((s.statusOk g).groupCheck g).isSome = true) := by
      rw [State.statusOk_admitted, State.statusOk_groupCheck, hadm, hcheck]
      decide
    exact if_neg hwait

/-- What `finish` leaves of the sequencer. -/
theorem State.finish_gstate (s : State) (via : Via) (status g : Nat) : (s.finish via status).gstate g = s.gstate g :=
  (State.finish_within s via status 0 0 false).gstate rfl g

theorem exec_powerUp {s : State} {g : Fin 16} {via : Via} (hup : s.fwUp = true)
    (hgiven : (s.given via 0x0400 fun d => descParam d 0x2C 1 == g.val && descParam d 0x2D 1 == 1) = true) (hshadow : s.shadow_ = false) :
    exec (.powerUp g via) s = .next ((s.powerUp g).finish via ((s.powerUp g).rd ZIT_GSTAT.cmd_status g)) := by
  refine (doIf_pos _ _ (by rw [hup, hgiven]; rfl)).trans (congrArg Host.Outcome.next (if_neg ?_))
  simp [hshadow]

theorem powerUp_starts {s : State} (g : Fin 16) (via : Via) (hup : s.fwUp = true)
    (hgiven : (s.given via 0x0400 fun d => descParam d 0x2C 1 == g.val && descParam d 0x2D 1 == 1) = true) (hshadow : s.shadow_ = false)
    (hstart : s.noStart = false) :
    Does (.powerUp g via) s fun t =>
      Touches [.zither, .msix, .hostRest, .burrow, .twin]
        ([ZIT_GSTAT.up_pending, ZIT_GSTAT.cmd_status, ZIT_GSTAT.state, ZIT_STAT.check_code, ZIT_STAT.check_entry, ZIT_GTICK.tick,
          RING_STAT.outstanding, CQ_TAIL.index, RING_ERR.bad_desc] ++ recBits) s t ∧
      (s.gstate g ∈ [3, 4] ∨ s.gstate g = 0 ∧ s.admitted = false ∧ s.groupCheck g = none →
        t.rd ZIT_GSTAT.up_pending g = 1 ∧ t.rd ZIT_GSTAT.cmd_status g = St.ok ∧ t.gstate g = s.gstate g) ∧
      (s.gstate g = 0 → s.admitted = true → s.groupCheck g = none →
        t.gstate g = 1 ∧ t.rd ZIT_GSTAT.cmd_status g = St.ok ∧ t.rd ZIT_GSTAT.up_pending g = 0 ∧
        (s.leads = false → t.rd ZIT_GTICK.tick g = (s.tick + 1) % 2 ^ 32) ∧ ∀ k ∈ s.groupEntries g, (t.zent k).phase = 1) ∧
      (∀ code k, s.gstate g = 0 → s.groupCheck g = some (code, k) →
        t.gstate g = 0 ∧ t.rd ZIT_GSTAT.cmd_status g = St.refusedState ∧ t.rd ZIT_STAT.check_code 0 = code % 16 ∧
        t.rd ZIT_STAT.check_entry 0 = k % 256) := by
  have hrun := exec_powerUp hup hgiven hshadow
  have hfin (t : State) (n : Nat) := State.finish_within t via n 0 0 false
  have hok := s.statusOk_within g
  refine ⟨_, hrun, (execPowerUp_out g via s _ hrun).touches rfl rfl, fun h => ?waits, fun h hadm hcheck => ?starts, fun code k h hcheck => ?fails⟩
  case waits =>
    rw [State.powerUp_waits hstart h]
    refine ⟨((hfin _ _).rd _ _ rfl).trans (State.rd_wr_lt _ _ (by decide)), ((hfin _ _).rd _ _ rfl).trans ?_, ((hfin _ _).gstate rfl g).trans ?_⟩
    · exact (State.rd_wr_ne _ _ _ _ rfl).trans (s.statusOk_status g)
    · exact (State.rd_wr_ne _ _ _ _ rfl).trans (hok.gstate rfl g)
  case starts =>
    have hstarted := State.startUp_starts ((s.statusOk_groupCheck g g).trans hcheck)
    rw [State.powerUp_off hstart h (.inl hadm)]
    refine ⟨((hfin _ _).gstate rfl g).trans hstarted.state, ((hfin _ _).rd _ _ rfl).trans (hstarted.status.trans (s.statusOk_status g)),
      ((hfin _ _).rd _ _ rfl).trans hstarted.pending, fun hl => ((hfin _ _).rd _ _ rfl).trans (hstarted.start ?_), fun k hk => ?_⟩
    · rw [State.leads, State.bit, hok.rd _ _ rfl, hok.rd _ _ rfl]
      exact hl
    · rw [(hfin _ _).zent rfl]
      exact hstarted.phase k (by rw [hok.groupEntries rfl]; exact hk)
  case fails =>
    have hfailed := State.startUp_fails ((s.statusOk_groupCheck g g).trans hcheck)
    rw [State.powerUp_off hstart h (.inr (by rw [hcheck]; rfl))]
    exact ⟨((hfin _ _).gstate rfl g).trans (hfailed.state.trans ((hok.gstate rfl g).trans h)), ((hfin _ _).rd _ _ rfl).trans hfailed.status,
      ((hfin _ _).rd _ _ rfl).trans hfailed.code, ((hfin _ _).rd _ _ rfl).trans hfailed.entry⟩

/-! ## The power-down of a group, and what follows a dwell and a collapse -/

theorem State.powerDown_runs {s : State} {g : Nat} (h : s.gstate g = 1 ∨ s.gstate g = 2) :
    s.powerDown g = (s.statusOk g).goDown g (if s.gstate g = 1 then 9 else 0) := by
  obtain h | h := h <;> rw [State.powerDown, h] <;> rfl

theorem State.powerDown_dwells {s : State} {g : Nat} (h : s.gstate g = 4) : s.powerDown g = (s.statusOk g).wr ZIT_GSTAT.up_pending g 0 := by
  rw [State.powerDown, h]
  rfl

theorem State.powerDown_rest {s : State} {g : Nat} (h1 : s.gstate g ≠ 1) (h2 : s.gstate g ≠ 2) (h4 : s.gstate g ≠ 4) :
    s.powerDown g = s.statusOk g := by
  rw [State.powerDown]
  split
  case h_1 h => exact absurd h h1
  case h_2 h => exact absurd h h2
  case h_3 h => exact absurd h h4
  case h_4 => rfl

theorem State.powerDown_status (s : State) (g : Nat) : (s.powerDown g).rd ZIT_GSTAT.cmd_status g = St.ok := by
  by_cases h : s.gstate g = 1 ∨ s.gstate g = 2
  · rw [State.powerDown_runs h]
    exact ((State.goDown_within _ _ _).rd _ _ rfl).trans (s.statusOk_status g)
  · by_cases h4 : s.gstate g = 4
    · rw [State.powerDown_dwells h4]
      exact (State.rd_wr_ne _ _ _ _ rfl).trans (s.statusOk_status g)
    · rw [State.powerDown_rest (fun h1 => h (.inl h1)) (fun h2 => h (.inr h2)) h4]
      exact s.statusOk_status g

theorem exec_powerDown {s : State} {g : Fin 16} {via : Via} (hup : s.fwUp = true)
    (hgiven : (s.given via 0x0400 fun d => descParam d 0x2C 1 == g.val && descParam d 0x2D 1 == 2) = true) (hshadow : s.shadow_ = false) :
    exec (.powerDown g via) s = .next ((s.powerDown g).finish via ((s.powerDown g).rd ZIT_GSTAT.cmd_status g)) := by
  refine (doIf_pos _ _ (by rw [hup, hgiven]; rfl)).trans (congrArg Host.Outcome.next (if_neg ?_))
  simp [hshadow]

theorem powerDown_goes_down {s : State} (g : Fin 16) (via : Via) (hup : s.fwUp = true)
    (hgiven : (s.given via 0x0400 fun d => descParam d 0x2C 1 == g.val && descParam d 0x2D 1 == 2) = true) (hshadow : s.shadow_ = false) :
    Does (.powerDown g via) s fun t =>
      Touches [.zither, .msix, .hostRest, .burrow, .twin]
        ([ZIT_GSTAT.up_pending, ZIT_GSTAT.abort_cause, ZIT_GSTAT.cmd_status, ZIT_GSTAT.state, ZIT_GTICK.tick, RING_STAT.outstanding,
          CQ_TAIL.index, RING_ERR.bad_desc] ++ recBits) s t ∧
      t.rd ZIT_GSTAT.cmd_status g = St.ok ∧
      (s.gstate g ∈ [1, 2] → t.gstate g ∈ [3, 4] ∧ t.rd ZIT_GSTAT.abort_cause g = (if s.gstate g = 1 then 9 else 0)) ∧
      (s.gstate g = 4 → t.gstate g = 4 ∧ t.rd ZIT_GSTAT.up_pending g = 0) ∧ (s.gstate g ∈ [0, 3] → t.gstate g = s.gstate g) := by
  have hrun := exec_powerDown hup hgiven hshadow
  have hfin (t : State) (n : Nat) := State.finish_within t via n 0 0 false
  have hok := s.statusOk_within g
  refine ⟨_, hrun, (execPowerDown_out g via s _ hrun).touches rfl rfl, ((hfin _ _).rd _ _ rfl).trans (s.powerDown_status g), fun h => ?runs,
    fun h => ?dwells, fun h => ?rest⟩
  case runs =>
    simp only [List.mem_cons, List.not_mem_nil, or_false] at h
    have h' : (s.statusOk g).gstate g = 1 ∨ (s.statusOk g).gstate g = 2 := by rw [hok.gstate rfl]; exact h
    rw [State.powerDown_runs h, (hfin _ _).gstate rfl, (hfin _ _).rd _ _ rfl]
    refine ⟨State.goDown_gstate _ h', (State.goDown_cause _ h').trans (Nat.mod_eq_of_lt ?_)⟩
    split <;> decide
  case dwells =>
    rw [State.powerDown_dwells h]
    exact ⟨((hfin _ _).gstate rfl g).trans ((State.rd_wr_ne _ _ _ _ rfl).trans ((hok.gstate rfl g).trans h)),
      ((hfin _ _).rd _ _ rfl).trans (State.rd_wr_lt _ _ (by decide))⟩
  case rest =>
    simp only [List.mem_cons, List.not_mem_nil, or_false] at h
    rw [State.powerDown_rest (by omega) (by omega) (by omega)]
    exact ((hfin _ _).gstate rfl g).trans (hok.gstate rfl g)

theorem pendingPowerUpStart_starts {s : State} (g : Fin 16) (hup : s.alive = true) (hstart : s.noStart = false) (h : s.gstate g = 0)
    (hpending : s.bit ZIT_GSTAT.up_pending g = true) (hadm : s.admitted = true) (hcheck : s.groupCheck g = none) :
    Does (.pendingPowerUpStart g) s fun t =>
      Touches [.zither, .msix, .burrow, .twin]
        ([ZIT_GSTAT.up_pending, ZIT_GSTAT.cmd_status, ZIT_GSTAT.state, ZIT_STAT.check_code, ZIT_STAT.check_entry, ZIT_GTICK.tick] ++ recBits) s t ∧
      t.gstate g = 1 ∧ t.rd ZIT_GSTAT.up_pending g = 0 ∧ ∀ k ∈ s.groupEntries g, (t.zent k).phase = 1 := by
  have hrun : exec (.pendingPowerUpStart g) s = .next (s.startUp g) := doIf_pos _ _ (by simp [hup, hstart, h, hpending, hadm])
  obtain ⟨hstate, hpend, hphase, -, -⟩ := State.startUp_starts hcheck
  exact ⟨_, hrun, (execPendingPowerUpStart_out g s _ hrun).touches rfl rfl, hstate, hpend, hphase⟩

theorem dwellEnd_off {s : State} (g : Fin 16) (hup : s.alive = true) (h : s.gstate g = 4) (hend : (s.zgrp g).dwellEnd ≤ s.tick)
    (hpending : s.bit ZIT_GSTAT.up_pending g = false) (hauto : s.bit ZIT_GCTL.auto_restart g = false) :
    Does (.dwellEnd g) s fun t => Frame [] [(ZIT_GSTAT.state, g.val)] s t ∧ t.gstate g = 0 := by
  have hrun : exec (.dwellEnd g) s = .next (s.wr ZIT_GSTAT.state g 0) := by
    refine (doIf_pos _ _ (by simp [hup, h, hend])).trans (congrArg Host.Outcome.next (if_neg ?_))
    simp [hpending, hauto]
  exact ⟨_, hrun, (Frame.refl s _ _).wr _ _ _ (by simp), State.rd_wr_lt _ _ (by decide)⟩

theorem enRedrive_drives {s : State} {at_ : Nat} (hup : s.alive = true) (hreleased : s.zither.released = true)
    (hfrom : s.zither.redriveFrom = some at_) (hdue : at_ + 1000 ≤ s.bootUs) :
    Does .enRedrive s fun t => Frame [.zither, .burrow] [(FEED_STAT.collapse, 0)] s t ∧ t.zither.released = false ∧
      t.zither.entries = s.zither.entries ∧ t.rd FEED_STAT.collapse 0 = 0 ∧ t.burrow.flash = s.burrow.flash := by
  refine Does.of_guard rfl (by simp [hup, hreleased, hfrom, hdue]) ⟨?frame, rfl, rfl, State.rd_wr_lt _ _ (by decide), rfl⟩
  case frame =>
    exact Frame.wr _ _ _ (((Frame.refl s [.zither, .burrow] [(FEED_STAT.collapse, 0)]).zither
      { s.zither with released := false, redriveFrom := none } (by simp)).burrow { s.burrow with halt := false } (by simp)) (by simp)

/-- Settles O15: entry words by `State.rd_writeFlds`, the group commands by the start of a run and by `State.goDown_gstate`. -/
theorem zitherCommands : Obligations.ZitherCommands :=
  ⟨fun _ k w v hup => ⟨entryWrite_writes k w v hup, entryWrite_ignored k w v hup⟩, fun _ hup => zitherLock_stands hup,
    fun _ g via hup hgiven hshadow hstart => powerUp_starts g via hup hgiven hshadow hstart,
    fun _ g via hup hgiven hshadow => powerDown_goes_down g via hup hgiven hshadow,
    fun _ g hup hstart h hpending hadm hcheck => pendingPowerUpStart_starts g hup hstart h hpending hadm hcheck,
    fun _ g hup h hend hpending hauto => dwellEnd_off g hup h hend hpending hauto,
    fun _ _ hup hreleased hfrom hdue => enRedrive_drives hup hreleased hfrom hdue⟩

end Sys2Proof.Machine
end

section
/-!
SUPPORT. The instants of a run of the zither sequencer (07): an entry falls due, is good, misses its deadline, chatters, loses its good, and is
put and confirmed off.
-/
namespace Sys2Proof.Machine

theorem Frame.setZent {bs : List Block} {fs : List (Fld × Nat)} {s t : State} (h : Frame bs fs s t) (k : Nat) (x : ZEntry) (hb : .zither ∈ bs) :
    Frame bs fs s (t.setZent k x) := h.zither _ hb

theorem State.setZent_zent_same (s : State) (k : Nat) (x : ZEntry) : (s.setZent k x).zent k = x := (State.setZent_zent ..).trans (if_pos rfl)

theorem State.setZent_zent_ne (s : State) {k j : Nat} (x : ZEntry) (h : j ≠ k) : (s.setZent k x).zent j = s.zent j :=
  (State.setZent_zent ..).trans (if_neg h.symm)

theorem State.setZent_groupEntries (s : State) (k : Nat) (x : ZEntry) (g : Nat) : (s.setZent k x).groupEntries g = s.groupEntries g := rfl

theorem State.setZent_gstate (s : State) (k : Nat) (x : ZEntry) (g : Nat) : (s.setZent k x).gstate g = s.gstate g := rfl

theorem mem_one_two {n : Nat} : n ∈ [1, 2] ↔ n = 1 ∨ n = 2 := by simp

/-! ## Power-up -/

theorem entryDue_ramps {s : State} (k : Fin 256) (hup : s.alive = true) (hstate : s.gstate (s.rd ZIT_EW0.group k) = 1)
    (hphase : (s.zent k).phase = 1) (hdue : (s.zgrp (s.rd ZIT_EW0.group k)).start + s.rd ZIT_EW1.on_delay k * 10 ≤ s.tick)
    (hdeps : ∀ d ∈ s.deps k, (s.zent d).good = true ∧ (s.zent d).goodAt + 1 ≤ s.tick) (hshadow : s.shadow_ = false) :
    Does (.entryDue k) s fun t => Frame [.zither] [] s t ∧ (t.zent k).phase = 2 ∧ (t.zent k).on = true ∧ (t.zent k).onAt = s.tick ∧
      (∀ j, j ≠ k.val → t.zent j = s.zent j) ∧ t.zither.groups = s.zither.groups := by
  have hall : (s.deps k).all (fun d => (s.zent d).good && decide ((s.zent d).goodAt + 1 ≤ s.tick)) = true := by
    simpa only [List.all_eq_true, Bool.and_eq_true, decide_eq_true_eq] using hdeps
  refine Does.of_guard rfl (by rw [hup, hstate, hphase, hall, hshadow, decide_eq_true hdue]; rfl) ⟨(Frame.refl s _ _).setZent _ _ (by simp), ?_⟩
  simp only [State.setZent_zent_same]
  exact ⟨trivial, trivial, trivial, fun j hj => State.setZent_zent_ne s _ hj, rfl⟩

/-- An entry that is good from now on. -/
def State.entryIsGood (s : State) (k : Nat) : State :=
  s.setZent k { s.zent k with phase := 3, good := true, goodAt := s.tick, goodUs := min 65535 (s.tick - (s.zent k).onAt) }

/-- A group whose power-up is complete, with its record. -/
def State.upDone (s : State) (g : Nat) : State :=
  ((s.wr ZIT_GSTAT.state g 2).setZgrp g { s.zgrp g with doneAt := some s.tick }).record Ev.SEQ_UP_DONE Src.zither [g, s.tick - (s.zgrp g).start]

theorem State.upDone_zent (s : State) (g k : Nat) : (s.upDone g).zent k = s.zent k := State.record_zent ..

theorem State.upDone_gstate (s : State) (g : Nat) : (s.upDone g).gstate g = 2 :=
  ((State.record_within _ _ _ _).gstate rfl g).trans (State.rd_wr_lt s (f := ZIT_GSTAT.state) (v := 2) g (by decide))

theorem exec_entryGood {s : State} (k : Fin 256) (hup : s.alive = true) (hstate : s.gstate (s.rd ZIT_EW0.group k) = 1)
    (hphase : (s.zent k).phase = 2) (hsource : s.hasSource k = true) (hgood : s.goodCond k = true)
    (hfilter : max (s.zent k).onAt (s.zent k).condAt + s.rd ZIT_EW2.pg_filter k ≤ s.tick) :
    exec (.entryGood k) s = .next (if (s.groupEntries (s.rd ZIT_EW0.group k)).all (fun j => ((s.entryIsGood k).zent j).good) then
      (s.entryIsGood k).upDone (s.rd ZIT_EW0.group k) else s.entryIsGood k) :=
  doIf_pos _ _ (by simp [hup, hstate, hphase, hsource, hgood, hfilter])

theorem entryGood_notes {s : State} (k : Fin 256) (hup : s.alive = true) (hstate : s.gstate (s.rd ZIT_EW0.group k) = 1)
    (hphase : (s.zent k).phase = 2) (hsource : s.hasSource k = true) (hgood : s.goodCond k = true)
    (hfilter : max (s.zent k).onAt (s.zent k).condAt + s.rd ZIT_EW2.pg_filter k ≤ s.tick) :
    Does (.entryGood k) s fun t => Touches [.zither, .msix, .burrow] (ZIT_GSTAT.state :: recBits) s t ∧ (t.zent k).phase = 3 ∧
      (t.zent k).good = true ∧ (t.zent k).goodAt = s.tick ∧ (t.zent k).goodUs = min 65535 (s.tick - (s.zent k).onAt) ∧
      (∀ j, j ≠ k.val → t.zent j = s.zent j) ∧
      ((∀ j ∈ s.groupEntries (s.rd ZIT_EW0.group k), j = k.val ∨ (s.zent j).good = true) → t.gstate (s.rd ZIT_EW0.group k) = 2) ∧
      ((∃ j ∈ s.groupEntries (s.rd ZIT_EW0.group k), j ≠ k.val ∧ (s.zent j).good = false) → t.gstate (s.rd ZIT_EW0.group k) = 1) := by
  have hrun := exec_entryGood k hup hstate hphase hsource hgood hfilter
  generalize hg : s.rd ZIT_EW0.group k = g at hrun hstate ⊢
  have hother (j : Nat) (hj : j ≠ k.val) : (s.entryIsGood k).zent j = s.zent j := State.setZent_zent_ne s _ hj
  have hself : ((s.entryIsGood k).zent k).good = true := congrArg ZEntry.good (State.setZent_zent_same ..)
  have hall : (s.groupEntries g).all (fun j => ((s.entryIsGood k).zent j).good) = true ↔
      ∀ j ∈ s.groupEntries g, j = k.val ∨ (s.zent j).good = true := by
    rw [List.all_eq_true]
    refine forall₂_congr fun j _ => ?_
    by_cases hj : j = k.val
    · simp [hj, hself]
    · simp [hj, hother j hj]
  have hzent (j : Nat) : (if (s.groupEntries g).all (fun j => ((s.entryIsGood k).zent j).good) then (s.entryIsGood k).upDone g
      else s.entryIsGood k).zent j = (s.entryIsGood k).zent j := by
    split
    · exact State.upDone_zent ..
    · rfl
  refine ⟨_, hrun, (execEntryGood_out k s _ hrun).touches rfl rfl, ?_⟩
  simp only [hzent]
  rw [show (s.entryIsGood k).zent k = _ from State.setZent_zent_same ..]
  refine ⟨rfl, rfl, rfl, rfl, hother, fun h => ?done, fun ⟨j, hj, hne, hbad⟩ => ?waits⟩
  case done =>
    rw [if_pos (hall.mpr h)]
    exact State.upDone_gstate ..
  case waits =>
    rw [if_neg fun h => absurd ((hall.mp h j hj).resolve_left hne) (by rw [hbad]; exact Bool.false_ne_true)]
    exact hstate

/-! ## A missed deadline, chatter and loss of good -/

theorem goodDeadlineExpiry_aborts {s : State} (k : Fin 256) (hup : s.alive = true) (hstate : s.gstate (s.rd ZIT_EW0.group k) = 1)
    (hphase : (s.zent k).phase = 2) (hsource : s.hasSource k = true) (hdue : (s.zent k).onAt + s.rd ZIT_EW2.deadline k * 100 ≤ s.tick) :
    Does (.goodDeadlineExpiry k) s fun t => Touches [.zither, .msix, .burrow, .twin]
        ([ZIT_GSTAT.abort_entry, ZIT_GSTAT.abort_cause, ZIT_GSTAT.state, ZIT_GTICK.tick] ++ recBits) s t ∧
      t.gstate (s.rd ZIT_EW0.group k) ∈ [3, 4] ∧ t.rd ZIT_GSTAT.abort_cause (s.rd ZIT_EW0.group k) = 1 ∧
      t.rd ZIT_GSTAT.abort_entry (s.rd ZIT_EW0.group k) = k ∧ (t.zent k).fault = 1 := by
  have hrun : exec (.goodDeadlineExpiry k) s = .next ((s.record Ev.SEQ_PG_TIMEOUT Src.zither
      [s.rd ZIT_EW0.group k, k, s.rd ZIT_EW2.deadline k]).abort (s.rd ZIT_EW0.group k) 1 k) :=
    doIf_pos _ _ (by simp [hup, hstate, hphase, hsource, hdue])
  refine ⟨_, hrun, (execGoodDeadlineExpiry_out k s _ hrun).touches rfl rfl, ?_⟩
  generalize s.rd ZIT_EW0.group k = g at hstate ⊢
  generalize hu : s.record Ev.SEQ_PG_TIMEOUT Src.zither [g, k, s.rd ZIT_EW2.deadline k] = u
  have hgo : u.gstate g = 1 ∨ u.gstate g = 2 := by
    subst hu
    exact .inl (((State.record_within _ _ _ _).gstate rfl g).trans hstate)
  refine ⟨State.abort_gstate 1 k hgo, State.abort_cause 1 k hgo, (State.abort_entry 1 k hgo).trans (Nat.mod_eq_of_lt k.isLt), ?fault⟩
  obtain h | h := State.abort_zent 1 k hgo <;> rw [h]
  exact ZEntry.cancelled_fault _

/-- An abort after a record, of a group in UP or ON. -/
theorem State.record_abort (s : State) (code source : Nat) (data : List Nat) {g : Nat} (cause k : Nat) (h : s.gstate g ∈ [1, 2]) :
    ((s.record code source data).abort g cause k).gstate g ∈ [3, 4] ∧
    ((s.record code source data).abort g cause k).rd ZIT_GSTAT.abort_cause g = cause % 16 ∧
    (((s.record code source data).abort g cause k).zent k = { s.zent k with fault := cause } ∨
      ((s.record code source data).abort g cause k).zent k = ZEntry.cancelled { s.zent k with fault := cause }) := by
  have hgo : (s.record code source data).gstate g = 1 ∨ (s.record code source data).gstate g = 2 := by
    rw [(State.record_within _ _ _ _).gstate rfl g]
    exact mem_one_two.mp h
  refine ⟨State.abort_gstate cause k hgo, State.abort_cause cause k hgo, ?_⟩
  rw [← State.record_zent s k code source data]
  exact State.abort_zent cause k hgo

/-- A false-good interval counted. -/
def State.intervalCounted (s : State) (k : Nat) : State :=
  s.setZent k { s.zent k with counted := true, chatters := if (s.zent k).inWatch then (s.zent k).chatters + 1 else (s.zent k).chatters }

theorem exec_falseGoodInterval {s : State} (k : Fin 256) (hup : s.alive = true) (hsource : s.hasSource k = true) (hon : (s.zent k).on = true)
    (hgood : (s.zent k).good = true) (hcond : (s.zent k).cond = false) (hcounted : (s.zent k).counted = false)
    (hstate : s.gstate (s.rd ZIT_EW0.group k) ∈ [1, 2]) (hdue : (s.zent k).condAt + s.rd ZIT_EW2.pg_filter k ≤ s.tick) :
    exec (.falseGoodInterval k) s = .next (if (s.zent k).inWatch then
      if s.rd ZIT_EW2.chatter_max k < (s.zent k).chatters + 1 then
        ((s.intervalCounted k).record Ev.SEQ_CHATTER Src.zither [s.rd ZIT_EW0.group k, k, (s.zent k).chatters + 1]).abort
          (s.rd ZIT_EW0.group k) 2 k
      else s.intervalCounted k
     else ((s.intervalCounted k).record Ev.SEQ_PG_LOST Src.zither [s.rd ZIT_EW0.group k, k, s.tick - (s.zent k).condAt]).abort
      (s.rd ZIT_EW0.group k) 3 k) := by
  have h := mem_one_two.mp hstate
  have h1 : 1 ≤ s.gstate (s.rd ZIT_EW0.group k) := by omega
  have h3 : s.gstate (s.rd ZIT_EW0.group k) ≤ 3 := by omega
  exact doIf_pos _ _ (by simp [hup, hsource, hon, hgood, hcond, hcounted, hdue, h1, h3])

theorem falseGoodInterval_counts {s : State} (k : Fin 256) (hup : s.alive = true) (hsource : s.hasSource k = true) (hon : (s.zent k).on = true)
    (hgood : (s.zent k).good = true) (hcond : (s.zent k).cond = false) (hcounted : (s.zent k).counted = false)
    (hstate : s.gstate (s.rd ZIT_EW0.group k) ∈ [1, 2]) (hdue : (s.zent k).condAt + s.rd ZIT_EW2.pg_filter k ≤ s.tick) :
    Does (.falseGoodInterval k) s fun t => Touches [.zither, .msix, .burrow, .twin]
        ([ZIT_GSTAT.abort_entry, ZIT_GSTAT.abort_cause, ZIT_GSTAT.state, ZIT_GTICK.tick] ++ recBits) s t ∧ (t.zent k).counted = true ∧
      ((s.zent k).inWatch = true → (t.zent k).chatters = (s.zent k).chatters + 1 ∧
        ((s.zent k).chatters + 1 ≤ s.rd ZIT_EW2.chatter_max k → t.gstate (s.rd ZIT_EW0.group k) = s.gstate (s.rd ZIT_EW0.group k)) ∧
        (s.rd ZIT_EW2.chatter_max k < (s.zent k).chatters + 1 → t.rd ZIT_GSTAT.abort_cause (s.rd ZIT_EW0.group k) = 2)) ∧
      ((s.zent k).inWatch = false → t.rd ZIT_GSTAT.abort_cause (s.rd ZIT_EW0.group k) = 3) := by
  have hrun := exec_falseGoodInterval k hup hsource hon hgood hcond hcounted hstate hdue
  have hframe := fun t ht => ((execFalseGoodInterval_out k s t ht).touches (bs' := [.zither, .msix, .burrow, .twin])
    (fs := [ZIT_GSTAT.abort_entry, ZIT_GSTAT.abort_cause, ZIT_GSTAT.state, ZIT_GTICK.tick] ++ recBits) rfl rfl)
  have hself : (s.intervalCounted k).zent k = _ := State.setZent_zent_same ..
  have habort (code cause : Nat) (data : List Nat) :=
    State.record_abort (s.intervalCounted k) code Src.zither data (g := s.rd ZIT_EW0.group k) cause k hstate
  by_cases hw : (s.zent k).inWatch = true
  · rw [if_pos hw] at hrun
    by_cases hmax : s.rd ZIT_EW2.chatter_max k < (s.zent k).chatters + 1
    · rw [if_pos hmax] at hrun
      obtain ⟨-, hcause, hzent⟩ := habort Ev.SEQ_CHATTER 2 [s.rd ZIT_EW0.group k, k, (s.zent k).chatters + 1]
      refine ⟨_, hrun, hframe _ hrun, ?_, fun _ => ⟨?_, fun h => absurd hmax (Nat.not_lt.mpr h), fun _ => hcause⟩,
        fun h => absurd (h.symm.trans hw) Bool.false_ne_true⟩
      · obtain h | h := hzent <;> simp [h, hself]
      · obtain h | h := hzent <;> simp [h, hself, hw]
    · rw [if_neg hmax] at hrun
      refine ⟨_, hrun, hframe _ hrun, by rw [hself], fun _ => ⟨by rw [hself]; exact if_pos hw, fun _ => rfl, fun h => absurd h hmax⟩,
        fun h => absurd (h.symm.trans hw) Bool.false_ne_true⟩
  · rw [if_neg hw] at hrun
    obtain ⟨-, hcause, hzent⟩ := habort Ev.SEQ_PG_LOST 3 [s.rd ZIT_EW0.group k, k, s.tick - (s.zent k).condAt]
    refine ⟨_, hrun, hframe _ hrun, ?_, fun h => absurd h hw, fun _ => hcause⟩
    obtain h | h := hzent <;> simp [h, hself]

theorem pgLostDeadline_aborts {s : State} (k : Fin 256) (hup : s.alive = true) (hsource : s.hasSource k = true) (hon : (s.zent k).on = true)
    (hgood : (s.zent k).good = true) (hcond : (s.zent k).cond = false) (hw : (s.zent k).inWatch = true) (hcounted : (s.zent k).counted = true)
    (hlost : (s.zent k).lost = false) (hstate : s.gstate (s.rd ZIT_EW0.group k) ∈ [1, 2])
    (hdue : (s.zent k).condAt + s.rd ZIT_EW2.deadline k * 100 ≤ s.tick) :
    Does (.pgLostDeadline k) s fun t => Touches [.zither, .msix, .burrow, .twin]
        ([ZIT_GSTAT.abort_entry, ZIT_GSTAT.abort_cause, ZIT_GSTAT.state, ZIT_GTICK.tick] ++ recBits) s t ∧ (t.zent k).lost = true ∧
      t.gstate (s.rd ZIT_EW0.group k) ∈ [3, 4] ∧ t.rd ZIT_GSTAT.abort_cause (s.rd ZIT_EW0.group k) = 3 := by
  have h := mem_one_two.mp hstate
  have h1 : 1 ≤ s.gstate (s.rd ZIT_EW0.group k) := by omega
  have h3 : s.gstate (s.rd ZIT_EW0.group k) ≤ 3 := by omega
  have hrun : exec (.pgLostDeadline k) s = .next (((s.setZent k { s.zent k with lost := true }).record Ev.SEQ_PG_LOST Src.zither
      [s.rd ZIT_EW0.group k, k, s.tick - (s.zent k).condAt]).abort (s.rd ZIT_EW0.group k) 3 k) :=
    doIf_pos _ _ (by simp [hup, hsource, hon, hgood, hcond, hw, hcounted, hlost, hdue, h1, h3])
  obtain ⟨hgstate, hcause, hzent⟩ := State.record_abort (s.setZent k { s.zent k with lost := true }) Ev.SEQ_PG_LOST Src.zither
    [s.rd ZIT_EW0.group k, k, s.tick - (s.zent k).condAt] (g := s.rd ZIT_EW0.group k) 3 k hstate
  refine ⟨_, hrun, (execPgLostDeadline_out k s _ hrun).touches rfl rfl, ?_, hgstate, hcause⟩
  rw [State.setZent_zent_same] at hzent
  obtain h | h := hzent <;> simp [h]

/-! ## Power-down -/

theorem powerDownEntryDue_drops {s : State} (k : Fin 256) (hup : s.alive = true) (hstate : s.gstate (s.rd ZIT_EW0.group k) = 3)
    (hon : (s.zent k).on = true) (hdue : (s.zgrp (s.rd ZIT_EW0.group k)).start + s.rd ZIT_EW1.off_delay k * 10 ≤ s.tick) :
    Does (.powerDownEntryDue k) s fun t => Frame [.zither] [] s t ∧
      t.zent k = { s.zent k with phase := 4, on := false, offAt := s.tick } ∧ ∀ j, j ≠ k.val → t.zent j = s.zent j :=
  Does.of_guard rfl (by simp [hup, hstate, hon, hdue])
    ⟨(Frame.refl s _ _).setZent _ _ (by simp), State.setZent_zent_same .., fun _ hj => State.setZent_zent_ne s _ hj⟩

theorem offConfirmed_off {s : State} (k : Fin 256) (hup : s.alive = true) (hstate : s.gstate (s.rd ZIT_EW0.group k) = 3)
    (hphase : (s.zent k).phase = 4) (hsource : s.hasSource k = true) (hbad : s.goodCond k = false)
    (hfilter : max (s.zent k).offAt (s.zent k).condAt + s.rd ZIT_EW2.pg_filter k ≤ s.tick) :
    Does (.offConfirmed k) s fun t => Touches [.zither, .msix, .burrow] (ZIT_GSTAT.state :: recBits) s t ∧
      t.zent k = { s.zent k with phase := 0 } ∧
      ((∀ j ∈ s.groupEntries (s.rd ZIT_EW0.group k), j = k.val ∨ (s.zent j).phase = 0) → t.gstate (s.rd ZIT_EW0.group k) = 4) := by
  have hrun : exec (.offConfirmed k) s = .next ((s.setZent k { s.zent k with phase := 0 }).checkOff (s.rd ZIT_EW0.group k)) :=
    doIf_pos _ _ (by simp [hup, hstate, hphase, hsource, hbad, hfilter])
  refine ⟨_, hrun, (execOffConfirmed_out k s _ hrun).touches rfl rfl, (State.checkOff_zent ..).trans (State.setZent_zent_same ..), fun h => ?_⟩
  refine State.checkOff_gstate_of_off hstate fun j hj => ?_
  by_cases hjk : j = k.val
  · rw [hjk, State.setZent_zent_same]
  · rw [State.setZent_zent_ne s _ hjk]
    exact (h j hj).resolve_left hjk

theorem offDeadlineExpiry_sticks {s : State} (k : Fin 256) (hup : s.alive = true) (hstate : s.gstate (s.rd ZIT_EW0.group k) = 3)
    (hphase : (s.zent k).phase = 4) (hsource : s.hasSource k = true) (hdue : (s.zent k).offAt + s.rd ZIT_EW2.deadline k * 100 ≤ s.tick) :
    Does (.offDeadlineExpiry k) s fun t => Touches [.zither, .msix, .burrow] ([ZIT_GSTAT.off_stuck, ZIT_GSTAT.state] ++ recBits) s t ∧
      t.zent k = { s.zent k with phase := 0 } ∧ t.rd ZIT_GSTAT.off_stuck (s.rd ZIT_EW0.group k) = 1 := by
  have hrun : exec (.offDeadlineExpiry k) s = .next ((((s.setZent k { s.zent k with phase := 0 }).wr ZIT_GSTAT.off_stuck
      (s.rd ZIT_EW0.group k) 1).checkOff (s.rd ZIT_EW0.group k)).record Ev.SEQ_OFF_STUCK Src.zither [s.rd ZIT_EW0.group k, k]) :=
    doIf_pos _ _ (by simp [hup, hstate, hphase, hsource, hdue])
  refine ⟨_, hrun, (execOffDeadlineExpiry_out k s _ hrun).touches rfl rfl, ?_, ?_⟩
  · exact (State.record_zent ..).trans ((State.checkOff_zent ..).trans (State.setZent_zent_same s k _))
  · exact ((State.record_within _ _ _ _).rd _ _ rfl).trans (((State.checkOff_within _ _).rd _ _ rfl).trans (State.rd_wr_lt _ _ (by decide)))

/-- Settles O16: the instants of a run, the aborts by `State.record_abort`. -/
theorem zitherRun : Obligations.ZitherRun :=
  ⟨fun _ k hup hstate hphase hdue hdeps hshadow => entryDue_ramps k hup hstate hphase hdue hdeps hshadow,
    fun _ k hup hstate hphase hsource hgood hfilter => entryGood_notes k hup hstate hphase hsource hgood hfilter,
    fun _ k hup hstate hphase hsource hdue => goodDeadlineExpiry_aborts k hup hstate hphase hsource hdue,
    fun _ k hup hsource hon hgood hcond hcounted hstate hdue =>
      falseGoodInterval_counts k hup hsource hon hgood hcond hcounted hstate hdue,
    fun _ k hup hsource hon hgood hcond hw hcounted hlost hstate hdue =>
      pgLostDeadline_aborts k hup hsource hon hgood hcond hw hcounted hlost hstate hdue,
    fun _ k hup hstate hon hdue => powerDownEntryDue_drops k hup hstate hon hdue,
    fun _ k hup hstate hphase hsource hbad hfilter => offConfirmed_off k hup hstate hphase hsource hbad hfilter,
    fun _ k hup hstate hphase hsource hdue => offDeadlineExpiry_sticks k hup hstate hphase hsource hdue⟩

end Sys2Proof.Machine
end

section
/-!
SUPPORT. The tray tick, a PG input and an input collapse (05, 07, 08): what a boundary does in its one cycle, and the release of the pads.
-/
namespace Sys2Proof.Machine

/-! ## One field of each member of a list -/

/-- What one step does to the member it is for, a list of steps does to every member of the list. -/
theorem each_at {ι σ α : Type} [DecidableEq ι] {step : ι → σ → σ} {proj : σ → ι → α} {f : α → α} (hf : ∀ a, f (f a) = f a)
    (hstep : ∀ i s j, proj (step i s) j = if i = j then f (proj s j) else proj s j) (l : List ι) (s : σ) (j : ι) :
    proj (each l step s) j = if j ∈ l then f (proj s j) else proj s j := by
  induction l generalizing s with
  | nil => rfl
  | cons i l ih =>
    rw [each, ih, hstep]
    by_cases hij : i = j
    · subst hij
      simp [hf]
    · simp [hij, Ne.symm hij]

/-! ## The tray tick -/

/-- What follows on the firmware's acts at a boundary. -/
def State.boundaryRest (s : State) (edge : Bool) (fec : List FecCount) : State :=
  let t := if s.settUp then s.judgeDrops.residency.judgeSpans else s
  let t := if t.coreUp then (((t.judgeWarmAll.syncPorts).countFec fec).tickSubs).twinFrames.slewTick else t
  ((((t.alvTick edge).eventTick).watchWards).deniedSecond).dropSeconds

theorem State.boundaryRest_within (s : State) (edge : Bool) (fec : List FecCount) :
    Within [.engines, .settRest, .zither, .feed, .harps, .msix, .hostRest, .ports, .wards, .burrow, .twin]
      ([1280, 2755, 2756, 2764, 2768, 2781, 2828, 2832, 2944, 3656, 3742, 3776] ++ [3968, 4942, 5952, 6016, 6024, 6032, 6045, 6144, 6238, 6300,
        6301, 6336] ++ [6400, 6914, 7048, 7744, 7808, 9152, 9280, 9344, 9408, 9564]) s (s.boundaryRest edge fec) := by
  have hsett : Within [.engines, .settRest, .zither, .feed, .harps, .msix, .hostRest, .ports, .wards, .burrow, .twin]
      ([1280, 2755, 2756, 2764, 2768, 2781, 2828, 2832, 2944, 3656, 3742, 3776] ++ [3968, 4942, 5952, 6016, 6024, 6032, 6045, 6144, 6238, 6300,
        6301, 6336] ++ [6400, 6914, 7048, 7744, 7808, 9152, 9280, 9344, 9408, 9564]) s
      (if s.settUp then s.judgeDrops.residency.judgeSpans else s) := Within.ite ((((Within.refl _ _ s).step (State.judgeDrops_within _) rfl).step
    (State.residency_within _) rfl).step (State.judgeSpans_within _) rfl) (Within.refl _ _ s)
  exact (((((Within.ite ((((((hsett.step (State.judgeWarmAll_within _) rfl).step (State.syncPorts_within _) rfl).step
    (State.countFec_within _ _) rfl).step (State.tickSubs_within _) rfl).step (State.twinFrames_within _) rfl).step
      (State.slewTick_within _) rfl) hsett).step (State.alvTick_within _ _) rfl).step (State.eventTick_within _) rfl).step
        (State.watchWards_within _) rfl).step (State.deniedSecond_within _) rfl).step (State.dropSeconds_within _) rfl

/-- A state one tick and one µs later. -/
def State.nextTick (s : State) : State := { s with tick := s.tick + 1, bootUs := s.bootUs + 1 }

theorem State.firmwareActs_part_down {s : State} (a : FirmwareActs) (h : s.fwUp = false) : (s.firmwareActs a).part = s.part := by
  simp [State.firmwareActs, State.when, h]

theorem State.firmwareActs_watchdog {s : State} {a : FirmwareActs} {w : BitVec 24} (h : s.fwUp = true) (hw : a.watchdog = some w) :
    (s.firmwareActs a).part.refreshAt = s.bootUs ∧
      (100000 ≤ w.toNat → w.toNat ≤ 10000000 → (s.firmwareActs a).part.watchdogUs = w.toNat) := by
  have hacts : (s.firmwareActs a).part.refreshAt = s.bootUs ∧
      (s.firmwareActs a).part.watchdogUs = if 100000 ≤ w.toNat ∧ w.toNat ≤ 10000000 then w.toNat else s.part.watchdogUs := by
    simp [State.firmwareActs, State.when, h, hw]
  exact ⟨hacts.1, fun h1 h2 => hacts.2.trans (if_pos ⟨h1, h2⟩)⟩

theorem trayTickBoundary_counts {s : State} (edge : Bool) (fec : List FecCount) (acts : FirmwareActs) (hup : s.alive = true) :
    Does (.trayTickBoundary edge fec acts) s fun t => t.tick = s.tick + 1 ∧ t.bootUs = s.bootUs + 1 ∧
      (s.fwUp = true → ∀ w, acts.watchdog = some w → t.part.refreshAt = s.bootUs + 1 ∧
        (100000 ≤ w.toNat → w.toNat ≤ 10000000 → t.part.watchdogUs = w.toNat)) ∧
      (s.fwUp = false → t.part = s.part) ∧
      Touches [.tick, .bootUs, .part, .sense, .engines, .settRest, .zither, .feed, .harps, .msix, .hostRest, .ports, .wards, .burrow, .twin]
        ([ZIT_GSTAT.up_pending, ZIT_GSTAT.abort_entry, ZIT_GSTAT.abort_cause, ZIT_GSTAT.cmd_status, ZIT_GSTAT.state, ZIT_STAT.check_code,
          ZIT_STAT.check_entry, ZIT_GTICK.tick, HARP_WCTL.floor, HARP_WSTAT.code, HARP_WUPS.ups, HARP_WRES.us, MRT_JSTAT.state,
          WPORT_CTL.enable, WPORT_STAT.outstanding, WPORT_STAT.retrains, WPORT_STAT.cmd_status, WPORT_STAT.state, WPORT_ERR.req_to,
          WPORT_LSCFG.enable, WPORT_LSSTAT.limited, WPORT_LSSTAT.state, WPORT_FECCOR.count, WPORT_FECUNC.count, RING_STAT.outstanding,
          CQ_TAIL.index, RING_ERR.bad_desc, SETT_ENG_CTL.obj, TWIN_STAT.alv] ++ recBits) s t := by
  have hrun : exec (.trayTickBoundary edge fec acts) s =
      .next (s.inOneCycle fun s => (s.nextTick.firmwareActs acts).boundaryRest edge fec) := doIf_pos _ _ hup
  obtain ⟨b, hb⟩ := s.inOneCycle_from fun s => (s.nextTick.firmwareActs acts).boundaryRest edge fec
  generalize hu : ({ s with burrow := b } : State).nextTick = u at hb
  have hrest := (State.boundaryRest_within (u.firmwareActs acts) edge fec).step hb rfl
  have hacts := State.firmwareActs_within u acts
  have hpart : _ = (u.firmwareActs acts).part := hrest.block .part rfl
  have htick := (hrest.block .tick rfl).trans (hacts.block .tick rfl)
  have hboot := (hrest.block .bootUs rfl).trans (hacts.block .bootUs rfl)
  have hfw : u.fwUp = s.fwUp := by
    subst hu
    rfl
  have hutick : u.tick = s.tick + 1 ∧ u.bootUs = s.bootUs + 1 ∧ u.part = s.part := by
    subst hu
    exact ⟨rfl, rfl, rfl⟩
  refine ⟨_, hrun, htick.trans hutick.1, hboot.trans hutick.2.1, fun h w hw => ?fwUp, fun h => ?down,
    (execTrayTickBoundary_out edge fec acts s _ hrun).touches rfl rfl⟩
  case fwUp =>
    obtain ⟨hat, hus⟩ := State.firmwareActs_watchdog (hfw.trans h) hw
    rw [hpart]
    exact ⟨hat.trans hutick.2.1, hus⟩
  case down => rw [hpart, State.firmwareActs_part_down acts (hfw.trans h), hutick.2.2]

/-! ## A PG input -/

theorem State.judgeEntry_on (s : State) (k j : Nat) : ((s.judgeEntry k).zent j).on = (s.zent j).on := by
  unfold State.judgeEntry
  dsimp only
  split
  · rfl
  · rw [State.setZent_zent]
    split
    · rename_i h
      rw [h]
    · rfl

theorem State.judgeEntry_pgHigh (s : State) (k : Nat) : (s.judgeEntry k).zither.pgHigh = s.zither.pgHigh := by
  unfold State.judgeEntry
  dsimp only
  split <;> rfl

theorem State.judgeEntries_on (s : State) (j : Nat) : (s.judgeEntries.zent j).on = (s.zent j).on :=
  each_keeps (P := fun t : State => (t.zent j).on = (s.zent j).on) (fun k u hu => (u.judgeEntry_on k j).trans hu) _ rfl

theorem State.judgeEntries_pgHigh (s : State) : s.judgeEntries.zither.pgHigh = s.zither.pgHigh :=
  each_keeps (P := fun t : State => t.zither.pgHigh = s.zither.pgHigh) (fun k u hu => (u.judgeEntry_pgHigh k).trans hu) _ rfl

theorem Frame.judgeEntry {bs : List Block} {fs : List (Fld × Nat)} {s t : State} (h : Frame bs fs s t) (k : Nat) (hb : .zither ∈ bs) :
    Frame bs fs s (t.judgeEntry k) := Frame.ite h (h.setZent _ _ hb)

theorem Frame.judgeEntries {bs : List Block} {fs : List (Fld × Nat)} {s t : State} (h : Frame bs fs s t) (hb : .zither ∈ bs) :
    Frame bs fs s t.judgeEntries := each_keeps (P := Frame bs fs s) (fun k _ hu => hu.judgeEntry k hb) _ h

/-- The high PG inputs with one input's level taken. -/
def pgLevels (l : List Nat) (pin : Nat) (high : Bool) : List Nat := if high then pin :: l.filter (· != pin) else l.filter (· != pin)

theorem pgLevels_contains (l : List Nat) (pin : Nat) (high : Bool) (p : Nat) :
    (pgLevels l pin high).contains p = if p = pin then high else l.contains p := by
  rw [Bool.eq_iff_iff, List.contains_iff_mem]
  cases high <;> by_cases h : p = pin <;> simp [pgLevels, h]

/-- A state with the level of a PG input taken. -/
def State.pinTaken (s : State) (pin : Nat) (high : Bool) : State :=
  { s with zither := { s.zither with pgHigh := pgLevels s.zither.pgHigh pin high } }

theorem pgChange_takes {s : State} (pin : Fin 128) (high : Bool) (hup : s.alive = true) :
    Does (.pgChange pin high) s fun t => Frame [.zither] [] s t ∧ t.zither.pgHigh.contains pin.val = high ∧
      (∀ p, p ≠ pin.val → t.zither.pgHigh.contains p = s.zither.pgHigh.contains p) ∧ (∀ k, (t.zent k).on = (s.zent k).on) := by
  have hrun : exec (.pgChange pin high) s = .next (s.pinTaken pin high).judgeEntries := doIf_pos _ _ hup
  have hpins : (s.pinTaken pin high).judgeEntries.zither.pgHigh = pgLevels s.zither.pgHigh pin high := State.judgeEntries_pgHigh _
  refine ⟨_, hrun, ?frame, ?pin, fun p hp => ?others, fun k => State.judgeEntries_on _ k⟩
  case frame => exact Frame.judgeEntries ((Frame.refl s [.zither] []).zither _ (by simp)) (by simp)
  case pin => rw [hpins, pgLevels_contains, if_pos rfl]
  case others => rw [hpins, pgLevels_contains, if_neg hp]

/-! ## An input collapse -/

/-- The state of a group whose pads are released (R168 step 4). -/
def dwellState (n : Nat) : Nat := if n = 0 then 0 else 4

theorem dwellState_dwellState (n : Nat) : dwellState (dwellState n) = dwellState n := by
  unfold dwellState
  split <;> rfl

/-- The release of the pads for one group. -/
def State.releaseGroup (s : State) (g : Nat) : State :=
  if s.gstate g = 0 then s else
    let s := if s.gstate g = 4 then s else s.wr ZIT_GSTAT.abort_cause g 6
    (s.setZgrp g { s.zgrp g with dwellEnd := s.tick + s.rd ZIT_GCTL.t_off_min g * 1000 }).wr ZIT_GSTAT.state g 4

theorem State.releaseGroup_gstate (g : Nat) (s : State) (h : Nat) :
    (s.releaseGroup g).gstate h = if g = h then dwellState (s.gstate h) else s.gstate h := by
  unfold State.releaseGroup dwellState
  by_cases hg : g = h
  · subst hg
    rw [if_pos rfl]
    split
    · assumption
    · exact State.rd_wr_lt _ _ (by decide)
  · rw [if_neg hg]
    split
    · rfl
    · refine (State.rd_wr_inst _ _ _ _ _ hg).trans ?_
      rw [State.setZgrp_rd]
      split
      · rfl
      · exact State.rd_wr_ne _ _ _ _ rfl

/-- The pads released and every entry off, before the groups. -/
def State.padsOff (s : State) : State :=
  let s := { s with zither := { s.zither with released := true, redriveFrom := none } }
  each (s.zither.entries.map (·.1)) (fun k s => s.setZent k { s.zent k with phase := 0, on := false }) s

theorem State.releasePads_eq (s : State) : s.releasePads = each (List.range 16) (fun g s => s.releaseGroup g) s.padsOff := rfl

theorem State.padsOff_gstate (s : State) (g : Nat) : s.padsOff.gstate g = s.gstate g :=
  each_keeps (P := fun t : State => t.gstate g = s.gstate g) (f := fun k s => s.setZent k { s.zent k with phase := 0, on := false })
    (fun _ _ hu => hu) _ rfl

theorem State.releasePads_gstate (s : State) {g : Nat} (hg : g < 16) : s.releasePads.gstate g = dwellState (s.gstate g) := by
  have h := each_at dwellState_dwellState State.releaseGroup_gstate (List.range 16) s.padsOff g
  rw [State.padsOff_gstate, if_pos (List.mem_range.mpr hg)] at h
  rw [State.releasePads_eq]
  exact h

/-- The pads released at a collapse, with the insertion state taken to WAIT. -/
def State.collapseTaken (s : State) : State :=
  let t := s.releasePads
  let t := if t.insActive then t.ghsLow.setIns 0 else t
  t.wr FEED_STAT.collapse 0 1

theorem Burrow.collapse_batch (b : Burrow) (good : Bool) (l : List Rec) : (b.collapse good l).batch = b.batch := by
  unfold Burrow.collapse
  split
  · rfl
  · rfl
  · split <;> rfl
  · rfl

theorem exec_inputCollapse {s : State} (hup : s.alive = true) (hc : s.collapsed = true) (hnew : s.bit FEED_STAT.collapse 0 = false) :
    ∃ t, exec .inputCollapse s = .next t ∧ Within [.feed, .msix, .burrow] recCodes s.collapseTaken t := by
  refine ⟨_, doIf_pos _ _ (by simp [hup, hc, hnew]), ?_⟩
  have hspans := (Within.refl [.feed, .msix, .burrow] recCodes s.collapseTaken).step (State.judgeSpans_within _) rfl
  refine Within.step (Within.step (Within.step (Within.set_burrow _ hspans rfl ?_) (State.offerMirror_within _ _) rfl)
    (State.offerMirror_within _ _) rfl) (State.eventInt_within _) rfl
  exact fun hq => (Burrow.collapse_batch _ _ _).trans hq

theorem inputCollapse_releases {s : State} (hup : s.alive = true) (hc : s.collapsed = true) (hnew : s.bit FEED_STAT.collapse 0 = false) :
    Does .inputCollapse s fun t => Touches [.zither, .feed, .msix, .burrow, .twin]
        ([ZIT_GSTAT.abort_cause, ZIT_GSTAT.state, FEED_STAT.collapse, FEED_STAT.ins_state] ++ recBits) s t ∧
      t.zither.released = true ∧ t.rd FEED_STAT.collapse 0 = 1 ∧ (∀ k, (t.zent k).on = false) ∧
      (∀ g, g < 16 → t.gstate g = (if s.gstate g = 0 then 0 else 4)) ∧ (s.insActive = true → t.ins = 0) := by
  obtain ⟨t, hrun, ht⟩ := exec_inputCollapse hup hc hnew
  have hpads := State.releasePads_padsReleased s
  have hins : Within [.feed, .twin] [3357] s.releasePads (if s.releasePads.insActive then s.releasePads.ghsLow.setIns 0 else s.releasePads) :=
    Within.ite (((Within.refl _ _ _).step (State.ghsLow_within _) rfl).step (State.setIns_within _ _) rfl) (Within.refl _ _ _)
  have htaken : Within [.feed, .twin] [3329, 3357] s.releasePads s.collapseTaken :=
    ((Within.refl _ _ _).step hins rfl).wr FEED_STAT.collapse 0 1 rfl
  have hzither : t.zither = s.releasePads.zither := (ht.block .zither rfl).trans (htaken.block .zither rfl)
  refine ⟨t, hrun, (execInputCollapse_out s t hrun).touches rfl rfl, by rw [hzither]; exact hpads.1,
    (ht.rd _ _ rfl).trans (State.rd_wr_lt _ _ (by decide)), fun k => ?on, fun g hg => ?state, fun h => ?ins⟩
  case on =>
    rw [State.zent, hzither]
    exact hpads.2 k
  case state => exact (ht.gstate rfl g).trans ((htaken.gstate rfl g).trans (s.releasePads_gstate hg))
  case ins =>
    have hactive : s.releasePads.insActive = true := by
      have hkeep := (State.releasePads_within s).rd FEED_STAT.ins_state 0 rfl
      simpa only [State.insActive, State.ins, hkeep] using h
    refine (ht.rd _ _ rfl).trans ((State.rd_wr_ne _ _ _ _ rfl).trans ?_)
    rw [if_pos hactive]
    exact State.setIns_ins _ 0

/-- Settles O17: the boundary by `State.boundaryRest_within`, the PG input, and the collapse by the release of the pads. -/
theorem tickAndCollapse : Obligations.TickAndCollapse :=
  ⟨fun _ edge fec acts hup => trayTickBoundary_counts edge fec acts hup, fun _ pin high hup => pgChange_takes pin high hup,
    fun _ hup hc hnew => inputCollapse_releases hup hc hnew⟩

end Sys2Proof.Machine
end

section
/-!
SUPPORT. Feed commands and the lever (08, R193, R195).
-/
namespace Sys2Proof.Machine

/-! ## A command that only one group feels -/

theorem State.checkOff_gstate_ne (s : State) {g h : Nat} (hne : g ≠ h) : (s.checkOff g).gstate h = s.gstate h := by
  unfold State.checkOff
  split
  · exact ((State.record_within _ _ _ _).gstate rfl h).trans (State.rd_wr_inst _ _ _ _ _ hne)
  · rfl

theorem State.goDown_gstate_ne (s : State) {g h : Nat} (cause : Nat) (hne : g ≠ h) : (s.goDown g cause).gstate h = s.gstate h := by
  by_cases hrun : s.gstate g = 1 ∨ s.gstate g = 2
  · rw [State.goDown_eq cause hrun, State.checkOff_gstate_ne _ hne, (State.cancelEntries_within _ _).gstate rfl,
      (State.wentDown_start_within s g cause).gstate rfl]
    exact (State.rd_wr_ne _ _ _ _ rfl).trans (State.rd_wr_inst _ _ _ _ _ hne)
  · rw [State.goDown, if_neg hrun]

theorem State.powerDown_gstate_ne (s : State) {g h : Nat} (hne : g ≠ h) : (s.powerDown g).gstate h = s.gstate h := by
  have hok := (s.statusOk_within g).gstate rfl h
  by_cases hrun : s.gstate g = 1 ∨ s.gstate g = 2
  · rw [State.powerDown_runs hrun, State.goDown_gstate_ne _ _ hne, hok]
  · by_cases h4 : s.gstate g = 4
    · rw [State.powerDown_dwells h4]
      exact (State.rd_wr_ne _ _ _ _ rfl).trans hok
    · rw [State.powerDown_rest (fun h1 => hrun (.inl h1)) (fun h2 => hrun (.inr h2)) h4, hok]

/-- A group that runs powered down (R195). -/
def State.downIfRuns (s : State) (g : Nat) : State := if s.gstate g = 1 ∨ s.gstate g = 2 then s.powerDown g else s

theorem State.downIfRuns_gstate (s : State) (g : Nat) : (s.downIfRuns g).gstate g ∉ [1, 2] := by
  unfold State.downIfRuns
  split
  case isTrue h =>
    have h' : (s.statusOk g).gstate g = 1 ∨ (s.statusOk g).gstate g = 2 := by rw [(s.statusOk_within g).gstate rfl]; exact h
    rw [State.powerDown_runs h]
    have hdown := State.goDown_gstate (if s.gstate g = 1 then 9 else 0) h'
    simp only [List.mem_cons, List.not_mem_nil, or_false] at hdown ⊢
    omega
  case isFalse h => rwa [mem_one_two]

theorem State.downIfRuns_gstate_ne (s : State) {g h : Nat} (hne : g ≠ h) : (s.downIfRuns g).gstate h = s.gstate h := by
  unfold State.downIfRuns
  split
  · exact State.powerDown_gstate_ne s hne
  · rfl

theorem State.downIfRuns_within (s : State) (g : Nat) :
    Within [.zither, .msix, .burrow, .twin] [2755, 2764, 2768, 2781, 2944, 6914, 9152, 9280, 9344, 9408] s (s.downIfRuns g) :=
  Within.ite (State.powerDown_within s g) (Within.refl _ _ s)

/-- After every group of a list has been powered down, none of them runs. -/
theorem each_downIfRuns_gstate (l : List Nat) (s : State) {g : Nat} (h : g ∈ l ∨ s.gstate g ∉ [1, 2]) :
    (each l (fun g s => s.downIfRuns g) s).gstate g ∉ [1, 2] := by
  induction l generalizing s with
  | nil => exact h.resolve_left List.not_mem_nil
  | cons i l ih =>
    refine ih (s.downIfRuns i) ?_
    by_cases hig : i = g
    · subst hig
      exact .inr (s.downIfRuns_gstate i)
    · rw [State.downIfRuns_gstate_ne s hig]
      exact h.imp_left fun hm => (List.mem_cons.mp hm).resolve_left (Ne.symm hig)

/-! ## CLEAR, FORCE_OFF and RELEASE -/

/-- The end of a feed command: its status, and its completion. -/
def State.feedDone (s : State) (via : Via) (status : Nat) : State := (s.wr FEED_STAT.cmd_status 0 status).finish via status

theorem State.feedCmd_next {s : State} {cmd : Nat} {via : Via} {r : State × Nat} (hup : s.fwUp = true)
    (hgiven : (s.given via 0x0401 fun d => descParam d 0x2C 1 == cmd) = true) (hshadow : s.shadow_ = false) :
    s.feedCmd cmd via r = .next (r.1.feedDone via r.2) := by
  refine (doIf_pos _ _ (by rw [hup, hgiven]; rfl)).trans (congrArg Host.Outcome.next (if_neg ?_))
  simp [hshadow]

theorem State.feedDone_status (s : State) (via : Via) : (s.feedDone via St.ok).rd FEED_STAT.cmd_status 0 = St.ok :=
  ((State.finish_within _ via _ 0 0 false).rd _ _ rfl).trans (State.rd_wr_lt _ _ (by decide))

theorem State.feedDone_rd (s : State) (via : Via) (status : Nat) {f : Fld} (i : Nat)
    (h : (decide (FEED_STAT.cmd_status.code ≠ f.code) && FEED_STAT.cmd_status.ok && f.ok) = true)
    (hf : (!([7048, 7744, 7808] : List Nat).contains f.code && f.ok) = true) : (s.feedDone via status).rd f i = s.rd f i :=
  ((State.finish_within _ via _ 0 0 false).rd f i hf).trans (State.rd_wr_ne _ _ _ _ h)

/-- What CLEAR does of a LATCHED path, up to its record. -/
def State.latchCleared (s : State) : State :=
  let t := s.setIns 0
  let t := if s.rd FEED_STAT.gda 0 == 3 then t.wr FEED_STAT.gda 0 0 else t
  let t := if s.rd FEED_STAT.gdb 0 == 3 then t.wr FEED_STAT.gdb 0 0 else t
  t.wr FEED_STAT.retry_count 0 0

theorem State.feedClear_of_latched {s : State} (h : s.ins = 4) : s.feedClear 0 = some (s.latchCleared.record Ev.FEED_CLEARED Src.feed
    [1 + 2 * (s.rd FEED_STAT.gda 0 == 3).toNat + 4 * (s.rd FEED_STAT.gdb 0 == 3).toNat, 0]) := by
  simp [State.feedClear, State.latchCleared, h]

theorem State.latchCleared_ins (s : State) : s.latchCleared.ins = 0 := by
  have hwrite {p : Prop} [Decidable p] (t : State) (f : Fld) (hf : (decide (f.code ≠ FEED_STAT.ins_state.code) && f.ok &&
      FEED_STAT.ins_state.ok) = true) : (if p then t.wr f 0 0 else t).rd FEED_STAT.ins_state 0 = t.rd FEED_STAT.ins_state 0 :=
    State.rd_ite_wr_ne t 0 0 hf
  refine (State.rd_wr_ne _ _ _ _ rfl).trans ((hwrite _ FEED_STAT.gdb rfl).trans ((hwrite _ FEED_STAT.gda rfl).trans ?_))
  exact State.setIns_ins s 0

theorem feedClear_clears {s : State} (via : Via) (hup : s.fwUp = true) (hgiven : (s.given via 0x0401 fun d => descParam d 0x2C 1 == 1) = true)
    (hshadow : s.shadow_ = false) (hins : s.ins = 4) :
    Does (.feedClear via) s fun t => Touches [.msix, .hostRest, .burrow, .twin]
        ([FEED_STAT.gdb, FEED_STAT.gda, FEED_STAT.retry_count, FEED_STAT.cmd_status, FEED_STAT.ins_state, RING_STAT.outstanding,
          CQ_TAIL.index, RING_ERR.bad_desc] ++ recBits) s t ∧
      t.ins = 0 ∧ t.rd FEED_STAT.retry_count 0 = 0 ∧ t.rd FEED_STAT.cmd_status 0 = St.ok := by
  have hrun : exec (.feedClear via) s = .next ((s.latchCleared.record Ev.FEED_CLEARED Src.feed
      [1 + 2 * (s.rd FEED_STAT.gda 0 == 3).toNat + 4 * (s.rd FEED_STAT.gdb 0 == 3).toNat, 0]).feedDone via St.ok) := by
    refine (State.feedCmd_next hup hgiven hshadow).trans ?_
    rw [State.feedClear_of_latched hins]
  refine ⟨_, hrun, (execFeedClear_out via s _ hrun).touches rfl rfl, ?ins, ?retry, State.feedDone_status _ via⟩
  case ins =>
    exact (State.feedDone_rd _ via _ 0 rfl rfl).trans (((State.record_within _ _ _ _).rd _ _ rfl).trans s.latchCleared_ins)
  case retry =>
    exact (State.feedDone_rd _ via _ 0 rfl rfl).trans (((State.record_within _ _ _ _).rd _ _ rfl).trans (State.rd_wr_lt _ _ (by decide)))

theorem forceOff_forces {s : State} (via : Via) (hup : s.fwUp = true) (hgiven : (s.given via 0x0401 fun d => descParam d 0x2C 1 == 2) = true)
    (hshadow : s.shadow_ = false) (hdown : s.allGroupsDown = true) (hins : s.ins ≤ 3) :
    Does (.forceOff via) s fun t => Touches [.feed, .msix, .hostRest, .twin]
        [FEED_STAT.cmd_status, FEED_STAT.ins_state, RING_STAT.outstanding, CQ_TAIL.index, RING_ERR.bad_desc] s t ∧
      t.ins = 7 ∧ t.rd FEED_STAT.cmd_status 0 = St.ok := by
  have hrun : exec (.forceOff via) s = .next ((s.ghsLow.setIns 7).feedDone via St.ok) := by
    refine (State.feedCmd_next hup hgiven hshadow).trans ?_
    rw [if_pos (by simp [hdown, hins])]
  exact ⟨_, hrun, (execForceOff_out via s _ hrun).touches rfl rfl,
    (State.feedDone_rd _ via _ 0 rfl rfl).trans (State.setIns_ins s.ghsLow 7), State.feedDone_status _ via⟩

theorem feedRelease_releases {s : State} (via : Via) (hup : s.fwUp = true)
    (hgiven : (s.given via 0x0401 fun d => descParam d 0x2C 1 == 3) = true) (hshadow : s.shadow_ = false) (hins : s.ins = 7) :
    Does (.feedRelease via) s fun t => Touches [.msix, .hostRest, .twin]
        [FEED_STAT.cmd_status, FEED_STAT.ins_state, RING_STAT.outstanding, CQ_TAIL.index, RING_ERR.bad_desc] s t ∧
      t.ins = 0 ∧ t.rd FEED_STAT.cmd_status 0 = St.ok := by
  have hrun : exec (.feedRelease via) s = .next ((s.setIns 0).feedDone via St.ok) := by
    refine (State.feedCmd_next hup hgiven hshadow).trans ?_
    rw [if_pos hins]
  exact ⟨_, hrun, (execFeedRelease_out via s _ hrun).touches rfl rfl,
    (State.feedDone_rd _ via _ 0 rfl rfl).trans (State.setIns_ins s 0), State.feedDone_status _ via⟩

/-! ## The lever -/

/-- The latch of the lever written and the spans judged, before the record. -/
def State.leverTaken (s : State) (v : Nat) : State := (s.wr FEED_STAT.lever_latched 0 v).judgeSpans

theorem State.leverTaken_frame (s : State) (v : Nat) : Frame [.feed] [(FEED_STAT.lever_latched, 0)] s (s.leverTaken v) :=
  Frame.feed ((Frame.refl s _ _).wr _ _ _ (by simp)) _ (by simp)

theorem State.leverTaken_latched (s : State) {v : Nat} (hv : v < 2) : (s.leverTaken v).rd FEED_STAT.lever_latched 0 = v :=
  ((State.judgeSpans_within _).rd _ _ rfl).trans (State.rd_wr_lt _ _ hv)

/-- Removal begun at the lever's opening, before the groups are powered down. -/
def State.removing (s t : State) : State :=
  ({ t with feed := { t.feed with
    ghsHigh := true, ghsAt := if s.feed.ghsHigh then s.feed.ghsAt else s.bootUs, removeEnd := s.bootUs + s.rd FEED_REMOVE.t_lever 0 * 1000 } }
    ).setIns 6

theorem exec_leverOpen {s : State} (hup : s.alive = true) : exec .leverOpen s =
    .next (if s.bit FEED_CTL.lever_act 0 && (s.ins == 1 || s.ins == 2) then
      each (List.range 16) (fun g s => s.downIfRuns g) (s.removing ((s.leverTaken 0).record Ev.FEED_LEVER_OPEN Src.feed [s.ins]))
    else (s.leverTaken 0).record Ev.FEED_LEVER_OPEN Src.feed [s.ins]) := doIf_pos _ _ hup

theorem leverOpen_records {s : State} (hup : s.alive = true) (h : s.bit FEED_CTL.lever_act 0 = false ∨ s.ins ∉ [1, 2]) :
    Records .leverOpen s Ev.FEED_LEVER_OPEN Src.feed [s.ins] fun u =>
      Frame [.feed] [(FEED_STAT.lever_latched, 0)] s u ∧ u.rd FEED_STAT.lever_latched 0 = 0 := by
  refine ⟨s.leverTaken 0, (exec_leverOpen hup).trans (congrArg Host.Outcome.next (if_neg ?_)), s.leverTaken_frame 0,
    s.leverTaken_latched (by decide)⟩
  rw [mem_one_two] at h
  simp only [Bool.and_eq_true, Bool.or_eq_true, beq_iff_eq]
  rintro ⟨hact, hins⟩
  exact h.elim (fun hno => Bool.false_ne_true (hno.symm.trans hact)) fun hno => hno hins

theorem leverOpen_removes {s : State} (hup : s.alive = true) (hact : s.bit FEED_CTL.lever_act 0 = true) (hins : s.ins ∈ [1, 2]) :
    Does .leverOpen s fun t => Touches [.zither, .feed, .msix, .burrow, .twin]
        ([ZIT_GSTAT.up_pending, ZIT_GSTAT.abort_cause, ZIT_GSTAT.cmd_status, ZIT_GSTAT.state, ZIT_GTICK.tick, FEED_STAT.lever_latched,
          FEED_STAT.ins_state] ++ recBits) s t ∧
      t.ins = 6 ∧ t.rd FEED_STAT.lever_latched 0 = 0 ∧ ∀ g, g < 16 → t.gstate g ∉ [1, 2] := by
  rw [mem_one_two] at hins
  have hrun := (exec_leverOpen hup).trans (congrArg Host.Outcome.next (if_pos (by simpa [hact] using hins)))
  have hdown (t : State) : Within [.zither, .msix, .burrow, .twin] [2755, 2764, 2768, 2781, 2944, 6914, 9152, 9280, 9344, 9408] t
      (each (List.range 16) (fun g s => s.downIfRuns g) t) :=
    Within.each _ _ (Within.refl _ _ t) fun g _ u hu => hu.step (u.downIfRuns_within g) rfl
  refine ⟨_, hrun, (execLeverOpen_out s _ hrun).touches rfl rfl, ?ins, ?latched, fun g hg => each_downIfRuns_gstate _ _ (.inl (List.mem_range.mpr hg))⟩
  case ins => exact ((hdown _).rd _ _ rfl).trans (State.setIns_ins _ 6)
  case latched =>
    exact ((hdown _).rd _ _ rfl).trans (((State.setIns_within _ _).rd _ _ rfl).trans (((State.record_within _ _ _ _).rd _ _ rfl).trans
      (s.leverTaken_latched (by decide))))

theorem leverClosed_latches {s : State} (hup : s.alive = true) :
    Records .leverClosed s Ev.FEED_LEVER_CLOSED Src.feed [s.ins] fun u =>
      Frame [.feed] [(FEED_STAT.lever_latched, 0)] s u ∧ u.rd FEED_STAT.lever_latched 0 = 1 :=
  ⟨s.leverTaken 1, doIf_pos _ _ hup, s.leverTaken_frame 1, s.leverTaken_latched (by decide)⟩

/-- Settles O20: the three commands, and the lever. -/
theorem feedCommands : Obligations.FeedCommands :=
  ⟨fun _ via hup hgiven hshadow hins => feedClear_clears via hup hgiven hshadow hins,
    fun _ via hup hgiven hshadow hdown hins => forceOff_forces via hup hgiven hshadow hdown hins,
    fun _ via hup hgiven hshadow hins => feedRelease_releases via hup hgiven hshadow hins,
    fun _ hup => ⟨leverOpen_records hup, leverOpen_removes hup⟩, fun _ hup => leverClosed_latches hup⟩

end Sys2Proof.Machine
end

section
/-!
SUPPORT. The harp arbiter, the AVSBus masters and the governors (09): a request stands while codes rise, a master's next frame, what a tick of a
governor asks for, and what it commits.
-/
namespace Sys2Proof.Machine

/-! ## Requests and codes -/

/-- The fields that a ward's request is read from. -/
def requestFlds : List Fld :=
  [RFX_ACT.wards, RFX_ACT.harp, HARP_GSTAT.obj_excl, HARP_WSTAT.walrt, HARP_WCTL.walrt_code, HARP_WCTL.floor]

theorem State.harpRequest_congr {s t : State} {w : Nat} (hsetts : t.setts = s.setts) (hwards : t.rd RFX_ACT.wards = s.rd RFX_ACT.wards)
    (hharp : t.rd RFX_ACT.harp = s.rd RFX_ACT.harp) (hexcl : t.bit HARP_GSTAT.obj_excl = s.bit HARP_GSTAT.obj_excl) :
    t.rfxCode w = s.rfxCode w ∧ t.objCode w = s.objCode w := by
  unfold State.rfxCode State.harpRules State.objCode State.requests
  rw [hsetts, hwards, hharp, hexcl]
  exact ⟨rfl, rfl⟩

/-- A ward's request is read from the rules, the outputs and these fields alone. -/
theorem Within.harpRequest {bs : List Block} {cs : List Nat} {s t : State} (h : Within bs cs s t)
    (hb : (bs.contains .engines || bs.contains .sharedMemory || bs.contains .settRest) = false)
    (hc : requestFlds.all (fun f => !cs.contains f.code && f.ok) = true) (w : Nat) : t.harpRequest w = s.harpRequest w := by
  simp only [requestFlds, List.all_cons, List.all_nil, Bool.and_true, Bool.and_eq_true (a := _ && _)] at hc
  obtain ⟨hwards, hharp, hexcl, hwalrt, hcode, hfloor⟩ := hc
  obtain ⟨hrfx, hobj⟩ := State.harpRequest_congr (w := w) (h.setts hb) (h.rd_fun hwards) (h.rd_fun hharp) (h.bit_fun hexcl)
  unfold State.harpRequest State.walrtCode
  rw [hrfx, hobj, h.bit_fun hwalrt, h.rd_fun hcode, h.rd_fun hfloor]

theorem State.harpRaise_request (s : State) (v w : Nat) : (s.harpRaise v).harpRequest w = s.harpRequest w :=
  (State.harpRaise_within s v).harpRequest rfl rfl w

theorem State.harpRaise_code_ne (s : State) {v w : Nat} (h : v ≠ w) : (s.harpRaise v).rd HARP_WSTAT.code w = s.rd HARP_WSTAT.code w := by
  have hraised (t : State) (r : Nat) : ((t.wr HARP_WSTAT.code v r).addSat HARP_WUPS.ups v 1).rd HARP_WSTAT.code w = t.rd HARP_WSTAT.code w :=
    (State.rd_wr_ne _ _ _ _ rfl).trans (State.rd_wr_inst _ _ _ _ _ h)
  unfold State.harpRaise
  dsimp only
  split
  · split
    · exact ((State.record_within _ _ _ _).rd _ _ rfl).trans (hraised _ _)
    · exact hraised _ _
  · rfl

theorem State.harpRaise_code_same {s : State} {w : Nat} (h : s.harpRequest w ≤ 3) : s.harpRequest w ≤ (s.harpRaise w).rd HARP_WSTAT.code w := by
  have hraised (t : State) : ((t.wr HARP_WSTAT.code w (s.harpRequest w)).addSat HARP_WUPS.ups w 1).rd HARP_WSTAT.code w = s.harpRequest w :=
    (State.rd_wr_ne _ _ _ _ rfl).trans (State.rd_wr_lt t w (Nat.lt_of_le_of_lt h (by decide)))
  unfold State.harpRaise
  dsimp only
  split
  case isTrue =>
    split
    · exact Nat.le_of_eq (((State.record_within _ _ _ _).rd _ _ rfl).trans (hraised _)).symm
    · exact Nat.le_of_eq (hraised _).symm
  case isFalse hge => exact Nat.not_lt.mp hge

theorem each_harpRaise_code (l : List Nat) (s : State) {w r : Nat} (hr : s.harpRequest w = r) (h3 : r ≤ 3)
    (h : w ∈ l ∨ r ≤ s.rd HARP_WSTAT.code w) : r ≤ (each l (fun w s => s.harpRaise w) s).rd HARP_WSTAT.code w := by
  induction l generalizing s with
  | nil => exact h.resolve_left List.not_mem_nil
  | cons v l ih =>
    refine ih (s.harpRaise v) ((s.harpRaise_request v w).trans hr) ?_
    by_cases hvw : v = w
    · subst hvw hr
      exact .inr (State.harpRaise_code_same h3)
    · rw [State.harpRaise_code_ne s hvw]
      exact h.imp_left fun hm => (List.mem_cons.mp hm).resolve_left (Ne.symm hvw)

/-- A judged ward has at least the code that is requested. -/
theorem State.harpJudge_code {s : State} {w : Nat} (hup : s.settUp = true) (hw : w < 8) (h3 : s.harpRequest w ≤ 3) :
    s.harpRequest w ≤ s.harpJudge.rd HARP_WSTAT.code w := by
  rw [State.harpJudge, State.when, if_pos hup]
  exact each_harpRaise_code _ s rfl h3 (.inl (List.mem_range.mpr hw))

theorem Frame.harps {bs : List Block} {fs : List (Fld × Nat)} {s t : State} (h : Frame bs fs s t) (z : Tab Harp) (hb : .harps ∈ bs) :
    Frame bs fs s { t with harps := z } :=
  h.upd (fun b hn => by cases b <;> simp_all [Block.same]) rfl

theorem Frame.setHarp {bs : List Block} {fs : List (Fld × Nat)} {s t : State} (h : Frame bs fs s t) (w : Nat) (x : Harp) (hb : .harps ∈ bs) :
    Frame bs fs s (t.setHarp w x) := h.harps _ hb

@[simp] theorem State.setHarp_harp_same (s : State) (w : Nat) (x : Harp) : (s.setHarp w x).harp w = x :=
  (State.setHarp_harp ..).trans (if_pos rfl)

theorem holdExpiry_falls {s : State} (w : Fin 8) (hup : s.settUp = true) (hlow : s.harpRequest w < s.rd HARP_WSTAT.code w)
    (hdue : (s.harp w).changeAt + s.rd HARP_WCTL.hold w ≤ s.bootUs) :
    Does (.holdExpiry w) s fun t => Frame [.harps] [(HARP_WSTAT.code, w.val)] s t ∧ (t.harp w).changeAt = s.bootUs ∧
      t.rd HARP_WSTAT.code w = (if s.bit HARP_WCTL.step_down w then s.rd HARP_WSTAT.code w - 1 else s.harpRequest w) % 4 := by
  refine Does.of_guard rfl (by simp [hup, hlow, hdue]) ⟨((Frame.refl s _ _).setHarp _ _ (by simp)).wr _ _ _ (by simp), ?changed,
    State.rd_wr_same ..⟩
  case changed => exact congrArg Harp.changeAt (State.setHarp_harp_same s w _)

theorem walrtQualified_judges {s : State} (w : Fin 8) (low : Bool) (hup : s.settUp = true) (hbit : s.bit HARP_WSTAT.walrt w = !low) :
    Does (.walrtQualified w low) s fun t => Touches [.harps, .msix, .burrow] ([HARP_WSTAT.walrt, HARP_WSTAT.code, HARP_WUPS.ups] ++ recBits) s t ∧
      t.rd HARP_WSTAT.walrt w = low.toNat ∧
      (low = true → s.harpRequest w ≤ 3 → s.rd HARP_WCTL.walrt_code w ≤ 3 → s.rd HARP_WCTL.walrt_code w ≤ t.rd HARP_WSTAT.code w) := by
  generalize ht : s.wrBit HARP_WSTAT.walrt w low = t
  have hrun : exec (.walrtQualified w low) s =
      .next (if low then t.harpJudge.record Ev.WARD_ALERT (Src.ward w) [w] else t.harpJudge) := by
    subst ht
    exact doIf_pos _ _ (by rw [hup, hbit]; cases low <;> rfl)
  have hlater : Within [.harps, .msix, .burrow] recCodes t.harpJudge
      (if low then t.harpJudge.record Ev.WARD_ALERT (Src.ward w) [w] else t.harpJudge) :=
    Within.ite ((Within.refl _ _ _).step (State.record_within _ _ _ _) rfl) (Within.refl _ _ _)
  refine ⟨_, hrun, (execWalrtQualified_out w low s _ hrun).touches rfl rfl, ?walrt, fun hl hreq hcode => ?code⟩
  case walrt =>
    refine (hlater.rd _ _ rfl).trans (((State.harpJudge_within t).rd _ _ rfl).trans ?_)
    subst ht
    exact State.rd_wr_lt _ _ (by cases low <;> decide)
  case code =>
    have hother : t.setts = s.setts ∧ t.rd RFX_ACT.wards = s.rd RFX_ACT.wards ∧ t.rd RFX_ACT.harp = s.rd RFX_ACT.harp ∧
        t.bit HARP_GSTAT.obj_excl = s.bit HARP_GSTAT.obj_excl ∧ t.rd HARP_WCTL.floor w = s.rd HARP_WCTL.floor w ∧
        t.rd HARP_WCTL.walrt_code w = s.rd HARP_WCTL.walrt_code w := by
      have h : Within [] [3735] s t := ht ▸ (Within.refl [] [3735] s).wr HARP_WSTAT.walrt w low.toNat rfl
      exact ⟨h.setts rfl, h.rd_fun rfl, h.rd_fun rfl, h.bit_fun rfl, h.rd _ _ rfl, h.rd _ _ rfl⟩
    obtain ⟨hsetts, hwards, hharp, hexcl, hfloor, hwcode⟩ := hother
    obtain ⟨hrfx, hobj⟩ := State.harpRequest_congr (w := w.val) hsetts hwards hharp hexcl
    have hwalrt : t.walrtCode w = s.rd HARP_WCTL.walrt_code w := by
      have hset : t.bit HARP_WSTAT.walrt w = true := by
        subst ht hl
        rw [State.bit, State.wrBit, State.rd_wr_same]
        rfl
      rw [State.walrtCode, if_pos hset, hwcode]
    have hreq' : t.harpRequest w ≤ 3 ∧ s.rd HARP_WCTL.walrt_code w ≤ t.harpRequest w := by
      simp only [State.harpRequest] at hreq
      simp only [State.harpRequest, hrfx, hobj, hfloor, hwalrt]
      omega
    have hupt : t.settUp = true := by
      subst ht
      exact hup
    exact Nat.le_trans (Nat.le_trans hreq'.2 (State.harpJudge_code hupt w.isLt hreq'.1)) (Nat.le_of_eq (hlater.rd _ _ rfl).symm)

theorem floorWrite_judges {s : State} (w : Fin 8) (code : BitVec 2) (hup : s.settUp = true) :
    Does (.floorWrite w code) s fun t => Touches [.harps, .msix, .burrow, .twin] ([HARP_WCTL.floor, HARP_WSTAT.code, HARP_WUPS.ups] ++ recBits) s t ∧
      t.rd HARP_WCTL.floor w = code.toNat ∧ (∀ v, v ≠ w.val → t.rd HARP_WCTL.floor v = s.rd HARP_WCTL.floor v) ∧
      (s.harpRequest w ≤ 3 → code.toNat ≤ t.rd HARP_WSTAT.code w) := by
  generalize ht : s.wr HARP_WCTL.floor w code.toNat = t
  have hrun : exec (.floorWrite w code) s =
      .next (if t.harpJudge.leads then t.harpJudge.tellTwin (.floor (Fin.ofNat 8 w) code) else t.harpJudge) := by
    subst ht
    exact doIf_pos _ _ hup
  have hlater : Within [.twin] [] t.harpJudge
      (if t.harpJudge.leads then t.harpJudge.tellTwin (.floor (Fin.ofNat 8 w) code) else t.harpJudge) :=
    Within.ite ((Within.refl _ _ _).step (State.tellTwin_within _ _) rfl) (Within.refl _ _ _)
  have hfloor (v : Nat) := (hlater.rd HARP_WCTL.floor v rfl).trans ((State.harpJudge_within t).rd HARP_WCTL.floor v rfl)
  have hset : t.rd HARP_WCTL.floor w = code.toNat := by
    subst ht
    exact State.rd_wr_lt _ _ code.isLt
  refine ⟨_, hrun, (execFloorWrite_out w code s _ hrun).touches rfl rfl, (hfloor w).trans hset, fun v hv => (hfloor v).trans ?others, fun hreq => ?code⟩
  case others =>
    subst ht
    exact State.rd_wr_inst _ _ _ _ _ hv.symm
  case code =>
    have hw : Within [] [3656] s t := ht ▸ (Within.refl [] [3656] s).wr HARP_WCTL.floor w code.toNat rfl
    obtain ⟨hrfx, hobj⟩ := State.harpRequest_congr (w := w.val) (hw.setts rfl) (hw.rd_fun rfl) (hw.rd_fun rfl) (hw.bit_fun rfl)
    have hwalrt : t.walrtCode w = s.walrtCode w := by
      rw [State.walrtCode, State.walrtCode, hw.bit_fun rfl, hw.rd_fun rfl]
    have hreq' : t.harpRequest w ≤ 3 ∧ code.toNat ≤ t.harpRequest w := by
      have := code.isLt
      simp only [State.harpRequest] at hreq
      simp only [State.harpRequest, hrfx, hobj, hset, hwalrt]
      omega
    have hupt : t.settUp = true := by
      subst ht
      exact hup
    exact Nat.le_trans (Nat.le_trans hreq'.2 (State.harpJudge_code hupt w.isLt hreq'.1)) (Nat.le_of_eq (hlater.rd _ _ rfl).symm)

/-! ## AVSBus masters -/

theorem State.avsStart_driven {s : State} {w : Nat} (f : AvsFrame) (h : s.avsDrives w = true) : s.avsStart w f =
    (s.setHarp w { s.harp w with frame := some f, lastTry := if f.writes then s.bootUs else (s.harp w).lastTry }).wr HARP_AVSSTAT.busy w 1 := by
  rw [State.avsStart, if_pos h]

theorem State.avsStart_undriven {s : State} {w : Nat} (f : AvsFrame) (h : s.avsDrives w = false) : s.avsStart w f =
    (s.setHarp w { s.harp w with frame := none }).wr HARP_AVSSTAT.busy w 0 := by
  rw [State.avsStart, if_neg (by rw [h]; exact Bool.false_ne_true)]

theorem State.avsNext_idle {s : State} {w : Nat} (h : (s.harp w).next = none) :
    s.avsNext w = (s.setHarp w { s.harp w with frame := none }).wr HARP_AVSSTAT.busy w 0 := by
  rw [State.avsNext]
  dsimp only
  rw [h]

theorem Frame.avsIdle {fs : List (Fld × Nat)} {s t : State} {w : Nat} (x : Harp) (v : Nat) (h : Frame [.harps] fs s t)
    (hb : (HARP_AVSSTAT.busy, w) ∈ fs) : Frame [.harps] fs s ((t.setHarp w x).wr HARP_AVSSTAT.busy w v) :=
  (h.setHarp w x (by simp)).wr _ _ _ hb

theorem State.avsIdle_harp (s : State) (w v : Nat) (x : Harp) : ((s.setHarp w x).wr HARP_AVSSTAT.busy w v).harp w = x := s.setHarp_harp_same w x

theorem State.avsIdle_rd (s : State) (w v : Nat) (x : Harp) {f : Fld} (i : Nat)
    (h : (decide (HARP_AVSSTAT.busy.code ≠ f.code) && HARP_AVSSTAT.busy.ok && f.ok) = true) :
    ((s.setHarp w x).wr HARP_AVSSTAT.busy w v).rd f i = s.rd f i := State.rd_wr_ne _ _ _ _ h

theorem exec_avsFrameDone {s : State} (w : Fin 8) (resp : Option (BitVec 12)) (hup : s.settUp = true) :
    exec (.avsFrameDone w resp) s = .next (match (s.harp w).frame, resp.map (·.toNat) with
      | none, _ => s
      | some .read, some v => (s.wr HARP_AVSSTAT.v_read w v).avsNext w
      | some .read, none => s.avsNext w
      | some .status, _ => s.avsNext w
      | some (.write v _), some _ => ((s.wr HARP_AVSSTAT.v_sent w v).wr HARP_AVSSTAT.fault w 0).avsNext w
      | some (.write v n), none =>
        if n < 2 then s.avsStart w (.write v (n + 1))
        else if n = 2 then ((s.wr HARP_AVSSTAT.fault w 1).record Ev.WARD_AVS_FAULT (Src.ward w) [w, v]).avsNext w
        else s.avsNext w) := doIf_pos _ _ hup

theorem avsFrameDone_read {s : State} (w : Fin 8) (v : BitVec 12) (hup : s.settUp = true) (hframe : (s.harp w).frame = some .read)
    (hnext : (s.harp w).next = none) :
    Does (.avsFrameDone w (some v)) s fun t => Frame [.harps] [(HARP_AVSSTAT.v_read, w.val), (HARP_AVSSTAT.busy, w.val)] s t ∧
      t.rd HARP_AVSSTAT.v_read w = v.toNat ∧ t.rd HARP_AVSSTAT.busy w = 0 ∧ (t.harp w).frame = none := by
  have hrun : exec (.avsFrameDone w (some v)) s = .next (((s.wr HARP_AVSSTAT.v_read w v.toNat).setHarp w
      { s.harp w with frame := none }).wr HARP_AVSSTAT.busy w 0) := by
    rw [exec_avsFrameDone w (some v) hup, hframe]
    exact congrArg Host.Outcome.next (State.avsNext_idle hnext)
  exact ⟨_, hrun, Frame.avsIdle _ _ ((Frame.refl s _ _).wr _ _ _ (by simp)) (by simp),
    (State.avsIdle_rd _ _ _ _ _ rfl).trans (State.rd_wr_lt _ _ v.isLt), State.rd_wr_lt _ _ (by decide),
    congrArg Harp.frame (State.avsIdle_harp ..)⟩

theorem avsFrameDone_sent {s : State} (w : Fin 8) {mv n : Nat} (v : BitVec 12) (hup : s.settUp = true)
    (hframe : (s.harp w).frame = some (.write mv n)) (hnext : (s.harp w).next = none) :
    Does (.avsFrameDone w (some v)) s fun t =>
      Frame [.harps] [(HARP_AVSSTAT.v_sent, w.val), (HARP_AVSSTAT.fault, w.val), (HARP_AVSSTAT.busy, w.val)] s t ∧
      t.rd HARP_AVSSTAT.v_sent w = mv % 4096 ∧ t.rd HARP_AVSSTAT.fault w = 0 ∧ (t.harp w).frame = none := by
  have hrun : exec (.avsFrameDone w (some v)) s = .next ((((s.wr HARP_AVSSTAT.v_sent w mv).wr HARP_AVSSTAT.fault w 0).setHarp w
      { s.harp w with frame := none }).wr HARP_AVSSTAT.busy w 0) := by
    rw [exec_avsFrameDone w (some v) hup, hframe]
    exact congrArg Host.Outcome.next (State.avsNext_idle hnext)
  refine ⟨_, hrun, Frame.avsIdle _ _ (((Frame.refl s _ _).wr _ _ _ (by simp)).wr _ _ _ (by simp)) (by simp), ?sent, ?fault,
    congrArg Harp.frame (State.avsIdle_harp ..)⟩
  case sent => exact (State.avsIdle_rd _ _ _ _ _ rfl).trans ((State.rd_wr_ne _ _ _ _ rfl).trans (State.rd_wr_same ..))
  case fault => exact (State.avsIdle_rd _ _ _ _ _ rfl).trans (State.rd_wr_lt _ _ (by decide))

theorem avsFrameDone_again {s : State} (w : Fin 8) {mv n : Nat} (hup : s.settUp = true) (hframe : (s.harp w).frame = some (.write mv n))
    (hn : n < 2) : exec (.avsFrameDone w none) s = .next (s.avsStart w (.write mv (n + 1))) := by
  rw [exec_avsFrameDone w none hup, hframe]
  exact congrArg Host.Outcome.next (if_pos hn)

theorem avsFrameDone_tries {s : State} (w : Fin 8) {mv n : Nat} (hup : s.settUp = true) (hframe : (s.harp w).frame = some (.write mv n))
    (hn : n < 2) (hdrives : s.avsDrives w = true) :
    Does (.avsFrameDone w none) s fun t => Frame [.harps] [(HARP_AVSSTAT.busy, w.val)] s t ∧
      (t.harp w).frame = some (.write mv (n + 1)) ∧ (t.harp w).lastTry = s.bootUs := by
  have hrun := avsFrameDone_again w hup hframe hn
  rw [State.avsStart_driven _ hdrives] at hrun
  exact ⟨_, hrun, Frame.avsIdle _ _ (Frame.refl s _ _) (by simp), congrArg Harp.frame (State.avsIdle_harp ..),
    congrArg Harp.lastTry (State.avsIdle_harp ..)⟩

theorem avsFrameDone_undriven {s : State} (w : Fin 8) {mv n : Nat} (hup : s.settUp = true) (hframe : (s.harp w).frame = some (.write mv n))
    (hn : n < 2) (hdrives : s.avsDrives w = false) :
    Does (.avsFrameDone w none) s fun t => Frame [.harps] [(HARP_AVSSTAT.busy, w.val)] s t ∧ (t.harp w).frame = none ∧
      t.rd HARP_AVSSTAT.busy w = 0 := by
  have hrun := avsFrameDone_again w hup hframe hn
  rw [State.avsStart_undriven _ hdrives] at hrun
  exact ⟨_, hrun, Frame.avsIdle _ _ (Frame.refl s _ _) (by simp), congrArg Harp.frame (State.avsIdle_harp ..), State.rd_wr_lt _ _ (by decide)⟩

theorem avsFrameDone_faults {s : State} (w : Fin 8) {mv : Nat} (hup : s.settUp = true) (hframe : (s.harp w).frame = some (.write mv 2)) :
    Does (.avsFrameDone w none) s fun t => Touches [.harps, .msix, .burrow] ([HARP_AVSSTAT.fault, HARP_AVSSTAT.busy] ++ recBits) s t ∧
      t.rd HARP_AVSSTAT.fault w = 1 := by
  have hrun : exec (.avsFrameDone w none) s =
      .next (((s.wr HARP_AVSSTAT.fault w 1).record Ev.WARD_AVS_FAULT (Src.ward w) [w, mv]).avsNext w) := by
    rw [exec_avsFrameDone w none hup, hframe]
    rfl
  have hafter : Within [.harps, .msix, .burrow] [3911, 6914, 9152, 9280, 9344, 9408] (s.wr HARP_AVSSTAT.fault w 1)
      (((s.wr HARP_AVSSTAT.fault w 1).record Ev.WARD_AVS_FAULT (Src.ward w) [w, mv]).avsNext w) :=
    ((Within.refl _ _ _).step (State.record_within _ _ _ _) rfl).step (State.avsNext_within _ _) rfl
  have hall : Within [.harps, .msix, .burrow] [3910, 3911, 6914, 9152, 9280, 9344, 9408] s
      (((s.wr HARP_AVSSTAT.fault w 1).record Ev.WARD_AVS_FAULT (Src.ward w) [w, mv]).avsNext w) :=
    ((Within.refl _ _ s).wr HARP_AVSSTAT.fault w 1 rfl).step hafter rfl
  exact ⟨_, hrun, hall.touches rfl rfl, (hafter.rd _ _ rfl).trans (State.rd_wr_lt _ _ (by decide))⟩

theorem avsResend_sends {s : State} (w : Fin 8) {mv : Nat} (hup : s.settUp = true) (hdrives : s.avsDrives w = true)
    (hfault : s.bit HARP_AVSSTAT.fault w = true) (hframe : (s.harp w).frame = none) (hdue : (s.harp w).lastTry + 100 ≤ s.bootUs)
    (hlatest : (s.harp w).latest = some mv) :
    Does (.avsResend w) s fun t => Frame [.harps] [(HARP_AVSSTAT.busy, w.val)] s t ∧ (t.harp w).frame = some (.write mv 3) ∧
      t.rd HARP_AVSSTAT.busy w = 1 := by
  have hrun : exec (.avsResend w) s = .next (s.avsStart w (.write mv 3)) := by
    refine (doIf_pos _ _ (by simp [hup, hdrives, hfault, hframe, hdue])).trans ?_
    rw [hlatest]
  rw [State.avsStart_driven _ hdrives] at hrun
  exact ⟨_, hrun, Frame.avsIdle _ _ (Frame.refl s _ _) (by simp), congrArg Harp.frame (State.avsIdle_harp ..), State.rd_wr_lt _ _ (by decide)⟩

theorem avsPoll_reads {s : State} (w : Fin 8) (hup : s.settUp = true) (hdrives : s.avsDrives w = true) (hframe : (s.harp w).frame = none)
    (hnext : (s.harp w).next = none) (hpoll : s.rd HARP_GCTL.poll 0 ≠ 0)
    (hdue : (s.harp w).lastPoll + avsPeriod (s.rd HARP_GCTL.poll 0) ≤ s.bootUs) :
    Does (.avsPoll w false) s fun t => Frame [.harps] [(HARP_AVSSTAT.busy, w.val)] s t ∧ (t.harp w).frame = some .read ∧
      t.rd HARP_AVSSTAT.busy w = 1 ∧ (t.harp w).lastPoll = s.bootUs ∧ (t.harp w).lastTry = (s.harp w).lastTry := by
  have hrun : exec (.avsPoll w false) s = .next ((s.setHarp w { s.harp w with lastPoll := s.bootUs }).avsStart w .read) :=
    doIf_pos _ _ (by simp [hup, hdrives, hframe, hnext, hpoll, hdue])
  rw [State.avsStart_driven (s := s.setHarp w { s.harp w with lastPoll := s.bootUs }) _ hdrives] at hrun
  have hharp := State.avsIdle_harp (s.setHarp w { s.harp w with lastPoll := s.bootUs }) w 1
  refine ⟨_, hrun, Frame.avsIdle _ _ ((Frame.refl s _ _).setHarp _ _ (by simp)) (by simp), congrArg Harp.frame (hharp _),
    State.rd_wr_lt _ _ (by decide), (congrArg Harp.lastPoll (hharp _)).trans ?_, (congrArg Harp.lastTry (hharp _)).trans ?_⟩
  · rw [State.setHarp_harp_same]
  · rw [State.setHarp_harp_same]
    rfl

theorem avsPoll_asks_status {s : State} (w : Fin 8) (hup : s.settUp = true) (hdrives : s.avsDrives w = true) (hframe : (s.harp w).frame = none)
    (hnext : (s.harp w).next = none) :
    Does (.avsPoll w true) s fun t => Frame [.harps] [(HARP_AVSSTAT.busy, w.val)] s t ∧ (t.harp w).frame = some .status := by
  have hrun : exec (.avsPoll w true) s = .next (s.avsStart w .status) := doIf_pos _ _ (by simp [hup, hdrives, hframe, hnext])
  rw [State.avsStart_driven _ hdrives] at hrun
  exact ⟨_, hrun, Frame.avsIdle _ _ (Frame.refl s _ _) (by simp), congrArg Harp.frame (State.avsIdle_harp ..)⟩

/-! ## The governors -/

/-- The pre-arm episode leaves the setpoint. -/
theorem Gov.prearm_setpoint (g : Gov) (f : GovSet) (i : GovIn) : (g.prearm f i).setpoint = g.setpoint := by
  unfold Gov.prearm
  dsimp only
  (repeat' split) <;> rfl

theorem Gov.prearm_floor_stale (g : Gov) {f : GovSet} {i : GovIn} (h : i.fresh f = false) : (g.prearm f i).floor = 0 := by
  have hasked : ¬ 1 ≤ i.asked f := by simp [GovIn.asked, h]
  unfold Gov.prearm
  simp only [h, or_true, if_true, if_neg hasked]
  (repeat' split) <;> rfl

theorem Gov.prearm_floor_spent (g : Gov) {f : GovSet} (i : GovIn) (h : f.budget ≤ g.used) : (g.prearm f i).floor = 0 := by
  unfold Gov.prearm
  simp only [decide_eq_true h, if_true]
  (repeat' split) <;> rfl

theorem Gov.setVolts_setpoint {g : Gov} {f : GovSet} {i : GovIn} (h : g.setpoint < f.vNom * 1000 - i.margin f) :
    (g.setVolts f i).setpoint = f.vNom * 1000 - i.margin f := by
  unfold Gov.setVolts
  simp only [if_pos h]

theorem Gov.setVolts_floor (g : Gov) (f : GovSet) (i : GovIn) : (g.setVolts f i).floor = g.floor := by
  unfold Gov.setVolts
  dsimp only
  split <;> rfl

theorem Gov.setVolts_margin (g : Gov) (f : GovSet) (i : GovIn) : (g.setVolts f i).margin = i.margin f := rfl

/-- The choice of a code changes the code and the ticks below release alone. -/
theorem Gov.choose_rest (g : Gov) (f : GovSet) (i : GovIn) :
    (g.choose f i).floor = g.floor ∧ (g.choose f i).setpoint = g.setpoint ∧ (g.choose f i).margin = g.margin := by
  unfold Gov.choose
  dsimp only
  (repeat' split) <;> exact ⟨rfl, rfl, rfl⟩

/-- The chosen code is at least what the tick asks for. -/
theorem Gov.want_le_choose (g : Gov) (f : GovSet) (i : GovIn) : g.want f i ≤ (g.choose f i).code := by
  unfold Gov.choose
  dsimp only
  split
  · exact Nat.le_refl _
  · split
    · split
      · show g.want f i ≤ g.code - 1
        omega
      · show g.want f i ≤ g.code
        omega
    · show g.want f i ≤ g.code
      omega

/-- The end of a tick leaves the code, the floor, the setpoint and the margin. -/
theorem Gov.tick_rest (g : Gov) (f : GovSet) (i : GovIn) (t : Gov) (ht : t = ((g.window.prearm f i).setVolts f i).choose f i) :
    (g.tick f i).code = t.code ∧ (g.tick f i).floor = t.floor ∧ (g.tick f i).setpoint = t.setpoint ∧ (g.tick f i).margin = t.margin := by
  subst ht
  unfold Gov.tick
  dsimp only
  split <;> exact ⟨rfl, rfl, rfl, rfl⟩

theorem Gov.want_le_tick (g : Gov) (f : GovSet) (i : GovIn) : ((g.window.prearm f i).setVolts f i).want f i ≤ (g.tick f i).code := by
  rw [(g.tick_rest f i _ rfl).1]
  exact Gov.want_le_choose _ f i

theorem Gov.one_le_want (g : Gov) {f : GovSet} {i : GovIn} (h : i.threshold f f.pTrim ≤ i.power) : 1 ≤ g.want f i := by
  unfold Gov.want
  simp only [if_pos h]
  split <;> omega

theorem Gov.two_le_want (g : Gov) {f : GovSet} {i : GovIn} (h : i.threshold f f.pDeep ≤ i.power) : 2 ≤ g.want f i := by
  unfold Gov.want
  simp only [if_pos h]
  omega

theorem Gov.tick_floor (g : Gov) (f : GovSet) (i : GovIn) : (g.tick f i).floor = (g.window.prearm f i).floor := by
  rw [(g.tick_rest f i _ rfl).2.1, (Gov.choose_rest _ f i).1, Gov.setVolts_floor]

theorem Gov.window_setpoint (g : Gov) : g.window.setpoint = g.setpoint := by
  unfold Gov.window
  split <;> rfl

theorem gov_tick_asks (g : Gov) (f : GovSet) (i : GovIn) :
    (i.threshold f f.pTrim ≤ i.power → 1 ≤ (g.tick f i).code) ∧ (i.threshold f f.pDeep ≤ i.power → 2 ≤ (g.tick f i).code) ∧
    (i.fresh f = false → (g.tick f i).floor = 0 ∧ (g.tick f i).margin = 0 ∧ i.scaled f = 65536) ∧
    (f.budget ≤ g.window.used → (g.tick f i).floor = 0) ∧
    (g.setpoint < f.vNom * 1000 - i.margin f → (g.tick f i).setpoint = f.vNom * 1000 - i.margin f) := by
  refine ⟨fun h => Nat.le_trans (Gov.one_le_want _ h) (g.want_le_tick f i), fun h => Nat.le_trans (Gov.two_le_want _ h) (g.want_le_tick f i),
    fun h => ⟨?floor, ?margin, ?scale⟩, fun h => ?spent, fun h => ?setpoint⟩
  case floor => rw [Gov.tick_floor, Gov.prearm_floor_stale _ h]
  case margin =>
    rw [(g.tick_rest f i _ rfl).2.2.2, (Gov.choose_rest _ f i).2.2, Gov.setVolts_margin]
    simp [GovIn.margin, h]
  case scale => simp [GovIn.scaled, h]
  case spent => rw [Gov.tick_floor, Gov.prearm_floor_spent _ i h]
  case setpoint =>
    rw [(g.tick_rest f i _ rfl).2.2.1, (Gov.choose_rest _ f i).2.1]
    exact Gov.setVolts_setpoint (by rw [Gov.prearm_setpoint, Gov.window_setpoint]; exact h)

theorem trayGov_sheds (g : TrayGov) (f : TraySet) (i : TrayIn) (hl : g.level < 16) (hcap : i.cap f ≤ i.pavg) :
    (g.tick f i).level = g.level + 1 := by
  have hpower : i.cap f ≤ i.power f := by
    unfold TrayIn.power
    split
    · exact Int.le_trans hcap (Int.le_max_left _ _)
    · exact hcap
  unfold TrayGov.tick
  simp only [if_pos hpower, if_pos hcap, if_pos hl]

/-! ## What a ward governor commits -/

/-- The committed outputs. -/
theorem State.outVal_of_outs {s t : State} (h : t.setts.outs = s.setts.outs) (obj kind index : Nat) :
    t.outVal obj kind index = s.outVal obj kind index := by rw [State.outVal, State.outVal, h]

theorem Within.outVal {bs : List Block} {cs : List Nat} {s t : State} (h : Within bs cs s t)
    (hb : (bs.contains .engines || bs.contains .sharedMemory || bs.contains .settRest) = false) (obj kind index : Nat) :
    t.outVal obj kind index = s.outVal obj kind index := State.outVal_of_outs (congrArg Setts.outs (h.setts hb)) obj kind index

/-- A write committed takes effect in its block, and leaves the committed outputs. -/
theorem State.commitEntry_write_outVal (s : State) (n obj c kind index : Nat) (v : Word) (o k i : Nat) :
    (s.commitEntry n obj c (.write kind index v)).outVal o k i = if outKey obj kind index = outKey o k i then v else s.outVal o k i := by
  refine ((State.outEffect_within _ kind index v).outVal rfl o k i).trans ?_
  exact Tab.get_set ..

theorem State.commitEntry_event_outVal (s : State) (n obj c code : Nat) (hi lo : Word) (o k i : Nat) :
    (s.commitEntry n obj c (.event code hi lo)).outVal o k i = s.outVal o k i := (State.objEvent_within s obj code hi lo).outVal rfl o k i

/-- Entries that are events alone. -/
def onlyEvents (l : List OutEntry) : Prop := ∀ q ∈ l, ∃ code hi lo, q = .event code hi lo

theorem each_commitEntry_events (l : List OutEntry) (h : onlyEvents l) (s : State) (n obj c o k i : Nat) :
    (each l (fun q s => s.commitEntry n obj c q) s).outVal o k i = s.outVal o k i := by
  induction l generalizing s with
  | nil => rfl
  | cons q l ih =>
    obtain ⟨code, hi, lo, rfl⟩ := h q List.mem_cons_self
    exact (ih (fun q hq => h q (List.mem_cons_of_mem _ hq)) _).trans (State.commitEntry_event_outVal ..)

theorem Gov.events_onlyEvents (g t : Gov) (f : GovSet) (i : GovIn) (w : Nat) : onlyEvents (g.events t f i w) := by
  intro q hq
  simp only [Gov.events, List.mem_append] at hq
  obtain ((hq | hq) | hq) | hq := hq
  all_goals
    split at hq
    · exact ⟨_, _, _, List.mem_singleton.mp hq⟩
    · cases hq

theorem onlyEvents.pulls {l : List OutEntry} (h : onlyEvents l) : l.any OutEntry.pulls = false := by
  rw [List.any_eq_false]
  intro q hq
  obtain ⟨code, hi, lo, rfl⟩ := h q hq
  exact Bool.false_ne_true

theorem each_append {ι σ : Type} (l m : List ι) (f : ι → σ → σ) (s : σ) : each (l ++ m) f s = each m f (each l f s) := by
  induction l generalizing s with
  | nil => rfl
  | cons i l ih => exact ih _

/-- A queue of events, a code and a setpoint commits the code. -/
theorem State.commitQueue_code (s : State) (n obj c w : Nat) {l : List OutEntry} (h : onlyEvents l) (v x : Word) :
    (s.commitQueue n obj c (l ++ [.write 13 w v, .write 12 w x])).outVal obj 13 w = v := by
  have hpulls : (l ++ [OutEntry.write 13 w v, OutEntry.write 12 w x]).any OutEntry.pulls = false := by
    rw [List.any_append, h.pulls]
    rfl
  have hkey : outKey obj 12 w ≠ outKey obj 13 w := by
    simp only [outKey]
    omega
  rw [State.commitQueue, State.when, if_neg (by rw [hpulls]; exact Bool.false_ne_true), each_append, each, each, each,
    State.commitEntry_write_outVal, if_neg hkey, State.commitEntry_write_outVal, if_pos rfl]

theorem State.badPriv_none {s : State} {n : Nat} (h : ∀ off, s.shBad (privKey n off) = false) (offs : List Nat) : s.badPriv n offs = none := by
  rw [State.badPriv, List.find?_eq_none]
  intro k hk
  obtain ⟨off, -, rfl⟩ := List.mem_map.mp hk
  rw [h]
  exact Bool.false_ne_true

theorem State.objectReads_of_good {s : State} {n : Nat} (h : ∀ off, s.shBad (privKey n off) = false) (offs : List Nat) (t : State) :
    Within [] [8192] t (s.objectReads n offs true t) := by
  rw [State.objectReads, State.badPriv_none h]
  exact Within.each _ _ (Within.refl _ _ t) fun _ _ _ hu => hu.step (State.memCorr_within _ _) rfl

theorem wardGovTick_commits (s : State) (n w : Nat) (hw : (s.engine n).govWard = some w) (hgood : ∀ off, s.shBad (privKey n off) = false) :
    (s.wardGovTick n).outVal (s.engine n).obj 13 w = BitVec.ofNat 32 ((s.gov n).tick (s.govSet n) (s.engine n).govIn).code := by
  rw [State.wardGovTick, hw]
  refine ((State.objectReads_of_good hgood _ _).outVal rfl _ _ _).trans ?_
  exact State.commitQueue_code _ _ _ _ _ (Gov.events_onlyEvents _ _ _ _ _) _ _

/-- Settles O21: codes by `State.harpJudge_code`, the masters, the governors' ticks, and what a ward governor commits. -/
theorem harpAndAvs : Obligations.HarpAndAvs :=
  ⟨fun _ w hup hlow hdue => holdExpiry_falls w hup hlow hdue, fun _ w low hup hbit => walrtQualified_judges w low hup hbit,
    fun _ w code hup => floorWrite_judges w code hup,
    fun _ w _ _ v hup => ⟨avsFrameDone_read w v hup, avsFrameDone_sent w v hup, avsFrameDone_tries w hup, avsFrameDone_undriven w hup,
      avsFrameDone_faults w hup⟩,
    fun _ w _ hup hdrives hfault hframe hdue hlatest => avsResend_sends w hup hdrives hfault hframe hdue hlatest,
    fun _ w hup hdrives hframe hnext => ⟨avsPoll_reads w hup hdrives hframe hnext, avsPoll_asks_status w hup hdrives hframe hnext⟩,
    gov_tick_asks, trayGov_sheds, wardGovTick_commits⟩

end Sys2Proof.Machine
end

section
/-!
SUPPORT. Marten's tiles (10, 11): enabling, disabling, the admission to RUN, a stop, writes of the tables, and the scrubber.
-/
namespace Sys2Proof.Machine

theorem Frame.setTile {bs : List Block} {fs : List (Fld × Nat)} {s t : State} (h : Frame bs fs s t) (q : Nat) (x : Tile) (hb : .marten ∈ bs) :
    Frame bs fs s (t.setTile q x) :=
  h.upd (fun b hn => by cases b <;> simp_all [Block.same, State.setTile]) rfl

@[simp] theorem State.setTile_tile_same (s : State) (q : Nat) (x : Tile) : (s.setTile q x).tile q = x := (State.setTile_tile ..).trans (if_pos rfl)

theorem State.setTile_tile_ne (s : State) {q r : Nat} (x : Tile) (h : r ≠ q) : (s.setTile q x).tile r = s.tile r :=
  (State.setTile_tile ..).trans (if_neg h.symm)

theorem Within.tile {bs : List Block} {cs : List Nat} {s t : State} (h : Within bs cs s t) (hb : bs.contains .marten = false) (q : Nat) :
    t.tile q = s.tile q := by
  have hm : t.marten = s.marten := h.block .marten hb
  rw [State.tile, State.tile, hm]

/-! ## Enabling and disabling -/

theorem tileEnable_standby {s : State} (q : Fin 4) (hm : s.hasMarten = true) (hup : s.fwUp = true) (hoff : s.tstate q = 0)
    (htrain : s.recorder.trainFailed = false) :
    Does (.tileEnable q) s fun t =>
      Frame [] [(MRT_TCTL.enable, q.val), (MRT_TSTAT.state, q.val), (MRT_TSTAT.cmd_status, q.val)] s t ∧ t.tstate q = 1 ∧
      t.rd MRT_TCTL.enable q = 1 ∧ t.rd MRT_TSTAT.cmd_status q = St.ok := by
  have hrun : exec (.tileEnable q) s = .next (((s.wr MRT_TCTL.enable q 1).wr MRT_TSTAT.state q 1).wr MRT_TSTAT.cmd_status q St.ok) := by
    refine (doIf_pos _ _ (by rw [hm, hup]; rfl)).trans (congrArg Host.Outcome.next ?_)
    rw [hoff, htrain]
    rfl
  exact ⟨_, hrun, (((Frame.refl s _ _).wr _ _ _ (by simp)).wr _ _ _ (by simp)).wr _ _ _ (by simp),
    (State.rd_wr_ne _ _ _ _ rfl).trans (State.rd_wr_lt _ _ (by decide)),
    (State.rd_wr_ne _ _ _ _ rfl).trans ((State.rd_wr_ne _ _ _ _ rfl).trans (State.rd_wr_lt _ _ (by decide))), State.rd_wr_lt _ _ (by decide)⟩

/-- The registers of a tile that is disabled. -/
def State.tileOffWritten (s : State) (q : Nat) : State := ((s.wr MRT_TCTL.enable q 0).wr MRT_TCTL.run q 0).wr MRT_TSTAT.cmd_status q St.ok

theorem exec_tileDisable {s : State} (q : Fin 4) (hm : s.hasMarten = true) (hup : s.fwUp = true) :
    exec (.tileDisable q) s = .next (match s.tstate q with
      | 1 => ((s.tileOffWritten q).wr MRT_TSTAT.state q 0).setTile q {}
      | 2 => (s.tileOffWritten q).enterDrain q true
      | 3 => (s.tileOffWritten q).setTile q { (s.tileOffWritten q).tile q with toOff := true }
      | _ => s.tileOffWritten q) := doIf_pos _ _ (by rw [hm, hup]; rfl)

theorem tileDisable_off {s : State} (q : Fin 4) (hm : s.hasMarten = true) (hup : s.fwUp = true) (hstandby : s.tstate q = 1) :
    Does (.tileDisable q) s fun t =>
      Frame [.marten] [(MRT_TCTL.enable, q.val), (MRT_TCTL.run, q.val), (MRT_TSTAT.state, q.val), (MRT_TSTAT.cmd_status, q.val)] s t ∧
      t.tstate q = 0 ∧ t.tile q = {} ∧ t.rd MRT_TCTL.enable q = 0 ∧ (∀ r, r ≠ q.val → t.tile r = s.tile r) := by
  have hrun : exec (.tileDisable q) s = .next (((s.tileOffWritten q).wr MRT_TSTAT.state q 0).setTile q {}) := by
    rw [exec_tileDisable q hm hup, hstandby]
    rfl
  refine ⟨_, hrun, ?frame, State.rd_wr_lt (s.tileOffWritten q) (f := MRT_TSTAT.state) (v := 0) q (by decide), State.setTile_tile_same .., ?enable,
    fun r hr => State.setTile_tile_ne _ _ hr⟩
  case frame =>
    exact (((((Frame.refl s _ _).wr _ _ _ (by simp)).wr _ _ _ (by simp)).wr _ _ _ (by simp)).wr _ _ _ (by simp)).setTile _ _ (by simp)
  case enable =>
    rw [State.setTile_rd]
    exact (State.rd_wr_ne _ _ _ _ rfl).trans ((State.rd_wr_ne _ _ _ _ rfl).trans ((State.rd_wr_ne _ _ _ _ rfl).trans
      (State.rd_wr_lt _ _ (by decide))))

/-! ## A drain -/

/-- Tile `q` is to switch off after its drain, or not. -/
def DrainsTo (q : Nat) (off : Bool) (s : State) : Prop := (s.tile q).toOff = off ∧ s.tstate q = 3

theorem DrainsTo.of_within {q : Nat} {off : Bool} {bs : List Block} {cs : List Nat} {s t : State} (h : DrainsTo q off s) (hw : Within bs cs s t)
    (hb : bs.contains .marten = false) (hc : (!cs.contains 4253) = true) : DrainsTo q off t :=
  ⟨(congrArg Tile.toOff (hw.tile hb q)).trans h.1,
    (hw.rd MRT_TSTAT.state q (by rw [Bool.and_eq_true]; exact ⟨hc, rfl⟩)).trans h.2⟩

@[simp] theorem State.invalidate_tile (s : State) (q : Nat) (l : List Nat) (r : Nat) : (s.invalidate q l).tile r = s.tile r := rfl

theorem State.endJob_toOff (s : State) (q j status : Nat) : ((s.endJob q j status).tile q).toOff = (s.tile q).toOff := by
  unfold State.endJob
  dsimp only
  (repeat' split) <;> simp [Tile.setJob, State.addSat]

theorem State.endJob_drainsTo {s : State} {q : Nat} {off : Bool} (h : DrainsTo q off s) (j status : Nat) :
    DrainsTo q off (s.endJob q j status) :=
  ⟨(s.endJob_toOff q j status).trans h.1, ((State.endJob_within s q j status).rd MRT_TSTAT.state q rfl).trans h.2⟩

/-- A drain that has ended leaves the tile OFF or in STANDBY; one that has not goes on. -/
theorem State.leaveDrain_tstate {s : State} {q : Nat} {off : Bool} (h : DrainsTo q off s) :
    (s.leaveDrain q).tstate q = (if off then 0 else 1) ∨ (s.leaveDrain q).tstate q = 3 := by
  have hoff : (if (s.tile q).toOff then 0 else 1) = if off then 0 else 1 := by rw [h.1]
  unfold State.leaveDrain
  dsimp only
  split
  · refine .inl (((State.record_within _ _ _ _).rd _ _ rfl).trans ((State.rd_wr_lt _ _ ?_).trans hoff))
    split <;> decide
  · exact .inr h.2

/-- Entry to DRAIN ends in DRAIN or in what the drain leads to. -/
theorem State.enterDrain_tstate (s : State) (q : Nat) (off : Bool) :
    (s.enterDrain q off).tstate q = (if off then 0 else 1) ∨ (s.enterDrain q off).tstate q = 3 := by
  unfold State.enterDrain
  generalize hu : (s.wr MRT_TSTAT.state q 3).setTile q { s.tile q with toOff := off, fast := false, aborted := 0, completed := 0 } = u
  have hbegun : DrainsTo q off u := by
    subst hu
    exact ⟨congrArg Tile.toOff (State.setTile_tile_same ..), State.rd_wr_lt s (f := MRT_TSTAT.state) (v := 3) q (by decide)⟩
  have hended := each_keeps (P := DrainsTo q off) (f := fun j s => s.endJob q j St.abortedDisable)
    (fun j _ ht => State.endJob_drainsTo ht j _) ((u.tile q).inPhase .released) hbegun
  have hshadow := hended.of_within (State.leaveShadow_within _ q) rfl rfl
  have hdispatch (t : State) : (t.dispatch q).tstate q = t.tstate q := rfl
  dsimp only
  rw [hdispatch]
  exact State.leaveDrain_tstate hshadow

theorem tileDisable_drains {s : State} (q : Fin 4) (hm : s.hasMarten = true) (hup : s.fwUp = true) (hruns : s.tstate q = 2) :
    Does (.tileDisable q) s fun t => t.tstate q ∈ [0, 3] ∧ t.rd MRT_TCTL.enable q = 0 ∧ t.rd MRT_TCTL.run q = 0 ∧
      Touches [.marten, .msix, .burrow] ([MRT_TCTL.enable, MRT_TCTL.run, MRT_TSTAT.invalidated, MRT_TSTAT.cmd_status, MRT_TSTAT.state,
        MRT_TCLS.done, MRT_TCLS.last_status, MRT_TMISS.missed, MRT_CHK.shadow, MRT_JSTAT.ok_runs, MRT_JSTAT.state, MRT_JSTAT.consec_fail,
        MRT_JSTAT.last_status] ++ recBits) s t := by
  have hrun : exec (.tileDisable q) s = .next ((s.tileOffWritten q).enterDrain q true) := by
    rw [exec_tileDisable q hm hup, hruns]
    rfl
  have hdrain := State.enterDrain_within (s.tileOffWritten q) q true
  refine ⟨_, hrun, ?state, ?enable, ?run, (execTileDisable_out q s _ hrun).touches rfl rfl⟩
  case state => simpa using State.enterDrain_tstate (s.tileOffWritten q) q true
  case enable =>
    exact (hdrain.rd _ _ rfl).trans ((State.rd_wr_ne _ _ _ _ rfl).trans ((State.rd_wr_ne _ _ _ _ rfl).trans (State.rd_wr_lt _ _ (by decide))))
  case run => exact (hdrain.rd _ _ rfl).trans ((State.rd_wr_ne _ _ _ _ rfl).trans (State.rd_wr_lt _ _ (by decide)))

/-- The registers of a tile whose run is cleared. -/
def State.runCleared (s : State) (q : Nat) : State := (s.wr MRT_TCTL.run q 0).wr MRT_TSTAT.cmd_status q St.ok

theorem exec_tileRunClear {s : State} (q : Fin 4) (hm : s.hasMarten = true) (hup : s.fwUp = true) :
    exec (.tileRunClear q) s = .next (match s.tstate q with
      | 1 => (s.runCleared q).setTile q { s.tile q with runDue := false }
      | 2 => (s.runCleared q).enterDrain q false
      | _ => s.runCleared q) := doIf_pos _ _ (by rw [hm, hup]; rfl)

theorem State.runCleared_run (s : State) (q : Nat) : (s.runCleared q).rd MRT_TCTL.run q = 0 :=
  (State.rd_wr_ne _ _ _ _ rfl).trans (State.rd_wr_lt _ _ (by decide))

theorem tileRunClear_standby {s : State} (q : Fin 4) (hm : s.hasMarten = true) (hup : s.fwUp = true) (hstandby : s.tstate q = 1) :
    Does (.tileRunClear q) s fun t =>
      Frame [.marten] [(MRT_TCTL.run, q.val), (MRT_TSTAT.cmd_status, q.val)] s t ∧ t.tile q = { s.tile q with runDue := false } ∧
      t.rd MRT_TCTL.run q = 0 := by
  have hrun : exec (.tileRunClear q) s = .next ((s.runCleared q).setTile q { s.tile q with runDue := false }) := by
    rw [exec_tileRunClear q hm hup, hstandby]
    rfl
  exact ⟨_, hrun, (((Frame.refl s _ _).wr _ _ _ (by simp)).wr _ _ _ (by simp)).setTile _ _ (by simp), State.setTile_tile_same ..,
    (State.setTile_rd ..).trans (s.runCleared_run q)⟩

theorem tileRunClear_drains {s : State} (q : Fin 4) (hm : s.hasMarten = true) (hup : s.fwUp = true) (hruns : s.tstate q = 2) :
    Does (.tileRunClear q) s fun t => t.tstate q ∈ [1, 3] ∧ t.rd MRT_TCTL.run q = 0 ∧
      Touches [.marten, .msix, .burrow] ([MRT_TCTL.run, MRT_TSTAT.invalidated, MRT_TSTAT.cmd_status, MRT_TSTAT.state,
        MRT_TCLS.done, MRT_TCLS.last_status, MRT_TMISS.missed, MRT_CHK.shadow, MRT_JSTAT.ok_runs, MRT_JSTAT.state, MRT_JSTAT.consec_fail,
        MRT_JSTAT.last_status] ++ recBits) s t := by
  have hrun : exec (.tileRunClear q) s = .next ((s.runCleared q).enterDrain q false) := by
    rw [exec_tileRunClear q hm hup, hruns]
    rfl
  refine ⟨_, hrun, ?state, ((State.enterDrain_within _ _ _).rd _ _ rfl).trans (s.runCleared_run q),
    (execTileRunClear_out q s _ hrun).touches rfl rfl⟩
  case state => simpa using State.enterDrain_tstate (s.runCleared q) q false

/-! ## Admission to RUN -/

/-- A run write with no upsets reads the tables as they are. -/
theorem State.noUpsets_tile (s : State) (q r : Nat) : (s.tileUpsets q []).tile r = s.tile r := by
  rw [State.tileUpsets, State.setTile_tile]
  split
  · rename_i h
    rw [h]
    rfl
  · rfl

theorem State.tileCheck_congr {s t : State} (htile : t.tile = s.tile) (hrd : t.rd = s.rd) (q : Nat) : t.tileCheck q = s.tileCheck q := by
  have hbit : t.bit = s.bit := by
    funext f i
    rw [State.bit, State.bit, hrd]
  have hsub : t.subRate = s.subRate := by rw [State.subRate, State.subRate, hbit]
  have htelem : t.telemWords = s.telemWords := by
    funext ts
    rw [State.telemWords, State.telemWords, htile]
  have hrunning : t.running = s.running := by
    unfold State.running State.tstate
    rw [hrd]
  unfold State.tileCheck State.schedCheck
  rw [htile, hrd, hbit, hrunning, hsub, htelem]

theorem State.noUpsets_check (s : State) (q : Nat) : (s.tileUpsets q []).tileCheck q = s.tileCheck q :=
  State.tileCheck_congr (funext (s.noUpsets_tile q)) (funext fun _ => funext fun _ => State.setTile_rd ..) q

/-- Tables that pass the checks hold no uncorrectable word. -/
theorem State.badWords_of_tileCheck {s : State} {q : Nat} (h : s.tileCheck q = none) : (s.tile q).badWords tableWords = [] := by
  unfold State.tileCheck State.schedCheck at h
  simp only [Option.orElse_eq_orElse, Option.orElse_eq_or, Option.or_eq_none_iff] at h
  obtain ⟨-, -, -, -, -, -, -, -, -, hread⟩ := h
  rw [ite_eq_right_iff, Bool.or_eq_true] at hread
  refine Decidable.byContradiction fun hbad => ?_
  exact absurd (hread (.inr (by simpa using hbad))) (by simp)

/-- The words of the tables that the run write reads, counted and recorded. -/
def State.tablesRead (s : State) (q : Nat) : State :=
  each ((s.tile q).badWords tableWords) (fun w s => s.tileUncorr q w false)
    ((s.tileUpsets q []).addSat MRT_TECC.corr q ((s.tile q).mended tableWords))

theorem exec_tileRun {s : State} (q : Fin 4) (hm : s.hasMarten = true) (hup : s.fwUp = true) (hstandby : s.tstate q = 1) :
    exec (.tileRun q []) s = .next (match s.tileCheck q with
      | some (code, entry) =>
        (((((s.tablesRead q).tileStatus q St.refusedState).wr MRT_CHK.code q code).wr MRT_CHK.entry q entry).setTile q
          { s.tile q with runDue := false }).record Ev.MRT_CHECK_FAIL Src.marten [q.val, code, entry]
      | none => (((s.tablesRead q).wr MRT_TCTL.run q 1).tileStatus q St.ok).setTile q { s.tile q with runDue := true }) := by
  refine (doIf_pos _ _ (by rw [hm, hup]; rfl)).trans (congrArg Host.Outcome.next ?_)
  rw [hstandby, s.noUpsets_tile q q, s.noUpsets_check q]
  rfl

theorem tileRun_due {s : State} (q : Fin 4) (hm : s.hasMarten = true) (hup : s.fwUp = true) (hstandby : s.tstate q = 1)
    (hcheck : s.tileCheck q = none) :
    Does (.tileRun q []) s fun t =>
      Frame [.marten] [(MRT_TCTL.run, q.val), (MRT_TSTAT.cmd_status, q.val), (MRT_TECC.corr, q.val)] s t ∧
      t.tile q = { s.tile q with runDue := true } ∧ t.rd MRT_TCTL.run q = 1 ∧ t.rd MRT_TSTAT.cmd_status q = St.ok := by
  have hread : s.tablesRead q = (s.tileUpsets q []).addSat MRT_TECC.corr q ((s.tile q).mended tableWords) := by
    rw [State.tablesRead, State.badWords_of_tileCheck hcheck]
    rfl
  have hrun := exec_tileRun q hm hup hstandby
  rw [hcheck] at hrun
  refine ⟨_, hrun, ?frame, State.setTile_tile_same .., ?run, (State.setTile_rd ..).trans (State.rd_wr_lt _ _ (by decide))⟩
  case frame =>
    have hbegun : Frame [.marten] [(MRT_TCTL.run, q.val), (MRT_TSTAT.cmd_status, q.val), (MRT_TECC.corr, q.val)] s (s.tileUpsets q []) :=
      (Frame.refl s _ _).setTile _ _ (by simp)
    rw [hread]
    exact (((hbegun.addSat _ _ _ (by simp)).wr _ _ _ (by simp)).wr _ _ _ (by simp)).setTile _ _ (by simp)
  case run => exact (State.setTile_rd ..).trans ((State.rd_wr_ne _ _ _ _ rfl).trans (State.rd_wr_lt _ _ (by decide)))

theorem State.tablesRead_within (s : State) (q : Nat) :
    Within [.marten, .msix, .burrow] [4225, 4416, 4432, 4480, 4510, 4511, 6914, 9152, 9280, 9344, 9408] s (s.tablesRead q) := by
  have hbegun : Within [.marten, .msix, .burrow] [4225, 4416, 4432, 4480, 4510, 4511, 6914, 9152, 9280, 9344, 9408] s (s.tileUpsets q []) :=
    (Within.refl _ _ s).step (State.setTile_within _ _ _) rfl
  exact Within.each _ _ (hbegun.addSat _ _ _ rfl) fun w _ u hu => hu.step (State.tileUncorr_within u q w false) rfl

theorem tileRun_refused {s : State} (q : Fin 4) (hm : s.hasMarten = true) (hup : s.fwUp = true) (hstandby : s.tstate q = 1) {code entry : Nat}
    (hcheck : s.tileCheck q = some (code, entry)) :
    Records (.tileRun q []) s Ev.MRT_CHECK_FAIL Src.marten [q.val, code, entry] fun u =>
      Touches [.marten, .msix, .burrow] ([MRT_TSTAT.cmd_status, MRT_CHK.code, MRT_CHK.entry, MRT_TECC.corr, MRT_TECC.uncorr, MRT_TSTAT.uncorr,
        MRT_TERRA.valid, MRT_TERRA.scrub, MRT_TERRA.word] ++ recBits) s u ∧ u.tile q = { s.tile q with runDue := false } ∧
      u.rd MRT_TSTAT.cmd_status q = St.refusedState ∧ u.rd MRT_CHK.code q = code % 256 ∧ u.rd MRT_CHK.entry q = entry % 256 := by
  have hrun := exec_tileRun q hm hup hstandby
  rw [hcheck] at hrun
  have hall : Within [.marten, .msix, .burrow] ([4225, 4416, 4432, 4480, 4510, 4511, 6914, 9152, 9280, 9344, 9408] ++ [4240, 4688, 4696]) s
      (((((s.tablesRead q).tileStatus q St.refusedState).wr MRT_CHK.code q code).wr MRT_CHK.entry q entry).setTile q
        { s.tile q with runDue := false }) :=
    ((((((Within.refl _ _ s).step (s.tablesRead_within q) rfl).wr _ _ _ rfl).wr _ _ _ rfl).wr _ _ _ rfl).step (State.setTile_within _ _ _) rfl)
  refine ⟨_, hrun, hall.touches rfl rfl, State.setTile_tile_same .., ?status, ?code, ?entry⟩
  case status =>
    exact (State.setTile_rd ..).trans ((State.rd_wr_ne _ _ _ _ rfl).trans ((State.rd_wr_ne _ _ _ _ rfl).trans (State.rd_wr_lt _ _ (by decide))))
  case code => exact (State.setTile_rd ..).trans ((State.rd_wr_ne _ _ _ _ rfl).trans (State.rd_wr_same ..))
  case entry => exact (State.setTile_rd ..).trans (State.rd_wr_same ..)

/-! ## Writes of a tile's memory -/

theorem exec_tileSramWrite {s : State} (q : Fin 4) (kind : Fin 3) (a : BitVec 21) (v : BitVec 32) (hm : s.hasMarten = true)
    (hup : s.fwUp = true) (hstandby : s.tstate q = 1) :
    exec (.tileSramWrite q kind a v) s = .next (s.setTile q ((s.tile q).load32 kind a.toNat v)) :=
  (doIf_pos _ _ (by rw [hm, hup]; rfl)).trans (congrArg Host.Outcome.next (if_pos hstandby))

/-- An address of 21 bits is of the SRAM, below the operand buffer. -/
theorem Tile.putWord_sram (x : Tile) (a : BitVec 21) (v : Word) : (x.putWord a.toNat v).sram = Tab.set 0 x.sram a.toNat v := by
  have ha : a.toNat < bufferBase / 4 := a.isLt
  rw [Tile.putWord, Tile.setRaw, if_pos ha]

theorem Tile.setRaw_tables (x : Tile) (k : Nat) (v : Word) :
    (x.setRaw k v).jobTable = x.jobTable ∧ (x.setRaw k v).streamTable = x.streamTable := by
  unfold Tile.setRaw
  split <;> exact ⟨rfl, rfl⟩

theorem tileSramWrite_sram {s : State} (q : Fin 4) (kind : Fin 3) (a : BitVec 21) (v : BitVec 32) (hm : s.hasMarten = true)
    (hup : s.fwUp = true) (hstandby : s.tstate q = 1) (hkind : kind.val = 0) :
    Does (.tileSramWrite q kind a v) s fun t => Frame [.marten] [] s t ∧
      Tab.get 0 (t.tile q).sram a.toNat = v ∧ (∀ b, b ≠ a.toNat → Tab.get 0 (t.tile q).sram b = Tab.get 0 (s.tile q).sram b) ∧
      (t.tile q).jobTable = (s.tile q).jobTable ∧ (t.tile q).streamTable = (s.tile q).streamTable ∧ t.marten.slots = s.marten.slots := by
  have hrun := exec_tileSramWrite q kind a v hm hup hstandby
  rw [hkind] at hrun
  have hload : (s.tile q).load32 0 a.toNat v = (s.tile q).putWord a.toNat v := rfl
  obtain ⟨hjobs, hstreams⟩ := (s.tile q).setRaw_tables a.toNat v
  refine ⟨_, hrun, (Frame.refl s _ _).setTile _ _ (by simp), ?word, ?others, ?jobs, ?streams, rfl⟩ <;> rw [State.setTile_tile_same, hload]
  case word => rw [Tile.putWord_sram, Tab.get_set_same]
  case others =>
    intro b hb
    rw [Tile.putWord_sram, Tab.get_set_ne _ _ _ _ hb.symm]
  case jobs => exact hjobs
  case streams => exact hstreams

theorem tileSramWrite_jobTable {s : State} (q : Fin 4) (kind : Fin 3) (a : BitVec 21) (v : BitVec 32) (hm : s.hasMarten = true)
    (hup : s.fwUp = true) (hstandby : s.tstate q = 1) (hkind : kind.val = 1) :
    Does (.tileSramWrite q kind a v) s fun t => Frame [.marten] [] s t ∧
      Tab.get 0 (t.tile q).jobTable (a.toNat % 512) = v ∧ (t.tile q).sram = (s.tile q).sram ∧
      (t.tile q).streamTable = (s.tile q).streamTable := by
  have hrun := exec_tileSramWrite q kind a v hm hup hstandby
  rw [hkind] at hrun
  refine ⟨_, hrun, (Frame.refl s _ _).setTile _ _ (by simp), ?_⟩
  rw [State.setTile_tile_same]
  exact ⟨Tab.get_set_same .., rfl, rfl⟩

theorem tileSramWrite_streamTable {s : State} (q : Fin 4) (kind : Fin 3) (a : BitVec 21) (v : BitVec 32) (hm : s.hasMarten = true)
    (hup : s.fwUp = true) (hstandby : s.tstate q = 1) (hkind : kind.val = 2) :
    Does (.tileSramWrite q kind a v) s fun t => Frame [.marten] [] s t ∧
      Tab.get 0 (t.tile q).streamTable (a.toNat % 512) = v ∧ (t.tile q).sram = (s.tile q).sram ∧
      (t.tile q).jobTable = (s.tile q).jobTable := by
  have hrun := exec_tileSramWrite q kind a v hm hup hstandby
  rw [hkind] at hrun
  refine ⟨_, hrun, (Frame.refl s _ _).setTile _ _ (by simp), ?_⟩
  rw [State.setTile_tile_same]
  exact ⟨Tab.get_set_same .., rfl, rfl⟩

theorem tileSramWrite_ignored {s : State} (q : Fin 4) (kind : Fin 3) (a : BitVec 21) (v : BitVec 32) (hm : s.hasMarten = true)
    (hup : s.fwUp = true) (hother : s.tstate q ≠ 1) :
    Does (.tileSramWrite q kind a v) s fun t => Frame [] [(MRT_TSTAT.wr_ignored, q.val)] s t ∧ t.rd MRT_TSTAT.wr_ignored q = 1 :=
  ⟨s.wr MRT_TSTAT.wr_ignored q 1, (doIf_pos _ _ (by rw [hm, hup]; rfl)).trans (congrArg Host.Outcome.next (if_neg hother)),
    (Frame.refl s _ _).wr _ _ _ (by simp), State.rd_wr_lt _ _ (by decide)⟩

/-! ## The scrubber -/

/-- The tile as the scrubber's read of its next word leaves it. -/
def Tile.scrubStep (x : Tile) : Tile := { x.scrubbed x.scrub with scrub := (x.scrub + 1) % 262144 }

theorem exec_sramScrub {s : State} (q : Fin 4) (hm : s.hasMarten = true) (hon : s.tstate q ≠ 0) :
    exec (.sramScrub q []) s = .next (match (readBad (Tab.get 0 (s.tile q).bad (s.tile q).scrub)).1 with
      | .good => s.setTile q (s.tile q).scrubStep
      | .corrected => (s.setTile q (s.tile q).scrubStep).addSat MRT_TECC.corr q 1
      | .uncorrectable => (s.setTile q (s.tile q).scrubStep).tileUncorr q (s.tile q).scrub true) := by
  refine (doIf_pos _ _ (by rw [hm, Bool.true_and]; exact bne_iff_ne.mpr hon)).trans (congrArg Host.Outcome.next ?_)
  rw [s.noUpsets_tile q q]
  rfl

theorem Tile.scrubStep_of_not_corrected {x : Tile} (h : (readBad (Tab.get 0 x.bad x.scrub)).1 ≠ .corrected) :
    x.scrubStep = { x with scrub := (x.scrub + 1) % 262144 } := by
  have hsame : x.scrubbed x.scrub = x := by
    unfold Tile.scrubbed
    dsimp only
    split
    · contradiction
    · rfl
  rw [Tile.scrubStep, hsame]

/-- Words written back leave what the word code says of them. -/
theorem Tile.setRaw_bad (x : Tile) (k : Nat) (v : Word) : (x.setRaw k v).bad = x.bad := by
  unfold Tile.setRaw
  split <;> rfl

theorem Tile.scrubStep_of_corrected {x : Tile} (h : (readBad (Tab.get 0 x.bad x.scrub)).1 = .corrected) :
    Tab.get 0 x.scrubStep.bad x.scrub = 0 := by
  have hbad : (x.scrubbed x.scrub).bad = Tab.set 0 x.bad x.scrub 0 := by
    unfold Tile.scrubbed
    dsimp only
    rw [h]
    exact each_keeps (P := fun y : Tile => y.bad = Tab.set 0 x.bad x.scrub 0) (fun i y hy => (y.setRaw_bad _ _).trans hy) _ rfl
  rw [Tile.scrubStep, hbad, Tab.get_set_same]

theorem sramScrub_good {s : State} (q : Fin 4) (hm : s.hasMarten = true) (hon : s.tstate q ≠ 0)
    (hread : (readBad (Tab.get 0 (s.tile q).bad (s.tile q).scrub)).1 = .good) :
    Does (.sramScrub q []) s fun t => Frame [.marten] [] s t ∧ t.tile q = { s.tile q with scrub := ((s.tile q).scrub + 1) % 262144 } := by
  have hrun := exec_sramScrub q hm hon
  rw [hread] at hrun
  exact ⟨_, hrun, (Frame.refl s _ _).setTile _ _ (by simp),
    (State.setTile_tile_same ..).trans (Tile.scrubStep_of_not_corrected (by rw [hread]; decide))⟩

theorem sramScrub_corrected {s : State} (q : Fin 4) (hm : s.hasMarten = true) (hon : s.tstate q ≠ 0)
    (hread : (readBad (Tab.get 0 (s.tile q).bad (s.tile q).scrub)).1 = .corrected) :
    Does (.sramScrub q []) s fun t => Frame [.marten] [(MRT_TECC.corr, q.val)] s t ∧
      (t.tile q).scrub = ((s.tile q).scrub + 1) % 262144 ∧ Tab.get 0 (t.tile q).bad (s.tile q).scrub = 0 ∧
      t.rd MRT_TECC.corr q = min 65535 (s.rd MRT_TECC.corr q + 1) := by
  have hrun := exec_sramScrub q hm hon
  rw [hread] at hrun
  have htile : ((s.setTile q (s.tile q).scrubStep).addSat MRT_TECC.corr q 1).tile q = (s.tile q).scrubStep := State.setTile_tile_same ..
  refine ⟨_, hrun, ((Frame.refl s _ _).setTile _ _ (by simp)).addSat _ _ _ (by simp), congrArg Tile.scrub htile, ?bad, ?count⟩
  case bad => rw [htile, Tile.scrubStep_of_corrected hread]
  case count => exact State.addSat_rd_same ..

theorem sramScrub_uncorrectable {s : State} (q : Fin 4) (hm : s.hasMarten = true) (hon : s.tstate q ≠ 0)
    (hread : (readBad (Tab.get 0 (s.tile q).bad (s.tile q).scrub)).1 = .uncorrectable) :
    Records (.sramScrub q []) s Ev.INT_MRT_UNCORR Src.marten [q.val, wordNumber (s.tile q).scrub, 1] fun u =>
      Frame [.marten] [(MRT_TECC.uncorr, q.val), (MRT_TSTAT.uncorr, q.val), (MRT_TERRA.valid, q.val), (MRT_TERRA.scrub, q.val),
        (MRT_TERRA.word, q.val)] s u ∧ u.rd MRT_TERRA.valid q = 1 ∧ u.rd MRT_TERRA.scrub q = 1 ∧ (u.tile q).bad = (s.tile q).bad := by
  have hrun := exec_sramScrub q hm hon
  rw [hread] at hrun
  refine ⟨_, hrun, ?frame, ?valid, ?scrub, ?bad⟩
  case frame =>
    exact ((((((Frame.refl s _ _).setTile _ _ (by simp)).addSat _ _ _ (by simp)).wr _ _ _ (by simp)).wr _ _ _ (by simp)).wrBit _ _ _
      (by simp)).wr _ _ _ (by simp)
  case valid => exact (State.rd_wr_ne _ _ _ _ rfl).trans ((State.rd_wr_ne _ _ _ _ rfl).trans (State.rd_wr_lt _ _ (by decide)))
  case scrub => exact (State.rd_wr_ne _ _ _ _ rfl).trans (State.rd_wr_lt _ _ (by decide))
  case bad =>
    have hbad : (s.tile q).scrubStep.bad = (s.tile q).bad := by rw [Tile.scrubStep_of_not_corrected (by rw [hread]; decide)]
    exact (congrArg Tile.bad (State.setTile_tile_same ..)).trans hbad

/-- Settles O22: the states of a tile, the admission to RUN, a stop, the writes of its memory, and the scrubber. -/
theorem martenTiles : Obligations.MartenTiles :=
  ⟨fun _ q hm hup hoff htrain => tileEnable_standby q hm hup hoff htrain,
    fun _ q hm hup => ⟨fun h => tileDisable_off q hm hup h, fun h => tileDisable_drains q hm hup h⟩,
    fun _ q hm hup h => ⟨fun hcheck => tileRun_due q hm hup h hcheck, fun _ _ hcheck => tileRun_refused q hm hup h hcheck⟩,
    fun _ q hm hup => ⟨fun h => tileRunClear_standby q hm hup h, fun h => tileRunClear_drains q hm hup h⟩,
    fun _ q kind a v hm hup => ⟨fun h hk => tileSramWrite_sram q kind a v hm hup h hk, fun h hk => tileSramWrite_jobTable q kind a v hm hup h hk,
      fun h hk => tileSramWrite_streamTable q kind a v hm hup h hk, fun h => tileSramWrite_ignored q kind a v hm hup h⟩,
    fun _ q hm hon => ⟨fun h => sramScrub_good q hm hon h, fun h => sramScrub_corrected q hm hon h, fun h => sramScrub_uncorrectable q hm hon h⟩⟩

end Sys2Proof.Machine
end

section
/-!
SUPPORT. Cooling's zones (12): the judgement of the tables and drives, duties, the zones' commands, valves and ropes.
-/
namespace Sys2Proof.Machine

/-! ## What a drive and a table duty are read from -/

section
variable {s t : State}

/-- A drive is read neither from the drives shown nor from the flow meters' times. -/
theorem State.driveOf_congr (hw : Within [.cooling] [5136] s t) (hfan : t.fan = s.fan) : t.driveOf = s.driveOf := by
  have hstate : t.ostate = s.ostate := hw.rd_fun (f := FAN_OSTAT.state) rfl
  have hmembers : t.members = s.members := by
    funext z
    rw [State.members, State.members, hw.bit_fun rfl, hw.rd_fun rfl]
  have hlost : t.lost = s.lost := by
    funext o
    rw [State.lost, State.lost, hstate, hfan]
  have haction : t.lostAction = s.lostAction := by
    funext z o
    rw [State.lostAction, State.lostAction, hstate, hw.rd_fun rfl, hw.rd_fun rfl]
  have hfull : t.zoneFull = s.zoneFull := by
    funext z
    rw [State.zoneFull, State.zoneFull, hmembers, hlost, haction, hw.rd_fun rfl]
  have hflow : t.zoneLowFlow = s.zoneLowFlow := by
    funext z
    rw [State.zoneLowFlow, State.zoneLowFlow, hw.bit_fun rfl, hw.bit_fun rfl, hw.rd_fun rfl]
  have hpath : t.pathDuty = s.pathDuty := by
    have howner : t.ownerOf = s.ownerOf := by
      funext k i
      rw [State.ownerOf, State.ownerOf, hw.setts rfl]
    have hval : t.outVal = s.outVal := by
      funext b k i
      exact hw.outVal rfl b k i
    funext o
    rw [State.pathDuty, State.pathDuty, State.fanOwner, State.fanOwner, howner, hval, hw.rd_fun rfl]
  have hfive : t.rowFive = s.rowFive := by
    funext z o
    rw [State.rowFive, State.rowFive, hpath, hmembers, hlost, haction, hw.bit_fun rfl, hw.rd_fun rfl, hw.rd_fun rfl, hw.rd_fun rfl]
  have hthree : t.rowThree = s.rowThree := by
    have hpart : t.part = s.part := hw.block .part rfl
    rw [State.rowThree, State.rowThree, hw.bit_fun rfl, hpart]
  have hshadow : t.shadow_ = s.shadow_ := by rw [State.shadow_, State.shadow_, hw.rd_fun rfl]
  have hnow : t.bootUs = s.bootUs := hw.block .bootUs rfl
  funext o
  unfold State.driveOf
  rw [hshadow, hthree, hstate, hfan, hfull, hflow, hfive, hnow, hw.bit_fun rfl, hw.rd_fun rfl, hw.rd_fun rfl]

end

/-- Output `o`'s drive computed and shown. -/
def State.showDrive (s : State) (o : Nat) : State := s.wr FAN_OSTAT.drive o (s.driveOf o)

theorem State.showDrive_driveOf (s : State) (o : Nat) : (s.showDrive o).driveOf = s.driveOf :=
  State.driveOf_congr ((Within.refl _ _ s).wr _ _ _ rfl) rfl

theorem State.showDrive_drive (s : State) (i o : Nat) :
    (s.showDrive i).rd FAN_OSTAT.drive o = if i = o then s.driveOf o % 1024 else s.rd FAN_OSTAT.drive o := by
  split
  case isTrue h =>
    subst h
    exact State.rd_wr_same ..
  case isFalse h => exact State.rd_wr_inst _ _ _ _ _ h

theorem each_showDrive (l : List Nat) (s : State) {o : Nat} (h : o ∈ l) :
    (each l (fun o s => s.showDrive o) s).rd FAN_OSTAT.drive o = s.driveOf o % 1024 ∧ (each l (fun o s => s.showDrive o) s).driveOf o = s.driveOf o := by
  have hall := each_at (step := fun o (s : State) => s.showDrive o) (proj := fun s o => (s.rd FAN_OSTAT.drive o, s.driveOf o))
    (f := fun a => (a.2 % 1024, a.2)) (fun a => rfl) (fun i u j => by
      dsimp only
      rw [u.showDrive_driveOf i, u.showDrive_drive i j]
      split <;> rfl) l s o
  rw [if_pos h] at hall
  exact Prod.mk.inj hall

theorem State.judgeFlows_fan (s : State) : s.judgeFlows.fan = s.fan :=
  each_keeps (P := fun t : State => t.fan = s.fan) (fun f t h => by
    split
    · exact h
    · exact h) _ rfl

/-- After the drives are computed, every drive is that of Table 12-2. -/
theorem State.driveAll_shows (s : State) {o : Nat} (h : o < 20) : s.driveAll.rd FAN_OSTAT.drive o = s.driveAll.driveOf o % 1024 := by
  have hlast : ∃ v : State, s.driveAll = (each (List.range 20) (fun o s => s.showDrive o) v).judgeFlows := ⟨_, rfl⟩
  obtain ⟨v, hv⟩ := hlast
  generalize hu : each (List.range 20) (fun o s => s.showDrive o) v = u at hv
  obtain ⟨hdrive, hof⟩ := each_showDrive (List.range 20) v (List.mem_range.mpr h)
  rw [hu] at hdrive hof
  have hafter : u.judgeFlows.driveOf = u.driveOf :=
    State.driveOf_congr ((Within.refl _ _ u).step (State.judgeFlows_within u) rfl) u.judgeFlows_fan
  rw [hv, hafter, hof, ← hdrive]
  exact (State.judgeFlows_within u).rd _ _ rfl

/-! ## The tables -/

/-- Zone `z`'s table and inputs are in `t` what they were in `s`. -/
def ZoneAlike (z : Nat) (s t : State) : Prop :=
  Within [.cooling] [5253, 5264, 5274, 5275] s t ∧ t.cooling.crit = s.cooling.crit ∧ Tab.get 1 t.cooling.levels z = Tab.get 1 s.cooling.levels z

section
variable {z : Nat} {s t : State}

theorem Within.zonePoints (hw : Within [.cooling] [5253, 5264, 5274, 5275] s t) : t.tableBad = s.tableBad ∧ t.pointIn = s.pointIn := by
  have hpoint : t.point = s.point := by
    funext z i
    rw [State.point, State.point, hw.rd_fun rfl, hw.rd_fun rfl, hw.rd_fun rfl]
  have hbad : t.tableBad = s.tableBad := by
    funext z
    rw [State.tableBad, State.tableBad, hpoint]
  have hpart : t.part = s.part := hw.block .part rfl
  refine ⟨hbad, ?_⟩
  funext z i
  rw [State.pointIn, State.pointIn, hbad, hpoint, hpart]

theorem ZoneAlike.inputs (h : ZoneAlike z s t) : t.sensorFailed = s.sensorFailed ∧ t.zoneInput = s.zoneInput := by
  obtain ⟨hw, hcrit, -⟩ := h
  have hpart : t.part = s.part := hw.block .part rfl
  have hin : t.zoneInputs = s.zoneInputs := by
    funext z
    rw [State.zoneInputs, State.zoneInputs, hw.rd_fun rfl]
  have hfailed : t.critFailed = s.critFailed := by
    have hchan : t.criticalChan = s.criticalChan := by
      funext c
      rw [State.criticalChan, State.criticalChan, hpart]
    funext c
    rw [State.critFailed, State.critFailed, hchan, hw.rd_fun rfl]
  constructor
  · funext z
    rw [State.sensorFailed, State.sensorFailed, hpart, hcrit, hin, hfailed, hw.bit_fun rfl, hw.bit_fun rfl, hw.bit_fun rfl]
  · funext z
    rw [State.zoneInput, State.zoneInput, hpart, hcrit, hin, hw.bit_fun rfl, hw.rd_fun rfl]

theorem ZoneAlike.levels (h : ZoneAlike z s t) (i : Int) : t.zoneLevels z i = s.zoneLevels z i := by
  obtain ⟨hw, -, hlevel⟩ := h
  rw [State.zoneLevels, State.zoneLevels, hw.zonePoints.2, hlevel]

end

/-- The table duty of zone `z` as R281 and R282 give it. -/
def State.tableDuty (s : State) (z : Nat) : Nat :=
  match s.zoneInput z with
  | none => 100
  | some i => if s.sensorFailed z then 100 else (s.pointIn z (topLevel (s.zoneLevels z i))).2.2

/-- Zone `z` shows in `t` what its table and inputs of `s` say. -/
def ZoneShows (z : Nat) (s t : State) : Prop :=
  t.rd FAN_ZSTAT.tbl_err z = (s.tableBad z).toNat ∧ t.rd FAN_ZSTAT.sensor_fail z = (s.sensorFailed z).toNat ∧
    t.rd FAN_ZSTAT.t_duty z = s.tableDuty z % 128

theorem ZoneAlike.shows {z : Nat} {s t u : State} (h : ZoneAlike z s t) (hs : ZoneShows z t u) : ZoneShows z s u := by
  have hduty : t.tableDuty z = s.tableDuty z := by
    rw [State.tableDuty, State.tableDuty, h.inputs.1, h.inputs.2, h.1.zonePoints.2]
    simp only [h.levels]
  rwa [ZoneShows, h.1.zonePoints.1, h.inputs.1, hduty] at hs

theorem ZoneAlike.trans {z : Nat} {s t u : State} (h : ZoneAlike z s t) (h' : ZoneAlike z t u) : ZoneAlike z s u :=
  ⟨h.1.step h'.1 rfl, h'.2.1.trans h.2.1, h'.2.2.trans h.2.2⟩

theorem State.judgeZone_shows (s : State) (z : Nat) : ZoneShows z s (s.judgeZone z) := by
  have htable : ZoneAlike z s (s.wrBit FAN_ZSTAT.tbl_err z (s.tableBad z)) := ⟨(Within.refl _ _ s).wrBit _ _ _ rfl, rfl, rfl⟩
  unfold State.judgeZone
  dsimp only
  rw [htable.inputs.1]
  have hmarked : ZoneAlike z s ((s.wrBit FAN_ZSTAT.tbl_err z (s.tableBad z)).wrBit FAN_ZSTAT.sensor_fail z (s.sensorFailed z)) :=
    ⟨htable.1.wrBit _ _ _ rfl, rfl, rfl⟩
  have herr : ((s.wrBit FAN_ZSTAT.tbl_err z (s.tableBad z)).wrBit FAN_ZSTAT.sensor_fail z (s.sensorFailed z)).rd FAN_ZSTAT.tbl_err z =
      (s.tableBad z).toNat := (State.rd_wr_ne _ _ _ _ rfl).trans (State.rd_wr_lt _ _ (Bool.toNat_lt _))
  have hfail : ((s.wrBit FAN_ZSTAT.tbl_err z (s.tableBad z)).wrBit FAN_ZSTAT.sensor_fail z (s.sensorFailed z)).rd FAN_ZSTAT.sensor_fail z =
      (s.sensorFailed z).toNat := State.rd_wr_lt _ _ (Bool.toNat_lt _)
  generalize (s.wrBit FAN_ZSTAT.tbl_err z (s.tableBad z)).wrBit FAN_ZSTAT.sensor_fail z (s.sensorFailed z) = u at hmarked herr hfail
  rw [hmarked.inputs.2]
  cases hin : s.zoneInput z with
  | none =>
    exact ⟨(State.rd_wr_ne _ _ _ _ rfl).trans herr, (State.rd_wr_ne _ _ _ _ rfl).trans hfail,
      (State.rd_wr_same ..).trans (by rw [State.tableDuty, hin]; rfl)⟩
  | some i =>
    dsimp only
    rw [hmarked.levels]
    generalize hv : ({ u with cooling := _ } : State) = v
    have hkept : Within [.cooling] [5253, 5264, 5274, 5275] u v := hv ▸ (Within.refl _ _ u).set_cooling _ rfl
    rw [hkept.zonePoints.2, hmarked.1.zonePoints.2]
    refine ⟨?err, ?fail, (State.rd_wr_same ..).trans (by rw [State.tableDuty, hin]; rfl)⟩
    case err => exact (State.rd_wr_ne _ _ _ _ rfl).trans ((State.rd_wr_ne _ _ _ _ rfl).trans (hv ▸ herr))
    case fail => exact (State.rd_wr_ne _ _ _ _ rfl).trans ((State.rd_wr_ne _ _ _ _ rfl).trans (hv ▸ hfail))

theorem State.judgeZone_alike (s : State) {y z : Nat} (h : y ≠ z) : ZoneAlike z s (s.judgeZone y) := by
  refine ⟨s.judgeZone_within y, ?_⟩
  unfold State.judgeZone
  dsimp only
  have hcool : ((s.wrBit FAN_ZSTAT.tbl_err y (s.tableBad y)).wrBit FAN_ZSTAT.sensor_fail y
    ((s.wrBit FAN_ZSTAT.tbl_err y (s.tableBad y)).sensorFailed y)).cooling = s.cooling := rfl
  generalize (s.wrBit FAN_ZSTAT.tbl_err y (s.tableBad y)).wrBit FAN_ZSTAT.sensor_fail y
    ((s.wrBit FAN_ZSTAT.tbl_err y (s.tableBad y)).sensorFailed y) = u at hcool ⊢
  split
  · rw [State.wr_cooling, hcool]
    exact ⟨rfl, rfl⟩
  · rw [State.wr_cooling, State.wr_cooling]
    dsimp only
    rw [hcool]
    exact ⟨rfl, Tab.get_set_ne _ _ _ _ h⟩

theorem Frame.cooling {bs : List Block} {fs : List (Fld × Nat)} {s t : State} (h : Frame bs fs s t) (z : Cooling) (hb : .cooling ∈ bs) :
    Frame bs fs s { t with cooling := z } :=
  h.upd (fun b hn => by cases b <;> simp_all [Block.same]) rfl

theorem State.judgeZone_frame (s : State) (z : Nat) :
    Frame [.cooling] [(FAN_ZSTAT.tbl_err, z), (FAN_ZSTAT.sensor_fail, z), (FAN_ZSTAT.t_duty, z), (FAN_ZSTAT.level, z)] s (s.judgeZone z) := by
  unfold State.judgeZone
  dsimp only
  have hmarks := ((Frame.refl s [.cooling] [(FAN_ZSTAT.tbl_err, z), (FAN_ZSTAT.sensor_fail, z), (FAN_ZSTAT.t_duty, z), (FAN_ZSTAT.level, z)]).wrBit
    FAN_ZSTAT.tbl_err z (s.tableBad z) (by simp)).wrBit FAN_ZSTAT.sensor_fail z
      ((s.wrBit FAN_ZSTAT.tbl_err z (s.tableBad z)).sensorFailed z) (by simp)
  split
  · exact hmarks.wr _ _ _ (by simp)
  · exact ((hmarks.cooling _ (by simp)).wr _ _ _ (by simp)).wr _ _ _ (by simp)

theorem each_judgeZone_shows (l : List Nat) (s : State) {z : Nat} (hz : z ∈ l) (hl : l.Nodup) :
    ZoneShows z s (each l (fun z s => s.judgeZone z) s) := by
  have hkeep (m : List Nat) (hm : z ∉ m) (f : Fld) (hf : f.code < 16384) (t : State) : (each m (fun z s => s.judgeZone z) t).rd f z = t.rd f z := by
    induction m generalizing t with
    | nil => rfl
    | cons y m ih =>
      rw [List.mem_cons, not_or] at hm
      refine (ih hm.2 _).trans ((t.judgeZone_frame y).2 f z ?_)
      simp [Fld.key, FAN_ZSTAT.tbl_err, FAN_ZSTAT.sensor_fail, FAN_ZSTAT.t_duty, FAN_ZSTAT.level]
      omega
  induction l generalizing s with
  | nil => cases hz
  | cons y l ih =>
    obtain ⟨hy, hl⟩ := List.nodup_cons.mp hl
    by_cases hyz : y = z
    · subst hyz
      obtain ⟨herr, hfail, hduty⟩ := s.judgeZone_shows y
      exact ⟨(hkeep l hy _ (by decide) _).trans herr, (hkeep l hy _ (by decide) _).trans hfail, (hkeep l hy _ (by decide) _).trans hduty⟩
    · exact (s.judgeZone_alike hyz).shows (ih (s.judgeZone y) ((List.mem_cons.mp hz).resolve_left (Ne.symm hyz)) hl)

theorem driveUpdate_shows {s : State} (hup : s.alive = true) (htick : s.tick % 1000 = 0) :
    Does .driveUpdate s fun t =>
      Touches [.cooling, .msix, .burrow]
        ([FAN_ZSTAT.level, FAN_ZSTAT.t_duty, FAN_ZSTAT.sensor_fail, FAN_ZSTAT.tbl_err] ++ driveFlds ++ recBits) s t ∧
      (∀ z < 4, t.rd FAN_ZSTAT.tbl_err z = (s.tableBad z).toNat ∧ t.rd FAN_ZSTAT.sensor_fail z = (s.sensorFailed z).toNat ∧
        t.rd FAN_ZSTAT.t_duty z = s.tableDuty z % 128) ∧
      ∀ o < 20, t.rd FAN_OSTAT.drive o = t.driveOf o % 1024 := by
  have hrun : exec .driveUpdate s = .next (each (List.range 4) (fun z s => s.judgeZone z) s).driveAll := doIf_pos _ _ (by simp [hup, htick])
  refine ⟨_, hrun, (execDriveUpdate_out s _ hrun).touches rfl rfl, fun z hz => ?_, fun o ho => State.driveAll_shows _ ho⟩
  obtain ⟨herr, hfail, hduty⟩ := each_judgeZone_shows (List.range 4) s (List.mem_range.mpr hz) List.nodup_range
  have hdrives := State.driveAll_within (each (List.range 4) (fun z s => s.judgeZone z) s)
  exact ⟨(hdrives.rd _ _ rfl).trans herr, (hdrives.rd _ _ rfl).trans hfail, (hdrives.rd _ _ rfl).trans hduty⟩

/-! ## Duties -/

theorem dutyWrite_takes {s : State} (o : Fin 20) (v : BitVec 10) (hup : s.alive = true) (hzoned : s.bit FAN_OCFG.zoned o = true)
    (hfree : s.fanOwner o = none) (hv : v.toNat ≤ 1000) :
    Does (.dutyWrite o v) s fun t => Frame [.cooling] [(FAN_DUTY.duty, o.val)] s t ∧ t.rd FAN_DUTY.duty o = v.toNat ∧
      (t.fan o).refreshed = some s.bootUs ∧ ∀ p, p ≠ o.val → t.fan p = s.fan p := by
  have hrun : exec (.dutyWrite o v) s = .next ((s.wr FAN_DUTY.duty o v.toNat).refresh o) := doIf_pos _ _ (by simp [hup, hzoned, hfree, hv])
  refine ⟨_, hrun, ((Frame.refl s _ _).wr _ _ _ (by simp)).cooling _ (by simp), State.rd_wr_lt _ _ v.isLt,
    congrArg FanOut.refreshed ((State.setFan_fan ..).trans (if_pos rfl)), fun p hp => (State.setFan_fan ..).trans (if_neg hp.symm)⟩

theorem dutyWrite_ignored {s : State} (o : Fin 20) (v : BitVec 10) (h : s.bit FAN_OCFG.zoned o = false ∨ (s.fanOwner o).isSome = true) :
    Does (.dutyWrite o v) s fun t => t = s := by
  refine Does.of_not_guard (c := .dutyWrite o v) rfl ?_
  rcases h with h | h
  · rw [h]
    simp
  · rw [← Option.not_isSome, h]
    simp

/-! ## The zones' commands -/

/-- What a zone must show to be taken (Table 12-1). -/
def State.zoneTakes (s : State) (z : Nat) : Bool :=
  !(s.members z).isEmpty && (s.members z).all s.fresh && !s.tableBad z && !s.part.vsettLost && !s.shadow_ && !s.bit SEC_BOOT.inert 0 &&
    !s.part.straps.bootHold

theorem exec_zoneTake {s : State} (z : Fin 4) (hup : s.alive = true) (hfall : s.bit FAN_ZSTAT.fallback z = true) :
    exec (.zoneTake z) s = .next (if s.zoneTakes z then
        (((s.wr FAN_ZSTAT.cmd_status z St.ok).wr FAN_ZSTAT.fallback z 0).record Ev.FAN_REGISTER Src.cooling [z.val, s.rd FAN_ZSTAT.fb_cause z]).driveAll
      else s.wr FAN_ZSTAT.cmd_status z St.refusedState) := by
  refine (doIf_pos _ _ hup).trans (congrArg Host.Outcome.next ?_)
  rw [hfall]
  rfl

theorem zoneTake_takes {s : State} (z : Fin 4) (hup : s.alive = true) (hfall : s.bit FAN_ZSTAT.fallback z = true) (htakes : s.zoneTakes z = true) :
    Does (.zoneTake z) s fun t => Touches [.cooling, .msix, .burrow] ([FAN_ZSTAT.cmd_status, FAN_ZSTAT.fallback] ++ driveFlds ++ recBits) s t ∧
      t.rd FAN_ZSTAT.fallback z = 0 ∧ t.rd FAN_ZSTAT.cmd_status z = St.ok ∧
      ∀ y, y ≠ z.val → t.rd FAN_ZSTAT.fallback y = s.rd FAN_ZSTAT.fallback y := by
  have hrun := exec_zoneTake z hup hfall
  rw [if_pos htakes] at hrun
  have hrest (u : State) (data : List Nat) : Within [.cooling, .msix, .burrow] [5136, 5147, 5149, 5271, 6914, 9152, 9280, 9344, 9408] u
      (u.record Ev.FAN_REGISTER Src.cooling data).driveAll :=
    ((Within.refl _ _ u).step (State.record_within _ _ _ _) rfl).step (State.driveAll_within _) rfl
  refine ⟨_, hrun, (execZoneTake_out z s _ hrun).touches rfl rfl, ?mode, ?status, fun y hy => ?others⟩
  case mode => exact ((hrest _ _).rd _ _ rfl).trans (State.rd_wr_lt _ _ (by decide))
  case status => exact ((hrest _ _).rd _ _ rfl).trans ((State.rd_wr_ne _ _ _ _ rfl).trans (State.rd_wr_lt _ _ (by decide)))
  case others => exact ((hrest _ _).rd _ _ rfl).trans ((State.rd_wr_inst _ _ _ _ _ hy.symm).trans (State.rd_wr_ne _ _ _ _ rfl))

theorem zoneTake_refuses {s : State} (z : Fin 4) (hup : s.alive = true) (hfall : s.bit FAN_ZSTAT.fallback z = true)
    (h : s.members z = [] ∨ (∃ o ∈ s.members z, s.fresh o = false) ∨ s.tableBad z = true) :
    Does (.zoneTake z) s fun t => Frame [] [(FAN_ZSTAT.cmd_status, z.val)] s t ∧ t.rd FAN_ZSTAT.cmd_status z = St.refusedState := by
  have hno : s.zoneTakes z = false := by
    unfold State.zoneTakes
    rcases h with h | ⟨o, ho, hfresh⟩ | h
    · rw [h]
      rfl
    · have hall : (s.members z).all s.fresh = false := List.all_eq_false.mpr ⟨o, ho, by simp [hfresh]⟩
      rw [hall]
      simp
    · rw [h]
      simp
  have hrun := exec_zoneTake z hup hfall
  rw [hno] at hrun
  exact ⟨_, hrun, (Frame.refl s _ _).wr _ _ _ (by simp), State.rd_wr_lt _ _ (by decide)⟩

/-- A zone that is not in FALLBACK enters it. -/
theorem State.zoneFallback_enters {s : State} {z cause : Nat} (hno : s.bit FAN_ZSTAT.fallback z = false) (hcause : cause < 4) :
    (s.zoneFallback z cause).rd FAN_ZSTAT.fallback z = 1 ∧ (s.zoneFallback z cause).rd FAN_ZSTAT.fb_cause z = cause ∧
      ∀ y, y ≠ z → (s.zoneFallback z cause).rd FAN_ZSTAT.fallback y = s.rd FAN_ZSTAT.fallback y := by
  have hput : s.zoneFallback z cause =
      (((s.wr FAN_ZSTAT.fallback z 1).wr FAN_ZSTAT.fb_cause z cause).record Ev.FAN_FALLBACK Src.cooling [z, cause]).driveAll := by
    rw [State.zoneFallback, State.putFallback, hno]
    rfl
  have hrest (u : State) (data : List Nat) : Within [.cooling, .msix, .burrow] [5136, 5147, 5149, 5271, 6914, 9152, 9280, 9344, 9408] u
      (u.record Ev.FAN_FALLBACK Src.cooling data).driveAll :=
    ((Within.refl _ _ u).step (State.record_within _ _ _ _) rfl).step (State.driveAll_within _) rfl
  rw [hput]
  refine ⟨((hrest _ _).rd _ _ rfl).trans ?_, ((hrest _ _).rd _ _ rfl).trans ?_, fun y hy => ((hrest _ _).rd _ _ rfl).trans ?_⟩
  · exact (State.rd_wr_ne _ _ _ _ rfl).trans (State.rd_wr_lt _ _ (by decide))
  · exact State.rd_wr_lt _ _ (Nat.lt_of_lt_of_le hcause (by decide))
  · exact (State.rd_wr_ne _ _ _ _ rfl).trans (State.rd_wr_inst _ _ _ _ _ hy.symm)

theorem zoneRelease_falls {s : State} (z : Fin 4) (hup : s.alive = true) (hno : s.bit FAN_ZSTAT.fallback z = false) :
    Does (.zoneRelease z) s fun t =>
      Touches [.cooling, .msix, .burrow] ([FAN_ZSTAT.cmd_status, FAN_ZSTAT.fallback, FAN_ZSTAT.fb_cause] ++ driveFlds ++ recBits) s t ∧
      t.rd FAN_ZSTAT.fallback z = 1 ∧ t.rd FAN_ZSTAT.fb_cause z = 3 ∧ t.rd FAN_ZSTAT.cmd_status z = St.ok ∧
      ∀ y, y ≠ z.val → t.rd FAN_ZSTAT.fallback y = s.rd FAN_ZSTAT.fallback y := by
  have hrun : exec (.zoneRelease z) s = .next ((s.wr FAN_ZSTAT.cmd_status z St.ok).zoneFallback z 3) := doIf_pos _ _ hup
  have hmode (y : Nat) : (s.wr FAN_ZSTAT.cmd_status z St.ok).rd FAN_ZSTAT.fallback y = s.rd FAN_ZSTAT.fallback y := State.rd_wr_ne _ _ _ _ rfl
  obtain ⟨hfall, hcause, hothers⟩ := State.zoneFallback_enters (s := s.wr FAN_ZSTAT.cmd_status z St.ok) (z := z) (cause := 3)
    ((congrArg (· != 0) (hmode z)).trans hno) (by decide)
  exact ⟨_, hrun, (execZoneRelease_out z s _ hrun).touches rfl rfl, hfall, hcause,
    ((State.zoneFallback_within _ _ _).rd _ _ rfl).trans (State.rd_wr_lt _ _ (by decide)), fun y hy => (hothers y hy).trans (hmode y)⟩

theorem zoneRefreshTimeout_falls {s : State} (z : Fin 4) (hup : s.alive = true) (hno : s.bit FAN_ZSTAT.fallback z = false)
    (hstale : ∃ o ∈ s.members z, s.fresh o = false) :
    Does (.zoneRefreshTimeout z) s fun t =>
      Touches [.cooling, .msix, .burrow] ([FAN_ZSTAT.fallback, FAN_ZSTAT.fb_cause] ++ driveFlds ++ recBits) s t ∧
      t.rd FAN_ZSTAT.fallback z = 1 ∧ t.rd FAN_ZSTAT.fb_cause z = 1 := by
  obtain ⟨o, ho, hfresh⟩ := hstale
  have hany : (s.members z).any (fun o => !s.fresh o) = true := List.any_eq_true.mpr ⟨o, ho, by rw [hfresh]; rfl⟩
  have hrun : exec (.zoneRefreshTimeout z) s = .next (s.zoneFallback z 1) := doIf_pos _ _ (by rw [hup, hno, hany]; rfl)
  obtain ⟨hfall, hcause, -⟩ := State.zoneFallback_enters hno (cause := 1) (by decide)
  exact ⟨_, hrun, (execZoneRefreshTimeout_out z s _ hrun).touches rfl rfl, hfall, hcause⟩

/-! ## Valves and ropes -/

/-- Four bits put together, bit `k` being `p k`. -/
theorem fourBits_testBit (p : Nat → Bool) {k : Nat} (hk : k < 4) :
    (((if p 0 then 2 ^ 0 else 0) + (if p 1 then 2 ^ 1 else 0) + (if p 2 then 2 ^ 2 else 0) + (if p 3 then 2 ^ 3 else 0)) % 2 ^ 4).testBit k = p k := by
  match k, hk with
  | 0, _ | 1, _ | 2, _ | 3, _ => cases p 0 <;> cases p 1 <;> cases p 2 <;> cases p 3 <;> rfl

/-- Valve `b`'s bit after a write of `v`. -/
def State.valveBit (s : State) (v : BitVec 4) (b : Nat) : Bool :=
  if (s.ownerOf 11 b).isSome then (s.rd FAN_VLV.close 0).testBit b else v.getLsbD b

theorem valveCloseWrite_takes {s : State} (v : BitVec 4) (hup : s.alive = true) :
    Does (.valveCloseWrite v) s fun t => Frame [.cooling] [(FAN_VLV.close, 0)] s t ∧
      ∀ b < 4, (t.rd FAN_VLV.close 0).testBit b = s.valveBit v b := by
  refine ⟨_, doIf_pos _ _ hup, ?frame, fun b hb => ?bit⟩
  case frame => exact each_keeps (fun f u hu => Frame.ite (hu.cooling _ (by simp)) hu) _ ((Frame.refl s _ _).wr _ _ _ (by simp))
  case bit =>
    rw [(State.judgeFlows_within _).rd _ _ rfl, State.rd_wr_same]
    exact fourBits_testBit (s.valveBit v) hb

theorem leakRstatClear_clears {s : State} (r : Fin 16) (hup : s.settUp = true) :
    Does (.leakRstatClear r) s fun t => Frame [] [(LEAK_RSTAT.worst, r.val), (LEAK_RSTAT.lowest, r.val)] s t ∧
      t.rd LEAK_RSTAT.worst r = 0 ∧ t.rd LEAK_RSTAT.lowest r = 0x7FFF :=
  ⟨_, doIf_pos _ _ hup, ((Frame.refl s _ _).wr _ _ _ (by simp)).wr _ _ _ (by simp),
    (State.rd_wr_ne _ _ _ _ rfl).trans (State.rd_wr_lt _ _ (by decide)), State.rd_wr_lt _ _ (by decide)⟩

/-- Settles O24: the millisecond's judgement, duties, the zones' commands, valves and ropes. -/
theorem coolingZones : Obligations.CoolingZones :=
  ⟨fun _ hup htick => driveUpdate_shows hup htick,
    fun _ o v hup => ⟨fun hzoned hfree hv => dutyWrite_takes o v hup hzoned hfree hv, fun h => dutyWrite_ignored o v h⟩,
    fun _ z hup => ⟨fun hfall hmembers hfresh hbad hvsett hshadow hinert hhold => zoneTake_takes z hup hfall (by
        simp only [State.zoneTakes, List.all_eq_true.mpr hfresh, hbad, hvsett, hshadow, hinert, hhold]
        simpa using hmembers),
      fun hfall h => zoneTake_refuses z hup hfall h, fun hno => zoneRelease_falls z hup hno,
      fun hno hstale => zoneRefreshTimeout_falls z hup hno hstale⟩,
    fun _ v hup => valveCloseWrite_takes v hup, fun _ r hup => leakRstatClear_clears r hup⟩

/-! ## The critical comparator -/

/-- The register bank holds a 2 in a field of one bit, and the grace of a blind pair ends. -/
def assertingTwoState : State := { part := { held := false }, bootUs := 10000000, regs := [(FAN_CRIT.grace.key 0, 1), (FAN_CRIT.asserting.key 0, 2)] }

theorem assertingTwoState_critGraceEnd : ∃ t, exec .critGraceEnd assertingTwoState = .next t ∧ t.rd FAN_CRIT.asserting 0 = 2 :=
  ⟨_, rfl, rfl⟩

/-- Refutes O26: the end of the grace leaves a comparator that asserts as it is, and a state may hold a number above the field's width there. -/
theorem not_flowAndCritical : ¬ Obligations.FlowAndCritical := by
  unfold Obligations.FlowAndCritical
  rintro ⟨-, -, -, hgrace, -⟩
  obtain ⟨t, hrun, hread⟩ := assertingTwoState_critGraceEnd
  obtain ⟨u, hu, -, -, hone⟩ := hgrace assertingTwoState (by decide) (by decide) (by decide)
  rw [hrun] at hu
  cases hu
  rw [hread] at hone
  cases hone

end Sys2Proof.Machine
end

section
/-!
SUPPORT. Ward ports (13): two counts of a state whose register bank holds a number above the field's width.
-/
namespace Sys2Proof.Machine

/-! ## Retrains -/

/-- Port 0 has been in FAULT for 10 ms with its count of retrains at its end, and its register bank holds 300 in the 4 bits of `retrain_max`. -/
def wideRetrainState : State :=
  { part := { held := false }, bootUs := 10000,
    regs := [(WPORT_CTL.retrain_max.key 0, 300), (WPORT_STAT.retrains.key 0, 255), (WPORT_STAT.state.key 0, 4)] }

theorem wideRetrainState_expiry : ∃ t, exec (.faultRetrainExpiry 0) wideRetrainState = .next t ∧ t.rd WPORT_STAT.retrains 0 = 255 :=
  ⟨_, rfl, by decide +kernel⟩

/-- Refutes O27: the count of retrains stays at 255 where a state holds more than that as the limit. -/
theorem not_portLinks : ¬ Obligations.PortLinks := by
  rintro ⟨-, -, -, -, -, -, hexpiry⟩
  obtain ⟨hretrain, -⟩ := hexpiry wideRetrainState 0 (by decide) (by decide +kernel) (by decide)
  obtain ⟨t, hrun, -, -, hcount⟩ := hretrain (by decide +kernel)
  obtain ⟨u, hu, hread⟩ := wideRetrainState_expiry
  cases hrun.symm.trans hu
  exact absurd (hread.symm.trans hcount) (by decide +kernel)

/-! ## The latency of telemetry -/

/-- Port 0 is LINKED and has sent a SYNC whose number is the CRC register after the header, and its register bank holds 65,536 in the 16 bits
of `WPORT_TLAT.largest`. -/
def wideLatencyState : State :=
  { part := { held := false }, ports := [(0, { sync := 3826739741 })], regs := [(WPORT_STAT.state.key 0, 3), (WPORT_TLAT.largest.key 0, 65536)] }

/-- A TELEM frame that answers the SYNC and holds zeros: the number of the SYNC takes the CRC register to 0, where zeros keep it. -/
def zeroTelem : List Word := 0x20000100 :: 3826739740 :: List.replicate 61 0 ++ [0xFFFFFFFF]

theorem foldl_crcWord_zeros (n : Nat) : (List.replicate n (0 : Word)).foldl crcWord 0 = 0 := by
  have hzero : crcWord 0 0 = 0 := by decide +kernel
  induction n with
  | zero => rfl
  | succ n ih => rw [List.replicate_succ, List.foldl_cons, hzero, ih]

theorem zeroTelem_crc : crcWords (zeroTelem.take 63) = 0xFFFFFFFF := by
  have hbody : zeroTelem.take 63 = 0x20000100 :: 3826739740 :: List.replicate 61 0 := by decide
  have hsync : crcWord (crcWord 0xFFFFFFFF#32 0x20000100) 3826739740 = 0 := by decide +kernel
  rw [crcWords, hbody, List.foldl_cons, List.foldl_cons, hsync, foldl_crcWord_zeros]
  rfl

theorem wideLatencyState_telemGood : wideLatencyState.telemGood 0 zeroTelem = true := by
  rw [State.telemGood, zeroTelem_crc]
  decide +kernel

theorem wideLatencyState_telem : ∃ t, exec (.telem 0 zeroTelem 0) wideLatencyState = .next t ∧ t.rd WPORT_TLAT.largest 0 = 0 := by
  refine ⟨_, (doIf_pos _ _ (by decide +kernel)).trans (congrArg Host.Outcome.next (if_pos wideLatencyState_telemGood)), ?_⟩
  decide +kernel

/-- Refutes O28: the largest latency is cut to its 16 bits where a state holds more than that in it. -/
theorem not_portRequests : ¬ Obligations.PortRequests := by
  rintro ⟨-, -, htelem, -⟩
  obtain ⟨hgood, -⟩ := htelem wideLatencyState 0 zeroTelem 0 (by decide) (by decide +kernel)
  obtain ⟨u, hrun, -, -, -, -, -, hlargest⟩ := hgood wideLatencyState_telemGood
  obtain ⟨t, ht, hread⟩ := wideLatencyState_telem
  have hsame : t = u := by
    dsimp only at hrun
    rw [ht, if_neg (by decide +kernel)] at hrun
    exact Host.Outcome.next.inj hrun
  rw [← hsame] at hlargest
  exact absurd (hread.symm.trans hlargest) (by decide +kernel)

end Sys2Proof.Machine
end

section
/-!
SUPPORT. Laser sources (13): what a power is read from, the state a source shows, polls, reductions and the buses.
-/
namespace Sys2Proof.Machine

section
variable {bs : List Block} {cs : List Nat} {fs : List (Fld × Nat)} {s t : State}

theorem Frame.setLaser (h : Frame bs fs s t) (k : Nat) (x : Laser) (hb : .lasers ∈ bs) : Frame bs fs s (t.setLaser k x) :=
  h.upd (fun b hn => by cases b <;> simp_all [Block.same, State.setLaser]) rfl

theorem Within.laser (h : Within bs cs s t) (hb : bs.contains .lasers = false) (k : Nat) : t.laser k = s.laser k := by
  have hl : t.lasers = s.lasers := h.block .lasers hb
  rw [State.laser, State.laser, hl]

end

theorem State.setLaser_laser_same (s : State) (k : Nat) (x : Laser) : (s.setLaser k x).laser k = x := (State.setLaser_laser ..).trans (if_pos rfl)

/-! ## Power and the state shown -/

theorem State.laserPower_disabled {s : State} {k : Nat} (h : s.rd WPORT_LSCFG.enable k = 0) : s.laserPower k = 0 := by
  rw [State.laserPower, State.bit, h]
  rfl

theorem State.laserPower_shut {s : State} {k : Nat} (h : laserBus k ∈ s.lasers.shut) : s.laserPower k = 0 := by
  have hshut : s.lasers.shut.contains (laserBus k) = true := List.contains_iff_mem.mpr h
  rw [State.laserPower, hshut]
  simp

theorem State.laserLimit_rd (s : State) {f : Fld} (k i : Nat) (hf : (decide (6300 ≠ f.code) && f.ok) = true) : (s.laserLimit k).rd f i = s.rd f i :=
  (s.laserLimit_within k).rd f i (by
    rw [Bool.and_eq_true, decide_eq_true_eq] at hf
    rw [Bool.and_eq_true]
    exact ⟨by simpa using Ne.symm hf.1, hf.2⟩)

/-- A power is read from the laser, its owner, and these fields; of the state shown it matters only whether it is a FAULT reduction. -/
theorem State.laserPower_congr {s t : State} (k : Nat) (hw : Within [] [6300, 6301] s t)
    (hstate : t.rd WPORT_LSSTAT.state k = 5 ↔ s.rd WPORT_LSSTAT.state k = 5) : t.laserPower k = s.laserPower k := by
  have howner : t.ownerOf 15 k = s.ownerOf 15 k := by rw [State.ownerOf, State.ownerOf, hw.setts rfl]
  have hlasers : t.lasers = s.lasers := hw.block .lasers rfl
  have hfault : (t.rd WPORT_LSSTAT.state k == 5) = (s.rd WPORT_LSSTAT.state k == 5) := by
    rw [Bool.eq_iff_iff, beq_iff_eq, beq_iff_eq, hstate]
  unfold State.laserPower
  rw [hw.laser rfl, hlasers, howner, hfault, hw.bit_fun rfl, hw.rd_fun rfl, hw.rd_fun rfl]

/-- What a source shows outside a reduction. -/
theorem State.laserShow_state {s : State} {k : Nat} (h : s.rd WPORT_LSSTAT.state k ≤ 2) :
    (s.laserShow k).rd WPORT_LSSTAT.state k = if s.laserPower k = 0 then 0 else if (s.laser k).lit then 2 else 1 := by
  have hlimit : (s.laserLimit k).rd WPORT_LSSTAT.state k = s.rd WPORT_LSSTAT.state k := s.laserLimit_rd k k rfl
  have hpower : (s.laserLimit k).laserPower k = s.laserPower k :=
    State.laserPower_congr k ((Within.refl _ _ s).step (s.laserLimit_within k) rfl) (by rw [hlimit])
  unfold State.laserShow
  dsimp only
  rw [if_neg (by omega), hpower, (s.laserLimit_within k).laser rfl]
  split
  · exact State.rd_wr_lt _ _ (by decide)
  · split <;> exact State.rd_wr_lt _ _ (by decide)

theorem State.laserShow_reduced {s : State} {k : Nat} (h : s.rd WPORT_LSSTAT.state k = 3 ∨ s.rd WPORT_LSSTAT.state k = 4 ∨ s.rd WPORT_LSSTAT.state k = 5) :
    (s.laserShow k).rd WPORT_LSSTAT.state k = s.rd WPORT_LSSTAT.state k := by
  unfold State.laserShow
  dsimp only
  rw [if_pos h]
  exact s.laserLimit_rd k k rfl

/-! ## Enabling -/

/-- Source `k` with its register's write accepted. -/
theorem sourceEnableWrite_on {s : State} (k : Fin 18) (hup : s.laserUp = true) (hlock : s.bit WPORT_LSCFG.lock k = false) :
    Does (.sourceEnableWrite k true) s fun t =>
      Touches [.lasers] [WPORT_LSCFG.enable, WPORT_LSSTAT.cmd_status, WPORT_LSSTAT.limited, WPORT_LSSTAT.state] s t ∧
      t.rd WPORT_LSCFG.enable k = 1 ∧ t.rd WPORT_LSSTAT.cmd_status k = St.ok := by
  have hrun : exec (.sourceEnableWrite k true) s =
      .next (((s.wr WPORT_LSSTAT.cmd_status k St.ok).wr WPORT_LSCFG.enable k 1).laserShow k) := doIf_pos _ _ (by rw [hup, hlock]; rfl)
  have hall : Within [.lasers] [6238, 6280, 6300, 6301] s (((s.wr WPORT_LSSTAT.cmd_status k St.ok).wr WPORT_LSCFG.enable k 1).laserShow k) :=
    (((Within.refl _ _ s).wr _ _ _ rfl).wr _ _ _ rfl).step (State.laserShow_within _ k) rfl
  exact ⟨_, hrun, hall.touches rfl rfl, ((State.laserShow_within _ k).rd _ _ rfl).trans (State.rd_wr_lt _ _ (by decide)),
    ((State.laserShow_within _ k).rd _ _ rfl).trans ((State.rd_wr_ne _ _ _ _ rfl).trans (State.rd_wr_lt _ _ (by decide)))⟩

/-- Source `k` disabled, before it shows its state. -/
def State.sourceOff (s : State) (k : Nat) : State :=
  let s2 := ((s.wr WPORT_LSSTAT.cmd_status k St.ok).wr WPORT_LSCFG.enable k 0).setLaser k { s.laser k with reduced := none }
  if s.rd WPORT_LSSTAT.state k = 4 then s2 else s2.wr WPORT_LSSTAT.state k 0

theorem State.sourceOff_within (s : State) (k : Nat) : Within [.lasers] [6238, 6280, 6301] s (s.sourceOff k) := by
  have hoff := (((Within.refl [.lasers] [6238, 6280, 6301] s).wr WPORT_LSSTAT.cmd_status k St.ok rfl).wr WPORT_LSCFG.enable k 0 rfl).step
    (State.setLaser_within _ k { s.laser k with reduced := none }) rfl
  exact Within.ite hoff (hoff.wr _ _ _ rfl)

theorem State.sourceOff_shows (s : State) (k : Nat) :
    (s.sourceOff k).rd WPORT_LSCFG.enable k = 0 ∧ ((s.sourceOff k).laser k).reduced = none := by
  have henable : (((s.wr WPORT_LSSTAT.cmd_status k St.ok).wr WPORT_LSCFG.enable k 0).setLaser k { s.laser k with reduced := none }).rd
      WPORT_LSCFG.enable k = 0 := (State.setLaser_rd ..).trans (State.rd_wr_lt _ _ (by decide))
  have hlaser := congrArg Laser.reduced (State.setLaser_laser_same ((s.wr WPORT_LSSTAT.cmd_status k St.ok).wr WPORT_LSCFG.enable k 0) k
    { s.laser k with reduced := none })
  unfold State.sourceOff
  dsimp only
  split
  · exact ⟨henable, hlaser⟩
  · exact ⟨(State.rd_wr_ne _ _ _ _ rfl).trans henable, hlaser⟩

theorem sourceEnableWrite_off {s : State} (k : Fin 18) (hup : s.laserUp = true) (hlock : s.bit WPORT_LSCFG.lock k = false)
    (hlinked : s.feedsLinked k = false) :
    Does (.sourceEnableWrite k false) s fun t => Touches [.lasers] [WPORT_LSCFG.enable, WPORT_LSSTAT.cmd_status,
      WPORT_LSSTAT.limited, WPORT_LSSTAT.state] s t ∧ t.rd WPORT_LSCFG.enable k = 0 ∧ (t.laser k).reduced = none ∧ t.laserPower k = 0 := by
  have hrun : exec (.sourceEnableWrite k false) s = .next ((s.sourceOff k).laserShow k) := by
    refine (doIf_pos _ _ (by rw [hup, hlock]; rfl)).trans (congrArg Host.Outcome.next ?_)
    rw [hlinked]
    rfl
  have hall : Within [.lasers] [6238, 6280, 6300, 6301] s ((s.sourceOff k).laserShow k) :=
    ((Within.refl _ _ s).step (s.sourceOff_within k) rfl).step (State.laserShow_within _ k) rfl
  have henable : ((s.sourceOff k).laserShow k).rd WPORT_LSCFG.enable k = 0 :=
    ((State.laserShow_within _ k).rd _ _ rfl).trans (s.sourceOff_shows k).1
  exact ⟨_, hrun, hall.touches rfl rfl, henable,
    (congrArg Laser.reduced ((State.laserShow_within _ k).laser rfl k)).trans (s.sourceOff_shows k).2, State.laserPower_disabled henable⟩

theorem sourceEnableWrite_refused {s : State} (k : Fin 18) (hup : s.laserUp = true) (hlock : s.bit WPORT_LSCFG.lock k = false)
    (hlinked : s.feedsLinked k = true) :
    Does (.sourceEnableWrite k false) s fun t =>
      Frame [] [(WPORT_LSSTAT.refused, k.val), (WPORT_LSSTAT.cmd_status, k.val)] s t ∧ t.rd WPORT_LSSTAT.refused k = 1 ∧
      t.rd WPORT_LSSTAT.cmd_status k = St.refusedState := by
  have hrun : exec (.sourceEnableWrite k false) s =
      .next ((s.wr WPORT_LSSTAT.refused k 1).wr WPORT_LSSTAT.cmd_status k St.refusedState) := by
    refine (doIf_pos _ _ (by rw [hup, hlock]; rfl)).trans (congrArg Host.Outcome.next ?_)
    rw [hlinked]
    rfl
  exact ⟨_, hrun, ((Frame.refl s _ _).wr _ _ _ (by simp)).wr _ _ _ (by simp), (State.rd_wr_ne _ _ _ _ rfl).trans (State.rd_wr_lt _ _ (by decide)),
    State.rd_wr_lt _ _ (by decide)⟩

/-! ## Polls and reductions -/

/-- A source that reports bad, or falls silent, is in a FAULT reduction, unless its bus is shut. -/
theorem State.laserFault_state {s : State} {k : Nat} (stat : Nat) (h : s.rd WPORT_LSSTAT.state k ≠ 4) :
    (s.laserFault k stat).rd WPORT_LSSTAT.state k = 5 := by
  unfold State.laserFault
  split
  case isTrue hst => exact hst.resolve_right h
  case isFalse => exact ((State.record_within _ _ _ _).rd _ _ rfl).trans (State.rd_wr_lt _ _ (by decide))

/-- What a reduction leaves of a source: all but the wait for its settling. -/
theorem State.laserFault_laser (s : State) (k stat : Nat) : ∃ r, (s.laserFault k stat).laser k = { s.laser k with reduced := r } := by
  unfold State.laserFault
  split
  · exact ⟨_, rfl⟩
  · exact ⟨_, ((State.record_within _ _ _ _).laser rfl k).trans (State.setLaser_laser_same ..)⟩

theorem State.laserSettle_laser (s : State) (k : Nat) (v : LaserRead) : ∃ r, (s.laserSettle k v).laser k = { s.laser k with reduced := r } := by
  unfold State.laserSettle
  split
  · split
    · exact ⟨_, State.setLaser_laser_same ..⟩
    · exact ⟨_, rfl⟩
  · exact ⟨_, rfl⟩

/-- What a poll that is answered keeps of the source. -/
def State.laserAnswered (s : State) (k : Nat) (v : LaserRead) : Laser :=
  { s.laser k with misses := 0, polledAt := s.bootUs, stat := v.stat.toNat, address := some ((s.laser k).address.getD (Config.laserAddress k)) }

/-- What a poll that is answered shows. -/
def State.laserRead (s : State) (k : Nat) (v : LaserRead) : State :=
  ((((s.setLaser k (s.laserAnswered k v)).laserSettle k v).wr WPORT_LSSTAT.present k 1).wr WPORT_LSSTAT.p_meas k
    (openQuot v.pmeas.toNat 100).toNat).wr WPORT_LSSTAT.temp k (low 8 (max (-128) (min 127 (openQuot v.temp.toInt 128))))

theorem State.laserRead_within (s : State) (k : Nat) (v : LaserRead) : Within [.lasers] [6272, 6288, 6298] s (s.laserRead k v) :=
  (((((Within.refl _ _ s).step (State.setLaser_within _ _ _) rfl).step (State.laserSettle_within _ _ _) rfl).wr _ _ _ rfl).wr _ _ _ rfl).wr
    _ _ _ rfl

theorem State.laserRead_laser (s : State) (k : Nat) (v : LaserRead) :
    ∃ r, (s.laserRead k v).laser k = { s.laserAnswered k v with reduced := r } := by
  obtain ⟨r, hr⟩ := (s.setLaser k (s.laserAnswered k v)).laserSettle_laser k v
  exact ⟨r, hr.trans (by rw [State.setLaser_laser_same])⟩

theorem openQuot_of_dvd {n d : Nat} (h : n % d = 0) : (openQuot n d).toNat = n / d := by
  have hdvd : (n : Int) % (d : Int) = 0 := by exact_mod_cast h
  rw [openQuot, if_pos hdvd]
  exact_mod_cast Int.toNat_natCast (n / d)

theorem laserPoll_answered {s : State} (k : Fin 18) (v : LaserRead) (hup : s.laserUp = true) (hdue : (s.laser k).polledAt + 1000 ≤ s.bootUs) :
    Does (.laserPoll k (some v)) s fun t =>
      Touches [.msix, .lasers, .burrow]
        ([WPORT_LSSTAT.limited, WPORT_LSSTAT.temp, WPORT_LSSTAT.p_meas, WPORT_LSSTAT.present, WPORT_LSSTAT.state] ++ recBits) s t ∧
      t.rd WPORT_LSSTAT.present k = 1 ∧ (t.laser k).misses = 0 ∧ (t.laser k).stat = v.stat.toNat ∧ (t.laser k).polledAt = s.bootUs ∧
      (t.laser k).address = some ((s.laser k).address.getD (Config.laserAddress k)) ∧
      (v.pmeas.toNat % 100 = 0 → t.rd WPORT_LSSTAT.p_meas k = v.pmeas.toNat / 100) ∧
      (laserBad v.stat.toNat = true → s.rd WPORT_LSSTAT.state k ≠ 4 → t.rd WPORT_LSSTAT.state k = 5) := by
  have hrun : exec (.laserPoll k (some v)) s =
      .next (if laserBad v.stat.toNat then (s.laserRead k v).laserFault k v.stat.toNat else (s.laserRead k v).laserShow k) :=
    doIf_pos _ _ (by rw [hup, Bool.true_and]; exact decide_eq_true hdue)
  generalize ht : (if laserBad v.stat.toNat then (s.laserRead k v).laserFault k v.stat.toNat else (s.laserRead k v).laserShow k) = t at hrun
  have hwithin : Within [.msix, .lasers, .burrow] [6300, 6301, 6914, 9152, 9280, 9344, 9408] (s.laserRead k v) t :=
    ht ▸ Within.ite ((Within.refl _ _ _).step (State.laserFault_within _ _ _) rfl) ((Within.refl _ _ _).step (State.laserShow_within _ _) rfl)
  have hlaser : ∃ r, t.laser k = { s.laserAnswered k v with reduced := r } := by
    obtain ⟨r, hr⟩ := s.laserRead_laser k v
    rw [← ht]
    split
    · obtain ⟨r', hr'⟩ := (s.laserRead k v).laserFault_laser k v.stat.toNat
      exact ⟨r', hr'.trans (by rw [hr])⟩
    · exact ⟨r, ((State.laserShow_within _ _).laser rfl _).trans hr⟩
  obtain ⟨r, hlaser⟩ := hlaser
  refine ⟨t, hrun, (execLaserPoll_out k (some v) s _ hrun).touches rfl rfl, ?present, ?misses, ?stat, ?polled, ?address, fun hp => ?power, fun hbad hst => ?fault⟩
  case present =>
    exact (hwithin.rd _ _ rfl).trans ((State.rd_wr_ne _ _ _ _ rfl).trans ((State.rd_wr_ne _ _ _ _ rfl).trans (State.rd_wr_lt _ _ (by decide))))
  case misses => rw [hlaser]; rfl
  case stat => rw [hlaser]; rfl
  case polled => rw [hlaser]; rfl
  case address => rw [hlaser]; rfl
  case power =>
    have hv := v.pmeas.isLt
    refine (hwithin.rd _ _ rfl).trans ((State.rd_wr_ne _ _ _ _ rfl).trans ((State.rd_wr_lt _ _ ?_).trans (openQuot_of_dvd hp)))
    rw [openQuot_of_dvd hp]
    have hwidth : 2 ^ WPORT_LSSTAT.p_meas.width = 1024 := rfl
    omega
  case fault =>
    rw [← ht, if_pos hbad]
    exact State.laserFault_state _ (by rwa [(s.laserRead_within k v).rd _ _ rfl])

theorem laserPoll_silent {s : State} (k : Fin 18) (hup : s.laserUp = true) (hdue : (s.laser k).polledAt + 1000 ≤ s.bootUs)
    (hpresent : s.bit WPORT_LSSTAT.present k = true) (hmisses : (s.laser k).misses + 1 = 3) (hst : s.rd WPORT_LSSTAT.state k ≠ 4) :
    Does (.laserPoll k none) s fun t => Touches [.msix, .lasers, .burrow] (WPORT_LSSTAT.state :: recBits) s t ∧
      t.rd WPORT_LSSTAT.state k = 5 ∧ (t.laser k).misses = 3 := by
  have hrun : exec (.laserPoll k none) s = .next ((s.setLaser k { s.laser k with misses := min 3 ((s.laser k).misses + 1), polledAt := s.bootUs }).laserFault
      k (s.laser k).stat) := by
    refine (doIf_pos _ _ (by rw [hup, Bool.true_and]; exact decide_eq_true hdue)).trans (congrArg Host.Outcome.next ?_)
    dsimp only
    rw [hpresent, if_neg (by decide), if_pos hmisses]
  have hall : Within [.msix, .lasers, .burrow] [6301, 6914, 9152, 9280, 9344, 9408] s ((s.setLaser k { s.laser k with
      misses := min 3 ((s.laser k).misses + 1), polledAt := s.bootUs }).laserFault k (s.laser k).stat) :=
    ((Within.refl _ _ s).step (State.setLaser_within _ _ _) rfl).step (State.laserFault_within _ _ _) rfl
  refine ⟨_, hrun, hall.touches rfl rfl, State.laserFault_state _ hst, ?_⟩
  obtain ⟨r, hr⟩ := (s.setLaser k { s.laser k with misses := min 3 ((s.laser k).misses + 1), polledAt := s.bootUs }).laserFault_laser k (s.laser k).stat
  rw [hr, State.setLaser_laser_same, hmisses]
  rfl

theorem inBandInterrupt_noted {s : State} (k : Fin 18) (stat : BitVec 4) (hup : s.laserUp = true) (haddress : (s.laser k).address.isSome = true) :
    Does (.inBandInterrupt k stat) s fun t => Touches [.msix, .lasers, .burrow] (WPORT_LSSTAT.state :: recBits) s t ∧
      (t.laser k).stat = stat.toNat ∧ (laserBad stat.toNat = true → s.rd WPORT_LSSTAT.state k ≠ 4 → t.rd WPORT_LSSTAT.state k = 5) ∧
      (laserBad stat.toNat = false → Frame [.lasers] [] s t) := by
  have hrun : exec (.inBandInterrupt k stat) s = .next (if laserBad stat.toNat then
      (s.setLaser k { s.laser k with stat := stat.toNat }).laserFault k stat.toNat else s.setLaser k { s.laser k with stat := stat.toNat }) :=
    doIf_pos _ _ (by rw [hup, haddress]; rfl)
  refine ⟨_, hrun, (execInBandInterrupt_out k stat s _ hrun).touches rfl rfl, ?stat, fun hbad hst => ?fault, fun hgood => ?frame⟩
  case stat =>
    split
    · obtain ⟨r, hr⟩ := (s.setLaser k { s.laser k with stat := stat.toNat }).laserFault_laser k stat.toNat
      rw [hr, State.setLaser_laser_same]
    · exact congrArg Laser.stat (State.setLaser_laser_same ..)
  case fault =>
    rw [if_pos hbad]
    exact State.laserFault_state _ hst
  case frame =>
    rw [hgood]
    exact (Frame.refl s _ _).setLaser _ _ (by simp)

theorem alsDecision_reduces {s : State} (k : Fin 18) (which : Fin 4) (hup : s.laserUp = true)
    (hst : s.rd WPORT_LSSTAT.state k = 1 ∨ s.rd WPORT_LSSTAT.state k = 2) (hpower : s.rd WPORT_LSCFG.p_probe k * 100 < s.laserPower k) :
    Records (.alsDecision k which) s Ev.WARD_LASER_ALS (laserSrc k) [k, which, s.laserPower k] fun u =>
      Frame [.lasers] [(WPORT_LSSTAT.state, k.val), (WPORT_LSSTAT.limited, k.val)] s u ∧ u.rd WPORT_LSSTAT.state k = 3 ∧
      u.rd WPORT_LSSTAT.limited k = 1 ∧ (u.laser k).lit = false ∧ (u.laser k).reduced = some (s.bootUs, false) := by
  have hshown : (s.rd WPORT_LSSTAT.state k == 1 || s.rd WPORT_LSSTAT.state k == 2) = true := by simpa using hst
  have hlaser := State.setLaser_laser_same s k { s.laser k with lit := false, reduced := some (s.bootUs, false) }
  refine ⟨_, doIf_pos _ _ (by rw [hup, Bool.true_and, hshown, Bool.true_and]; exact decide_eq_true hpower), ?frame,
    (State.rd_wr_ne _ _ _ _ rfl).trans (State.rd_wr_lt _ _ (by decide)), State.rd_wr_lt _ _ (by decide), congrArg Laser.lit hlaser,
    congrArg Laser.reduced hlaser⟩
  exact (((Frame.refl s _ _).setLaser _ _ (by simp)).wr _ _ _ (by simp)).wr _ _ _ (by simp)

/-- The source of an end of the reduction that ALS decided: it is lit, and waits for no settling. -/
def State.laserLit (s : State) (k : Nat) : Laser :=
  { s.laser k with lit := true, reduced := if s.rd WPORT_LSSTAT.state k = 3 then none else (s.laser k).reduced }

theorem fullPowerAllowed_lights {s : State} (k : Fin 18) (hup : s.laserUp = true) (hst : s.rd WPORT_LSSTAT.state k ≤ 3) :
    Does (.fullPowerAllowed k) s fun t => Touches [.lasers] [WPORT_LSSTAT.limited, WPORT_LSSTAT.state] s t ∧ (t.laser k).lit = true ∧
      (t.laserPower k ≠ 0 → t.rd WPORT_LSSTAT.state k = 2) := by
  generalize hx : s.laserLit k = x
  generalize hv : (if s.rd WPORT_LSSTAT.state k = 3 then (s.setLaser k x).wr WPORT_LSSTAT.state k 1 else s.setLaser k x) = v
  have hrun : exec (.fullPowerAllowed k) s = .next (v.laserShow k) := by
    rw [← hv, ← hx]
    exact doIf_pos _ _ (by rw [hup, Bool.true_and]; exact decide_eq_true hst)
  have hlit : (v.laser k).lit = true := by
    rw [← hv, ← hx]
    split <;> exact congrArg Laser.lit (State.setLaser_laser_same s k (s.laserLit k))
  have hshown : v.rd WPORT_LSSTAT.state k ≤ 2 := by
    rw [← hv]
    split
    case isTrue => exact Nat.le_trans (Nat.le_of_eq (State.rd_wr_lt (s.setLaser k x) (f := WPORT_LSSTAT.state) (v := 1) k (by decide))) (by decide)
    case isFalse h =>
      have hsame : (s.setLaser k x).rd WPORT_LSSTAT.state k = s.rd WPORT_LSSTAT.state k := rfl
      omega
  have hstate := State.laserShow_state hshown
  rw [hlit] at hstate
  refine ⟨_, hrun, (execFullPowerAllowed_out k s _ hrun).touches rfl rfl, ?lit, fun hpower => ?full⟩
  case lit => rw [(State.laserShow_within v k).laser rfl, hlit]
  case full =>
    have hsame : (v.laserShow k).laserPower k = v.laserPower k := by
      refine State.laserPower_congr k (v.laserShow_within k) ⟨fun h => ?_, fun h => ?_⟩
      · rw [hstate] at h
        split at h <;> cases h
      · omega
    rw [hsame] at hpower
    rw [hstate, if_neg hpower]
    rfl

/-! ## Settling and the buses -/

theorem laserSettleCheck_settled {s : State} (k : Fin 18) (r : Option LaserRead) {since : Nat} {fault : Bool} (hup : s.laserUp = true)
    (hreduced : (s.laser k).reduced = some (since, fault)) (hdue : since + 1000 ≤ s.bootUs)
    (hsettled : (r.map (s.laserSettled k fault)).getD false = true) :
    Does (.laserSettleCheck k r) s fun t => Frame [.lasers] [] s t ∧ (t.laser k).reduced = none := by
  have hrun : exec (.laserSettleCheck k r) s = .next (s.setLaser k { s.laser k with reduced := none }) := by
    refine (doIf_pos _ _ hup).trans (congrArg Host.Outcome.next ?_)
    rw [hreduced]
    dsimp only
    rw [if_neg (by omega), if_pos hsettled]
  exact ⟨_, hrun, (Frame.refl s _ _).setLaser _ _ (by simp), congrArg Laser.reduced (State.setLaser_laser_same ..)⟩

/-- Every source of a bus is SHUT, and the bus's shut-off stands. -/
def State.busOff (s : State) (b : Nat) : State :=
  let s := each (busSources b) (fun j s => (s.setLaser j { s.laser j with reduced := none }).wr WPORT_LSSTAT.state j 4) s
  { s with lasers := { s.lasers with shut := b :: s.lasers.shut.filter (· != b) } }

theorem mem_busSources_laserBus (k : Fin 18) : k.val ∈ busSources (laserBus k) := by
  revert k
  decide

theorem State.busOff_shuts (s : State) (b : Nat) : Within [.lasers] [6301] s (s.busOff b) ∧ b ∈ (s.busOff b).lasers.shut ∧
    ∀ k ∈ busSources b, (s.busOff b).rd WPORT_LSSTAT.state k = 4 := by
  refine ⟨?within, List.mem_cons_self .., fun k hk => ?state⟩
  case within =>
    exact (Within.each _ _ (Within.refl _ _ s) fun j _ u hu => (hu.step (State.setLaser_within _ _ _) rfl).wr _ _ _ rfl).set_lasers _ rfl
  case state =>
    have hall := each_at (step := fun j (s : State) => (s.setLaser j { s.laser j with reduced := none }).wr WPORT_LSSTAT.state j 4)
      (proj := fun s k => s.rd WPORT_LSSTAT.state k) (f := fun _ => 4) (fun _ => rfl) (fun i u j => by
        split
        case isTrue h =>
          subst h
          exact State.rd_wr_lt _ _ (by decide)
        case isFalse h => exact State.rd_wr_inst _ _ _ _ _ h) (busSources b) s k
    rwa [if_pos hk] at hall

theorem laserSettleCheck_shuts {s : State} (k : Fin 18) (r : Option LaserRead) {since : Nat} {fault : Bool} (hup : s.laserUp = true)
    (hreduced : (s.laser k).reduced = some (since, fault)) (hdue : since + 1000 ≤ s.bootUs)
    (hsettled : (r.map (s.laserSettled k fault)).getD false = false) :
    Records (.laserSettleCheck k r) s Ev.WARD_LASER_SHUT Src.ports [laserBus k, k] fun u => Touches [.lasers] [WPORT_LSSTAT.state] s u ∧
      laserBus k ∈ u.lasers.shut ∧ u.rd WPORT_LSSTAT.state k = 4 ∧ u.laserPower k = 0 := by
  have hrun : exec (.laserSettleCheck k r) s = .next ((s.busOff (laserBus k)).record Ev.WARD_LASER_SHUT Src.ports [laserBus k, k]) := by
    refine (doIf_pos _ _ hup).trans (congrArg Host.Outcome.next ?_)
    rw [hreduced]
    dsimp only
    rw [if_neg (by omega), hsettled]
    rfl
  obtain ⟨hwithin, hshut, hstate⟩ := s.busOff_shuts (laserBus k)
  exact ⟨_, hrun, hwithin.touches rfl rfl, hshut, hstate _ (mem_busSources_laserBus k), State.laserPower_shut hshut⟩

/-- The sources of a bus get a status. -/
def State.busStatus (s : State) (l : List Nat) (v : Nat) : State := each l (fun k s => s.wr WPORT_LSSTAT.cmd_status k v) s

theorem State.busStatus_within (s : State) (l : List Nat) (v : Nat) : Within [] [6280] s (s.busStatus l v) :=
  Within.each _ _ (Within.refl _ _ s) fun _ _ _ hu => hu.wr _ _ _ rfl

theorem State.busStatus_status (s : State) (l : List Nat) {v : Nat} (hv : v < 256) {k : Nat} (hk : k ∈ l) :
    (s.busStatus l v).rd WPORT_LSSTAT.cmd_status k = v := by
  have hall := each_at (step := fun k (s : State) => s.wr WPORT_LSSTAT.cmd_status k v) (proj := fun s k => s.rd WPORT_LSSTAT.cmd_status k)
    (f := fun _ => v) (fun _ => rfl) (fun i u j => by
      split
      case isTrue h =>
        subst h
        exact State.rd_wr_lt _ _ hv
      case isFalse h => exact State.rd_wr_inst _ _ _ _ _ h) l s k
  rwa [if_pos hk] at hall

/-- A bus's shut-off ended, and its sources restarted at the probe power. -/
def State.busFree (s : State) (n : Nat) : State :=
  each (busSources n) (fun k s => ((s.setLaser k { s.laser k with lit := false }).wr WPORT_LSSTAT.state k 0).laserShow k)
    { s with lasers := { s.lasers with shut := s.lasers.shut.filter (· != n) } }

theorem State.busFree_within (s : State) (n : Nat) : Within [.lasers] [6300, 6301] s (s.busFree n) :=
  Within.each _ _ ((Within.refl _ _ s).set_lasers _ rfl) fun _ _ _ hu =>
    ((hu.step (State.setLaser_within _ _ _) rfl).wr _ _ _ rfl).step (State.laserShow_within _ _) rfl

theorem State.busFree_frees (s : State) (n : Nat) : n ∉ (s.busFree n).lasers.shut ∧ ∀ k ∈ busSources n, ((s.busFree n).laser k).lit = false := by
  have hstep (i : Nat) (u : State) : (((u.setLaser i { u.laser i with lit := false }).wr WPORT_LSSTAT.state i 0).laserShow i).lasers =
      (u.setLaser i { u.laser i with lit := false }).lasers := (State.laserShow_within _ i).block .lasers rfl
  constructor
  · refine each_keeps (P := fun u : State => n ∉ u.lasers.shut) (fun i u hu => ?_) _ (by simp)
    rw [hstep]
    exact hu
  · intro k hk
    have hall := each_at (step := fun k (s : State) => ((s.setLaser k { s.laser k with lit := false }).wr WPORT_LSSTAT.state k 0).laserShow k)
      (proj := fun s k => (s.laser k).lit) (f := fun _ => false) (fun _ => rfl) (fun i u j => by
        have hlaser := (State.laserShow_within ((u.setLaser i { u.laser i with lit := false }).wr WPORT_LSSTAT.state i 0) i).laser rfl j
        rw [hlaser, show ((u.setLaser i { u.laser i with lit := false }).wr WPORT_LSSTAT.state i 0).laser j =
          (u.setLaser i { u.laser i with lit := false }).laser j from rfl, State.setLaser_laser]
        split <;> rfl) (busSources n) { s with lasers := { s.lasers with shut := s.lasers.shut.filter (· != n) } } k
    rwa [if_pos hk] at hall

/-- A source of the bus reads a fault, an overtemperature or silence. -/
def State.busBad (s : State) (n : Nat) : Bool := (busSources n).any fun k => laserBad (s.laser k).stat || (s.laser k).misses == 3

theorem State.busBad_eq_true {s : State} {n : Nat} (h : ∃ k ∈ busSources n, laserBad (s.laser k).stat = true ∨ (s.laser k).misses = 3) :
    s.busBad n = true := by
  obtain ⟨k, hk, hbad⟩ := h
  exact List.any_eq_true.mpr ⟨k, hk, by simpa using hbad⟩

theorem State.busBad_eq_false {s : State} {n : Nat} (h : ∀ k ∈ busSources n, laserBad (s.laser k).stat = false ∧ (s.laser k).misses ≠ 3) :
    s.busBad n = false := List.any_eq_false.mpr fun k hk => by simpa using h k hk

theorem exec_releaseBus {s : State} (b : BitVec 3) (hup : s.laserUp = true) (hb : b.toNat ≤ 4) :
    exec (.releaseBus b) s = .next (if s.busBad b.toNat then (s.wr WPORT_LSCMD.bus 0 b.toNat).busStatus (busSources b.toNat) St.refusedState
      else if s.lasers.shut.contains b.toNat then ((s.wr WPORT_LSCMD.bus 0 b.toNat).busStatus (busSources b.toNat) St.ok).busFree b.toNat
      else (s.wr WPORT_LSCMD.bus 0 b.toNat).busStatus (busSources b.toNat) St.ok) :=
  doIf_pos _ _ (by rw [hup, Bool.true_and]; exact decide_eq_true hb)

theorem State.busStatus_touches (s : State) (n : Nat) (l : List Nat) (v : Nat) :
    Touches [] [WPORT_LSSTAT.cmd_status, WPORT_LSCMD.bus] s ((s.wr WPORT_LSCMD.bus 0 n).busStatus l v) := by
  have hall : Within [] [6280, 6528] s ((s.wr WPORT_LSCMD.bus 0 n).busStatus l v) :=
    ((Within.refl _ _ s).wr _ _ _ rfl).step (State.busStatus_within _ l v) rfl
  exact hall.touches rfl rfl

/-- Settles O30: enabling, polls, interrupts, reductions, settling, and the release of a bus. -/
theorem laserSources : Obligations.LaserSources := by
  refine ⟨fun s k hup hlock => ⟨sourceEnableWrite_on k hup hlock, sourceEnableWrite_off k hup hlock, sourceEnableWrite_refused k hup hlock⟩,
    fun s k v hup hdue => ⟨laserPoll_answered k v hup hdue, laserPoll_silent k hup hdue⟩,
    fun s k stat hup haddress => inBandInterrupt_noted k stat hup haddress, fun s k which hup hst hpower => alsDecision_reduces k which hup hst hpower,
    fun s k hup hst => fullPowerAllowed_lights k hup hst,
    fun s k r since fault hup hreduced hdue => ⟨laserSettleCheck_settled k r hup hreduced hdue, laserSettleCheck_shuts k r hup hreduced hdue⟩,
    fun s b hup hb => ⟨fun hshut hgood => ?release, fun hfree hgood => ?idle, fun hbad => ?refused⟩⟩
  case release =>
    have hrun := exec_releaseBus b hup hb
    rw [State.busBad_eq_false hgood, List.contains_iff_mem.mpr hshut] at hrun
    obtain ⟨hshut, hlit⟩ := State.busFree_frees ((s.wr WPORT_LSCMD.bus 0 b.toNat).busStatus (busSources b.toNat) St.ok) b.toNat
    exact ⟨_, hrun, (execReleaseBus_out b s _ hrun).touches rfl rfl, hshut, fun k hk =>
      ⟨((State.busFree_within _ _).rd _ _ rfl).trans (State.busStatus_status _ _ (by decide) hk), hlit k hk⟩⟩
  case idle =>
    have hrun := exec_releaseBus b hup hb
    have hno : s.lasers.shut.contains b.toNat = false := by simpa using hfree
    rw [State.busBad_eq_false hgood, hno] at hrun
    exact ⟨_, hrun, s.busStatus_touches _ _ _, fun k hk => State.busStatus_status _ _ (by decide) hk⟩
  case refused =>
    have hrun := exec_releaseBus b hup hb
    rw [State.busBad_eq_true hbad] at hrun
    exact ⟨_, hrun, s.busStatus_touches _ _ _, fun k hk => State.busStatus_status _ _ (by decide) hk⟩

end Sys2Proof.Machine
end

section
/-!
SUPPORT. Streams and the secure channel of a ward port (13): frames admitted and sent, bulk frames, acknowledgements, time-outs and set-up.
-/
namespace Sys2Proof.Machine

section
variable {bs : List Block} {cs : List Nat} {fs : List (Fld × Nat)} {s t : State}

theorem Frame.setPort (h : Frame bs fs s t) (p : Nat) (x : Port) (hb : .ports ∈ bs) : Frame bs fs s (t.setPort p x) :=
  h.upd (fun b hn => by cases b <;> simp_all [Block.same, State.setPort]) rfl

theorem Frame.wards (h : Frame bs fs s t) (z : Wards) (hb : .wards ∈ bs) : Frame bs fs s { t with wards := z } :=
  h.upd (fun b hn => by cases b <;> simp_all [Block.same]) rfl

end

theorem State.setPort_port_same (s : State) (p : Nat) (x : Port) : (s.setPort p x).port p = x := (State.setPort_port ..).trans (if_pos rfl)

/-! ## Frames sent and admitted -/

theorem mem_enqueueTx {f g : TxFrame} {l : List TxFrame} : g ∈ enqueueTx f l ↔ g = f ∨ g ∈ l := by
  induction l with
  | nil => simp [enqueueTx]
  | cons h l ih =>
    rw [enqueueTx]
    split
    · simp
    · rw [List.mem_cons, ih, List.mem_cons]
      exact or_left_comm

theorem Port.send_mem (x : Port) (type tag : Nat) (words : List Word) (payload : Nat) :
    ∃ f ∈ (x.send type tag words payload).txq, f.type = type ∧ f.tag = tag ∧ f.words = words :=
  ⟨_, mem_enqueueTx.mpr (.inl rfl), rfl, rfl, rfl⟩

/-- A frame taken on port `p`: one that is sealed is counted. -/
def State.frameTaken (s : State) (p : Nat) : State :=
  if (s.port p).up then s.setPort p { s.port p with sealedIn := (s.port p).sealedIn + 1 } else s

theorem State.admitFrame_taken {s : State} {p : Nat} {h : FrameHead} {base : Nat} {sealOk : Bool} (f : State → State) (hhead : headOk h base = true)
    (hsealed : h.isSealed = (s.port p).up) (hok : (s.port p).up = true → sealOk = true) : s.admitFrame p h base sealOk f = f (s.frameTaken p) := by
  unfold State.admitFrame State.frameTaken
  rw [hhead, hsealed]
  cases hup : (s.port p).up
  · simp
  · simp [hok hup]

theorem State.admitFrame_bad {s : State} {p : Nat} {h : FrameHead} {base : Nat} (sealOk : Bool) (f : State → State) (hhead : headOk h base = false) :
    s.admitFrame p h base sealOk f = s.badFrame p := by
  rw [State.admitFrame, hhead]
  rfl

/-- A frame taken changes nothing of a port but the count of sealed frames. -/
theorem State.frameTaken_port (s : State) (p : Nat) : ∃ n, (s.frameTaken p).port p = { s.port p with sealedIn := n } := by
  unfold State.frameTaken
  split
  · exact ⟨_, State.setPort_port_same ..⟩
  · exact ⟨_, rfl⟩

theorem State.frameTaken_frame (s : State) (p : Nat) : Frame [.ports] [] s (s.frameTaken p) :=
  Frame.ite ((Frame.refl s _ _).setPort _ _ (by simp)) (Frame.refl s _ _)

theorem State.badFrame_counts (s : State) (p : Nat) : Frame [] [(WPORT_ERR.crc, p)] s (s.badFrame p) ∧
    (s.badFrame p).rd WPORT_ERR.crc p = min 255 (s.rd WPORT_ERR.crc p + 1) :=
  ⟨(Frame.refl s _ _).addSat _ _ _ (by simp), State.addSat_rd_same ..⟩

theorem linked_guard {s : State} {p : Nat} (hup : s.portUp = true) (hlinked : s.pstate p = 3) : (s.portUp && s.linked p) = true := by
  rw [hup, State.linked, hlinked]
  rfl

/-! ## Bulk frames received -/

theorem bulk_discarded {s : State} (p stream : Fin 8) (h : FrameHead) (sealOk : Bool) (off : BitVec 64) (len : BitVec 13) (diffs : List (BitVec 11))
    (uncorr : Bool) (hup : s.portUp = true) (hlinked : s.pstate p = 3)
    (hbad : headOk h (20 + len.toNat) = false ∨ len.toNat < 32 ∨ 4096 < len.toNat ∨ len.toNat % 32 ≠ 0) :
    Does (.bulk p stream h sealOk off len diffs uncorr) s fun t => Frame [] [(WPORT_ERR.crc, p.val)] s t ∧
      t.rd WPORT_ERR.crc p = min 255 (s.rd WPORT_ERR.crc p + 1) := by
  have hhead : headOk { h with good := h.good && decide (32 ≤ len.toNat ∧ len.toNat ≤ 4096 ∧ len.toNat % 32 = 0) } (20 + len.toNat) = false := by
    rcases hbad with hbad | hbad
    · rw [headOk] at hbad ⊢
      dsimp only
      cases hlen : decide (32 ≤ len.toNat ∧ len.toNat ≤ 4096 ∧ len.toNat % 32 = 0)
      · simp
      · rwa [Bool.and_true]
    · have hlen : decide (32 ≤ len.toNat ∧ len.toNat ≤ 4096 ∧ len.toNat % 32 = 0) = false := decide_eq_false (by omega)
      rw [headOk, hlen]
      simp
  refine ⟨_, (doIf_pos _ _ (linked_guard hup hlinked)).trans (congrArg Host.Outcome.next (State.admitFrame_bad _ _ hhead)), s.badFrame_counts p⟩

/-- What a bulk frame that is taken does to its stream `b`. -/
def State.bulkTaken (s : State) (p stream : Nat) (off : BitVec 64) (n : Nat) (diffs : List (BitVec 11)) (b : Bulk) : State :=
  let x := s.port p
  if off.toNat ≠ b.done ∨ b.len + 31 < b.done + n then s.setPort p (x.send 9 0 (backWords p stream b.done))
  else
    let x := x.send 9 0 (backWords p stream (b.done + n))
    let s := s.setPort p { x with
      ins := Tab.set none x.ins stream (if b.len ≤ b.done + n then none else some { b with done := b.done + n, progressAt := s.bootUs }) }
    let w := s.ward p
    if stream = 0 ∧ w.state = 4 ∧ w.op = 1 then s.setWard p { w with differs := diffs.foldl (fun m c => m ||| 2 ^ c.toNat) w.differs } else s

theorem exec_bulk {s : State} {p stream : Fin 8} {h : FrameHead} {sealOk : Bool} {off : BitVec 64} {len : BitVec 13} {diffs : List (BitVec 11)}
    {b : Bulk} (hup : s.portUp = true) (hlinked : s.pstate p = 3) (hhead : headOk h (20 + len.toNat) = true) (hsealed : h.isSealed = (s.port p).up)
    (hok : (s.port p).up = true → sealOk = true) (hmin : 32 ≤ len.toNat) (hmax : len.toNat ≤ 4096) (hlen : len.toNat % 32 = 0)
    (hopen : Tab.get none (s.port p).ins stream = some b) :
    exec (.bulk p stream h sealOk off len diffs false) s = .next ((s.frameTaken p).bulkTaken p stream off len.toNat diffs b) := by
  have hwhole : ({ h with good := h.good && decide (32 ≤ len.toNat ∧ len.toNat ≤ 4096 ∧ len.toNat % 32 = 0) } : FrameHead) = h := by
    rw [decide_eq_true (⟨hmin, hmax, hlen⟩ : 32 ≤ len.toNat ∧ len.toNat ≤ 4096 ∧ len.toNat % 32 = 0), Bool.and_true]
  refine (doIf_pos _ _ (linked_guard hup hlinked)).trans (congrArg Host.Outcome.next ?_)
  rw [hwhole, State.admitFrame_taken _ hhead hsealed hok]
  obtain ⟨n, hport⟩ := s.frameTaken_port p
  have hins : Tab.get none ((s.frameTaken p).port p).ins stream = some b := by rw [hport, hopen]
  dsimp only
  rw [hins]
  dsimp only [State.bulkTaken]
  split
  · rfl
  · rw [if_neg (by decide : ¬(false = true))]

theorem State.bulkTaken_advances {s : State} {p stream : Nat} {off : BitVec 64} {n : Nat} (diffs : List (BitVec 11)) {b : Bulk}
    (hoff : off.toNat = b.done) (hn : b.done + n ≤ b.len + 31) :
    Frame [.ports, .wards] [] s (s.bulkTaken p stream off n diffs b) ∧
      (∃ f ∈ ((s.bulkTaken p stream off n diffs b).port p).txq, f.type = 9 ∧ f.words = backWords p stream (b.done + n)) ∧
      Tab.get none ((s.bulkTaken p stream off n diffs b).port p).ins stream =
        if b.len ≤ b.done + n then none else some { b with done := b.done + n, progressAt := s.bootUs } := by
  unfold State.bulkTaken
  dsimp only
  rw [if_neg (by omega)]
  generalize hu : s.setPort p _ = u
  have hframe : Frame [.ports, .wards] [] s u := hu ▸ (Frame.refl s _ _).setPort _ _ (by simp)
  obtain ⟨f, hf, htype, -, hwords⟩ := (s.port p).send_mem 9 0 (backWords p stream (b.done + n)) 0
  have hport : (∃ f ∈ (u.port p).txq, f.type = 9 ∧ f.words = backWords p stream (b.done + n)) ∧ Tab.get none (u.port p).ins stream =
      if b.len ≤ b.done + n then none else some { b with done := b.done + n, progressAt := s.bootUs } := by
    rw [← hu, State.setPort_port_same]
    exact ⟨⟨f, hf, htype, hwords⟩, Tab.get_set_same ..⟩
  exact ⟨Frame.ite (hframe.wards _ (by simp)) hframe, by split <;> exact hport⟩

theorem State.bulkTaken_answers {s : State} {p stream : Nat} {off : BitVec 64} {n : Nat} (diffs : List (BitVec 11)) {b : Bulk}
    (h : off.toNat ≠ b.done ∨ b.len + 31 < b.done + n) :
    Frame [.ports] [] s (s.bulkTaken p stream off n diffs b) ∧ ((s.bulkTaken p stream off n diffs b).port p).ins = (s.port p).ins ∧
      ∃ f ∈ ((s.bulkTaken p stream off n diffs b).port p).txq, f.type = 9 ∧ f.words = backWords p stream b.done := by
  obtain ⟨f, hf, htype, -, hwords⟩ := (s.port p).send_mem 9 0 (backWords p stream b.done) 0
  unfold State.bulkTaken
  dsimp only
  rw [if_pos h, State.setPort_port_same]
  exact ⟨(Frame.refl s _ _).setPort _ _ (by simp), rfl, f, hf, htype, hwords⟩

theorem bulk_advances {s : State} {p stream : Fin 8} {h : FrameHead} {sealOk : Bool} {off : BitVec 64} {len : BitVec 13} {diffs : List (BitVec 11)}
    {b : Bulk} (hup : s.portUp = true) (hlinked : s.pstate p = 3) (hhead : headOk h (20 + len.toNat) = true) (hsealed : h.isSealed = (s.port p).up)
    (hok : (s.port p).up = true → sealOk = true) (hmin : 32 ≤ len.toNat) (hmax : len.toNat ≤ 4096) (hlen : len.toNat % 32 = 0)
    (hopen : Tab.get none (s.port p).ins stream = some b) :
    (off.toNat = b.done → b.done + len.toNat ≤ b.len + 31 →
      Does (.bulk p stream h sealOk off len diffs false) s fun t => Frame [.ports, .wards] [] s t ∧
        (∃ f ∈ (t.port p).txq, f.type = 9 ∧ f.words = backWords p stream (b.done + len.toNat)) ∧
        Tab.get none (t.port p).ins stream = if b.len ≤ b.done + len.toNat then none
          else some { b with done := b.done + len.toNat, progressAt := s.bootUs }) ∧
    (off.toNat ≠ b.done ∨ b.len + 31 < b.done + len.toNat →
      Does (.bulk p stream h sealOk off len diffs false) s fun t => Frame [.ports] [] s t ∧ (t.port p).ins = (s.port p).ins ∧
        ∃ f ∈ (t.port p).txq, f.type = 9 ∧ f.words = backWords p stream b.done) := by
  have hrun := exec_bulk (off := off) (diffs := diffs) hup hlinked hhead hsealed hok hmin hmax hlen hopen
  have htaken := s.frameTaken_frame p
  have hnow : (s.frameTaken p).bootUs = s.bootUs := htaken.1 .bootUs (by decide)
  constructor
  · intro hoff hn
    obtain ⟨hframe, hsent, hins⟩ := State.bulkTaken_advances (s := s.frameTaken p) (p := p.val) (stream := stream.val) diffs hoff hn
    rw [hnow] at hins
    exact ⟨_, hrun, (htaken.mono (by simp) (by simp)).trans hframe, hsent, hins⟩
  · intro hno
    obtain ⟨hframe, hins, hsent⟩ := State.bulkTaken_answers (s := s.frameTaken p) (p := p.val) (stream := stream.val) diffs hno
    obtain ⟨n, hport⟩ := s.frameTaken_port p
    exact ⟨_, hrun, htaken.trans hframe, hins.trans (by rw [hport]), hsent⟩

/-! ## Acknowledgements and time-outs -/

/-- The stream as a sender keeps it after it has sent what its credit allows. -/
theorem Port.pump_outs (x : Port) (stream : Nat) (b : Bulk) :
    Tab.get none (x.pump stream b).outs stream = some { b with sent := max b.sent b.limit } := by
  unfold Port.pump
  dsimp only
  rw [Tab.get_set_same]

/-- An acknowledgement of `n` bytes of stream `b` that is not over, with a credit. -/
def Bulk.acknowledged (b : Bulk) (n credit now : Nat) : Bulk :=
  { b with done := n, sent := max n b.sent, credit := min credit 1048576, timeouts := 0, progressAt := now }

/-- A BACK that is taken, for stream `b`. -/
def State.backTaken (s : State) (p stream : Nat) (off : BitVec 64) (credit : BitVec 32) (b : Bulk) : State :=
  let x := s.port p
  let n := off.toNat
  if n < b.done ∨ b.len + 31 < n then s
  else if b.len ≤ n then (s.setPort p { x with outs := Tab.set none x.outs stream none }).streamDone p stream b.len
  else s.setPort p (x.pump stream (if b.done < n then b.acknowledged n credit.toNat s.bootUs else { b with credit := min credit.toNat 1048576 }))

theorem exec_back {s : State} {p stream : Fin 8} {h : FrameHead} {sealOk : Bool} {off : BitVec 64} {credit : BitVec 32} {b : Bulk}
    (hup : s.portUp = true) (hlinked : s.pstate p = 3) (hhead : headOk h 24 = true) (hsealed : h.isSealed = (s.port p).up)
    (hok : (s.port p).up = true → sealOk = true) (hopen : Tab.get none (s.port p).outs stream = some b) :
    exec (.back p stream h sealOk off credit) s = .next ((s.frameTaken p).backTaken p stream off credit b) := by
  refine (doIf_pos _ _ (linked_guard hup hlinked)).trans (congrArg Host.Outcome.next ?_)
  rw [State.admitFrame_taken _ hhead hsealed hok]
  obtain ⟨n, hport⟩ := s.frameTaken_port p
  have houts : Tab.get none ((s.frameTaken p).port p).outs stream = some b := by rw [hport, hopen]
  dsimp only
  rw [houts]
  rfl

theorem back_acknowledges {s : State} {p stream : Fin 8} {h : FrameHead} {sealOk : Bool} {off : BitVec 64} {credit : BitVec 32} {b : Bulk}
    (hup : s.portUp = true) (hlinked : s.pstate p = 3) (hhead : headOk h 24 = true) (hsealed : h.isSealed = (s.port p).up)
    (hok : (s.port p).up = true → sealOk = true) (hopen : Tab.get none (s.port p).outs stream = some b) (hmore : b.done < off.toNat)
    (hpart : off.toNat < b.len) :
    Does (.back p stream h sealOk off credit) s fun t => Frame [.ports] [] s t ∧
      ∃ c, c = b.acknowledged off.toNat credit.toNat s.bootUs ∧ Tab.get none (t.port p).outs stream = some { c with sent := max c.sent c.limit } := by
  have hrun := exec_back (off := off) (credit := credit) hup hlinked hhead hsealed hok hopen
  have htaken := s.frameTaken_frame p
  have hnow : (s.frameTaken p).bootUs = s.bootUs := htaken.1 .bootUs (by decide)
  rw [State.backTaken, if_neg (by omega), if_neg (by omega), if_pos hmore, hnow] at hrun
  refine ⟨_, hrun, htaken.setPort _ _ (by simp), _, rfl, ?_⟩
  rw [State.setPort_port_same, Port.pump_outs]

theorem back_ends {s : State} {p stream : Fin 8} {h : FrameHead} {sealOk : Bool} {off : BitVec 64} {credit : BitVec 32} {b : Bulk}
    (hup : s.portUp = true) (hlinked : s.pstate p = 3) (hhead : headOk h 24 = true) (hsealed : h.isSealed = (s.port p).up)
    (hok : (s.port p).up = true → sealOk = true) (hopen : Tab.get none (s.port p).outs stream = some b) (hdone : b.done ≤ off.toNat)
    (hlen : b.len ≤ off.toNat) (hend : off.toNat ≤ b.len + 31) :
    Then (.back p stream h sealOk off credit) s (·.streamDone p stream b.len) fun u =>
      Frame [.ports] [] s u ∧ Tab.get none (u.port p).outs stream = none := by
  have hrun := exec_back (off := off) (credit := credit) hup hlinked hhead hsealed hok hopen
  rw [State.backTaken, if_neg (by omega), if_pos hlen] at hrun
  refine ⟨_, hrun, (s.frameTaken_frame p).setPort _ _ (by simp), ?_⟩
  rw [State.setPort_port_same]
  dsimp only
  rw [Tab.get_set_same]

/-- Stream `b` started again from the acknowledged offset. -/
def Bulk.restarted (b : Bulk) (now : Nat) : Bulk := { b with sent := b.done, timeouts := b.timeouts + 1, progressAt := now }

theorem exec_bulkTimeout {s : State} {p stream : Fin 8} {b : Bulk} (hup : s.portUp = true) (hlinked : s.pstate p = 3)
    (hopen : Tab.get none (s.port p).outs stream = some b) (hlate : b.progressAt + 20 ≤ s.bootUs) :
    exec (.bulkTimeout p stream) s = .next (if b.timeouts + 1 < 3 then
        s.setPort p (((s.port p).dropBulk stream).pump stream (b.restarted s.bootUs))
      else
        let s := s.setPort p { (s.port p).dropBulk stream with outs := Tab.set none (s.port p).outs stream none }
        if stepping (s.ward p).state && decide (stream.val ≤ 1) then s.setWard p { s.ward p with sub := 99 } else s) := by
  refine (doIf_pos _ _ (linked_guard hup hlinked)).trans (congrArg Host.Outcome.next ?_)
  rw [hopen]
  exact if_neg (by omega)

theorem bulkTimeout_resends {s : State} {p stream : Fin 8} {b : Bulk} (hup : s.portUp = true) (hlinked : s.pstate p = 3)
    (hopen : Tab.get none (s.port p).outs stream = some b) (hlate : b.progressAt + 20 ≤ s.bootUs) (hagain : b.timeouts < 2) :
    Does (.bulkTimeout p stream) s fun t => Frame [.ports] [] s t ∧
      ∃ c, c = b.restarted s.bootUs ∧ Tab.get none (t.port p).outs stream = some { c with sent := max c.sent c.limit } := by
  have hrun := exec_bulkTimeout hup hlinked hopen hlate
  rw [if_pos (by omega)] at hrun
  refine ⟨_, hrun, (Frame.refl s _ _).setPort _ _ (by simp), _, rfl, ?_⟩
  rw [State.setPort_port_same, Port.pump_outs]

theorem bulkTimeout_ends {s : State} {p stream : Fin 8} {b : Bulk} (hup : s.portUp = true) (hlinked : s.pstate p = 3)
    (hopen : Tab.get none (s.port p).outs stream = some b) (hlate : b.progressAt + 20 ≤ s.bootUs) (hlast : 2 ≤ b.timeouts) :
    Does (.bulkTimeout p stream) s fun t => Frame [.ports, .wards] [] s t ∧ Tab.get none (t.port p).outs stream = none := by
  have hrun := exec_bulkTimeout hup hlinked hopen hlate
  rw [if_neg (by omega)] at hrun
  have hframe : Frame [.ports, .wards] [] s (s.setPort p { (s.port p).dropBulk stream with outs := Tab.set none (s.port p).outs stream none }) :=
    (Frame.refl s _ _).setPort _ _ (by simp)
  have houts : Tab.get none ((s.setPort p { (s.port p).dropBulk stream with outs := Tab.set none (s.port p).outs stream none }).port p).outs stream =
      none := by
    rw [State.setPort_port_same]
    dsimp only
    rw [Tab.get_set_same]
  exact ⟨_, hrun, Frame.ite (hframe.wards _ (by simp)) hframe, by dsimp only; split <;> exact houts⟩

/-! ## The secure channel -/

theorem sec_fragment {s : State} (p : Fin 8) {f : SecFrame} (hup : s.portUp = true) (hlinked : s.pstate p = 3) (hsetup : (s.port p).setup = 2)
    (hhead : secHeadOk f.head = true) (hmessage : f.message = 2) (hfragment : f.fragment.toNat = (s.port p).fragments) (hlast : f.last = false) :
    Does (.sec p f) s fun t => Frame [.ports] [] s t ∧ (t.port p).fragments = (s.port p).fragments + 1 := by
  have hrun : exec (.sec p f) s = .next (s.setPort p { s.port p with fragments := (s.port p).fragments + 1 }) := by
    refine (doIf_pos _ _ (by rw [linked_guard hup hlinked, hsetup]; rfl)).trans (congrArg Host.Outcome.next ?_)
    simp [hhead, hmessage, hfragment, hlast]
  refine ⟨_, hrun, (Frame.refl s _ _).setPort _ _ (by simp), ?_⟩
  rw [State.setPort_port_same]

/-- Port `p`'s channel up, after the last fragment of a sound ACCEPT. -/
def State.channelUp (s : State) (p : Nat) : State :=
  ({ s with wards := { s.wards with island := none } }.setPort p { (s.port p).send 10 0 [secWord 3] finishBytes with
    up := true, setup := 0, fragments := 0, secAt := s.bootUs, sealedOut := 0, sealedIn := 0, tagFails := [] }).wr WPORT_STAT.sec p 1

theorem sec_accepts {s : State} (p : Fin 8) {f : SecFrame} (hup : s.portUp = true) (hlinked : s.pstate p = 3) (hsetup : (s.port p).setup = 2)
    (hhead : secHeadOk f.head = true) (hmessage : f.message = 2) (hfragment : f.fragment.toNat = (s.port p).fragments) (hlast : f.last = true)
    (hcert : f.certOk = true) (hsig : f.sigOk = true) (hdebug : s.bit SEC_LOCK.debug_open 0 = false) (hdie : f.die.toNat = (s.ward p).die) :
    Then (.sec p f) s (fun u => u.islandNext.wardSecured p) fun u => Frame [.ports, .wards] [(WPORT_STAT.sec, p.val)] s u ∧
      (u.port p).up = true ∧ u.rd WPORT_STAT.sec p = 1 ∧ (u.port p).secAt = s.bootUs ∧ u.wards.island = none := by
  have hrun : exec (.sec p f) s = .next ((s.channelUp p).islandNext.wardSecured p) := by
    refine (doIf_pos _ _ (by rw [linked_guard hup hlinked, hsetup]; rfl)).trans (congrArg Host.Outcome.next ?_)
    simp only [hhead, hmessage, hfragment, hlast, hcert, hsig, hdebug, hdie]
    simp
    rfl
  have hport : (s.channelUp p).port p = { (s.port p).send 10 0 [secWord 3] finishBytes with
      up := true, setup := 0, fragments := 0, secAt := s.bootUs, sealedOut := 0, sealedIn := 0, tagFails := [] } := State.setPort_port_same ..
  refine ⟨_, hrun, ?frame, by rw [hport], State.rd_wr_lt _ _ (by decide), by rw [hport], rfl⟩
  exact (((Frame.refl s _ _).wards _ (by simp)).setPort _ _ (by simp)).wr _ _ _ (by simp)

/-- The lowest port that waits is served; every other port and what a channel shows stay. -/
theorem State.islandNext_port (s : State) (p : Nat) : (s.islandNext.port p).up = (s.port p).up ∧
    ((s.port p).setup ≠ 0 → (s.islandNext.port p).setup ≠ 0) := by
  unfold State.islandNext
  split
  · exact ⟨rfl, id⟩
  · split
    · exact ⟨rfl, id⟩
    · rw [State.setPort_port]
      split
      case isTrue h =>
        subst h
        exact ⟨rfl, fun _ => Nat.succ_ne_zero 1⟩
      case isFalse => exact ⟨rfl, id⟩

theorem State.islandNext_frame (s : State) : Frame [.ports, .wards] [] s s.islandNext := by
  unfold State.islandNext
  split
  · exact Frame.refl s _ _
  · split
    · exact Frame.refl s _ _
    · exact ((Frame.refl s _ _).wards _ (by simp)).setPort _ _ (by simp)

theorem rekeyDue_starts {s : State} (p : Fin 8) (hup : s.portUp = true) (hlinked : s.pstate p = 3) (hchannel : (s.port p).up = true)
    (hsetup : (s.port p).setup = 0)
    (hdue : 2 ^ 39 ≤ (s.port p).sealedOut ∨ 2 ^ 39 ≤ (s.port p).sealedIn ∨ (s.port p).secAt + 86400000000 ≤ s.bootUs) :
    Does (.rekeyDue p) s fun t => Frame [.ports, .wards] [] s t ∧ (t.port p).up = true ∧ (t.port p).setup ≠ 0 := by
  have hrun : exec (.rekeyDue p) s = .next (s.setPort p { s.port p with setup := 1 }).islandNext := by
    refine doIf_pos _ _ ?_
    rw [linked_guard hup hlinked, hchannel, hsetup]
    exact decide_eq_true hdue
  obtain ⟨hkeeps, hset⟩ := (s.setPort p { s.port p with setup := 1 }).islandNext_port p
  rw [State.setPort_port_same] at hkeeps hset
  exact ⟨_, hrun, ((Frame.refl s _ _).setPort _ _ (by simp)).trans (State.islandNext_frame _), hkeeps.trans hchannel, hset Nat.one_ne_zero⟩

/-- Settles O29: bulk frames, their acknowledgements, time-outs, the set-up of a channel and its successor. -/
theorem portStreams : Obligations.PortStreams := by
  refine ⟨fun s p stream h sealOk off len diffs uncorr b hup hlinked => ⟨?touches, bulk_discarded p stream h sealOk off len diffs uncorr hup hlinked,
      fun hhead hsealed hok hmin hmax hlen hcorr hopen => ?bulk⟩,
    fun s p stream h sealOk off credit b hup hlinked hhead hsealed hok hopen =>
      ⟨back_acknowledges hup hlinked hhead hsealed hok hopen, back_ends hup hlinked hhead hsealed hok hopen⟩,
    fun s p stream b hup hlinked hopen hlate => ⟨bulkTimeout_resends hup hlinked hopen hlate, bulkTimeout_ends hup hlinked hopen hlate⟩,
    fun s p f hup hlinked hsetup hhead hmessage hfragment => ⟨sec_fragment p hup hlinked hsetup hhead hmessage hfragment,
      sec_accepts p hup hlinked hsetup hhead hmessage hfragment, fun _ _ => ?fails⟩,
    fun s p hup hlinked hchannel hsetup hdue => rekeyDue_starts p hup hlinked hchannel hsetup hdue⟩
  case touches => exact ⟨_, rfl, (execBulk_out p stream h sealOk off len diffs uncorr s _ rfl).touches rfl rfl⟩
  case bulk =>
    subst hcorr
    exact bulk_advances hup hlinked hhead hsealed hok hmin hmax hlen hopen
  case fails => exact ⟨_, rfl, (execSec_out p f s _ rfl).touches rfl rfl⟩

end Sys2Proof.Machine
end

section
/-!
SUPPORT. The steps of a bring-up (14): a state entered, a failure, the poll of an operation and the deadline.
-/
namespace Sys2Proof.Machine

section
variable {bs : List Block} {cs : List Nat} {s t : State}

theorem Within.ward (h : Within bs cs s t) (hb : bs.contains .wards = false) (w : Nat) : t.ward w = s.ward w := by
  have hw : t.wards = s.wards := h.block .wards hb
  rw [State.ward, State.ward, hw]

theorem Within.trayWard (h : Within bs cs s t) (hb : bs.contains .secure = false) (w : Nat) : t.trayWard w = s.trayWard w := by
  have hw : t.secure = s.secure := h.block .secure hb
  unfold State.trayWard State.tray State.trayOf State.stored
  rw [hw]

end

theorem State.setWard_ward_same (s : State) (w : Nat) (x : Ward) : (s.setWard w x).ward w = x := (State.setWard_ward ..).trans (if_pos rfl)

/-! ## A state entered -/

/-- Ward `w` as it enters state `st`. -/
def State.wardEntering (s : State) (w st : Nat) : Ward :=
  { s.ward w with state := st, entered := s.tick, deadFrom := some s.bootUs, sub := 0, op := 0, leaving := false }

/-- What follows on a ward's new state: its floor, the twin, the record. -/
theorem State.wardEnter_eq (s : State) (w st : Nat) : ∃ t, s.wardEnter w st = t ∧
    Within [.harps, .msix, .burrow, .twin] [3656, 3742, 3776, 6914, 9152, 9280, 9344, 9408] (s.setWard w (s.wardEntering w st)) t := by
  refine ⟨_, rfl, ?_⟩
  have hfloor := (Within.refl [.harps, .msix, .burrow, .twin] [3656, 3742, 3776, 6914, 9152, 9280, 9344, 9408]
    (s.setWard w (s.wardEntering w st))).step (State.setFloor_within _ w (floorOf st)) rfl
  exact (Within.ite (hfloor.step (State.tellTwin_within _ _) rfl) hfloor).step (State.record_within _ _ _ _) rfl

theorem State.wardEnter_ward (s : State) (w st v : Nat) : (s.wardEnter w st).ward v = if w = v then s.wardEntering w st else s.ward v := by
  obtain ⟨t, ht, hw⟩ := s.wardEnter_eq w st
  rw [ht, hw.ward rfl, State.setWard_ward]

theorem State.setFloor_floor (s : State) (w code : Nat) : (s.setFloor w code).rd HARP_WCTL.floor w = code % 4 := by
  have hjudged : (s.wr HARP_WCTL.floor w code).harpJudge.rd HARP_WCTL.floor w = code % 4 :=
    ((State.harpJudge_within _).rd _ _ rfl).trans (State.rd_wr_same ..)
  unfold State.setFloor
  dsimp only
  split
  · exact ((State.tellTwin_within _ _).rd _ _ rfl).trans hjudged
  · exact hjudged

theorem State.wardEnter_floor (s : State) (w st : Nat) : (s.wardEnter w st).rd HARP_WCTL.floor w = floorOf st % 4 := by
  have hrest (u : State) (p : Prop) [Decidable p] (c : TwinCmd) (code source : Nat) (data : List Nat) :
      ((if p then u.tellTwin c else u).record code source data).rd HARP_WCTL.floor w = u.rd HARP_WCTL.floor w :=
    (((Within.ite ((Within.refl [.twin, .msix, .burrow] [6914, 9152, 9280, 9344, 9408] u).step (State.tellTwin_within _ _) rfl)
      (Within.refl _ _ u)).step (State.record_within _ _ _ _) rfl).rd _ _ rfl)
  exact (hrest _ _ _ _ _ _).trans (State.setFloor_floor _ w (floorOf st))

/-! ## A failure -/

/-- What a bring-up's first state keeps of a ward. -/
theorem State.wardPower_ward (s : State) (w : Nat) (retry : Bool) : ((s.wardPower w retry).ward w).state = 1 ∧
    ((s.wardPower w retry).ward w).attempts = (s.ward w).attempts ∧ ((s.wardPower w retry).ward w).failState = (s.ward w).failState ∧
    ((s.wardPower w retry).ward w).failCause = (s.ward w).failCause := by
  have hup (u : State) : ((if retry then u.powerUp w else u).ward w) = u.ward w :=
    (Within.ite ((Within.refl [.zither, .msix, .burrow, .twin] [2755, 2768, 2781, 2828, 2832, 2944, 6914, 9152, 9280, 9344, 9408] u).step
      (State.powerUp_within _ _) rfl) (Within.refl _ _ u)).ward rfl w
  have hlinks (u : State) : (((((u.governorUp w).portEnable w).laserEnable (2 + 2 * w)).laserEnable (3 + 2 * w)).ward w) = u.ward w :=
    (((((Within.refl [.engines, .settRest, .ports] [1280, 5952, 6024, 6032, 6045, 6238, 6300, 6301] u).step (State.governorUp_within _ _) rfl).step
      (State.portEnable_within _ _) rfl).step (State.laserEnable_within _ _) rfl).step (State.laserEnable_within _ _) rfl).ward rfl w
  unfold State.wardPower
  dsimp only
  rw [hup, State.setWard_ward_same, hlinks, State.wardEnter_ward, if_pos rfl]
  exact ⟨rfl, rfl, rfl, rfl⟩

/-- Ward `w` as its failure notes it, before the state that follows. -/
def State.wardFailed (s : State) (w cause n : Nat) : State :=
  ((s.wardCut w).setWard w { (s.wardCut w).ward w with attempts := n, failState := (s.ward w).state, failCause := cause, hold := false, resume := false }).record
    Ev.WARD_BU_FAIL (Src.ward w) [w, (s.ward w).state, cause, n]

theorem State.wardFailed_ward (s : State) (w cause n : Nat) : ((s.wardFailed w cause n).ward w).attempts = n ∧
    ((s.wardFailed w cause n).ward w).failState = (s.ward w).state ∧ ((s.wardFailed w cause n).ward w).failCause = cause := by
  have hward : (s.wardFailed w cause n).ward w =
      { (s.wardCut w).ward w with attempts := n, failState := (s.ward w).state, failCause := cause, hold := false, resume := false } :=
    ((State.record_within _ _ _ _).ward rfl w).trans (State.setWard_ward_same ..)
  rw [hward]
  exact ⟨rfl, rfl, rfl⟩

/-- The attempts of ward `w` after a failure. -/
def State.attemptsAfter (s : State) (w cause : Nat) : Nat :=
  if (countedCause cause && !inService (s.ward w).state) = true then min 255 ((s.ward w).attempts + 1) else (s.ward w).attempts

/-- The retries that the tray descriptor allows ward `w`. -/
def State.wardRetries (s : State) (w : Nat) : Nat := ((s.trayWard w).map (·.retries.toNat)).getD 0

theorem State.wardFail_eq (s : State) (w cause : Nat) : s.wardFail w cause =
    if cause = 3 ∨ cause = 4 ∨ cause = 14 then (s.wardFailed w cause (s.attemptsAfter w cause)).wardEnter w 0
    else if (countedCause cause && !inService (s.ward w).state) && decide (s.attemptsAfter w cause ≤ s.wardRetries w) then
      (s.wardFailed w cause (s.attemptsAfter w cause)).wardPower w true
    else ((s.wardFailed w cause (s.attemptsAfter w cause)).wardEnter w 14).record Ev.WARD_FAILED (Src.ward w) [w, (s.ward w).state, cause] := by
  have hretries (n : Nat) : (s.wardFailed w cause n).trayWard w = s.trayWard w := by
    have hcut := (s.wardCut_within w).trayWard rfl w
    have hset := (State.setWard_within (s.wardCut w) w { (s.wardCut w).ward w with
      attempts := n, failState := (s.ward w).state, failCause := cause, hold := false, resume := false }).trayWard rfl w
    exact ((State.record_within _ _ _ _).trayWard rfl w).trans (hset.trans hcut)
  rw [State.wardRetries, ← hretries (s.attemptsAfter w cause)]
  rfl

theorem State.wardFail_notes (s : State) (w cause : Nat) : ((s.wardFail w cause).ward w).attempts = s.attemptsAfter w cause ∧
    ((s.wardFail w cause).ward w).failState = (s.ward w).state ∧ ((s.wardFail w cause).ward w).failCause = cause ∧
    ((s.wardFail w cause).ward w).state = (if cause = 3 ∨ cause = 4 ∨ cause = 14 then 0
      else if (countedCause cause && !inService (s.ward w).state) = true ∧ s.attemptsAfter w cause ≤ s.wardRetries w then 1 else 14) := by
  obtain ⟨hattempts, hstate, hcause⟩ := s.wardFailed_ward w cause (s.attemptsAfter w cause)
  rw [s.wardFail_eq w cause]
  generalize s.wardFailed w cause (s.attemptsAfter w cause) = u at *
  generalize s.attemptsAfter w cause = n at *
  have hentered (st : Nat) : (u.wardEnter w st).ward w = u.wardEntering w st := (State.wardEnter_ward ..).trans (if_pos rfl)
  by_cases hoff : cause = 3 ∨ cause = 4 ∨ cause = 14
  · rw [if_pos hoff, if_pos hoff, hentered]
    exact ⟨hattempts, hstate, hcause, rfl⟩
  rw [if_neg hoff, if_neg hoff]
  have hboth : (countedCause cause && !inService (s.ward w).state && decide (n ≤ s.wardRetries w)) = true ↔
      (countedCause cause && !inService (s.ward w).state) = true ∧ n ≤ s.wardRetries w := by rw [Bool.and_eq_true, decide_eq_true_eq]
  by_cases hretry : (countedCause cause && !inService (s.ward w).state) = true ∧ n ≤ s.wardRetries w
  · obtain ⟨hone, hatt, hst, hca⟩ := u.wardPower_ward w true
    rw [if_pos (hboth.mpr hretry), if_pos hretry]
    exact ⟨hatt.trans hattempts, hst.trans hstate, hca.trans hcause, hone⟩
  · rw [if_neg (mt hboth.mp hretry), if_neg hretry, (State.record_within _ _ _ _).ward rfl, hentered]
    exact ⟨hattempts, hstate, hcause, rfl⟩

/-! ## Polls and deadlines -/

theorem buPoll_ended {s : State} (w : Fin 8) {stat seq : BitVec 32} {mem : BitVec 16} {ring : BitVec 32} (hup : s.fwUp = true) (hport : s.portUp = true)
    (hlead : s.shadow_ = false) (hlinked : s.linked w = true) (hstep : stepping (s.ward w).state = true) (hsub : (s.ward w).sub = 2)
    (hleaving : (s.ward w).leaving = false) (hop : (s.ward w).op ≠ 0) (hstat : stat.toNat / 16777216 = (s.ward w).op)
    (hbusy : stat.toNat / 65536 % 256 ≠ St.busy) (hseq : seq.toNat = ((s.ward w).opSeq + 1) % 4294967296)
    (htrain : (s.ward w).op ≠ 3 ∨ noneTraining mem ring = true) :
    Then (.buPoll w stat seq mem ring) s (·.opEnded w (stat.toNat / 65536 % 256)) fun u => Frame [.wards] [] s u ∧
      u.ward w = { s.ward w with opSeq := seq.toNat } := by
  have hrun : exec (.buPoll w stat seq mem ring) s =
      .next ((s.setWard w { s.ward w with opSeq := seq.toNat }).opEnded w (stat.toNat / 65536 % 256)) := by
    refine (doIf_pos _ _ (by rw [hup, hport, hlead]; rfl)).trans (congrArg Host.Outcome.next (if_pos ?_))
    have hlast : ((s.ward w).op != 3 || stat.toNat / 65536 % 256 != 0 || noneTraining mem ring) = true := by
      rcases htrain with h | h <;> simp [h]
    simp only [hlinked, hstep, hsub, hleaving, bne_iff_ne.mpr hop, beq_iff_eq.mpr hstat, bne_iff_ne.mpr hbusy, beq_iff_eq.mpr hseq, hlast]
    rfl
  exact ⟨_, hrun, (Frame.refl s _ _).wards _ (by simp), State.setWard_ward_same ..⟩

theorem buPoll_watches {s : State} (w : Fin 8) {stat seq : BitVec 32} {mem : BitVec 16} {ring : BitVec 32} (hup : s.fwUp = true) (hport : s.portUp = true)
    (hlead : s.shadow_ = false) (h : stat.toNat / 65536 % 256 = St.busy ∨ seq.toNat ≠ ((s.ward w).opSeq + 1) % 4294967296) :
    Then (.buPoll w stat seq mem ring) s (·.wardWatch w) (· = s) := by
  refine ⟨s, (doIf_pos _ _ (by rw [hup, hport, hlead]; rfl)).trans (congrArg Host.Outcome.next (if_neg ?_)), rfl⟩
  simp only [Bool.and_eq_true, bne_iff_ne, beq_iff_eq]
  rintro ⟨⟨-, ⟨-, hbusy⟩, hseq⟩, -⟩
  exact h.elim hbusy fun hno => hno hseq

theorem buDeadline_fails {s : State} (w : Fin 8) {ms since : Nat} (hup : s.fwUp = true) (hlead : s.shadow_ = false)
    (hleaving : (s.ward w).leaving = false) (hheld : (s.ward w).state ≠ 12) (hms : (s.trayWard w).bind (stepMs · (s.ward w).state) = some ms)
    (hsince : (s.ward w).deadFrom = some since) (hlate : since + ms * 1000 ≤ s.bootUs) :
    Does (.buDeadline w) s fun t => t = s.wardFail w 5 := by
  have hstate : (if (s.ward w).state = 12 ∧ (s.ward w).resume = true then (if (s.ward w).sub = 0 then 2 else 3) else (s.ward w).state) =
      (s.ward w).state := if_neg fun h => hheld h.1
  have hcause : (if (s.ward w).state = 12 ∧ (s.ward w).sub = 0 then 6 else 5) = 5 := if_neg fun h => hheld h.1
  refine ⟨_, (doIf_pos _ _ ?_).trans rfl, by rw [hcause]⟩
  rw [hstate, hms, hsince, hup, hlead, hleaving]
  simpa using hlate

/-- Settles O32: a state entered, a failure, the poll and the deadline. -/
theorem wardSteps : Obligations.WardSteps := by
  refine ⟨fun s w st => ⟨?state, ?entered, ?dead, s.wardEnter_floor w st, fun v hv => (s.wardEnter_ward w st v).trans (if_neg hv.symm)⟩,
    fun s w cause n retries hn hretries => ?fail,
    fun s w stat seq mem ring hup hport hlead => ⟨⟨_, rfl, (execBuPoll_out w stat seq mem ring s _ rfl).touches rfl rfl⟩,
      fun hlinked hstep hsub hleaving hop hstat hbusy hseq htrain =>
        buPoll_ended w hup hport hlead hlinked hstep hsub hleaving hop hstat hbusy hseq htrain,
      fun h => buPoll_watches w hup hport hlead h⟩,
    fun s w ms since hup hlead hleaving hheld hms hsince hlate => buDeadline_fails w hup hlead hleaving hheld hms hsince hlate⟩
  case state => rw [State.wardEnter_ward, if_pos rfl]; rfl
  case entered => rw [State.wardEnter_ward, if_pos rfl]; rfl
  case dead => rw [State.wardEnter_ward, if_pos rfl]; rfl
  case fail =>
    have hnotes := s.wardFail_notes w cause
    rw [show s.attemptsAfter w cause = n from hn.symm, show s.wardRetries w = retries from hretries.symm] at hnotes
    exact ⟨(s.wardFail_within w cause).touches rfl rfl, hnotes⟩

end Sys2Proof.Machine
end

section
/-!
SUPPORT. Core and partition resets of a ward in service (15): the request, the operation that is polled, and the end of a sequence.
-/
namespace Sys2Proof.Machine

/-! ## The sequence of a ward -/

/-- The answer to a request of tray firmware keeps the ward's sequence. -/
theorem State.endReq_seq (s : State) (p : Nat) (o : Owner) (status : Nat) (data : List Word) (w : Nat) :
    ((s.endReq p o status data).ward w).seq = (s.ward w).seq := by
  have hset (x : Ward) (h : x.seq = (s.ward p).seq) : ((s.setWard p x).ward w).seq = (s.ward w).seq := by
    rw [State.setWard_ward]
    split
    case isTrue heq => rw [h, heq]
    case isFalse => rfl
  cases o with
  | engine obj slot => exact congrArg Ward.seq ((State.endEngine_within s obj slot status data).ward rfl w)
  | firmware dest =>
    unfold State.endReq
    dsimp only
    split <;> exact hset _ rfl
  | host pair slot =>
    unfold State.endReq
    dsimp only
    rw [(State.complete_within _ _ _ _ _ _ _).ward rfl]
    split
    · split <;> rfl
    · rfl

theorem State.request_seq (s : State) (p : Nat) (r : Req) (w : Nat) : ((s.request p r).ward w).seq = (s.ward w).seq := by
  unfold State.request
  split
  · exact s.endReq_seq ..
  · split
    · exact s.endReq_seq ..
    · exact congrArg Ward.seq ((State.sendReq_within s p r).ward rfl w)

theorem State.wardWrite_seq (s : State) (w a : Nat) (v : Word) : ((s.wardWrite w a v).ward w).seq = (s.ward w).seq := s.request_seq ..

/-- An operation written is the step of the ward's sequence. -/
theorem State.resetOp_seq (s : State) (w : Nat) (q : ResetSeq) (op : Nat) :
    ((s.resetOp w q op).ward w).seq = some { q with step := 3, stepAt := s.bootUs, running := op } :=
  (State.wardWrite_seq ..).trans (congrArg Ward.seq (State.setWard_ward_same ..))

/-! ## Requests -/

/-- The requests of Table 15-7 by their operation. -/
theorem exec_seqStart {s : State} {w : Fin 8} {target : BitVec 16} {via : Via} {op : Nat} {c : Instr}
    (hc : (op, c) ∈ [(1, Instr.coreReset w target via), (2, .partitionReset w target via), (3, .partitionOff w target via),
      (4, .partitionOn w target via)]) : exec c s = s.seqStart w op target.toNat via ∧
    OutWithin [.engines, .msix, .hostRest, .ports, .wards] [6016, 7048, 7744, 7808] s (exec c s) := by
  simp only [List.mem_cons, List.not_mem_nil, or_false, Prod.mk.injEq] at hc
  rcases hc with ⟨rfl, rfl⟩ | ⟨rfl, rfl⟩ | ⟨rfl, rfl⟩ | ⟨rfl, rfl⟩
  · exact ⟨rfl, execCoreReset_out w target via s⟩
  · exact ⟨rfl, execPartitionReset_out w target via s⟩
  · exact ⟨rfl, execPartitionOff_out w target via s⟩
  · exact ⟨rfl, execPartitionOn_out w target via s⟩

/-- The sequence that a request begins. -/
def State.newSeq (s : State) (op target : Nat) (via : Via) : ResetSeq := { op, target, via, startAt := s.bootUs, step := 1, stepAt := s.bootUs }

/-- A request accepted: its first operation written, or QUIESCE sent. -/
def State.seqBegun (s : State) (w op target : Nat) (via : Via) : State :=
  let q := s.newSeq op target via
  let s := s.begin_ via
  if op = 1 then s.resetOp w q 1
  else if op = 4 then s.resetOp w q 6
  else (s.setWard w { s.ward w with seq := some q }).sendCtrl w 1 target (.firmware 0)

/-- The request of operation `op` on ward `w` is given. -/
def State.seqGiven (s : State) (w op target : Nat) (via : Via) : Bool :=
  s.given via 0x0303 fun d => descParam d 0x2C 1 == w && descParam d 0x2D 1 == op && descParam d 0x2E 2 == target

theorem State.seqStart_eq {s : State} {w op target : Nat} {via : Via} (hup : s.fwUp = true) (hgiven : s.seqGiven w op target via = true) :
    s.seqStart w op target via = .next (match s.seqRefusal w op target with
      | some e => s.finish via e (if e = St.badDescriptor then 0x2E else 0)
      | none => s.seqBegun w op target via) := doIf_pos _ _ (by rw [hup, Bool.true_and]; exact hgiven)

theorem State.sendCtrl_ctrls (s : State) (p code arg : Nat) (o : Owner) : ((s.sendCtrl p code arg o).port p).ctrls =
    (s.port p).ctrls ++ [{ code, arg, owner := o, since := s.bootUs, sentAt := s.bootUs }] :=
  congrArg Port.ctrls (State.setPort_port_same ..)

theorem State.begin__kept (s : State) (via : Via) : (s.begin_ via).bootUs = s.bootUs ∧ (∀ p, (s.begin_ via).port p = s.port p) ∧
    ∀ w, (s.begin_ via).ward w = s.ward w := by
  have hports : (s.begin_ via).ports = s.ports := (s.begin__within via).block .ports rfl
  exact ⟨(s.begin__within via).block .bootUs rfl, fun p => by rw [State.port, State.port, hports], (s.begin__within via).ward rfl⟩

theorem State.seqBegun_seq (s : State) (w op target : Nat) (via : Via) : ∃ q, ((s.seqBegun w op target via).ward w).seq = some q ∧ q.op = op ∧
    q.target = target ∧ q.via = via ∧ q.startAt = s.bootUs ∧ q.step = (if op = 1 ∨ op = 4 then 3 else 1) ∧ (op = 1 → q.running = 1) ∧
    (op = 4 → q.running = 6) := by
  unfold State.seqBegun
  dsimp only
  by_cases h1 : op = 1
  · subst h1
    exact ⟨_, State.resetOp_seq .., rfl, rfl, rfl, rfl, rfl, fun _ => rfl, fun h => by cases h⟩
  by_cases h4 : op = 4
  · subst h4
    exact ⟨_, State.resetOp_seq .., rfl, rfl, rfl, rfl, rfl, fun h => absurd h (by decide), fun _ => rfl⟩
  rw [if_neg h1, if_neg h4, if_neg (by omega), (State.sendCtrl_within _ _ _ _ _).ward rfl, State.setWard_ward_same]
  exact ⟨_, rfl, rfl, rfl, rfl, rfl, rfl, fun h => absurd h h1, fun h => absurd h h4⟩

theorem State.seqBegun_ctrls (s : State) {w op target : Nat} (via : Via) (hop : op = 2 ∨ op = 3) :
    ((s.seqBegun w op target via).port w).ctrls =
      (s.port w).ctrls ++ [{ code := 1, arg := target, owner := .firmware 0, since := s.bootUs, sentAt := s.bootUs }] := by
  obtain ⟨hnow, hport, -⟩ := s.begin__kept via
  unfold State.seqBegun
  dsimp only
  rw [if_neg (by omega), if_neg (by omega), State.sendCtrl_ctrls]
  have hsame : (((s.begin_ via).setWard w { (s.begin_ via).ward w with seq := some (s.newSeq op target via) }).port w) = s.port w := hport w
  have hset : ((s.begin_ via).setWard w { (s.begin_ via).ward w with seq := some (s.newSeq op target via) }).bootUs = s.bootUs := hnow
  rw [hsame, hset]

/-! ## Polls -/

theorem exec_rstPoll {s : State} (w : Fin 8) (stat seq : BitVec 32) {q : ResetSeq} (hup : s.fwUp = true) (hport : s.portUp = true)
    (hlinked : s.pstate w = 3) (hseq : (s.ward w).seq = some q) :
    exec (.rstPoll w stat seq) s = .next (if q.step ≠ 3 then s
      else if stat.toNat / 16777216 = q.running ∧ stat.toNat / 65536 % 256 ≠ St.busy ∧ seq.toNat ≠ (s.ward w).rstSeq then
        (s.setWard w { s.ward w with rstSeq := seq.toNat }).seqOpEnded w q (stat.toNat / 65536 % 256)
      else if q.stepAt + 10000 ≤ s.bootUs then s.seqOpEnded w q St.timeout
      else s) := by
  refine (doIf_pos _ _ (by rw [hup, hport, State.linked, hlinked]; rfl)).trans (congrArg Host.Outcome.next ?_)
  split
  case h_1 h => cases hseq.symm.trans h
  case h_2 q' h =>
    cases hseq.symm.trans h
    rfl

/-! ## The end of a sequence -/

/-- The parts off after a sequence. -/
def ResetSeq.partsAfter (q : ResetSeq) (off : Nat) : Nat :=
  let off := if q.op = 3 then off ||| 2 ^ q.target else off
  if q.op = 4 then maskTo off q.target + off / 2 ^ (q.target + 1) * 2 ^ (q.target + 1) else off

theorem testBit_cleared (n k : Nat) : (maskTo n k + n / 2 ^ (k + 1) * 2 ^ (k + 1)).testBit k = false := by
  have hlow : n % 2 ^ k < 2 ^ k := Nat.mod_lt _ (Nat.two_pow_pos k)
  have hsum : maskTo n k + n / 2 ^ (k + 1) * 2 ^ (k + 1) = 2 ^ (k + 1) * (n / 2 ^ (k + 1)) + n % 2 ^ k := by
    rw [maskTo, Nat.add_comm (n % 2 ^ k), Nat.mul_comm (n / 2 ^ (k + 1))]
  rw [hsum, Nat.testBit_two_pow_mul_add _ (Nat.lt_trans hlow (Nat.pow_lt_pow_right (by decide) (Nat.lt_succ_self k))), if_pos (Nat.lt_succ_self k)]
  exact Nat.testBit_lt_two_pow hlow

theorem ResetSeq.partsAfter_testBit (q : ResetSeq) (off : Nat) :
    (q.op = 3 → (q.partsAfter off).testBit q.target = true) ∧ (q.op = 4 → (q.partsAfter off).testBit q.target = false) := by
  constructor
  · intro h
    rw [ResetSeq.partsAfter, h, if_neg (by decide), if_pos rfl, Nat.testBit_or, Nat.testBit_two_pow_self, Bool.or_true]
  · intro h
    rw [ResetSeq.partsAfter, h, if_pos rfl, if_neg (by decide)]
    exact testBit_cleared _ _

theorem State.fenceAt_kept (s : State) (v u lift w : Nat) :
    ((s.fenceAt v u lift).ward w).seq = (s.ward w).seq ∧ ((s.fenceAt v u lift).ward w).partsOff = (s.ward w).partsOff := by
  have hsent (k : Nat) : (s.sendCtrl v 5 (u + 8 * lift) (.firmware 0)).ward k = s.ward k := rfl
  unfold State.fenceAt
  dsimp only
  rw [State.setWard_ward, hsent, hsent]
  split
  case isTrue h =>
    subst h
    exact ⟨rfl, rfl⟩
  case isFalse => exact ⟨rfl, rfl⟩

theorem State.seqDone_ward (s : State) (w : Nat) (q : ResetSeq) : ((s.seqDone w q).ward w).seq = none ∧
    ((s.seqDone w q).ward w).partsOff = q.partsAfter (s.ward w).partsOff := by
  have hended := State.setWard_ward_same s w { s.ward w with seq := none, partsOff := q.partsAfter (s.ward w).partsOff }
  have hfenced (l : List Nat) := each_keeps
    (P := fun t : State => (t.ward w).seq = none ∧ (t.ward w).partsOff = q.partsAfter (s.ward w).partsOff) (f := fun v s => s.fenceAt v w 1)
    (fun v t ht => ⟨(t.fenceAt_kept v w 1 w).1.trans ht.1, (t.fenceAt_kept v w 1 w).2.trans ht.2⟩) l
    (s := s.setWard w { s.ward w with seq := none, partsOff := q.partsAfter (s.ward w).partsOff }) (by rw [hended]; exact ⟨rfl, rfl⟩)
  unfold State.seqDone
  dsimp only
  rw [(State.finish_within _ _ _ _ _ _).ward rfl]
  split <;> rw [(State.record_within _ _ _ _).ward rfl] <;> exact hfenced _

/-- Settles O33: the request, the poll of an operation, and the end of a sequence. -/
theorem resetSequences : Obligations.ResetSequences := by
  refine ⟨fun s w target via op c hup hc hgiven => ?request, fun s w stat seq q hup hport hlinked hseq => ?poll,
    fun s w q => ⟨(s.seqDone_ward w q).1, fun h => ?off, fun h => ?on⟩⟩
  case request =>
    obtain ⟨hexec, hout⟩ := exec_seqStart (s := s) hc
    have hrun := hexec.trans (State.seqStart_eq hup hgiven)
    refine ⟨⟨_, hrun, (hout _ hrun).touches rfl rfl⟩, fun e he => ⟨s, ?_, rfl⟩, fun hnone => ⟨_, hrun, ?_⟩⟩
    · rw [hrun, he]
    · rw [hnone]
      obtain ⟨q, hq, hop, htarget, hvia, hstart, hstep, h1, h4⟩ := s.seqBegun_seq w op target.toNat via
      exact ⟨q, hq, hop, htarget, hvia, hstart, hstep, h1, h4, fun h23 => s.seqBegun_ctrls via h23⟩
  case poll =>
    have hrun := exec_rstPoll w stat seq hup hport hlinked hseq
    refine ⟨fun hstep => ⟨s, ?_, rfl⟩, fun hstep hstat hbusy hnew => ⟨s.setWard w { s.ward w with rstSeq := seq.toNat }, ?_,
      (Frame.refl s _ _).wards _ (by simp), State.setWard_ward_same ..⟩, fun hstep hno hlate => ⟨s, ?_, rfl⟩⟩
    · rw [hrun, if_pos hstep]
    · rw [hrun, if_neg (not_not_intro hstep), if_pos ⟨hstat, hbusy, hnew⟩]
    · rw [hrun, if_neg (not_not_intro hstep), if_neg ?_, if_pos hlate]
      rintro ⟨hstat, hbusy, hnew⟩
      rcases hno with h | h | h
      · exact h hstat
      · exact hbusy h
      · exact hnew h
  case off => rw [(s.seqDone_ward w q).2, (q.partsAfter_testBit _).1 h]
  case on => rw [(s.seqDone_ward w q).2, (q.partsAfter_testBit _).2 h]

end Sys2Proof.Machine
end

section
/-!
SUPPORT. The HDM range and memory integrity (16, 17): two fields of one bit in a state whose register bank holds 2 there.
-/
namespace Sys2Proof.Machine

/-! ## The HDM range -/

/-- The host may access the memory, no staging window is open, and the register bank holds 2 in `INT_CAUSE.hdm_denied`. -/
def wideDeniedState : State :=
  { part := { held := false, stage := 2, perstLow := false }, host := { linkUp := true, decoder := true },
    regs := [(DEV_STAT.mem_active.key 0, 1), (INT_CAUSE.hdm_denied.key 0, 2)] }

theorem wideDeniedState_write :
    ∃ t, exec (.hdmAccess true 0 0 0 0) wideDeniedState = .next t ∧ t.rd INT_CAUSE.hdm_denied 0 = 2 :=
  ⟨_, doIf_pos _ _ (by decide +kernel), by decide +kernel⟩

/-- Refutes O35: a denied access leaves a cause that is not 0 as it is, and a state may hold 2 there. -/
theorem not_hostMemory : ¬ Obligations.HostMemory := by
  rintro ⟨haccess, -⟩
  obtain ⟨-, -, -, hdenied, -⟩ := haccess wideDeniedState _ true 0 0 0 0 0 _ (by decide +kernel) rfl rfl rfl
    (by decide +kernel) rfl rfl
  obtain ⟨t, hrun, -, -, hcause⟩ := hdenied (by decide +kernel) rfl (Or.inl (by decide +kernel))
  obtain ⟨u, hu, hread⟩ := wideDeniedState_write
  cases hrun.symm.trans hu
  exact absurd (hread.symm.trans hcause) (by decide)

/-! ## Memory integrity -/

/-- The register bank holds 2 in `MEM_UNCA.valid`. -/
def wideHeldState : State := { regs := [(MEM_UNCA.valid.key 0, 2)] }

theorem wideHeldState_memUncorr : (wideHeldState.memUncorr 0 false 0).rd MEM_UNCA.valid 0 = 2 := by decide +kernel

/-- Refutes O42: a further uncorrectable word leaves a `valid` that is not 0 as it is, and a state may hold 2 there. -/
theorem not_memoryIntegrity : ¬ Obligations.MemoryIntegrity := by
  rintro ⟨huncorr, -⟩
  obtain ⟨-, -, hvalid, -⟩ := huncorr wideHeldState 0 false 0 (by decide)
  exact absurd (wideHeldState_memUncorr.symm.trans hvalid) (by decide)

end Sys2Proof.Machine
end

section
/-!
SUPPORT. Start-up (18): the READY interrupt in a state whose register bank holds 2 in a field of one bit.
-/
namespace Sys2Proof.Machine

/-- Tray firmware runs and has not declared READY, and the register bank holds 2 in `INT_CAUSE.ready`. -/
def wideReadyState : State := { part := { held := false, halted := false }, regs := [(INT_CAUSE.ready.key 0, 2)] }

theorem wideReadyState_ready : ∃ t, exec .firmwareReady wideReadyState = .next t ∧ t.rd INT_CAUSE.ready 0 = 2 :=
  ⟨_, doIf_pos _ _ (by decide +kernel), by decide +kernel⟩

/-- Refutes O49: READY leaves a cause that is not 0 as it is, and a state may hold 2 there. -/
theorem not_startUp : ¬ Obligations.StartUp := by
  rintro ⟨-, -, -, -, hready, -⟩
  obtain ⟨t, hrun, -, -, hcause⟩ := hready wideReadyState (by decide +kernel) (Or.inl (by decide +kernel))
  obtain ⟨u, hu, hread⟩ := wideReadyState_ready
  cases hrun.symm.trans hu
  exact absurd (hread.symm.trans hcause) (by decide)

end Sys2Proof.Machine
end

section
/-!
SUPPORT. Records (20): what a record offered to a path does to flash, mirror and counts, and the order of those of one cycle.
-/
namespace Sys2Proof.Machine

/-! ## The three parts of an offer -/

theorem State.record_of_no_batch {s : State} (h : s.burrow.batch = none) (code source : Nat) (data : List Nat) :
    s.record code source data = s.offer (s.mkRec code source data) := by
  rw [State.record, h]

theorem State.eventInt_burrow (s : State) :
    ∃ at_ due, s.eventInt.burrow = { s.burrow with lastEventInt := at_, eventDue := due } := by
  have hraise : ∀ u : State, (u.raiseInt INT_CAUSE.event INT_MASK.event).burrow = u.burrow := fun u =>
    (State.raiseInt_frame u INT_CAUSE.event INT_MASK.event).1 .burrow (by decide)
  unfold State.eventInt
  dsimp only
  split
  · exact ⟨_, _, rfl⟩
  · exact if_cases (P := fun v : State => ∃ at_ due, v.burrow = { s.burrow with lastEventInt := at_, eventDue := due })
      (fun _ => ⟨_, _, rfl⟩) (fun _ => ⟨_, _, hraise _⟩)

theorem Burrow.mirrorPut_getLast (b : Burrow) (seq : Nat) (r : Rec) : (b.mirrorPut seq r).mirror.getLast? = some { r with seq := seq } := by
  show (if (b.mirror ++ [{ r with seq := seq }]).length > mirrorRing then (b.mirror ++ [{ r with seq := seq }]).drop 1
    else b.mirror ++ [{ r with seq := seq }]).getLast? = _
  split
  · rename_i hlong
    rw [List.getLast?_drop, if_neg (by simp only [mirrorRing] at hlong; omega), List.getLast?_concat]
  · rw [List.getLast?_concat]

theorem State.offerFlash_mirror (s : State) (r : Rec) :
    (s.offerFlash r).burrow.mirror = s.burrow.mirror ∧ (s.offerFlash r).burrow.mirrorPath = s.burrow.mirrorPath := by
  unfold State.offerFlash
  dsimp only
  (repeat' split) <;> exact ⟨rfl, rfl⟩

theorem State.offerMirror_flash (s : State) (r : Rec) :
    (s.offerMirror r).burrow.flight = s.burrow.flight ∧ (s.offerMirror r).burrow.flashPath = s.burrow.flashPath ∧
    (s.offerMirror r).burrow.prio = s.burrow.prio := by
  unfold State.offerMirror
  dsimp only
  (repeat' split) <;> exact ⟨rfl, rfl, rfl⟩

theorem State.offer_flash (s : State) (r : Rec) :
    (s.offer r).burrow.flight = (s.offerFlash r).burrow.flight ∧ (s.offer r).burrow.flashPath = (s.offerFlash r).burrow.flashPath ∧
    (s.offer r).burrow.prio = (s.offerFlash r).burrow.prio := by
  obtain ⟨at_, due, hevent⟩ := State.eventInt_burrow ((s.offerFlash r).offerMirror r)
  rw [State.offer, hevent]
  exact State.offerMirror_flash (s.offerFlash r) r

theorem State.offer_mirror (s : State) (r : Rec) : (s.offer r).burrow.mirror = ((s.offerFlash r).offerMirror r).burrow.mirror := by
  obtain ⟨at_, due, hevent⟩ := State.eventInt_burrow ((s.offerFlash r).offerMirror r)
  rw [State.offer, hevent]

theorem State.offer_coalf (s : State) (r : Rec) : (s.offer r).rd BRW_COALF.count 0 = (s.offerFlash r).rd BRW_COALF.count 0 :=
  ((State.eventInt_within _).rd BRW_COALF.count 0 rfl).trans ((State.offerMirror_within _ r).rd BRW_COALF.count 0 rfl)

theorem State.offerFlash_mirrorOn (s : State) (r : Rec) : (s.offerFlash r).mirrorOn = s.mirrorOn := by
  have h := State.offerFlash_within s r
  rw [State.mirrorOn, State.mirrorOn, State.bit, State.bit, h.rd DEV_STAT.mem_active 0 rfl, h.rd REC_STAT.state 0 rfl, h.block .part rfl]

/-! ## The flash path -/

section
variable (s : State) {r : Rec}

theorem State.offerFlash_take (ht : 0 < s.burrow.flashPath.tokens) (h : r.priority = true ∨ s.burrow.flashPath.hasEntry r = false) :
    (s.offerFlash r).burrow.flight = s.burrow.flight ++ [r] ∧ (s.offerFlash r).burrow.flashPath.tokens = s.burrow.flashPath.tokens - 1 := by
  unfold State.offerFlash
  dsimp only
  by_cases hp : r.priority = true
  · rw [if_pos hp, if_pos ht]
    exact ⟨rfl, rfl⟩
  · rw [if_neg hp, if_neg (by rw [h.resolve_left hp]; decide), if_pos ht]
    exact ⟨rfl, rfl⟩

theorem State.offerFlash_wait (ht : s.burrow.flashPath.tokens = 0) (hp : r.priority = true) (hroom : s.burrow.prio.length < 256) :
    (s.offerFlash r).burrow.prio = s.burrow.prio ++ [r] := by
  unfold State.offerFlash
  dsimp only
  rw [if_pos hp, if_neg (by omega), if_pos hroom]

theorem State.offerFlash_count (hp : r.priority = false) (h : s.burrow.flashPath.tokens = 0 ∨ s.burrow.flashPath.hasEntry r = true) :
    (s.offerFlash r).burrow.flight = s.burrow.flight ∧
    (s.offerFlash r).rd BRW_COALF.count 0 = min 4294967295 (s.rd BRW_COALF.count 0 + 1) := by
  have hcoal : s.offerFlash r =
      { s with burrow := { s.burrow with flashPath := s.burrow.flashPath.coalesce r s.bootUs } }.addSat BRW_COALF.count 0 1 := by
    unfold State.offerFlash
    dsimp only
    rw [if_neg (by rw [hp]; decide)]
    by_cases he : s.burrow.flashPath.hasEntry r = true
    · rw [if_pos he]
    · rw [if_neg he, if_neg (by have := h.resolve_right he; omega)]
  rw [hcoal]
  exact ⟨rfl, State.addSat_rd_same _ BRW_COALF.count 0 1⟩

/-! ## The mirror's path -/

theorem State.offerMirror_lost (hoff : s.mirrorOn = false) :
    s.offerMirror r = s.addSat BRW_LOST.mirror_lost 0 1 := by
  unfold State.offerMirror
  rw [hoff]
  rfl

theorem State.offerMirror_take (hon : s.mirrorOn = true) (he : s.burrow.mirrorPath.hasEntry r = false) (ht : 0 < s.burrow.mirrorPath.tokens) :
    (s.offerMirror r).burrow.mirror.getLast? = some { r with seq := s.rd BRW_MSEQ.seq 0 } ∧
    (s.offerMirror r).rd BRW_MSEQ.seq 0 = (s.rd BRW_MSEQ.seq 0 + 1) % 2 ^ 64 := by
  have hno : ¬ (s.burrow.mirrorPath.hasEntry r || s.burrow.mirrorPath.tokens == 0) = true := by simp [he, Nat.ne_of_gt ht]
  unfold State.offerMirror
  dsimp only
  rw [if_neg (by rw [hon]; decide), if_neg hno]
  exact ⟨Burrow.mirrorPut_getLast _ _ r, State.rd_wr_same _ BRW_MSEQ.seq 0 _⟩

theorem State.offerMirror_count (hon : s.mirrorOn = true) (h : s.burrow.mirrorPath.hasEntry r = true ∨ s.burrow.mirrorPath.tokens = 0) :
    (s.offerMirror r).burrow.mirror = s.burrow.mirror ∧
    (s.offerMirror r).rd BRW_COALM.count 0 = min 4294967295 (s.rd BRW_COALM.count 0 + 1) := by
  have hyes : (s.burrow.mirrorPath.hasEntry r || s.burrow.mirrorPath.tokens == 0) = true := by simpa using h
  unfold State.offerMirror
  dsimp only
  rw [if_neg (by rw [hon]; decide), if_pos hyes]
  exact ⟨rfl, State.addSat_rd_same _ BRW_COALM.count 0 1⟩

end

/-! ## The order of those of one cycle (R525) -/

theorem Rec.before_iff {a b : Rec} : a.before b = true ↔ a.source < b.source ∨ a.source = b.source ∧ a.code < b.code := decide_eq_true_iff

/-- None comes before one that comes before it, and none before one of which another that is not after it comes before. -/
theorem Rec.before_false_trans {a b c : Rec} (h : a.before b = true ∨ b.before a = false) (h' : c.before b = false) : c.before a = false := by
  rw [← Bool.not_eq_true, Rec.before_iff] at h' ⊢
  rw [← Bool.not_eq_true, Rec.before_iff, Rec.before_iff] at h
  omega

theorem insertRec_perm (r : Rec) (l : List Rec) : (insertRec r l).Perm (r :: l) := by
  induction l with
  | nil => exact .refl _
  | cons q l ih =>
    unfold insertRec
    split
    · exact .refl _
    · exact (ih.cons q).trans (.swap r q l)

theorem insertRec_sorted (r : Rec) {l : List Rec} (h : l.Pairwise fun a b => b.before a = false) :
    (insertRec r l).Pairwise fun a b => b.before a = false := by
  induction l with
  | nil => exact List.pairwise_singleton _ _
  | cons q l ih =>
    obtain ⟨hq, hl⟩ := List.pairwise_cons.mp h
    unfold insertRec
    split
    · rename_i hbefore
      have hqr : q.before r = false := Rec.before_false_trans (.inl hbefore) (by
        rw [← Bool.not_eq_true, Rec.before_iff]; omega)
      refine List.pairwise_cons.mpr ⟨fun x hx => ?_, h⟩
      obtain rfl | hx := List.mem_cons.mp hx
      · exact hqr
      · exact Rec.before_false_trans (.inl hbefore) (hq x hx)
    · rename_i hafter
      refine List.pairwise_cons.mpr ⟨fun x hx => ?_, ih hl⟩
      obtain rfl | hx := List.mem_cons.mp ((insertRec_perm r l).mem_iff.mp hx)
      · exact Bool.not_eq_true _ ▸ hafter
      · exact hq x hx

theorem foldl_insertRec (l m : List Rec) (hm : m.Pairwise fun a b => b.before a = false) :
    (l.foldl (fun l r => insertRec r l) m).Perm (l ++ m) ∧
    (l.foldl (fun l r => insertRec r l) m).Pairwise fun a b => b.before a = false := by
  induction l generalizing m with
  | nil => exact ⟨.refl _, hm⟩
  | cons r l ih =>
    obtain ⟨hperm, hsorted⟩ := ih (insertRec r m) (insertRec_sorted r hm)
    exact ⟨hperm.trans (((insertRec_perm r m).append_left l).trans List.perm_middle), hsorted⟩

/-! ## Recording an event -/

/-- Settles O43, by the paths' own lemmas and the order of an insertion sort. -/
theorem recordingAnEvent : Obligations.RecordingAnEvent := by
  rintro s t code source data r rfl rfl
  have hon := State.offerFlash_mirrorOn s (s.mkRec code source data)
  have hflash := State.offerFlash_within s (s.mkRec code source data)
  obtain ⟨hmirror, hpath⟩ := State.offerFlash_mirror s (s.mkRec code source data)
  refine ⟨State.record_frame s code source data, fun l hl => by rw [State.record, hl], fun f l hnone hl => ?_, fun hnone => ?_⟩
  · obtain ⟨hperm, hsorted⟩ := foldl_insertRec l [] .nil
    refine ⟨_, by simpa using hperm, hsorted, ?_⟩
    unfold State.inOneCycle
    rw [if_neg (by rw [hnone]; decide)]
    dsimp only
    rw [hl]
    rfl
  rw [State.record_of_no_batch hnone]
  obtain ⟨hflight, hflashPath, hprio⟩ := State.offer_flash s (s.mkRec code source data)
  have hrd : ∀ f : Fld, f ∈ [BRW_LOST.mirror_lost, BRW_MSEQ.seq, BRW_COALM.count] →
      (s.offer (s.mkRec code source data)).rd f 0 = ((s.offerFlash (s.mkRec code source data)).offerMirror (s.mkRec code source data)).rd f 0 ∧
      (s.offerFlash (s.mkRec code source data)).rd f 0 = s.rd f 0 := by
    simp only [List.forall_mem_cons, List.not_mem_nil, false_imp_iff, implies_true, and_true]
    exact ⟨⟨(State.eventInt_within _).rd _ 0 rfl, hflash.rd _ 0 rfl⟩, ⟨(State.eventInt_within _).rd _ 0 rfl, hflash.rd _ 0 rfl⟩,
      (State.eventInt_within _).rd _ 0 rfl, hflash.rd _ 0 rfl⟩
  obtain ⟨hlost, hlostWas⟩ := hrd BRW_LOST.mirror_lost (by simp)
  obtain ⟨hseq, hseqWas⟩ := hrd BRW_MSEQ.seq (by simp)
  obtain ⟨hcoalm, hcoalmWas⟩ := hrd BRW_COALM.count (by simp)
  rw [hflight, hflashPath, hprio, State.offer_mirror, State.offer_coalf, hlost, hseq, hcoalm]
  refine ⟨State.offerFlash_take s, State.offerFlash_wait s, State.offerFlash_count s, fun hoff => ?_, fun hup he ht => ?_, fun hup h => ?_⟩
  · rw [State.offerMirror_lost _ (hon.trans hoff), State.addSat_rd_same, hlostWas]
    exact ⟨rfl, hmirror⟩
  · rw [← hseqWas]
    exact State.offerMirror_take _ (hon.trans hup) (hpath ▸ he) (hpath ▸ ht)
  · rw [← hmirror, ← hcoalmWas]
    exact State.offerMirror_count _ (hon.trans hup) (hpath ▸ h)

end Sys2Proof.Machine
end

section
/-!
SUPPORT. The burrow's commands (20): tokens, count records, closing entries and commits.
-/
namespace Sys2Proof.Machine

/-! ## Open entries of a path -/

theorem CoalPath.change_open (p : CoalPath) (code source : Nat) (f : Coal → Option Coal) :
    (p.change code source f).open_ = p.open_.filterMap fun e => if e.code = code ∧ e.source = source then f e else some e := by
  have hoption : ∀ (g : Coal → Option Coal) (o : Option Coal), (o.bind g).toList = o.toList.filterMap g := by
    intro g o
    cases o with
    | none => rfl
    | some e =>
      show (g e).toList = _
      cases hg : g e <;> simp [hg]
  simp only [CoalPath.open_, CoalPath.change, List.filterMap_append, hoption]

theorem CoalPath.entry_change_none (p : CoalPath) (code source : Nat) : (p.change code source fun _ => none).entry code source = none := by
  rw [CoalPath.entry, CoalPath.change_open, List.find?_eq_none]
  intro e he
  obtain ⟨x, -, hx⟩ := List.mem_filterMap.mp he
  split at hx
  · cases hx
  · rename_i hne
    cases hx
    simpa using hne

theorem CoalPath.entry_key {p : CoalPath} {code source : Nat} {e : Coal} (h : p.entry code source = some e) : e.code = code ∧ e.source = source := by
  simpa using List.find?_some h

/-! ## A count record -/

section
variable (s : State) (e : Coal)

theorem State.setPath_frame (m : Bool) (p : CoalPath) : Frame [.burrow] [] s (s.setPath m p) := (Frame.refl s [.burrow] []).burrow _ (by simp)

theorem State.setPath_path (m : Bool) (p : CoalPath) : (s.setPath m p).path m = p := by
  cases m <;> rfl

theorem State.commitCount_flash :
    Frame [.burrow] [] s (s.commitCount false e) ∧
    (s.commitCount false e).burrow.flight = s.burrow.flight ++ [e.counts (s.mkRec e.code e.source [])] ∧
    (s.commitCount false e).burrow.flashPath.tokens = s.burrow.flashPath.tokens :=
  ⟨(State.setPath_frame s false _).burrow _ (by simp), rfl, rfl⟩

theorem State.commitCount_mirror :
    Frame [.burrow] [(BRW_MSEQ.seq, 0)] s (s.commitCount true e) ∧
    (s.commitCount true e).burrow.mirror.getLast? = some { e.counts (s.mkRec e.code e.source []) with seq := s.rd BRW_MSEQ.seq 0 } ∧
    (s.commitCount true e).burrow.mirrorPath.tokens = s.burrow.mirrorPath.tokens :=
  ⟨(((State.setPath_frame s true _).burrow _ (by simp)).mono (by simp) (by simp)).addWrap _ _ _ (by simp), Burrow.mirrorPut_getLast _ _ _, rfl⟩

end

/-! ## Commits -/

theorem keepRecs_getLast (n : Nat) (l : List Rec) (r : Rec) : (keepRecs (n + 1) (l ++ [{ r with seq := n }])).getLast? = some { r with seq := n } := by
  have hkeep : (n ≤ 4095 ∨ brwBlock (n + 1) < brwBlock n + 124) := by
    simp only [brwBlock]
    omega
  rw [keepRecs, List.filter_append, List.filter_cons_of_pos (by simpa using hkeep), List.filter_nil, List.getLast?_concat]

/-- The state in which the oldest record in flight is in flash. -/
def State.committed (s : State) (r : Rec) (l : List Rec) : State :=
  { s with burrow := { s.burrow with
      flash := keepRecs (s.burrow.nextSeq + 1) (s.burrow.flash ++ [{ r with seq := s.burrow.nextSeq }])
      nextSeq := s.burrow.nextSeq + 1
      flight := l } }

theorem flashCommitDone_committed (s : State) (r : Rec) (l : List Rec) (hup : s.flashUp = true) (hfl : s.burrow.flight = r :: l) :
    Does .flashCommitDone s fun u =>
      Within [.msix, .hostRest] [7048, 7744, 7808] (s.committed r l) u ∧ (r.code ≠ Ev.HOST_TIME_ANCHOR → u = s.committed r l) := by
  refine Does.of_guard rfl hup ?_
  rw [hfl]
  dsimp only
  split
  · rename_i p slot hanchor
    exact ⟨State.complete_within (s.committed r l) p slot _ _ _ _, fun hne => by rw [if_neg hne] at hanchor; cases hanchor⟩
  · exact ⟨Within.refl _ _ (s.committed r l), fun _ => rfl⟩

/-! ## Tokens -/

section
variable {s : State} (m : Bool)

/-- The count record that a new token of a path goes to. -/
def State.refillTakes (s : State) (m : Bool) : Option Coal := if m && !s.mirrorOn then none else (s.path m).open_.find? s.countDue

/-- The path with its time of refill moved on. -/
def State.refilled (s : State) (m : Bool) : State := s.setPath m { s.path m with refillAt := s.bootUs }

theorem tokenRefill_adds (hal : s.alive = true) (hlate : (s.path m).refillAt + (if m then 50 else 500) ≤ s.bootUs)
    (hprio : m = false → s.burrow.prio = []) (hno : s.refillTakes m = none) :
    exec (.tokenRefill m) s = .next ((s.refilled m).setPath m
      { (s.refilled m).path m with tokens := min (if m then 256 else 64) ((s.path m).tokens + 1) }) := by
  have hwait : (if m then [] else s.burrow.prio) = [] := by
    cases m with
    | true => rfl
    | false => exact hprio rfl
  refine (doIf_pos _ _ (by simp [hal, hlate])).trans (congrArg Host.Outcome.next ?_)
  rw [hwait]
  dsimp only
  rw [show (if m && !s.mirrorOn then none else (s.path m).open_.find? s.countDue) = none from hno]
  rfl

theorem tokenRefill_counts (hal : s.alive = true) (hlate : (s.path m).refillAt + (if m then 50 else 500) ≤ s.bootUs)
    (hprio : m = false → s.burrow.prio = []) {e : Coal} (he : s.refillTakes m = some e) :
    exec (.tokenRefill m) s = .next ((s.refilled m).commitCount m e) := by
  have hwait : (if m then [] else s.burrow.prio) = [] := by
    cases m with
    | true => rfl
    | false => exact hprio rfl
  refine (doIf_pos _ _ (by simp [hal, hlate])).trans (congrArg Host.Outcome.next ?_)
  rw [hwait]
  dsimp only
  rw [show (if m && !s.mirrorOn then none else (s.path m).open_.find? s.countDue) = some e from he]
  rfl

end

/-- Settles O44, by the lemmas of tokens, of count records and of open entries. -/
theorem burrowCommands : Obligations.BurrowCommands := by
  refine ⟨fun s r l hal hst hhalt hfl => ?_, fun s r l e hal => ⟨fun hlate => ⟨fun hno => ?_, fun hon he => ?_⟩,
    fun hlate => ⟨fun hp he => ?_, fun hp he => ?_, fun hp => ?_⟩⟩, fun s mirror code source e hal he =>
    ⟨fun ht hm hdue => ?_, fun ht hm hon hdue => ?_, decide_eq_true_iff, fun hlate hcount => ?_, fun hno => ?_⟩, fun s hv => ?_⟩
  · obtain ⟨u, hrun, hwithin, hplain⟩ := flashCommitDone_committed s r l (by simp [State.flashUp, hal, hst, hhalt]) hfl
    have hburrow : u.burrow = (s.committed r l).burrow := hwithin.block .burrow rfl
    refine ⟨u, hrun, (execFlashCommitDone_out s _ hrun).touches rfl rfl, hburrow ▸ rfl, hburrow ▸ rfl, ?_, fun hne => ?_⟩
    · rw [hburrow]
      exact keepRecs_getLast _ _ r
    · rw [hplain hne]
      exact (Frame.refl s [.burrow] []).burrow _ (by simp)
  · have hnone : s.refillTakes true = none := by
      obtain hoff | hfind := hno
      · simp [State.refillTakes, hoff]
      · simp [State.refillTakes, State.path, hfind]
    exact ⟨_, tokenRefill_adds true hal hlate (fun h => absurd h (by decide)) hnone,
      (State.setPath_frame s true _).trans (State.setPath_frame _ true _), rfl⟩
  · have hsome : s.refillTakes true = some e := by simp [State.refillTakes, State.path, hon, he]
    obtain ⟨hframe, hlast, htokens⟩ := State.commitCount_mirror (s.refilled true) e
    exact ⟨_, tokenRefill_counts true hal hlate (fun h => absurd h (by decide)) hsome,
      ((State.setPath_frame s true _).mono (by simp) (by simp)).trans hframe, htokens, hlast⟩
  · exact ⟨_, tokenRefill_adds false hal hlate (fun _ => hp) he,
      (State.setPath_frame s false _).trans (State.setPath_frame _ false _), rfl⟩
  · obtain ⟨hframe, hflight, htokens⟩ := State.commitCount_flash (s.refilled false) e
    exact ⟨_, tokenRefill_counts false hal hlate (fun _ => hp) he, (State.setPath_frame s false _).trans hframe, hflight, htokens⟩
  · refine Does.of_guard rfl (by simp [hal, State.path, hlate]) ?_
    dsimp only
    rw [if_neg (by decide), hp]
    exact ⟨(State.setPath_frame s false _).burrow _ (by simp), rfl, rfl, rfl, rfl⟩
  · subst hm
    obtain ⟨hframe, hflight, htokens⟩ := State.commitCount_flash (s.setPath false { s.path false with tokens := (s.path false).tokens - 1 }) e
    refine Does.of_guard rfl (by simp [hal, ht]) ?_
    rw [he]
    dsimp only
    rw [if_pos hdue]
    exact ⟨(State.setPath_frame s false _).trans hframe, hflight, htokens⟩
  · subst hm
    obtain ⟨hframe, hlast, htokens⟩ := State.commitCount_mirror (s.setPath true { s.path true with tokens := (s.path true).tokens - 1 }) e
    refine Does.of_guard rfl (by simp [hal, ht, hon]) ?_
    rw [he]
    dsimp only
    rw [if_pos hdue]
    exact ⟨((State.setPath_frame s true _).mono (by simp) (by simp)).trans hframe, hlast, htokens⟩
  · obtain ⟨hcode, hsource⟩ := CoalPath.entry_key he
    refine Does.of_guard rfl hal ?_
    rw [he]
    dsimp only
    rw [if_pos ⟨hlate, hcount⟩, hcode, hsource]
    refine ⟨State.setPath_frame s mirror _, ?_, ?_⟩
    · rw [State.setPath_path]
      exact CoalPath.entry_change_none _ _ _
    · rw [State.setPath_path]
      rfl
  · refine Does.of_guard rfl hal ?_
    rw [he]
    dsimp only
    exact if_neg (by omega)
  · exact Does.of_guard rfl (by rw [hv]; rfl) ⟨(Frame.refl s [.burrow] []).burrow _ (by simp), rfl⟩

end Sys2Proof.Machine
end

section
/-!
SUPPORT. Twin operation (21): roles, joins, takeover and time.
-/
namespace Sys2Proof.Machine

/-! ## Roles -/

/-- The role shown in the registers. -/
def State.showRole (s : State) (role : Nat) : State :=
  ((s.wr DEV_STAT.role 0 role).wr TWIN_STAT.role 0 role).wrBit HARP_GSTAT.obj_excl 0 (role == 2)

/-- The numbers of the fields that the act of taking a role changes, but for those that show it. -/
def roleCodes : List Nat := [3742, 3776, 3911, 4096, 5136, 5147, 5149, 5271, 5279] ++ recCodes

theorem State.showRole_role (s : State) {role : Nat} (h : role < 4) :
    (s.showRole role).rd TWIN_STAT.role 0 = role ∧ (s.showRole role).rd DEV_STAT.role 0 = role := by
  constructor
  · rw [State.showRole, State.wrBit, State.rd_wr_ne _ _ _ _ rfl, State.rd_wr_lt _ _ h]
  · rw [State.showRole, State.wrBit, State.rd_wr_ne _ _ _ _ rfl, State.rd_wr_ne _ _ _ _ rfl, State.rd_wr_lt _ _ h]

theorem State.setRole_from (s : State) (role : Nat) :
    Within [.part, .harps, .cooling, .msix, .burrow] roleCodes (s.showRole role) (s.setRole role) := by
  have hrefl := Within.refl [.part, .harps, .cooling, .msix, .burrow] roleCodes (s.showRole role)
  refine Within.step (Within.step (Within.ite (Within.each _ _ ?quiet fun z _ u hu => hu.wr _ _ _ rfl) ?quiet)
    (State.driveAll_within _) rfl) (State.harpJudge_within _) rfl
  exact Within.set_part _ (Within.ite (Within.each _ _ hrefl fun w _ u hu => (hu.step (State.setHarp_within _ _ _) rfl).wr _ _ _ rfl) hrefl) rfl

/-! ## Arbitration -/

theorem State.arbitrate_role {s : State} {p : TwinPeer} {row role : Nat} (h : s.arbitrate p = some (row, role)) : role ≤ 2 := by
  unfold State.arbitrate at h
  extract_lets me idle peerIdle strapLead lower roleOf at h
  have hrole : ∀ lead, roleOf lead ≤ 2 := by
    intro lead
    cases lead <;> decide
  clear_value roleOf
  split at h
  · cases h
    exact hrole _
  split at h
  · split at h
    · cases h
      exact hrole _
    split at h
    · cases h
      exact hrole _
    split at h
    · cases h
      exact Nat.zero_le _
    · cases h
  · cases h
    exact hrole _

/-- The row depends on the role, the groups, the Cub's words, the straps and whether groups have been driven. -/
theorem Within.arbitrate {bs : List Block} {cs : List Nat} {s t : State} (h : Within bs cs s t)
    (hb : (bs.contains .part || bs.contains .secure) = false) (hc : (!cs.contains 9566 && !cs.contains 2781) = true)
    (hdriven : t.twin.driven = s.twin.driven) (p : TwinPeer) : t.arbitrate p = s.arbitrate p := by
  simp only [Bool.or_eq_false_iff, Bool.and_eq_true] at hb hc
  have hrole : t.rd TWIN_STAT.role 0 = s.rd TWIN_STAT.role 0 := h.rd _ _ (by simpa [TWIN_STAT.role, Fld.ok] using hc.1)
  have hgroups : t.allGroupsDown = s.allGroupsDown := by
    rw [State.allGroupsDown, State.allGroupsDown, h.rd_fun (by simpa [ZIT_GSTAT.state, Fld.ok] using hc.2)]
  have hpart : t.part = s.part := h.block .part hb.1
  have hsecure : t.secure = s.secure := h.block .secure hb.2
  simp only [State.arbitrate, hrole, hgroups, hpart, hsecure, hdriven]

/-! ## A HELLO -/

/-- The peer's HELLO noted. -/
def State.helloNoted (s : State) (peer : TwinPeer) (lanes : Nat) : State :=
  ({ s with twin := { s.twin with
      peer := some peer
      frameAt := s.bootUs
      hello := if s.bit TWIN_STAT.link 0 then s.twin.hello else some s.helloFrame } }.wr TWIN_STAT.link 0 1).wr TWIN_STAT.lanes 0 (lanes + 1)

theorem State.helloNoted_within (s : State) (peer : TwinPeer) (lanes : Nat) : Within [.twin] [9552, 9565] s (s.helloNoted peer lanes) :=
  ((Within.set_twin _ (Within.refl _ _ s) rfl).wr _ _ _ rfl).wr _ _ _ rfl

theorem State.helloNoted_arbitrate (s : State) (peer : TwinPeer) (lanes : Nat) : (s.helloNoted peer lanes).arbitrate peer = s.arbitrate peer :=
  (s.helloNoted_within peer lanes).arbitrate rfl rfl rfl peer

/-- Neither joins (row 4 of Table 21-1). -/
def State.standAlone (s : State) : State := { s with twin := { s.twin with alone := true } }

/-- The roles settled by the row of Table 21-1 that applies (R485). -/
def State.settleRoles (s : State) (peer : TwinPeer) (a : TwinAdopt) : State :=
  match s.arbitrate peer with
  | none => s
  | some (row, 0) => s.standAlone.conflict peer row
  | some (row, role) => s.join peer a row role

theorem State.settleRoles_alone {s : State} {peer : TwinPeer} {row : Nat} (h : s.arbitrate peer = some (row, 0)) (a : TwinAdopt) :
    s.settleRoles peer a = s.standAlone.conflict peer row := by
  rw [State.settleRoles, h]
  rfl

theorem State.settleRoles_join {s : State} {peer : TwinPeer} {row role : Nat} (h : s.arbitrate peer = some (row, role)) (hrole : role ≠ 0)
    (a : TwinAdopt) : s.settleRoles peer a = s.join peer a row role := by
  cases role with
  | zero => exact absurd rfl hrole
  | succ n =>
    rw [State.settleRoles, h]
    rfl

section
variable {s : State} (peer : TwinPeer) (a : TwinAdopt) (lanes : Fin 4) (hlink : s.twinLink = true)
include hlink

theorem twinHello_joined (h : s.bit TWIN_STAT.joined 0 = true ∨ s.twin.alone = true) :
    exec (.twinHello peer a lanes) s = .next ((s.helloNoted peer lanes).judgeMatch false) :=
  (doIf_pos _ _ hlink).trans (congrArg Host.Outcome.next (if_pos (by simpa using h)))

theorem twinHello_settles (hj : s.bit TWIN_STAT.joined 0 = false) (ha : s.twin.alone = false) :
    exec (.twinHello peer a lanes) s = .next ((s.helloNoted peer lanes).settleRoles peer a) :=
  (doIf_pos _ _ hlink).trans (congrArg Host.Outcome.next (if_neg (by simp [hj, ha])))

end

/-! ## A join -/

/-- Sequences of CMDs, checkpoints and measurements start afresh. -/
def Twin.fresh (x : Twin) : Twin :=
  { x with nextSeq := 0, lastSeq := 0, unacked := [], mirrors := [], stepped := false, echoAt := none, leadTick := 0, alone := false }

/-- The roles settled, before the sets are compared and the shadow adopts. -/
def State.settled (s : State) (role : Nat) : State :=
  { (s.setRole role).wr TWIN_STAT.joined 0 1 with twin := ((s.setRole role).wr TWIN_STAT.joined 0 1).twin.fresh }

theorem State.settled_within (s : State) (role : Nat) :
    Within [.part, .harps, .cooling, .msix, .burrow, .twin] (9561 :: roleCodes) (s.showRole role) (s.settled role) :=
  Within.set_twin _ (((Within.refl _ _ _).step (s.setRole_from role) rfl).wr _ _ _ rfl) rfl

theorem State.settled_twin (s : State) (role : Nat) : (s.settled role).twin = s.twin.fresh := by
  have hrole : (s.setRole role).twin = s.twin := (s.setRole_from role).block .twin rfl
  rw [State.settled, State.wr_twin, hrole]

theorem State.join_from (s : State) (p : TwinPeer) (a : TwinAdopt) (row role : Nat) :
    Within [.zither, .feed, .msix, .burrow] ([2764, 2781, 3339, 3357, 3392, 9562, 9563] ++ recCodes) (s.settled role) (s.join p a row role) := by
  have hmatch : Within [.zither, .feed, .msix, .burrow] ([2764, 2781, 3339, 3357, 3392, 9562, 9563] ++ recCodes) (s.settled role)
      ((s.settled role).judgeMatch true) := (Within.refl _ _ _).step (State.judgeMatch_within _ true) rfl
  have hadopt : Within [.zither, .feed, .msix, .burrow] ([2764, 2781, 3339, 3357, 3392, 9562, 9563] ++ recCodes) (s.settled role)
      ((((s.settled role).judgeMatch true).adopt a).wr TWIN_STAT.aligned 0 0) :=
    (hmatch.step (State.adopt_within _ a) rfl).wr _ _ _ rfl
  have hrecorded := hadopt.step (State.record_within _ Ev.TWIN_JOINED Src.twin
    [2, dieDigest p.die.toNat, ((((s.settled role).judgeMatch true).adopt a).wr TWIN_STAT.aligned 0 0).rd TWIN_STAT.set_match 0]) rfl
  have hconflict := hrecorded.step (State.conflict_within _ p row) rfl
  by_cases hrole : role = 2
  · rw [State.join, if_pos hrole]
    exact Within.ite hconflict hrecorded
  · rw [State.join, if_neg hrole]
    exact hmatch

/-! ## Takeover -/

/-- The numbers of the fields that a takeover changes before it is counted, but for role, joined and aligned. -/
def takeoverCodes : List Nat :=
  [1280, 2755, 2764, 2768, 2781, 2828, 2832, 2944, 3357, 3656, 3909, 5952, 6016, 6024, 6032, 6045, 6144, 6238, 6300, 6301, 7048, 7744, 7808] ++ roleCodes

def takeoverBlocks : List Block := [.part, .engines, .settRest, .zither, .harps, .cooling, .msix, .hostRest, .ports, .wards, .burrow, .twin]

/-- No longer joined and aligned. -/
def State.unjoined (s : State) : State :=
  ({ s with twin := { s.twin with unacked := [], mirrors := [] } }.wr TWIN_STAT.joined 0 0).wr TWIN_STAT.aligned 0 0

/-- No longer joined and aligned, the role of lead shown. -/
def State.alone (s : State) : State := s.unjoined.showRole 1

theorem State.takeover_from (s : State) (cause : Nat) :
    ∃ u, Within takeoverBlocks takeoverCodes s.alone u ∧
      s.takeover cause = (u.addSat TWIN_STAT.takeovers 0 1).record Ev.TWIN_TAKEOVER Src.twin [cause] := by
  have hrole : Within takeoverBlocks takeoverCodes s.alone (s.unjoined.setRole 1) := (Within.refl _ _ _).step (s.unjoined.setRole_from 1) rfl
  refine ⟨?u, ?within, ?eq⟩
  case eq =>
    unfold State.takeover
    with_reducible exact rfl
  refine Within.each _ _ (Within.step (Within.set_part _ (Within.each _ _ hrole fun w _ u hu => ?commit) rfl) (State.leaveRamp_within _) rfl)
    fun w _ u hu => Within.ite (hu.step (State.wardFail_within _ _ _) ?fail) hu
  case fail => rfl
  case commit =>
    split
    · exact hu.step (State.avsCommit_within _ _ _) rfl
    · exact hu

theorem State.takeover_shows (s : State) (cause : Nat) :
    (s.takeover cause).rd TWIN_STAT.role 0 = 1 ∧ (s.takeover cause).rd DEV_STAT.role 0 = 1 ∧ (s.takeover cause).rd TWIN_STAT.joined 0 = 0 ∧
    (s.takeover cause).rd TWIN_STAT.aligned 0 = 0 ∧
    (s.takeover cause).rd TWIN_STAT.takeovers 0 = min (2 ^ TWIN_STAT.takeovers.width - 1) (s.rd TWIN_STAT.takeovers 0 + 1) := by
  obtain ⟨u, hu, htake⟩ := s.takeover_from cause
  have hend : Within [.msix, .burrow] (9536 :: recCodes) u (s.takeover cause) := htake ▸
    Within.step ((Within.refl _ _ _).addSat _ _ _ rfl) (State.record_within _ _ _ _) rfl
  have hrole := s.unjoined.showRole_role (role := 1) (by decide)
  have hcount : (s.takeover cause).rd TWIN_STAT.takeovers 0 = (u.addSat TWIN_STAT.takeovers 0 1).rd TWIN_STAT.takeovers 0 :=
    htake ▸ (State.record_within _ _ _ _).rd _ _ rfl
  refine ⟨?_, ?_, ?_, ?_, ?_⟩
  · exact (hend.rd _ _ rfl).trans ((hu.rd _ _ rfl).trans hrole.1)
  · exact (hend.rd _ _ rfl).trans ((hu.rd _ _ rfl).trans hrole.2)
  · rw [hend.rd _ _ rfl, hu.rd _ _ rfl, State.alone, State.showRole, State.unjoined, State.wrBit, State.rd_wr_ne _ _ _ _ rfl, State.rd_wr_ne _ _ _ _ rfl,
      State.rd_wr_ne _ _ _ _ rfl, State.rd_wr_ne _ _ _ _ rfl, State.rd_wr_lt _ _ (by decide)]
  · rw [hend.rd _ _ rfl, hu.rd _ _ rfl, State.alone, State.showRole, State.unjoined, State.wrBit, State.rd_wr_ne _ _ _ _ rfl, State.rd_wr_ne _ _ _ _ rfl,
      State.rd_wr_ne _ _ _ _ rfl, State.rd_wr_lt _ _ (by decide)]
  · rw [hcount, State.addSat_rd_same, hu.rd _ _ rfl, State.alone, State.showRole, State.unjoined, State.wrBit, State.rd_wr_ne _ _ _ _ rfl,
      State.rd_wr_ne _ _ _ _ rfl, State.rd_wr_ne _ _ _ _ rfl, State.rd_wr_ne _ _ _ _ rfl, State.rd_wr_ne _ _ _ _ rfl]
    rfl

end Sys2Proof.Machine
end

section
/-!
SUPPORT. What a HELLO leaves of the link and the twin's state (21).
-/
namespace Sys2Proof.Machine

theorem State.helloNoted_shows (s : State) (peer : TwinPeer) (lanes : Fin 4) :
    (s.helloNoted peer lanes).rd TWIN_STAT.link 0 = 1 ∧ (s.helloNoted peer lanes).rd TWIN_STAT.lanes 0 = lanes.val + 1 ∧
    (s.helloNoted peer lanes).twin.peer = some peer ∧ (s.helloNoted peer lanes).twin.frameAt = s.bootUs := by
  refine ⟨?_, State.rd_wr_lt _ _ (Nat.lt_of_lt_of_le (Nat.succ_lt_succ lanes.isLt) (by decide)), rfl, rfl⟩
  rw [State.helloNoted, State.rd_wr_ne _ _ _ _ rfl, State.rd_wr_lt _ _ (by decide)]

/-- The numbers of the fields that a join changes. -/
def joinCodes : List Nat := [2764, 2781, 3339, 3357, 3392, 6874, 9561, 9562, 9563, 9566] ++ roleCodes

theorem State.join_within_joinCodes (s : State) (p : TwinPeer) (a : TwinAdopt) (row role : Nat) :
    Within [.part, .zither, .feed, .harps, .cooling, .msix, .burrow, .twin] joinCodes s (s.join p a row role) :=
  (Within.refl _ _ s).step (State.join_within s p a row role) rfl

theorem State.join_twin (s : State) (p : TwinPeer) (a : TwinAdopt) (row role : Nat) : (s.join p a row role).twin = s.twin.fresh :=
  ((s.join_from p a row role).block .twin rfl).trans (s.settled_twin role)

theorem State.settleRoles_keeps (s : State) (peer : TwinPeer) (a : TwinAdopt) :
    (s.settleRoles peer a).rd TWIN_STAT.link 0 = s.rd TWIN_STAT.link 0 ∧ (s.settleRoles peer a).rd TWIN_STAT.lanes 0 = s.rd TWIN_STAT.lanes 0 ∧
    (s.settleRoles peer a).twin.peer = s.twin.peer ∧ (s.settleRoles peer a).twin.frameAt = s.twin.frameAt := by
  cases hrow : s.arbitrate peer with
  | none =>
    rw [State.settleRoles, hrow]
    exact ⟨rfl, rfl, rfl, rfl⟩
  | some e =>
    obtain ⟨row, role⟩ := e
    by_cases hrole : role = 0
    · subst hrole
      have hconflict := State.conflict_within s.standAlone peer row
      have htwin : (s.standAlone.conflict peer row).twin = s.standAlone.twin := hconflict.block .twin rfl
      rw [State.settleRoles_alone hrow]
      rw [htwin]
      exact ⟨hconflict.rd _ _ rfl, hconflict.rd _ _ rfl, rfl, rfl⟩
    · have hjoin := s.join_within_joinCodes peer a row role
      rw [State.settleRoles_join hrow hrole, State.join_twin]
      exact ⟨hjoin.rd _ _ rfl, hjoin.rd _ _ rfl, rfl, rfl⟩

theorem State.rd_twin (s : State) (z : Twin) (f : Fld) (i : Nat) : ({ s with twin := z } : State).rd f i = s.rd f i := rfl

theorem State.join_shows (s : State) (p : TwinPeer) (a : TwinAdopt) (row : Nat) {role : Nat} (h : role < 4) :
    (s.join p a row role).rd TWIN_STAT.role 0 = role ∧ (s.join p a row role).rd DEV_STAT.role 0 = role ∧
    (s.join p a row role).rd TWIN_STAT.joined 0 = 1 := by
  have hend := s.join_from p a row role
  have hsettled := s.settled_within role
  obtain ⟨htwin, hdev⟩ := s.showRole_role h
  refine ⟨(hend.rd _ _ rfl).trans ?_, (hend.rd _ _ rfl).trans ?_, (hend.rd _ _ rfl).trans ?_⟩
  · exact (hsettled.rd _ _ rfl).trans htwin
  · exact (hsettled.rd _ _ rfl).trans hdev
  · rw [State.settled, State.rd_twin, State.rd_wr_lt _ _ (by decide)]

/-! ## Measurements -/

theorem Frame.twin {bs : List Block} {fs : List (Fld × Nat)} {s t : State} (h : Frame bs fs s t) (z : Twin) (hb : .twin ∈ bs) :
    Frame bs fs s { t with twin := z } :=
  h.upd (fun b hn => by cases b <;> simp_all [Block.same]) rfl

theorem State.twinHeard_frame (s : State) : Frame [.twin] [] s s.twinHeard := (Frame.refl s [.twin] []).twin _ (by simp)

theorem State.measure_frame (s : State) (o : Int) : Frame [.twin] [(TWIN_SKEW.last, 0), (TWIN_SKEW.largest, 0)] s (s.measure o) :=
  (((Frame.refl s _ _).twin _ (by simp)).wr _ _ _ (by simp)).wr _ _ _ (by simp)

theorem State.measure_twin (s : State) (o : Int) : (s.measure o).twin = { s.twin with
    echoAt := some s.bootUs
    skew := o
    largest := if s.twin.largest.natAbs < o.natAbs then o else s.twin.largest
    slew := if s.twin.stepped then openQuot o 2 else 0 } := rfl

/-- The tray tick stepped by a first measurement, before its record (R489). -/
def State.stepTick (s : State) (o : Int) : State :=
  let tick := ((s.tick : Int) + o / 800).toNat
  ({ s with tick, twin := { s.twin with stepped := true } }.wr TWIN_STAT.aligned 0 1).wr TWIN_OFFSET.offset 0 (low 64 ((tick : Int) - s.bootUs))

theorem low_lt (w : Nat) (i : Int) : low w i < 2 ^ w := by
  have hpos : (0 : Int) < 2 ^ w := Int.pow_pos (by decide)
  have hlt := Int.emod_lt_of_pos i hpos
  rw [low, Int.toNat_lt (Int.emod_nonneg _ (Int.ne_of_gt hpos))]
  exact_mod_cast hlt

theorem State.stepTick_shows (s : State) (o : Int) :
    (s.stepTick o).rd TWIN_STAT.aligned 0 = 1 ∧ (s.stepTick o).rd TWIN_OFFSET.offset 0 = low 64 ((s.stepTick o).tick - s.bootUs : Int) := by
  constructor
  · rw [State.stepTick, State.rd_wr_ne _ _ _ _ rfl, State.rd_wr_lt _ _ (by decide)]
  · exact State.rd_wr_lt _ _ (low_lt 64 _)

/-- Settles O45, by what a HELLO, a join, a takeover and a measurement show. -/
theorem twinJoinAndTime : Obligations.TwinJoinAndTime := by
  refine ⟨fun s peer a lanes hlink => ⟨?hello, fun hj => ?joined, fun hj ha row role hrow => ⟨fun hrole => ?joins, fun hrole => ?alone⟩⟩,
    fun s from_ htw hfw hsh hj hfrom hlate => ?timeout, fun s cause => s.takeover_shows cause, fun s tick hlink hsh hj => ?tick,
    fun s t1 t2 t3 t4 o hlink hj ho => ⟨fun hsh => ?lead, fun hsh hstep => ?slews, fun hsh hstep => ?steps⟩,
    fun s from_ htw hsh hal hecho hlate => ?lost⟩
  case hello =>
    obtain ⟨hl, hn, hp, hf⟩ := s.helloNoted_shows peer lanes
    by_cases hj : s.bit TWIN_STAT.joined 0 = true ∨ s.twin.alone = true
    · have hmatch := State.judgeMatch_within (s.helloNoted peer lanes) false
      have htwin : ((s.helloNoted peer lanes).judgeMatch false).twin = (s.helloNoted peer lanes).twin := hmatch.block .twin rfl
      exact ⟨_, twinHello_joined peer a lanes hlink hj, (hmatch.rd _ _ rfl).trans hl, (hmatch.rd _ _ rfl).trans hn, htwin ▸ hp, htwin ▸ hf⟩
    · simp only [not_or, Bool.not_eq_true] at hj
      obtain ⟨kl, kn, kp, kf⟩ := (s.helloNoted peer lanes).settleRoles_keeps peer a
      exact ⟨_, twinHello_settles peer a lanes hlink hj.1 hj.2, kl.trans hl, kn.trans hn, kp.trans hp, kf.trans hf⟩
  case joined =>
    exact ⟨_, twinHello_joined peer a lanes hlink hj,
      (((Within.refl [.twin, .msix, .burrow] (9552 :: 9562 :: 9565 :: recCodes) s).step (s.helloNoted_within peer lanes) rfl).step
        (State.judgeMatch_within _ false) rfl).touches rfl rfl⟩
  case joins =>
    rw [← s.helloNoted_arbitrate peer lanes] at hrow
    obtain ⟨htwinRole, hdevRole, hjoined⟩ := (s.helloNoted peer lanes).join_shows peer a row
      (Nat.lt_of_le_of_lt (State.arbitrate_role hrow) (by decide))
    have htwin := (s.helloNoted peer lanes).join_twin peer a row role
    refine ⟨_, twinHello_settles peer a lanes hlink hj ha, ?_⟩
    rw [State.settleRoles_join hrow hrole]
    dsimp only
    rw [htwin]
    exact ⟨htwinRole, hdevRole, hjoined, rfl, rfl, rfl, rfl⟩
  case alone =>
    subst hrole
    rw [← s.helloNoted_arbitrate peer lanes] at hrow
    have hnoted := s.helloNoted_within peer lanes
    have hconflict := State.conflict_within (s.helloNoted peer lanes).standAlone peer row
    have htwin : ((s.helloNoted peer lanes).standAlone.conflict peer row).twin = (s.helloNoted peer lanes).standAlone.twin :=
      hconflict.block .twin rfl
    refine ⟨_, twinHello_settles peer a lanes hlink hj ha, ?_⟩
    rw [State.settleRoles_alone hrow]
    dsimp only
    rw [htwin]
    refine ⟨rfl, (hconflict.rd _ _ rfl).trans ((hnoted.rd _ _ rfl).trans ?_), (hconflict.rd _ _ rfl).trans (hnoted.rd _ _ rfl)⟩
    simpa [State.bit] using hj
  case timeout =>
    exact Does.of_guard rfl (by simp [htw, hfw, hsh, hj, hfrom, hlate]) rfl
  case tick => exact Does.of_guard rfl (by simp [hlink, hsh, hj]) ⟨s.twinHeard_frame.twin _ (by simp), rfl⟩
  case lead =>
    refine Does.of_guard rfl (by simp [hlink, hj]) ?_
    rw [if_pos (by simp [hsh])]
    exact ⟨s.twinHeard_frame, rfl⟩
  case slews =>
    refine Does.of_guard rfl (by simp [hlink, hj]) ?_
    rw [if_neg (by simp [hsh]), ← ho]
    dsimp only
    rw [if_pos (show (s.twinHeard.measure o).twin.stepped = true from hstep)]
    have hframe : Frame [.twin] [(TWIN_SKEW.last, 0), (TWIN_SKEW.largest, 0), (TWIN_STAT.aligned, 0)] s (s.twinHeard.measure o) :=
      (s.twinHeard_frame.mono (by simp) (by simp)).trans ((s.twinHeard.measure_frame o).mono (by simp) (by simp))
    have hslew : (s.twinHeard.measure o).twin.slew = openQuot o 2 := if_pos hstep
    have hkept : (s.twinHeard.measure o).rd TWIN_STAT.aligned 0 = s.rd TWIN_STAT.aligned 0 := by
      rw [State.measure, State.rd_wr_ne _ _ _ _ rfl, State.rd_wr_ne _ _ _ _ rfl, State.rd_twin]
      rfl
    by_cases hnear : o.natAbs ≤ 80
    · rw [if_pos hnear, if_pos hnear]
      exact ⟨hframe.wr _ _ _ (by simp), rfl, rfl, hslew, State.rd_wr_lt _ _ (by decide)⟩
    · rw [if_neg hnear, if_neg hnear]
      exact ⟨hframe, rfl, rfl, hslew, hkept⟩
  case steps =>
    have hrun : exec (.echoExchange t1 t2 t3 t4) s = .next (((s.twinHeard.measure o).stepTick o).record Ev.TWIN_ALIGNED Src.twin
        [low 64 (((s.twinHeard.measure o).stepTick o).tick - (s.twinHeard.measure o).bootUs : Int)]) := by
      refine (doIf_pos _ _ (by simp [hlink, hj])).trans (congrArg Host.Outcome.next ?_)
      rw [if_neg (by simp [hsh]), ← ho]
      exact if_neg (by rw [show (s.twinHeard.measure o).twin.stepped = false from hstep]; decide)
    obtain ⟨haligned, hoffset⟩ := (s.twinHeard.measure o).stepTick_shows o
    have hslew : (s.twinHeard.measure o).twin.slew = 0 := if_neg (by rw [show s.twinHeard.twin.stepped = false from hstep]; decide)
    have hrecord := State.record_within ((s.twinHeard.measure o).stepTick o) Ev.TWIN_ALIGNED Src.twin
      [low 64 (((s.twinHeard.measure o).stepTick o).tick - (s.twinHeard.measure o).bootUs : Int)]
    refine ⟨_, hrun, (execEchoExchange_out t1 t2 t3 t4 s _ hrun).touches rfl rfl, ?_⟩
    rw [State.record_tick, State.record_twin, hrecord.rd TWIN_STAT.aligned 0 rfl, hrecord.rd TWIN_OFFSET.offset 0 rfl]
    exact ⟨rfl, haligned, rfl, hslew, hoffset⟩
  case lost => exact ⟨_, doIf_pos _ _ (by simp [htw, hsh, hal, hecho, hlate]), (Frame.refl s _ _).wr _ _ _ (by simp), s.rd_wr_lt (f := TWIN_STAT.aligned) 0 (by decide)⟩

end Sys2Proof.Machine
end

section
/-!
SUPPORT. Commands between the twins, silence and staggered activation (21).
-/
namespace Sys2Proof.Machine

/-! ## Taking a CMD -/

theorem State.takeCmd_frame (s : State) (seq : Nat) : Frame [.twin] [] s (s.takeCmd seq) := by
  have hheard := s.twinHeard_frame
  unfold State.takeCmd
  dsimp only
  split
  · exact hheard.twin _ (by simp)
  split
  · exact hheard.twin _ (by simp)
  · exact hheard

theorem State.takeCmd_next (s : State) :
    s.takeCmd s.twin.lastSeq = { s with twin := { s.twin with
      frameAt := s.bootUs
      lastSeq := (s.twin.lastSeq + 1) % 65536
      ackOut := some s.twin.lastSeq } } :=
  if_pos (by omega)

theorem State.takeCmd_other (s : State) {seq : Nat} (hseq : seq < 65536) (hlast : s.twin.lastSeq < 65536) (hne : seq ≠ s.twin.lastSeq) :
    (s.takeCmd seq).twin = { s.twin with
      frameAt := s.bootUs
      ackOut := if (s.twin.lastSeq + 65536 - seq) % 65536 ≤ 32768 then some seq else s.twin.ackOut } := by
  unfold State.takeCmd
  dsimp only
  rw [if_neg (by omega)]
  (repeat' split) <;> rfl

section
variable {s : State} (seq : BitVec 16) (c : TwinCmd) (held : Option Signed)

theorem twinCommand_applies (hlink : s.twinLink = true) (hj : s.bit TWIN_STAT.joined 0 = true) (hseq : seq.toNat = s.twin.lastSeq) :
    exec (.twinCommand seq c held) s = .next ((s.takeCmd seq.toNat).applyCmd c (held.bind parseManifest)) :=
  (doIf_pos _ _ (by simp [hlink, hj])).trans (congrArg Host.Outcome.next (if_pos hseq))

theorem twinCommand_acknowledges (hlink : s.twinLink = true) (hj : s.bit TWIN_STAT.joined 0 = true) (hseq : seq.toNat ≠ s.twin.lastSeq) :
    exec (.twinCommand seq c held) s = .next (s.takeCmd seq.toNat) :=
  (doIf_pos _ _ (by simp [hlink, hj])).trans (congrArg Host.Outcome.next (if_neg hseq))

theorem State.takeCmd_shadow (hsh : s.shadow_ = true) (seq : Nat) : (s.takeCmd seq).shadow_ = true := by
  rw [State.shadow_, (s.takeCmd_frame seq).2 TWIN_STAT.role 0 (by simp)]
  exact hsh

end

/-! ## What a CMD does on a shadow (R492) -/

section
variable {s : State} (w : Fin 8) (held : Option Manifest)

theorem State.applyCmd_ward (hsh : s.shadow_ = true) (st : BitVec 4) (att : BitVec 8) :
    s.applyCmd (.ward w st att) held = s.setWard w { s.ward w with state := st.toNat, attempts := att.toNat } := if_pos hsh

theorem State.applyCmd_floor (hsh : s.shadow_ = true) (code : BitVec 2) :
    s.applyCmd (.floor w code) held = (s.wr HARP_WCTL.floor w code.toNat).harpJudge := if_pos hsh

theorem State.applyCmd_handover (hsh : s.shadow_ = true) : s.applyCmd .handover held = s.takeover 1 := if_pos hsh

theorem State.applyCmd_cancel : Within [.secure, .msix, .burrow] recCodes s (s.applyCmd .cancel held) ∧ (s.applyCmd .cancel held).secure.armed = none := by
  unfold State.applyCmd
  dsimp only
  split
  · exact ⟨(Within.set_secure _ (Within.refl _ _ s) rfl).step (State.record_within _ _ _ _) rfl, congrArg Secure.armed (State.record_secure ..)⟩
  · exact ⟨Within.refl _ _ s, ‹_›⟩

end

/-! ## Silence (R494) -/

/-- The link shown as down. -/
def State.linkDown (s : State) : State := (s.wr TWIN_STAT.link 0 0).wr TWIN_STAT.lanes 0 0

theorem State.linkDown_frame (s : State) : Frame [] [(TWIN_STAT.link, 0), (TWIN_STAT.lanes, 0)] s s.linkDown :=
  ((Frame.refl s _ _).wr _ _ _ (by simp)).wr _ _ _ (by simp)

theorem State.linkDown_link (s : State) : s.linkDown.rd TWIN_STAT.link 0 = 0 := by
  rw [State.linkDown, State.rd_wr_ne _ _ _ _ rfl, State.rd_wr_lt _ _ (by decide)]

section
variable {s : State} (hup : (s.twinned && s.settUp && s.bit TWIN_STAT.joined 0) = true)
include hup

theorem twinSilence_shadow (hsh : s.shadow_ = true) (hf : s.twin.frameAt + s.rd TWIN_CTL.silence 0 ≤ s.bootUs)
    (he : s.twin.edgeAt + s.rd TWIN_CTL.silence 0 ≤ s.bootUs) : exec .twinSilence s = .next (s.linkDown.takeover 0) := by
  refine (doIf_pos _ _ hup).trans (congrArg Host.Outcome.next ((if_pos hsh).trans (if_pos ?_)))
  simp [hf, he]

theorem twinSilence_link (hsh : s.shadow_ = true) (hf : s.twin.frameAt + s.rd TWIN_CTL.silence 0 ≤ s.bootUs)
    (he : s.bootUs < s.twin.edgeAt + s.rd TWIN_CTL.silence 0) (hl : s.bit TWIN_STAT.link 0 = true) :
    exec .twinSilence s = .next (s.linkDown.record Ev.TWIN_LINK_DOWN Src.twin [s.rd TWIN_STAT.lanes 0]) := by
  refine (doIf_pos _ _ hup).trans (congrArg Host.Outcome.next ((if_pos hsh).trans ((if_neg ?_).trans (if_pos ?_))))
  · simp [he]
  · simp [hf, hl]

theorem twinSilence_edges (hsh : s.shadow_ = true) (hf : s.bootUs < s.twin.frameAt + s.rd TWIN_CTL.silence 0)
    (he : s.twin.edgeAt + s.rd TWIN_CTL.silence 0 ≤ s.bootUs) (ha : s.twin.alvLost = false) :
    exec .twinSilence s = .next ({ s with twin := { s.twin with alvLost := true } }.record Ev.TWIN_ALV_LOST Src.twin [s.bootUs - s.twin.edgeAt]) := by
  refine (doIf_pos _ _ hup).trans (congrArg Host.Outcome.next ((if_pos hsh).trans ((if_neg ?_).trans ((if_neg ?_).trans (if_pos ?_)))))
  · simp [Nat.not_le.mpr hf]
  · simp [Nat.not_le.mpr hf]
  · simp [he, ha]

theorem twinSilence_leadLink (hsh : s.shadow_ = false) (hf : s.twin.frameAt + s.rd TWIN_CTL.silence 0 ≤ s.bootUs)
    (he : s.bootUs < s.twin.edgeAt + s.rd TWIN_CTL.silence 0) : exec .twinSilence s = .next s.linkDown := by
  refine (doIf_pos _ _ hup).trans (congrArg Host.Outcome.next ((if_neg ?_).trans ((if_neg ?_).trans (if_pos ?_))))
  · simp [hsh]
  · simp [he]
  · simp [hf]

theorem twinSilence_peer (hsh : s.shadow_ = false) (hf : s.twin.frameAt + s.rd TWIN_CTL.silence 0 ≤ s.bootUs)
    (he : s.twin.edgeAt + s.rd TWIN_CTL.silence 0 ≤ s.bootUs) :
    exec .twinSilence s = .next ({ s.linkDown.wr TWIN_STAT.joined 0 0 with twin := { s.twin with unacked := [] } }.record Ev.TWIN_PEER_LOST Src.twin
      [s.bootUs - max s.twin.frameAt s.twin.edgeAt]) := by
  refine (doIf_pos _ _ hup).trans (congrArg Host.Outcome.next ((if_neg ?_).trans (if_pos ?_)))
  · simp [hsh]
  · simp [hf, he]

end

/-! ## Staggered activation (R501) -/

theorem State.leadArmed_some {s : State} {a : Armed} {since : Nat} (ha : s.secure.armed = some a) (hfull : a.full = true)
    (hsince : a.shadowAt = some since) : s.leadArmed = some (a, since) := by
  simp [State.leadArmed, ha, hfull, hsince]

theorem State.cancelArmed_secure (s : State) (cause : Nat) : (s.cancelArmed cause).secure = { s.secure with armed := none } := by
  unfold State.cancelArmed
  split
  · rw [(State.tellTwin_within _ _).block .secure rfl, State.record_secure]
  · rename_i hnone
    rw [← hnone]

/-- Settles O46, by the lemmas of a CMD's turn and of what it does, and the guards of silence and activation. -/
theorem twinCommands : Obligations.TwinCommands := by
  refine ⟨fun s c hlink hsh hj => ⟨fun hm => ?_, fun hm => ?_⟩,
    fun s seq c held hlink hj => ⟨fun hseq => ?next, fun hseq hlast => ?other, fun w st att hc hseq hsh => ?ward, fun w code hc hseq hsh => ?floor,
      fun hc hseq => ?cancel⟩,
    fun s seq hlink hj => ⟨?cack, ?resend, fun hsh hseq => ?handover⟩,
    fun s n htw hsett hj hn => ⟨fun hsh hf he => ?both, fun hsh hf he hl => ?link, fun hsh hf he ha => ?edges, fun hsh hf he => ?leadLink,
      fun hsh hf he => ?peer⟩,
    fun s a since hfw harmed hfull hsince => ⟨fun hlead hset => ?activates, fun hrole hlate => ?timeout⟩⟩
  · refine Does.of_guard rfl (by simp [hlink, hsh, hj]) ?_
    rw [if_pos hm]
    exact ⟨s.twinHeard_frame.twin _ (by simp), rfl⟩
  · refine Does.of_guard rfl (by simp [hlink, hsh, hj]) ?_
    rw [if_neg (by rw [hm]; decide)]
    exact ⟨s.twinHeard_frame, rfl⟩
  case next =>
    refine ⟨_, twinCommand_applies seq c held hlink hj hseq, s.takeCmd_frame _, ?_⟩
    rw [hseq, s.takeCmd_next]
  case other => exact ⟨_, twinCommand_acknowledges seq c held hlink hj hseq, s.takeCmd_frame _, s.takeCmd_other seq.isLt hlast hseq⟩
  case ward =>
    subst hc
    have hrun := twinCommand_applies seq (.ward w st att) held hlink hj hseq
    rw [State.applyCmd_ward w _ (State.takeCmd_shadow hsh _)] at hrun
    refine ⟨_, hrun, ((s.takeCmd_frame _).mono (by simp) (by simp)).wards _ (by simp), ?_⟩
    rw [State.setWard_ward_same]
    exact ⟨rfl, rfl⟩
  case floor =>
    subst hc
    have hrun := twinCommand_applies seq (.floor w code) held hlink hj hseq
    rw [State.applyCmd_floor w _ (State.takeCmd_shadow hsh _)] at hrun
    refine ⟨_, hrun, (Within.step (bs := [.twin, .harps, .msix, .burrow]) (cs := 3656 :: 3742 :: 3776 :: recCodes)
      (((Within.refl _ _ s).step (State.takeCmd_within s seq.toNat) rfl).wr _ _ _ rfl) (State.harpJudge_within _) rfl).touches rfl rfl, ?_⟩
    rw [(State.harpJudge_within _).rd _ _ rfl, State.rd_wr_lt _ _ code.isLt]
  case cancel =>
    subst hc
    obtain ⟨hwithin, harmed⟩ := State.applyCmd_cancel (s := s.takeCmd seq.toNat) (held.bind parseManifest)
    exact ⟨_, twinCommand_applies seq .cancel held hlink hj hseq,
      (Within.step (bs := [.twin, .secure, .msix, .burrow]) (cs := recCodes) ((Within.refl _ _ s).step (State.takeCmd_within s seq.toNat) rfl) hwithin rfl).touches rfl rfl, harmed⟩
  case cack => exact Does.of_guard rfl (by simp [hlink, hj]) ⟨s.twinHeard_frame.twin _ (by simp), rfl⟩
  case resend => exact Does.of_guard rfl (by simp [hlink, hj]) ⟨(Frame.refl s _ _).twin _ (by simp), rfl⟩
  case handover =>
    exact Does.of_guard rfl (by simp [hlink, hsh, hj, hseq]) (State.applyCmd_handover _ (State.takeCmd_shadow hsh _))
  case both =>
    subst hn
    exact ⟨_, twinSilence_shadow (by simp [htw, hsett, hj]) hsh hf he, rfl⟩
  case link =>
    subst hn
    exact ⟨_, twinSilence_link (by simp [htw, hsett, hj]) hsh hf he hl, s.linkDown_frame, s.linkDown_link⟩
  case edges =>
    subst hn
    exact ⟨_, twinSilence_edges (by simp [htw, hsett, hj]) hsh hf he ha, (Frame.refl s _ _).twin _ (by simp), rfl⟩
  case leadLink =>
    subst hn
    exact ⟨_, twinSilence_leadLink (by simp [htw, hsett, hj]) hsh hf he, s.linkDown_frame, s.linkDown_link⟩
  case peer =>
    subst hn
    refine ⟨_, twinSilence_peer (by simp [htw, hsett, hj]) hsh hf he,
      ((s.linkDown_frame.mono (by simp) (by simp)).wr _ _ _ (by simp)).twin _ (by simp), ?_, rfl⟩
    rw [State.rd_twin, State.rd_wr_lt _ _ (by decide)]
  case activates =>
    refine ⟨_, (doIf_pos _ _ (by simp [hfw, hlead])).trans (congrArg Host.Outcome.next ?_), rfl⟩
    rw [State.leadArmed_some harmed hfull hsince]
    exact if_pos hset
  case timeout =>
    have hrun : exec .twinActivationTimeout s = .next (s.cancelArmed 3) := by
      refine (doIf_pos _ _ (by simp [hfw, hrole])).trans (congrArg Host.Outcome.next ?_)
      rw [State.leadArmed_some harmed hfull hsince]
      exact if_pos hlate
    refine ⟨_, hrun, (execTwinActivationTimeout_out s _ hrun).touches rfl rfl, ?_⟩
    rw [State.cancelArmed_secure]
    exact ⟨rfl, rfl⟩

end Sys2Proof.Machine
end

section
/-!
SUPPORT. The flight recorder (17): bytes of in-package memory, segments, triggers and the end of the post-trigger span.
-/
namespace Sys2Proof.Machine

/-! ## Bytes -/

theorem putBytes_get (m : Tab Byte) (a : Nat) (l : List Byte) (k : Nat) :
    Tab.get 0 (putBytes m a l) k = if a ≤ k ∧ k < a + l.length then l.getD (k - a) 0 else Tab.get 0 m k := by
  induction l generalizing m a with
  | nil => rw [putBytes, if_neg (by simp only [List.length_nil]; omega)]
  | cons b l ih =>
    rw [putBytes, ih, List.length_cons]
    by_cases hk : k = a
    · subst hk
      rw [if_neg (by omega), if_pos (by omega), Tab.get_set_same, Nat.sub_self]
      rfl
    · rw [Tab.get_set_ne _ _ _ _ (Ne.symm hk)]
      by_cases hin : a ≤ k ∧ k < a + (l.length + 1)
      · rw [if_pos hin, if_pos (by omega), show k - a = (k - (a + 1)) + 1 by omega, List.getD_cons_succ]
      · rw [if_neg hin, if_neg (by omega)]

theorem State.setHbm_byte (s : State) (a : Nat) (l : List Byte) (k : Nat) :
    (s.setHbm a l).hbmByte k = if a ≤ k ∧ k < a + l.length then l.getD (k - a) 0 else s.hbmByte k := putBytes_get _ _ _ _

/-- What a filter drops reads as the default. -/
theorem Tab.get_filter_dropped {α : Type} (d : α) (p : Nat × α → Bool) (t : Tab α) (k : Nat) (h : ∀ v, p (k, v) = false) :
    Tab.get d (t.filter p) k = d := by
  refine Tab.get_of_not_mem d _ fun hmem => ?_
  obtain ⟨⟨j, v⟩, hjv, rfl⟩ := List.mem_map.mp hmem
  exact absurd (List.mem_filter.mp hjv).2 (by rw [h]; decide)

/-! ## Segments -/

theorem State.segHeader_length (s : State) : s.segHeader.length = 64 := by simp [State.segHeader, leBytes]

theorem State.segBegin_byte (s : State) (t k : Nat) :
    (s.segBegin t).hbmByte k = if s.segOffset t ≤ k ∧ k < s.segOffset t + segBytes then 0 else s.hbmByte k := by
  have hfirst : s.segOffset (t / 64 * 64) = s.segOffset t := by
    rw [State.segOffset, State.segOffset, Nat.mul_div_cancel _ (by decide)]
  unfold State.segBegin
  dsimp only
  rw [hfirst]
  split
  · rename_i hin
    exact Tab.get_filter_dropped _ _ _ _ fun v => by simp [hin]
  · rename_i hout
    exact Tab.get_filter _ _ _ _ fun v => by simp; omega

theorem State.segBegin_segTick (s : State) (t : Nat) : (s.segBegin t).recorder.segTick = t / 64 * 64 := rfl
theorem State.segBegin_seq (s : State) (t : Nat) : (s.segBegin t).recorder.seq = s.recorder.seq := rfl
theorem State.segBegin_releaseDue (s : State) (t : Nat) : (s.segBegin t).recorder.releaseDue = s.recorder.releaseDue := rfl
theorem State.segEnd_seq (s : State) : s.segEnd.recorder.seq = s.recorder.seq + 1 := rfl

theorem State.segEnd_byte (s : State) (k : Nat) : s.segEnd.hbmByte k =
    if s.segOffset s.recorder.segTick ≤ k ∧ k < s.segOffset s.recorder.segTick + 64
      then s.segHeader.getD (k - s.segOffset s.recorder.segTick) 0 else s.hbmByte k := by
  rw [← s.segHeader_length]
  exact s.setHbm_byte _ _ k

theorem State.segEnd_segOffset (s : State) (t : Nat) : s.segEnd.segOffset t = s.segOffset t := by
  have hpart : s.segEnd.part = s.part := s.segEnd_within.block .part rfl
  rw [State.segOffset, State.segOffset, State.segments, State.segments, hpart]

/-- Segments do not overlap. -/
theorem State.segOffset_apart (s : State) {a b : Nat} (h : s.segOffset a ≠ s.segOffset b) :
    s.segOffset a + segBytes ≤ s.segOffset b ∨ s.segOffset b + segBytes ≤ s.segOffset a := by
  simp only [State.segOffset, segBytes] at h ⊢
  omega

theorem Frame.recorder {bs : List Block} {fs : List (Fld × Nat)} {s t : State} (h : Frame bs fs s t) (z : Recorder)
    (hb : .recorderRest ∈ bs) (hm : .hbm ∈ bs ∨ z.hbm = t.recorder.hbm) : Frame bs fs s { t with recorder := z } :=
  h.upd (fun b hn => by cases b <;> simp_all [Block.same]) rfl

theorem State.segBegin_frame (s : State) (t : Nat) : Frame [.hbm, .recorderRest] [] s (s.segBegin t) :=
  (Frame.refl s _ _).recorder _ (by simp) (Or.inl (by simp))

theorem State.segEnd_frame (s : State) : Frame [.hbm, .recorderRest] [] s s.segEnd :=
  ((Frame.refl s _ _).recorder _ (by simp) (Or.inl (by simp))).recorder _ (by simp) (Or.inl (by simp))

theorem State.rd_recorder (s : State) (z : Recorder) (f : Fld) (i : Nat) : ({ s with recorder := z } : State).rd f i = s.rd f i := rfl

/-- A segment missed in FROZEN, and the release taking effect. -/
def State.released (s : State) : State :=
  { s.addSat REC_MISSED.missed 0 1 with recorder := { s.recorder with releaseDue := false } }.wr REC_STAT.state 0 0

theorem State.released_frame (s : State) : Frame [.hbm, .recorderRest] [(REC_STAT.state, 0), (REC_MISSED.missed, 0)] s s.released :=
  (((Frame.refl s _ _).addSat _ _ _ (by simp)).recorder _ (by simp) (Or.inl (by simp))).wr _ _ _ (by simp)

theorem State.released_shows (s : State) : s.released.rd REC_STAT.state 0 = 0 ∧
    s.released.rd REC_MISSED.missed 0 = min 4294967295 (s.rd REC_MISSED.missed 0 + 1) := by
  refine ⟨State.rd_wr_lt _ _ (by decide), ?_⟩
  rw [State.released, State.rd_wr_ne _ _ _ _ rfl, State.rd_recorder, State.addSat_rd_same]
  rfl

/-! ## A boundary (R413, R415, R420) -/

section
variable {s : State} (hup : s.coreUp = true) (htrained : s.recorder.trained = true) (hover : s.recorder.segTick + 64 ≤ s.tick)
  (hlast : s.lastSegment = false)
include hup htrained hover hlast

theorem segmentComplete_writes (hstate : s.rd REC_STAT.state 0 ≤ 1) : exec .segmentComplete s = .next (s.segEnd.segBegin s.tick) :=
  (doIf_pos _ _ (by simp [hup, htrained, hover, hlast])).trans (congrArg Host.Outcome.next (if_pos (by simp [State.recWrites, hup, hstate])))

theorem segmentComplete_frozen (hstate : s.rd REC_STAT.state 0 = 2) :
    exec .segmentComplete s = .next (if s.recorder.releaseDue then
      s.released.segBegin s.tick
    else { s.addSat REC_MISSED.missed 0 1 with recorder := { s.recorder with segTick := s.tick / 64 * 64 } }) :=
  (doIf_pos _ _ (by simp [hup, htrained, hover, hlast])).trans (congrArg Host.Outcome.next
    ((if_neg (by simp [State.recWrites, hstate])).trans (if_pos hstate)))

end

/-! ## Triggers (R418) -/

section
variable {s : State} (hfw : s.fwUp = true)
include hfw

theorem recTrigger_again (hsame : s.sameTrigger = true) : exec .recTrigger s = .next (if 1 < s.rd REC_STAT.src 0 then
    ({ s with recorder := { s.recorder with post := s.rd REC_CTL.post_ms 0 } }.wr REC_STAT.src 0 1).wr REC_STAT.rule 0 0 else s) := by
  refine (doIf_pos _ _ hfw).trans (congrArg Host.Outcome.next ?_)
  unfold State.recTrigger
  rw [if_neg (by rw [State.coreUp_of_fwUp hfw]; decide), if_pos hsame]

theorem recTrigger_later (hsame : s.sameTrigger = false) (hstate : s.rd REC_STAT.state 0 = 1 ∨ s.rd REC_STAT.state 0 = 2) :
    exec .recTrigger s = .next (s.addSat REC_STAT.more 0 1) := by
  refine (doIf_pos _ _ hfw).trans (congrArg Host.Outcome.next ?_)
  unfold State.recTrigger
  rw [if_neg (by rw [State.coreUp_of_fwUp hfw]; decide), if_neg (by rw [hsame]; decide)]
  obtain hstate | hstate := hstate
  · rw [hstate]
    rfl
  · rw [hstate]
    rfl

theorem recTrigger_off (hstate : s.rd REC_STAT.state 0 = 3) : exec .recTrigger s = .next s := by
  refine (doIf_pos _ _ hfw).trans (congrArg Host.Outcome.next ?_)
  unfold State.recTrigger
  rw [if_neg (by rw [State.coreUp_of_fwUp hfw]; decide), if_neg (by simp [State.sameTrigger, hstate]), hstate]
  rfl

end

/-- The recorder in POST, before the trigger's record. -/
def State.posted (s : State) : State :=
  let u := ((((s.wr REC_STAT.state 0 1).wr REC_TTICK.tick 0 s.tick).wr REC_STAT.src 0 1).wr REC_STAT.rule 0 0).wr REC_STAT.more 0 0
  { u with recorder := { u.recorder with post := s.rd REC_CTL.post_ms 0, trigAt := some (s.tick - s.recorder.segTick) } }

theorem recTrigger_starts {s : State} (hfw : s.fwUp = true) (hstate : s.rd REC_STAT.state 0 = 0) :
    exec .recTrigger s = .next (s.posted.record Ev.INT_REC_TRIGGER Src.memory [s.tick, 1, 0]) := by
  refine (doIf_pos _ _ hfw).trans (congrArg Host.Outcome.next ?_)
  unfold State.recTrigger
  rw [if_neg (by rw [State.coreUp_of_fwUp hfw]; decide), if_neg (by simp [State.sameTrigger, hstate]), hstate]
  rfl

theorem State.posted_shows (s : State) : s.posted.rd REC_STAT.state 0 = 1 ∧ s.posted.rd REC_STAT.src 0 = 1 ∧ s.posted.rd REC_STAT.rule 0 = 0 ∧
    s.posted.rd REC_STAT.more 0 = 0 ∧ s.posted.rd REC_TTICK.tick 0 = s.tick % 2 ^ 64 := by
  unfold State.posted
  dsimp only
  simp only [State.rd_recorder]
  refine ⟨?_, ?_, ?_, State.rd_wr_lt _ _ (by decide), ?_⟩
  · rw [State.rd_wr_ne _ _ _ _ rfl, State.rd_wr_ne _ _ _ _ rfl, State.rd_wr_ne _ _ _ _ rfl, State.rd_wr_ne _ _ _ _ rfl,
      State.rd_wr_lt _ _ (by decide)]
  · rw [State.rd_wr_ne _ _ _ _ rfl, State.rd_wr_ne _ _ _ _ rfl, State.rd_wr_lt _ _ (by decide)]
  · rw [State.rd_wr_ne _ _ _ _ rfl, State.rd_wr_lt _ _ (by decide)]
  · rw [State.rd_wr_ne _ _ _ _ rfl, State.rd_wr_ne _ _ _ _ rfl, State.rd_wr_ne _ _ _ _ rfl, State.rd_wr_same]
    rfl

/-! ## The end of the post-trigger span (R419) -/

/-- The last segment complete and its record made. -/
def State.freezes (s : State) : State :=
  (s.segEnd.wr REC_STAT.state 0 2).record Ev.INT_REC_FROZEN Src.memory [s.rd REC_TTICK.tick 0, s.recorder.post]

/-- The recorder FROZEN, before a RECORDER_FREEZE that waits completes. -/
def State.frozen (s : State) : State :=
  { s.freezes with recorder := { s.freezes.recorder with segTick := s.tick / 64 * 64, freezer := none } }

theorem State.freezes_within (s : State) : Within [.msix, .hbm, .recorderRest, .burrow] (8094 :: recCodes) s s.freezes :=
  (((Within.refl _ _ s).step s.segEnd_within rfl).wr _ _ _ rfl).step (State.record_within _ _ _ _) rfl

theorem State.frozen_within (s : State) : Within [.msix, .hbm, .recorderRest, .burrow] (8094 :: recCodes) s s.frozen :=
  Within.set_recRest _ s.freezes_within rfl rfl

theorem State.frozen_state (s : State) : s.frozen.rd REC_STAT.state 0 = 2 := by
  rw [State.frozen, State.rd_recorder, State.freezes, (State.record_within _ _ _ _).rd _ _ rfl, State.rd_wr_lt _ _ (by decide)]

theorem State.frozen_seq (s : State) : s.frozen.recorder.seq = s.recorder.seq + 1 := by
  have hrecord : s.freezes.recorder = s.segEnd.recorder := State.record_recorder ..
  show s.freezes.recorder.seq = _
  rw [hrecord]
  rfl

theorem postSpanEnd_freezes {s : State} (hup : s.coreUp = true) (hover : s.recorder.segTick + 64 ≤ s.tick) (hlast : s.lastSegment = true) :
    exec .postSpanEnd s = .next (match s.recorder.freezer with
      | some (r, slot) =>
        s.frozen.complete r slot St.ok 0 (s.rd REC_TTICK.tick 0 % 2 ^ 64 + 2 ^ 64 * s.segOffset (s.rd REC_TTICK.tick 0)) true
      | none => s.frozen) :=
  doIf_pos _ _ (by simp [hup, hover, hlast])

/-- Settles O41, by the bytes of a boundary, the three cases of a trigger and the end of the post-trigger span. -/
theorem recorder : Obligations.Recorder := by
  refine ⟨fun s hup htrained hover hlast => ⟨fun hstate hapart => ?writes, fun hstate hdue => ?released, fun hstate hdue => ?missed⟩,
    fun s hfw => ⟨fun hstate => ?starts, fun hsame hstate => ?later, fun hsame hsrc => ?lower, fun hsame hsrc => ?stands, fun hstate => ?off⟩,
    fun s hup hover hlast => ?frozen⟩
  case writes =>
    have hfar := s.segOffset_apart hapart
    have hframe := s.segEnd_frame.trans (s.segEnd.segBegin_frame s.tick)
    refine ⟨_, segmentComplete_writes hup htrained hover hlast hstate, hframe, s.segEnd.segBegin_segTick s.tick,
      (s.segEnd.segBegin_seq s.tick).trans s.segEnd_seq, ?_, ?_, ?_⟩
    all_goals
      intro a
      rw [State.segBegin_byte, State.segEnd_segOffset]
    · intro ha
      rw [State.segEnd_byte, if_neg (by simp only [segBytes] at hfar ⊢; omega), if_pos (by omega), Nat.add_sub_cancel_left]
    · intro ha
      rw [if_pos (by omega)]
    · intro hout hout'
      rw [State.segEnd_byte, if_neg (by omega), if_neg (by omega)]
  case released =>
    have hrun := segmentComplete_frozen hup htrained hover hlast hstate
    rw [if_pos hdue] at hrun
    have hbegin := s.released.segBegin_frame s.tick
    refine ⟨_, hrun, s.released_frame.trans (hbegin.mono (by simp) (by simp)), ?_, ?_, s.released.segBegin_releaseDue s.tick⟩
    · rw [hbegin.2 _ _ (by simp)]
      exact s.released_shows.1
    · rw [hbegin.2 _ _ (by simp)]
      exact s.released_shows.2
  case missed =>
    have hrun := segmentComplete_frozen hup htrained hover hlast hstate
    rw [if_neg (by rw [hdue]; decide)] at hrun
    exact ⟨_, hrun, ((Frame.refl s _ _).addSat _ _ _ (by simp)).recorder _ (by simp) (Or.inr rfl),
      (State.rd_recorder _ _ _ _).trans (State.addSat_rd_same ..), rfl⟩
  case starts =>
    obtain ⟨hone, hsrc, hrule, hmore, htick⟩ := s.posted_shows
    have hrecord := State.record_within s.posted Ev.INT_REC_TRIGGER Src.memory [s.tick, 1, 0]
    have hrun := recTrigger_starts hfw hstate
    refine ⟨_, hrun, (execRecTrigger_out s _ hrun).touches rfl rfl, (hrecord.rd _ _ rfl).trans hone, (hrecord.rd _ _ rfl).trans hsrc,
      (hrecord.rd _ _ rfl).trans hrule, (hrecord.rd _ _ rfl).trans hmore, (hrecord.rd _ _ rfl).trans htick, ?_⟩
    rw [State.record_recorder]
    rfl
  case later => exact ⟨_, recTrigger_later hfw hsame hstate, (Frame.refl s _ _).addSat _ _ _ (by simp), State.addSat_rd_same ..⟩
  case lower =>
    have hrun := recTrigger_again hfw hsame
    rw [if_pos hsrc] at hrun
    have hpost : Frame [.recorderRest] [(REC_STAT.rule, 0), (REC_STAT.src, 0)] s
        { s with recorder := { s.recorder with post := s.rd REC_CTL.post_ms 0 } } := (Frame.refl s _ _).recorder _ (by simp) (Or.inr rfl)
    refine ⟨_, hrun, (hpost.wr _ _ _ (by simp)).wr _ _ _ (by simp), ?_, rfl⟩
    rw [State.rd_wr_ne _ _ _ _ rfl, State.rd_wr_lt _ _ (by decide)]
  case stands =>
    have hrun := recTrigger_again hfw hsame
    rw [if_neg (by omega)] at hrun
    exact ⟨_, hrun, rfl⟩
  case off => exact ⟨_, recTrigger_off hfw hstate, rfl⟩
  case frozen =>
    refine ⟨s.frozen, ?_, s.frozen_within.touches rfl rfl, ?_, rfl, ?_⟩
    · refine (postSpanEnd_freezes hup hover hlast).trans ?_
      cases s.recorder.freezer <;> rfl
    · exact s.frozen_state
    · exact s.frozen_seq

end Sys2Proof.Machine
end

section
/-!
SUPPORT. Writes of registers without a command of their own, lock bits, and BAR0 (00, 16).
-/
namespace Sys2Proof.Machine

/-! ## The fields of a register -/

theorem Reg.fields_distinct (r : Reg) : (r.fields.map (·.code)).Nodup ∧ (r.fields.all fun f => f.ok && decide (f.reg = r)) = true := by
  cases r <;> decide

theorem eq_of_code_nodup {l : List Fld} {f g : Fld} (hl : (l.map (·.code)).Nodup) (hf : f ∈ l) (hg : g ∈ l) (h : f.code = g.code) : f = g := by
  induction l with
  | nil => cases hf
  | cons x l ih =>
    obtain ⟨hx, hl⟩ := List.nodup_cons.mp hl
    have hne : ∀ y ∈ l, y.code ≠ x.code := fun y hy he => hx (List.mem_map.mpr ⟨y, hy, he⟩)
    obtain rfl | hfl := List.mem_cons.mp hf
    · exact (List.mem_cons.mp hg).elim Eq.symm fun hgl => absurd h.symm (hne g hgl)
    · obtain rfl | hgl := List.mem_cons.mp hg
      · exact absurd h (hne f hfl)
      · exact ih hl hfl hgl

theorem Reg.fields_eq {r : Reg} {f g : Fld} (hf : f ∈ r.fields) (hg : g ∈ r.fields) (h : f.code = g.code) : f = g :=
  eq_of_code_nodup r.fields_distinct.1 hf hg h

theorem Reg.fields_ok {r : Reg} {f : Fld} (hf : f ∈ r.fields) : f.ok = true ∧ f.reg = r := by
  simpa using List.all_eq_true.mp r.fields_distinct.2 f hf

theorem Fld.key_ne_of_code {f g : Fld} (i : Nat) (h : f.code ≠ g.code) : f.key i ≠ g.key i := fun he => h (Nat.add_left_cancel he)

/-- Each of distinct fields is written once, on a state that still holds it. -/
theorem State.writeFlds_at (l : List Fld) (s : State) (i v : Nat) (hd : (l.map (·.code)).Nodup) {g : Fld} (hg : g ∈ l) :
    ∃ u : State, u.rd g i = s.rd g i ∧ (s.writeFlds l i v).rd g i = (u.writeFld g i (g.of v)).rd g i := by
  induction l generalizing s with
  | nil => cases hg
  | cons f l ih =>
    obtain ⟨hf, hd⟩ := List.nodup_cons.mp hd
    obtain rfl | hg := List.mem_cons.mp hg
    · exact ⟨s, rfl, State.rd_writeFlds_ne l _ i v fun h hh => Fld.key_ne_of_code i fun he => hf (List.mem_map.mpr ⟨h, hh, he⟩)⟩
    · obtain ⟨u, hu, hwrite⟩ := ih (s.writeFld f i (f.of v)) hd hg
      have hkey : f.key i ≠ g.key i := Fld.key_ne_of_code i fun he => hf (List.mem_map.mpr ⟨g, hg, he.symm⟩)
      exact ⟨u, hu.trans (s.rd_writeFld_ne i i _ hkey), hwrite⟩

/-! ## What a write takes -/

section
variable {s : State} {r : Reg} {i v : Nat} {f : Fld} (hf : f ∈ r.fields)
include hf

theorem State.plainWrite_taken (ht : s.takes i v f = true) :
    ∃ u : State, u.rd f i = s.rd f i ∧ (s.plainWrite r i v).rd f i = (u.writeFld f i (f.of v)).rd f i :=
  State.writeFlds_at _ s i v (r.fields_distinct.1.sublist (List.filter_sublist.map _)) (List.mem_filter.mpr ⟨hf, ht⟩)

theorem State.plainWrite_kept (ht : s.takes i v f = false) : (s.plainWrite r i v).rd f i = s.rd f i :=
  State.rd_writeFlds_ne _ s i v fun g hg => Fld.key_ne_of_code i fun he => by
    obtain ⟨hmem, htakes⟩ := List.mem_filter.mp hg
    rw [Reg.fields_eq hmem hf he, ht] at htakes
    cases htakes

theorem State.plainWrite_in_range (ht : s.takes i v f = true) (ha : f.acc = .rw ∨ f.acc = .rwl) (hr : f.min ≤ f.of v ∧ f.of v ≤ f.max) :
    (s.plainWrite r i v).rd f i = f.of v := by
  obtain ⟨u, -, hwrite⟩ := State.plainWrite_taken hf ht
  rw [hwrite, State.writeFld_of_range u i ha hr, State.rd_wr_of]

theorem State.plainWrite_refused (ha : f.acc = .rw ∨ f.acc = .rwl)
    (h : s.takes i v f = false ∨ f.of v < f.min ∨ f.max < f.of v) : (s.plainWrite r i v).rd f i = s.rd f i := by
  cases ht : s.takes i v f with
  | false => exact State.plainWrite_kept hf ht
  | true =>
    obtain ⟨u, hu, hwrite⟩ := State.plainWrite_taken hf ht
    have hno : ¬ (f.min ≤ f.of v ∧ f.of v ≤ f.max) := by
      have := h.resolve_left (by rw [ht]; decide)
      omega
    have hsame : u.writeFld f i (f.of v) = u := by
      unfold State.writeFld
      obtain ha | ha := ha
      · rw [ha]
        exact if_neg hno
      · rw [ha]
        exact if_neg hno
    rw [hwrite, hsame, hu]

theorem State.plainWrite_set (ht : s.takes i v f = true) (ha : f.acc = .w1s) (h1 : f.of v = 1) : (s.plainWrite r i v).rd f i = 1 := by
  obtain ⟨u, -, hwrite⟩ := State.plainWrite_taken hf ht
  have hset : u.writeFld f i (f.of v) = u.wr f i 1 := by
    unfold State.writeFld
    rw [ha]
    exact if_pos h1
  rw [hwrite, hset, State.rd_wr_lt _ _ (Nat.one_lt_two_pow (Nat.succ_ne_zero _))]

end

theorem State.plainWrite_touches (s : State) (r : Reg) (i v : Nat) : Touches [] r.fields s (s.plainWrite r i v) := by
  obtain ⟨hblocks, hfields⟩ := State.writeFlds_frame (r.fields.filter (s.takes i v)) s i v
  refine ⟨hblocks, fun f j hf hne => hfields f j fun e he => ?_⟩
  obtain ⟨g, hg, rfl⟩ := List.mem_map.mp he
  have hmem := (List.mem_filter.mp hg).1
  have hok : g.code < 16384 := by simpa [Fld.ok] using (Reg.fields_ok hmem).1
  have hcode := hne g hmem
  simp only [Fld.key]
  omega

/-! ## What follows from a write -/

/-- The fields of a register, none of which is among the numbers. -/
def Reg.apart (r : Reg) (cs : List Nat) : Bool := r.fields.all fun f => !cs.contains f.code && f.ok

theorem Within.fields {bs : List Block} {cs : List Nat} {s t : State} (h : Within bs cs s t) {r : Reg} (hr : r.apart cs = true) {f : Fld}
    (hf : f ∈ r.fields) (i : Nat) : t.rd f i = s.rd f i := h.rd f i (List.all_eq_true.mp hr f hf)

theorem State.ruleWritten_within (s was : State) (r : Nat) : Within [.settRest, .harps, .zither, .feed, .msix, .burrow, .twin]
    ([1856, 2764, 2781, 3335, 3337, 3339, 3352, 3357, 3742, 3776] ++ recCodes) s (s.ruleWritten was r) := by
  have hrefl := Within.refl [.settRest, .harps, .zither, .feed, .msix, .burrow, .twin]
    ([1856, 2764, 2781, 3335, 3337, 3339, 3352, 3357, 3742, 3776] ++ recCodes) s
  unfold State.ruleWritten
  refine Within.ite ?_ (Within.ite ?_ hrefl)
  · exact Within.set_settRest _ ((hrefl.wr _ _ _ rfl).step (State.releaseRule_within _ r) rfl) rfl rfl rfl
  · exact ((Within.ite (hrefl.wr _ _ _ rfl) hrefl).step (State.harpJudge_within _) rfl).step (State.judgePulls_within _ _) rfl

theorem State.written_rd (s was : State) (r : Reg) (i v : Nat) {f : Fld} (hf : f ∈ r.fields) (j : Nat) :
    (s.written was r i v).rd f j = s.rd f j := by
  cases r
  case SETT_ENG_STAT => exact (Within.ite (State.setEngine_within s i _) (Within.refl _ _ s)).fields rfl hf j
  case SNS_MTR_CFG => exact (State.setMeter_within s i _).fields rfl hf j
  case RFX_ACT => exact (Within.ite (Within.refl _ _ s) (s.ruleWritten_within was i)).fields rfl hf j
  case HARP_WCTL => exact (State.harpJudge_within s).fields rfl hf j
  case FAN_OCFG => exact (State.supervise_within s was i).fields rfl hf j
  case FAN_ZIN => exact (State.judgeZone_within s i).fields rfl hf j
  case FAN_ZPT => exact (State.judgeZone_within s _).fields rfl hf j
  case FAN_FCFG => exact (State.flowSet_within s i).fields rfl hf j
  case WPORT_LSCFG => exact (State.laserShow_within s i).fields rfl hf j
  all_goals rfl

/-- The registers in whose blocks more follows from a write. -/
def Reg.followed : List Reg :=
  [.SETT_ENG_STAT, .SNS_MTR_CFG, .RFX_ACT, .HARP_WCTL, .FAN_OCFG, .FAN_ZIN, .FAN_ZPT, .FAN_FCFG, .WPORT_LSCFG]

theorem State.written_plain (s was : State) {r : Reg} (i v : Nat) (h : r ∉ Reg.followed) : s.written was r i v = s := by
  cases r
  case SETT_ENG_STAT | SNS_MTR_CFG | RFX_ACT | HARP_WCTL | FAN_OCFG | FAN_ZIN | FAN_ZPT | FAN_FCFG | WPORT_LSCFG =>
    exact absurd (by decide) h
  all_goals rfl

theorem State.regWrite_open {s : State} {r : Reg} {i : Nat} (v : Nat) (hup : s.tierUp r.tier = true) (hi : i < r.count)
    (habs : s.absentReg r = false) (hown : r.ownRow = false) : s.regWrite r i v = (s.plainWrite r i v).written s r i v :=
  if_pos (by simp [hup, hi, habs, hown])

theorem State.plainWrite_none {s : State} {r : Reg} {i v : Nat} (h : ∀ f ∈ r.fields, s.takes i v f = false) : s.plainWrite r i v = s := by
  have hnil : r.fields.filter (s.takes i v) = [] := List.filter_eq_nil_iff.mpr fun f hf => by simp [h f hf]
  rw [State.plainWrite, hnil]
  rfl

theorem State.takes_crossed {s : State} {i v : Nat} (h : s.avsCrossed i v = true) : ∀ f ∈ Reg.fields .HARP_AVSCFG, s.takes i v f = false := by
  intro f hf
  unfold State.takes
  dsimp only
  rw [(Reg.fields_ok hf).2]
  dsimp only
  rw [h, Bool.not_true, Bool.and_false, Bool.false_and]

theorem State.takes_locked {s : State} {f g : Fld} {i j : Nat} (v : Nat) (hlock : f.reg.lockOf i = some (g, j)) (hbit : s.bit g j = true)
    (ha : f.acc = .rwl) : s.takes i v f = false := by
  unfold State.takes
  dsimp only
  rw [hlock, ha]
  dsimp only
  rw [hbit]
  rfl

/-! ## Lock bits -/

/-- The lock bits that have no command of their own. -/
def Reg.lockBits (r : Reg) : List Fld := r.fields.filter fun f => f.acc == .w1s && f.lo == 31

theorem Reg.lockBits_width (r : Reg) : (!r.lockRow || r.lockBits.all fun f => f.width == 1) = true := by cases r <;> decide

theorem Reg.lockRow_own (r : Reg) : (!r.lockRow || !r.ownRow) = true := by cases r <;> rfl

theorem lock_of_set (v : BitVec 64) {f : Fld} (hlo : f.lo = 31) (hw : f.width = 1) : f.of (v ||| 0x80000000#64).toNat = 1 := by
  have hbit : (v ||| 0x80000000#64).toNat.testBit 31 = true := by
    rw [BitVec.toNat_or, Nat.testBit_or, show (0x80000000#64).toNat.testBit 31 = true by decide, Bool.or_true]
  rw [Nat.testBit_eq_decide_div_mod_eq, decide_eq_true_eq] at hbit
  rw [Fld.of, hlo, hw]
  exact hbit

/-- No rule of its chapter stands against a lock bit, but for HARP_AVSCFG. -/
theorem State.takes_lock {s : State} {r : Reg} {i v : Nat} (hrow : r.lockRow = true) (havs : r ≠ .HARP_AVSCFG ∨ s.avsCrossed i v = false)
    {f : Fld} (hf : f ∈ r.lockBits) : s.takes i v f = true := by
  have hall : r.lockBits.map (s.takes i v) = [true] := by
    cases r
    case HARP_AVSCFG =>
      have hcross := havs.resolve_left (fun h => h rfl)
      show [s.takes i v HARP_AVSCFG.lock] = [true]
      unfold State.takes
      dsimp only [HARP_AVSCFG.lock, Reg.lockOf]
      rw [hcross]
      rfl
    case SNS_MTR_CFG | HARP_WCTL | HARP_GCTL | MRT_TCTL | FAN_OCFG | FAN_ZCTL | FAN_FCFG | FAN_GCTL | WPORT_LSCFG | REC_CTL | MEM_SCRUB | TWIN_CTL =>
      rfl
    all_goals cases hrow
  exact List.mem_singleton.mp (hall ▸ List.mem_map_of_mem hf)

/-! ## BAR0 (R393) -/

theorem bar0Range_doorbells {a : Nat} (h : 0x1000 ≤ a ∧ a < 0x1100) : bar0Range a = .doorbells := by
  rw [bar0Range, if_neg (by omega), if_neg (by omega), if_pos h]

theorem bar0Range_rings {a : Nat} (h : 0x2000 ≤ a ∧ a < 0x2800) : bar0Range a = .rings := by
  rw [bar0Range, if_neg (by omega), if_neg (by omega), if_neg (by omega), if_pos h]

theorem bar0Reg_doorbells {a : Nat} (h : 0x1000 ≤ a ∧ a < 0x1100) :
    bar0Reg a = some (if a % 8 = 0 then .DB_SQ else .DB_CQ, (a - 0x1000) / 8, 0) := by
  unfold bar0Reg
  rw [bar0Range_doorbells h]

theorem bar0Reg_rings {a : Nat} (h : 0x2000 ≤ a ∧ a < 0x2800) :
    bar0Reg a = (ringReg ((a - 0x2000) % 0x40)).map fun r => (r.1, (a - 0x2000) / 0x40, r.2) := by
  unfold bar0Reg
  rw [bar0Range_rings h]

theorem bar0Range_unnamed {a : Nat} (h : 0x1100 ≤ a ∧ a < 0x2000 ∨ 0x2800 ≤ a ∧ a < 0x4000 ∨ 0x5000 ≤ a) :
    bar0Range a = .reserved ∨ bar0Range a = .unnamed := by
  rw [bar0Range, if_neg (by omega), if_neg (by omega), if_neg (by omega), if_neg (by omega), if_neg (by omega)]
  exact if_cases (P := fun x => x = Bar0Range.reserved ∨ x = .unnamed) (fun _ => Or.inl rfl) (fun _ => Or.inr rfl)

theorem State.bar0Read_unnamed (s : State) {a : Nat} (h : 0x1100 ≤ a ∧ a < 0x2000 ∨ 0x2800 ≤ a ∧ a < 0x4000 ∨ 0x5000 ≤ a) : s.bar0Read a = 0 := by
  have hnone : bar0Reg a = none := by
    unfold bar0Reg
    obtain hrange | hrange := bar0Range_unnamed h
    · rw [hrange]
    · rw [hrange]
  rw [State.bar0Read, hnone]

/-- Settles O47, by what a plain write does to each field, what follows in the block, and the ranges of BAR0. -/
theorem registerWrites : Obligations.RegisterWrites := by
  refine ⟨fun s reg ix v hup hi habs hown => ?writes, fun s w ix v hix hcross => ?crossed, fun s reg ix v hno => ?unfit,
    fun s reg ix v hrow hup hi habs havs => ?locks, fun s f g i j v hlock hbit ha => s.takes_locked v hlock hbit ha, fun r hr => ?rings,
    fun s a ha => s.bar0Read_unnamed ha⟩
  case writes =>
    refine ⟨_, congrArg Host.Outcome.next (State.regWrite_open v.toNat hup hi habs hown), fun f hf ht ha h1 h2 => ?_, fun f hf ha h => ?_,
      fun f hf ha h1 ht => ?_, fun hplain => ?_⟩
    · rw [State.written_rd _ _ _ _ _ hf]
      exact State.plainWrite_in_range hf ht ha ⟨h1, h2⟩
    · rw [State.written_rd _ _ _ _ _ hf]
      exact State.plainWrite_refused hf ha h
    · rw [State.written_rd _ _ _ _ _ hf]
      exact State.plainWrite_set hf ht ha h1
    · rw [State.written_plain _ _ _ _ hplain]
      exact s.plainWrite_touches reg _ _
  case crossed =>
    refine ⟨_, rfl, ?_⟩
    unfold State.regWrite
    rw [State.plainWrite_none (State.takes_crossed (hix ▸ hcross))]
    exact ite_self _
  case unfit =>
    refine ⟨_, rfl, if_neg ?_⟩
    simp only [Bool.and_eq_true, decide_eq_true_eq, Bool.not_eq_true']
    rintro ⟨⟨⟨hup, hi⟩, habs⟩, hown⟩
    simp_all
    omega
  case locks =>
    have hown : reg.ownRow = false := by simpa [hrow] using reg.lockRow_own
    have hrun : exec (.registerLock reg ix v) s =
        .next ((s.plainWrite reg ix.toNat (v ||| 0x80000000#64).toNat).written s reg ix.toNat (v ||| 0x80000000#64).toNat) :=
      (doIf_pos _ _ hrow).trans (congrArg Host.Outcome.next (State.regWrite_open _ hup hi habs hown))
    refine ⟨_, hrun, fun f hf ha hlo => ?_⟩
    have hbit : f ∈ reg.lockBits := List.mem_filter.mpr ⟨hf, by simp [ha, hlo]⟩
    have hwidth : (reg.lockBits.all fun f => f.width == 1) = true := by simpa [hrow] using reg.lockBits_width
    rw [State.written_rd _ _ _ _ _ hf]
    exact State.plainWrite_set hf (State.takes_lock hrow havs hbit) ha (lock_of_set v hlo (by simpa using List.all_eq_true.mp hwidth f hbit))
  case rings =>
    refine ⟨?_, ?_, fun off hoff => ?_⟩
    · rw [bar0Reg_doorbells (by omega), if_pos (by omega)]
      congr 3
      omega
    · rw [bar0Reg_doorbells (by omega), if_neg (by omega)]
      congr 3
      omega
    · rw [bar0Reg_rings (by omega), show (0x2000 + 0x40 * r + off - 0x2000) % 0x40 = off by omega,
        show (0x2000 + 0x40 * r + off - 0x2000) / 0x40 = r by omega]

end Sys2Proof.Machine
end

section
/-!
SUPPORT. Power-on resets (02, 03): what the straps set, and the stages of a boot.
-/
namespace Sys2Proof.Machine

/-! ## Steps over a list of which one sets a value -/

section
variable {ι σ α : Type} {step : ι → σ → σ} {proj : σ → α} {P : σ → Prop} {a : α} {j : ι}

theorem each_ne (hne : ∀ i s, i ≠ j → proj (step i s) = proj s) (l : List ι) (hj : j ∉ l) (s : σ) : proj (each l step s) = proj s := by
  induction l generalizing s with
  | nil => rfl
  | cons i l ih =>
    rw [List.mem_cons, not_or] at hj
    exact (ih hj.2 _).trans (hne i s (Ne.symm hj.1))

/-- What one member of a list sets, and no other touches, is set at the end. -/
theorem each_sets (hP : ∀ i s, P s → P (step i s)) (hsame : ∀ s, P s → proj (step j s) = a) (hne : ∀ i s, i ≠ j → proj (step i s) = proj s)
    (l : List ι) (hj : j ∈ l) (s : σ) (hs : P s) : proj (each l step s) = a := by
  induction l generalizing s with
  | nil => cases hj
  | cons i l ih =>
    by_cases hl : j ∈ l
    · exact ih hl _ (hP i s hs)
    · obtain rfl := (List.mem_cons.mp hj).resolve_right hl
      exact (each_ne hne l hl _).trans (hsame s hs)

end

/-! ## Power cycles -/

theorem State.record_powerCycles (s : State) (code source : Nat) (data : List Nat) :
    (s.record code source data).burrow.powerCycles = s.burrow.powerCycles := by
  have hflash : ∀ r, (s.offerFlash r).burrow.powerCycles = s.burrow.powerCycles := by
    intro r
    unfold State.offerFlash
    dsimp only
    (repeat' split) <;> rfl
  have hmirror : ∀ (u : State) r, (u.offerMirror r).burrow.powerCycles = u.burrow.powerCycles := by
    intro u r
    unfold State.offerMirror
    dsimp only
    (repeat' split) <;> rfl
  have hevent : ∀ u : State, u.eventInt.burrow.powerCycles = u.burrow.powerCycles := by
    intro u
    obtain ⟨at_, due, h⟩ := u.eventInt_burrow
    rw [h]
  unfold State.record
  split
  · rfl
  · rw [State.offer, hevent, hmirror, hflash]

theorem Within.powerCycles {bs : List Block} {cs : List Nat} {s t : State} (h : Within bs cs s t) (hb : bs.contains .burrow = false) :
    t.burrow.powerCycles = s.burrow.powerCycles := congrArg Burrow.powerCycles (h.block .burrow hb)

theorem State.driveAll_powerCycles (s : State) : s.driveAll.burrow.powerCycles = s.burrow.powerCycles := by
  have hfull : s.judgeFull.burrow.powerCycles = s.burrow.powerCycles := by
    unfold State.judgeFull
    refine each_keeps (P := fun u : State => u.burrow.powerCycles = s.burrow.powerCycles) (fun z u hu => ?_) _ rfl
    refine if_cases (P := fun v : State => v.burrow.powerCycles = s.burrow.powerCycles) (fun _ => ?_) (fun _ => hu)
    rw [State.record_powerCycles]
    exact hu
  have hdrives : Within [.cooling] [5136, 5147, 5149] s.judgeFull s.driveAll := by
    unfold State.driveAll
    dsimp only
    refine Within.step ?_ (State.judgeFlows_within _) rfl
    refine Within.each _ _ ?_ fun o _ u hu => hu.wr _ _ _ rfl
    refine Within.each _ _ (Within.refl _ _ _) fun o _ u hu => ?_
    have hfan : ∀ x, Within [.cooling] [5136, 5147, 5149] s.judgeFull (u.setFan o x) := fun x => hu.step (State.setFan_within u o x) rfl
    refine Within.ite (Within.ite ?_ (hfan _)) hu
    exact (hfan _).step (State.startCheck_within _ o 0) rfl
  exact (hdrives.powerCycles rfl).trans hfull

theorem State.calPass_powerCycles (s : State) : s.calPass.burrow.powerCycles = s.burrow.powerCycles := by
  have hexhausted : ∀ (u : State) quick, (u.calExhausted quick).burrow.powerCycles = u.burrow.powerCycles := by
    intro u quick
    unfold State.calExhausted
    dsimp only
    refine if_cases (P := fun v : State => v.burrow.powerCycles = u.burrow.powerCycles) (fun _ => ?_) (fun _ => rfl)
    refine if_cases (P := fun v : State => v.burrow.powerCycles = u.burrow.powerCycles) (fun _ => rfl) (fun _ => ?_)
    rw [State.record_powerCycles]
  have hrun : ∀ (u : State) ap, (u.calRun ap).burrow.powerCycles = u.burrow.powerCycles := by
    intro u ap
    have hwithin : Within [.sense] [205, 720] ((u.calExhausted true).calExhausted false) (u.calRun ap) := by
      unfold State.calRun
      refine Within.step ?_ (State.calIdle_within _) rfl
      refine Within.upTo 4 _ (Within.refl _ _ _) fun i v hv => ?_
      exact (hv.step (State.calNext_within v ap true) rfl).step (State.calNext_within _ ap false) rfl
    rw [hwithin.powerCycles rfl, hexhausted, hexhausted]
  rw [State.calPass, hrun]
  rfl

/-! ## Straps (Tables 2-8 to 2-10) -/

/-- The role, the objects' exclusion and the critical threshold that the straps set. -/
def State.strapFlags (s : State) : State :=
  let role := if s.roleIgnored then 0 else s.part.straps.twinRole
  (((s.wr DEV_STAT.role 0 role).wr TWIN_STAT.role 0 role).wrBit HARP_GSTAT.obj_excl 0 (role == 2)).wr FAN_CRIT.threshold 0
    (95 + 5 * s.part.straps.tcrit)

/-- With the zones' inputs. -/
def State.strapInputs (s : State) : State :=
  each (List.range 4) (fun z u => u.wr FAN_ZIN.sel z (3 * 2 ^ (8 * s.part.straps.tchan))) s.strapFlags

/-- With the fixed channels of the coolant sensors. -/
def State.strapChannels (s : State) : State :=
  (s.strapInputs.wr SNS_CHCFG.enable (256 + 8 * s.part.straps.tchan) 1).wr SNS_CHCFG.enable (257 + 8 * s.part.straps.tchan) 1

theorem State.applyStraps_eq (s : State) : s.applyStraps = each (List.range 32) (fun k u =>
    (u.wr FAN_ZPT.temp k (low 8 (fandefTemp s.part.straps.fandef (k % 8)))).wr FAN_ZPT.duty k (fandefDuty s.part.straps.fandef (k % 8)))
    s.strapChannels := rfl

theorem State.strapInputs_within (s : State) : Within [] [5440] s.strapFlags s.strapInputs :=
  Within.each _ _ (Within.refl _ _ _) fun _ _ _ hu => hu.wr _ _ _ rfl

theorem State.strapChannels_within (s : State) : Within [] [128, 5440] s.strapFlags s.strapChannels :=
  (((Within.refl _ _ _).step s.strapInputs_within rfl).wr _ _ _ rfl).wr _ _ _ rfl

theorem State.strapPoints_within (s : State) : Within [] [5312, 5328] s.strapChannels s.applyStraps :=
  s.applyStraps_eq ▸ Within.each _ _ (Within.refl _ _ _) fun _ _ _ hu => (hu.wr _ _ _ rfl).wr _ _ _ rfl

section
variable (s : State)

theorem State.applyStraps_role : s.applyStraps.rd DEV_STAT.role 0 = (if s.roleIgnored then 0 else s.part.straps.twinRole) % 4 := by
  rw [s.strapPoints_within.rd _ _ rfl, s.strapChannels_within.rd _ _ rfl, State.strapFlags, State.wrBit, State.rd_wr_ne _ _ _ _ rfl,
    State.rd_wr_ne _ _ _ _ rfl, State.rd_wr_ne _ _ _ _ rfl, State.rd_wr_same]
  rfl

theorem State.applyStraps_threshold : s.applyStraps.rd FAN_CRIT.threshold 0 = (95 + 5 * s.part.straps.tcrit) % 256 := by
  rw [s.strapPoints_within.rd _ _ rfl, s.strapChannels_within.rd _ _ rfl, State.strapFlags, State.rd_wr_same]
  rfl

theorem State.applyStraps_input {z : Nat} (hz : z < 4) : s.applyStraps.rd FAN_ZIN.sel z = 3 * 2 ^ (8 * s.part.straps.tchan) % 2 ^ 32 := by
  rw [s.strapPoints_within.rd _ _ rfl, State.strapChannels, State.rd_wr_ne _ _ _ _ rfl, State.rd_wr_ne _ _ _ _ rfl]
  exact each_sets (P := fun _ => True) (proj := fun u : State => u.rd FAN_ZIN.sel z) (fun _ _ _ => trivial) (fun u _ => u.rd_wr_same ..)
    (fun i u hi => State.rd_wr_inst _ _ _ _ _ hi) _ (List.mem_range.mpr hz) _ trivial

theorem State.applyStraps_channels : s.applyStraps.rd SNS_CHCFG.enable (256 + 8 * s.part.straps.tchan) = 1 ∧
    s.applyStraps.rd SNS_CHCFG.enable (257 + 8 * s.part.straps.tchan) = 1 := by
  rw [s.strapPoints_within.rd _ _ rfl, s.strapPoints_within.rd _ _ rfl]
  refine ⟨?_, State.rd_wr_lt _ _ (by decide)⟩
  rw [State.strapChannels, State.rd_wr_inst _ _ _ _ _ (show 257 + 8 * s.part.straps.tchan ≠ 256 + 8 * s.part.straps.tchan by omega),
    State.rd_wr_lt _ _ (by decide)]

theorem State.applyStraps_duty {k : Nat} (hk : k < 32) :
    s.applyStraps.rd FAN_ZPT.duty k = fandefDuty s.part.straps.fandef (k % 8) % 128 := by
  rw [State.applyStraps_eq]
  refine each_sets (P := fun _ => True) (proj := fun u : State => u.rd FAN_ZPT.duty k) (fun _ _ _ => trivial) (fun u _ => State.rd_wr_same ..)
    (fun i u hi => ?_) _ (List.mem_range.mpr hk) _ trivial
  rw [State.rd_wr_inst _ _ _ _ _ hi, State.rd_wr_ne _ _ _ _ rfl]

end

/-! ## Boot (Table 3-9) -/

/-- Stage 1 entered, the pads driven and the power cycle counted. -/
def State.bootStart (s : State) : State := { s with
  part := { s.part with stage := 1 }
  zither := { s.zither with released := false }
  burrow := { s.burrow with powerCycles := min 16777215 (s.burrow.powerCycles + 1) } }

theorem State.bootStart_tick (s : State) : s.bootStart.tick = s.tick := rfl
theorem State.bootStart_rd (s : State) (f : Fld) (i : Nat) : s.bootStart.rd f i = s.rd f i := rfl

/-- A group's dwell started. -/
def State.dwells (g : Nat) (s : State) : State := s.setZgrp g { s.zgrp g with dwellEnd := s.tick + s.rd ZIT_GCTL.t_off_min g * 1000 }

theorem State.dwells_within (g : Nat) (s : State) : Within [.zither] [] s (s.dwells g) := State.setZgrp_within s g _
theorem State.dwells_zgrp (g h : Nat) (s : State) : (s.dwells g).zgrp h =
    if g = h then { s.zgrp g with dwellEnd := s.tick + s.rd ZIT_GCTL.t_off_min g * 1000 } else s.zgrp h := State.setZgrp_zgrp ..

/-- Every group in its dwell, and the cause shown. -/
def State.bootDwell (s : State) (cause : Nat) : State := (each (List.range 16) State.dwells s.bootStart).wr RST_CAUSE.last_cause 0 cause

theorem State.bootDwell_within (s : State) (cause : Nat) : Within [.zither] [0] s.bootStart (s.bootDwell cause) :=
  (Within.each _ _ (Within.refl _ _ _) fun g _ u hu => hu.step (u.dwells_within g) rfl).wr _ _ _ rfl

/-- The blocks and fields that a boot still touches once the straps are applied. -/
def bootBlocks : List Block := [.sense, .cooling, .msix, .burrow]
def bootCodes : List Nat := [205, 720, 5136, 5147, 5149, 5253, 5264, 5271, 5274, 5275] ++ recCodes

/-- Zones judged and a calibration pass begun. -/
def State.bootJudged (s : State) (cause : Nat) : State :=
  (each (List.range 4) (fun z u => u.judgeZone z) (s.bootDwell cause).applyStraps).calPass

theorem State.bootJudged_within (s : State) (cause : Nat) : Within bootBlocks bootCodes (s.bootDwell cause).applyStraps (s.bootJudged cause) := by
  refine Within.step ?_ (State.calPass_within _) rfl
  exact Within.each _ _ (Within.refl _ _ _) fun z _ u hu => hu.step (State.judgeZone_within u z) rfl

theorem State.bootJudged_powerCycles (s : State) (cause : Nat) :
    (s.bootJudged cause).burrow.powerCycles = (s.bootDwell cause).applyStraps.burrow.powerCycles := by
  have hzones : Within [.cooling] [5253, 5264, 5274, 5275] (s.bootDwell cause).applyStraps
      (each (List.range 4) (fun z u => u.judgeZone z) (s.bootDwell cause).applyStraps) :=
    Within.each _ _ (Within.refl _ _ _) fun z _ u hu => hu.step (State.judgeZone_within u z) rfl
  rw [State.bootJudged, State.calPass_powerCycles, hzones.powerCycles rfl]

/-- With the record of the reset. -/
def State.bootRecorded (s : State) (cause : Nat) : State := (s.bootJudged cause).record Ev.IMG_RESET Src.security [cause]

theorem State.boot_eq (s : State) (cause : Nat) : s.boot cause = (if (s.bootRecorded cause).roleIgnored then
    (s.bootRecorded cause).record Ev.TWIN_ROLE_IGNORED Src.twin [(s.bootRecorded cause).part.straps.twinRole] else s.bootRecorded cause).driveAll := by
  unfold State.boot State.bootRecorded State.bootJudged State.bootDwell State.bootStart State.dwells
  with_reducible rfl

theorem State.bootRecorded_within (s : State) (cause : Nat) :
    Within bootBlocks bootCodes (s.bootDwell cause).applyStraps (s.bootRecorded cause) := by
  have hjudged := s.bootJudged_within cause
  rw [State.bootRecorded]
  generalize s.bootJudged cause = u at hjudged ⊢
  exact hjudged.step (State.record_within u _ _ _) rfl

theorem State.bootRecorded_powerCycles (s : State) (cause : Nat) :
    (s.bootRecorded cause).burrow.powerCycles = (s.bootDwell cause).applyStraps.burrow.powerCycles := by
  rw [State.bootRecorded, State.record_powerCycles, State.bootJudged_powerCycles]

theorem State.boot_within_bootCodes (s : State) (cause : Nat) : Within bootBlocks bootCodes (s.bootDwell cause).applyStraps (s.boot cause) := by
  have hrecorded := s.bootRecorded_within cause
  rw [State.boot_eq]
  generalize s.bootRecorded cause = u at hrecorded ⊢
  refine Within.step (Within.ite ?_ hrecorded) (State.driveAll_within _) rfl
  exact hrecorded.step (State.record_within u _ _ _) rfl

theorem State.boot_powerCycles (s : State) (cause : Nat) :
    (s.boot cause).burrow.powerCycles = (s.bootDwell cause).applyStraps.burrow.powerCycles := by
  have hrecorded := s.bootRecorded_powerCycles cause
  rw [State.boot_eq, State.driveAll_powerCycles]
  generalize s.bootRecorded cause = u at hrecorded ⊢
  split
  · exact (State.record_powerCycles ..).trans hrecorded
  · exact hrecorded

/-! ## What a boot shows -/

section
variable (s : State) (cause : Nat)

theorem State.boot_part : (s.boot cause).part = { s.part with stage := 1 } :=
  calc (s.boot cause).part = (s.bootDwell cause).applyStraps.part := (s.boot_within_bootCodes cause).block .part rfl
    _ = (s.bootDwell cause).part := (State.applyStraps_within _).block .part rfl
    _ = s.bootStart.part := (s.bootDwell_within cause).block .part rfl
    _ = { s.part with stage := 1 } := rfl

theorem State.bootDwell_part : (s.bootDwell cause).part = { s.part with stage := 1 } :=
  ((s.bootDwell_within cause).block .part rfl).trans rfl

theorem State.boot_cause (h : cause < 256) : (s.boot cause).rd RST_CAUSE.last_cause 0 = cause := by
  rw [(s.boot_within_bootCodes cause).rd _ _ rfl, (State.applyStraps_within _).rd _ _ rfl, State.bootDwell, State.rd_wr_lt _ _ h]

theorem State.boot_cycles : (s.boot cause).burrow.powerCycles = min 16777215 (s.burrow.powerCycles + 1) := by
  rw [State.boot_powerCycles, (State.applyStraps_within _).powerCycles rfl, (s.bootDwell_within cause).powerCycles rfl]
  rfl

theorem State.bootDwell_dwellEnd {g : Nat} (hg : g < 16) :
    ((s.bootDwell cause).zgrp g).dwellEnd = s.tick + s.rd ZIT_GCTL.t_off_min g * 1000 := by
  rw [State.bootDwell, State.wr_zgrp]
  refine each_sets (P := fun u : State => u.tick = s.tick ∧ u.rd ZIT_GCTL.t_off_min g = s.rd ZIT_GCTL.t_off_min g)
    (proj := fun u : State => (u.zgrp g).dwellEnd) (fun i u hu => ?_) (fun u hu => ?_) (fun i u hi => ?_) _ (List.mem_range.mpr hg) s.bootStart
    ⟨s.bootStart_tick, s.bootStart_rd _ _⟩
  · have hstep := u.dwells_within i
    exact ⟨(hstep.block .tick rfl).trans hu.1, (hstep.rd _ _ rfl).trans hu.2⟩
  · rw [State.dwells_zgrp, if_pos rfl, hu.1, hu.2]
  · rw [State.dwells_zgrp, if_neg hi]

theorem State.boot_dwellEnd {g : Nat} (hg : g < 16) : ((s.boot cause).zgrp g).dwellEnd = s.tick + s.rd ZIT_GCTL.t_off_min g * 1000 := by
  have hz : (s.boot cause).zither = (s.bootDwell cause).zither :=
    ((s.boot_within_bootCodes cause).block .zither rfl).trans ((State.applyStraps_within _).block .zither rfl)
  rw [← s.bootDwell_dwellEnd cause hg, State.zgrp, State.zgrp, hz]

end

end Sys2Proof.Machine
end

section
/-!
SUPPORT. The commands of power-on resets (03), and the pads while PORST# is low (02).
-/
namespace Sys2Proof.Machine

theorem State.cleared_rd (s : State) (powered : Bool) (f : Fld) (i : Nat) : (s.cleared powered).rd f i = State.reset.rd f i := rfl

theorem Burrow.restart_keeps (b : Burrow) (h : b.halt = false) : (b.restart true).prio = b.prio ∧ ∀ r ∈ b.flight, r ∈ (b.restart true).flight := by
  have hkeep : b.restart true = { b.restart true with prio := b.prio, flight := b.flight ++ (b.restart true).flight.drop b.flight.length } := by
    simp [Burrow.restart, h]
  rw [hkeep]
  exact ⟨rfl, fun r hr => List.mem_append_left _ hr⟩

section
variable (s : State) {cause : Nat}

theorem State.powerOnReset_shows (h : cause < 256) :
    (s.powerOnReset cause).rd RST_CAUSE.last_cause 0 = cause ∧ (s.powerOnReset cause).part.stage = 1 ∧ (s.powerOnReset cause).tick = 0 ∧
    (s.powerOnReset cause).part.straps = s.part.straps ∧ (s.powerOnReset cause).setts = {} := by
  have hboot := State.boot_within (s.cleared true) cause
  have hpart := (s.cleared true).boot_part cause
  unfold State.powerOnReset
  refine ⟨(s.cleared true).boot_cause cause h, ?_, hboot.block .tick rfl, ?_, hboot.setts rfl⟩
  · rw [hpart]
  · rw [hpart]
    rfl

end

/-! ## The release of PORST# (R29, R35) -/

/-- PORST# high, with the straps sampled. -/
def State.sampled (s : State) (p : Straps) : State := { s with part := { s.part with held := false, straps := p } }

section
variable (s : State) (p : Straps)

theorem State.sampled_dwell : ((s.sampled p).bootDwell 1).part.straps = p ∧ ((s.sampled p).bootDwell 1).part.variant = s.part.variant := by
  rw [State.bootDwell_part]
  exact ⟨rfl, rfl⟩

theorem State.sampled_boot_rd (f : Fld) (i : Nat) (h : (!bootCodes.contains f.code && f.ok) = true) :
    ((s.sampled p).boot 1).rd f i = ((s.sampled p).bootDwell 1).applyStraps.rd f i := ((s.sampled p).boot_within_bootCodes 1).rd f i h

theorem State.sampled_role (h : p.twinRole < 4) : ((s.sampled p).boot 1).rd DEV_STAT.role 0 =
    if p.twinRole = 3 ∨ s.part.variant = .qc then 0 else p.twinRole := by
  obtain ⟨hstraps, hvariant⟩ := s.sampled_dwell p
  rw [s.sampled_boot_rd p _ _ rfl, State.applyStraps_role, State.roleIgnored, hstraps, hvariant]
  by_cases h3 : p.twinRole = 3
  · simp [h3]
  · by_cases hqc : s.part.variant = .qc
    · by_cases h0 : p.twinRole = 0
      · simp [hqc, h0]
      · simp [h3, hqc, h0]
    · rw [if_neg (by simp [h3, hqc]), if_neg (by simp [h3, hqc]), Nat.mod_eq_of_lt h]

end

theorem fandefDuty_le (d : Nat) {k : Nat} (hk : k < 8) : fandefDuty d k < 128 := by
  have hrow (l : List Nat) (hl : ∀ j < 8, l.getD j 0 < 128) : l.getD k 0 < 128 := hl k hk
  unfold fandefDuty
  split
  · exact hrow _ (by decide)
  · exact hrow _ (by decide)
  · exact hrow _ (by decide)
  · decide

/-- The straps of a release of PORST#. -/
def strapsOf (tcrit : BitVec 3) (tchan twinRole : BitVec 2) (bootHold : Bool) (fandef : BitVec 2) (xspiMode : Bool) : Straps :=
  { tcrit := tcrit.toNat, tchan := tchan.toNat, twinRole := twinRole.toNat, bootHold, fandef := fandef.toNat, xspiMode }

section
variable {s : State} (tcrit : BitVec 3) (tchan twinRole : BitVec 2) (bootHold : Bool) (fandef : BitVec 2) (xspiMode : Bool) (hheld : s.part.held = true)
include hheld

theorem porstRelease_testen : exec (.porstRelease tcrit tchan twinRole bootHold fandef xspiMode true) s = .fault .productionTest :=
  if_pos (by rw [hheld]; rfl)

theorem porstRelease_boots (hvao : s.part.vaoLow = false) : exec (.porstRelease tcrit tchan twinRole bootHold fandef xspiMode false) s =
    .next ((s.sampled (strapsOf tcrit tchan twinRole bootHold fandef xspiMode)).boot 1) := by
  refine (if_neg (by rw [Bool.and_false]; decide)).trans ((doIf_pos _ _ hheld).trans (congrArg Host.Outcome.next (if_neg ?_)))
  rw [hvao]
  decide

theorem porstRelease_waits (hvao : s.part.vaoLow = true) : exec (.porstRelease tcrit tchan twinRole bootHold fandef xspiMode false) s =
    .next (s.sampled (strapsOf tcrit tchan twinRole bootHold fandef xspiMode)) :=
  (if_neg (by rw [Bool.and_false]; decide)).trans ((doIf_pos _ _ hheld).trans (congrArg Host.Outcome.next (if_pos hvao)))

end

theorem Frame.part {bs : List Block} {fs : List (Fld × Nat)} {s t : State} (h : Frame bs fs s t) (z : Part) (hb : .part ∈ bs) :
    Frame bs fs s { t with part := z } :=
  h.upd (fun b hn => by cases b <;> simp_all [Block.same]) rfl

/-! ## Pads (Table 2-7) -/

theorem padOf_off {on : Bool} (level : Bool) (h : on = false) : padOf on level = .released := by rw [h]; rfl

theorem openDrain_off {low : Bool} (h : low = false) : openDrain low = .released := by rw [h]; rfl

/-- Settles O48, by the state that a reset leaves, what a boot shows, and the guards of the pads. -/
theorem powerOnResets : Obligations.PowerOnResets := by
  refine ⟨fun s c powered hc => ?cleared, fun s cause hcause => s.powerOnReset_shows hcause, fun s hheld => ?assert,
    fun s tcrit tchan twinRole bootHold fandef xspiMode c hc hheld => ⟨?testen, fun hvao => ?boots, fun hvao => ?waits⟩,
    fun s cause hal hdown hpor hlead => ?pending, fun s u hlost hu => ⟨fun hal => ?vsett, fun hal => ?vsettHeld⟩, fun s hvao => ?brownout,
    fun s hvao hheld => ?vao, fun s hvao hheld => ?vaoHeld, fun s hal => ?pads⟩
  case cleared =>
    subst hc
    refine ⟨s.cleared_rd powered, rfl, rfl, rfl, rfl, rfl, rfl, rfl, rfl, rfl, rfl, rfl, fun hp hhalt => ?_⟩
    subst hp
    exact s.burrow.restart_keeps hhalt
  case assert => exact Does.of_guard rfl (by rw [hheld]; rfl) ⟨rfl, fun f i => rfl⟩
  case testen => rw [hc, porstRelease_testen _ _ _ _ _ _ hheld]
  case boots =>
    have hrun := porstRelease_boots tcrit tchan twinRole bootHold fandef xspiMode hheld hvao
    obtain ⟨hstraps, -⟩ := s.sampled_dwell (strapsOf tcrit tchan twinRole bootHold fandef xspiMode)
    have hpart := (s.sampled (strapsOf tcrit tchan twinRole bootHold fandef xspiMode)).boot_part 1
    have hrd := s.sampled_boot_rd (strapsOf tcrit tchan twinRole bootHold fandef xspiMode)
    have hchan := State.applyStraps_channels ((s.sampled (strapsOf tcrit tchan twinRole bootHold fandef xspiMode)).bootDwell 1)
    refine ⟨_, (hc false).symm ▸ hrun, (execPorstRelease_out tcrit tchan twinRole bootHold fandef xspiMode false s _ hrun).touches rfl rfl,
      ?_, ?_, State.boot_cause _ _ (by decide), ?_, ?threshold, fun z hz => ?input, ?role, fun z hz k hk => ?duty, ?chan, ?chan', fun g hg => ?dwell,
      State.boot_cycles _ _⟩
    · rw [hpart]
      rfl
    · rw [hpart]
    · rw [hpart]
      rfl
    case threshold =>
      rw [hrd _ _ rfl, State.applyStraps_threshold, hstraps]
      exact Nat.mod_eq_of_lt (by have := tcrit.isLt; simp only [strapsOf]; omega)
    case input =>
      rw [hrd _ _ rfl, State.applyStraps_input _ hz, hstraps]
      refine Nat.mod_eq_of_lt (Nat.lt_of_le_of_lt (Nat.mul_le_mul_left 3 (Nat.pow_le_pow_right (by decide) (?_ : _ ≤ 24))) (by decide))
      have := tchan.isLt
      simp only [strapsOf]
      omega
    case role =>
      rw [State.sampled_role _ _ twinRole.isLt]
      simp only [strapsOf, ← BitVec.toNat_inj]
      rfl
    case duty =>
      rw [hrd _ _ rfl, State.applyStraps_duty _ (by omega), hstraps, show (8 * z + k) % 8 = k by omega]
      exact Nat.mod_eq_of_lt (fandefDuty_le _ hk)
    case chan =>
      rw [hrd _ _ rfl]
      rw [hstraps] at hchan
      exact hchan.1
    case chan' =>
      rw [hrd _ _ rfl]
      rw [hstraps] at hchan
      exact hchan.2
    case dwell => exact State.boot_dwellEnd _ _ hg
  case waits =>
    refine ⟨_, (hc false).symm ▸ porstRelease_waits tcrit tchan twinRole bootHold fandef xspiMode hheld hvao, (Frame.refl s _ _).part _ (by simp), rfl⟩
  case pending =>
    have hopen : (s.alive && s.allGroupsDown && (!(s.leads && s.coreUp && s.bit TWIN_STAT.link 0) || s.twin.handover)) = true := by
      rw [hal, hdown]
      obtain h | h | h | h := hlead <;> simp [h]
    refine Does.of_guard rfl hopen ?_
    rw [hpor]
  case vsett =>
    refine Does.of_guard rfl hlost ?_
    rw [hu, if_pos hal]
  case vsettHeld =>
    refine Does.of_guard rfl hlost ?_
    rw [hu, if_neg (by rw [hal]; decide)]
  case brownout => exact Does.of_guard rfl (by rw [hvao]; rfl) ⟨rfl, fun f i => rfl⟩
  case vao =>
    refine Does.of_guard rfl hvao ?_
    rw [if_neg (by rw [hheld]; decide)]
    have hpart := State.boot_part { s with part := { s.part with vaoLow := false } } 2
    refine ⟨?_, ?_, State.boot_cause _ _ (by decide)⟩
    · rw [hpart]
    · rw [hpart]
  case vaoHeld =>
    refine Does.of_guard rfl hvao ?_
    rw [if_pos hheld]
    exact ⟨(Frame.refl s _ _).part _ (by simp), rfl⟩
  case pads =>
    have hsett : s.settUp = false := by rw [State.settUp, hal]; rfl
    have hcore : s.coreUp = false := by rw [State.coreUp, hal]; rfl
    refine ⟨fun n => padOf_off _ (by rw [hal]; rfl), fun w => if_neg (by rw [hsett]; decide), fun b => padOf_off _ hal, padOf_off _ hal,
      padOf_off _ hal, fun o => if_neg (by simp [hal]), fun b => padOf_off _ hal, fun b => openDrain_off (by rw [State.lsOff, hal]; rfl),
      openDrain_off (by rw [hal]; rfl), padOf_off _ hal, padOf_off _ hal, if_pos (by rw [hal]; rfl), if_pos ?_, ?_⟩
    · rw [State.coreStage, hcore, Bool.and_false]
      rfl
    · rw [State.tdoDriven, State.jtagOpen, hal]
      rfl

end Sys2Proof.Machine
end

section
/-!
SUPPORT. Descriptors about wards, licences and leaks (12 to 15).
-/
namespace Sys2Proof.Machine

/-! ## Buffers written -/

theorem State.dmaOut_written {s : State} {via : Via} {d : Desc} (hd : s.descOf via = some d) (l : List Byte) :
    Frame [.hostRest] [] s (s.dmaOut via l) ∧ (s.dmaOut via l).host.written = (d.addr0.toNat, l) := by
  rw [State.dmaOut, hd]
  exact ⟨(Frame.refl s _ _).upd (fun b hb => by cases b <;> simp_all [Block.same]) rfl, rfl⟩

/-! ## WARD_REG (R319, R320) -/

section
variable {s : State} (p : Nat) (r : Req)

theorem State.sendReq_sends (h : (s.port p).reqs.length < 64) :
    ((s.sendReq p r).port p).reqs = (s.port p).reqs ++ [{ r with tag := (s.port p).freeTag, sends := 1, sentAt := s.bootUs }] := by
  have hcount : ∀ u : State, (u.countReqs p).port p = u.port p := fun u => by
    rw [State.port, State.port, show (u.countReqs p).ports = u.ports from (u.countReqs_within p).block .ports rfl]
  unfold State.sendReq
  dsimp only
  rw [if_pos h, hcount, State.setPort_port_same]

theorem State.request_sends (hlinked : s.linked p = true) (hsh : s.shadow_ = false) (hopen : s.secureShut p r.addr = false) :
    s.request p r = s.sendReq p r := by
  rw [State.request, if_neg (by rw [hlinked, hsh]; decide), if_neg (by rw [hopen]; decide)]

theorem State.request_unlinked (hlinked : s.linked p = false) {pair slot : Nat} (ho : r.owner = .host pair slot) :
    s.request p r = s.complete pair slot St.refusedState 0 0 false := by
  rw [State.request, if_pos (by rw [hlinked]; rfl), ho, State.endReq]
  split
  · rfl
  · rfl

end

theorem State.begin__linked (s : State) (via : Via) (w : Nat) : (s.begin_ via).linked w = s.linked w :=
  congrArg (· == 3) ((s.begin__within via).rd WPORT_STAT.state w rfl)

theorem State.begin__secureShut (s : State) (via : Via) (w addr : Nat) : (s.begin_ via).secureShut w addr = s.secureShut w addr := by
  obtain ⟨-, hport, hward⟩ := s.begin__kept via
  rw [State.secureShut, State.secureShut, hport, hward]

theorem State.begin__shadow (s : State) (via : Via) : (s.begin_ via).shadow_ = s.shadow_ :=
  congrArg (· == 2) ((s.begin__within via).rd TWIN_STAT.role 0 rfl)

/-- The request that a WARD_REG descriptor makes. -/
def wardReqOf (d : Desc) (r slot : Nat) (data : List (BitVec 32)) : Req :=
  { owner := .host r slot, read := descParam d 0x2D 1 == 1, addr := descParam d 0x30 6, count := descParam d 0x2E 1,
    data := if descParam d 0x2D 1 = 1 then [] else (List.range (descParam d 0x2E 1)).map fun i => data.getD i 0 }

theorem wardReg_requests {s : State} (w : Fin 8) {r : Fin 32} {slot : BitVec 12} {d : Desc} (data : List (BitVec 32)) (hfw : s.fwUp = true)
    (hsh : s.shadow_ = false) (hd : s.descOf (.ring r slot) = some d)
    (hgiven : s.given (.ring r slot) 0x0302 (fun d => descParam d 0x2C 1 == w.val) = true) :
    exec (.wardReg w (.ring r slot) data) s = .next ((s.begin_ (.ring r slot)).request w (wardReqOf d r slot.toNat data)) := by
  refine (doIf_pos _ _ (by rw [hfw, Bool.true_and]; exact hgiven)).trans (congrArg Host.Outcome.next ?_)
  rw [hd]
  exact if_neg (by rw [hsh]; decide)

/-! ## Licences (R372) -/

/-- The state with the signature engine used. -/
def State.cryptoUsed (s : State) : State := { s with secure := { s.secure with cryptoAt := s.bootUs } }

theorem State.cryptoUsed_frame (s : State) : Frame [.secure] [] s s.cryptoUsed :=
  (Frame.refl s _ _).upd (fun b hb => by cases b <;> simp_all [Block.same, State.cryptoUsed]) rfl

section
variable {s : State} {r : Fin 32} {slot : BitVec 12} (lic : Licence) (hfw : s.fwUp = true)
  (hgiven : s.given (.ring r slot) 0x0305 (fun _ => true) = true)
include hfw hgiven

theorem licenceInstall_refused {c : Nat} (hc : s.licRefusal lic = some c) :
    exec (.licenceInstall (.ring r slot) lic) s = .next (s.cryptoUsed.finish (.ring r slot) c) := by
  refine (doIf_pos _ _ (by rw [hfw, hgiven]; rfl)).trans (congrArg Host.Outcome.next ?_)
  have hsame : s.cryptoUsed.licRefusal lic = some c := hc
  unfold State.useCrypto
  dsimp only
  split
  · rename_i c' h
    cases hsame.symm.trans h
    rfl
  · rename_i h
    cases hsame.symm.trans h

/-- The licences without an older one for the die. -/
def State.licencesKept (s : State) (lic : Licence) : Tab (Option Licence) :=
  match s.licenceFor (licDie lic) with
  | some k => Tab.set none s.wards.licences k none
  | none => s.wards.licences

/-- The licence put into a free slot, any older one for its die erased. -/
def State.licenced (s : State) (lic : Licence) : State :=
  let free := ((List.range 256).find? fun k => (Tab.get none s.wards.licences k).isNone).getD 0
  { s with wards := { s.wards with licences := Tab.set none (s.licencesKept lic) free (some lic) } }

theorem licenceInstall_installs (hc : s.licRefusal lic = none) :
    exec (.licenceInstall (.ring r slot) lic) s = .next (((s.cryptoUsed.licenced lic).record Ev.WARD_LIC_INSTALLED Src.security
      [dieDigest (licDie lic), licNat lic 0x1C 4, licKey lic]).finish (.ring r slot) St.ok) := by
  refine (doIf_pos _ _ (by rw [hfw, hgiven]; rfl)).trans (congrArg Host.Outcome.next ?_)
  have hsame : s.cryptoUsed.licRefusal lic = none := hc
  unfold State.useCrypto
  dsimp only
  split
  · rename_i c' h
    cases hsame.symm.trans h
  · rfl

end

theorem State.licenced_stores (s : State) (lic : Licence) : ∃ k, Tab.get none (s.licenced lic).wards.licences k = some lic :=
  ⟨_, Tab.get_set_same none (s.licencesKept lic) _ (some lic)⟩

/-! ## Leaks (R296) -/

theorem State.begin__setts (s : State) (via : Via) : (s.begin_ via).setts = s.setts := (s.begin__within via).setts rfl

theorem State.begin__branch (s : State) (via : Via) (b n : Nat) : (s.begin_ via).branchEngine b = s.branchEngine b ∧
    (s.begin_ via).priv n 0x788 = s.priv n 0x788 := by
  cases via with
  | firmware => exact ⟨rfl, rfl⟩
  | ring r slot => exact ⟨rfl, rfl⟩

theorem State.clearBranch_frame (s : State) (b : Nat) : Frame [.settRest] [] s (s.clearBranch b) := by
  unfold State.clearBranch
  split
  · exact (Frame.refl s _ _).settRest _ (by simp) rfl rfl
  · exact Frame.refl s _ _

theorem State.clearBranch_fwWrites {s : State} {b n : Nat} (h : s.branchEngine b = some n) :
    (s.clearBranch b).setts.fwWrites = s.setts.fwWrites ++ [(privKey n 0x788, s.priv n 0x788 + 1)] := by
  rw [State.clearBranch, h]

/-- Settles O37, by the effect of each descriptor. -/
theorem wardDescriptors : Obligations.WardDescriptors := by
  refine ⟨fun s r slot d hfw hd hgiven => ?_, fun s w r slot d hfw hd hgiven => ⟨fun hm => ?_, fun hm => ?_⟩,
    fun s w r slot d data hfw hsh hd hgiven => ⟨fun hlinked hopen hroom => ?sends, fun hlinked => ?unlinked⟩,
    fun s r slot lic hfw hgiven => ⟨fun c hc => ?refused, fun hc => ?installs⟩,
    fun s b r slot hfw hgiven => ⟨fun hsh => ?clears, fun hsh => ?shadow⟩⟩
  · exact ⟨_, doIf_pos _ _ (by rw [hfw, hgiven]; rfl), State.dmaOut_written hd _⟩
  · exact ⟨_, (doIf_pos _ _ (by rw [hfw, Bool.and_true]; exact hgiven)).trans (congrArg Host.Outcome.next (if_pos hm)), State.dmaOut_written hd _⟩
  · exact ⟨_, (doIf_pos _ _ (by rw [hfw, Bool.and_true]; exact hgiven)).trans (congrArg Host.Outcome.next (if_neg (by rw [hm]; decide))), rfl⟩
  case sends =>
    obtain ⟨hnow, hport, -⟩ := s.begin__kept (.ring r slot)
    have hrun := wardReg_requests w data hfw hsh hd hgiven
    rw [State.request_sends _ _ ((s.begin__linked _ w).trans hlinked) ((s.begin__shadow _).trans hsh) ((s.begin__secureShut _ w _).trans hopen)] at hrun
    refine ⟨_, hrun, (((Within.refl [.hostRest, .ports] [6016] s).step (s.begin__within _) rfl).step (State.sendReq_within _ _ _) rfl).touches rfl rfl,
      { wardReqOf d r slot.toNat data with tag := (s.port w).freeTag, sends := 1, sentAt := s.bootUs }, ?_, rfl, rfl, rfl, rfl, rfl, rfl⟩
    rw [State.sendReq_sends _ _ (by rw [hport]; exact hroom), hport, hnow]
  case unlinked =>
    have hrun := wardReg_requests w data hfw hsh hd hgiven
    rw [State.request_unlinked _ _ ((s.begin__linked _ w).trans hlinked) rfl] at hrun
    exact ⟨_, hrun, rfl⟩
  case refused => exact ⟨_, licenceInstall_refused lic hfw hgiven hc, s.cryptoUsed_frame, rfl⟩
  case installs =>
    refine ⟨_, licenceInstall_installs lic hfw hgiven hc, ?_, ?_⟩
    · have hstored : Within [.wards, .secure, .msix, .burrow] recCodes s (s.cryptoUsed.licenced lic) :=
        Within.set_wards _ (Within.set_secure _ (Within.refl _ _ s) rfl) rfl
      exact (hstored.step (State.record_within _ _ _ _) rfl).touches rfl rfl
    · rw [State.record_wards]
      exact s.cryptoUsed.licenced_stores lic
  case clears =>
    have hbegun : Frame [.hostRest, .settRest] [] s (s.begin_ (.ring r slot)) :=
      (Frame.refl s _ _).upd (fun b hb => by cases b <;> simp_all [Block.same, State.begin_, State.setPair]) rfl
    refine Does.of_guard rfl (by rw [hfw, Bool.true_and]; exact hgiven) ?_
    rw [if_neg (by rw [hsh]; decide)]
    refine ⟨hbegun.trans ((State.clearBranch_frame _ b).mono (by simp) (by simp)), rfl, fun n hn => ?_⟩
    obtain ⟨hbranch, hpriv⟩ := s.begin__branch (.ring r slot) b n
    rw [State.clearBranch_fwWrites (hbranch.trans hn), s.begin__setts, hpriv]
  case shadow =>
    exact ⟨_, (doIf_pos _ _ (by rw [hfw, Bool.true_and]; exact hgiven)).trans (congrArg Host.Outcome.next (if_pos hsh)), rfl⟩

end Sys2Proof.Machine
end

section
/-!
SUPPORT. Staging, confirming and the end of a trial (19).
-/
namespace Sys2Proof.Machine

theorem Frame.secure {bs : List Block} {fs : List (Fld × Nat)} {s t : State} (h : Frame bs fs s t) (z : Secure) (hb : .secure ∈ bs) :
    Frame bs fs s { t with secure := z } :=
  h.upd (fun b hn => by cases b <;> simp_all [Block.same]) rfl

theorem State.setSlot_frame (s : State) (b : Bool) (x : Slot) : Frame [.secure] [] s (s.setSlot b x) := (Frame.refl s _ _).secure _ (by simp)

theorem State.setSlot_slotOf_same (s : State) (b : Bool) (x : Slot) : (s.setSlot b x).slotOf b = x := by
  cases b <;> rfl

theorem State.setSlot_slotOf_other (s : State) (b : Bool) (x : Slot) : (s.setSlot b x).slotOf (!b) = s.slotOf (!b) := by
  cases b <;> rfl

/-! ## The start of a stage (R451) -/

section
variable {s : State} {r : Fin 32} {slot : BitVec 12} (part : Component) (room : Bool) (evict : List (BitVec 384)) {d : Desc} (hfw : s.fwUp = true)
  (hgiven : s.given (.ring r slot) 0x0500 (fun d => descParam d 0x2C 1 == contentType part.content && d.len0 == part.length) = true)
  (hd : s.descOf (.ring r slot) = some d)

/-- The image's slot erased. -/
def State.erased (s : State) (d : Desc) : State := if descParam d 0x2C 1 = 1 then s.setSlot (descParam d 0x2D 1 == 1) {} else s

/-- A stage begun. -/
def State.stages (s : State) (via : Via) (d : Desc) (part : Component) (evict : List (BitVec 384)) : State :=
  let u := (s.begin_ via).erased d
  { u with secure := { u.secure with
      store := u.secure.store.filter fun c => descParam d 0x2C 1 == 1 || u.protected_ c.digest || !evict.contains c.digest
      staging := some { via, part, type := descParam d 0x2C 1, target := descParam d 0x2D 1, since := u.bootUs } } }

include hfw hgiven hd

theorem stageComponent_refused {c : Nat} (hc : s.stageRefusal (descParam d 0x2C 1) (descParam d 0x2D 1) room = some c) :
    exec (.stageComponent (.ring r slot) part room evict) s = .next (s.finish (.ring r slot) c) := by
  refine (doIf_pos _ _ (by rw [hfw, Bool.and_true]; exact hgiven)).trans (congrArg Host.Outcome.next ?_)
  rw [hd]
  dsimp only
  rw [hc]

theorem stageComponent_stages (hc : s.stageRefusal (descParam d 0x2C 1) (descParam d 0x2D 1) room = none) :
    exec (.stageComponent (.ring r slot) part room evict) s = .next (s.stages (.ring r slot) d part evict) := by
  refine (doIf_pos _ _ (by rw [hfw, Bool.and_true]; exact hgiven)).trans (congrArg Host.Outcome.next ?_)
  rw [hd]
  dsimp only
  rw [hc]
  rfl

end

theorem State.begin__secure (s : State) (via : Via) : (s.begin_ via).secure = s.secure := (s.begin__within via).block .secure rfl

theorem State.begin__protected (s : State) (via : Via) (x : BitVec 384) : (s.begin_ via).protected_ x = s.protected_ x := by
  rw [State.protected_, State.protected_, s.begin__secure]

theorem State.begin__frame (s : State) (r : Fin 32) (slot : BitVec 12) : Frame [.hostRest, .secure] [] s (s.begin_ (.ring r slot)) :=
  (Frame.refl s _ _).upd (fun b hb => by cases b <;> simp_all [Block.same, State.begin_, State.setPair]) rfl

theorem State.erased_frame (s : State) (d : Desc) : Frame [.secure] [] s (s.erased d) :=
  if_cases (P := fun u => Frame [.secure] [] s u) (fun _ => s.setSlot_frame _ _) (fun _ => Frame.refl s _ _)

theorem State.erased_store (s : State) (d : Desc) : (s.erased d).secure.store = s.secure.store := by
  unfold State.erased
  split
  · cases hb : (descParam d 0x2D 1 == 1) <;> rfl
  · rfl

theorem State.stages_keeps (s : State) (via : Via) (d : Desc) (part : Component) (evict : List (BitVec 384)) {c : Component} (hc : c ∈ s.secure.store)
    (h : s.protected_ c.digest = true ∨ c.digest ∉ evict) : c ∈ (s.stages via d part evict).secure.store := by
  refine List.mem_filter.mpr ⟨?_, ?_⟩
  · rw [State.erased_store, State.begin__secure]
    exact hc
  · by_cases htype : descParam d 0x2C 1 = 1
    · simp [htype]
    · have hsame : (s.begin_ via).erased d = s.begin_ via := if_neg htype
      rw [hsame, State.begin__protected]
      simpa [htype] using h


theorem State.stages_frame (s : State) (r : Fin 32) (slot : BitVec 12) (d : Desc) (part : Component) (evict : List (BitVec 384)) :
    Frame [.hostRest, .secure] [] s (s.stages (.ring r slot) d part evict) :=
  ((s.begin__frame r slot).trans (((s.begin_ (.ring r slot)).erased_frame d).mono (by decide) (by simp))).secure _ (by simp)

theorem State.stages_staging (s : State) (via : Via) (d : Desc) (part : Component) (evict : List (BitVec 384)) :
    (s.stages via d part evict).secure.staging =
      some { via, part, type := descParam d 0x2C 1, target := descParam d 0x2D 1, since := s.bootUs } := by
  have hus : ((s.begin_ via).erased d).bootUs = s.bootUs :=
    (((s.begin_ via).erased_frame d).1 .bootUs (by decide)).trans ((s.begin__within via).block .bootUs rfl)
  rw [← hus]
  rfl

theorem State.stages_slot (s : State) (via : Via) {d : Desc} (part : Component) (evict : List (BitVec 384)) (htype : descParam d 0x2C 1 = 1) :
    (s.stages via d part evict).slotOf (descParam d 0x2D 1 == 1) = {} := by
  have hset : (s.begin_ via).erased d = (s.begin_ via).setSlot (descParam d 0x2D 1 == 1) {} := if_pos htype
  refine Eq.trans ?_ ((s.begin_ via).setSlot_slotOf_same (descParam d 0x2D 1 == 1) {})
  rw [← hset]
  rfl

/-! ## The end of a stage (R451, R452) -/

/-- A stage that has ended, the signature engine used. -/
def State.stageEnded (s : State) : State := { s with secure := { s.secure with staging := none, cryptoAt := s.bootUs } }

/-- A component in the directory, in the place of one with its digest. -/
def State.entered (s : State) (c : Component) : State :=
  { s with secure := { s.secure with store := (s.secure.store.filter fun (x : Component) => x.digest != c.digest) ++ [c] } }

/-- What a source that is intact becomes: the status, or the image or component taken. -/
def State.stageJudged (s : State) (g : Staging) : State :=
  if g.type = 1 then
    if s.stagedVerdict g.part = 4 ∨ s.stagedVerdict g.part = 5 ∨ s.stagedVerdict g.part = 6 then s.finish g.via St.badSignature
    else if s.stagedVerdict g.part ≠ 0 then s.finish g.via St.incompatible (s.stagedVerdict g.part)
    else (s.setSlot (g.target == 1) { state := 1, image := match g.part.content with
      | .image l k => (parseHeader l).map fun h => (g.part, h, k)
      | _ => none }).stageOk g
  else (s.entered g.part).stageOk g

theorem stageDone_judges {s : State} {g : Staging} (sourceOk : Bool) (hfw : s.fwUp = true) (hg : s.secure.staging = some g) :
    exec (.stageDone sourceOk) s = .next (if !sourceOk || s.windowBad g.via then s.stageEnded.finish g.via St.integrity 1
      else s.stageEnded.stageJudged g) := by
  refine (doIf_pos _ _ hfw).trans (congrArg Host.Outcome.next ?_)
  unfold State.useCrypto
  dsimp only
  rw [hg]
  rfl

theorem State.stageEnded_frame (s : State) : Frame [.secure] [] s s.stageEnded := (Frame.refl s _ _).secure _ (by simp)

section
variable {s : State} {g : Staging} (hfw : s.fwUp = true) (hg : s.secure.staging = some g)
include hfw hg

theorem stageDone_bad {sourceOk : Bool} (hbad : sourceOk = false ∨ s.windowBad g.via = true) :
    exec (.stageDone sourceOk) s = .next (s.stageEnded.finish g.via St.integrity 1) :=
  (stageDone_judges sourceOk hfw hg).trans (congrArg Host.Outcome.next (if_pos (by rcases hbad with h | h <;> simp [h])))

theorem stageDone_intact (hok : s.windowBad g.via = false) : exec (.stageDone true) s = .next (s.stageEnded.stageJudged g) :=
  (stageDone_judges true hfw hg).trans (congrArg Host.Outcome.next (if_neg (by simp [hok])))

end

theorem State.stageJudged_pending {s : State} {g : Staging} {l : List Word} {k : ImageCheck} {h : Header} (htype : g.type = 1)
    (hc : g.part.content = .image l k) (hl : parseHeader l = some h) (hv : s.stagedVerdict g.part = 0) :
    s.stageJudged g = (s.setSlot (g.target == 1) { state := 1, image := some (g.part, h, k) }).stageOk g := by
  rw [State.stageJudged, if_pos htype, if_neg (by simp [hv]), if_neg (by simp [hv]), hc]
  dsimp only
  rw [hl]
  rfl

theorem State.entered_mem (s : State) (c : Component) : c ∈ (s.entered c).secure.store :=
  List.mem_append_right _ (List.mem_singleton_self c)

/-! ## Confirming (R459, R460) -/

theorem State.handedWithin_frame {s t : State} (h : Frame [.secure] [] s t) (hat : t.secure.handedAt = s.secure.handedAt) (n : Nat) :
    t.handedWithin n = s.handedWithin n := by
  rw [State.handedWithin, State.handedWithin, hat, show t.bootUs = s.bootUs from h.1 .bootUs (by decide)]

theorem State.advanceFloor_slotOf (s : State) (b c : Bool) : (s.advanceFloor b).slotOf c = s.slotOf c := by
  unfold State.advanceFloor
  dsimp only
  split
  · rw [State.slotOf, State.record_secure]
    rfl
  · rfl

theorem State.record_slotOf (s : State) (code source : Nat) (data : List Nat) (b : Bool) : (s.record code source data).slotOf b = s.slotOf b := by
  rw [State.slotOf, State.record_secure]
  rfl

/-- The running slot committed. -/
def State.slotCommitted (s : State) (b : Bool) : State :=
  ((s.setSlot b { s.slotOf b with state := 3 }).record Ev.UPD_COMMITTED Src.firmware
    [b.toNat, ((s.slotOf b).active.map (·.setSeq.toNat)).getD 0]).advanceFloor b

/-- The live set committed. -/
def State.liveCommitted (s : State) (b : Bool) : State :=
  ((s.setSlot b { s.slotOf b with good := (s.slotOf b).active }).wr SEC_UPD.live_pending 0 0).record Ev.UPD_COMMITTED Src.firmware
    [2, (s.secure.set.map (·.setSeq.toNat)).getD 0]

/-- What COMMIT_CONFIRM does of a running slot, outside the guard. -/
def State.confirm (s : State) (via : Via) (b : Bool) : State :=
  if (s.slotOf b).state = 2 then
    (if (s.slotOf b).expired || s.handedWithin 10 then s.finish via St.refusedState else (s.slotCommitted b).finish via St.ok)
  else if s.bit SEC_UPD.live_pending 0 then (s.liveCommitted b).finish via St.ok
  else s.finish via St.refusedState

section
variable {s : State} {r : Fin 32} {slot : BitVec 12} (hfw : s.fwUp = true) (hgiven : s.given (.ring r slot) 0x0502 (fun _ => true) = true)
include hfw hgiven

theorem commitConfirm_guarded (hg : s.guarded = true) :
    exec (.commitConfirm (.ring r slot)) s = .next (s.finish (.ring r slot) St.refusedGuard) :=
  (doIf_pos _ _ (by rw [hfw, hgiven]; rfl)).trans (congrArg Host.Outcome.next (if_pos hg))

theorem commitConfirm_confirms {b : Bool} (hg : s.guarded = false) (hrun : s.running? = some b) :
    exec (.commitConfirm (.ring r slot)) s = .next (s.confirm (.ring r slot) b) := by
  refine (doIf_pos _ _ (by rw [hfw, hgiven]; rfl)).trans (congrArg Host.Outcome.next ?_)
  rw [if_neg (by rw [hg]; decide), hrun]
  rfl

end

theorem State.slotCommitted_within (s : State) (b : Bool) : Within [.secure, .msix, .burrow] recCodes s (s.slotCommitted b) :=
  (((Within.refl _ _ s).step (s.setSlot_within b _) rfl).step (State.record_within _ _ _ _) rfl).step (State.advanceFloor_within _ _) rfl

/-! ## The end of a trial (R436) -/

theorem trialExpiry_expires {s : State} {b : Bool} (hal : s.alive = true) (hrun : s.running? = some b) (htrial : (s.slotOf b).state = 2)
    (hpend : s.part.pendingPor = none) (hhanded : s.secure.handedAt.isSome = true) (hlate : s.handedWithin 120 = false)
    (hexp : (s.slotOf b).expired = false) :
    ∃ secs, exec .trialExpiry s = .next ((fun u : State => { u with secure := { u.secure with selecting := some 2 } })
      ((s.setSlot b { s.slotOf b with expired := true }).record Ev.IMG_TRIAL_EXPIRED Src.security [b.toNat, secs])) := by
  refine ⟨(s.bootUs - s.secure.handedAt.getD 0) / 1000000, (doIf_pos _ _ ?_).trans (congrArg Host.Outcome.next ?_)⟩
  · simp [hal, State.trialRuns, hrun, htrial, hpend, hhanded, hlate]
  · rw [hrun]
    exact if_neg (by rw [hexp]; decide)

/-- Settles O38, by the lemmas of a stage's two ends, a confirmation and a trial's end. -/
theorem stagingAndCommit : Obligations.StagingAndCommit := by
  refine ⟨fun s r slot part room evict d hfw hgiven hd => ⟨fun c hc => ?_, fun hc => ?_⟩, fun s u g sourceOk hfw hg hu => ?_,
    fun s r slot b hfw hgiven => ⟨fun hguard => ?_, fun hguard hrun htrial hexp hlate => ?trial, fun hguard hrun htrial hbad => ?early,
      fun hguard hrun htrial hlive => ?live⟩,
    fun s b hal hrun htrial hpend hhanded hlate hexp => ?expiry⟩
  · exact ⟨s, stageComponent_refused part room evict hfw hgiven hd hc, rfl⟩
  · exact ⟨_, stageComponent_stages part room evict hfw hgiven hd hc, s.stages_frame r slot d part evict, s.stages_staging _ d part evict,
      s.stages_slot _ part evict, fun c hm h => s.stages_keeps _ d part evict hm h⟩
  · have hended : u = s.stageEnded := hu
    subst hended
    refine ⟨fun hbad => ⟨s.stageEnded, stageDone_bad hfw hg hbad, rfl⟩, fun hok => ⟨fun htype hv => ?_, fun htype hpos hv => ?_,
      fun l h k htype hc hl hv => ?_, fun htype => ?_⟩⟩
    · exact ⟨_, (stageDone_intact hfw hg hok).trans (congrArg Host.Outcome.next ((if_pos htype).trans (if_pos hv))), rfl⟩
    · exact ⟨_, (stageDone_intact hfw hg hok).trans (congrArg Host.Outcome.next ((if_pos htype).trans ((if_neg (by omega)).trans
        (if_pos (by omega))))), rfl⟩
    · refine ⟨_, (stageDone_intact hfw hg hok).trans (congrArg Host.Outcome.next (State.stageJudged_pending htype hc hl hv)),
        s.stageEnded_frame.trans (State.setSlot_frame _ _ _), State.setSlot_slotOf_same _ _ _, ?_⟩
      exact State.setSlot_slotOf_other _ _ _
    · exact ⟨_, (stageDone_intact hfw hg hok).trans (congrArg Host.Outcome.next (if_neg htype)), s.stageEnded_frame.secure _ (by simp),
        State.entered_mem _ _, rfl, rfl⟩
  · exact ⟨s, commitConfirm_guarded hfw hgiven hguard, rfl⟩
  case trial =>
    have hcommits : s.confirm (.ring r slot) b = (s.slotCommitted b).finish (.ring r slot) St.ok :=
      (if_pos htrial).trans (if_neg (by simp [hexp, hlate]))
    have hslot : (s.slotCommitted b).slotOf b = { s.slotOf b with state := 3 } := by
      rw [State.slotCommitted, State.advanceFloor_slotOf, State.record_slotOf, State.setSlot_slotOf_same]
    refine ⟨s.slotCommitted b, (commitConfirm_confirms hfw hgiven hguard hrun).trans (congrArg Host.Outcome.next hcommits),
      (s.slotCommitted_within b).touches rfl rfl, ?_, ?_⟩
    · rw [hslot]
    · rw [hslot]
  case early =>
    exact ⟨s, (commitConfirm_confirms hfw hgiven hguard hrun).trans (congrArg Host.Outcome.next ((if_pos htrial).trans
      (if_pos (by rcases hbad with h | h <;> simp [h])))), rfl⟩
  case live =>
    have hwithin : Within [.secure, .msix, .burrow] (8922 :: recCodes) s (s.liveCommitted b) :=
      (((Within.refl _ _ s).step (s.setSlot_within b _) rfl).wr SEC_UPD.live_pending 0 0 rfl).step (State.record_within _ _ _ _) rfl
    refine ⟨s.liveCommitted b, (commitConfirm_confirms hfw hgiven hguard hrun).trans (congrArg Host.Outcome.next
      ((if_neg htrial).trans (if_pos hlive))), hwithin.touches rfl rfl, ?_, ?_⟩
    · rw [State.liveCommitted, (State.record_within _ _ _ _).rd SEC_UPD.live_pending 0 rfl]
      exact State.rd_wr_lt _ 0 (by decide)
    · rw [State.liveCommitted, State.record_slotOf]
      exact s.setSlot_slotOf_same b _
  case expiry =>
    obtain ⟨secs, hrun'⟩ := trialExpiry_expires hal hrun htrial hpend hhanded hlate hexp
    refine ⟨_, hrun', (execTrialExpiry_out s _ hrun').touches rfl rfl, ?_, rfl⟩
    exact (State.record_slotOf _ _ _ _ b).trans (s.setSlot_slotOf_same b _)

end Sys2Proof.Machine
end

section
/-!
SUPPORT. Arming, cancelling and activating a set (19).
-/
namespace Sys2Proof.Machine

/-! ## ACTIVATE_SET (R454, R457) -/

/-- The ward components that a live set changes. -/
def State.liveChanges (s : State) (m : Manifest) : List (Bool × Nat) := match s.secure.set with
  | some a => changedParts a m
  | none => []

/-- A set that passes its checks: refused by the guard, armed after its ward components are copied, or armed at once. -/
def State.activateChecked (s : State) (via : Via) (m : Manifest) (t : Nat) : State :=
  if s.guarded then s.finish via St.refusedGuard
  else if s.isLive m && !(s.liveChanges m).isEmpty then
    { s.begin_ via with secure := { s.secure with copying := some (via, m, t), copyDue := s.liveChanges m } }
  else s.arm via m t (!s.isLive m)

/-- What ACTIVATE_SET does with a manifest. -/
def State.activateManifest (s : State) (via : Via) (m : Manifest) (t : Nat) (models shadowOk : Bool) : State :=
  if !s.manifestSigned m then s.finish via St.badSignature
  else if s.activateCheck m models shadowOk = 0 then s.activateChecked via m t
  else (s.wr SEC_UPD.last_check 0 (s.activateCheck m models shadowOk)).finish via St.incompatible (s.activateCheck m models shadowOk)

/-- The armed set dropped, of which a lead tells the shadow. -/
def State.disarmed (s : State) : State := ({ s with secure := { s.secure with armed := none } }).tellTwin .cancel

/-- What ACTIVATE_SET does at tick `t`, 0 to cancel. -/
def State.activates (s : State) (via : Via) (bytes : Signed) (models shadowOk : Bool) (t : Nat) : State :=
  if s.shadow_ then s.finish via St.refusedState
  else if t = 0 then (if s.secure.armed.isSome then s.disarmed.finish via St.ok else s.finish via St.refusedState)
  else if s.secure.armed.isSome then s.finish via St.busy
  else match parseManifest bytes with
    | none => s.finish via St.badDescriptor 8
    | some m => s.activateManifest via m t models shadowOk

/-- The signature engine is used before what follows. -/
theorem State.useCrypto_eq {s : State} {f g : State → State} (h : ∀ u, u = s.cryptoUsed → f u = g u) : s.useCrypto f = g s.cryptoUsed :=
  h _ rfl

theorem activateSet_activates {s : State} {r : Fin 32} {slot : BitVec 12} {d : Desc} (bytes : Signed) (models shadowOk : Bool) (hfw : s.fwUp = true)
    (hgiven : s.given (.ring r slot) 0x0501 (fun _ => true) = true) (hd : s.descOf (.ring r slot) = some d) :
    exec (.activateSet (.ring r slot) bytes models shadowOk) s =
      .next (s.cryptoUsed.activates (.ring r slot) bytes models shadowOk (descParam d 0x2C 8)) := by
  refine (doIf_pos _ _ (by rw [hfw, hgiven]; rfl)).trans (congrArg Host.Outcome.next ?_)
  refine State.useCrypto_eq (g := fun u => u.activates _ bytes models shadowOk _) fun u hu => ?_
  have hdu : u.descOf (.ring r slot) = some d := by
    rw [hu]
    exact hd
  dsimp only
  rw [hdu]
  refine ite_congr rfl (fun _ => rfl) fun _ => ite_congr rfl (fun _ => ?_) fun _ => ite_congr rfl (fun _ => rfl) fun _ => ?_
  · cases u.secure.armed <;> rfl
  · cases parseManifest bytes with
    | none => rfl
    | some m =>
      refine ite_congr rfl (fun _ => rfl) fun _ => ?_
      cases hc : u.activateCheck m models shadowOk with
      | zero => exact Eq.trans (b := u.activateChecked (.ring r slot) m (descParam d 0x2C 8)) rfl (if_pos rfl).symm
      | succ n => exact (if_neg (Nat.succ_ne_zero n)).symm

section
variable {s : State} (via : Via) (bytes : Signed) (models shadowOk : Bool) {t : Nat} (hsh : s.shadow_ = false)
include hsh

theorem State.activates_cancels (ht : t = 0) (harmed : s.secure.armed ≠ none) :
    s.activates via bytes models shadowOk t = s.disarmed.finish via St.ok :=
  (if_neg (ne_true_of_eq_false hsh)).trans ((if_pos ht).trans (if_pos (Option.isSome_iff_ne_none.mpr harmed)))

theorem State.activates_nothing_armed (ht : t = 0) (harmed : s.secure.armed = none) :
    s.activates via bytes models shadowOk t = s.finish via St.refusedState :=
  (if_neg (ne_true_of_eq_false hsh)).trans ((if_pos ht).trans (if_neg (by rw [harmed]; decide)))

variable (ht : t ≠ 0)
include ht

theorem State.activates_busy (harmed : s.secure.armed ≠ none) : s.activates via bytes models shadowOk t = s.finish via St.busy :=
  (if_neg (ne_true_of_eq_false hsh)).trans ((if_neg ht).trans (if_pos (Option.isSome_iff_ne_none.mpr harmed)))

variable (harmed : s.secure.armed = none)
include harmed

theorem State.activates_unparsed {bytes : Signed} (hp : parseManifest bytes = none) :
    s.activates via bytes models shadowOk t = s.finish via St.badDescriptor 8 := by
  rw [State.activates, if_neg (ne_true_of_eq_false hsh), if_neg ht, if_neg (by rw [harmed]; decide), hp]

theorem State.activates_manifest {bytes : Signed} {m : Manifest} (hp : parseManifest bytes = some m) :
    s.activates via bytes models shadowOk t = s.activateManifest via m t models shadowOk := by
  rw [State.activates, if_neg (ne_true_of_eq_false hsh), if_neg ht, if_neg (by rw [harmed]; decide), hp]

end

theorem State.disarmed_frame (s : State) : Frame [.secure, .twin] [] s s.disarmed :=
  Frame.ite (((Frame.refl s _ _).secure _ (by simp)).twin _ (by simp)) ((Frame.refl s _ _).secure _ (by simp))

theorem State.disarmed_armed (s : State) : s.disarmed.secure.armed = none := by
  rw [State.disarmed, (State.tellTwin_within _ _).block .secure rfl]

/-! ## Arming (R457, R492) -/

/-- The set armed. -/
def State.armSet (s : State) (m : Manifest) (t : Nat) (full : Bool) : State :=
  { s with secure := { s.secure with armed := some { set := m, at_ := t, full, slot := (((imageEntry m).bind s.slotWith).getD false).toNat } } }

theorem State.refuses_arming {s : State} {t : Nat} (via : Via) (m : Manifest) (full : Bool) (ht : s.tickOk t = false) :
    s.arm via m t full = s.finish via St.refusedState :=
  if_pos (by rw [ht]; rfl)

theorem State.arms_set {s : State} {t : Nat} (via : Via) (m : Manifest) (full : Bool) (ht : s.tickOk t = true) :
    ∃ c, s.arm via m t full =
      (((s.armSet m t full).record Ev.UPD_ARMED Src.firmware [m.setSeq.toNat, t, full.toNat]).tellTwin c).finish via St.ok :=
  ⟨_, if_neg (by rw [ht]; decide)⟩

theorem State.armSet_within (s : State) (m : Manifest) (t : Nat) (full : Bool) : Within [.secure] [] s (s.armSet m t full) :=
  (Within.refl _ _ s).set_secure _ rfl

theorem State.arms_set_within {s : State} {t : Nat} (via : Via) (m : Manifest) (full : Bool) (ht : s.tickOk t = true) :
    Within [.hostRest, .secure, .twin, .msix, .burrow] (7048 :: 7744 :: 7808 :: recCodes) s (s.arm via m t full) ∧
      (s.arm via m t full).secure = (s.armSet m t full).secure := by
  obtain ⟨c, harm⟩ := State.arms_set via m full ht
  rw [harm]
  constructor
  · exact ((((Within.refl _ _ s).step (s.armSet_within m t full) rfl).step (State.record_within _ _ _ _) rfl).step
      (State.tellTwin_within _ _) rfl).step (State.finish_within _ _ _ _ _ _) rfl
  · rw [(State.finish_within _ _ _ _ _ _).block .secure rfl, (State.tellTwin_within _ _).block .secure rfl, State.record_secure]

/-! ## The manifest's checks (R454) -/

section
variable {s : State} (via : Via) {m : Manifest} (t : Nat) {models shadowOk : Bool}

theorem State.activateManifest_unsigned (h : s.manifestSigned m = false) :
    s.activateManifest via m t models shadowOk = s.finish via St.badSignature :=
  if_pos (by rw [h]; rfl)

variable (hsigned : s.manifestSigned m = true)
include hsigned

theorem State.activateManifest_incompatible (h : s.activateCheck m models shadowOk ≠ 0) :
    s.activateManifest via m t models shadowOk = (s.wr SEC_UPD.last_check 0 (s.activateCheck m models shadowOk)).finish via St.incompatible
      (s.activateCheck m models shadowOk) :=
  (if_neg (by rw [hsigned]; decide)).trans (if_neg h)

theorem State.activateManifest_checked (h : s.activateCheck m models shadowOk = 0) :
    s.activateManifest via m t models shadowOk = s.activateChecked via m t :=
  (if_neg (by rw [hsigned]; decide)).trans (if_pos h)

end

theorem State.activateChecked_guarded {s : State} (via : Via) (m : Manifest) (t : Nat) (h : s.guarded = true) :
    s.activateChecked via m t = s.finish via St.refusedGuard :=
  if_pos h

theorem State.activateChecked_arms {s : State} (via : Via) {m : Manifest} (t : Nat) (hg : s.guarded = false)
    (h : s.isLive m = false ∨ ∃ a, s.secure.set = some a ∧ changedParts a m = []) :
    s.activateChecked via m t = s.arm via m t (!s.isLive m) := by
  refine (if_neg (ne_true_of_eq_false hg)).trans (if_neg ?_)
  rcases h with hlive | ⟨a, ha, hc⟩
  · simp [hlive]
  · simp [State.liveChanges, ha, hc]

theorem State.activateChecked_copies {s : State} (via : Via) {m : Manifest} (t : Nat) {a : Manifest} (hg : s.guarded = false)
    (hlive : s.isLive m = true) (ha : s.secure.set = some a) (hc : changedParts a m ≠ []) :
    s.activateChecked via m t =
      { s.begin_ via with secure := { s.secure with copying := some (via, m, t), copyDue := changedParts a m } } := by
  have hdue : s.liveChanges m = changedParts a m := by rw [State.liveChanges, ha]
  rw [State.activateChecked, if_neg (ne_true_of_eq_false hg), hdue]
  exact if_pos (by simp [hlive, hc])

/-! ## The tick of activation (R458, R501) -/

/-- What becomes of an armed set whose tick has come. -/
def State.activation (s : State) (a : Armed) : State :=
  match s.cancelCause a with
  | some c => s.cancelArmed c
  | none =>
    if !a.full then s.activateLive a.set
    else if s.leads then { s with secure := { s.secure with armed := some { a with shadowAt := some s.bootUs } } }
    else (s.activateFull a).appReset 0x09

section
variable {s : State} {a : Armed} (hfw : s.fwUp = true) (ha : s.secure.armed = some a)
include hfw ha

theorem activationTick_early (h : s.tick < a.at_) : exec .activationTick s = .next s := by
  refine (doIf_pos _ _ hfw).trans (congrArg Host.Outcome.next ?_)
  rw [ha]
  exact if_pos (Or.inl h)

theorem activationTick_activates (h : a.at_ ≤ s.tick) (hshadow : a.shadowAt = none) : exec .activationTick s = .next (s.activation a) := by
  refine (doIf_pos _ _ hfw).trans (congrArg Host.Outcome.next ?_)
  rw [ha]
  exact if_neg (by simp [hshadow, h])

end

theorem State.activation_cancels {s : State} {a : Armed} {c : Nat} (h : s.cancelCause a = some c) : s.activation a = s.cancelArmed c := by
  rw [State.activation, h]

section
variable {s : State} {a : Armed} (h : s.cancelCause a = none)
include h

theorem State.activation_live (hfull : a.full = false) : s.activation a = s.activateLive a.set := by
  rw [State.activation, h, hfull]
  rfl

theorem State.activation_waits (hfull : a.full = true) (hleads : s.leads = true) :
    s.activation a = { s with secure := { s.secure with armed := some { a with shadowAt := some s.bootUs } } } := by
  rw [State.activation, h, hfull]
  exact if_pos hleads

theorem State.activation_full (hfull : a.full = true) (hleads : s.leads = false) : s.activation a = (s.activateFull a).appReset 0x09 := by
  rw [State.activation, h, hfull]
  exact if_neg (ne_true_of_eq_false hleads)

end

theorem State.autoAgain_secure (s : State) : s.autoAgain.secure = s.secure := s.autoAgain_within.block .secure rfl

theorem State.activateLive_secure (s : State) (m : Manifest) :
    (s.activateLive m).secure.armed = none ∧ (s.activateLive m).secure.set = some m := by
  unfold State.activateLive
  extract_lets changed s1 c1 w1 s2 t1 s3
  have hs3 : s3.secure = s2.secure := if_cases (P := fun u : State => u.secure = s2.secure) (fun _ => rfl) (fun _ => rfl)
  have hsame : ∀ u : State, ((((u.wr SEC_UPD.live_pending 0 1).wr SEC_UPD.fallback 0 0).wr SEC_UPD.no_set 0 0).record Ev.UPD_ACTIVATED
      Src.firmware [m.setSeq.toNat, 0]).secure = u.secure := fun u => by rw [State.record_secure]; rfl
  rw [(State.judgeMatch_within _ _).block .secure rfl, hsame, State.autoAgain_secure, hs3]
  exact ⟨rfl, rfl⟩

theorem State.activateLive_pending (s : State) (m : Manifest) : (s.activateLive m).rd SEC_UPD.live_pending 0 = 1 := by
  unfold State.activateLive
  extract_lets changed s1 c1 w1 s2 t1 s3
  rw [(State.judgeMatch_within _ _).rd _ _ rfl, (State.record_within _ _ _ _).rd _ _ rfl, State.rd_wr_ne _ _ _ _ rfl, State.rd_wr_ne _ _ _ _ rfl]
  exact State.rd_wr_lt _ 0 (by decide)

theorem State.activateFull_secure (s : State) (a : Armed) : (s.activateFull a).secure.armed = none ∧
    (s.activateFull a).slotOf (a.slot == 1) =
      { s.slotOf (a.slot == 1) with state := 2, trials := 0, expired := false, active := some a.set, good := some a.set } := by
  have hslot := s.setSlot_slotOf_same (a.slot == 1)
    { s.slotOf (a.slot == 1) with state := 2, trials := 0, expired := false, active := some a.set, good := some a.set }
  unfold State.activateFull
  dsimp only
  rw [State.record_slotOf, State.record_secure]
  generalize s.setSlot _ _ = u at hslot ⊢
  generalize u.autoAgain = w
  exact ⟨rfl, hslot⟩

/-- Settles O39, by ACTIVATE_SET's checks in their order and what the tick makes of an armed set. -/
theorem setActivation : Obligations.SetActivation := by
  refine ⟨fun s s' r slot d bytes models shadowOk t c v hc hv hfw hgiven hs' hd ht => ?set, fun s a hfw ha => ⟨fun hearly => ?early,
    fun hdue hshadow => ⟨fun c hcause => ?cancels, fun hcause hfull => ?live, fun hcause hfull hleads => ?waits, fun hcause hfull hleads => ?full⟩⟩⟩
  case set =>
    subst hc hv
    have hused : s' = s.cryptoUsed := hs'
    have hrun := activateSet_activates bytes models shadowOk hfw hgiven hd
    rw [← hused, ← ht] at hrun
    have hframe : Frame [.secure] [] s s' := hused ▸ s.cryptoUsed_frame
    have hwithinUsed : Within [.secure] [] s s' := hused ▸ (Within.refl _ _ s).set_secure _ rfl
    have harmed' : s'.secure.armed = s.secure.armed := by rw [hs']
    have hset' : s'.secure.set = s.secure.set := by rw [hs']
    have hshadow' : s'.shadow_ = s.shadow_ := by rw [hs']; rfl
    have htick' : s'.tickOk t = s.tickOk t := by rw [hs']; rfl
    clear hs' hused
    refine ⟨fun hsh => ⟨s', hrun.trans (congrArg Host.Outcome.next (if_pos (hshadow'.trans hsh))), rfl⟩, fun hsh ht0 hnone => ?_,
      fun hsh ht0 hsome => ?_, fun hsh ht0 => ⟨fun hsome => ?_, fun hnone hp => ?_, fun m hnone hp => ⟨fun hunsigned => ?_, fun hsigned =>
        ⟨fun hcheck => ?_, fun hcheck => ⟨fun hguard => ?_, fun hguard hlive => ⟨fun htick => ?_, fun htick => ?_⟩, fun a hguard hlive ha hch => ?_⟩⟩⟩⟩⟩
    all_goals have hsh' := hshadow'.trans hsh
    · exact ⟨s', hrun.trans (congrArg Host.Outcome.next (State.activates_nothing_armed _ _ _ _ hsh' ht0 (harmed'.trans hnone))), rfl⟩
    · exact ⟨s'.disarmed, hrun.trans (congrArg Host.Outcome.next (State.activates_cancels _ _ _ _ hsh' ht0 (harmed' ▸ hsome))),
        (hframe.mono (by decide) (by simp)).trans s'.disarmed_frame, s'.disarmed_armed⟩
    · exact ⟨s', hrun.trans (congrArg Host.Outcome.next (State.activates_busy _ _ _ _ hsh' ht0 (harmed' ▸ hsome))), rfl⟩
    · exact ⟨s', hrun.trans (congrArg Host.Outcome.next (State.activates_unparsed _ _ _ hsh' ht0 (harmed'.trans hnone) hp)), rfl⟩
    all_goals
      have hman := hrun.trans (congrArg Host.Outcome.next (State.activates_manifest _ _ _ hsh' ht0 (harmed'.trans hnone) hp))
    · exact ⟨s', hman.trans (congrArg Host.Outcome.next (State.activateManifest_unsigned _ _ hunsigned)), rfl⟩
    · refine ⟨_, hman.trans (congrArg Host.Outcome.next (State.activateManifest_incompatible _ _ hsigned hcheck)), ?_, ?_⟩
      · exact (hframe.mono (by decide) (by simp)).wr _ _ _ (by simp)
      · exact State.rd_wr_same _ _ _ _
    all_goals have hchecked := hman.trans (congrArg Host.Outcome.next (State.activateManifest_checked _ _ hsigned hcheck))
    · exact ⟨s', hchecked.trans (congrArg Host.Outcome.next (State.activateChecked_guarded _ _ _ hguard)), rfl⟩
    · have harm := hchecked.trans (congrArg Host.Outcome.next (State.activateChecked_arms _ _ hguard (hset' ▸ hlive)))
      obtain ⟨hwithin, hsecure⟩ := State.arms_set_within (.ring r slot) m (!s'.isLive m) (htick'.trans htick)
      refine ⟨_, harm, (((Within.refl _ _ s).step hwithinUsed rfl).trans hwithin).touches rfl rfl, ?_⟩
      rw [hsecure]
      rfl
    · have harm := hchecked.trans (congrArg Host.Outcome.next (State.activateChecked_arms _ _ hguard (hset' ▸ hlive)))
      exact ⟨s', harm.trans (congrArg Host.Outcome.next (State.refuses_arming _ _ _ (htick'.trans htick))), rfl⟩
    · refine ⟨_, hchecked.trans (congrArg Host.Outcome.next (State.activateChecked_copies _ _ hguard hlive (hset'.trans ha) hch)), ?_, rfl, rfl,
        harmed'.trans hnone⟩
      exact ((hframe.mono (by decide) (by simp)).trans (s'.begin__frame r slot)).secure _ (by simp)
  case early => exact ⟨s, activationTick_early hfw ha hearly, rfl⟩
  all_goals have hrun := activationTick_activates hfw ha hdue hshadow
  case cancels =>
    refine ⟨_, hrun.trans (congrArg Host.Outcome.next (State.activation_cancels hcause)), (s.cancelArmed_within c).touches rfl rfl, ?_⟩
    rw [State.cancelArmed_secure]
    exact ⟨rfl, rfl⟩
  case live =>
    obtain ⟨harmed, hset⟩ := s.activateLive_secure a.set
    exact ⟨_, hrun.trans (congrArg Host.Outcome.next (State.activation_live hcause hfull)), (s.activateLive_within a.set).touches rfl rfl,
      harmed, hset, s.activateLive_pending a.set⟩
  case waits =>
    exact ⟨_, hrun.trans (congrArg Host.Outcome.next (State.activation_waits hcause hfull hleads)), (Frame.refl s _ _).secure _ (by simp), rfl⟩
  case full =>
    obtain ⟨harmed, hslot⟩ := s.activateFull_secure a
    refine ⟨_, hrun.trans (congrArg Host.Outcome.next (State.activation_full hcause hfull hleads)), (s.activateFull_within a).touches rfl rfl,
      harmed, ?_⟩
    rw [hslot]
    exact ⟨rfl, rfl, rfl⟩

end Sys2Proof.Machine
end

section
/-!
SUPPORT. Revocations, tokens, evidence and the owner lock (18, 19).
-/
namespace Sys2Proof.Machine

theorem State.cryptoUsed_within (s : State) : Within [.secure] [] s s.cryptoUsed := (Within.refl _ _ s).set_secure _ rfl

/-! ## REVOKE_KEY (R466 to R468) -/

/-- The fuse of key pair `pair` of a kind set. -/
def State.revokes (s : State) (kind pair : Nat) : State :=
  ({ s with secure := { s.secure with revoked := s.secure.revoked ||| 2 ^ (4 * kind + pair) } }).record Ev.UPD_KEY_REVOKED Src.security [kind, pair]

theorem State.revokes_within (s : State) (kind pair : Nat) : Within [.secure, .msix, .burrow] recCodes s (s.revokes kind pair) :=
  ((Within.refl _ _ s).set_secure _ rfl).step (State.record_within _ _ _ _) rfl

theorem State.revokes_revoked (s : State) (kind pair : Nat) : (s.revokes kind pair).secure.revoked = s.secure.revoked ||| 2 ^ (4 * kind + pair) := by
  rw [State.revokes, State.record_secure]

theorem revokeKey_judges {s : State} {r : Fin 32} {slot : BitVec 12} {d : Desc} (rv : Signed) (hfw : s.fwUp = true)
    (hgiven : s.given (.ring r slot) 0x0503 (fun _ => true) = true) (hd : s.descOf (.ring r slot) = some d) :
    exec (.revokeKey (.ring r slot) rv) s = .next (match s.cryptoUsed.revokeRefusal (descParam d 0x2C 1) (descParam d 0x2D 1) rv with
      | some e => s.cryptoUsed.finish (.ring r slot) e.1 e.2
      | none => (s.cryptoUsed.revokes (descParam d 0x2C 1) (descParam d 0x2D 1)).finish (.ring r slot) St.ok) := by
  refine (doIf_pos _ _ (by rw [hfw, hgiven]; rfl)).trans (congrArg Host.Outcome.next ?_)
  refine State.useCrypto_eq (g := fun u => match u.revokeRefusal (descParam d 0x2C 1) (descParam d 0x2D 1) rv with
    | some e => u.finish (.ring r slot) e.1 e.2
    | none => (u.revokes (descParam d 0x2C 1) (descParam d 0x2D 1)).finish (.ring r slot) St.ok) fun u hu => ?_
  have hdu : u.descOf (.ring r slot) = some d := by
    rw [hu]
    exact hd
  dsimp only
  rw [hdu]
  dsimp only
  cases u.revokeRefusal (descParam d 0x2C 1) (descParam d 0x2D 1) rv <;> rfl

/-! ## The challenge (R443) -/

/-- A challenge counted as drawn. -/
def State.drawn (s : State) : State := { s with secure := { s.secure with draws := s.secure.draws + 1, trngAt := s.bootUs } }

theorem State.drawChallenge_secure (s : State) : s.drawChallenge.secure = s.drawn.secure :=
  each_keeps (P := fun u : State => u.secure = s.drawn.secure) (fun _ _ h => h) (List.range 4) rfl

theorem State.drawChallenge_word (s : State) {k : Nat} (hk : k < 4) :
    s.drawChallenge.rd SEC_CHAL.word k = (Config.challenge s.drawChallenge.secure.draws k).toNat := by
  rw [State.drawChallenge_secure]
  refine each_sets (step := fun (i : Nat) (u : State) => u.wr SEC_CHAL.word i (Config.challenge u.secure.draws i).toNat)
    (P := fun u : State => u.secure.draws = s.drawn.secure.draws) (proj := fun u : State => u.rd SEC_CHAL.word k) (fun _ _ h => h)
    (fun u h => ?_) (fun i u hi => State.rd_wr_inst _ _ _ _ _ hi) (List.range 4) (List.mem_range.mpr hk) s.drawn rfl
  rw [h]
  exact State.rd_wr_lt _ _ (BitVec.isLt _)

/-! ## The rights of a token (R367, R444, R445, R469) -/

/-- What every right that is applied keeps, all of them keep. -/
theorem State.applyRights_preserves (P : State → Prop) (t : Token) (path : Nat) (l : List Nat)
    (h : ∀ k ∈ l, ∀ s u : State, s.applyRight t path k = some u → P s → P u) (s : State) (hs : P s) : P (s.applyRights t path l).1 := by
  induction l generalizing s with
  | nil => exact hs
  | cons k l ih =>
    unfold State.applyRights
    split
    · rename_i u hu
      exact ih (fun j hj => h j (List.mem_cons_of_mem _ hj)) u (h k List.mem_cons_self s u hu hs)
    · exact ih (fun j hj => h j (List.mem_cons_of_mem _ hj)) s hs

theorem State.ownerClear_secure (s : State) : s.ownerClear.secure = { s.secure with ownerLock := false } := by
  unfold State.ownerClear
  split
  · rw [State.record_secure]
  · rename_i h
    rw [← Bool.eq_false_iff.mpr h]

/-- The rights but the owner lock's leave the secure part. -/
theorem State.applyRight_secure {s u : State} {t : Token} {path k : Nat} (hk : k < 3) (h : s.applyRight t path k = some u) : u.secure = s.secure := by
  obtain _ | _ | _ | k := k
  · exact (State.debugUnlock_within s u path h).block .secure rfl
  · exact (State.feedClear_within s u 1 h).block .secure rfl
  · exact (State.defectShrink_within s u t h).block .secure rfl
  · omega

theorem State.applyRight_draws {s u : State} {t : Token} {path k : Nat} (h : s.applyRight t path k = some u) : u.secure.draws = s.secure.draws := by
  by_cases hk : k < 3
  · rw [State.applyRight_secure hk h]
  · obtain ⟨k, rfl⟩ := Nat.exists_eq_add_of_le' (Nat.le_of_not_lt hk)
    cases h
    rw [State.ownerClear_secure]

theorem State.applyRight_unlocked {s u : State} {t : Token} {path k : Nat} (h : s.applyRight t path k = some u)
    (hs : k = 3 ∨ s.secure.ownerLock = false) : u.secure.ownerLock = false := by
  by_cases hk : k < 3
  · rw [State.applyRight_secure hk h]
    exact hs.resolve_left (Nat.ne_of_lt hk)
  · obtain ⟨k, rfl⟩ := Nat.exists_eq_add_of_le' (Nat.le_of_not_lt hk)
    cases h
    rw [State.ownerClear_secure]

/-- The rights but the debug unlock leave debug_open. -/
theorem State.applyRight_debug_open {s u : State} {t : Token} {path k : Nat} (hk : k ≠ 0) (h : s.applyRight t path k = some u) :
    u.rd SEC_LOCK.debug_open 0 = s.rd SEC_LOCK.debug_open 0 := by
  obtain _ | _ | _ | k := k
  · exact absurd rfl hk
  · exact (State.feedClear_within s u 1 h).rd _ _ rfl
  · exact (State.defectShrink_within s u t h).rd _ _ rfl
  · cases h
    exact s.ownerClear_within.rd _ _ rfl

/-- The debug unlock is granted with every ward OFF or FAILED. -/
theorem State.debugUnlock_opens {s : State} (path : Nat) (h : ∀ w < 8, (s.ward w).state = 0 ∨ (s.ward w).state = 14) :
    ∃ u, s.debugUnlock path = some u ∧ u.rd SEC_LOCK.debug_open 0 = 1 := by
  refine ⟨_, if_pos ?_, State.rd_wr_lt _ 0 (by decide)⟩
  simpa using h

/-- The rights that `ask` names, in ascending order. -/
def rightsOf (ask : Nat) : List Nat := (List.range 4).filter ask.testBit

theorem mem_rightsOf {ask k : Nat} : k ∈ rightsOf ask ↔ k < 4 ∧ ask.testBit k = true := by
  rw [rightsOf, List.mem_filter, List.mem_range]

theorem State.applyRights_draws (s : State) (t : Token) (path : Nat) (l : List Nat) : (s.applyRights t path l).1.secure.draws = s.secure.draws :=
  State.applyRights_preserves (·.secure.draws = s.secure.draws) t path l (fun _ _ _ _ hu hv => (State.applyRight_draws hu).trans hv) s rfl

theorem State.applyRights_unlocked (t : Token) (path : Nat) {l : List Nat} (h : 3 ∈ l) (s : State) :
    (s.applyRights t path l).1.secure.ownerLock = false := by
  induction l generalizing s with
  | nil => cases h
  | cons k l ih =>
    by_cases hl : 3 ∈ l
    · unfold State.applyRights
      split
      · exact ih hl _
      · exact ih hl _
    · obtain rfl := (List.mem_cons.mp h).resolve_right hl
      exact State.applyRights_preserves (·.secure.ownerLock = false) t path l (fun _ _ _ _ hu hv => State.applyRight_unlocked hu (Or.inr hv))
        s.ownerClear (by rw [State.ownerClear_secure])

theorem State.applyRights_debug_kept (t : Token) (path : Nat) {l : List Nat} (h : 0 ∉ l) (s : State) :
    (s.applyRights t path l).1.rd SEC_LOCK.debug_open 0 = s.rd SEC_LOCK.debug_open 0 :=
  State.applyRights_preserves (fun u => u.rd SEC_LOCK.debug_open 0 = s.rd SEC_LOCK.debug_open 0) t path l
    (fun _ hk _ _ hu hv => (State.applyRight_debug_open (fun h0 => h (h0 ▸ hk)) hu).trans hv) s rfl

/-- The debug unlock comes first. -/
theorem rightsOf_debug {ask : Nat} (h : ask.testBit 0 = true) : rightsOf ask = 0 :: [1, 2, 3].filter ask.testBit := List.filter_cons_of_pos h

theorem State.applyRights_debug_open {s : State} (t : Token) (path : Nat) {ask : Nat} (h : ask.testBit 0 = true)
    (hwards : ∀ w < 8, (s.ward w).state = 0 ∨ (s.ward w).state = 14) :
    (s.applyRights t path (rightsOf ask)).1.rd SEC_LOCK.debug_open 0 = 1 := by
  obtain ⟨u, hu, hopen⟩ := State.debugUnlock_opens path hwards
  rw [rightsOf_debug h, State.applyRights, show s.applyRight t path 0 = some u from hu]
  exact (State.applyRights_debug_kept t path (by simp) u).trans hopen

/-! ## A token used (R444) -/

/-- The rights applied and the token recorded. -/
def State.tokenRecorded (s : State) (t : Token) (path ask : Nat) : State :=
  (s.applyRights t path (rightsOf ask)).1.record Ev.IMG_TOKEN Src.security [t.keySlot, t.rights, (s.applyRights t path (rightsOf ask)).2]

theorem State.useToken_state (s : State) (t : Token) (path ask : Nat) : (s.useToken t path ask).1 = (s.tokenRecorded t path ask).drawChallenge := rfl

section
variable (s : State) (t : Token) (path ask : Nat)

theorem State.useToken_secure :
    (s.useToken t path ask).1.secure = { (s.applyRights t path (rightsOf ask)).1.secure with
      draws := s.secure.draws + 1, trngAt := (s.tokenRecorded t path ask).bootUs } := by
  rw [State.useToken_state, State.drawChallenge_secure, State.drawn, State.tokenRecorded, State.record_secure, State.applyRights_draws]

theorem State.useToken_debug_open :
    (s.useToken t path ask).1.rd SEC_LOCK.debug_open 0 = (s.applyRights t path (rightsOf ask)).1.rd SEC_LOCK.debug_open 0 := by
  rw [State.useToken_state, (State.drawChallenge_within _).rd _ _ rfl]
  exact (State.record_within _ _ _ _).rd _ _ rfl

end

/-- By the TAP only the debug unlock is used. -/
theorem mem_rightsOf_tap {ask k : Nat} (h : k ∈ rightsOf (ask % 2)) : k = 0 := by
  have hbit := (mem_rightsOf.mp h).2
  rw [show (2 : Nat) = 2 ^ 1 from rfl, Nat.testBit_mod_two_pow] at hbit
  simp at hbit
  exact hbit.1

theorem State.tapToken_within (s : State) (t : Token) (ask : Nat) :
    Within [.ports, .wards, .secure, .msix, .burrow] (6042 :: 8646 :: 8768 :: recCodes) s (s.useToken t 1 (ask % 2)).1 := by
  have hrights : Within [.ports, .wards, .secure, .msix, .burrow] (6042 :: 8646 :: 8768 :: recCodes) s
      (s.applyRights t 1 (rightsOf (ask % 2))).1 :=
    State.applyRights_preserves (Within [.ports, .wards, .secure, .msix, .burrow] (6042 :: 8646 :: 8768 :: recCodes) s) t 1 _
      (fun k hk u v hv hu => hu.step (State.debugUnlock_within u v 1 (by rw [mem_rightsOf_tap hk] at hv; exact hv)) rfl) s (Within.refl _ _ s)
  exact (hrights.step (State.record_within _ _ _ _) rfl).step (State.drawChallenge_within _) rfl

theorem State.tapToken_owner (s : State) (t : Token) (ask : Nat) : (s.useToken t 1 (ask % 2)).1.secure.ownerLock = s.secure.ownerLock := by
  have hrights : (s.applyRights t 1 (rightsOf (ask % 2))).1.secure = s.secure :=
    State.applyRights_preserves (·.secure = s.secure) t 1 _
      (fun k hk _ _ hv hu => (State.applyRight_secure (by rw [mem_rightsOf_tap hk]; decide) hv).trans hu) s rfl
  rw [State.useToken_secure, hrights]

/-! ## The descriptors and the TAP -/

theorem tokenSubmit_judges {s : State} {r : Fin 32} {slot : BitVec 12} (b : Signed) (hfw : s.fwUp = true)
    (hgiven : s.given (.ring r slot) 0x0504 (fun _ => true) = true) :
    exec (.tokenSubmit (.ring r slot) b) s = .next (match s.cryptoUsed.tokenCheck b with
      | .inr c => s.cryptoUsed.finish (.ring r slot) c (if c = St.badDescriptor then 8 else 0)
      | .inl t => (s.cryptoUsed.useToken t 0 t.rights).1.finish (.ring r slot)
          (if (s.cryptoUsed.useToken t 0 t.rights).2 = t.rights then St.ok else St.refusedState) 0 (s.cryptoUsed.useToken t 0 t.rights).2 true) := by
  refine (doIf_pos _ _ (by rw [hfw, hgiven]; rfl)).trans (congrArg Host.Outcome.next ?_)
  change (match s.cryptoUsed.tokenCheck b with | .inr _ => _ | .inl _ => _) = _
  cases s.cryptoUsed.tokenCheck b <;> rfl

theorem tapToken_judges {s : State} (b : Signed) (hal : s.alive = true) (hstage : 2 ≤ s.part.stage) :
    exec (.tapToken b) s = .next (match s.cryptoUsed.tokenCheck b with
      | .inr _ => s.cryptoUsed
      | .inl t => (s.cryptoUsed.useToken t 1 (t.rights % 2)).1) := by
  refine (doIf_pos _ _ (by simp [hal, hstage])).trans (congrArg Host.Outcome.next ?_)
  change (match s.cryptoUsed.tokenCheck b with | .inl _ => _ | .inr _ => _) = _
  cases s.cryptoUsed.tokenCheck b <;> rfl

theorem ownerLockClear_judges {s : State} {r : Fin 32} {slot : BitVec 12} (b : Signed) (hfw : s.fwUp = true)
    (hgiven : s.given (.ring r slot) 0x0506 (fun d => descParam d 0x2C 1 == 0) = true) :
    exec (.ownerLockClear (.ring r slot) b) s = .next (match s.cryptoUsed.tokenCheck b with
      | .inr c => s.cryptoUsed.finish (.ring r slot) c (if c = St.badDescriptor then 8 else 0)
      | .inl t => if t.rights.testBit 3 then s.cryptoUsed.ownerClear.drawChallenge.finish (.ring r slot) St.ok
          else s.cryptoUsed.finish (.ring r slot) St.refusedState) := by
  refine (doIf_pos _ _ (by rw [hfw, hgiven]; rfl)).trans (congrArg Host.Outcome.next ?_)
  change (match s.cryptoUsed.tokenCheck b with | .inr _ => _ | .inl _ => _) = _
  cases s.cryptoUsed.tokenCheck b <;> rfl

/-! ## Evidence (R442) -/

/-- A report written to the buffer. -/
def State.reported (s : State) (d : Desc) (report : List Byte) : State := { s with host := { s.host with written := (d.addr0.toNat, report) } }

theorem State.reported_frame (s : State) (d : Desc) (report : List Byte) : Frame [.hostRest, .secure] [] s (s.cryptoUsed.reported d report) :=
  (s.cryptoUsed_frame.mono (by decide) (by simp)).upd (fun b hb => by cases b <;> simp_all [Block.same, State.reported]) rfl

theorem State.evidence_cryptoUsed (s : State) (nonce : Nat) : s.cryptoUsed.evidence nonce = s.evidence nonce := rfl

theorem State.certificate_cryptoUsed (s : State) (rest : List Byte) : s.cryptoUsed.certificate rest = s.certificate rest := rfl

theorem evidenceReport_reports {s : State} {r : Fin 32} {slot : BitVec 12} {d : Desc} (signed : List Byte) (hfw : s.fwUp = true)
    (hgiven : s.given (.ring r slot) 0x0505 (fun _ => true) = true) (hd : s.descOf (.ring r slot) = some d) :
    exec (.evidenceReport (.ring r slot) signed) s = .next (if s.bit SEC_LOCK.debug_open 0 then s.cryptoUsed.finish (.ring r slot) St.refusedState
      else (s.cryptoUsed.reported d (if descParam d 0x2C 16 = 0 then s.cryptoUsed.certificate signed
        else s.cryptoUsed.evidence (descParam d 0x2C 16) ++ signed.take 3373)).finish (.ring r slot) St.ok 0
          (if descParam d 0x2C 16 = 0 then 5421 else 3629) true) := by
  refine (doIf_pos _ _ (by rw [hfw, hgiven]; rfl)).trans (congrArg Host.Outcome.next ?_)
  change (match s.cryptoUsed.descOf (.ring r slot) with | none => _ | some d => _) = _
  rw [show s.cryptoUsed.descOf (.ring r slot) = some d from hd]
  rfl

/-! ## The owner lock set (R469) -/

/-- The owner lock set and recorded. -/
def State.ownerLocked (s : State) : State :=
  if s.secure.ownerLock then s else ({ s with secure := { s.secure with ownerLock := true } }).record Ev.UPD_OWNER_LOCK Src.security [1]

theorem State.ownerLocked_within (s : State) : Within [.secure, .msix, .burrow] recCodes s s.ownerLocked :=
  Within.ite (Within.refl _ _ s) (((Within.refl _ _ s).set_secure _ rfl).step (State.record_within _ _ _ _) rfl)

theorem State.ownerLocked_locked (s : State) : s.ownerLocked.secure.ownerLock = true := by
  unfold State.ownerLocked
  split
  · assumption
  · rw [State.record_secure]

theorem ownerLockSet_sets {s : State} {r : Fin 32} {slot : BitVec 12} (hfw : s.fwUp = true)
    (hgiven : s.given (.ring r slot) 0x0506 (fun d => descParam d 0x2C 1 == 1) = true) :
    exec (.ownerLockSet (.ring r slot)) s = .next (if s.secure.armed.isSome || s.secure.slotA.state == 2 || s.secure.slotB.state == 2 then
      s.finish (.ring r slot) St.refusedState else s.ownerLocked.finish (.ring r slot) St.ok) := by
  refine (doIf_pos _ _ (by rw [hfw, Bool.and_true]; exact hgiven)).trans (congrArg Host.Outcome.next (ite_congr rfl (fun _ => rfl) fun _ => ?_))
  unfold State.ownerLocked
  cases s.secure.ownerLock <;> rfl

/-- Settles O40, by what each descriptor and the TAP do with a check's outcome. -/
theorem tokensAndKeys : Obligations.TokensAndKeys := by
  refine ⟨fun s s' r slot d rv hfw hs' hgiven hd => ?revoke, fun s s' r slot b hfw hs' hgiven => ?submit, fun s s' b hal hstage hs' => ?tap,
    fun s s' r slot d signed hfw hs' hgiven hd => ?evidence, fun s s' r slot b hfw hs' => ⟨fun hgiven => ?lock, fun hgiven => ?unlock⟩⟩
  case revoke =>
    obtain rfl : s' = s.cryptoUsed := hs'
    have hrun := revokeKey_judges rv hfw hgiven hd
    refine ⟨fun c n hc => ⟨s.cryptoUsed, ?_, rfl⟩, fun hc => ⟨s.cryptoUsed.revokes (descParam d 0x2C 1) (descParam d 0x2D 1), ?_, ?_,
      State.revokes_revoked _ _ _⟩⟩
    · rw [hrun, hc]
    · rw [hrun, hc]
    · exact (((Within.refl _ _ s).step s.cryptoUsed_within rfl).trans (State.revokes_within _ _ _)).touches rfl rfl
  case submit =>
    obtain rfl : s' = s.cryptoUsed := hs'
    have hrun := tokenSubmit_judges b hfw hgiven
    refine ⟨fun c hc => ⟨s.cryptoUsed, by rw [hrun, hc], rfl⟩, fun t ht => ⟨(s.cryptoUsed.useToken t 0 t.rights).1, by rw [hrun, ht], ?_, fun k hk => ?_,
      fun hclear => ?_, fun hdebug hwards => ?_, fun hdebug => ?_⟩⟩
    · rw [State.useToken_secure]
      rfl
    · exact State.drawChallenge_word _ hk
    · rw [State.useToken_secure]
      exact State.applyRights_unlocked t 0 (mem_rightsOf.mpr ⟨by decide, hclear⟩) _
    · rw [State.useToken_debug_open]
      exact State.applyRights_debug_open t 0 hdebug hwards
    · rw [State.useToken_debug_open]
      refine State.applyRights_debug_kept t 0 (fun h => ?_) _
      exact Bool.false_ne_true (hdebug.symm.trans (mem_rightsOf.mp h).2)
  case tap =>
    obtain rfl : s' = s.cryptoUsed := hs'
    have hrun := tapToken_judges b hal hstage
    refine ⟨fun t ht => ⟨_, by rw [hrun, ht], ?_, ?_, ?_⟩, fun c hc => ⟨s.cryptoUsed, by rw [hrun, hc], rfl⟩⟩
    · exact (((Within.refl _ _ s).step s.cryptoUsed_within rfl).trans (State.tapToken_within _ t t.rights)).touches rfl rfl
    · rw [State.useToken_secure]
      rfl
    · exact State.tapToken_owner _ t t.rights
  case evidence =>
    obtain rfl : s' = s.cryptoUsed := hs'
    have hrun := evidenceReport_reports signed hfw hgiven hd
    refine ⟨fun hopen => ⟨s.cryptoUsed, by rw [hrun, if_pos hopen], rfl⟩, fun hshut hnonce =>
      ⟨s.cryptoUsed.reported d (s.cryptoUsed.evidence (descParam d 0x2C 16) ++ signed.take 3373), ?_, s.reported_frame d _, ?_⟩,
      fun hshut hnonce => ⟨s.cryptoUsed.reported d (s.cryptoUsed.certificate signed), ?_, s.reported_frame d _, ?_⟩⟩
    · rw [hrun, if_neg (by rw [hshut]; decide), if_neg hnonce, if_neg hnonce]
    · rw [State.reported, State.evidence_cryptoUsed]
    · rw [hrun, if_neg (by rw [hshut]; decide), if_pos hnonce, if_pos hnonce]
    · rw [State.reported, State.certificate_cryptoUsed]
  case lock =>
    have hrun := ownerLockSet_sets hfw hgiven
    refine ⟨fun hbusy => ⟨s, hrun.trans (congrArg Host.Outcome.next (if_pos ?_)), rfl⟩, fun harmed ha hb =>
      ⟨s.ownerLocked, hrun.trans (congrArg Host.Outcome.next (if_neg ?_)), s.ownerLocked_within.touches rfl rfl, s.ownerLocked_locked⟩⟩
    · rcases hbusy with h | h | h
      · simp [Option.isSome_iff_ne_none.mpr h]
      · simp [h]
      · simp [h]
    · simp [harmed, ha, hb]
  case unlock =>
    obtain rfl : s' = s.cryptoUsed := hs'
    have hrun := ownerLockClear_judges b hfw hgiven
    refine ⟨fun c hc => ⟨s.cryptoUsed, by rw [hrun, hc], rfl⟩, fun t ht => ⟨fun hright =>
      ⟨s.cryptoUsed.ownerClear.drawChallenge, ?_, ?_, ?_⟩, fun hright => ⟨s.cryptoUsed, ?_, rfl⟩⟩⟩
    · rw [hrun, ht]
      exact congrArg Host.Outcome.next (if_pos hright)
    · have hwithin : Within [.secure, .msix, .burrow] (8768 :: recCodes) s s.cryptoUsed.ownerClear.drawChallenge :=
        (((Within.refl _ _ s).step s.cryptoUsed_within rfl).step (State.ownerClear_within _) rfl).step (State.drawChallenge_within _) rfl
      exact hwithin.touches rfl rfl
    · rw [State.drawChallenge_secure, State.drawn, State.ownerClear_secure]
      exact ⟨rfl, rfl⟩
    · rw [hrun, ht]
      exact congrArg Host.Outcome.next (if_neg (by rw [hright]; decide))

end Sys2Proof.Machine
end
